-- ==== Sys2Proof/Word.lean ====
section
/-!
DEFINITION. The word types of the block and their plainest arithmetic.
-/

namespace Sys2Proof

/-- A register word (R7: registers are 32 bits wide). -/
abbrev Word := BitVec 32

/-- A byte of a memory. -/
abbrev Byte := BitVec 8

/-- A 64-bit pattern: a binary64 value or a 64-bit header word. -/
abbrev Dword := BitVec 64

end Sys2Proof
end

