-- ==== Sys2Proof/Types.lean ====
section
/-!
DEFINITION. The names and records that commands carry as operands: domains, initiators, frames and messages as the
ports, buses and pins deliver them.
-/

namespace Sys2Proof

/-- The two switch planes. -/
inductive Plane where
  | a | b
  deriving DecidableEq, Repr

/-- The two processing lanes. -/
inductive Lane where
  | l0 | l1
  deriving DecidableEq, Repr

/-- The other plane. -/
def Plane.other : Plane → Plane
  | .a => .b
  | .b => .a

/-- The other lane. -/
def Lane.other : Lane → Lane
  | .l0 => .l1
  | .l1 => .l0

/-- 0 for Plane A, 1 for Plane B. -/
def Plane.idx : Plane → Nat
  | .a => 0
  | .b => 1

/-- The lane number. -/
def Lane.idx : Lane → Nat
  | .l0 => 0
  | .l1 => 1

/-- The plane of a number. -/
def Plane.ofIdx (n : Nat) : Plane := if n % 2 = 0 then .a else .b

/-- The lane of a number. -/
def Lane.ofIdx (n : Nat) : Lane := if n % 2 = 0 then .l0 else .l1

/-- The six fault-and-power domains (Table 1.1). -/
inductive Dom where
  | plane (p : Plane)
  | lane (l : Lane)
  | common
  | inkwell
  deriving DecidableEq, Repr

/-- Who starts a register access: the steward, JTAG, the manager on a lane's cores, or an instance through its window. -/
inductive Initiator where
  | steward
  | jtag
  | manager (l : Lane)
  | guest (l : Lane) (n : Nat)
  deriving DecidableEq, Repr

/-- The targets of paired writes (R37). -/
inductive PairTarget where
  | planeA | planeB | common
  deriving DecidableEq, Repr

/-- An Ethernet frame as octets from the destination address to the last byte before the FCS. -/
structure Frame where
  octets : List Byte
  deriving DecidableEq, Repr

/-- How a received frame ended on the line (R94 to R96): its last four bytes as they came, the first in the low byte; whether the
PCS found a code error in it; and the RS-FEC codewords since the frame before: corrected, uncorrectable in this frame, and
uncorrectable outside any frame. -/
structure RxEnd where
  fcs : BitVec 32
  code : Bool
  fecCorr : Nat
  fecUncorr : Nat
  fecIdle : Nat
  deriving DecidableEq, Repr

/-- The dataset of an Announce message (IEEE 1588-2019 clause 9.3), with the fields TIM_DOMn_STATUS shows. -/
structure Announce where
  domain : Nat
  srcPort : Nat          -- sourcePortIdentity, 80 bits
  prio1 : Nat
  clockClass : Nat
  accuracy : Nat
  variance : Nat
  prio2 : Nat
  gm : Nat               -- grandmaster clockIdentity, 64 bits
  stepsRemoved : Nat
  logInterval : Int
  utcOffset : Nat
  leap61 : Bool
  leap59 : Bool
  c37238 : Bool
  deriving DecidableEq, Repr

/-- A Sync, Follow_Up or Pdelay message: domain, source port identity, sequenceId, correctionField (2⁻¹⁶ ns) and the
timestamp it carries (2⁻¹⁶ ns), with the requesting port identity of a Pdelay response. -/
structure PtpMsg where
  domain : Nat
  srcPort : Nat
  reqPort : Nat
  seqId : Nat
  logInterval : Int
  twoStep : Bool
  corr : Int
  time : Nat
  deriving DecidableEq, Repr

/-- An IEC 62351-6 extension as received: its key identifier, its tag, and the octets the tag covers. -/
structure AuthExt where
  keyId : Nat
  tag : List Byte
  span : List Byte
  deriving DecidableEq, Repr

/-- One ASDU of a sampled-value frame (Table 6.1): svID, smpCnt, confRev, smpSynch, the optional smpMod and smpRate, and each channel as
value and quality. -/
structure SvAsdu where
  svId : List Byte
  smpCnt : Nat
  confRev : Nat
  smpSynch : Nat
  smpMod : Option Nat
  smpRate : Option Nat
  data : List (Nat × Nat)
  deriving DecidableEq, Repr

/-- A sampled-value frame as the lane port delivers it, its fields read out of the octets (Table 6.1): EtherType,
destination, VID, APPID, the simulate bit, whether the octets parse, the ASDUs, their octets, the octets from APPID up to the
seal's place, the 16 octets there if present, and the extension. A frame of another EtherType carries only that. -/
structure SvMsg where
  etype : Nat
  dmac : Nat
  vid : Nat
  appid : Nat
  sim : Bool
  wellFormed : Bool
  asdus : List SvAsdu
  asduOct : List Byte
  body : List Byte
  trailer : Option (List Byte)
  auth : Option AuthExt
  deriving DecidableEq, Repr

/-- An ASN.1 BER element: the number that its tag octets spell, and its content octets. -/
structure BerElem where
  tag : Nat
  content : List Byte
  deriving DecidableEq, Repr

/-- A GOOSE frame as the lane port delivers it (Table 10.5): destination, VID (0 untagged), the octets from the first octet of
APPID to the last octet of the APDU, the octets up to the seal's place, the 16 octets there if present, and the IEC 62351-6
extension if one stands behind the APDU. -/
structure GooseMsg where
  dmac : Nat
  vid : Nat
  oct : List Byte
  body : List Byte
  trailer : Option (List Byte)
  auth : Option AuthExt
  deriving DecidableEq, Repr

/-- What a GOOSE APDU carries (Table 10.5): timeAllowedtoLive in ms, the seconds of t, stNum, sqNum, simulation, confRev, ndsCom,
numDatSetEntries and the elements of allData. -/
structure GoosePdu where
  tal : Nat
  tSec : Nat
  st : Nat
  sq : Nat
  sim : Bool
  confRev : Nat
  ndsCom : Bool
  entries : Nat
  elems : List BerElem
  deriving DecidableEq, Repr

/-- The instructions of a Scribe program (Table 11.5). -/
inductive SOp where
  | nop_ | ld_ | ldn_ | and_ | andn_ | or_ | orn_ | xor_ | xorn_ | push_ | popand_ | popor_ | popxor_ | not_
  | st_ | stn_ | s_ | rst_ | edger_ | edgef_ | ton_ | tof_ | tp_ | ctu_ | ctd_ | crst_ | cld_ | ldw_ | stw_
  | ldi_ | lui_ | add_ | sub_ | andw_ | orw_ | xorw_ | cmpeq_ | cmpgt_ | cmplt_ | fcmpgt_ | fcmplt_ | setq_
  | qmax_ | jmp_ | jmpc_ | jmpcn_ | end_
  deriving DecidableEq, Repr

/-- The operand formats of Scribe words (Table 11.3). -/
inductive SFmt where
  | z | b | w | m | n | e | j | i26 | i16
  deriving DecidableEq, Repr

/-- A Scribe instruction: its operation, its area in formats B and W, and its address, number, entry or immediate as the
field's bits. -/
structure SIns where
  op : SOp
  area : Nat
  arg : Nat
  deriving DecidableEq, Repr

/-- A CAN data or remote frame: identifier, formats, data. -/
structure CanFrame where
  id : Nat
  ide : Bool
  fd : Bool
  brs : Bool
  esi : Bool
  rtr : Bool
  data : List Byte
  deriving DecidableEq, Repr

/-- How a transmit attempt ends (R371, R372): sent, arbitration lost, an error frame, an acknowledgement error, or a bit
error after arbitration was won. -/
inductive CanTxEnd where
  | sent | lost | error | noAck | clash
  deriving DecidableEq, Repr

/-- What reading a storage protected by ECC meets (R434): no error, a single-bit error, which is corrected in place, or an
uncorrectable one. -/
inductive Ecc where
  | clean | corrected | uncorrectable
  deriving DecidableEq, Repr

/-- The pins of the voltage banks A to F (PWR_BANK_STATUS bits 0 to 5). -/
abbrev BankIdx := Fin 6

end Sys2Proof
end

