-- ==== Sys2Proof/Syntax.lean ====
section
/-!
DEFINITION. The commands of the block, one constructor per row of spec/opcode_table.json, in the table's order. A
command names the unit it acts on and carries what arrives from outside with it: a bus access, a message, a frame, a
pin level, a mailbox argument. A row that is a moment of the block's own clocks carries only the unit it concerns.
-/

namespace Sys2Proof

/-- The commands. -/
inductive Instr where
  /-- REGISTER_WRITE (R8): A write to a register that has no row of its own stores or triggers per its access code. -/
  | registerWrite (init : Initiator) (addr size : Nat) (data : Word)
  /-- RC_FIELD_READ (R10): A read of an RC field returns its value and clears it, keeping any same-cycle event. -/
  | rcFieldRead (init : Initiator) (addr size : Nat)
  /-- TIM_NOW_READ (R65): A read of TIM_NOW_W0 returns the plane clock low word and latches W1 and W2. -/
  | timNowRead (p : Plane)
  /-- FENCE_WORD_CROSSING (R13): A word crosses a boundary fence and is parity-checked on the receiving side. -/
  | fenceWordCrossing (tx rx : Dom) (parityOk corr : Bool)
  /-- PAIRED_WRITE (R37): An application-core write to Common or a plane enters its lane's pairing queue. -/
  | pairedWrite (l : Lane) (addr : Nat) (data : Word)
  /-- PAIR_TIMEOUT (R38): A head waiting 1.0 ms without partner while the other lane is UP is discarded and TIMEOUT set. -/
  | pairTimeout (t : PairTarget) (l : Lane)
  /-- BROADCAST_WRITE (R41): A steward or JTAG write to the broadcast or an instance window reaches every UP lane. -/
  | broadcastWrite (jtag : Bool) (addr : Nat) (data : Word)
  /-- BROADCAST_READ (R41): A steward or JTAG window read returns a lane's value, comparing both lanes when both are UP. -/
  | broadcastRead (jtag : Bool) (addr : Nat)
  /-- EVENT_RECORD_WRITE (R386): An event record reaching the Inkwell interface is rate-limited and written to the ring. -/
  | eventRecordWrite (src code time : Nat) (payload : List Nat)
  /-- EVENT_QUEUE_DRAIN (R30): Records queued while Common or Inkwell was lost are written in order once both are back. -/
  | eventQueueDrain (d : Dom)
  /-- PORST_N_ASSERT (R31): PORST_N low resets every domain except Inkwell. -/
  | porstNAssert
  /-- PORST_N_RELEASE (R415): Release of PORST_N starts the boot logic and takes every domain but Inkwell out of reset. -/
  | porstNRelease (ue : Fin 4)
  /-- WARMRST_N (R418): WARMRST_N low for at least 1 µs restarts Common only. -/
  | warmrstN (n : Nat)
  /-- FIRMWARE_VERIFY (R398): The fetched firmware bank is verified under the factory root before the steward starts. -/
  | firmwareVerify
  /-- STEWARD_START (R51): The steward starts, reads bank descriptors, handles trials and loads the active image. -/
  | stewardStart (corr : Option Dom)
  /-- EPS_ARM (R421): The EPS arms: planes set ports and stream entries and lanes load elements. -/
  | epsArm (l : Lane)
  /-- EPS_ELEMENT_FIRING (R422): An EPS element runs INST on a Speedwell value and updates its pin drive. -/
  | epsElementFiring (l : Lane) (e : Fin 64)
  /-- HANDOVER (R424): At the first qualifying grid instant the lane hands pins over from the EPS. -/
  | handover (l : Lane)
  /-- EMERGENCY_ROLL_IN (R437): A rolled-out lane becomes present when the only present lane is isolated. -/
  | emergencyRollIn (l : Lane)
  /-- DOMAIN_ISOLATE (R436): A fatal cause isolates the domain within 1.0 µs and stops its islands. -/
  | domainIsolate (d : Dom) (cause : Fin 10) (detail addr : Nat)
  /-- ISOLATE (R436): BLT_CTRL.ISOLATE isolates a plane or lane with cause COMMAND unless it would leave none UP. -/
  | isolate (mask : Fin 16)
  /-- BLT_RESTART (R438): BLT_CTRL.RESTART releases a held, captured domain and clears LIMITED. -/
  | bltRestart (mask : Fin 16)
  /-- DUMP_CAPTURE_END (R438): Capture of an isolated domain ends and the domain is released or held. -/
  | dumpCaptureEnd
  /-- HOLD_MAX_EXPIRE (R438): A domain waiting HOLD_MAX without capture is released without a dump. -/
  | holdMaxExpire (d : Dom)
  /-- DUMP_WRITTEN (R441): The dump buffer's write to a flash Blotter slot completes. -/
  | dumpWritten
  /-- COMMON_RESTART (R439): The boot logic restarts Common 1 ms after isolation and writes a RETAINED dump. -/
  | commonRestart
  /-- DOMAIN_UP (R439): A restarting domain becomes UP and takes its plane or lane path. -/
  | domainUp (d : Dom)
  /-- CORE_READ_UNCORRECTABLE (R434): An uncorrectable lane memory read by a core gives a data abort and counts BLT_UNC. -/
  | coreReadUncorrectable (l : Lane) (addr : Nat) (corr : Bool)
  /-- VIO_BANK_LOW (R453): A bank below 1.7 V tristates outputs, reads inputs 0 and sets LOW. -/
  | vioBankLow (b : Fin 6)
  /-- VIO_BANK_RESTORE (R453): A bank back in range restores driven values within 10 µs. -/
  | vioBankRestore (b : Fin 6)
  /-- TEMP_ALARM (R460): A sensor reaching LIMIT sets ALARM and records an event. -/
  | tempAlarm (k : Fin 5) (temp : BitVec 16)
  /-- PING (R62): Returns the steward firmware version. -/
  | ping (ch : Fin 2) (tag : BitVec 16)
  /-- GET_INFO (R62): Returns active IMAGE_ID, SEC_VERSION, firmware version and STW_BANK. -/
  | getInfo (ch : Fin 2) (tag : BitVec 16)
  /-- FLASH_ERASE_BANK (R62): Erases a firmware or image bank on both devices unless active or fallback. -/
  | flashEraseBank (ch : Fin 2) (tag : BitVec 16) (w b : Word)
  /-- FLASH_WRITE (R62): Writes lane memory into a flash bank on both devices after comparing lane copies. -/
  | flashWrite (ch : Fin 2) (tag : BitVec 16) (w b off : Word) (addr : BitVec 64) (len : Word)
  /-- FLASH_VERIFY_BANK (R62): Verifies a bank under the image checks or firmware verification. -/
  | flashVerifyBank (ch : Fin 2) (tag : BitVec 16) (w b : Word)
  /-- BANK_SELECT (R62): Puts a verified bank on trial. -/
  | bankSelect (ch : Fin 2) (tag : BitVec 16) (w b : Word)
  /-- BANK_CONFIRM (R52): Clears the trial flag and counter of a bank. -/
  | bankConfirm (ch : Fin 2) (tag : BitVec 16) (w : Word)
  /-- IMAGE_STAGE (R49): Fetches, checks and streams an image into shadow banks. -/
  | imageStage (ch : Fin 2) (tag : BitVec 16) (from_ : Word) (addr : BitVec 64) (len : Word)
  /-- REGION_COMMIT (R55): Replays a target's change log into its shadow bank and commits the staged regions. -/
  | regionCommit (ch : Fin 2) (tag : BitVec 16) (target : Word)
  /-- REGION_BANK_SWITCH (R47): At the next frame or grid boundary the blocks switch to their committed banks. -/
  | regionBankSwitch (target : Fin 4)
  /-- LANE_ROLL_OUT (R63): Rolls a lane out of the merge and voters. -/
  | laneRollOut (ch : Fin 2) (tag : BitVec 16) (lane : Word)
  /-- LANE_CONVERGE (R63): Compares a rolled-out lane's publications and trip drives with the running lane. -/
  | laneConverge (ch : Fin 2) (tag : BitVec 16) (lane instants limit : Word)
  /-- LANE_ROLL_IN (R63): Requests that a rolled-out lane rejoin at the next grid instant. -/
  | laneRollIn (ch : Fin 2) (tag : BitVec 16) (lane : Word)
  /-- LANE_ROLL_IN_EFFECT (R63): At the next grid instant the lane becomes present. -/
  | laneRollInEffect (l : Lane)
  /-- STAGE_DISCARD (R54): Discards the staged image and returns the loader to IDLE. -/
  | stageDiscard (ch : Fin 2) (tag : BitVec 16)
  /-- DUMP_READ (R442): Copies the valid dump with the lowest SEQ to lane memory. -/
  | dumpRead (ch : Fin 2) (tag : BitVec 16) (addr : BitVec 64) (max : Word)
  /-- DUMP_CLEAR (R442): Erases the lowest-SEQ dump slot on both devices. -/
  | dumpClear (ch : Fin 2) (tag : BitVec 16)
  /-- MAILBOX_BADCMD (R62): An unknown opcode completes with BADCMD. -/
  | mailboxBadcmd (ch : Fin 2) (tag : BitVec 16) (op : BitVec 8)
  /-- CANCEL (R59): STW_CANCEL stops a cancellable running command at its next boundary. -/
  | mailboxCancel (ch : Fin 2)
  /-- MAILBOX_COMPLETE (R58): A running command completes: results, TAG, CODE, DONE and interrupt. -/
  | mailboxComplete (ch : Fin 2)
  /-- ANNOUNCE_RECEIVED (R77): An Announce updates the slot's grandmaster data and class state. -/
  | announceReceived (p : Plane) (port : Fin 11) (stamp : Nat) (m : Announce)
  /-- SYNC_RECEIVED (R77): A Sync yields an offset measurement for the domain slot. -/
  | syncReceived (p : Plane) (port : Fin 11) (stamp : Nat) (m : PtpMsg)
  /-- FOLLOW_UP_RECEIVED (R79): A Follow_Up completes two-step timing or takes its residence correction. -/
  | followUpReceived (p : Plane) (port : Fin 11) (m : PtpMsg)
  /-- PDELAY_REQ_RECEIVED (R76): A Pdelay_Req is answered with Pdelay_Resp. -/
  | pdelayReqReceived (p : Plane) (port : Fin 11) (stamp : Nat) (m : PtpMsg)
  /-- PDELAY_REQ_SEND (R78): The port sends its periodic Pdelay_Req. -/
  | pdelayReqSend (p : Plane) (port : Fin 11)
  /-- PDELAY_RESP_RECEIVED (R78): A Pdelay_Resp updates the port's link delay exchange. -/
  | pdelayRespReceived (p : Plane) (port : Fin 11) (stamp : Nat) (m : PtpMsg)
  /-- PDELAY_RESP_FOLLOW_UP_RECEIVED (R78): A Pdelay_Resp_Follow_Up completes the exchange. -/
  | pdelayRespFollowUpReceived (p : Plane) (port : Fin 11) (stamp : Nat) (m : PtpMsg)
  /-- PDELAY_RESP_TIMEOUT (R78): No response within 10 ms marks the exchange missed. -/
  | pdelayRespTimeout (p : Plane) (port : Fin 11)
  /-- ANNOUNCE_TIMEOUT (R77): No Announce by the receipt deadline makes the slot TIMEOUT. -/
  | announceTimeout (p : Plane) (slot : Fin 2)
  /-- SYNC_TIMEOUT (R77): No Sync by the receipt deadline makes the slot TIMEOUT. -/
  | syncTimeout (p : Plane) (slot : Fin 2)
  /-- SLEW_END (R71): A slew ends once the residual offset is below 1 ns. -/
  | slewEnd (p : Plane)
  /-- SLOT_STATE_EXCHANGE (R69): Planes exchange slot states every 1 ms over the inter-plane link. -/
  | slotStateExchange
  /-- XPLANE_MEASURE (R70): Each time unit measures the other plane's clock every 1 ms. -/
  | xplaneMeasure (p : Plane)
  /-- REVERT_HOLD_EXPIRE (R73): The preferred slot usable for REVERT_HOLD regains the pair. -/
  | revertHoldExpire
  /-- LANE_DEFAULT_RETURN (R74): A lane returns to its default plane after 10 s UP and LOCKED. -/
  | laneDefaultReturn (l : Lane)
  /-- LANE_TIME_SAMPLE (R75): Each lane samples both plane clocks every 1 ms and checks XLIMIT. -/
  | laneTimeSample (l : Lane)
  /-- RESIDENCE_ENTRY_EXPIRE (R79): Residence table entries older than 1 s are discarded. -/
  | residenceEntryExpire (p : Plane)
  /-- TXQ_ENTRY_READ (R83): Reading TIM_TXQ_ENT3 removes the oldest timestamp entry. -/
  | txqEntryRead (p : Plane) (port : Fin 11)
  /-- PPS_OUT_EDGE (R85): A PPS output rises at each second boundary of its slot. -/
  | ppsOutEdge (p : Plane) (n : Fin 2)
  /-- PPS_DRIVE_CHANGE (R86): The PPS driving plane changes while both pins are low. -/
  | ppsDriveChange
  /-- PPS_IN_EDGE (R87): A PPS_IN rising edge is stamped and may set phase. -/
  | ppsInEdge
  /-- LINK_UP (R90): A port reports LINK = 1 after LINK_DEB µs of lock without fault. -/
  | linkUp (p : Plane) (port : Fin 11) (locks : Fin 16)
  /-- LINK_DOWN (R91): A port reports LINK = 0, truncating frames and starting the link hold. -/
  | linkDown (p : Plane) (port : Fin 11) (locks : Fin 16) (localFault remoteFault : Bool)
  /-- PRT_CFG_WRITE (R92): A mode, FEC, AN or polarity write on a linked port takes the link down. -/
  | prtCfgWrite (p : Plane) (port : Fin 11) (data : Word)
  /-- FORWARDING_DECISION (R113): At byte 64 the plane forwards a frame and admits it to the buffer. -/
  | forwardingDecision (p : Plane) (port : Fin 14) (stamp : Nat) (f : Frame)
  /-- FRAME_RECEIVE_END (R95): A received frame ends; its FCS and length are classified and counted. -/
  | frameReceiveEnd (p : Plane) (port : Fin 14) (stamp : Nat) (f : Frame) (e : RxEnd)
  /-- MAC_CONTROL_FRAME_RECEIVED (R103): A PAUSE or PFC frame is consumed and stops transmission or a class. -/
  | macControlFrameReceived (p : Plane) (port : Fin 13) (dst src : BitVec 48) (body : List Byte) (e : RxEnd)
  /-- PAUSE_EXPIRE (R104): A received pause time runs out and transmission resumes. -/
  | pauseExpire (p : Plane) (port : Fin 13) (cls : Fin 9)
  /-- PAUSE_FRAME_SEND (R105): The port sends a requested XOFF or XON pause frame at the next boundary. -/
  | pauseFrameSend (p : Plane) (port : Fin 11)
  /-- PAUSE_REFRESH (R105): A continuing XOFF request repeats every REFRESH quanta. -/
  | pauseRefresh (p : Plane) (port : Fin 11)
  /-- EGRESS_DEQUEUE (R125): The head frame of an egress queue is aged and starts transmission. -/
  | egressDequeue (p : Plane) (port : Fin 15) (ecc : Ecc)
  /-- FRAME_TRANSMIT_END (R110): A transmitted frame completes and is counted and stamped. -/
  | frameTransmitEnd (p : Plane) (port : Fin 15)
  /-- LINK_HOLD_EXPIRE (R126): The link hold ends, flushing frozen frames if LINK is still 0. -/
  | linkHoldExpire (p : Plane) (port : Fin 11)
  /-- FDB_AGE_OUT (R115): A dynamic FDB entry not refreshed for MAC_AGE seconds is removed. -/
  | fdbAgeOut (p : Plane) (k : Fin 65536)
  /-- HSR_DUP_EXPIRE (R129): A duplicate table entry is dropped after 400 ms. -/
  | hsrDupExpire (p : Plane)
  /-- SUPERVISION_FRAME_SEND (R128): The plane sends a PRP supervision frame every SUPV_INT ms. -/
  | supervisionFrameSend (p : Plane)
  /-- IP_LINK_DOWN (R131): The inter-plane link fails with both planes UP; IPDOWN is set. -/
  | ipLinkDown
  /-- OWNER_HANDBACK (R131): The returning owner takes the counters and resumes assignment. -/
  | ownerHandback
  /-- MG_FRAME_RECEIVED (R108): A management MAC filters a frame and writes it to a receive descriptor. -/
  | mgFrameReceived (i : Fin 2) (f : Frame) (e : RxEnd)
  /-- MG_TX_KICK (R109): PRT_MG_TX_KICK sends owned descriptors after comparing lane copies. -/
  | mgTxKick (i : Fin 2)
  /-- MG_RING_BASE_WRITE (R109): A write to a ring base register restarts the ring at descriptor 0. -/
  | mgRingBaseWrite (i : Fin 2) (tx hi : Bool) (data : Word)
  /-- HCAP_ENABLE (R133): Setting PSW_HCAP_CTRL.EN zeroes HEAD and SEQ and starts capture. -/
  | hcapEnable (p : Plane)
  /-- PRT_CNT_CLR (R111): Clears every counter of the port. -/
  | prtCntClr (p : Plane) (port : Fin 15)
  /-- PSW_CNT_CLR (R308): Clears every plane and port switch counter. -/
  | pswCntClr (p : Plane)
  /-- MERGE_COPY_RECEIVED (R291): A publication copy from a lane port meets the twin merge. -/
  | mergeCopyReceived (p : Plane) (l : Lane)
  /-- MERGE_DEADLINE (R292): An entry without second copy at D + 2.0 µs closes as SOLO or AGREE_TMO. -/
  | mergeDeadline (p : Plane) (pub : Fin 2048) (issue : Word)
  /-- SEQ_ASSIGNMENT_RECEIVED (R130): The non-owner receives an assignment and forwards or caches it. -/
  | seqAssignmentReceived (p : Plane)
  /-- SEQ_CACHE_EXPIRE (R130): An assignment unused for 1 ms is discarded as SEQ_UNUSED. -/
  | seqCacheExpire (p : Plane)
  /-- SEQ_WAIT_EXPIRE (R130): A copy waiting WAIT ns without assignment is discarded as SEQ_MISS. -/
  | seqWaitExpire (p : Plane) (pub : Fin 2048) (issue : Word)
  /-- SV_COPY_RECEIVED (R138): A sampled-value copy reaches ingest, is checked, paired and continuity-tested. -/
  | svCopyReceived (l : Lane) (lan : Fin 2) (stamp : Nat) (timeOk : Bool) (m : SvMsg)
  /-- TIMING_COPY_WAIT_EXPIRE (R140): With no preferred copy by S_n + COPY_WAIT + 2.0 µs the other copy times the frame. -/
  | timingCopyWaitExpire (l : Lane) (n : Fin 4160)
  /-- GRID_START (R144): The grid starts at the first instant after EN with the clock LOCKED. -/
  | gridStart (l : Lane)
  /-- GRID_INSTANT (R144): A grid instant of the lane passes on the followed clock. -/
  | gridInstant (l : Lane)
  /-- ALIGNMENT_DEADLINE (R146): At D(g) + 2.0 µs the group's instant is released. -/
  | alignmentDeadline (l : Lane) (g : Fin 255)
  /-- SOLO_MISSING_RELEASE (R148): A non-LIVE solo stream releases each instant with every channel MISSING. -/
  | soloMissingRelease (l : Lane) (n : Fin 4096)
  /-- LOSS_DEADLINE (R150): No on-time frame by the loss deadline makes the stream LOST. -/
  | lossDeadline (l : Lane) (n : Fin 4160)
  /-- ING_CNT_CLR (R158): Clears every ingest counter and record counter. -/
  | ingCntClr (l : Lane)
  /-- SLOT_SERVE (R174): A filter engine computes a released slot's chain for an instant. -/
  | slotServe (l : Lane) (e : Fin 16)
  /-- FILTER_ENABLE (R172): FLT_CTRL.EN from 0 to 1 resets every slot. -/
  | filterEnable (l : Lane)
  /-- COEFFICIENT_WRITE (R179): A write to a coefficient bank stores or is refused when busy. -/
  | coefficientWrite (l : Lane) (e : Fin 16) (b : Fin 8) (w : Fin 4096) (data : Word)
  /-- SWAP_POST (R181): FLT_SWAP_GO posts a swap request for a slot. -/
  | swapPost (l : Lane) (e : Fin 16)
  /-- FLT_CNT_CLR (R186): Clears every filter counter and SAT field. -/
  | fltCntClr (l : Lane)
  /-- TOKEN_ACCEPT (R192): Quill takes a source's head token into successor ports. -/
  | tokenAccept (l : Lane) (src : Fin 17)
  /-- OVERLOAD (R193): A token held longer than STALL_LIM counts OVERLOAD. -/
  | overload (l : Lane) (src : Fin 17)
  /-- ENGINE_SELECT (R200): A free element engine selects and starts an item. -/
  | engineSelect (l : Lane) (e : Fin 48)
  /-- GROUP_WEIGHT_WRITE (R201): A new WEIGHT takes effect at the level's next round. -/
  | groupWeightWrite (l : Lane) (g : Fin 256) (w : BitVec 8)
  /-- GROUP_INTAKE_CLOSE (R202): INTAKE = 0 closes a group to new work. -/
  | groupIntakeClose (l : Lane) (g : Fin 256)
  /-- GROUP_INTAKE_OPEN (R202): INTAKE = 1 reopens a group and empties stale tokens. -/
  | groupIntakeOpen (l : Lane) (g : Fin 256)
  /-- HIST_SELECT (R206): A write to QUL_HIST_SEL selects a level or group and zeroes the bins. -/
  | histSelect (l : Lane) (grp : Bool) (sel : Fin 256)
  /-- LOAD_WINDOW_END (R207): A load window completes and engine loads are updated. -/
  | loadWindowEnd (l : Lane)
  /-- QUL_CNT_CLR (R209): Clears every Quill counter, WAIT_MAX and bin. -/
  | qulCntClr (l : Lane)
  /-- PHASOR (R224): A PHASOR firing updates its window and computes a phasor. -/
  | opPhasor (l : Lane) (e : Fin 48) (ecc : Ecc)
  /-- SEQ (R225): A SEQ firing forms a symmetrical component. -/
  | opSeq (l : Lane) (e : Fin 48) (ecc : Ecc)
  /-- DIFF (R226): A DIFF firing evaluates the biased differential. -/
  | opDiff (l : Lane) (e : Fin 48) (ecc : Ecc)
  /-- DIST (R227): A DIST firing computes loop impedance and zone timing. -/
  | opDist (l : Lane) (e : Fin 48) (ecc : Ecc)
  /-- DIR (R228): A DIR firing decides direction with memory polarisation. -/
  | opDir (l : Lane) (e : Fin 48) (ecc : Ecc)
  /-- IDMT (R229): An IDMT firing integrates the inverse-time characteristic. -/
  | opIdmt (l : Lane) (e : Fin 48) (ecc : Ecc)
  /-- DEFT (R230): A DEFT firing applies a definite-time threshold. -/
  | opDeft (l : Lane) (e : Fin 48) (ecc : Ecc)
  /-- FREQ (R231): A FREQ firing estimates and averages frequency. -/
  | opFreq (l : Lane) (e : Fin 48) (ecc : Ecc)
  /-- HARM (R232): A HARM firing computes harmonics and asserts BLOCK. -/
  | opHarm (l : Lane) (e : Fin 48) (ecc : Ecc)
  /-- INST (R233): An INST firing compares a Speedwell sample with thresholds. -/
  | opInst (l : Lane) (e : Fin 48) (ecc : Ecc)
  /-- OPS_CNT_CLR (R237): Clears every element engine counter. -/
  | opsCntClr (l : Lane)
  /-- HORIZON_APPLY (R242): The horizon passes a pending write's E and the write is applied. -/
  | horizonApply (l : Lane) (corr : Bool)
  /-- PENDING_QUEUE_ROOM (R243): A writer waiting at a full pending queue posts once room frees. -/
  | pendingQueueRoom (l : Lane)
  /-- SNAPSHOT (R244): A snapshot at cut C is taken when H reaches C, or rebuilt at once. -/
  | snapshot (l : Lane)
  /-- MAP_REQUEST_WRITE (R245): A WRITE request posts a point write with its TIME. -/
  | mapRequestWrite (l : Lane) (o : Fin 65) (slot : BitVec 42) (point : Fin 8388608) (code : Fin 4) (test : Bool) (time : BitVec 96) (w : BitVec 128)
  /-- MAP_REQUEST_SNAP (R245): A SNAP request copies listed points at its cut. -/
  | mapRequestSnap (l : Lane) (o : Fin 65) (slot : BitVec 42) (time : BitVec 96) (count : BitVec 13) (list dest : BitVec 48)
  /-- MAP_REQUEST_INVALID (R245): A request of another KIND completes with BADARG. -/
  | mapRequestInvalid (l : Lane) (o : Fin 65) (slot : BitVec 42) (zero : Bool) (time : BitVec 96)
  /-- MAP_ENABLE (R472): MAP_CTRL.EN returning to 1 resumes writes, snapshots and requests. -/
  | mapEnable (l : Lane)
  /-- MAP_CNT_CLR (R255): Clears every map counter. -/
  | mapCntClr (l : Lane)
  /-- GOOSE_COPY_RECEIVED (R249): A GOOSE copy is checked, paired and its message accepted. -/
  | gooseCopyReceived (l : Lane) (lan : Fin 2) (stamp : Nat) (timeOk : Bool) (f : GooseMsg)
  /-- GOOSE_TIMING_WAIT_EXPIRE (R250): A pending GOOSE timing-copy decision falls to the other copy. -/
  | gooseTimingWaitExpire (l : Lane) (u : Fin 16384)
  /-- GOOSE_DEADLINE (R252): No on-time message by the TAL deadline makes the subscription LOST. -/
  | gooseDeadline (l : Lane) (u : Fin 16384)
  /-- SCRIBE_CYCLE_START (R258): At a lattice instant an engine runs due commands, snapshots inputs and starts its program. -/
  | scribeCycleStart (l : Lane) (k : Fin 32)
  /-- SKIPPED_LATTICE_INSTANT (R268): A lattice instant within an extended cycle starts nothing and counts SKIPS. -/
  | skippedLatticeInstant (l : Lane) (k : Fin 32)
  /-- NOP (R264): No operation. -/
  | scrNop (l : Lane) (k : Fin 32)
  /-- LD (R264): LBIT := b. -/
  | scrLd (l : Lane) (k : Fin 32)
  /-- LDN (R264): LBIT := NOT b. -/
  | scrLdn (l : Lane) (k : Fin 32)
  /-- AND (R264): LBIT := LBIT AND b. -/
  | scrAnd (l : Lane) (k : Fin 32)
  /-- ANDN (R264): LBIT := LBIT AND NOT b. -/
  | scrAndn (l : Lane) (k : Fin 32)
  /-- OR (R264): LBIT := LBIT OR b. -/
  | scrOr (l : Lane) (k : Fin 32)
  /-- ORN (R264): LBIT := LBIT OR NOT b. -/
  | scrOrn (l : Lane) (k : Fin 32)
  /-- XOR (R264): LBIT := LBIT XOR b. -/
  | scrXor (l : Lane) (k : Fin 32)
  /-- XORN (R264): LBIT := LBIT XOR NOT b. -/
  | scrXorn (l : Lane) (k : Fin 32)
  /-- PUSH (R264): Pushes LBIT. -/
  | scrPush (l : Lane) (k : Fin 32)
  /-- POPAND (R264): LBIT := pop AND LBIT. -/
  | scrPopand (l : Lane) (k : Fin 32)
  /-- POPOR (R264): LBIT := pop OR LBIT. -/
  | scrPopor (l : Lane) (k : Fin 32)
  /-- POPXOR (R264): LBIT := pop XOR LBIT. -/
  | scrPopxor (l : Lane) (k : Fin 32)
  /-- NOT (R264): LBIT := NOT LBIT. -/
  | scrNot (l : Lane) (k : Fin 32)
  /-- ST (R264): b := LBIT. -/
  | scrSt (l : Lane) (k : Fin 32)
  /-- STN (R264): b := NOT LBIT. -/
  | scrStn (l : Lane) (k : Fin 32)
  /-- S (R264): Sets b when LBIT. -/
  | scrS (l : Lane) (k : Fin 32)
  /-- RST (R264): Clears b when LBIT. -/
  | scrRst (l : Lane) (k : Fin 32)
  /-- EDGER (R264): Rising-edge detection through a flag. -/
  | scrEdger (l : Lane) (k : Fin 32)
  /-- EDGEF (R264): Falling-edge detection through a flag. -/
  | scrEdgef (l : Lane) (k : Fin 32)
  /-- TON (R265): On-delay timer update. -/
  | scrTon (l : Lane) (k : Fin 32)
  /-- TOF (R265): Off-delay timer update. -/
  | scrTof (l : Lane) (k : Fin 32)
  /-- TP (R265): Pulse timer update. -/
  | scrTp (l : Lane) (k : Fin 32)
  /-- CTU (R265): Up counter update. -/
  | scrCtu (l : Lane) (k : Fin 32)
  /-- CTD (R265): Down counter update. -/
  | scrCtd (l : Lane) (k : Fin 32)
  /-- CRST (R264): CV := 0 when LBIT. -/
  | scrCrst (l : Lane) (k : Fin 32)
  /-- CLD (R264): CV := PV when LBIT. -/
  | scrCld (l : Lane) (k : Fin 32)
  /-- LDW (R264): ACC := w. -/
  | scrLdw (l : Lane) (k : Fin 32)
  /-- STW (R264): w := ACC. -/
  | scrStw (l : Lane) (k : Fin 32)
  /-- LDI (R264): ACC := sign-extended immediate. -/
  | scrLdi (l : Lane) (k : Fin 32)
  /-- LUI (R264): ACC high half := immediate. -/
  | scrLui (l : Lane) (k : Fin 32)
  /-- ADD (R264): ACC := ACC + w. -/
  | scrAdd (l : Lane) (k : Fin 32)
  /-- SUB (R264): ACC := ACC - w. -/
  | scrSub (l : Lane) (k : Fin 32)
  /-- ANDW (R264): ACC := ACC AND w. -/
  | scrAndw (l : Lane) (k : Fin 32)
  /-- ORW (R264): ACC := ACC OR w. -/
  | scrOrw (l : Lane) (k : Fin 32)
  /-- XORW (R264): ACC := ACC XOR w. -/
  | scrXorw (l : Lane) (k : Fin 32)
  /-- CMPEQ (R264): LBIT := ACC = w. -/
  | scrCmpeq (l : Lane) (k : Fin 32)
  /-- CMPGT (R264): LBIT := ACC > w, signed. -/
  | scrCmpgt (l : Lane) (k : Fin 32)
  /-- CMPLT (R264): LBIT := ACC < w, signed. -/
  | scrCmplt (l : Lane) (k : Fin 32)
  /-- FCMPGT (R264): LBIT := ACC > w in binary32. -/
  | scrFcmpgt (l : Lane) (k : Fin 32)
  /-- FCMPLT (R264): LBIT := ACC < w in binary32. -/
  | scrFcmplt (l : Lane) (k : Fin 32)
  /-- SETQ (R264): Sets an output entry's CODE and TEST from ACC. -/
  | scrSetq (l : Lane) (k : Fin 32)
  /-- QMAX (R264): Merges an input entry's CODE and TEST into ACC. -/
  | scrQmax (l : Lane) (k : Fin 32)
  /-- JMP (R264): PC := address. -/
  | scrJmp (l : Lane) (k : Fin 32)
  /-- JMPC (R264): Jumps when LBIT. -/
  | scrJmpc (l : Lane) (k : Fin 32)
  /-- JMPCN (R264): Jumps when NOT LBIT. -/
  | scrJmpcn (l : Lane) (k : Fin 32)
  /-- END (R262): Ends the program and posts the output image. -/
  | scrEnd (l : Lane) (k : Fin 32)
  /-- RESTART (R260): Scribe RESTART clears engine storage and enters RUNNING at its lattice instant. -/
  | scribeRestart (l : Lane) (k : Fin 32) (secs : Word) (usecs : Fin 1000000)
  /-- STOP (R260): The engine enters STOPPED at the command's instant. -/
  | scribeStop (l : Lane) (k : Fin 32) (secs : Word) (usecs : Fin 1000000)
  /-- FORCE_COMMIT (R271): Copies the shadow force table into the active table. -/
  | forceCommit (l : Lane) (k : Fin 32) (secs : Word) (usecs : Fin 1000000)
  /-- FORCE_RESET (R271): Clears both force tables. -/
  | forceReset (l : Lane) (k : Fin 32) (secs : Word) (usecs : Fin 1000000)
  /-- SCRIBE_COMMAND_NOP (R260): OP 0 or 5-7, or a command to a full queue, counts CMD_NOP. -/
  | scribeCommandNop (l : Lane) (k : Fin 32) (op : Fin 4) (secs : Word) (usecs : Fin 1000000)
  /-- SCRIBE_COMMAND_AT (R260): On an engine with PERIOD 0 a queued command executes at its AT. -/
  | scribeCommandAt (l : Lane) (k : Fin 32)
  /-- SCR_CNT_CLR (R277): Clears every Scribe engine counter. -/
  | scrCntClr (l : Lane) (k : Fin 32)
  /-- NOTICE_RECEIVED (R283): A map write notice reaches the publication engine and trip voters. -/
  | noticeReceived (l : Lane)
  /-- SCHEDULED_EVALUATION (R284): At e_s + HOLD a scheduled time is evaluated as a repeat or change. -/
  | scheduledEvaluation (l : Lane) (n : Fin 2048)
  /-- ISSUE_SEND (R286): An evaluated issue is built and sent once the clock reaches E. -/
  | issueSend (l : Lane) (n : Fin 2048)
  /-- PUB_ENABLE (R297): PUB_CTRL.EN from 0 to 1 starts publications cold or UNSYNCED. -/
  | pubEnable (l : Lane) (cold : Bool)
  /-- ECHO_RECEIVED (R297): An echo reaches an adopting lane. -/
  | echoReceived (l : Lane)
  /-- TRIP_NOTICE_DUE (R299): A notice arriving before its E changes the drive when the clock reaches E. -/
  | tripNoticeDue (l : Lane) (n : Fin 16)
  /-- TRIP_MIN_ON_EXPIRE (R299): A risen drive may fall once MIN_ON has passed. -/
  | tripMinOnExpire (l : Lane) (n : Fin 16)
  /-- TRIP_DISAGREE (R302): A pin differing from the drive for DISAGREE µs sets DIS. -/
  | tripDisagree (l : Lane) (n : Fin 16)
  /-- PUB_CNT_CLR (R307): Clears every publication counter. -/
  | pubCntClr (l : Lane)
  /-- CHECK_VALUE_START (R304): CHK_GO starts a check-value operation. -/
  | checkValueStart (l : Lane) (u : Fin 8)
  /-- CHECK_VALUE_DONE (R304): The operation ends with RESULT, ALIVE increment and DONE. -/
  | checkValueDone (l : Lane) (u : Fin 8)
  /-- ROW_DECISION (R327): The recorder decides a row and evaluates its trigger conditions. -/
  | rowDecision (l : Lane)
  /-- XTRIG_DRIVE_RELEASE (R334): The drive releases WIDTH µs after the last firing. -/
  | xtrigDriveRelease (l : Lane) (line : Fin 2)
  /-- TRIGGER_PIN_EDGE (R325): A TRIGIN or XTRIG edge is stamped and delivered to both lanes. -/
  | triggerPinEdge (pin : Fin 6) (rise : Bool)
  /-- RECORD_CLOSE (R328): CLOSING ends: measurements and header written, then re-arm, wait or stop. -/
  | recordClose (l : Lane)
  /-- DRC_RELEASE (R329): Releases a COMPLETE buffer to EMPTY. -/
  | drcRelease (l : Lane) (buf : Fin 256)
  /-- DRC_RESUME (R332): Leaves STOPPED for ARMED or WAITING. -/
  | drcResume (l : Lane)
  /-- MANUAL_TRIGGER_POST (R327): DRC_MAN_GO posts a manual trigger for a given time. -/
  | manualTriggerPost (l : Lane) (secs : Word) (usecs : Fin 1000000)
  /-- RECORDER_ENABLE (R328): DRC_CTRL.EN arms the recorder, or ends a record in progress when cleared. -/
  | recorderEnable (l : Lane) (en : Bool)
  /-- DRC_CNT_CLR (R337): Clears every recorder counter. -/
  | drcCntClr (l : Lane)
  /-- START (R352): Instance START opens its groups at g_s and enters RUNNING. -/
  | insStart (l : Lane) (n : Fin 64) (secs : Word) (idx : Fin 32768)
  /-- QUIESCE (R347): At g_q the instance closes intake and drains. -/
  | insQuiesce (l : Lane) (n : Fin 64) (secs : Word) (idx : Fin 32768)
  /-- RESUME (R352): Instance RESUME reopens intake with operator states at rest. -/
  | insResume (l : Lane) (n : Fin 64) (secs : Word) (idx : Fin 32768)
  /-- ABORT (R350): At g_a the instance's remaining work is cancelled. -/
  | insAbort (l : Lane) (n : Fin 64) (secs : Word) (idx : Fin 32768)
  /-- RESET (R351): At g_r every resource of the instance returns to rest. -/
  | insReset (l : Lane) (n : Fin 64) (secs : Word) (idx : Fin 32768)
  /-- INSTANCE_BADCMD (R346): OP 0, 6 or 7 completes with BADCMD. -/
  | instanceBadcmd (l : Lane) (n : Fin 64) (op : Fin 3) (secs : Word) (idx : Fin 32768)
  /-- DRAIN_DECISION (R348): At g_q + limit + 2.0 µs the QUIESCE completes OK or TIMEOUT. -/
  | drainDecision (l : Lane) (n : Fin 64)
  /-- INSTANCE_DRAINED (R348): A QUIESCING instance drained after its decision becomes QUIESCED. -/
  | instanceDrained (l : Lane) (n : Fin 64)
  /-- ABORT_COMPLETE (R350): At g_a + 50 µs the instance becomes QUIESCED. -/
  | abortComplete (l : Lane) (n : Fin 64)
  /-- RESET_COMPLETE (R351): At g_r + RESET_US the instance becomes STOPPED. -/
  | resetComplete (l : Lane) (n : Fin 64)
  /-- VINT_INJECT (R355): Raises a software vector 64-255 at the owner. -/
  | vintInject (l : Lane) (o : Fin 65) (v : Fin 256)
  /-- EPOCH_GO (R360): Starts a new dirty-log epoch and clears the bitmap. -/
  | epochGo (l : Lane)
  /-- EPOCH_CLEAR_DONE (R360): Bitmap clearing ends and CLEARING returns to 0. -/
  | epochClearDone (l : Lane)
  /-- INS_OCNT_CLR (R363): Clears every owner counter of the page. -/
  | insOcntClr (l : Lane) (o : Fin 65)
  /-- CAN_START_OF_FRAME (R369): A start of frame is stamped and its start notice sent to both lanes. -/
  | canStartOfFrame (c : Fin 4)
  /-- CAN_FRAME_RECEIVED (R367): A received frame is matched to an object and its record sent to both lanes. -/
  | canFrameReceived (c : Fin 4) (f : CanFrame)
  /-- RECEIVE_RECORD_APPLY (R368): A lane applies a receive record to points, buffer and state. -/
  | receiveRecordApply (l : Lane)
  /-- RX_TIMEOUT (R369): A receive object without a frame by its deadline becomes TIMEOUT. -/
  | rxTimeout (l : Lane) (d : Fin 1024)
  /-- TX_QUEUE_CYCLIC (R370): A cyclic object is queued at its lattice instant. -/
  | txQueueCyclic (d : Fin 1024)
  /-- SEND (R370): Queues a request-mode object. -/
  | canSend (l : Lane) (d : Fin 1024)
  /-- OBJECT_RESUME (R372): Leaves SUSPENDED and queues current data. -/
  | canObjectResume (l : Lane) (d : Fin 1024)
  /-- ABORT_TX (R371): Drops a pending frame with result ABORTED. -/
  | canAbortTx (l : Lane) (d : Fin 1024)
  /-- TX_ATTEMPT_END (R371): A transmit attempt ends sent, lost, errored or clashed. -/
  | txAttemptEnd (c : Fin 4) (r : CanTxEnd)
  /-- BUS_OFF_RECOVERED (R373): Standard recovery ends and the controller rejoins. -/
  | busOffRecovered (c : Fin 4)
  /-- FIELD_BUS_ENABLE (R373): FBS_CTRL.EN turns the controller on or off the bus. -/
  | fieldBusEnable (c : Fin 4) (en : Bool)
  /-- RATE_DETECT_DWELL_EXPIRE (R375): A candidate's dwell ends and the next candidate or pass begins. -/
  | rateDetectDwellExpire (c : Fin 4)
  /-- PAIR_PREF_MOVE (R376): A PREF_ACTIVE change moves the role at the next bus idle. -/
  | pairPrefMove (p : Fin 2)
  /-- FBS_CNT_CLR (R379): Clears every counter of the controller. -/
  | fbsCntClr (c : Fin 4)
  /-- STANDBY_ENTRY (R381): Inkwell enters standby and saves its counters to MRAM. -/
  | standbyEntry
  /-- STANDBY_EXIT (R380): Inkwell becomes active when Common comes UP. -/
  | standbyExit
  /-- VINK_LOSS (R381): VINK below range stops Inkwell with MRAM intact. -/
  | vinkLoss
  /-- VINK_RESTORED (R381): VINK returns and counters are restored with VTIME_GAP set. -/
  | vinkRestored
  /-- VAULT_TIME_SAVE (R381): While active, vault time is saved every 60 s. -/
  | vaultTimeSave
  /-- OSC_FAIL (R382): The 32.768 kHz oscillator stopping over 4 ms holds vault time. -/
  | oscFail
  /-- OPH_TICK (R383): Each active second of vault time increments INK_OPH. -/
  | ophTick
  /-- TAMPER_ASSERT (R384): A tamper input asserted for 4 ticks latches and runs the response. -/
  | tamperAssert (n : Fin 2)
  /-- EVR_READ (R395): Copies whole event records from a start index. -/
  | evrRead (ch : Fin 2) (tag : BitVec 16) (addr : BitVec 64) (max start : Word) (bad : List Nat) (corr : Bool)
  /-- EVR_CLEAR (R392): An authorised clear zeroes the event ring. -/
  | evrClear (ch : Fin 2) (tag : BitVec 16) (addr : BitVec 64)
  /-- EVR_RL_SET (R390): Sets a rate-limit entry. -/
  | evrRlSet (ch : Fin 2) (tag : BitVec 16) (entry code lim : Word)
  /-- EVR_RL_GET (R395): Returns a rate-limit entry. -/
  | evrRlGet (ch : Fin 2) (tag : BitVec 16) (entry : Word)
  /-- TAG_READ (R394): Reads a tag area record or copy. -/
  | tagRead (ch : Fin 2) (tag : BitVec 16) (type : Word) (addr : BitVec 64) (max : Word) (ue : Fin 4)
  /-- TAG_WRITE (R394): Writes or deletes a tag area record. -/
  | tagWrite (ch : Fin 2) (tag : BitVec 16) (type : Word) (addr : BitVec 64) (len : Word) (ue : Fin 4)
  /-- ID_READ (R393): Copies the factory identity block. -/
  | idRead (ch : Fin 2) (tag : BitVec 16) (addr : BitVec 64) (max : Word)
  /-- LC_STATUS (R413): Returns lifecycle state, MCOUNT2 and root status. -/
  | lcStatus (ch : Fin 2) (tag : BitVec 16)
  /-- LC_ADVANCE (R401): A signed lifecycle transition stales all slots and advances the state. -/
  | lcAdvance (ch : Fin 2) (tag : BitVec 16) (target : Word) (addr : BitVec 64)
  /-- ROOT_KEY_SET (R402): Installs or revokes a root key entry. -/
  | rootKeySet (ch : Fin 2) (tag : BitVec 16) (root entry op keyId : Word) (keyAddr sigAddr : BitVec 64)
  /-- KEY_WRITE (R406): Fills an EMPTY key slot. -/
  | keyWrite (ch : Fin 2) (tag : BitVec 16) (slot flags keyId : Word) (addr : BitVec 64)
  /-- KEY_DERIVE (R407): Fills a child slot by HKDF from a parent. -/
  | keyDerive (ch : Fin 2) (tag : BitVec 16) (child parent flags keyId : Word) (addr : BitVec 64) (saltLen infoLen : Word)
  /-- KEY_INVALIDATE (R408): Makes a slot and its descendants stale at instant S. -/
  | keyInvalidate (ch : Fin 2) (tag : BitVec 16) (slot : Word)
  /-- KEY_STATUS (R404): Returns a key slot descriptor. -/
  | keyStatus (ch : Fin 2) (tag : BitVec 16) (slot : Word)
  /-- MCOUNT_READ (R399): Returns the monotonic counters. -/
  | mcountRead (ch : Fin 2) (tag : BitVec 16)
  /-- MCOUNT_INC (R399): Increments an integrator monotonic counter. -/
  | mcountInc (ch : Fin 2) (tag : BitVec 16) (k : Word)
  /-- ROLLBACK_ADVANCE (R400): Sets MCOUNT0 to the highest active SEC_VERSION. -/
  | rollbackAdvance (ch : Fin 2) (tag : BitVec 16)
  /-- ATTEST (R412): Writes a signed attestation report. -/
  | attest (ch : Fin 2) (tag : BitVec 16) (nonceAddr repAddr : BitVec 64)
  /-- TAMPER_CFG (R411): Configures tamper inputs. -/
  | tamperCfg (ch : Fin 2) (tag : BitVec 16) (cfg : Word)
  /-- KEY_STALE (R408): At S the slots of the set become STALE in lanes and MRAM. -/
  | keyStale
  /-- KEY_ZEROISED (R409): At S + HOLD + 2.0 µs with no uses in flight the slot is zeroised. -/
  | keyZeroised
  /-- PPS_WIDTH_EXPIRE (R85): A PPS output that rose at a second boundary falls once TIM_PPS_CTRL.WIDTH ms have passed, which lets a pending change of driving plane take effect under R86. -/
  | ppsWidthExpire (p : Plane) (n : Fin 2)
  /-- IP_LINK_RESTORED (R131): The inter-plane link returns with both planes UP, clearing PSW_STATUS.IPDOWN so that sequence assignments reach the non-owner again and SEQ_MISS for every publication stops. -/
  | ipLinkRestored
  /-- OSCILLATOR_RESTART (R382): The 32.768 kHz vault oscillator starts again after an OSC_FAIL, and vault time, held since the failure, resumes counting. -/
  | oscillatorRestart
  /-- CAN_RECEIVE_ERROR (R369): A CAN frame whose start of frame was seen fails with an error during reception, so REC and ERR_FRAMES change, the error state may move, rate detection restarts its run, and a receive-timeout decision waiting on that frame resolves. -/
  | canReceiveError (c : Fin 4) (dominant : Bool)
  deriving DecidableEq, Repr

end Sys2Proof
end

