-- ==== Sys2Proof/Decode.lean ====
section
/-!
DEFINITION. The command a word spells. The rows of spec/opcode_table.json give no bits: a command reaches the block as
a bus access, a message, a frame or a pin event, not as a word. So no word spells one.
-/

namespace Sys2Proof

/-- The command that a word of `nbits` bits spells by the table's bits: none, since no row gives bits. -/
def decodeTableWord (nbits w : Nat) : Option Instr :=
  match nbits, w with
  | _, _ => none

end Sys2Proof
end

