-- ==== Sys2Proof/Config.lean ====
section
/-!
DEFINITION. The free values: constants with no body for what the spec leaves open. Each is applied to the counter
`freeCtr` of State, which the step advances, or to the operands it depends on; nothing can be proved of them.
-/

namespace Sys2Proof.Config

/-- The rate adjustment the plane clock's servo computes after an offset measurement, in units of 2⁻⁴⁰ (R65 gives its
resolution and range and no algorithm). -/
opaque servoRate : Nat → Int

/-- The per-message number of an ECDSA signature the device makes (R412; FIPS 186-5 leaves it to the signer). -/
opaque signNonce : Nat → Nat

/-- The version of a firmware bank, by its octets as one number: the spec does not lay out the firmware header (R62). -/
opaque firmwareVersion : Nat → Nat

/-- The security version in a firmware bank's signed header, by its octets: the spec does not give its layout (R399). -/
opaque firmwareSecVersion : Nat → Nat

/-- Whether a firmware bank's octets verify under the factory root: the spec does not lay out the firmware header (R398). -/
opaque firmwareVerifies : Nat → Bool

/-- Whether a flash access meets a device error (R50); the spec does not say when one happens. -/
opaque flashError : Nat → Bool

/-- Octet i of what a write that met a device error leaves in the flash device. -/
opaque flashGarble : Nat → Nat → Nat

/-- Which of a port's classes with a frame that may be sent transmits next: the spec gives no order among classes. -/
opaque egressClass : Nat → Nat

/-- Core state and heartbeat words of a Blotter dump that the model does not hold (Table 20.4). -/
opaque dumpWord : Nat → Nat

/-- The octets before the tag in the IEC 62351-6 extension of a frame the device sends, by key identifier: the spec names
the extension and its parts and leaves its layout to the standard (R279, R286). -/
opaque authHead : Nat → List Byte

/-- Where REC lies, above 119, after a good reception with REC above 127: ISO 11898-1 gives the range 119 to 127 (R373). -/
opaque recAfter : Nat → Nat

/-- SKEW of a channel measured with PHASE_EN = 0 (Table 14.9, R331): the spec gives it no value. By the channel and the instants and
values of the record, so that the two lanes agree (R321). -/
opaque unaskedSkew : List Nat → Nat

/-- How many 64-byte blocks a check-value unit has fed a given time after its GO: R304 bounds the whole operation only. -/
opaque chkBlocks : Nat → Nat

/-- Whether a low pulse on WARMRST_N between 0.2 and 1 µs acts, for each occurrence (R456). -/
opaque pulseActs : Nat → Bool

/-- Whether the board supplies VIO_E within 1.7 to 1.95 V (R454). -/
opaque vioELow : Bool

end Sys2Proof.Config
end

