-- ==== Sys2Proof/Machine/PlaneState.lean ====
section
/-!
DEFINITION. What a switch plane holds beside its registers and tables: its clock and PTP state ("Time base and
Twinflower"), its port MACs ("Ports and MACs"), its buffer, queues and redundancy state ("Switch planes"). Times are
in units of 2⁻¹⁶ ns since the zero of the clock that takes them (R4, log entry 1).
-/

namespace Sys2Proof.Machine
open Sys2Proof

/-- An event record on its way to the event recorder (R385): SRC, CODE, the 96-bit TIME and the payload words. -/
structure EvRec where
  src : Nat
  code : Nat
  time : Nat
  payload : List Nat
  deriving DecidableEq, Repr

/-- A domain's 64-record event queue and its lost-event counter (R30). -/
structure EvQueue where
  recs : List EvRec
  lost : Nat
  deriving DecidableEq, Repr

/-- One entry of a pairing queue (R37): address, data, and when it entered, on the model's elapsed time. -/
structure PairEntry where
  addr : Nat
  data : Word
  at_ : Nat
  deriving DecidableEq, Repr

/-- A two-step Sync waiting for its Follow_Up (R76). -/
structure PendSync where
  srcPort : Nat
  seqId : Nat
  rx : Nat
  corr : Int
  port : Nat
  deriving DecidableEq, Repr

/-- A PTP domain slot (R76, R77): the selected Announce and its port, the last Announce and Sync stamps and intervals,
the offset from the plane clock as it stands now, the offset measured last, as it would be measured now (R77), the run of Sync
intervals within 1 µs, what is late or jumped, and since when it is usable. -/
structure PtpSlot where
  best : Option Announce
  port : Nat
  annStamp : Option Nat
  annIval : Nat
  syncStamp : Option Nat
  syncIval : Nat
  off : Option Int
  prev : Option Int
  good : Nat
  annLate : Bool
  syncLate : Bool
  jumped : Bool
  pend : Option PendSync
  usableSince : Option Nat
  deriving DecidableEq, Repr

/-- A slot after plane reset. -/
def PtpSlot.empty : PtpSlot := ⟨none, 0, none, 0, none, 0, none, none, 0, false, false, false, none, none⟩

/-- An entry of the residence table (R79). -/
structure ResEntry where
  srcPort : Nat
  seqId : Nat
  corr : List (Nat × Int)
  at_ : Nat
  deriving DecidableEq, Repr

/-- An entry of a transmit timestamp queue (Table 3.2). -/
structure TxqEnt where
  stamp : Nat
  tag : Nat
  len : Nat
  lostBefore : Bool
  deriving DecidableEq, Repr

/-- The peer-delay exchange of a port and its transmit timestamp queue (R78, R82). -/
structure PortTime where
  seqId : Nat
  lastReq : Option Nat
  reqStamp : Option Nat
  resp : Option PendSync
  missed : Nat
  txq : List TxqEnt
  lostNext : Bool
  deriving DecidableEq, Repr

/-- A port's exchange after plane reset. -/
def PortTime.empty : PortTime := ⟨0, none, none, none, 0, [], false⟩

/-- A frame held in the shared buffer: its octets, ingress port, class, ingress stamp, cells, how many egress copies
still hold it (a reception that has not ended counts as one), whether its cells are held by egress ports alone (R126), its timestamp
request (R110), and the FCS it was received with, if it was received and stands here unchanged (R97). -/
structure BufFrame where
  octets : List Byte
  inPort : Nat
  cls : Nat
  stamp : Nat
  cells : Nat
  copies : Nat
  held : Bool
  tsReq : Bool
  tsTag : Nat
  fcs : Option Nat
  deriving DecidableEq, Repr

/-- One copy in an egress queue: its buffer frame, whether the VLAN tag is left off, whether it is frozen (R126), and the HSR
sequence number of the tag put in as it leaves for the ring (R129). -/
structure QEnt where
  buf : Nat
  untag : Bool
  frozen : Bool
  hsr : Option Nat
  deriving DecidableEq, Repr

/-- The frame a port is transmitting: its octets as sent, its buffer frame, its timestamp request, whether it is a
cut-through copy, whether its reception has ended, whether it ends stomped, its ingress port, class and ingress stamp,
its egress stamp, what it is: 0 forwarded, 1 PAUSE, 2 PFC, 3 an own message, 4 a Pdelay_Req, 5 a two-step Pdelay_Resp, 6 a
one-step Pdelay_Resp, 7 a Pdelay_Resp_Follow_Up; and the FCS it keeps, if it leaves as it was received (R97). -/
structure TxFrame where
  octets : List Byte
  buf : Option Nat
  tsReq : Bool
  tsTag : Nat
  cut : Bool
  done : Bool
  stomp : Bool
  inPort : Nat
  cls : Nat
  stamp : Nat
  started : Nat
  ctl : Nat
  fcs : Option Nat
  deriving DecidableEq, Repr

/-- A frame being received past its forwarding decision: its buffer frame if admitted, the ports it is cut through
to and the egress ports of stored copies (each with whether the tag is left off), the verdict, the ingress stamp, class
and length limit. -/
structure RxFrame where
  buf : Option Nat
  octets : List Byte
  stamp : Nat
  cls : Nat
  cutTo : List (Nat × Bool)
  storeTo : List (Nat × Bool)
  maxlen : Nat
  verdict : Nat
  vid : Nat
  deriving DecidableEq, Repr

/-- A port's MAC: the frame being received and sent, own frames waiting for the next frame boundary, the ends of
received pauses, the requests for XOFF (class c by PFC, 16 + c by classic PAUSE), the transmit stamps of the pause
frames sent for them, whether a PFC or PAUSE frame is due, the classes whose request has ended since the last PFC frame,
when the next repeats, the end of a link hold, the HI words of the byte counters as latched, on MG ports the ring
positions and whether transmission was kicked while paused; the length limits that PRT_MAXLEN held before its latest writes, each
with the time of the write (R99); and the last frame that left the port whole, as it stood on the line, FCS included (R97). -/
structure PortMac where
  rx : Option RxFrame
  tx : Option TxFrame
  ctl : List TxFrame
  pauseEnd : Option Nat
  clsPauseEnd : List (Nat × Nat)
  xoff : List Nat
  pauseSent : List (Nat × Nat)
  pfcDue : Bool
  pauseDue : Bool
  pfcEnded : List Nat
  refreshAt : Option Nat
  holdEnd : Option Nat
  rxHi : Nat
  txHi : Nat
  mgRx : Nat
  mgTx : Nat
  mgKick : Bool
  lims : List (Nat × Nat)
  sent : List Byte
  deriving DecidableEq, Repr

/-- A port's MAC after reset. -/
def PortMac.empty : PortMac :=
  ⟨none, none, [], none, [], [], [], false, false, [], none, none, 0, 0, 0, 0, false, [], []⟩

/-- An entry of a change log: what a learning or ageing change did to which key. -/
structure LogEnt where
  removed : Bool
  w0 : Nat
  w1 : Nat
  deriving DecidableEq, Repr

/-- The running values of an issue that an echo carries (R297). -/
structure Echo where
  pub : Nat
  issue : Nat
  stNum : Nat
  sqNum : Nat
  tChg : Nat
  eS : Nat
  k : Nat
  e : Nat
  crc : Nat
  deriving DecidableEq, Repr

/-- A publication copy in the twin merge: its lane, the four words of its merge header (Table 5.4), the frame octets,
its enqueue stamp, and the running values an echo of it would carry. -/
structure MergeCopy where
  lane : Lane
  hdr : List Nat
  octets : List Byte
  stamp : Nat
  echo : Echo
  deriving DecidableEq, Repr

/-- PUB of a copy's merge header. -/
def MergeCopy.pub (c : MergeCopy) : Nat := c.hdr.getD 0 0 % 2048

/-- POLICY of a copy's merge header: 1 is AGREE. -/
def MergeCopy.policy (c : MergeCopy) : Nat := c.hdr.getD 0 0 / 2 ^ 16 % 4

/-- SRC of a copy's merge header. -/
def MergeCopy.src (c : MergeCopy) : Nat := c.hdr.getD 0 0 / 2 ^ 18 % 64

/-- ISSUE of a copy's merge header. -/
def MergeCopy.issue (c : MergeCopy) : Nat := c.hdr.getD 1 0

/-- The egress ports 0 to 10 of a copy's merge header. -/
def MergeCopy.ports (c : MergeCopy) : List Nat := (List.range 11).filter (fun p => decide (c.hdr.getD 2 0 / 2 ^ p % 2 = 1))

/-- TS_REQ of a copy's merge header. -/
def MergeCopy.tsReq (c : MergeCopy) : Bool := decide (c.hdr.getD 2 0 / 2 ^ 15 % 2 = 1)

/-- TS_TAG of a copy's merge header. -/
def MergeCopy.tsTag (c : MergeCopy) : Nat := c.hdr.getD 2 0 / 2 ^ 16 % 2 ^ 16

/-- An open entry of the twin merge table (R291): the first copy, its deadline, and whether one of the two lanes was
rolled out, so that the entry only compares (R293). -/
structure MergeEnt where
  first : MergeCopy
  deadline : Nat
  rolled : Bool
  deriving DecidableEq, Repr

/-- A non-owner's copy waiting for its sequence assignment, and when it became ready (R130). -/
structure SeqWait where
  copy : MergeCopy
  ready : Nat
  deriving DecidableEq, Repr

/-- An assignment held in the non-owner's cache (R130). -/
structure SeqAssign where
  pub : Nat
  issue : Nat
  src : Nat
  seq : Nat
  at_ : Nat
  deriving DecidableEq, Repr

/-- One entry of the HSR duplicate table (R129). -/
structure HsrDup where
  mac : Nat
  seq : Nat
  at_ : Nat
  deriving DecidableEq, Repr

/-- What a plane holds beside its registers and tables. -/
structure PlaneSt where
  now : Nat                              -- the plane clock (R65)
  rate : Int                             -- rate adjustment, 2⁻⁴⁰ (R65)
  rateFrac : Nat                         -- what the rate has gained below one unit, in 2⁻⁴⁰ of it
  slewFrac : Nat                         -- what a slew has moved below one unit, in 10⁻⁶ of it (R71)
  hist : List (Nat × Int)                -- rates over the last 16 s of LOCKED, unslewed operation (R66)
  resid : Int                            -- target minus clock, while slewing (R71)
  slot0 : PtpSlot
  slot1 : PtpSlot
  common : Nat                           -- the slot of the common domain this plane applies (R69)
  lockedSince : Option Nat               -- since when UP and LOCKED (R74)
  res : List ResEntry                    -- residence table (R79)
  ptp : List (Nat × PortTime)            -- per external port
  pps0 : Option Nat                      -- PPS_OUT0 high since (R85)
  pps1 : Option Nat
  lastPps : Option Nat                   -- stamp of the last PPS_IN edge (R87)
  ppsPhase : Int                         -- its phase to the nearest second boundary, as the clock stands now
  ppsGood : Bool                         -- the last PPS_IN edge qualifies as a source (R87)
  evq : EvQueue
  mac : List (Nat × PortMac)             -- per port 0 to 14
  bufs : List (Nat × BufFrame)           -- frames in the shared buffer
  nextBuf : Nat
  queues : List (Nat × List QEnt)        -- egress queue of port p, class c at 8 p + c
  fdbSeen : List (Nat × Nat)             -- second of the last refresh of a dynamic FDB entry (R115)
  log : List LogEnt                      -- FDB change log (R116)
  seqCtr : List (Nat × Nat)              -- PRP sequence counters per SRC (R130)
  seqLast : List (Nat × Nat)             -- last assignment received per SRC (R131)
  seqCache : List SeqAssign              -- assignments waiting for their copy
  seqWait : List SeqWait                 -- copies waiting for their assignment
  merge : List MergeEnt                  -- open merge entries
  mergeClosed : List (Nat × Nat)         -- closed entries still held: PUB and ISSUE, the earliest closed first
  laneIn : List MergeCopy                -- copies that have reached ports L0 and L1, oldest first
  ipIn : List SeqAssign                  -- assignments on the inter-plane link, oldest first (R130)
  hsr : List HsrDup
  hcapSeq : Nat
  hcapLost : Nat
  hcapRun : Nat                          -- capture entries since the plane clock last moved (R133)
  eps : List Byte                        -- the boot table in use (R421), empty when none
  switched : Bool                        -- the SWITCH region has committed (R421)
  supvAt : Option Nat                    -- when the last supervision frame left (R128)
  supvSeq : Nat
  deriving DecidableEq, Repr

/-- A plane after reset: clock 0, every queue and table empty. -/
def PlaneSt.empty : PlaneSt :=
  { now := 0, rate := 0, rateFrac := 0, slewFrac := 0, hist := [], resid := 0, slot0 := .empty, slot1 := .empty, common := 0,
    lockedSince := none, res := [], ptp := [], pps0 := none, pps1 := none, lastPps := none, ppsPhase := 0, ppsGood := false,
    evq := ⟨[], 0⟩, mac := [], bufs := [], nextBuf := 0, queues := [], fdbSeen := [], log := [], seqCtr := [],
    seqLast := [], seqCache := [], seqWait := [], merge := [], mergeClosed := [], laneIn := [], ipIn := [], hsr := [], hcapSeq := 0,
    hcapLost := 0, hcapRun := 0, eps := [], switched := false, supvAt := none, supvSeq := 0 }

/-- A slot's offsets after the clock has moved by `m`. -/
def PtpSlot.shift (t : PtpSlot) (m : Int) : PtpSlot := { t with off := t.off.map (fun o => o - m), prev := t.prev.map (fun o => o - m) }

/-- A plane whose clock has moved by `m` beside its run: what it has measured against the clock moves the other way (R72). -/
def PlaneSt.shift (x : PlaneSt) (m : Int) : PlaneSt :=
  { x with slot0 := x.slot0.shift m, slot1 := x.slot1.shift m, ppsPhase := x.ppsPhase - m }

end Sys2Proof.Machine
end

