-- ==== Sys2Proof/Machine/Store.lean ====
section
/-!
DEFINITION. Sparse stores: one sorted association list with strictly rising keys, used for the register file, the
memories and every keyed table of the State, and the byte memory with the value an unlisted address reads as.
-/

namespace Sys2Proof.Machine
open Sys2Proof

/-- The entry at a key of a sorted association list. -/
def assocGet {β : Type} : List (Nat × β) → Nat → Option β
  | [], _ => none
  | (k, v) :: t, a => if a = k then some v else if a < k then none else assocGet t a

/-- Put an entry at a key, keeping the keys strictly rising. -/
def assocPut {β : Type} : List (Nat × β) → Nat → β → List (Nat × β)
  | [], a, b => [(a, b)]
  | (k, v) :: t, a, b =>
    if a = k then (a, b) :: t
    else if a < k then (a, b) :: (k, v) :: t
    else (k, v) :: assocPut t a b

/-- Remove the entry at a key. -/
def assocDel {β : Type} : List (Nat × β) → Nat → List (Nat × β)
  | [], _ => []
  | (k, v) :: t, a =>
    if a = k then t
    else if a < k then (k, v) :: t
    else (k, v) :: assocDel t a

/-- The entry at a key, or a default. -/
def assocGetD {β : Type} (t : List (Nat × β)) (a : Nat) (d : β) : β := (assocGet t a).getD d

/-- Put an entry, or remove it when it equals what an unlisted key reads as. -/
def assocSet {β : Type} [DecidableEq β] (d : β) (t : List (Nat × β)) (a : Nat) (b : β) : List (Nat × β) :=
  if b = d then assocDel t a else assocPut t a b

/-- Strictly rising keys. -/
def assocSorted {β : Type} : List (Nat × β) → Bool
  | [] => true
  | [_] => true
  | (a, _) :: (b, v) :: t => decide (a < b) && assocSorted ((b, v) :: t)

/-- A byte memory: the bytes that differ from what an unlisted address reads as (Host.Cell, addresses strictly rising). -/
abbrev Mem := List Host.Cell

/-- The canonical form of a memory whose unlisted bytes read as `d`. -/
def memWf (d : Byte) (m : Mem) : Bool := assocSorted m && m.all (fun c => decide (c.2 ≠ d))

/-- Read one byte of a memory whose unlisted bytes read as `d`. -/
def memGet (d : Byte) (m : Mem) (a : Nat) : Byte := assocGetD m a d

/-- Write one byte, keeping the canonical form. -/
def memSet (d : Byte) (m : Mem) (a : Nat) (b : Byte) : Mem := assocSet d m a b

/-- Read `n` bytes from an address, lowest address first. -/
def memRead (d : Byte) (m : Mem) (a : Nat) : Nat → List Byte
  | 0 => []
  | n + 1 => memGet d m a :: memRead d m (a + 1) n

/-- Write a list of bytes from an address. -/
def memWrite (d : Byte) (m : Mem) (a : Nat) : List Byte → Mem
  | [] => m
  | b :: t => memWrite d (memSet d m a b) (a + 1) t

/-- A list of bytes as a little-endian number. -/
def leNat : List Byte → Nat
  | [] => 0
  | b :: t => b.toNat + 256 * leNat t

/-- The `n` low bytes of a number, little-endian. -/
def natLe : Nat → Nat → List Byte
  | 0, _ => []
  | n + 1, v => BitVec.ofNat 8 v :: natLe n (v / 256)

/-- A list of bytes as a big-endian number. -/
def beNat (l : List Byte) : Nat := l.foldl (fun acc b => acc * 256 + b.toNat) 0

/-- The `n` low bytes of a number, big-endian. -/
def natBe (n v : Nat) : List Byte := (natLe n v).reverse

/-- The bits `hi` down to `lo` of a number. -/
def bitsOf (v hi lo : Nat) : Nat := (v / 2 ^ lo) % 2 ^ (hi + 1 - lo)

/-- The number with bits `hi` down to `lo` replaced by the low bits of `x`. -/
def bitsPut (v hi lo x : Nat) : Nat :=
  v - bitsOf v hi lo * 2 ^ lo + (x % 2 ^ (hi + 1 - lo)) * 2 ^ lo

/-- A two's complement number of `w` bits as an integer. -/
def signedOf (w v : Nat) : Int := if v % 2 ^ w < 2 ^ (w - 1) then ((v % 2 ^ w : Nat) : Int) else ((v % 2 ^ w : Nat) : Int) - 2 ^ w

/-- An integer as a two's complement number of `w` bits. -/
def unsignedOf (w : Nat) (i : Int) : Nat := (i % (2 ^ w : Int)).toNat

/-- Clamp an integer into `w` bits of two's complement and give the bits. -/
def satSigned (w : Nat) (i : Int) : Nat :=
  if i < -(2 ^ (w - 1) : Int) then 2 ^ (w - 1)
  else if i > (2 ^ (w - 1) : Int) - 1 then 2 ^ (w - 1) - 1
  else unsignedOf w i

end Sys2Proof.Machine
end

