-- ==== Sys2Proof/Machine/CommonState.lean ====
section
/-!
DEFINITION. What the Common domain and Inkwell hold beside their registers: the steward's mailbox, loader, bank and
image state ("Structure image and the steward"), boot and Blotter state ("Bring-up and live update", "Faults and the
Blotter dump"), and the vault ("Inkwell, event recorder and identity", "Keys, lifecycle and trust").
-/

namespace Sys2Proof.Machine
open Sys2Proof

/-- The state of a domain, coded as in CFG_DOMAIN_STATUS. -/
inductive DomState where
  | off | up | isolated | restarting
  deriving DecidableEq, Repr

/-- The two-bit code of a domain state. -/
def DomState.code : DomState → Nat
  | .off => 0 | .up => 1 | .isolated => 2 | .restarting => 3

/-- A running mailbox command (R58): opcode and tag as latched, the latched arguments, the status and results it will
complete with, and whether it waits for something before it may complete. -/
structure MbRun where
  op : Nat
  tag : Nat
  args : List Nat
  code : Nat
  res : List Nat
  wait : Bool
  deriving DecidableEq, Repr

/-- A region section of a staged or active image: type, target (0 lanes, 1 Plane A, 2 Plane B), layout tag,
dependency mask, required tags, digest, section octets and SEC_VERSION of its image. -/
structure Region where
  type : Nat
  target : Nat
  tag : Nat
  deps : Nat
  req : List Nat
  digest : List Byte
  body : List Byte
  secVer : Nat
  deriving DecidableEq, Repr

/-- A staged image (R54): its regions, its identifier, whether it is partial, and its SEC_VERSION. -/
structure Staged where
  regions : List Region
  imageId : Nat
  isPartial : Bool
  secVer : Nat
  deriving DecidableEq, Repr

/-- What the regions active on a commit target are (R44, R412): target 0 Lane 0, 1 Lane 1, 2 Plane A, 3 Plane B. -/
structure ActiveRegion where
  target : Nat
  type : Nat
  tag : Nat
  deps : Nat
  req : List Nat
  digest : List Byte
  secVer : Nat
  deriving DecidableEq, Repr

/-- Where an image is read from: octets already read from lane memory, a flash bank by R50, or a flash bank on FLASH1
alone (R53). -/
inductive ImgSrc where
  | mem (b : List Byte)
  | bank (b : Nat)
  | flash1 (b : Nat)
  deriving DecidableEq, Repr

/-- A commit that waits for its target's next boundary (R47): target, regions, whether it is of a full image, its IMAGE_ID
and SEC_VERSION, and the mailbox channel whose REGION_COMMIT asked for it. -/
structure Switch where
  target : Nat
  regions : List Region
  full : Bool
  imageId : Nat
  secVer : Nat
  chan : Option Nat
  deriving DecidableEq, Repr

/-- A running LANE_CONVERGE (R63): lane, instants asked for, time limit, instants compared in a row, mismatching
instants, and whether a mismatch was seen since the last instant. -/
structure Converge where
  lane : Lane
  want : Nat
  limit : Nat
  run : Nat
  total : Nat
  mism : Nat
  chan : Nat
  lastBad : Bool
  deriving DecidableEq, Repr

/-- An isolation (R436): domain, cause, detail, address, time, domain status and whether another domain was isolated,
with the elapsed time its wait for capture counts from (R438). -/
structure Isolation where
  dom : Dom
  cause : Nat
  detail : Nat
  addr : Nat
  time : Nat
  status : Nat
  others : Bool
  since : Nat
  captured : Bool
  deriving DecidableEq, Repr

/-- What the dump buffer holds (R438, R441): the isolation it is of, the sections captured, whether the capture is still
running, and the flags RETAINED and PARTIAL. -/
structure Dump where
  iso : Isolation
  sects : List (Nat × List Byte)
  running : Bool
  retained : Bool
  cut : Bool
  deriving DecidableEq, Repr

/-- What Common holds beside its registers. -/
structure CommonSt where
  steward : Bool                          -- the steward is running
  fwOk : Bool                             -- the active firmware bank has verified (R398)
  fwVer : Nat                             -- version of the running firmware
  mb0 : Option MbRun                      -- running command of channel 0
  mb1 : Option MbRun
  staged : Option Staged
  fetch : Option (ImgSrc × Nat)           -- the image that IMAGE_STAGE fetches and checks, and the longest it may be (R54)
  stageWait : Option Staged               -- checked up to step 7, its build waiting for OLD_BUSY to clear (R203, R273, R335)
  built : List Nat                        -- targets whose shadow banks hold the staged regions (R55)
  switches : List Switch                  -- commits waiting for their boundary (R47)
  active : List ActiveRegion
  imageId : Nat                           -- IMAGE_ID of the last full image committed
  imageSec : Nat                          -- its SEC_VERSION
  verified : List (Nat × Nat)             -- banks that FLASH_VERIFY_BANK passed: (W, B)
  converge : Option Converge
  rollIn : Option Lane                    -- LANE_ROLL_IN waiting for the next grid instant
  eps : Option (List Byte)                -- the boot table in use
  isos : List Isolation                   -- isolated domains, in the order of isolation
  history : List (Dom × Nat)              -- isolations within the last 600 s (R440)
  dumpBuf : Option Dump                   -- the dump buffer, while a dump is captured or written
  retained : Option Dump                  -- what is kept of an isolated Common till its new steward writes it (R439)
  memErr : List (Dom × Nat × Nat)         -- memory errors found, at most 256 a domain: time and address (Table 20.4)
  owed : List (Nat × Nat × Nat)           -- named BLT events that the steward records once Common is back: cause, UNIT, VALUE
  upAt : Nat                              -- elapsed time of the last return of Common to UP (R438)
  lowBanks : List Nat                     -- I/O banks out of range (R453)
  mg : List (Nat × PortMac)               -- MACs of MG0 and MG1
  deriving DecidableEq, Repr

/-- Common after PORST_N. -/
def CommonSt.empty : CommonSt :=
  { steward := false, fwOk := false, fwVer := 0, mb0 := none, mb1 := none, staged := none, fetch := none, stageWait := none, built := [], switches := [], active := [], imageId := 0, imageSec := 0,
    verified := [], converge := none, rollIn := none, eps := none, isos := [], history := [],
    dumpBuf := none, retained := none, memErr := [], owed := [], upAt := 0, lowBanks := [], mg := [] }

/-- A rate-limit entry (R390). -/
structure RlEntry where
  code : Nat
  valid : Bool
  burst : Nat
  interval : Nat
  tokens : Nat
  suppressed : Nat
  last : Nat
  deriving DecidableEq, Repr

/-- A key slot of the vault (R404): state 0 EMPTY, 1 VALID, 2 STALE, its flags, parent, material, KEY_ID and GEN. -/
structure KeySlot where
  state : Nat
  derived : Bool
  verify : Bool
  tag : Bool
  derive : Bool
  parent : Nat
  key : List Byte
  keyId : Nat
  gen : Nat
  deriving DecidableEq, Repr

/-- An EMPTY slot. -/
def KeySlot.empty : KeySlot := ⟨0, false, false, false, false, 0, [], 0, 0⟩

/-- A root key entry (R396). -/
structure RootEntry where
  keyId : Nat
  x : Nat
  y : Nat
  deriving DecidableEq, Repr

/-- A set of slots made stale at one instant (R408): the instant S, the slots, whether they have gone stale yet, and
what waits for their zeroisation: a mailbox channel or a lifecycle target. -/
structure StaleSet where
  s : Nat
  slots : List Nat
  stale : Bool
  chan : Option Nat
  target : Option Nat
  deriving DecidableEq, Repr

/-- The vault. Its counters and status shown in INK_, EVR_ and KEY_ registers have their one home there. -/
structure InkSt where
  vt : Nat                                -- vault time in units of 2⁻¹⁶ ns, counted in whole ticks when read (R382)
  savedVt : Nat                           -- vault time as last saved to MRAM (R381)
  oscFail : Bool                          -- the oscillator has stopped
  ring : Mem                              -- the event ring, 4 MiB
  rl : List (Nat × RlEntry)               -- rate-limit entries 0 to 1,023
  rlDef : RlEntry
  ident : List Byte                       -- factory identity block (R393)
  tag0 : List Byte                        -- tag area copies (R394)
  tag1 : List Byte
  boot0 : List Byte                       -- boot table copies (R419)
  boot1 : List Byte
  slots : List (Nat × KeySlot)
  roots : List (Nat × RootEntry)          -- entry e of root r at 4 r + e
  revoked : List (Nat × RootEntry)
  devKey : Nat                            -- the device's private key
  stale : List StaleSet
  tampLast : List (Nat × Nat × Nat × Nat × Option Nat) -- assertions not yet recorded: input, ticks, INK_PCYC, slots, old lifecycle
  decom : Nat                             -- DECOM bits of TAMPER_CFG
  ophAt : Nat                             -- vault second up to which INK_OPH has counted
  clearing : Bool
  header : Bool                           -- MRAM holds a valid vault header
  powered : Bool                          -- VINK within range
  savedOph : Nat
  savedPcyc : Nat
  standby : Bool                          -- in standby since its last entry (R380, R381)
  latHi : Nat                             -- INK_VTIME_HI and TICK as latched by a read of LO
  latTick : Nat
  deriving DecidableEq, Repr

/-- The vault as the model starts it: header present, nothing recorded, every slot and root entry empty (log entry 3). -/
def InkSt.first : InkSt :=
  { vt := 0, savedVt := 0, oscFail := false, ring := [], rl := [], rlDef := ⟨0, true, 255, 1, 255, 0, 0⟩, ident := [],
    tag0 := [], tag1 := [], boot0 := [], boot1 := [], slots := [], roots := [], revoked := [], devKey := 1, stale := [],
    tampLast := [], decom := 0, ophAt := 0, clearing := false, header := true, powered := true, savedOph := 0,
    savedPcyc := 0, standby := true, latHi := 0, latTick := 0 }

end Sys2Proof.Machine
end

