-- ==== Sys2Proof/Machine/LaneState.lean ====
section
/-!
DEFINITION. What a lane holds beside its registers, tables and memory: its copy of a plane's clock, its event queue,
and the state of its units.
-/

namespace Sys2Proof.Machine
open Sys2Proof

/-- A channel sample: INT32 value, ingest quality code (Table 6.8), TEST mark, and the 32-bit quality it came with (R151); what a
filter stage computes has none. -/
structure Smp where
  val : Int
  code : Nat
  test : Bool
  q : Nat
  deriving DecidableEq, Repr

/-- A missing sample. -/
def Smp.missing : Smp := ⟨0, 3, false, 0⟩

/-- One copy of a frame: the LAN it came on, its stamp and its samples, ASDU by ASDU. -/
structure SvCopy where
  lan : Nat
  stamp : Nat
  data : List (List Smp)
  deriving DecidableEq, Repr

/-- A frame accepted at the continuity check whose place in the stream's order is still kept (R139 to R141): its key, the
octets compared between its copies, the copies by LAN, the timing copy once decided, the skipped samples before it,
whether it is delivered, whether it anchors the tracker anew, whether no loss deadline ran before it, and whether it is the first one
delivered since the stream became LIVE (R171). -/
structure SvFrame where
  key : Nat
  oct : List Byte
  copies : List SvCopy
  timing : Option SvCopy
  gap : Nat
  deliver : Bool
  anchor : Bool
  first : Bool
  revives : Bool
  deriving DecidableEq, Repr

/-- A frame already decided: its key, the octets of its first copy, and the LANs seen (R139). -/
structure SvDone where
  key : Nat
  oct : List Byte
  lans : List Nat
  timing : Nat
  stamp : Nat
  deriving DecidableEq, Repr

/-- A delivered sample of a stream on the fine path: its number in smpCnt order, its smpCnt, instant, timing-copy stamp, and
channels. -/
structure FineSmp where
  n : Nat
  cnt : Nat
  t : Int
  stamp : Nat
  chans : List Smp
  deriving DecidableEq, Repr

/-- The newest GOOD or QUEST sample of a channel that has left the 512-entry history: its number, stamp and value (R169). -/
structure OldGood where
  n : Nat
  stamp : Nat
  val : Int
  deriving DecidableEq, Repr

/-- What a stream holds beside its state record (Table 6.10). -/
structure StrSt where
  phase : Int                             -- the tracker phase in linear time (R143)
  pend : List SvFrame                     -- accepted frames not yet decided, in key order
  done : List SvDone                      -- the last 16 decided frames, newest first
  alive : Option Nat                      -- ALIVE of the last accepted frame (R289)
  lossAt : Nat                            -- the loss deadline that made the stream LOST
  overdue : Option (Nat × Nat)            -- a loss deadline that no copy has met, and the key of the frame that missed it
  fine : List FineSmp                     -- the last 512 delivered samples, newest first (R161)
  nextN : Nat
  old : List (Nat × OldGood)              -- per channel, what the hold value needs beyond the history (R169)
  sw : List (Nat × List Smp)              -- the Speedwell delay line by smpCnt, newest first (R176)
  swGood : List (Nat × Int)               -- per channel, the Speedwell hold value since LIVE (R176)
  rel : Option Nat                        -- the next instant of a solo stream (R148)
  alignD : Option Nat                     -- the last alignment deadline decided while it was late (R27, R147)
  deriving DecidableEq, Repr

/-- A stream as created: WAITING, nothing held. -/
def StrSt.empty : StrSt := ⟨0, [], [], none, 0, none, [], 0, [], [], [], none, none⟩

/-- A released instant waiting for a slot: its number, the latest stamp eligible for it, whether the stream was LIVE, and
the moment of release. -/
structure RelEnt where
  g : Nat
  dl : Nat
  live : Bool
  at_ : Nat
  deriving DecidableEq, Repr

/-- A slot's pipeline, channel by channel: CIC integrators and combs, the resampler outputs in CIC support, the FIR
histories, and the CIC outputs since reset (R164, R166, R172). -/
structure Pipe where
  integ : List (List Int)
  comb : List (List Int)
  cicIn : List (List Smp)
  fir : List (List (List Smp))
  cicOut : Nat
  deriving DecidableEq, Repr

/-- A pipeline after reset. -/
def Pipe.empty : Pipe := ⟨[], [], [], [], 0⟩

/-- What a filter slot holds beside its state record (Table 7.8). -/
structure SlotSt where
  ready : List RelEnt
  pipe : Pipe
  pipe2 : Option Pipe                     -- the wash's second pipeline (R180)
  resetN : Nat                            -- samples numbered below this are from before the reset (R172)
  pendAt : Nat                            -- start instant of the waiting request
  washLen : Nat                           -- LEN latched at the wash's start
  last : Option Nat                       -- the last instant completed
  due : Bool                              -- it still has to meet its new descriptor (R184)
  deriving DecidableEq, Repr

/-- A slot after reset of its lane. -/
def SlotSt.empty : SlotSt := ⟨[], .empty, none, 0, 0, 0, none, false⟩

/-- A Quill token (Table 8.1): the key is the number of the grid instant, or the smpCnt of a Speedwell token, whose
stream and channel stand in `src` as stream + 8192 × channel; `fresh` marks the first one after its stream became LIVE
(R194); `opb` is the operator bank active when Quill accepted it (R234). -/
structure Tok where
  key : Nat
  sw : Bool
  src : Nat
  node : Nat
  port : Nat
  code : Nat
  test : Bool
  payload : Nat
  fresh : Bool
  opb : Nat
  deriving DecidableEq, Repr

/-- A source queue of Quill: its tokens, since when its head is held, and whether the source stalls (R175, R192, R193). -/
structure TokQ where
  toks : List Tok
  held : Option Nat
  overLim : Bool
  stall : Bool
  deriving DecidableEq, Repr

/-- An empty source queue. -/
def TokQ.empty : TokQ := ⟨[], none, false, false⟩

/-- A node's ports (R191): tokens and reserved places by port, the state of its firing (0 none, 1 ready, 2 running), the
key it last completed, and the ports awaiting their first token after a reopening (R202). -/
structure NodeSt where
  ports : List (Nat × List Tok)
  resv : List (Nat × Nat)
  firing : Nat
  last : Option Nat
  reopen : List Nat
  deriving DecidableEq, Repr

/-- A node holding nothing. -/
def NodeSt.empty : NodeSt := ⟨[], [], 0, none, []⟩

/-- A ready item (R195): graph bank, node, key, path, group, the operator bank of a Speedwell item (R234), the places it
has reserved (node and port), and since when it is dispatchable, with its order number. -/
structure Item where
  bank : Nat
  node : Nat
  key : Nat
  sw : Bool
  group : Nat
  opb : Nat
  resv : List (Nat × Nat)
  disp : Option (Nat × Nat)
  deriving DecidableEq, Repr

/-- A group's deficit round robin state and its counts (R198, R206). -/
structure GrpSt where
  deficit : Nat
  quantum : Nat
  topped : Bool
  fired : Nat
  waitMax : Nat
  closeFrom : Option Nat                  -- closed to grid keys at or after this instant (R347)
  openFrom : Nat                          -- open to grid keys at or after this instant (R352)
  deriving DecidableEq, Repr

/-- A group at rest. -/
def GrpSt.empty : GrpSt := ⟨0, 0, false, 0, 0, none, 0⟩

/-- A firing running on an element engine (R196). -/
structure EngRun where
  item : Item
  start : Nat
  tries : Nat
  deriving DecidableEq, Repr

/-- Quill's state. -/
structure QuillSt where
  src : List (Nat × TokQ)                 -- sources: 0 to 15 filter engines, 16 Speedwell
  nodes : List (Nat × NodeSt)             -- node n of bank b at 2^18 b + n
  items : List Item                       -- in the order of becoming ready
  deferred : List (Nat × Nat)             -- bank and node
  groups : List (Nat × GrpSt)             -- group g; its items under the old graph bank are arbitrated as group 256 + g
  active : List (Nat × List Nat)          -- active list of a level
  roundLeft : List (Nat × Nat)
  flows : List (Nat × Nat)                -- F of grid flow f of bank b at 2^16 b + f
  eng : List (Nat × EngRun)               -- running firings by engine
  busy : List (Nat × Nat)                 -- run time of each engine in the present load window
  winStart : Nat
  order : Nat                             -- next order number
  gc : Nat                                -- first instant of the active graph bank (R203)
  opsGc : Nat                             -- first instant of the active operator bank (R234)
  opsReset : List Nat                     -- instances to be set to rest before their first new-bank firing (R234)
  operated : List Nat                     -- instances whose last firing had W3.OPERATE = 1 (R237)
  deriving DecidableEq, Repr

/-- Quill after reset. -/
def QuillSt.empty : QuillSt := ⟨[], [], [], [], [], [], [], [], [], [], 0, 0, 0, 0, [], []⟩

/-- A map write on its way to a point (R241): its effective time once known, the stream and smpCnt it waits for on the
Speedwell path, the point, the record without UPD, and the writer's owner. -/
structure MapW where
  e : Option Nat
  sw : Option (Nat × Nat)
  point : Nat
  rec_ : Nat
  owner : Nat
  deriving DecidableEq, Repr

/-- An applied write kept for snapshots (R244): its effective time, point, and the records before and after it. -/
structure MapHist where
  e : Nat
  point : Nat
  old : Nat
  new : Nat
  deriving DecidableEq, Repr

/-- A writer that waits for room in the pending queue or for MAP_CTRL.EN (R243, R472). -/
inductive Waiter where
  | engine (e : Nat)
  | scribe (k : Nat)
  | goose
  | fieldBus
  | request
  deriving DecidableEq, Repr

/-- A snapshot that waits: of a Scribe cycle, of a publication's evaluation, or of a field-bus object's data (R244, R472), with
its cut. -/
inductive SnapReq where
  | scribe (k cut : Nat)
  | pub (n cut : Nat)
  | fbo (d cut : Nat)
  deriving DecidableEq, Repr

/-- A GOOSE copy kept for its timing decision: LAN and stamp. -/
structure GooCopy where
  lan : Nat
  stamp : Nat
  deriving DecidableEq, Repr

/-- An accepted or pending GOOSE message (R250): key, octets compared, copies, timing copy once decided,
whether every member is written, time allowed to live in ms, t seconds, simulate mark, and its members. -/
structure GooMsg where
  st : Nat
  sq : Nat
  oct : List Byte
  copies : List GooCopy
  timing : Option GooCopy
  all : Bool
  first : Bool
  tal : Nat
  tSec : Nat
  sim : Bool
  elems : List BerElem
  deriving DecidableEq, Repr

/-- A decided GOOSE message: key, octets, LANs seen, and the timing copy's LAN and stamp. -/
structure GooDone where
  st : Nat
  sq : Nat
  oct : List Byte
  lans : List Nat
  lan : Nat
  stamp : Nat
  deriving DecidableEq, Repr

/-- What a GOOSE subscription holds beside its window (R250, R252): messages to be decided, the last 16 decided, ALIVE, and
the deadline at which it was lost, and a deadline that no copy has met with the message that missed it. -/
structure GooSt where
  pend : List GooMsg
  done : List GooDone
  alive : Option Nat
  lossAt : Nat
  overdue : Option (Nat × Nat × Nat)
  deriving DecidableEq, Repr

/-- A subscription holding nothing. -/
def GooSt.empty : GooSt := ⟨[], [], none, 0, none⟩

/-- A notice of a committed map write (R283): point, effective time and record. -/
structure Notice where
  point : Nat
  e : Nat
  rec_ : Nat
  deriving DecidableEq, Repr

/-- A posted map request (R245): requester, record address, and of a SNAP request the map has taken the cut, the points listed
and the address of the copy. -/
structure MapReq where
  o : Nat
  addr : Nat
  cut : Option Nat
  pts : List Nat
  dest : Nat
  deriving DecidableEq, Repr

/-- The signal map of a lane beside its points and windows. -/
structure MapSt where
  pend : List MapW                        -- the pending queue, in issue order (R242)
  hist : List MapHist                     -- applied writes newer than H − HOLD, in the order applied
  snaps : List SnapReq                    -- snapshots that wait
  reqs : List MapReq                      -- requests posted and not yet completed (R245)
  waits : List Waiter                     -- writers that wait, each counted once
  goose : List (Nat × GooSt)
  gooOut : List MapW                      -- writes of decided messages and expiries that wait for room (R243)
  gooBuf : List (Nat × Nat × Bool × GooseMsg) -- the GOOSE receiver's input buffer: LAN, stamp, TIME_OK, frame (R243)
  notices : List Notice                   -- notices on their way to publications and voters
  gooLog : List (Nat × Nat × Nat)         -- key promotions logged during a build (R253)
  rests : Option (Nat × List Nat)         -- g_c and the points to be set to the initial record there (R253)
  deriving DecidableEq, Repr

/-- The map after reset. -/
def MapSt.empty : MapSt := ⟨[], [], [], [], [], [], [], [], [], [], none⟩

/-- An output entry of a Scribe engine (R262): the value words as one number, CODE and TEST. -/
structure OutEnt where
  w : Nat
  code : Nat
  test : Bool
  deriving DecidableEq, Repr

/-- A Scribe engine beside its windows and registers (R256): whether a cycle runs or waits for its snapshot, its start, PC,
LBIT, ACC, bit stack, Δ, FIRST, SKIPPED, the cycle count, the start of the previous executed cycle, the earliest next
start, whether the next cycle has FIRST or SKIPPED, the input image, the output image and its last posts, the command
queue, posts that wait, and a program change not yet taken. -/
structure ScrSt where
  run : Bool
  waiting : Bool
  s : Nat
  pc : Nat
  lbit : Bool
  acc : Nat
  stack : List Bool
  delta : Nat
  first : Bool
  skipped : Bool
  c : Nat
  prev : Option Nat
  nextAt : Nat
  firstNext : Bool
  skipNext : Bool
  inp : List Nat
  outp : List (Nat × OutEnt)
  posted : List (Nat × OutEnt)
  queue : List (Nat × Nat)
  posts : List MapW
  lastAt : Nat
  change : Option Nat
  deriving DecidableEq, Repr

/-- A Scribe engine after reset: STOPPED, everything 0. -/
def ScrSt.empty : ScrSt :=
  { run := false, waiting := false, s := 0, pc := 0, lbit := false, acc := 0, stack := [], delta := 0, first := false,
    skipped := false, c := 0, prev := none, nextAt := 0, firstNext := false, skipNext := false, inp := [], outp := [],
    posted := [], queue := [], posts := [], lastAt := 0, change := none }

/-- An issue evaluated and not yet sent (R285), with its send moment, the later of its time and of its evaluation (R286). -/
structure Issue where
  e : Nat
  due : Nat
  num : Nat
  st : Nat
  sq : Nat
  tChg : Nat
  es : Nat
  k : Nat
  data : List Byte
  synced : Bool
  deriving DecidableEq, Repr

/-- An evaluation that waits for its snapshot (R284): its time, whether it is scheduled, and the trigger record. -/
structure EvalReq where
  e : Nat
  sched : Bool
  trig : Option Nat
  deriving DecidableEq, Repr

/-- A publication's running values (R283, R284, R297). -/
structure PubSt where
  on : Bool
  synced : Bool
  first : Bool
  num : Nat
  st : Nat
  sq : Nat
  tChg : Nat
  data : List Byte
  es : Option Nat
  k : Nat
  trig : Option Nat
  start : Option Nat
  evals : List EvalReq
  issues : List Issue
  lastUnsent : Option Issue
  echo : Option Echo
  deriving DecidableEq, Repr

/-- A publication at rest. -/
def PubSt.empty : PubSt :=
  { on := false, synced := false, first := true, num := 0, st := 0, sq := 0, tChg := 0, data := [], es := none, k := 0,
    trig := none, start := none, evals := [], issues := [], lastUnsent := none, echo := none }

/-- A lane's drive of a trip pin (R299, R302): level, when it rose, the level of the latest notice in effect, notices whose
E lies ahead, since when the pin has differed, and whether that run has been reported. -/
structure TripSt where
  drive : Bool
  rose : Nat
  want : Bool
  due : List (Nat × Bool)
  diff : Option Nat
  told : Bool
  deriving DecidableEq, Repr

/-- A drive at rest. -/
def TripSt.empty : TripSt := ⟨false, 0, false, [], none, false⟩

/-- A receive record on the lane cross link (R367): controller 0 to 3, stamp and frame, with the object that
takes it: 1,024 for none, 1,025 for a wrong length, 1,026 for a remote frame. -/
structure RxRec where
  ctl : Nat
  stamp : Nat
  obj : Nat
  frame : CanFrame
  deriving DecidableEq, Repr

/-- A lane's field bus beside its windows and registers. -/
structure FbsSt where
  data : List (Nat × List Byte)           -- data an object sends, or holds while SUSPENDED
  next : List (Nat × List Byte)           -- data queued while the object's frame is on the bus
  cur : List (Nat × Nat × Nat)            -- controller (0 to 3): the object on the bus and its start stamp
  rx : List RxRec                         -- records received and not yet applied in this lane
  starts : List (Nat × Nat)               -- start notices of frames in progress: controller and stamp (R369)
  rd : List (Nat × Nat × Nat × Nat)       -- rate detection of a controller: candidate, pass, run of good frames
  rdAt : List (Nat × Nat)                 -- when its present candidate began
  sw : List (Nat × Nat × Nat)             -- pair: active controller and the stamp from which it is (R376)
  out : List MapW                         -- writes that wait for room in the pending queue (R243)
  cyc : List (Nat × Nat)                  -- last lattice instant of a cyclic object (R370)
  sent : List (Nat × Nat)                 -- stamp of the last record that reached this lane, by controller (R376)
  loose : List (Nat × Bool)               -- objects on the bus that ABORT (false) or RESET (true) met there (R377)
  pref : List Nat                         -- pairs whose PREF_ACTIVE changed and whose bus has not been idle since (R376)
  deriving DecidableEq, Repr

/-- The field bus after reset. -/
def FbsSt.empty : FbsSt := ⟨[], [], [], [], [], [], [], [], [], [], [], [], []⟩

/-- A row of the recorder (R323): its instant, analogue values and codes, and binary words. -/
structure DrcRow where
  g : Nat
  ana : List (Nat × Nat)
  bin : List Nat
  deriving DecidableEq, Repr

/-- An edge of a trigger pin (R325): pin (0 to 3 TRIGIN, 4 and 5 XTRIG), whether it rises, its carried stamp, and OWN. -/
structure DrcEdge where
  pin : Nat
  rise : Bool
  stamp : Nat
  own : Bool
  deriving DecidableEq, Repr

/-- The trigger of a record (Table 14.8): its instant, stamp, mask and condition. -/
structure DrcTrig where
  g : Nat
  stamp : Nat
  mask : Nat
  cond : Nat
  deriving DecidableEq, Repr

/-- The recorder beside its windows and registers (R321 to R334): the next instant to decide, the first since EN, the rows of
the ring or of the record, the trigger, the pre-trigger rows and whether they are short, the end, retriggers, instants with
lost triggers, the last SEQ, the last row of the previous record, the buffers' states (0 EMPTY, 1 CAPTURING, 2 COMPLETE)
and SEQ, each condition's last firing and whether it waits to re-arm, the manual trigger, the edges, the filter tokens
(node, key, W0, CODE), the notices of each point (E and record), and the cross-trigger drives: line, since when in elapsed
time, and until when on the followed clock. `lostHdr` is the count of lost triggers that the record in progress carries; `rearm` the
instant from which tables that a commit brought are used (R335); `slews` the spans of the followed clock, newest first, in which it
slewed or changed plane. -/
structure DrcSt where
  next : Nat
  start : Nat
  rows : List DrcRow
  trig : Option DrcTrig
  pre : Nat
  short : Bool
  end_ : Nat
  retrigs : Nat
  lost : Nat
  seq : Nat
  lastRow : Option Nat
  bufs : List (Nat × Nat × Nat)
  conds : List (Nat × Option Nat × Bool)
  man : Option Nat
  edges : List DrcEdge
  toks : List (Nat × Nat × Nat × Nat)
  notes : List (Nat × List (Nat × Nat))
  xt : List (Nat × Nat × Nat)
  lostHdr : Nat
  rearm : Option Nat
  slews : List (Nat × Nat)
  deriving DecidableEq, Repr

/-- The recorder after reset. -/
def DrcSt.empty : DrcSt :=
  { next := 0, start := 0, rows := [], trig := none, pre := 0, short := false, end_ := 0, retrigs := 0, lost := 0, seq := 0,
    lastRow := none, bufs := [], conds := [], man := none, edges := [], toks := [], notes := [], xt := [],
    lostHdr := 0, rearm := none, slews := [] }

/-- An instance of a lane (R345 to R352): the waiting command (OP and instant), the running one (OP, instant, and whether it
still owes its completion), and the last drain decision (instant and whether it was drained). -/
structure InsSt where
  wait : Option (Nat × Nat)
  run : Option (Nat × Nat × Bool)
  dec : Option (Nat × Bool)
  deriving DecidableEq, Repr

/-- An instance with no command. -/
def InsSt.empty : InsSt := ⟨none, none, none⟩

/-- An operation that a check-value unit runs (R304): POLY, ALIVE_IN, ALIVE_INC, the bytes it was started over, and when. -/
structure ChkRun where
  poly : Nat
  aliveIn : Bool
  aliveInc : Bool
  src : Nat
  len : Nat
  start : Nat
  deriving DecidableEq, Repr

/-- What a lane holds beside its registers, tables and memory. -/
structure LaneSt where
  now : Nat                               -- the lane's copy of its followed clock (R74)
  off : Int                               -- copy minus followed plane's clock, while slewing (R74)
  rate : Int                              -- the rate last received, kept through lane holdover (R74)
  rateFrac : Nat                          -- what the rate has gained below one unit in lane holdover, in 2⁻⁴⁰ of it
  slewFrac : Nat                          -- what a slew has moved below one unit, in 10⁻⁶ of it (R71)
  evq : EvQueue
  keys : List (Nat × KeySlot)             -- lane key store
  keyS : List (Nat × Nat)                 -- stale instant of each slot since it was last loaded, kept past its zeroisation (R408, R409)
  grid : Nat                              -- number of the last grid instant passed (R144)
  gridFirst : Nat                         -- number of the grid's first instant
  strs : List (Nat × StrSt)               -- streams (R149)
  grpRel : List (Nat × Nat)               -- next instant to release, per alignment group (R146)
  subGc : Nat                             -- first instant of the active subscription and group tables (R156)
  fltGc : Nat                             -- first instant of the active slot descriptors (R184)
  ingLog : List (Nat × Nat × Nat)         -- promotions logged during a build: stream, slot and key identifier (R155)
  slots : List (Nat × SlotSt)             -- filter slots, e × 512 + k
  quill : QuillSt
  map : MapSt
  scr : List (Nat × ScrSt)
  pub : List (Nat × PubSt)
  trip : List (Nat × TripSt)
  fbs : FbsSt
  drc : DrcSt
  ins : List (Nat × InsSt)
  chk : List (Nat × ChkRun)               -- operations that run, by unit (R304)
  insGq : List (Nat × Nat)                -- instants at which instances were quiesced, until they start again (R347)
  echoIn : List Echo                      -- echoes that have reached the lane port (R297)
  epsQ : List (Nat × Tok)                 -- Speedwell tokens of the EPS elements, in the order accepted (R422)
  epsPin : List (Nat × Bool × Nat)        -- EPS drive of each pin and the lane time it rose (R422)
  epsLeft : Option (List Nat)             -- pins that have left the EPS since g_h; none before g_h (R424)
  deriving DecidableEq, Repr

/-- A lane after reset. -/
def LaneSt.empty : LaneSt :=
  { now := 0, off := 0, rate := 0, rateFrac := 0, slewFrac := 0, evq := ⟨[], 0⟩, keys := [], keyS := [], grid := 0, gridFirst := 0, strs := [], grpRel := [], subGc := 0, fltGc := 0, ingLog := [],
    slots := [], quill := .empty, map := .empty, scr := [], pub := [], trip := [], fbs := .empty, drc := .empty, ins := [], chk := [],
    insGq := [], echoIn := [], epsQ := [], epsPin := [],
    epsLeft := none }

end Sys2Proof.Machine
end

