-- ==== Sys2Proof/Machine/Regs.lean ====
section
/-!
DEFINITION. The register map: every register and table window of the spec's field tables, by block, with its
offset (R33 to R35 fix the block bases), stride and count, its reset value and the access code of each field (R8).
The rows are those of the register presentations of the chapters ("name — offset — reset", then the field table).
-/

namespace Sys2Proof.Machine
open Sys2Proof

/-- The access codes of Table 0.5 (R8). -/
inductive Acc where
  | rw | ro | wo | w1c | w1s | rc | rwl
  deriving DecidableEq, Repr

/-- The register blocks, without the index of the plane, lane, port, engine or page. -/
inductive Kind where
  | cfg | stw | stwLoad | pwr | ink | evr | key | blt | prt | psw | pswPort | tim | timPort | lcfg | ing | flt | fltEng | qul | ops | map | pub | chk | drc | ins | insPage | fbs | fbsCtl | fbsObj | scr
  deriving DecidableEq, Repr

/-- One block instance of the address map (R33 to R35). -/
inductive Page where
  | cfg | stw (c : Nat) | stwLoad | pwr | ink | evr | key | blt | mg (i : Nat)
  | prt (p : Plane) (i : Nat) | psw (p : Plane) | pswPort (p : Plane) (i : Nat) | tim (p : Plane) | timPort (p : Plane) (i : Nat)
  | lcfg (l : Lane) | ing (l : Lane) | flt (l : Lane) | fltEng (l : Lane) (e : Nat) | qul (l : Lane) | ops (l : Lane)
  | map (l : Lane) | pub (l : Lane) | chk (l : Lane) (u : Nat) | drc (l : Lane) | ins (l : Lane) | insPage (l : Lane) (o : Nat)
  | fbs (l : Lane) | fbsCtl (l : Lane) (c : Nat) | fbsObj (l : Lane) (d : Nat) | scr (l : Lane) (k : Nat)
  deriving DecidableEq, Repr

/-- Base of a plane's register space (Table 1.6). -/
def planeBase : Plane → Nat
  | .a => 0x001001000000
  | .b => 0x001002000000

/-- Base of a lane's register blocks (Table 1.6). -/
def laneBase : Lane → Nat
  | .l0 => 0x001010000000
  | .l1 => 0x001020000000

/-- Base of the Common register block (Table 1.6). -/
def commonBase : Nat := 0x001000000000

/-- The block of a page. -/
def Page.kind : Page → Kind
  | .cfg => .cfg | .stw _ => .stw | .stwLoad => .stwLoad | .pwr => .pwr | .ink => .ink | .evr => .evr | .key => .key | .blt => .blt
  | .mg _ => .prt | .prt _ _ => .prt | .psw _ => .psw | .pswPort _ _ => .pswPort | .tim _ => .tim | .timPort _ _ => .timPort
  | .lcfg _ => .lcfg | .ing _ => .ing | .flt _ => .flt | .fltEng _ _ => .fltEng | .qul _ => .qul | .ops _ => .ops
  | .map _ => .map | .pub _ => .pub | .chk _ _ => .chk | .drc _ => .drc | .ins _ => .ins | .insPage _ _ => .insPage
  | .fbs _ => .fbs | .fbsCtl _ _ => .fbsCtl | .fbsObj _ _ => .fbsObj | .scr _ _ => .scr

/-- The absolute base address of a page: R33 (Common), R34 (planes), R35 (lanes) and the layout table of each block. -/
def Page.base : Page → Nat
  | .cfg => commonBase
  | .stw c => commonBase + 0x100000 + c * 0x1000
  | .stwLoad => commonBase + 0x100000
  | .pwr => commonBase + 0x200000
  | .ink => commonBase + 0x300000
  | .evr => commonBase + 0x400000
  | .key => commonBase + 0x500000
  | .blt => commonBase + 0x600000
  | .mg i => commonBase + 0x700000 + i * 0x40000
  | .prt p i => planeBase p + i * 0x40000
  | .psw p => planeBase p + 0x400000
  | .pswPort p i => planeBase p + 0x401000 + i * 0x100
  | .tim p => planeBase p + 0xC00000
  | .timPort p i => planeBase p + 0xD00000 + i * 0x1000
  | .lcfg l => laneBase l
  | .ing l => laneBase l + 0x400000
  | .flt l => laneBase l + 0x800000
  | .fltEng l e => laneBase l + 0x801000 + e * 0x100
  | .qul l => laneBase l + 0xC00000
  | .ops l => laneBase l + 0x1000000
  | .map l => laneBase l + 0x1400000
  | .pub l => laneBase l + 0x1800000
  | .chk l u => laneBase l + 0x1C01000 + u * 0x100
  | .drc l => laneBase l + 0x2000000
  | .ins l => laneBase l + 0x2400000
  | .insPage l o => laneBase l + 0x2430000 + o * 0x100
  | .fbs l => laneBase l + 0x2800000
  | .fbsCtl l c => laneBase l + 0x2801000 + c * 0x400
  | .fbsObj l d => laneBase l + 0x2840000 + d * 16
  | .scr l k => laneBase l + 0x4000000 + k * 0x100000

/-- Every register name of the spec. -/
inductive RegId where
  | CFG_DEVICE_ID | CFG_DOMAIN_STATUS | CFG_BCAST_STATUS | CFG_BCAST_ADDR | CFG_BCAST_DATA0 | CFG_BCAST_DATA1 | CFG_LANE_ID
  | CFG_PAIR_STATUS | CFG_SETTLE_OVR | STW_CMD | STW_ARG | STW_GO | STW_CANCEL | STW_STATUS | STW_RES | STW_PROGRESS | STW_INT_EN
  | STW_LOAD_STATUS | STW_LOAD_TARGETS | STW_BANK | TIM_CTRL | TIM_STATUS | TIM_NOW_W0 | TIM_NOW_W1 | TIM_NOW_W2 | TIM_OFFSET_XPLANE
  | TIM_LIMITS | TIM_DOM_CFG | TIM_DOM_STATUS | TIM_DOM_OFFSET | TIM_DOM_GM0 | TIM_DOM_GM1 | TIM_PPS_CTRL | TIM_PPS_ADJ0 | TIM_PPS_ADJ1
  | TIM_PPS_IN_W0 | TIM_PPS_IN_W1 | TIM_PPS_IN_W2 | TIM_NIB_RXADJ | TIM_NIB_TXADJ | TIM_PTP_PORT | TIM_PDELAY | TIM_TXQ_STATUS
  | TIM_TXQ_FALLBACK | TIM_TXQ_ENT | CFG_TIME_FOLLOW | CFG_TIME_DIFF | PRT_CFG | PRT_MAXLEN | PRT_STATUS | PRT_PAUSE_CFG | PRT_PAUSE_QUANTA
  | PRT_PAUSE_STATE | PRT_MACADDR_LO | PRT_MACADDR_HI | PRT_CNT_CLR | PRT_CNT | PRT_MG_CTL | PRT_MG_FILT_LO | PRT_MG_FILT_HI
  | PRT_MG_RXBASE_LO | PRT_MG_TXBASE_LO | PRT_MG_RXBASE_HI | PRT_MG_TXBASE_HI | PRT_MG_TX_KICK | PSW_CTRL | PSW_STATUS | PSW_TBL_STATUS
  | PSW_PCP_MAP | PSW_LINK_HOLD | PSW_AGE_MAX | PSW_PAUSE_GRACE | PSW_SEQ_CFG | PSW_RED_CFG | PSW_BUF_FREE | PSW_BUF_LOW | PSW_PCNT
  | PSW_CNT_CLR | PSW_HCAP_CTRL | PSW_HCAP_BASE_LO | PSW_HCAP_BASE_HI | PSW_HCAP_HEAD | PSW_HCAP_TAIL | PSW_HCAP_LOST | PSW_HCAP_FILT_A
  | PSW_HCAP_FILT_B | PSW_PORT_CFG | PSW_IN_THR | PSW_IN_LIM | PSW_OCC | PSW_EQ | PSW_CNT | ING_CTRL | ING_STATUS | ING_TBL_STATUS
  | ING_CNT | ING_CNT_CLR | FLT_CTRL | FLT_STATUS | FLT_CNT | FLT_CNT_CLR | FLT_ENG_CFG | FLT_WASH_LEN | FLT_SWAP_REQ | FLT_SWAP_SEC
  | FLT_SWAP_IDX | FLT_SWAP_GO | FLT_ENG_LAG | QUL_CTRL | QUL_STATUS | QUL_GRAPH_BASE_LO | QUL_GRAPH_BASE_HI | QUL_LVL_CFG | QUL_LVL_STAT
  | QUL_HIST_SEL | QUL_HIST | QUL_LOAD_WIN | QUL_ENG_LOAD | QUL_GRP_CTL | QUL_CNT | QUL_CNT_CLR | OPS_CTRL | OPS_STATUS | OPS_AREA_BASE_LO
  | OPS_AREA_BASE_HI | OPS_STATE_BASE_LO | OPS_STATE_BASE_HI | OPS_STATE_SIZE | OPS_ENG_OUT_LO | OPS_ENG_OUT_HI | OPS_CNT | OPS_CNT_CLR
  | MAP_CTRL | MAP_STATUS | MAP_BASE_LO | MAP_BASE_HI | MAP_PEND_BASE_LO | MAP_PEND_BASE_HI | MAP_PEND_CFG | MAP_TBL_STATUS
  | MAP_PEND_DEPTH | MAP_PEND_MAX | MAP_REQ_LO | MAP_REQ_HI | MAP_REQ_GO | MAP_REQ_FAULT | MAP_CNT | MAP_CNT_CLR | SCR_PERIOD | SCR_OFFSET
  | SCR_WDOG | SCR_SIZE | SCR_MODE | SCR_RETAIN | SCR_STATUS | SCR_CMD | SCR_AT_SEC | SCR_AT_US | SCR_CMD_GO | SCR_CYC_MAX | SCR_CNT
  | SCR_CNT_CLR | PUB_CTRL | PUB_STATUS | PUB_TRIP_STATUS | PUB_TRIP_DRIVE | PUB_CNT | PUB_CNT_CLR | CHK_CFG | CHK_SRC_LO | CHK_SRC_HI
  | CHK_LEN | CHK_GO | CHK_STATUS | CHK_VALUE_LO | CHK_VALUE_HI | CHK_RESULT_LO | CHK_RESULT_HI | CHK_ALIVE | PSW_MERGE_CFG | PSW_DIV_CAPT0
  | PSW_DIV_CAPT1 | DRC_CTRL | DRC_STATUS | DRC_MEM_BASE_LO | DRC_MEM_BASE_HI | DRC_MEM_CFG | DRC_LAST | DRC_RELEASE | DRC_RESUME
  | DRC_MAN_SEC | DRC_MAN_US | DRC_MAN_GO | DRC_XT_CFG | DRC_CNT | DRC_CNT_CLR | INS_STATUS | INS_CHG_MAP_LO | INS_CHG_MAP_HI
  | INS_VINT_SUM_LO | INS_VINT_SUM_HI | INS_VINT_SUM_MGR | INS_DIRTY_CTL | INS_DIRTY_RING_LO | INS_DIRTY_RING_HI | INS_DIRTY_MAP_LO
  | INS_DIRTY_MAP_HI | INS_DIRTY_HEAD | INS_DIRTY_TAIL | INS_DIRTY_EPOCH | INS_DIRTY_LOST | INS_CMD | INS_AT_SEC | INS_AT_IDX | INS_CMD_GO
  | INS_CMD_STATUS | INS_STATE | INS_DRAIN_LIMIT | INS_VINT_ROUTE | INS_VINT_INJECT | INS_VINT_PEND | INS_VINT_EN | INS_OCNT | INS_OCNT_CLR
  | FBS_OBJ_CMD | FBS_OBJ_FLAGS | FBS_CTRL | FBS_STATUS | FBS_NBT | FBS_DBT | FBS_TDC | FBS_ERR | FBS_RD_CFG | FBS_RD_STATUS | FBS_RD_NBT
  | FBS_RD_DBT | FBS_CNT | FBS_CNT_CLR | INK_STATUS | INK_VTIME_LO | INK_VTIME_HI | INK_VTIME_TICK | INK_OPH | INK_PCYC | INK_VINK_LOSS
  | INK_TAMPER_CFG | INK_DIEID | EVR_HEAD | EVR_TAIL | EVR_WRAPS | EVR_CLR_COUNT | EVR_OVERWRITTEN | EVR_SUPPRESSED | EVR_STATUS
  | KEY_ROOT_STATUS | KEY_PENDING | KEY_MCOUNT | KEY_SLOT_W | CFG_BOOT_STATUS | BLT_CFG | BLT_STATUS | BLT_CTRL | BLT_ACC_STATUS
  | BLT_ACC_ADDR_LO | BLT_ACC_ADDR_HI | BLT_CORR | BLT_UNC | CFG_ACC_STATUS | PWR_TEMP | PWR_TEMP_ALARM | PWR_BANK_STATUS | SCR_SH_PERIOD
  | SCR_SH_OFFSET | SCR_SH_WDOG | SCR_SH_SIZE | SCR_SH_MODE | SCR_SH_RETAIN
  deriving DecidableEq, Repr

/-- Block, offset, stride, count and plain reset value of a register. -/
structure Geom where
  kind : Kind
  off : Nat
  stride : Nat
  count : Nat
  reset : Word
  deriving DecidableEq, Repr

/-- Where each register lies in its block and what it holds after reset. The registers whose reset value is the
vault's, a descriptor's or the banks' are given 0 here (log entry 3). -/
def RegId.geom : RegId → Geom
  | .CFG_DEVICE_ID => ⟨.cfg, 0x0, 4, 1, 0x96800B01⟩
  | .CFG_DOMAIN_STATUS => ⟨.cfg, 0x10, 4, 1, 0x00000500⟩
  | .CFG_BCAST_STATUS => ⟨.cfg, 0x20, 4, 1, 0x00000000⟩
  | .CFG_BCAST_ADDR => ⟨.cfg, 0x24, 4, 1, 0x00000000⟩
  | .CFG_BCAST_DATA0 => ⟨.cfg, 0x28, 4, 1, 0x00000000⟩
  | .CFG_BCAST_DATA1 => ⟨.cfg, 0x2C, 4, 1, 0x00000000⟩
  | .CFG_LANE_ID => ⟨.lcfg, 0x0, 4, 1, 0x00000000⟩
  | .CFG_PAIR_STATUS => ⟨.lcfg, 0x10, 4, 1, 0x00000000⟩
  | .CFG_SETTLE_OVR => ⟨.lcfg, 0x20, 4, 1, 0x00000000⟩
  | .STW_CMD => ⟨.stw, 0x0, 4, 1, 0x00000000⟩
  | .STW_ARG => ⟨.stw, 0x10, 4, 16, 0x00000000⟩
  | .STW_GO => ⟨.stw, 0x80, 4, 1, 0x00000000⟩
  | .STW_CANCEL => ⟨.stw, 0x84, 4, 1, 0x00000000⟩
  | .STW_STATUS => ⟨.stw, 0x90, 4, 1, 0x00000000⟩
  | .STW_RES => ⟨.stw, 0xA0, 4, 16, 0x00000000⟩
  | .STW_PROGRESS => ⟨.stw, 0xE0, 4, 1, 0x00000000⟩
  | .STW_INT_EN => ⟨.stw, 0xF0, 4, 1, 0x00000000⟩
  | .STW_LOAD_STATUS => ⟨.stwLoad, 0x2000, 4, 1, 0x00000000⟩
  | .STW_LOAD_TARGETS => ⟨.stwLoad, 0x2004, 4, 1, 0x00000000⟩
  | .STW_BANK => ⟨.stwLoad, 0x2010, 4, 1, 0x00000000⟩
  | .TIM_CTRL => ⟨.tim, 0x0, 4, 1, 0x003C0A07⟩
  | .TIM_STATUS => ⟨.tim, 0x4, 4, 1, 0x00000000⟩
  | .TIM_NOW_W0 => ⟨.tim, 0x10, 4, 1, 0x00000000⟩
  | .TIM_NOW_W1 => ⟨.tim, 0x14, 4, 1, 0x00000000⟩
  | .TIM_NOW_W2 => ⟨.tim, 0x18, 4, 1, 0x00000000⟩
  | .TIM_OFFSET_XPLANE => ⟨.tim, 0x20, 4, 1, 0x00000000⟩
  | .TIM_LIMITS => ⟨.tim, 0x24, 4, 1, 0x00640014⟩
  | .TIM_DOM_CFG => ⟨.tim, 0x100, 64, 2, 0x00070033⟩
  | .TIM_DOM_STATUS => ⟨.tim, 0x104, 64, 2, 0x00000000⟩
  | .TIM_DOM_OFFSET => ⟨.tim, 0x108, 64, 2, 0x00000000⟩
  | .TIM_DOM_GM0 => ⟨.tim, 0x110, 64, 2, 0x00000000⟩
  | .TIM_DOM_GM1 => ⟨.tim, 0x114, 64, 2, 0x00000000⟩
  | .TIM_PPS_CTRL => ⟨.tim, 0x200, 4, 1, 0x00006400⟩
  | .TIM_PPS_ADJ0 => ⟨.tim, 0x204, 4, 1, 0x00000000⟩
  | .TIM_PPS_ADJ1 => ⟨.tim, 0x208, 4, 1, 0x00000000⟩
  | .TIM_PPS_IN_W0 => ⟨.tim, 0x210, 4, 1, 0x00000000⟩
  | .TIM_PPS_IN_W1 => ⟨.tim, 0x214, 4, 1, 0x00000000⟩
  | .TIM_PPS_IN_W2 => ⟨.tim, 0x218, 4, 1, 0x00000000⟩
  | .TIM_NIB_RXADJ => ⟨.timPort, 0x0, 4, 1, 0x00000000⟩
  | .TIM_NIB_TXADJ => ⟨.timPort, 0x4, 4, 1, 0x00000000⟩
  | .TIM_PTP_PORT => ⟨.timPort, 0x8, 4, 1, 0x00080003⟩
  | .TIM_PDELAY => ⟨.timPort, 0xC, 4, 1, 0xFFFFFFFF⟩
  | .TIM_TXQ_STATUS => ⟨.timPort, 0x10, 4, 1, 0x00000000⟩
  | .TIM_TXQ_FALLBACK => ⟨.timPort, 0x14, 4, 1, 0x00000000⟩
  | .TIM_TXQ_ENT => ⟨.timPort, 0x20, 4, 4, 0x00000000⟩
  | .CFG_TIME_FOLLOW => ⟨.lcfg, 0x30, 4, 1, 0x00140000⟩
  | .CFG_TIME_DIFF => ⟨.lcfg, 0x34, 4, 1, 0x00000000⟩
  | .PRT_CFG => ⟨.prt, 0x0, 4, 1, 0x000A0080⟩
  | .PRT_MAXLEN => ⟨.prt, 0x4, 4, 1, 0x00000600⟩
  | .PRT_STATUS => ⟨.prt, 0x8, 4, 1, 0x00000000⟩
  | .PRT_PAUSE_CFG => ⟨.prt, 0xC, 4, 1, 0x00000000⟩
  | .PRT_PAUSE_QUANTA => ⟨.prt, 0x10, 4, 1, 0x7FFFFFFF⟩
  | .PRT_PAUSE_STATE => ⟨.prt, 0x14, 4, 1, 0x00000000⟩
  | .PRT_MACADDR_LO => ⟨.prt, 0x18, 4, 1, 0x00000000⟩
  | .PRT_MACADDR_HI => ⟨.prt, 0x1C, 4, 1, 0x00000000⟩
  | .PRT_CNT_CLR => ⟨.prt, 0x20, 4, 1, 0x00000000⟩
  | .PRT_CNT => ⟨.prt, 0x100, 4, 26, 0x00000000⟩
  | .PRT_MG_CTL => ⟨.prt, 0x200, 4, 1, 0x00000001⟩
  | .PRT_MG_FILT_LO => ⟨.prt, 0x210, 8, 16, 0x00000000⟩
  | .PRT_MG_FILT_HI => ⟨.prt, 0x214, 8, 16, 0x00000000⟩
  | .PRT_MG_RXBASE_LO => ⟨.prt, 0x300, 4, 1, 0x00000000⟩
  | .PRT_MG_TXBASE_LO => ⟨.prt, 0x310, 4, 1, 0x00000000⟩
  | .PRT_MG_RXBASE_HI => ⟨.prt, 0x304, 4, 1, 0x00000000⟩
  | .PRT_MG_TXBASE_HI => ⟨.prt, 0x314, 4, 1, 0x00000000⟩
  | .PRT_MG_TX_KICK => ⟨.prt, 0x320, 4, 1, 0x00000000⟩
  | .PSW_CTRL => ⟨.psw, 0x0, 4, 1, 0x012C0001⟩
  | .PSW_STATUS => ⟨.psw, 0x4, 4, 1, 0x00000000⟩
  | .PSW_TBL_STATUS => ⟨.psw, 0x14, 4, 1, 0x00000000⟩
  | .PSW_PCP_MAP => ⟨.psw, 0x20, 4, 1, 0x00FAC688⟩
  | .PSW_LINK_HOLD => ⟨.psw, 0x30, 4, 1, 0x0000000A⟩
  | .PSW_AGE_MAX => ⟨.psw, 0x40, 4, 8, 0x00000000⟩
  | .PSW_PAUSE_GRACE => ⟨.psw, 0x60, 4, 1, 0x00000FA0⟩
  | .PSW_SEQ_CFG => ⟨.psw, 0x70, 4, 1, 0x040007D0⟩
  | .PSW_RED_CFG => ⟨.psw, 0x80, 4, 1, 0x07D00000⟩
  | .PSW_BUF_FREE => ⟨.psw, 0x90, 4, 1, 0x00010000⟩
  | .PSW_BUF_LOW => ⟨.psw, 0x94, 4, 1, 0x00010000⟩
  | .PSW_PCNT => ⟨.psw, 0xA0, 4, 12, 0x00000000⟩
  | .PSW_CNT_CLR => ⟨.psw, 0xFC, 4, 1, 0x00000000⟩
  | .PSW_HCAP_CTRL => ⟨.psw, 0x100, 4, 1, 0x00000000⟩
  | .PSW_HCAP_BASE_LO => ⟨.psw, 0x104, 4, 1, 0x00000000⟩
  | .PSW_HCAP_BASE_HI => ⟨.psw, 0x108, 4, 1, 0x00000000⟩
  | .PSW_HCAP_HEAD => ⟨.psw, 0x10C, 4, 1, 0x00000000⟩
  | .PSW_HCAP_TAIL => ⟨.psw, 0x110, 4, 1, 0x00000000⟩
  | .PSW_HCAP_LOST => ⟨.psw, 0x114, 4, 1, 0x00000000⟩
  | .PSW_HCAP_FILT_A => ⟨.psw, 0x120, 8, 8, 0x00000000⟩
  | .PSW_HCAP_FILT_B => ⟨.psw, 0x124, 8, 8, 0x00000000⟩
  | .PSW_PORT_CFG => ⟨.pswPort, 0x0, 4, 1, 0x00010001⟩
  | .PSW_IN_THR => ⟨.pswPort, 0x10, 16, 8, 0x00000000⟩
  | .PSW_IN_LIM => ⟨.pswPort, 0x14, 16, 8, 0x10000010⟩
  | .PSW_OCC => ⟨.pswPort, 0x18, 16, 8, 0x00000000⟩
  | .PSW_EQ => ⟨.pswPort, 0x1C, 16, 8, 0x10000000⟩
  | .PSW_CNT => ⟨.pswPort, 0xA0, 4, 10, 0x00000000⟩
  | .ING_CTRL => ⟨.ing, 0x0, 4, 1, 0x00000010⟩
  | .ING_STATUS => ⟨.ing, 0x4, 4, 1, 0x00000000⟩
  | .ING_TBL_STATUS => ⟨.ing, 0x14, 4, 1, 0x00000000⟩
  | .ING_CNT => ⟨.ing, 0x40, 4, 11, 0x00000000⟩
  | .ING_CNT_CLR => ⟨.ing, 0xFC, 4, 1, 0x00000000⟩
  | .FLT_CTRL => ⟨.flt, 0x0, 4, 1, 0x00000000⟩
  | .FLT_STATUS => ⟨.flt, 0x4, 4, 1, 0x00000000⟩
  | .FLT_CNT => ⟨.flt, 0x40, 4, 7, 0x00000000⟩
  | .FLT_CNT_CLR => ⟨.flt, 0xFC, 4, 1, 0x00000000⟩
  | .FLT_ENG_CFG => ⟨.fltEng, 0x0, 4, 1, 0x00000000⟩
  | .FLT_WASH_LEN => ⟨.fltEng, 0x4, 4, 1, 0x00000060⟩
  | .FLT_SWAP_REQ => ⟨.fltEng, 0x10, 4, 1, 0x00000000⟩
  | .FLT_SWAP_SEC => ⟨.fltEng, 0x14, 4, 1, 0x00000000⟩
  | .FLT_SWAP_IDX => ⟨.fltEng, 0x18, 4, 1, 0x00000000⟩
  | .FLT_SWAP_GO => ⟨.fltEng, 0x1C, 4, 1, 0x00000000⟩
  | .FLT_ENG_LAG => ⟨.fltEng, 0x20, 4, 1, 0x00000000⟩
  | .QUL_CTRL => ⟨.qul, 0x0, 4, 1, 0x000003E8⟩
  | .QUL_STATUS => ⟨.qul, 0x4, 4, 1, 0x00000000⟩
  | .QUL_GRAPH_BASE_LO => ⟨.qul, 0x8, 4, 1, 0x00000000⟩
  | .QUL_GRAPH_BASE_HI => ⟨.qul, 0xC, 4, 1, 0x00000000⟩
  | .QUL_LVL_CFG => ⟨.qul, 0x10, 4, 8, 0x00000100⟩
  | .QUL_LVL_STAT => ⟨.qul, 0x30, 4, 8, 0x00000000⟩
  | .QUL_HIST_SEL => ⟨.qul, 0x50, 4, 1, 0x00000000⟩
  | .QUL_HIST => ⟨.qul, 0x60, 4, 16, 0x00000000⟩
  | .QUL_LOAD_WIN => ⟨.qul, 0xA0, 4, 1, 0x000003E8⟩
  | .QUL_ENG_LOAD => ⟨.qul, 0x100, 4, 48, 0x00000000⟩
  | .QUL_GRP_CTL => ⟨.qul, 0x13000, 4, 256, 0x00000101⟩
  | .QUL_CNT => ⟨.qul, 0x200, 4, 7, 0x00000000⟩
  | .QUL_CNT_CLR => ⟨.qul, 0x2FC, 4, 1, 0x00000000⟩
  | .OPS_CTRL => ⟨.ops, 0x0, 4, 1, 0x00000000⟩
  | .OPS_STATUS => ⟨.ops, 0x4, 4, 1, 0x00000000⟩
  | .OPS_AREA_BASE_LO => ⟨.ops, 0x8, 4, 1, 0x00000000⟩
  | .OPS_AREA_BASE_HI => ⟨.ops, 0xC, 4, 1, 0x00000000⟩
  | .OPS_STATE_BASE_LO => ⟨.ops, 0x10, 4, 1, 0x00000000⟩
  | .OPS_STATE_BASE_HI => ⟨.ops, 0x14, 4, 1, 0x00000000⟩
  | .OPS_STATE_SIZE => ⟨.ops, 0x18, 4, 1, 0x00000000⟩
  | .OPS_ENG_OUT_LO => ⟨.ops, 0x20, 4, 1, 0x00000000⟩
  | .OPS_ENG_OUT_HI => ⟨.ops, 0x24, 4, 1, 0x00000000⟩
  | .OPS_CNT => ⟨.ops, 0x40, 4, 6, 0x00000000⟩
  | .OPS_CNT_CLR => ⟨.ops, 0xFC, 4, 1, 0x00000000⟩
  | .MAP_CTRL => ⟨.map, 0x0, 4, 1, 0x00000BB8⟩
  | .MAP_STATUS => ⟨.map, 0x4, 4, 1, 0x00000000⟩
  | .MAP_BASE_LO => ⟨.map, 0x8, 4, 1, 0x00000000⟩
  | .MAP_BASE_HI => ⟨.map, 0xC, 4, 1, 0x00000000⟩
  | .MAP_PEND_BASE_LO => ⟨.map, 0x10, 4, 1, 0x00000000⟩
  | .MAP_PEND_BASE_HI => ⟨.map, 0x14, 4, 1, 0x00000000⟩
  | .MAP_PEND_CFG => ⟨.map, 0x18, 4, 1, 0x00000000⟩
  | .MAP_TBL_STATUS => ⟨.map, 0x1C, 4, 1, 0x00000000⟩
  | .MAP_PEND_DEPTH => ⟨.map, 0x20, 4, 1, 0x00000000⟩
  | .MAP_PEND_MAX => ⟨.map, 0x24, 4, 1, 0x00000000⟩
  | .MAP_REQ_LO => ⟨.map, 0x30, 4, 1, 0x00000000⟩
  | .MAP_REQ_HI => ⟨.map, 0x34, 4, 1, 0x00000000⟩
  | .MAP_REQ_GO => ⟨.map, 0x38, 4, 1, 0x00000000⟩
  | .MAP_REQ_FAULT => ⟨.map, 0x3C, 4, 1, 0x00000000⟩
  | .MAP_CNT => ⟨.map, 0x40, 4, 17, 0x00000000⟩
  | .MAP_CNT_CLR => ⟨.map, 0xFC, 4, 1, 0x00000000⟩
  | .SCR_PERIOD => ⟨.scr, 0x0, 4, 1, 0x00000000⟩
  | .SCR_OFFSET => ⟨.scr, 0x4, 4, 1, 0x00000000⟩
  | .SCR_WDOG => ⟨.scr, 0x8, 4, 1, 0x00000000⟩
  | .SCR_SIZE => ⟨.scr, 0xC, 4, 1, 0x00000000⟩
  | .SCR_MODE => ⟨.scr, 0x10, 4, 1, 0x00000000⟩
  | .SCR_RETAIN => ⟨.scr, 0x14, 4, 1, 0x00000000⟩
  | .SCR_STATUS => ⟨.scr, 0x200, 4, 1, 0x00000000⟩
  | .SCR_CMD => ⟨.scr, 0x210, 4, 1, 0x00000000⟩
  | .SCR_AT_SEC => ⟨.scr, 0x214, 4, 1, 0x00000000⟩
  | .SCR_AT_US => ⟨.scr, 0x218, 4, 1, 0x00000000⟩
  | .SCR_CMD_GO => ⟨.scr, 0x21C, 4, 1, 0x00000000⟩
  | .SCR_CYC_MAX => ⟨.scr, 0x220, 4, 1, 0x00000000⟩
  | .SCR_CNT => ⟨.scr, 0x240, 4, 7, 0x00000000⟩
  | .SCR_CNT_CLR => ⟨.scr, 0x2FC, 4, 1, 0x00000000⟩
  | .PUB_CTRL => ⟨.pub, 0x0, 4, 1, 0x00000000⟩
  | .PUB_STATUS => ⟨.pub, 0x4, 4, 1, 0x00000000⟩
  | .PUB_TRIP_STATUS => ⟨.pub, 0x10, 4, 1, 0x00000000⟩
  | .PUB_TRIP_DRIVE => ⟨.pub, 0x14, 4, 1, 0x00000000⟩
  | .PUB_CNT => ⟨.pub, 0x40, 4, 7, 0x00000000⟩
  | .PUB_CNT_CLR => ⟨.pub, 0xFC, 4, 1, 0x00000000⟩
  | .CHK_CFG => ⟨.chk, 0x0, 4, 1, 0x00000000⟩
  | .CHK_SRC_LO => ⟨.chk, 0x4, 4, 1, 0x00000000⟩
  | .CHK_SRC_HI => ⟨.chk, 0x8, 4, 1, 0x00000000⟩
  | .CHK_LEN => ⟨.chk, 0xC, 4, 1, 0x00000000⟩
  | .CHK_GO => ⟨.chk, 0x10, 4, 1, 0x00000000⟩
  | .CHK_STATUS => ⟨.chk, 0x14, 4, 1, 0x00000000⟩
  | .CHK_VALUE_LO => ⟨.chk, 0x18, 4, 1, 0x00000000⟩
  | .CHK_VALUE_HI => ⟨.chk, 0x1C, 4, 1, 0x00000000⟩
  | .CHK_RESULT_LO => ⟨.chk, 0x20, 4, 1, 0x00000000⟩
  | .CHK_RESULT_HI => ⟨.chk, 0x24, 4, 1, 0x00000000⟩
  | .CHK_ALIVE => ⟨.chk, 0x28, 4, 1, 0x00000000⟩
  | .PSW_MERGE_CFG => ⟨.psw, 0x180, 4, 1, 0x00020014⟩
  | .PSW_DIV_CAPT0 => ⟨.psw, 0x184, 4, 1, 0x00000000⟩
  | .PSW_DIV_CAPT1 => ⟨.psw, 0x188, 4, 1, 0x00000000⟩
  | .DRC_CTRL => ⟨.drc, 0x0, 4, 1, 0x00000000⟩
  | .DRC_STATUS => ⟨.drc, 0x4, 4, 1, 0x00000000⟩
  | .DRC_MEM_BASE_LO => ⟨.drc, 0x8, 4, 1, 0x00000000⟩
  | .DRC_MEM_BASE_HI => ⟨.drc, 0xC, 4, 1, 0x00000000⟩
  | .DRC_MEM_CFG => ⟨.drc, 0x10, 4, 1, 0x00000000⟩
  | .DRC_LAST => ⟨.drc, 0x14, 4, 1, 0x00000000⟩
  | .DRC_RELEASE => ⟨.drc, 0x18, 4, 1, 0x00000000⟩
  | .DRC_RESUME => ⟨.drc, 0x1C, 4, 1, 0x00000000⟩
  | .DRC_MAN_SEC => ⟨.drc, 0x20, 4, 1, 0x00000000⟩
  | .DRC_MAN_US => ⟨.drc, 0x24, 4, 1, 0x00000000⟩
  | .DRC_MAN_GO => ⟨.drc, 0x28, 4, 1, 0x00000000⟩
  | .DRC_XT_CFG => ⟨.drc, 0x30, 4, 1, 0x00000064⟩
  | .DRC_CNT => ⟨.drc, 0x40, 4, 8, 0x00000000⟩
  | .DRC_CNT_CLR => ⟨.drc, 0xFC, 4, 1, 0x00000000⟩
  | .INS_STATUS => ⟨.ins, 0x4, 4, 1, 0x00000000⟩
  | .INS_CHG_MAP_LO => ⟨.ins, 0x10, 4, 1, 0x00000000⟩
  | .INS_CHG_MAP_HI => ⟨.ins, 0x14, 4, 1, 0x00000000⟩
  | .INS_VINT_SUM_LO => ⟨.ins, 0x18, 4, 1, 0x00000000⟩
  | .INS_VINT_SUM_HI => ⟨.ins, 0x1C, 4, 1, 0x00000000⟩
  | .INS_VINT_SUM_MGR => ⟨.ins, 0x20, 4, 1, 0x00000000⟩
  | .INS_DIRTY_CTL => ⟨.ins, 0x40, 4, 1, 0x00000000⟩
  | .INS_DIRTY_RING_LO => ⟨.ins, 0x44, 4, 1, 0x00000000⟩
  | .INS_DIRTY_RING_HI => ⟨.ins, 0x48, 4, 1, 0x00000000⟩
  | .INS_DIRTY_MAP_LO => ⟨.ins, 0x4C, 4, 1, 0x00000000⟩
  | .INS_DIRTY_MAP_HI => ⟨.ins, 0x50, 4, 1, 0x00000000⟩
  | .INS_DIRTY_HEAD => ⟨.ins, 0x54, 4, 1, 0x00000000⟩
  | .INS_DIRTY_TAIL => ⟨.ins, 0x58, 4, 1, 0x00000000⟩
  | .INS_DIRTY_EPOCH => ⟨.ins, 0x5C, 4, 1, 0x00000000⟩
  | .INS_DIRTY_LOST => ⟨.ins, 0x60, 4, 1, 0x00000000⟩
  | .INS_CMD => ⟨.insPage, 0x0, 4, 1, 0x00000000⟩
  | .INS_AT_SEC => ⟨.insPage, 0x4, 4, 1, 0x00000000⟩
  | .INS_AT_IDX => ⟨.insPage, 0x8, 4, 1, 0x00000000⟩
  | .INS_CMD_GO => ⟨.insPage, 0xC, 4, 1, 0x00000000⟩
  | .INS_CMD_STATUS => ⟨.insPage, 0x10, 4, 1, 0x00000000⟩
  | .INS_STATE => ⟨.insPage, 0x14, 4, 1, 0x00000000⟩
  | .INS_DRAIN_LIMIT => ⟨.insPage, 0x18, 4, 1, 0x00000000⟩
  | .INS_VINT_ROUTE => ⟨.insPage, 0x1C, 4, 1, 0x00000100⟩
  | .INS_VINT_INJECT => ⟨.insPage, 0x20, 4, 1, 0x00000000⟩
  | .INS_VINT_PEND => ⟨.insPage, 0x40, 4, 8, 0x00000000⟩
  | .INS_VINT_EN => ⟨.insPage, 0x60, 4, 8, 0x00000000⟩
  | .INS_OCNT => ⟨.insPage, 0x80, 4, 5, 0x00000000⟩
  | .INS_OCNT_CLR => ⟨.insPage, 0xFC, 4, 1, 0x00000000⟩
  | .FBS_OBJ_CMD => ⟨.fbsObj, 0x0, 4, 1, 0x00000000⟩
  | .FBS_OBJ_FLAGS => ⟨.fbsObj, 0x4, 4, 1, 0x00000000⟩
  | .FBS_CTRL => ⟨.fbsCtl, 0x0, 4, 1, 0x00000000⟩
  | .FBS_STATUS => ⟨.fbsCtl, 0x4, 4, 1, 0x00000000⟩
  | .FBS_NBT => ⟨.fbsCtl, 0x8, 4, 1, 0x00000000⟩
  | .FBS_DBT => ⟨.fbsCtl, 0xC, 4, 1, 0x00000000⟩
  | .FBS_TDC => ⟨.fbsCtl, 0x10, 4, 1, 0x00000000⟩
  | .FBS_ERR => ⟨.fbsCtl, 0x14, 4, 1, 0x00000000⟩
  | .FBS_RD_CFG => ⟨.fbsCtl, 0x20, 4, 1, 0x03E80811⟩
  | .FBS_RD_STATUS => ⟨.fbsCtl, 0x24, 4, 1, 0x0000000F⟩
  | .FBS_RD_NBT => ⟨.fbsCtl, 0x40, 8, 8, 0x00000000⟩
  | .FBS_RD_DBT => ⟨.fbsCtl, 0x44, 8, 8, 0x00000000⟩
  | .FBS_CNT => ⟨.fbsCtl, 0x100, 4, 14, 0x00000000⟩
  | .FBS_CNT_CLR => ⟨.fbsCtl, 0x1FC, 4, 1, 0x00000000⟩
  | .INK_STATUS => ⟨.ink, 0x0, 4, 1, 0x00000000⟩
  | .INK_VTIME_LO => ⟨.ink, 0x10, 4, 1, 0x00000000⟩
  | .INK_VTIME_HI => ⟨.ink, 0x14, 4, 1, 0x00000000⟩
  | .INK_VTIME_TICK => ⟨.ink, 0x18, 4, 1, 0x00000000⟩
  | .INK_OPH => ⟨.ink, 0x20, 4, 1, 0x00000000⟩
  | .INK_PCYC => ⟨.ink, 0x24, 4, 1, 0x00000000⟩
  | .INK_VINK_LOSS => ⟨.ink, 0x28, 4, 1, 0x00000000⟩
  | .INK_TAMPER_CFG => ⟨.ink, 0x30, 4, 1, 0x00000000⟩
  | .INK_DIEID => ⟨.ink, 0x40, 4, 4, 0x00000000⟩
  | .EVR_HEAD => ⟨.evr, 0x0, 4, 1, 0x00000000⟩
  | .EVR_TAIL => ⟨.evr, 0x4, 4, 1, 0x00000000⟩
  | .EVR_WRAPS => ⟨.evr, 0x8, 4, 1, 0x00000000⟩
  | .EVR_CLR_COUNT => ⟨.evr, 0xC, 4, 1, 0x00000000⟩
  | .EVR_OVERWRITTEN => ⟨.evr, 0x14, 4, 1, 0x00000000⟩
  | .EVR_SUPPRESSED => ⟨.evr, 0x18, 4, 1, 0x00000000⟩
  | .EVR_STATUS => ⟨.evr, 0x10, 4, 1, 0x00000000⟩
  | .KEY_ROOT_STATUS => ⟨.key, 0x0, 4, 1, 0x00000000⟩
  | .KEY_PENDING => ⟨.key, 0x4, 4, 1, 0x00000000⟩
  | .KEY_MCOUNT => ⟨.key, 0x40, 4, 8, 0x00000000⟩
  | .KEY_SLOT_W => ⟨.key, 0x1000, 4, 256, 0x00000000⟩
  | .CFG_BOOT_STATUS => ⟨.cfg, 0x40, 4, 1, 0x00000000⟩
  | .BLT_CFG => ⟨.blt, 0x0, 4, 1, 0x2710080F⟩
  | .BLT_STATUS => ⟨.blt, 0x4, 4, 1, 0x00000000⟩
  | .BLT_CTRL => ⟨.blt, 0x8, 4, 1, 0x00000000⟩
  | .BLT_ACC_STATUS => ⟨.blt, 0x10, 4, 1, 0x00000000⟩
  | .BLT_ACC_ADDR_LO => ⟨.blt, 0x14, 4, 1, 0x00000000⟩
  | .BLT_ACC_ADDR_HI => ⟨.blt, 0x18, 4, 1, 0x00000000⟩
  | .BLT_CORR => ⟨.blt, 0x40, 4, 6, 0x00000000⟩
  | .BLT_UNC => ⟨.blt, 0x60, 4, 6, 0x00000000⟩
  | .CFG_ACC_STATUS => ⟨.lcfg, 0x50, 4, 1, 0x00000000⟩
  | .PWR_TEMP => ⟨.pwr, 0x100, 4, 5, 0x00000000⟩
  | .PWR_TEMP_ALARM => ⟨.pwr, 0x120, 4, 1, 0x00000360⟩
  | .PWR_BANK_STATUS => ⟨.pwr, 0x130, 4, 1, 0x00000000⟩
  | .SCR_SH_PERIOD => ⟨.scr, 0x100, 4, 1, 0x00000000⟩
  | .SCR_SH_OFFSET => ⟨.scr, 0x104, 4, 1, 0x00000000⟩
  | .SCR_SH_WDOG => ⟨.scr, 0x108, 4, 1, 0x00000000⟩
  | .SCR_SH_SIZE => ⟨.scr, 0x10C, 4, 1, 0x00000000⟩
  | .SCR_SH_MODE => ⟨.scr, 0x110, 4, 1, 0x00000000⟩
  | .SCR_SH_RETAIN => ⟨.scr, 0x114, 4, 1, 0x00000000⟩

/-- The value a register holds after the reset of its domain, with the registers whose value depends on the page or
the index: CFG_LANE_ID and CFG_TIME_FOLLOW (lane), PRT_CFG (MG ports), PRT_MAXLEN (ports 11 to 14), TIM_DOMn_CFG
(slot), PSW_AGE_MAXc (class) and QUL_LVL_CFG0. -/
def RegId.resetAt (r : RegId) (p : Page) (k : Nat) : Word :=
  match r, p with
  | .CFG_LANE_ID, .lcfg .l1 => 0x00000001
  | .CFG_TIME_FOLLOW, .lcfg .l1 => 0x00140011
  | .PRT_CFG, .mg _ => 0x000A0087
  | .PRT_MAXLEN, .prt _ i => if 11 ≤ i then 0x00002400 else 0x00000600
  | .TIM_DOM_CFG, _ => if k = 1 then 0x00070133 else 0x00070033
  | .PSW_AGE_MAX, _ => if 4 ≤ k then 0x00000FA0 else 0x00000000
  | .QUL_LVL_CFG, _ => if k = 0 then 0 else 0x00000100
  | r, _ => r.geom.reset

/-- A field of a register: its register, its bits and its access code. -/
structure Fld where
  id : RegId
  hi : Nat
  lo : Nat
  acc : Acc
  deriving DecidableEq, Repr

/-! The fields, named REGISTER_FIELD. -/

def F.CFG_DEVICE_ID_PART : Fld := ⟨.CFG_DEVICE_ID, 31, 16, .ro⟩
def F.CFG_DEVICE_ID_FAMILY : Fld := ⟨.CFG_DEVICE_ID, 15, 8, .ro⟩
def F.CFG_DEVICE_ID_STEPPING : Fld := ⟨.CFG_DEVICE_ID, 7, 0, .ro⟩
def F.CFG_DOMAIN_STATUS_CHANGE : Fld := ⟨.CFG_DOMAIN_STATUS, 16, 16, .w1c⟩
def F.CFG_DOMAIN_STATUS_INKWELL : Fld := ⟨.CFG_DOMAIN_STATUS, 11, 10, .ro⟩
def F.CFG_DOMAIN_STATUS_COMMON : Fld := ⟨.CFG_DOMAIN_STATUS, 9, 8, .ro⟩
def F.CFG_DOMAIN_STATUS_LANE1 : Fld := ⟨.CFG_DOMAIN_STATUS, 7, 6, .ro⟩
def F.CFG_DOMAIN_STATUS_LANE0 : Fld := ⟨.CFG_DOMAIN_STATUS, 5, 4, .ro⟩
def F.CFG_DOMAIN_STATUS_PLANEB : Fld := ⟨.CFG_DOMAIN_STATUS, 3, 2, .ro⟩
def F.CFG_DOMAIN_STATUS_PLANEA : Fld := ⟨.CFG_DOMAIN_STATUS, 1, 0, .ro⟩
def F.CFG_BCAST_STATUS_NOLANE : Fld := ⟨.CFG_BCAST_STATUS, 1, 1, .w1c⟩
def F.CFG_BCAST_STATUS_MISMATCH : Fld := ⟨.CFG_BCAST_STATUS, 0, 0, .w1c⟩
def F.CFG_BCAST_ADDR_IWIN : Fld := ⟨.CFG_BCAST_ADDR, 28, 28, .ro⟩
def F.CFG_BCAST_ADDR_OFFSET : Fld := ⟨.CFG_BCAST_ADDR, 27, 0, .ro⟩
def F.CFG_BCAST_DATA0_VALUE : Fld := ⟨.CFG_BCAST_DATA0, 31, 0, .ro⟩
def F.CFG_BCAST_DATA1_VALUE : Fld := ⟨.CFG_BCAST_DATA1, 31, 0, .ro⟩
def F.CFG_LANE_ID_LANE : Fld := ⟨.CFG_LANE_ID, 0, 0, .ro⟩
def F.CFG_PAIR_STATUS_TIMEOUT_C : Fld := ⟨.CFG_PAIR_STATUS, 5, 5, .w1c⟩
def F.CFG_PAIR_STATUS_TIMEOUT_B : Fld := ⟨.CFG_PAIR_STATUS, 4, 4, .w1c⟩
def F.CFG_PAIR_STATUS_TIMEOUT_A : Fld := ⟨.CFG_PAIR_STATUS, 3, 3, .w1c⟩
def F.CFG_PAIR_STATUS_MISMATCH_C : Fld := ⟨.CFG_PAIR_STATUS, 2, 2, .w1c⟩
def F.CFG_PAIR_STATUS_MISMATCH_B : Fld := ⟨.CFG_PAIR_STATUS, 1, 1, .w1c⟩
def F.CFG_PAIR_STATUS_MISMATCH_A : Fld := ⟨.CFG_PAIR_STATUS, 0, 0, .w1c⟩
def F.CFG_SETTLE_OVR_COUNT : Fld := ⟨.CFG_SETTLE_OVR, 31, 0, .rc⟩
def F.STW_CMD_TAG : Fld := ⟨.STW_CMD, 31, 16, .rw⟩
def F.STW_CMD_OPCODE : Fld := ⟨.STW_CMD, 7, 0, .rw⟩
def F.STW_ARG_VALUE : Fld := ⟨.STW_ARG, 31, 0, .rw⟩
def F.STW_GO_GO : Fld := ⟨.STW_GO, 0, 0, .wo⟩
def F.STW_CANCEL_CANCEL : Fld := ⟨.STW_CANCEL, 0, 0, .wo⟩
def F.STW_STATUS_TAG : Fld := ⟨.STW_STATUS, 31, 16, .ro⟩
def F.STW_STATUS_CODE : Fld := ⟨.STW_STATUS, 15, 8, .ro⟩
def F.STW_STATUS_OVERRUN : Fld := ⟨.STW_STATUS, 2, 2, .w1c⟩
def F.STW_STATUS_DONE : Fld := ⟨.STW_STATUS, 1, 1, .w1c⟩
def F.STW_STATUS_BUSY : Fld := ⟨.STW_STATUS, 0, 0, .ro⟩
def F.STW_RES_VALUE : Fld := ⟨.STW_RES, 31, 0, .ro⟩
def F.STW_PROGRESS_BYTES : Fld := ⟨.STW_PROGRESS, 31, 0, .ro⟩
def F.STW_INT_EN_DONE_IE : Fld := ⟨.STW_INT_EN, 0, 0, .rw⟩
def F.STW_LOAD_STATUS_STATE : Fld := ⟨.STW_LOAD_STATUS, 27, 24, .ro⟩
def F.STW_LOAD_STATUS_LAST_CODE : Fld := ⟨.STW_LOAD_STATUS, 23, 16, .ro⟩
def F.STW_LOAD_STATUS_L1_OUT : Fld := ⟨.STW_LOAD_STATUS, 13, 13, .ro⟩
def F.STW_LOAD_STATUS_L0_OUT : Fld := ⟨.STW_LOAD_STATUS, 12, 12, .ro⟩
def F.STW_LOAD_STATUS_STAGED_MASK : Fld := ⟨.STW_LOAD_STATUS, 11, 0, .ro⟩
def F.STW_LOAD_TARGETS_PLANEB_DONE : Fld := ⟨.STW_LOAD_TARGETS, 3, 3, .ro⟩
def F.STW_LOAD_TARGETS_PLANEA_DONE : Fld := ⟨.STW_LOAD_TARGETS, 2, 2, .ro⟩
def F.STW_LOAD_TARGETS_LANE1_DONE : Fld := ⟨.STW_LOAD_TARGETS, 1, 1, .ro⟩
def F.STW_LOAD_TARGETS_LANE0_DONE : Fld := ⟨.STW_LOAD_TARGETS, 0, 0, .ro⟩
def F.STW_BANK_IMG_TRIALS : Fld := ⟨.STW_BANK, 11, 8, .ro⟩
def F.STW_BANK_FW_TRIALS : Fld := ⟨.STW_BANK, 7, 4, .ro⟩
def F.STW_BANK_IMG_TRIAL : Fld := ⟨.STW_BANK, 3, 3, .ro⟩
def F.STW_BANK_FW_TRIAL : Fld := ⟨.STW_BANK, 2, 2, .ro⟩
def F.STW_BANK_IMG_BANK : Fld := ⟨.STW_BANK, 1, 1, .ro⟩
def F.STW_BANK_FW_BANK : Fld := ⟨.STW_BANK, 0, 0, .ro⟩
def F.TIM_CTRL_REVERT_HOLD : Fld := ⟨.TIM_CTRL, 31, 16, .rw⟩
def F.TIM_CTRL_SLEW_MAX : Fld := ⟨.TIM_CTRL, 11, 8, .rw⟩
def F.TIM_CTRL_PREF : Fld := ⟨.TIM_CTRL, 4, 4, .rw⟩
def F.TIM_CTRL_PPS_SRC : Fld := ⟨.TIM_CTRL, 3, 3, .rw⟩
def F.TIM_CTRL_PEER_SRC : Fld := ⟨.TIM_CTRL, 2, 2, .rw⟩
def F.TIM_CTRL_DOM1_EN : Fld := ⟨.TIM_CTRL, 1, 1, .rw⟩
def F.TIM_CTRL_DOM0_EN : Fld := ⟨.TIM_CTRL, 0, 0, .rw⟩
def F.TIM_STATUS_CHANGE : Fld := ⟨.TIM_STATUS, 16, 16, .w1c⟩
def F.TIM_STATUS_FU_ORPHAN : Fld := ⟨.TIM_STATUS, 12, 12, .w1c⟩
def F.TIM_STATUS_PPS_DRIVE : Fld := ⟨.TIM_STATUS, 11, 11, .ro⟩
def F.TIM_STATUS_PPSIN_NEW : Fld := ⟨.TIM_STATUS, 10, 10, .w1c⟩
def F.TIM_STATUS_XPLANE : Fld := ⟨.TIM_STATUS, 9, 9, .w1c⟩
def F.TIM_STATUS_XDOM : Fld := ⟨.TIM_STATUS, 8, 8, .w1c⟩
def F.TIM_STATUS_STEPPED : Fld := ⟨.TIM_STATUS, 7, 7, .w1c⟩
def F.TIM_STATUS_SLEWING : Fld := ⟨.TIM_STATUS, 6, 6, .ro⟩
def F.TIM_STATUS_STATE : Fld := ⟨.TIM_STATUS, 5, 4, .ro⟩
def F.TIM_STATUS_SOURCE : Fld := ⟨.TIM_STATUS, 2, 0, .ro⟩
def F.TIM_NOW_W0_VALUE : Fld := ⟨.TIM_NOW_W0, 31, 0, .ro⟩
def F.TIM_NOW_W1_VALUE : Fld := ⟨.TIM_NOW_W1, 31, 0, .ro⟩
def F.TIM_NOW_W2_VALUE : Fld := ⟨.TIM_NOW_W2, 31, 0, .ro⟩
def F.TIM_OFFSET_XPLANE_OFFSET : Fld := ⟨.TIM_OFFSET_XPLANE, 31, 0, .ro⟩
def F.TIM_LIMITS_XDOM : Fld := ⟨.TIM_LIMITS, 31, 16, .rw⟩
def F.TIM_LIMITS_XPLANE : Fld := ⟨.TIM_LIMITS, 15, 0, .rw⟩
def F.TIM_DOM_CFG_CLASS_MAX : Fld := ⟨.TIM_DOM_CFG, 23, 16, .rw⟩
def F.TIM_DOM_CFG_DOMAIN : Fld := ⟨.TIM_DOM_CFG, 15, 8, .rw⟩
def F.TIM_DOM_CFG_ANN_TMO : Fld := ⟨.TIM_DOM_CFG, 7, 4, .rw⟩
def F.TIM_DOM_CFG_SYNC_TMO : Fld := ⟨.TIM_DOM_CFG, 3, 0, .rw⟩
def F.TIM_DOM_STATUS_GM_CLASS : Fld := ⟨.TIM_DOM_STATUS, 31, 24, .ro⟩
def F.TIM_DOM_STATUS_UTC_OFFSET : Fld := ⟨.TIM_DOM_STATUS, 23, 16, .ro⟩
def F.TIM_DOM_STATUS_LOG_SYNC : Fld := ⟨.TIM_DOM_STATUS, 15, 8, .ro⟩
def F.TIM_DOM_STATUS_LEAP61 : Fld := ⟨.TIM_DOM_STATUS, 7, 7, .ro⟩
def F.TIM_DOM_STATUS_LEAP59 : Fld := ⟨.TIM_DOM_STATUS, 6, 6, .ro⟩
def F.TIM_DOM_STATUS_C37238 : Fld := ⟨.TIM_DOM_STATUS, 5, 5, .ro⟩
def F.TIM_DOM_STATUS_STATE : Fld := ⟨.TIM_DOM_STATUS, 2, 0, .ro⟩
def F.TIM_DOM_OFFSET_OFFSET : Fld := ⟨.TIM_DOM_OFFSET, 31, 0, .ro⟩
def F.TIM_DOM_GM0_ID : Fld := ⟨.TIM_DOM_GM0, 31, 0, .ro⟩
def F.TIM_DOM_GM1_ID : Fld := ⟨.TIM_DOM_GM1, 31, 0, .ro⟩
def F.TIM_PPS_CTRL_WIDTH : Fld := ⟨.TIM_PPS_CTRL, 19, 8, .rw⟩
def F.TIM_PPS_CTRL_OUT1_EN : Fld := ⟨.TIM_PPS_CTRL, 1, 1, .rw⟩
def F.TIM_PPS_CTRL_OUT0_EN : Fld := ⟨.TIM_PPS_CTRL, 0, 0, .rw⟩
def F.TIM_PPS_ADJ0_ADJ : Fld := ⟨.TIM_PPS_ADJ0, 31, 0, .rw⟩
def F.TIM_PPS_ADJ1_ADJ : Fld := ⟨.TIM_PPS_ADJ1, 31, 0, .rw⟩
def F.TIM_PPS_IN_W0_VALUE : Fld := ⟨.TIM_PPS_IN_W0, 31, 0, .ro⟩
def F.TIM_PPS_IN_W1_VALUE : Fld := ⟨.TIM_PPS_IN_W1, 31, 0, .ro⟩
def F.TIM_PPS_IN_W2_VALUE : Fld := ⟨.TIM_PPS_IN_W2, 31, 0, .ro⟩
def F.TIM_NIB_RXADJ_ADJ : Fld := ⟨.TIM_NIB_RXADJ, 31, 0, .rw⟩
def F.TIM_NIB_TXADJ_ADJ : Fld := ⟨.TIM_NIB_TXADJ, 31, 0, .rw⟩
def F.TIM_PTP_PORT_TXQ_RESERVE : Fld := ⟨.TIM_PTP_PORT, 23, 16, .rw⟩
def F.TIM_PTP_PORT_LOG_PDELAY : Fld := ⟨.TIM_PTP_PORT, 15, 8, .rw⟩
def F.TIM_PTP_PORT_TWO_STEP : Fld := ⟨.TIM_PTP_PORT, 1, 1, .rw⟩
def F.TIM_PTP_PORT_PTP_EN : Fld := ⟨.TIM_PTP_PORT, 0, 0, .rw⟩
def F.TIM_PDELAY_DELAY : Fld := ⟨.TIM_PDELAY, 31, 0, .ro⟩
def F.TIM_TXQ_STATUS_LOST : Fld := ⟨.TIM_TXQ_STATUS, 31, 16, .rc⟩
def F.TIM_TXQ_STATUS_COUNT : Fld := ⟨.TIM_TXQ_STATUS, 6, 0, .ro⟩
def F.TIM_TXQ_FALLBACK_ONESTEP : Fld := ⟨.TIM_TXQ_FALLBACK, 31, 16, .rc⟩
def F.TIM_TXQ_FALLBACK_SKIP : Fld := ⟨.TIM_TXQ_FALLBACK, 15, 0, .rc⟩
def F.TIM_TXQ_ENT_WORD : Fld := ⟨.TIM_TXQ_ENT, 31, 0, .ro⟩
def F.CFG_TIME_FOLLOW_XLIMIT : Fld := ⟨.CFG_TIME_FOLLOW, 31, 16, .rw⟩
def F.CFG_TIME_FOLLOW_XPLANE : Fld := ⟨.CFG_TIME_FOLLOW, 8, 8, .w1c⟩
def F.CFG_TIME_FOLLOW_HOLDOVER : Fld := ⟨.CFG_TIME_FOLLOW, 6, 6, .ro⟩
def F.CFG_TIME_FOLLOW_SLEWING : Fld := ⟨.CFG_TIME_FOLLOW, 5, 5, .ro⟩
def F.CFG_TIME_FOLLOW_FOLLOWING : Fld := ⟨.CFG_TIME_FOLLOW, 4, 4, .ro⟩
def F.CFG_TIME_FOLLOW_DEFAULT : Fld := ⟨.CFG_TIME_FOLLOW, 0, 0, .rw⟩
def F.CFG_TIME_DIFF_DIFF : Fld := ⟨.CFG_TIME_DIFF, 31, 0, .ro⟩
def F.PRT_CFG_LINK_DEB : Fld := ⟨.PRT_CFG, 31, 16, .rw⟩
def F.PRT_CFG_RX_POL : Fld := ⟨.PRT_CFG, 15, 12, .rw⟩
def F.PRT_CFG_TX_POL : Fld := ⟨.PRT_CFG, 11, 8, .rw⟩
def F.PRT_CFG_AN_EN : Fld := ⟨.PRT_CFG, 7, 7, .rw⟩
def F.PRT_CFG_RS_FEC : Fld := ⟨.PRT_CFG, 6, 6, .rw⟩
def F.PRT_CFG_TX_EN : Fld := ⟨.PRT_CFG, 5, 5, .rw⟩
def F.PRT_CFG_RX_EN : Fld := ⟨.PRT_CFG, 4, 4, .rw⟩
def F.PRT_CFG_MODE : Fld := ⟨.PRT_CFG, 3, 0, .rw⟩
def F.PRT_MAXLEN_MAXLEN : Fld := ⟨.PRT_MAXLEN, 13, 0, .rw⟩
def F.PRT_STATUS_CHANGE : Fld := ⟨.PRT_STATUS, 16, 16, .w1c⟩
def F.PRT_STATUS_LANE_LOCK : Fld := ⟨.PRT_STATUS, 11, 8, .ro⟩
def F.PRT_STATUS_HDX : Fld := ⟨.PRT_STATUS, 7, 7, .ro⟩
def F.PRT_STATUS_ALIGNED : Fld := ⟨.PRT_STATUS, 6, 6, .ro⟩
def F.PRT_STATUS_AN_DONE : Fld := ⟨.PRT_STATUS, 5, 5, .ro⟩
def F.PRT_STATUS_REMOTE_FAULT : Fld := ⟨.PRT_STATUS, 4, 4, .ro⟩
def F.PRT_STATUS_LOCAL_FAULT : Fld := ⟨.PRT_STATUS, 3, 3, .ro⟩
def F.PRT_STATUS_SPEED : Fld := ⟨.PRT_STATUS, 2, 1, .ro⟩
def F.PRT_STATUS_LINK : Fld := ⟨.PRT_STATUS, 0, 0, .ro⟩
def F.PRT_PAUSE_CFG_TX_PFC : Fld := ⟨.PRT_PAUSE_CFG, 31, 24, .rw⟩
def F.PRT_PAUSE_CFG_RX_PFC : Fld := ⟨.PRT_PAUSE_CFG, 23, 16, .rw⟩
def F.PRT_PAUSE_CFG_TX_PAUSE : Fld := ⟨.PRT_PAUSE_CFG, 1, 1, .rw⟩
def F.PRT_PAUSE_CFG_RX_PAUSE : Fld := ⟨.PRT_PAUSE_CFG, 0, 0, .rw⟩
def F.PRT_PAUSE_QUANTA_REFRESH : Fld := ⟨.PRT_PAUSE_QUANTA, 31, 16, .rw⟩
def F.PRT_PAUSE_QUANTA_XOFF : Fld := ⟨.PRT_PAUSE_QUANTA, 15, 0, .rw⟩
def F.PRT_PAUSE_STATE_PAUSED : Fld := ⟨.PRT_PAUSE_STATE, 8, 8, .ro⟩
def F.PRT_PAUSE_STATE_CLASS_PAUSED : Fld := ⟨.PRT_PAUSE_STATE, 7, 0, .ro⟩
def F.PRT_MACADDR_LO_ADDR : Fld := ⟨.PRT_MACADDR_LO, 31, 0, .rw⟩
def F.PRT_MACADDR_HI_ADDR : Fld := ⟨.PRT_MACADDR_HI, 15, 0, .rw⟩
def F.PRT_CNT_CLR_CLR : Fld := ⟨.PRT_CNT_CLR, 0, 0, .wo⟩
def F.PRT_CNT_COUNT : Fld := ⟨.PRT_CNT, 31, 0, .rc⟩
def F.PRT_MG_CTL_TX_IE : Fld := ⟨.PRT_MG_CTL, 2, 2, .rw⟩
def F.PRT_MG_CTL_RX_IE : Fld := ⟨.PRT_MG_CTL, 1, 1, .rw⟩
def F.PRT_MG_CTL_BCAST_EN : Fld := ⟨.PRT_MG_CTL, 0, 0, .rw⟩
def F.PRT_MG_FILT_LO_ADDR : Fld := ⟨.PRT_MG_FILT_LO, 31, 0, .rw⟩
def F.PRT_MG_FILT_HI_EN : Fld := ⟨.PRT_MG_FILT_HI, 31, 31, .rw⟩
def F.PRT_MG_FILT_HI_ADDR : Fld := ⟨.PRT_MG_FILT_HI, 15, 0, .rw⟩
def F.PRT_MG_RXBASE_LO_ADDR_LO : Fld := ⟨.PRT_MG_RXBASE_LO, 31, 6, .rw⟩
def F.PRT_MG_TXBASE_LO_ADDR_LO : Fld := ⟨.PRT_MG_TXBASE_LO, 31, 6, .rw⟩
def F.PRT_MG_RXBASE_HI_SIZE_LOG2 : Fld := ⟨.PRT_MG_RXBASE_HI, 31, 28, .rw⟩
def F.PRT_MG_RXBASE_HI_ADDR_HI : Fld := ⟨.PRT_MG_RXBASE_HI, 15, 0, .rw⟩
def F.PRT_MG_TXBASE_HI_SIZE_LOG2 : Fld := ⟨.PRT_MG_TXBASE_HI, 31, 28, .rw⟩
def F.PRT_MG_TXBASE_HI_ADDR_HI : Fld := ⟨.PRT_MG_TXBASE_HI, 15, 0, .rw⟩
def F.PRT_MG_TX_KICK_KICK : Fld := ⟨.PRT_MG_TX_KICK, 0, 0, .wo⟩
def F.PSW_CTRL_MAC_AGE : Fld := ⟨.PSW_CTRL, 31, 16, .rw⟩
def F.PSW_CTRL_IP_CUT : Fld := ⟨.PSW_CTRL, 4, 4, .rw⟩
def F.PSW_CTRL_RED_MODE : Fld := ⟨.PSW_CTRL, 3, 2, .rw⟩
def F.PSW_CTRL_SEQ_OWNER : Fld := ⟨.PSW_CTRL, 1, 1, .rw⟩
def F.PSW_CTRL_EN : Fld := ⟨.PSW_CTRL, 0, 0, .rw⟩
def F.PSW_STATUS_CHANGE : Fld := ⟨.PSW_STATUS, 16, 16, .w1c⟩
def F.PSW_STATUS_IPDOWN : Fld := ⟨.PSW_STATUS, 2, 2, .ro⟩
def F.PSW_STATUS_OWNER : Fld := ⟨.PSW_STATUS, 1, 1, .ro⟩
def F.PSW_STATUS_BANK : Fld := ⟨.PSW_STATUS, 0, 0, .ro⟩
def F.PSW_TBL_STATUS_BUILDING : Fld := ⟨.PSW_TBL_STATUS, 14, 14, .ro⟩
def F.PSW_TBL_STATUS_OVERFLOW : Fld := ⟨.PSW_TBL_STATUS, 13, 13, .ro⟩
def F.PSW_TBL_STATUS_LOG_COUNT : Fld := ⟨.PSW_TBL_STATUS, 12, 0, .ro⟩
def F.PSW_PCP_MAP_MAP : Fld := ⟨.PSW_PCP_MAP, 23, 0, .rw⟩
def F.PSW_LINK_HOLD_HOLD : Fld := ⟨.PSW_LINK_HOLD, 5, 0, .rw⟩
def F.PSW_AGE_MAX_AGE_MAX : Fld := ⟨.PSW_AGE_MAX, 19, 0, .rw⟩
def F.PSW_PAUSE_GRACE_GRACE : Fld := ⟨.PSW_PAUSE_GRACE, 15, 0, .rw⟩
def F.PSW_SEQ_CFG_JUMP : Fld := ⟨.PSW_SEQ_CFG, 30, 16, .rw⟩
def F.PSW_SEQ_CFG_WAIT : Fld := ⟨.PSW_SEQ_CFG, 15, 0, .rw⟩
def F.PSW_RED_CFG_SUPV_INT : Fld := ⟨.PSW_RED_CFG, 31, 16, .rw⟩
def F.PSW_RED_CFG_SUPV_LAST : Fld := ⟨.PSW_RED_CFG, 15, 8, .rw⟩
def F.PSW_RED_CFG_SUPV_EN : Fld := ⟨.PSW_RED_CFG, 7, 7, .rw⟩
def F.PSW_RED_CFG_RING_PORT : Fld := ⟨.PSW_RED_CFG, 3, 0, .rw⟩
def F.PSW_BUF_FREE_FREE : Fld := ⟨.PSW_BUF_FREE, 16, 0, .ro⟩
def F.PSW_BUF_LOW_LOW : Fld := ⟨.PSW_BUF_LOW, 16, 0, .rc⟩
def F.PSW_PCNT_COUNT : Fld := ⟨.PSW_PCNT, 31, 0, .rc⟩
def F.PSW_CNT_CLR_CLR : Fld := ⟨.PSW_CNT_CLR, 0, 0, .wo⟩
def F.PSW_HCAP_CTRL_SIZE_LOG2 : Fld := ⟨.PSW_HCAP_CTRL, 31, 28, .rw⟩
def F.PSW_HCAP_CTRL_MODE : Fld := ⟨.PSW_HCAP_CTRL, 1, 1, .rw⟩
def F.PSW_HCAP_CTRL_EN : Fld := ⟨.PSW_HCAP_CTRL, 0, 0, .rw⟩
def F.PSW_HCAP_BASE_LO_ADDR : Fld := ⟨.PSW_HCAP_BASE_LO, 31, 6, .rw⟩
def F.PSW_HCAP_BASE_HI_ADDR : Fld := ⟨.PSW_HCAP_BASE_HI, 15, 0, .rw⟩
def F.PSW_HCAP_HEAD_INDEX : Fld := ⟨.PSW_HCAP_HEAD, 19, 0, .ro⟩
def F.PSW_HCAP_TAIL_INDEX : Fld := ⟨.PSW_HCAP_TAIL, 19, 0, .rw⟩
def F.PSW_HCAP_LOST_COUNT : Fld := ⟨.PSW_HCAP_LOST, 31, 0, .rc⟩
def F.PSW_HCAP_FILT_A_EN : Fld := ⟨.PSW_HCAP_FILT_A, 31, 31, .rw⟩
def F.PSW_HCAP_FILT_A_DIR : Fld := ⟨.PSW_HCAP_FILT_A, 16, 15, .rw⟩
def F.PSW_HCAP_FILT_A_PORTS : Fld := ⟨.PSW_HCAP_FILT_A, 14, 0, .rw⟩
def F.PSW_HCAP_FILT_B_ETYPE : Fld := ⟨.PSW_HCAP_FILT_B, 31, 16, .rw⟩
def F.PSW_HCAP_FILT_B_VERDICTS : Fld := ⟨.PSW_HCAP_FILT_B, 15, 0, .rw⟩
def F.PSW_PORT_CFG_PVID : Fld := ⟨.PSW_PORT_CFG, 27, 16, .rw⟩
def F.PSW_PORT_CFG_DEF_CLASS : Fld := ⟨.PSW_PORT_CFG, 10, 8, .rw⟩
def F.PSW_PORT_CFG_LEARN : Fld := ⟨.PSW_PORT_CFG, 2, 2, .rw⟩
def F.PSW_PORT_CFG_CUT_EN : Fld := ⟨.PSW_PORT_CFG, 1, 1, .rw⟩
def F.PSW_PORT_CFG_FWD_EN : Fld := ⟨.PSW_PORT_CFG, 0, 0, .rw⟩
def F.PSW_IN_THR_XOFF : Fld := ⟨.PSW_IN_THR, 31, 16, .rw⟩
def F.PSW_IN_THR_XON : Fld := ⟨.PSW_IN_THR, 15, 0, .rw⟩
def F.PSW_IN_LIM_DROP : Fld := ⟨.PSW_IN_LIM, 31, 16, .rw⟩
def F.PSW_IN_LIM_MIN : Fld := ⟨.PSW_IN_LIM, 15, 0, .rw⟩
def F.PSW_OCC_OCC : Fld := ⟨.PSW_OCC, 15, 0, .ro⟩
def F.PSW_EQ_EQ_MAX : Fld := ⟨.PSW_EQ, 31, 16, .rw⟩
def F.PSW_EQ_EQ_OCC : Fld := ⟨.PSW_EQ, 15, 0, .ro⟩
def F.PSW_CNT_COUNT : Fld := ⟨.PSW_CNT, 31, 0, .rc⟩
def F.ING_CTRL_GRID_RATE : Fld := ⟨.ING_CTRL, 6, 4, .rw⟩
def F.ING_CTRL_EN : Fld := ⟨.ING_CTRL, 0, 0, .rw⟩
def F.ING_STATUS_CHANGE : Fld := ⟨.ING_STATUS, 16, 16, .w1c⟩
def F.ING_STATUS_GRID_RUN : Fld := ⟨.ING_STATUS, 1, 1, .ro⟩
def F.ING_STATUS_BANK : Fld := ⟨.ING_STATUS, 0, 0, .ro⟩
def F.ING_TBL_STATUS_BUILDING : Fld := ⟨.ING_TBL_STATUS, 14, 14, .ro⟩
def F.ING_TBL_STATUS_OVERFLOW : Fld := ⟨.ING_TBL_STATUS, 13, 13, .ro⟩
def F.ING_TBL_STATUS_LOG_COUNT : Fld := ⟨.ING_TBL_STATUS, 12, 0, .ro⟩
def F.ING_CNT_COUNT : Fld := ⟨.ING_CNT, 31, 0, .rc⟩
def F.ING_CNT_CLR_CLR : Fld := ⟨.ING_CNT_CLR, 0, 0, .wo⟩
def F.FLT_CTRL_SW_EN : Fld := ⟨.FLT_CTRL, 1, 1, .rw⟩
def F.FLT_CTRL_EN : Fld := ⟨.FLT_CTRL, 0, 0, .rw⟩
def F.FLT_STATUS_BANK : Fld := ⟨.FLT_STATUS, 0, 0, .ro⟩
def F.FLT_CNT_COUNT : Fld := ⟨.FLT_CNT, 31, 0, .rc⟩
def F.FLT_CNT_CLR_CLR : Fld := ⟨.FLT_CNT_CLR, 0, 0, .wo⟩
def F.FLT_ENG_CFG_SLOT_CYC : Fld := ⟨.FLT_ENG_CFG, 31, 16, .rw⟩
def F.FLT_ENG_CFG_N_SLOTS : Fld := ⟨.FLT_ENG_CFG, 9, 0, .rw⟩
def F.FLT_WASH_LEN_LEN : Fld := ⟨.FLT_WASH_LEN, 12, 0, .rw⟩
def F.FLT_SWAP_REQ_BANK : Fld := ⟨.FLT_SWAP_REQ, 14, 12, .rw⟩
def F.FLT_SWAP_REQ_SLOT : Fld := ⟨.FLT_SWAP_REQ, 8, 0, .rw⟩
def F.FLT_SWAP_SEC_SEC : Fld := ⟨.FLT_SWAP_SEC, 31, 0, .rw⟩
def F.FLT_SWAP_IDX_IDX : Fld := ⟨.FLT_SWAP_IDX, 14, 0, .rw⟩
def F.FLT_SWAP_GO_GO : Fld := ⟨.FLT_SWAP_GO, 0, 0, .wo⟩
def F.FLT_ENG_LAG_LAG : Fld := ⟨.FLT_ENG_LAG, 31, 0, .rc⟩
def F.QUL_CTRL_LOCK : Fld := ⟨.QUL_CTRL, 31, 31, .w1s⟩
def F.QUL_CTRL_EN : Fld := ⟨.QUL_CTRL, 24, 24, .rw⟩
def F.QUL_CTRL_RES0 : Fld := ⟨.QUL_CTRL, 23, 20, .rw⟩
def F.QUL_CTRL_STALL_LIM : Fld := ⟨.QUL_CTRL, 15, 0, .rw⟩
def F.QUL_STATUS_OVERLOAD : Fld := ⟨.QUL_STATUS, 2, 2, .w1c⟩
def F.QUL_STATUS_OLD_BUSY : Fld := ⟨.QUL_STATUS, 1, 1, .ro⟩
def F.QUL_STATUS_BANK : Fld := ⟨.QUL_STATUS, 0, 0, .ro⟩
def F.QUL_GRAPH_BASE_LO_ADDR : Fld := ⟨.QUL_GRAPH_BASE_LO, 31, 24, .rwl⟩
def F.QUL_GRAPH_BASE_HI_ADDR : Fld := ⟨.QUL_GRAPH_BASE_HI, 15, 0, .rwl⟩
def F.QUL_LVL_CFG_QBASE : Fld := ⟨.QUL_LVL_CFG, 15, 0, .rw⟩
def F.QUL_LVL_STAT_MAX : Fld := ⟨.QUL_LVL_STAT, 31, 16, .rc⟩
def F.QUL_LVL_STAT_DEPTH : Fld := ⟨.QUL_LVL_STAT, 15, 0, .ro⟩
def F.QUL_HIST_SEL_GRP : Fld := ⟨.QUL_HIST_SEL, 31, 31, .rw⟩
def F.QUL_HIST_SEL_SEL : Fld := ⟨.QUL_HIST_SEL, 7, 0, .rw⟩
def F.QUL_HIST_COUNT : Fld := ⟨.QUL_HIST, 31, 0, .rc⟩
def F.QUL_LOAD_WIN_WIN : Fld := ⟨.QUL_LOAD_WIN, 15, 0, .rw⟩
def F.QUL_ENG_LOAD_PEAK : Fld := ⟨.QUL_ENG_LOAD, 31, 16, .rc⟩
def F.QUL_ENG_LOAD_LOAD : Fld := ⟨.QUL_ENG_LOAD, 15, 0, .ro⟩
def F.QUL_GRP_CTL_INTAKE : Fld := ⟨.QUL_GRP_CTL, 8, 8, .rw⟩
def F.QUL_GRP_CTL_WEIGHT : Fld := ⟨.QUL_GRP_CTL, 7, 0, .rw⟩
def F.QUL_CNT_COUNT : Fld := ⟨.QUL_CNT, 31, 0, .rc⟩
def F.QUL_CNT_CLR_CLR : Fld := ⟨.QUL_CNT_CLR, 0, 0, .wo⟩
def F.OPS_CTRL_LOCK : Fld := ⟨.OPS_CTRL, 31, 31, .w1s⟩
def F.OPS_CTRL_EN : Fld := ⟨.OPS_CTRL, 0, 0, .rw⟩
def F.OPS_STATUS_BANK : Fld := ⟨.OPS_STATUS, 0, 0, .ro⟩
def F.OPS_AREA_BASE_LO_ADDR : Fld := ⟨.OPS_AREA_BASE_LO, 31, 27, .rwl⟩
def F.OPS_AREA_BASE_HI_ADDR : Fld := ⟨.OPS_AREA_BASE_HI, 15, 0, .rwl⟩
def F.OPS_STATE_BASE_LO_ADDR : Fld := ⟨.OPS_STATE_BASE_LO, 31, 20, .rwl⟩
def F.OPS_STATE_BASE_HI_ADDR : Fld := ⟨.OPS_STATE_BASE_HI, 15, 0, .rwl⟩
def F.OPS_STATE_SIZE_MIB : Fld := ⟨.OPS_STATE_SIZE, 10, 0, .rwl⟩
def F.OPS_ENG_OUT_LO_OUT : Fld := ⟨.OPS_ENG_OUT_LO, 31, 0, .ro⟩
def F.OPS_ENG_OUT_HI_OUT : Fld := ⟨.OPS_ENG_OUT_HI, 15, 0, .ro⟩
def F.OPS_CNT_COUNT : Fld := ⟨.OPS_CNT, 31, 0, .rc⟩
def F.OPS_CNT_CLR_CLR : Fld := ⟨.OPS_CNT_CLR, 0, 0, .wo⟩
def F.MAP_CTRL_LOCK : Fld := ⟨.MAP_CTRL, 31, 31, .w1s⟩
def F.MAP_CTRL_EN : Fld := ⟨.MAP_CTRL, 24, 24, .rw⟩
def F.MAP_CTRL_HOLD : Fld := ⟨.MAP_CTRL, 15, 0, .rw⟩
def F.MAP_STATUS_CHANGE : Fld := ⟨.MAP_STATUS, 16, 16, .w1c⟩
def F.MAP_STATUS_HELD : Fld := ⟨.MAP_STATUS, 1, 1, .ro⟩
def F.MAP_STATUS_BANK : Fld := ⟨.MAP_STATUS, 0, 0, .ro⟩
def F.MAP_BASE_LO_ADDR : Fld := ⟨.MAP_BASE_LO, 31, 28, .rwl⟩
def F.MAP_BASE_HI_ADDR : Fld := ⟨.MAP_BASE_HI, 15, 0, .rwl⟩
def F.MAP_PEND_BASE_LO_ADDR : Fld := ⟨.MAP_PEND_BASE_LO, 31, 12, .rwl⟩
def F.MAP_PEND_BASE_HI_ADDR : Fld := ⟨.MAP_PEND_BASE_HI, 15, 0, .rwl⟩
def F.MAP_PEND_CFG_SIZE_LOG2 : Fld := ⟨.MAP_PEND_CFG, 4, 0, .rwl⟩
def F.MAP_TBL_STATUS_BUILDING : Fld := ⟨.MAP_TBL_STATUS, 14, 14, .ro⟩
def F.MAP_TBL_STATUS_OVERFLOW : Fld := ⟨.MAP_TBL_STATUS, 13, 13, .ro⟩
def F.MAP_TBL_STATUS_LOG_COUNT : Fld := ⟨.MAP_TBL_STATUS, 12, 0, .ro⟩
def F.MAP_PEND_DEPTH_COUNT : Fld := ⟨.MAP_PEND_DEPTH, 20, 0, .ro⟩
def F.MAP_PEND_MAX_COUNT : Fld := ⟨.MAP_PEND_MAX, 20, 0, .rc⟩
def F.MAP_REQ_LO_ADDR : Fld := ⟨.MAP_REQ_LO, 31, 6, .rw⟩
def F.MAP_REQ_HI_ADDR : Fld := ⟨.MAP_REQ_HI, 15, 0, .rw⟩
def F.MAP_REQ_GO_GO : Fld := ⟨.MAP_REQ_GO, 0, 0, .wo⟩
def F.MAP_REQ_FAULT_COUNT : Fld := ⟨.MAP_REQ_FAULT, 31, 16, .ro⟩
def F.MAP_REQ_FAULT_REFUSED : Fld := ⟨.MAP_REQ_FAULT, 0, 0, .w1c⟩
def F.MAP_CNT_COUNT : Fld := ⟨.MAP_CNT, 31, 0, .rc⟩
def F.MAP_CNT_CLR_CLR : Fld := ⟨.MAP_CNT_CLR, 0, 0, .wo⟩
def F.SCR_PERIOD_PERIOD : Fld := ⟨.SCR_PERIOD, 19, 0, .ro⟩
def F.SCR_OFFSET_OFFSET : Fld := ⟨.SCR_OFFSET, 19, 0, .ro⟩
def F.SCR_WDOG_WD_CYC : Fld := ⟨.SCR_WDOG, 31, 0, .ro⟩
def F.SCR_SIZE_N_OUT : Fld := ⟨.SCR_SIZE, 28, 16, .ro⟩
def F.SCR_SIZE_N_IN : Fld := ⟨.SCR_SIZE, 12, 0, .ro⟩
def F.SCR_MODE_SKIP_MAX : Fld := ⟨.SCR_MODE, 15, 8, .ro⟩
def F.SCR_MODE_MODE : Fld := ⟨.SCR_MODE, 0, 0, .ro⟩
def F.SCR_RETAIN_RETAIN_TAG : Fld := ⟨.SCR_RETAIN, 31, 0, .ro⟩
def F.SCR_STATUS_TRIP_PC : Fld := ⟨.SCR_STATUS, 31, 16, .ro⟩
def F.SCR_STATUS_OLD_BUSY : Fld := ⟨.SCR_STATUS, 12, 12, .ro⟩
def F.SCR_STATUS_FORCED : Fld := ⟨.SCR_STATUS, 11, 11, .ro⟩
def F.SCR_STATUS_CMD_DEPTH : Fld := ⟨.SCR_STATUS, 10, 8, .ro⟩
def F.SCR_STATUS_CAUSE : Fld := ⟨.SCR_STATUS, 6, 4, .ro⟩
def F.SCR_STATUS_EXTENDING : Fld := ⟨.SCR_STATUS, 3, 3, .ro⟩
def F.SCR_STATUS_BANK : Fld := ⟨.SCR_STATUS, 2, 2, .ro⟩
def F.SCR_STATUS_STATE : Fld := ⟨.SCR_STATUS, 1, 0, .ro⟩
def F.SCR_CMD_OP : Fld := ⟨.SCR_CMD, 2, 0, .rw⟩
def F.SCR_AT_SEC_SEC : Fld := ⟨.SCR_AT_SEC, 31, 0, .rw⟩
def F.SCR_AT_US_US : Fld := ⟨.SCR_AT_US, 19, 0, .rw⟩
def F.SCR_CMD_GO_GO : Fld := ⟨.SCR_CMD_GO, 0, 0, .wo⟩
def F.SCR_CYC_MAX_CYC : Fld := ⟨.SCR_CYC_MAX, 31, 0, .rc⟩
def F.SCR_CNT_COUNT : Fld := ⟨.SCR_CNT, 31, 0, .rc⟩
def F.SCR_CNT_CLR_CLR : Fld := ⟨.SCR_CNT_CLR, 0, 0, .wo⟩
def F.PUB_CTRL_COLD : Fld := ⟨.PUB_CTRL, 2, 2, .rw⟩
def F.PUB_CTRL_TRIP_EN : Fld := ⟨.PUB_CTRL, 1, 1, .rw⟩
def F.PUB_CTRL_EN : Fld := ⟨.PUB_CTRL, 0, 0, .rw⟩
def F.PUB_STATUS_ADOPT : Fld := ⟨.PUB_STATUS, 1, 1, .ro⟩
def F.PUB_STATUS_BANK : Fld := ⟨.PUB_STATUS, 0, 0, .ro⟩
def F.PUB_TRIP_STATUS_DIS : Fld := ⟨.PUB_TRIP_STATUS, 31, 16, .w1c⟩
def F.PUB_TRIP_STATUS_LEVEL : Fld := ⟨.PUB_TRIP_STATUS, 15, 0, .ro⟩
def F.PUB_TRIP_DRIVE_DRIVE : Fld := ⟨.PUB_TRIP_DRIVE, 15, 0, .ro⟩
def F.PUB_CNT_COUNT : Fld := ⟨.PUB_CNT, 31, 0, .rc⟩
def F.PUB_CNT_CLR_CLR : Fld := ⟨.PUB_CNT_CLR, 0, 0, .wo⟩
def F.CHK_CFG_IE : Fld := ⟨.CHK_CFG, 6, 6, .rw⟩
def F.CHK_CFG_ALIVE_INC : Fld := ⟨.CHK_CFG, 5, 5, .rw⟩
def F.CHK_CFG_ALIVE_IN : Fld := ⟨.CHK_CFG, 4, 4, .rw⟩
def F.CHK_CFG_INIT : Fld := ⟨.CHK_CFG, 3, 3, .rw⟩
def F.CHK_CFG_POLY : Fld := ⟨.CHK_CFG, 2, 0, .rw⟩
def F.CHK_SRC_LO_ADDR : Fld := ⟨.CHK_SRC_LO, 31, 0, .rw⟩
def F.CHK_SRC_HI_ADDR : Fld := ⟨.CHK_SRC_HI, 15, 0, .rw⟩
def F.CHK_LEN_LEN : Fld := ⟨.CHK_LEN, 24, 0, .rw⟩
def F.CHK_GO_GO : Fld := ⟨.CHK_GO, 0, 0, .wo⟩
def F.CHK_STATUS_WBUSY : Fld := ⟨.CHK_STATUS, 4, 4, .w1c⟩
def F.CHK_STATUS_BADCFG : Fld := ⟨.CHK_STATUS, 3, 3, .w1c⟩
def F.CHK_STATUS_ADDR_ERR : Fld := ⟨.CHK_STATUS, 2, 2, .w1c⟩
def F.CHK_STATUS_DONE : Fld := ⟨.CHK_STATUS, 1, 1, .w1c⟩
def F.CHK_STATUS_BUSY : Fld := ⟨.CHK_STATUS, 0, 0, .ro⟩
def F.CHK_VALUE_LO_VALUE : Fld := ⟨.CHK_VALUE_LO, 31, 0, .rw⟩
def F.CHK_VALUE_HI_VALUE : Fld := ⟨.CHK_VALUE_HI, 31, 0, .rw⟩
def F.CHK_RESULT_LO_RESULT : Fld := ⟨.CHK_RESULT_LO, 31, 0, .ro⟩
def F.CHK_RESULT_HI_RESULT : Fld := ⟨.CHK_RESULT_HI, 31, 0, .ro⟩
def F.CHK_ALIVE_ALIVE : Fld := ⟨.CHK_ALIVE, 31, 0, .rw⟩
def F.PSW_MERGE_CFG_ECHO_EN : Fld := ⟨.PSW_MERGE_CFG, 17, 17, .rw⟩
def F.PSW_MERGE_CFG_AGREE_SOLO : Fld := ⟨.PSW_MERGE_CFG, 16, 16, .rw⟩
def F.PSW_MERGE_CFG_AGREE_WINDOW : Fld := ⟨.PSW_MERGE_CFG, 9, 0, .rw⟩
def F.PSW_DIV_CAPT0_VALID : Fld := ⟨.PSW_DIV_CAPT0, 31, 31, .w1c⟩
def F.PSW_DIV_CAPT0_KIND : Fld := ⟨.PSW_DIV_CAPT0, 12, 11, .ro⟩
def F.PSW_DIV_CAPT0_PUB : Fld := ⟨.PSW_DIV_CAPT0, 10, 0, .ro⟩
def F.PSW_DIV_CAPT1_ISSUE : Fld := ⟨.PSW_DIV_CAPT1, 31, 0, .ro⟩
def F.DRC_CTRL_LOCK : Fld := ⟨.DRC_CTRL, 31, 31, .w1s⟩
def F.DRC_CTRL_IE : Fld := ⟨.DRC_CTRL, 1, 1, .rw⟩
def F.DRC_CTRL_EN : Fld := ⟨.DRC_CTRL, 0, 0, .rw⟩
def F.DRC_STATUS_BUF : Fld := ⟨.DRC_STATUS, 23, 16, .ro⟩
def F.DRC_STATUS_OLD_BUSY : Fld := ⟨.DRC_STATUS, 4, 4, .ro⟩
def F.DRC_STATUS_BANK : Fld := ⟨.DRC_STATUS, 3, 3, .ro⟩
def F.DRC_STATUS_STATE : Fld := ⟨.DRC_STATUS, 2, 0, .ro⟩
def F.DRC_MEM_BASE_LO_ADDR : Fld := ⟨.DRC_MEM_BASE_LO, 31, 20, .rwl⟩
def F.DRC_MEM_BASE_HI_ADDR : Fld := ⟨.DRC_MEM_BASE_HI, 15, 0, .rwl⟩
def F.DRC_MEM_CFG_COUNT_M1 : Fld := ⟨.DRC_MEM_CFG, 31, 24, .rwl⟩
def F.DRC_MEM_CFG_SIZE_MIB : Fld := ⟨.DRC_MEM_CFG, 12, 0, .rwl⟩
def F.DRC_LAST_BUF : Fld := ⟨.DRC_LAST, 31, 24, .ro⟩
def F.DRC_LAST_SEQ : Fld := ⟨.DRC_LAST, 23, 0, .ro⟩
def F.DRC_RELEASE_BUF : Fld := ⟨.DRC_RELEASE, 7, 0, .wo⟩
def F.DRC_RESUME_RESUME : Fld := ⟨.DRC_RESUME, 0, 0, .wo⟩
def F.DRC_MAN_SEC_VALUE : Fld := ⟨.DRC_MAN_SEC, 31, 0, .rw⟩
def F.DRC_MAN_US_VALUE : Fld := ⟨.DRC_MAN_US, 19, 0, .rw⟩
def F.DRC_MAN_GO_GO : Fld := ⟨.DRC_MAN_GO, 0, 0, .wo⟩
def F.DRC_XT_CFG_OUT_EN : Fld := ⟨.DRC_XT_CFG, 17, 16, .rw⟩
def F.DRC_XT_CFG_WIDTH : Fld := ⟨.DRC_XT_CFG, 15, 0, .rw⟩
def F.DRC_CNT_COUNT : Fld := ⟨.DRC_CNT, 31, 0, .rc⟩
def F.DRC_CNT_CLR_CLR : Fld := ⟨.DRC_CNT_CLR, 0, 0, .wo⟩
def F.INS_STATUS_CHANGE : Fld := ⟨.INS_STATUS, 16, 16, .w1c⟩
def F.INS_STATUS_BANK : Fld := ⟨.INS_STATUS, 0, 0, .ro⟩
def F.INS_CHG_MAP_LO_CHG : Fld := ⟨.INS_CHG_MAP_LO, 31, 0, .w1c⟩
def F.INS_CHG_MAP_HI_CHG : Fld := ⟨.INS_CHG_MAP_HI, 31, 0, .w1c⟩
def F.INS_VINT_SUM_LO_SUM : Fld := ⟨.INS_VINT_SUM_LO, 31, 0, .ro⟩
def F.INS_VINT_SUM_HI_SUM : Fld := ⟨.INS_VINT_SUM_HI, 31, 0, .ro⟩
def F.INS_VINT_SUM_MGR_SUM : Fld := ⟨.INS_VINT_SUM_MGR, 0, 0, .ro⟩
def F.INS_DIRTY_CTL_LOCK : Fld := ⟨.INS_DIRTY_CTL, 31, 31, .w1s⟩
def F.INS_DIRTY_CTL_SIZE_LOG2 : Fld := ⟨.INS_DIRTY_CTL, 20, 16, .rwl⟩
def F.INS_DIRTY_CTL_OVERFLOW : Fld := ⟨.INS_DIRTY_CTL, 3, 3, .w1c⟩
def F.INS_DIRTY_CTL_CLEARING : Fld := ⟨.INS_DIRTY_CTL, 2, 2, .ro⟩
def F.INS_DIRTY_CTL_EPOCH_GO : Fld := ⟨.INS_DIRTY_CTL, 1, 1, .wo⟩
def F.INS_DIRTY_CTL_EN : Fld := ⟨.INS_DIRTY_CTL, 0, 0, .rw⟩
def F.INS_DIRTY_RING_LO_ADDR : Fld := ⟨.INS_DIRTY_RING_LO, 31, 12, .rwl⟩
def F.INS_DIRTY_RING_HI_ADDR : Fld := ⟨.INS_DIRTY_RING_HI, 15, 0, .rwl⟩
def F.INS_DIRTY_MAP_LO_ADDR : Fld := ⟨.INS_DIRTY_MAP_LO, 31, 19, .rwl⟩
def F.INS_DIRTY_MAP_HI_ADDR : Fld := ⟨.INS_DIRTY_MAP_HI, 15, 0, .rwl⟩
def F.INS_DIRTY_HEAD_INDEX : Fld := ⟨.INS_DIRTY_HEAD, 23, 0, .ro⟩
def F.INS_DIRTY_TAIL_INDEX : Fld := ⟨.INS_DIRTY_TAIL, 23, 0, .rw⟩
def F.INS_DIRTY_EPOCH_EPOCH : Fld := ⟨.INS_DIRTY_EPOCH, 31, 0, .ro⟩
def F.INS_DIRTY_LOST_COUNT : Fld := ⟨.INS_DIRTY_LOST, 31, 0, .rc⟩
def F.INS_CMD_OP : Fld := ⟨.INS_CMD, 2, 0, .rw⟩
def F.INS_AT_SEC_SEC : Fld := ⟨.INS_AT_SEC, 31, 0, .rw⟩
def F.INS_AT_IDX_IDX : Fld := ⟨.INS_AT_IDX, 14, 0, .rw⟩
def F.INS_CMD_GO_GO : Fld := ⟨.INS_CMD_GO, 0, 0, .wo⟩
def F.INS_CMD_STATUS_CODE : Fld := ⟨.INS_CMD_STATUS, 15, 8, .ro⟩
def F.INS_CMD_STATUS_WAITING : Fld := ⟨.INS_CMD_STATUS, 2, 2, .ro⟩
def F.INS_CMD_STATUS_DONE : Fld := ⟨.INS_CMD_STATUS, 1, 1, .w1c⟩
def F.INS_STATE_DRAIN_TMO : Fld := ⟨.INS_STATE, 18, 18, .w1c⟩
def F.INS_STATE_DRAINED : Fld := ⟨.INS_STATE, 17, 17, .ro⟩
def F.INS_STATE_STATE : Fld := ⟨.INS_STATE, 2, 0, .ro⟩
def F.INS_DRAIN_LIMIT_LIMIT : Fld := ⟨.INS_DRAIN_LIMIT, 31, 0, .rw⟩
def F.INS_VINT_ROUTE_MASK : Fld := ⟨.INS_VINT_ROUTE, 8, 8, .rw⟩
def F.INS_VINT_ROUTE_CORE : Fld := ⟨.INS_VINT_ROUTE, 3, 0, .rw⟩
def F.INS_VINT_INJECT_VECTOR : Fld := ⟨.INS_VINT_INJECT, 7, 0, .wo⟩
def F.INS_VINT_PEND_BITS : Fld := ⟨.INS_VINT_PEND, 31, 0, .w1c⟩
def F.INS_VINT_EN_BITS : Fld := ⟨.INS_VINT_EN, 31, 0, .rw⟩
def F.INS_OCNT_COUNT : Fld := ⟨.INS_OCNT, 31, 0, .rc⟩
def F.INS_OCNT_CLR_CLR : Fld := ⟨.INS_OCNT_CLR, 0, 0, .wo⟩
def F.FBS_OBJ_CMD_ABORT_TX : Fld := ⟨.FBS_OBJ_CMD, 2, 2, .wo⟩
def F.FBS_OBJ_CMD_RESUME : Fld := ⟨.FBS_OBJ_CMD, 1, 1, .wo⟩
def F.FBS_OBJ_CMD_SEND : Fld := ⟨.FBS_OBJ_CMD, 0, 0, .wo⟩
def F.FBS_OBJ_FLAGS_REPORT : Fld := ⟨.FBS_OBJ_FLAGS, 2, 2, .w1c⟩
def F.FBS_OBJ_FLAGS_LOST : Fld := ⟨.FBS_OBJ_FLAGS, 1, 1, .w1c⟩
def F.FBS_OBJ_FLAGS_NEW : Fld := ⟨.FBS_OBJ_FLAGS, 0, 0, .w1c⟩
def F.FBS_CTRL_TDC_EN : Fld := ⟨.FBS_CTRL, 7, 7, .rw⟩
def F.FBS_CTRL_FD_EN : Fld := ⟨.FBS_CTRL, 6, 6, .rw⟩
def F.FBS_CTRL_PREF_ACTIVE : Fld := ⟨.FBS_CTRL, 5, 5, .rw⟩
def F.FBS_CTRL_PAIR_EN : Fld := ⟨.FBS_CTRL, 4, 4, .rw⟩
def F.FBS_CTRL_AUTO_RECOV : Fld := ⟨.FBS_CTRL, 3, 3, .rw⟩
def F.FBS_CTRL_OPMODE : Fld := ⟨.FBS_CTRL, 2, 1, .rw⟩
def F.FBS_CTRL_EN : Fld := ⟨.FBS_CTRL, 0, 0, .rw⟩
def F.FBS_STATUS_CHANGE : Fld := ⟨.FBS_STATUS, 16, 16, .w1c⟩
def F.FBS_STATUS_RD_BUSY : Fld := ⟨.FBS_STATUS, 4, 4, .ro⟩
def F.FBS_STATUS_SYNC : Fld := ⟨.FBS_STATUS, 3, 3, .ro⟩
def F.FBS_STATUS_ACTIVE : Fld := ⟨.FBS_STATUS, 2, 2, .ro⟩
def F.FBS_STATUS_ERR_STATE : Fld := ⟨.FBS_STATUS, 1, 0, .ro⟩
def F.FBS_NBT_SJW_M1 : Fld := ⟨.FBS_NBT, 31, 25, .rw⟩
def F.FBS_NBT_TSEG1_M1 : Fld := ⟨.FBS_NBT, 24, 16, .rw⟩
def F.FBS_NBT_TSEG2_M1 : Fld := ⟨.FBS_NBT, 14, 8, .rw⟩
def F.FBS_NBT_BRP_M1 : Fld := ⟨.FBS_NBT, 4, 0, .rw⟩
def F.FBS_DBT_SJW_M1 : Fld := ⟨.FBS_DBT, 28, 25, .rw⟩
def F.FBS_DBT_TSEG1_M1 : Fld := ⟨.FBS_DBT, 20, 16, .rw⟩
def F.FBS_DBT_TSEG2_M1 : Fld := ⟨.FBS_DBT, 11, 8, .rw⟩
def F.FBS_DBT_BRP_M1 : Fld := ⟨.FBS_DBT, 4, 0, .rw⟩
def F.FBS_TDC_TDCF : Fld := ⟨.FBS_TDC, 14, 8, .rw⟩
def F.FBS_TDC_TDCO : Fld := ⟨.FBS_TDC, 6, 0, .rw⟩
def F.FBS_ERR_RP : Fld := ⟨.FBS_ERR, 15, 15, .ro⟩
def F.FBS_ERR_REC : Fld := ⟨.FBS_ERR, 14, 8, .ro⟩
def F.FBS_ERR_TEC : Fld := ⟨.FBS_ERR, 7, 0, .ro⟩
def F.FBS_RD_CFG_DWELL : Fld := ⟨.FBS_RD_CFG, 31, 16, .rw⟩
def F.FBS_RD_CFG_GOOD : Fld := ⟨.FBS_RD_CFG, 15, 8, .rw⟩
def F.FBS_RD_CFG_ROUNDS : Fld := ⟨.FBS_RD_CFG, 7, 4, .rw⟩
def F.FBS_RD_CFG_N_CAND : Fld := ⟨.FBS_RD_CFG, 3, 0, .rw⟩
def F.FBS_RD_STATUS_DONE : Fld := ⟨.FBS_RD_STATUS, 4, 4, .w1c⟩
def F.FBS_RD_STATUS_FOUND : Fld := ⟨.FBS_RD_STATUS, 3, 0, .ro⟩
def F.FBS_RD_NBT_SJW_M1 : Fld := ⟨.FBS_RD_NBT, 31, 25, .rw⟩
def F.FBS_RD_NBT_TSEG1_M1 : Fld := ⟨.FBS_RD_NBT, 24, 16, .rw⟩
def F.FBS_RD_NBT_TSEG2_M1 : Fld := ⟨.FBS_RD_NBT, 14, 8, .rw⟩
def F.FBS_RD_NBT_BRP_M1 : Fld := ⟨.FBS_RD_NBT, 4, 0, .rw⟩
def F.FBS_RD_DBT_SJW_M1 : Fld := ⟨.FBS_RD_DBT, 28, 25, .rw⟩
def F.FBS_RD_DBT_TSEG1_M1 : Fld := ⟨.FBS_RD_DBT, 20, 16, .rw⟩
def F.FBS_RD_DBT_TSEG2_M1 : Fld := ⟨.FBS_RD_DBT, 11, 8, .rw⟩
def F.FBS_RD_DBT_BRP_M1 : Fld := ⟨.FBS_RD_DBT, 4, 0, .rw⟩
def F.FBS_CNT_COUNT : Fld := ⟨.FBS_CNT, 31, 0, .rc⟩
def F.FBS_CNT_CLR_CLR : Fld := ⟨.FBS_CNT_CLR, 0, 0, .wo⟩
def F.INK_STATUS_LIFECYCLE : Fld := ⟨.INK_STATUS, 10, 8, .ro⟩
def F.INK_STATUS_VTIME_GAP : Fld := ⟨.INK_STATUS, 4, 4, .w1c⟩
def F.INK_STATUS_OSC_FAIL : Fld := ⟨.INK_STATUS, 3, 3, .w1c⟩
def F.INK_STATUS_TAMPER1 : Fld := ⟨.INK_STATUS, 2, 2, .w1c⟩
def F.INK_STATUS_TAMPER0 : Fld := ⟨.INK_STATUS, 1, 1, .w1c⟩
def F.INK_STATUS_STANDBY_SEEN : Fld := ⟨.INK_STATUS, 0, 0, .w1c⟩
def F.INK_VTIME_LO_VALUE : Fld := ⟨.INK_VTIME_LO, 31, 0, .ro⟩
def F.INK_VTIME_HI_VALUE : Fld := ⟨.INK_VTIME_HI, 14, 0, .ro⟩
def F.INK_VTIME_TICK_VALUE : Fld := ⟨.INK_VTIME_TICK, 14, 0, .ro⟩
def F.INK_OPH_COUNT : Fld := ⟨.INK_OPH, 31, 0, .ro⟩
def F.INK_PCYC_COUNT : Fld := ⟨.INK_PCYC, 31, 0, .ro⟩
def F.INK_VINK_LOSS_COUNT : Fld := ⟨.INK_VINK_LOSS, 31, 0, .ro⟩
def F.INK_TAMPER_CFG_POL1 : Fld := ⟨.INK_TAMPER_CFG, 3, 3, .ro⟩
def F.INK_TAMPER_CFG_POL0 : Fld := ⟨.INK_TAMPER_CFG, 2, 2, .ro⟩
def F.INK_TAMPER_CFG_EN1 : Fld := ⟨.INK_TAMPER_CFG, 1, 1, .ro⟩
def F.INK_TAMPER_CFG_EN0 : Fld := ⟨.INK_TAMPER_CFG, 0, 0, .ro⟩
def F.INK_DIEID_ID : Fld := ⟨.INK_DIEID, 31, 0, .ro⟩
def F.EVR_HEAD_INDEX : Fld := ⟨.EVR_HEAD, 17, 0, .ro⟩
def F.EVR_TAIL_INDEX : Fld := ⟨.EVR_TAIL, 17, 0, .ro⟩
def F.EVR_WRAPS_COUNT : Fld := ⟨.EVR_WRAPS, 31, 0, .ro⟩
def F.EVR_CLR_COUNT_COUNT : Fld := ⟨.EVR_CLR_COUNT, 31, 0, .ro⟩
def F.EVR_OVERWRITTEN_COUNT : Fld := ⟨.EVR_OVERWRITTEN, 31, 0, .ro⟩
def F.EVR_SUPPRESSED_COUNT : Fld := ⟨.EVR_SUPPRESSED, 31, 0, .ro⟩
def F.EVR_STATUS_CLEARING : Fld := ⟨.EVR_STATUS, 2, 2, .ro⟩
def F.EVR_STATUS_OVERWRITE : Fld := ⟨.EVR_STATUS, 1, 1, .w1c⟩
def F.EVR_STATUS_SUPPR : Fld := ⟨.EVR_STATUS, 0, 0, .w1c⟩
def F.KEY_ROOT_STATUS_MAINT : Fld := ⟨.KEY_ROOT_STATUS, 11, 8, .ro⟩
def F.KEY_ROOT_STATUS_OPER : Fld := ⟨.KEY_ROOT_STATUS, 7, 4, .ro⟩
def F.KEY_ROOT_STATUS_FACTORY : Fld := ⟨.KEY_ROOT_STATUS, 3, 0, .ro⟩
def F.KEY_PENDING_CHANGE : Fld := ⟨.KEY_PENDING, 16, 16, .w1c⟩
def F.KEY_PENDING_STALE : Fld := ⟨.KEY_PENDING, 6, 0, .ro⟩
def F.KEY_MCOUNT_COUNT : Fld := ⟨.KEY_MCOUNT, 31, 0, .ro⟩
def F.KEY_SLOT_W_WORD : Fld := ⟨.KEY_SLOT_W, 31, 0, .ro⟩
def F.CFG_BOOT_STATUS_N_ELEM : Fld := ⟨.CFG_BOOT_STATUS, 31, 24, .ro⟩
def F.CFG_BOOT_STATUS_N_STREAM : Fld := ⟨.CFG_BOOT_STATUS, 23, 16, .ro⟩
def F.CFG_BOOT_STATUS_CHANGE : Fld := ⟨.CFG_BOOT_STATUS, 10, 10, .w1c⟩
def F.CFG_BOOT_STATUS_TRUNC : Fld := ⟨.CFG_BOOT_STATUS, 9, 9, .ro⟩
def F.CFG_BOOT_STATUS_COPY : Fld := ⟨.CFG_BOOT_STATUS, 8, 8, .ro⟩
def F.CFG_BOOT_STATUS_HANDED1 : Fld := ⟨.CFG_BOOT_STATUS, 5, 5, .ro⟩
def F.CFG_BOOT_STATUS_HANDED0 : Fld := ⟨.CFG_BOOT_STATUS, 4, 4, .ro⟩
def F.CFG_BOOT_STATUS_ARMED1 : Fld := ⟨.CFG_BOOT_STATUS, 3, 3, .ro⟩
def F.CFG_BOOT_STATUS_ARMED0 : Fld := ⟨.CFG_BOOT_STATUS, 2, 2, .ro⟩
def F.CFG_BOOT_STATUS_NOTABLE : Fld := ⟨.CFG_BOOT_STATUS, 0, 0, .ro⟩
def F.BLT_CFG_HOLD_MAX : Fld := ⟨.BLT_CFG, 31, 16, .rw⟩
def F.BLT_CFG_ENG_LIMIT : Fld := ⟨.BLT_CFG, 15, 8, .rw⟩
def F.BLT_CFG_AUTO : Fld := ⟨.BLT_CFG, 3, 0, .rw⟩
def F.BLT_STATUS_CHANGE : Fld := ⟨.BLT_STATUS, 16, 16, .w1c⟩
def F.BLT_STATUS_LIMITED : Fld := ⟨.BLT_STATUS, 15, 12, .ro⟩
def F.BLT_STATUS_HELD : Fld := ⟨.BLT_STATUS, 11, 8, .ro⟩
def F.BLT_STATUS_SLOTS : Fld := ⟨.BLT_STATUS, 4, 2, .ro⟩
def F.BLT_STATUS_WRITING : Fld := ⟨.BLT_STATUS, 1, 1, .ro⟩
def F.BLT_STATUS_CAPTURING : Fld := ⟨.BLT_STATUS, 0, 0, .ro⟩
def F.BLT_CTRL_RESTART : Fld := ⟨.BLT_CTRL, 7, 4, .wo⟩
def F.BLT_CTRL_ISOLATE : Fld := ⟨.BLT_CTRL, 3, 0, .wo⟩
def F.BLT_ACC_STATUS_VALID : Fld := ⟨.BLT_ACC_STATUS, 31, 31, .w1c⟩
def F.BLT_ACC_STATUS_INIT : Fld := ⟨.BLT_ACC_STATUS, 30, 28, .ro⟩
def F.BLT_ACC_STATUS_WRITE : Fld := ⟨.BLT_ACC_STATUS, 27, 27, .ro⟩
def F.BLT_ACC_STATUS_REASON : Fld := ⟨.BLT_ACC_STATUS, 26, 25, .ro⟩
def F.BLT_ACC_ADDR_LO_ADDR : Fld := ⟨.BLT_ACC_ADDR_LO, 31, 0, .ro⟩
def F.BLT_ACC_ADDR_HI_ADDR : Fld := ⟨.BLT_ACC_ADDR_HI, 15, 0, .ro⟩
def F.BLT_CORR_COUNT : Fld := ⟨.BLT_CORR, 31, 0, .rc⟩
def F.BLT_UNC_COUNT : Fld := ⟨.BLT_UNC, 31, 0, .rc⟩
def F.CFG_ACC_STATUS_VALID : Fld := ⟨.CFG_ACC_STATUS, 31, 31, .w1c⟩
def F.CFG_ACC_STATUS_WRITE : Fld := ⟨.CFG_ACC_STATUS, 30, 30, .ro⟩
def F.CFG_ACC_STATUS_REASON : Fld := ⟨.CFG_ACC_STATUS, 29, 28, .ro⟩
def F.CFG_ACC_STATUS_OFFSET : Fld := ⟨.CFG_ACC_STATUS, 27, 0, .ro⟩
def F.PWR_TEMP_MAX : Fld := ⟨.PWR_TEMP, 31, 16, .rc⟩
def F.PWR_TEMP_TEMP : Fld := ⟨.PWR_TEMP, 15, 0, .ro⟩
def F.PWR_TEMP_ALARM_ALARM : Fld := ⟨.PWR_TEMP_ALARM, 20, 16, .w1c⟩
def F.PWR_TEMP_ALARM_LIMIT : Fld := ⟨.PWR_TEMP_ALARM, 15, 0, .rw⟩
def F.PWR_BANK_STATUS_E_LV : Fld := ⟨.PWR_BANK_STATUS, 16, 16, .ro⟩
def F.PWR_BANK_STATUS_PRESENT : Fld := ⟨.PWR_BANK_STATUS, 13, 8, .ro⟩
def F.PWR_BANK_STATUS_LOW : Fld := ⟨.PWR_BANK_STATUS, 5, 0, .w1c⟩
def F.SCR_SH_PERIOD_PERIOD : Fld := ⟨.SCR_SH_PERIOD, 19, 0, .rw⟩
def F.SCR_SH_OFFSET_OFFSET : Fld := ⟨.SCR_SH_OFFSET, 19, 0, .rw⟩
def F.SCR_SH_WDOG_WD_CYC : Fld := ⟨.SCR_SH_WDOG, 31, 0, .rw⟩
def F.SCR_SH_SIZE_N_OUT : Fld := ⟨.SCR_SH_SIZE, 28, 16, .rw⟩
def F.SCR_SH_SIZE_N_IN : Fld := ⟨.SCR_SH_SIZE, 12, 0, .rw⟩
def F.SCR_SH_MODE_SKIP_MAX : Fld := ⟨.SCR_SH_MODE, 15, 8, .rw⟩
def F.SCR_SH_MODE_MODE : Fld := ⟨.SCR_SH_MODE, 0, 0, .rw⟩
def F.SCR_SH_RETAIN_RETAIN_TAG : Fld := ⟨.SCR_SH_RETAIN, 31, 0, .rw⟩

/-- The fields of a register, most significant first. -/
def RegId.fields : RegId → List Fld
  | .CFG_DEVICE_ID => [F.CFG_DEVICE_ID_PART, F.CFG_DEVICE_ID_FAMILY, F.CFG_DEVICE_ID_STEPPING]
  | .CFG_DOMAIN_STATUS => [F.CFG_DOMAIN_STATUS_CHANGE, F.CFG_DOMAIN_STATUS_INKWELL, F.CFG_DOMAIN_STATUS_COMMON, F.CFG_DOMAIN_STATUS_LANE1, F.CFG_DOMAIN_STATUS_LANE0, F.CFG_DOMAIN_STATUS_PLANEB, F.CFG_DOMAIN_STATUS_PLANEA]
  | .CFG_BCAST_STATUS => [F.CFG_BCAST_STATUS_NOLANE, F.CFG_BCAST_STATUS_MISMATCH]
  | .CFG_BCAST_ADDR => [F.CFG_BCAST_ADDR_IWIN, F.CFG_BCAST_ADDR_OFFSET]
  | .CFG_BCAST_DATA0 => [F.CFG_BCAST_DATA0_VALUE]
  | .CFG_BCAST_DATA1 => [F.CFG_BCAST_DATA1_VALUE]
  | .CFG_LANE_ID => [F.CFG_LANE_ID_LANE]
  | .CFG_PAIR_STATUS => [F.CFG_PAIR_STATUS_TIMEOUT_C, F.CFG_PAIR_STATUS_TIMEOUT_B, F.CFG_PAIR_STATUS_TIMEOUT_A, F.CFG_PAIR_STATUS_MISMATCH_C, F.CFG_PAIR_STATUS_MISMATCH_B, F.CFG_PAIR_STATUS_MISMATCH_A]
  | .CFG_SETTLE_OVR => [F.CFG_SETTLE_OVR_COUNT]
  | .STW_CMD => [F.STW_CMD_TAG, F.STW_CMD_OPCODE]
  | .STW_ARG => [F.STW_ARG_VALUE]
  | .STW_GO => [F.STW_GO_GO]
  | .STW_CANCEL => [F.STW_CANCEL_CANCEL]
  | .STW_STATUS => [F.STW_STATUS_TAG, F.STW_STATUS_CODE, F.STW_STATUS_OVERRUN, F.STW_STATUS_DONE, F.STW_STATUS_BUSY]
  | .STW_RES => [F.STW_RES_VALUE]
  | .STW_PROGRESS => [F.STW_PROGRESS_BYTES]
  | .STW_INT_EN => [F.STW_INT_EN_DONE_IE]
  | .STW_LOAD_STATUS => [F.STW_LOAD_STATUS_STATE, F.STW_LOAD_STATUS_LAST_CODE, F.STW_LOAD_STATUS_L1_OUT, F.STW_LOAD_STATUS_L0_OUT, F.STW_LOAD_STATUS_STAGED_MASK]
  | .STW_LOAD_TARGETS => [F.STW_LOAD_TARGETS_PLANEB_DONE, F.STW_LOAD_TARGETS_PLANEA_DONE, F.STW_LOAD_TARGETS_LANE1_DONE, F.STW_LOAD_TARGETS_LANE0_DONE]
  | .STW_BANK => [F.STW_BANK_IMG_TRIALS, F.STW_BANK_FW_TRIALS, F.STW_BANK_IMG_TRIAL, F.STW_BANK_FW_TRIAL, F.STW_BANK_IMG_BANK, F.STW_BANK_FW_BANK]
  | .TIM_CTRL => [F.TIM_CTRL_REVERT_HOLD, F.TIM_CTRL_SLEW_MAX, F.TIM_CTRL_PREF, F.TIM_CTRL_PPS_SRC, F.TIM_CTRL_PEER_SRC, F.TIM_CTRL_DOM1_EN, F.TIM_CTRL_DOM0_EN]
  | .TIM_STATUS => [F.TIM_STATUS_CHANGE, F.TIM_STATUS_FU_ORPHAN, F.TIM_STATUS_PPS_DRIVE, F.TIM_STATUS_PPSIN_NEW, F.TIM_STATUS_XPLANE, F.TIM_STATUS_XDOM, F.TIM_STATUS_STEPPED, F.TIM_STATUS_SLEWING, F.TIM_STATUS_STATE, F.TIM_STATUS_SOURCE]
  | .TIM_NOW_W0 => [F.TIM_NOW_W0_VALUE]
  | .TIM_NOW_W1 => [F.TIM_NOW_W1_VALUE]
  | .TIM_NOW_W2 => [F.TIM_NOW_W2_VALUE]
  | .TIM_OFFSET_XPLANE => [F.TIM_OFFSET_XPLANE_OFFSET]
  | .TIM_LIMITS => [F.TIM_LIMITS_XDOM, F.TIM_LIMITS_XPLANE]
  | .TIM_DOM_CFG => [F.TIM_DOM_CFG_CLASS_MAX, F.TIM_DOM_CFG_DOMAIN, F.TIM_DOM_CFG_ANN_TMO, F.TIM_DOM_CFG_SYNC_TMO]
  | .TIM_DOM_STATUS => [F.TIM_DOM_STATUS_GM_CLASS, F.TIM_DOM_STATUS_UTC_OFFSET, F.TIM_DOM_STATUS_LOG_SYNC, F.TIM_DOM_STATUS_LEAP61, F.TIM_DOM_STATUS_LEAP59, F.TIM_DOM_STATUS_C37238, F.TIM_DOM_STATUS_STATE]
  | .TIM_DOM_OFFSET => [F.TIM_DOM_OFFSET_OFFSET]
  | .TIM_DOM_GM0 => [F.TIM_DOM_GM0_ID]
  | .TIM_DOM_GM1 => [F.TIM_DOM_GM1_ID]
  | .TIM_PPS_CTRL => [F.TIM_PPS_CTRL_WIDTH, F.TIM_PPS_CTRL_OUT1_EN, F.TIM_PPS_CTRL_OUT0_EN]
  | .TIM_PPS_ADJ0 => [F.TIM_PPS_ADJ0_ADJ]
  | .TIM_PPS_ADJ1 => [F.TIM_PPS_ADJ1_ADJ]
  | .TIM_PPS_IN_W0 => [F.TIM_PPS_IN_W0_VALUE]
  | .TIM_PPS_IN_W1 => [F.TIM_PPS_IN_W1_VALUE]
  | .TIM_PPS_IN_W2 => [F.TIM_PPS_IN_W2_VALUE]
  | .TIM_NIB_RXADJ => [F.TIM_NIB_RXADJ_ADJ]
  | .TIM_NIB_TXADJ => [F.TIM_NIB_TXADJ_ADJ]
  | .TIM_PTP_PORT => [F.TIM_PTP_PORT_TXQ_RESERVE, F.TIM_PTP_PORT_LOG_PDELAY, F.TIM_PTP_PORT_TWO_STEP, F.TIM_PTP_PORT_PTP_EN]
  | .TIM_PDELAY => [F.TIM_PDELAY_DELAY]
  | .TIM_TXQ_STATUS => [F.TIM_TXQ_STATUS_LOST, F.TIM_TXQ_STATUS_COUNT]
  | .TIM_TXQ_FALLBACK => [F.TIM_TXQ_FALLBACK_ONESTEP, F.TIM_TXQ_FALLBACK_SKIP]
  | .TIM_TXQ_ENT => [F.TIM_TXQ_ENT_WORD]
  | .CFG_TIME_FOLLOW => [F.CFG_TIME_FOLLOW_XLIMIT, F.CFG_TIME_FOLLOW_XPLANE, F.CFG_TIME_FOLLOW_HOLDOVER, F.CFG_TIME_FOLLOW_SLEWING, F.CFG_TIME_FOLLOW_FOLLOWING, F.CFG_TIME_FOLLOW_DEFAULT]
  | .CFG_TIME_DIFF => [F.CFG_TIME_DIFF_DIFF]
  | .PRT_CFG => [F.PRT_CFG_LINK_DEB, F.PRT_CFG_RX_POL, F.PRT_CFG_TX_POL, F.PRT_CFG_AN_EN, F.PRT_CFG_RS_FEC, F.PRT_CFG_TX_EN, F.PRT_CFG_RX_EN, F.PRT_CFG_MODE]
  | .PRT_MAXLEN => [F.PRT_MAXLEN_MAXLEN]
  | .PRT_STATUS => [F.PRT_STATUS_CHANGE, F.PRT_STATUS_LANE_LOCK, F.PRT_STATUS_HDX, F.PRT_STATUS_ALIGNED, F.PRT_STATUS_AN_DONE, F.PRT_STATUS_REMOTE_FAULT, F.PRT_STATUS_LOCAL_FAULT, F.PRT_STATUS_SPEED, F.PRT_STATUS_LINK]
  | .PRT_PAUSE_CFG => [F.PRT_PAUSE_CFG_TX_PFC, F.PRT_PAUSE_CFG_RX_PFC, F.PRT_PAUSE_CFG_TX_PAUSE, F.PRT_PAUSE_CFG_RX_PAUSE]
  | .PRT_PAUSE_QUANTA => [F.PRT_PAUSE_QUANTA_REFRESH, F.PRT_PAUSE_QUANTA_XOFF]
  | .PRT_PAUSE_STATE => [F.PRT_PAUSE_STATE_PAUSED, F.PRT_PAUSE_STATE_CLASS_PAUSED]
  | .PRT_MACADDR_LO => [F.PRT_MACADDR_LO_ADDR]
  | .PRT_MACADDR_HI => [F.PRT_MACADDR_HI_ADDR]
  | .PRT_CNT_CLR => [F.PRT_CNT_CLR_CLR]
  | .PRT_CNT => [F.PRT_CNT_COUNT]
  | .PRT_MG_CTL => [F.PRT_MG_CTL_TX_IE, F.PRT_MG_CTL_RX_IE, F.PRT_MG_CTL_BCAST_EN]
  | .PRT_MG_FILT_LO => [F.PRT_MG_FILT_LO_ADDR]
  | .PRT_MG_FILT_HI => [F.PRT_MG_FILT_HI_EN, F.PRT_MG_FILT_HI_ADDR]
  | .PRT_MG_RXBASE_LO => [F.PRT_MG_RXBASE_LO_ADDR_LO]
  | .PRT_MG_TXBASE_LO => [F.PRT_MG_TXBASE_LO_ADDR_LO]
  | .PRT_MG_RXBASE_HI => [F.PRT_MG_RXBASE_HI_SIZE_LOG2, F.PRT_MG_RXBASE_HI_ADDR_HI]
  | .PRT_MG_TXBASE_HI => [F.PRT_MG_TXBASE_HI_SIZE_LOG2, F.PRT_MG_TXBASE_HI_ADDR_HI]
  | .PRT_MG_TX_KICK => [F.PRT_MG_TX_KICK_KICK]
  | .PSW_CTRL => [F.PSW_CTRL_MAC_AGE, F.PSW_CTRL_IP_CUT, F.PSW_CTRL_RED_MODE, F.PSW_CTRL_SEQ_OWNER, F.PSW_CTRL_EN]
  | .PSW_STATUS => [F.PSW_STATUS_CHANGE, F.PSW_STATUS_IPDOWN, F.PSW_STATUS_OWNER, F.PSW_STATUS_BANK]
  | .PSW_TBL_STATUS => [F.PSW_TBL_STATUS_BUILDING, F.PSW_TBL_STATUS_OVERFLOW, F.PSW_TBL_STATUS_LOG_COUNT]
  | .PSW_PCP_MAP => [F.PSW_PCP_MAP_MAP]
  | .PSW_LINK_HOLD => [F.PSW_LINK_HOLD_HOLD]
  | .PSW_AGE_MAX => [F.PSW_AGE_MAX_AGE_MAX]
  | .PSW_PAUSE_GRACE => [F.PSW_PAUSE_GRACE_GRACE]
  | .PSW_SEQ_CFG => [F.PSW_SEQ_CFG_JUMP, F.PSW_SEQ_CFG_WAIT]
  | .PSW_RED_CFG => [F.PSW_RED_CFG_SUPV_INT, F.PSW_RED_CFG_SUPV_LAST, F.PSW_RED_CFG_SUPV_EN, F.PSW_RED_CFG_RING_PORT]
  | .PSW_BUF_FREE => [F.PSW_BUF_FREE_FREE]
  | .PSW_BUF_LOW => [F.PSW_BUF_LOW_LOW]
  | .PSW_PCNT => [F.PSW_PCNT_COUNT]
  | .PSW_CNT_CLR => [F.PSW_CNT_CLR_CLR]
  | .PSW_HCAP_CTRL => [F.PSW_HCAP_CTRL_SIZE_LOG2, F.PSW_HCAP_CTRL_MODE, F.PSW_HCAP_CTRL_EN]
  | .PSW_HCAP_BASE_LO => [F.PSW_HCAP_BASE_LO_ADDR]
  | .PSW_HCAP_BASE_HI => [F.PSW_HCAP_BASE_HI_ADDR]
  | .PSW_HCAP_HEAD => [F.PSW_HCAP_HEAD_INDEX]
  | .PSW_HCAP_TAIL => [F.PSW_HCAP_TAIL_INDEX]
  | .PSW_HCAP_LOST => [F.PSW_HCAP_LOST_COUNT]
  | .PSW_HCAP_FILT_A => [F.PSW_HCAP_FILT_A_EN, F.PSW_HCAP_FILT_A_DIR, F.PSW_HCAP_FILT_A_PORTS]
  | .PSW_HCAP_FILT_B => [F.PSW_HCAP_FILT_B_ETYPE, F.PSW_HCAP_FILT_B_VERDICTS]
  | .PSW_PORT_CFG => [F.PSW_PORT_CFG_PVID, F.PSW_PORT_CFG_DEF_CLASS, F.PSW_PORT_CFG_LEARN, F.PSW_PORT_CFG_CUT_EN, F.PSW_PORT_CFG_FWD_EN]
  | .PSW_IN_THR => [F.PSW_IN_THR_XOFF, F.PSW_IN_THR_XON]
  | .PSW_IN_LIM => [F.PSW_IN_LIM_DROP, F.PSW_IN_LIM_MIN]
  | .PSW_OCC => [F.PSW_OCC_OCC]
  | .PSW_EQ => [F.PSW_EQ_EQ_MAX, F.PSW_EQ_EQ_OCC]
  | .PSW_CNT => [F.PSW_CNT_COUNT]
  | .ING_CTRL => [F.ING_CTRL_GRID_RATE, F.ING_CTRL_EN]
  | .ING_STATUS => [F.ING_STATUS_CHANGE, F.ING_STATUS_GRID_RUN, F.ING_STATUS_BANK]
  | .ING_TBL_STATUS => [F.ING_TBL_STATUS_BUILDING, F.ING_TBL_STATUS_OVERFLOW, F.ING_TBL_STATUS_LOG_COUNT]
  | .ING_CNT => [F.ING_CNT_COUNT]
  | .ING_CNT_CLR => [F.ING_CNT_CLR_CLR]
  | .FLT_CTRL => [F.FLT_CTRL_SW_EN, F.FLT_CTRL_EN]
  | .FLT_STATUS => [F.FLT_STATUS_BANK]
  | .FLT_CNT => [F.FLT_CNT_COUNT]
  | .FLT_CNT_CLR => [F.FLT_CNT_CLR_CLR]
  | .FLT_ENG_CFG => [F.FLT_ENG_CFG_SLOT_CYC, F.FLT_ENG_CFG_N_SLOTS]
  | .FLT_WASH_LEN => [F.FLT_WASH_LEN_LEN]
  | .FLT_SWAP_REQ => [F.FLT_SWAP_REQ_BANK, F.FLT_SWAP_REQ_SLOT]
  | .FLT_SWAP_SEC => [F.FLT_SWAP_SEC_SEC]
  | .FLT_SWAP_IDX => [F.FLT_SWAP_IDX_IDX]
  | .FLT_SWAP_GO => [F.FLT_SWAP_GO_GO]
  | .FLT_ENG_LAG => [F.FLT_ENG_LAG_LAG]
  | .QUL_CTRL => [F.QUL_CTRL_LOCK, F.QUL_CTRL_EN, F.QUL_CTRL_RES0, F.QUL_CTRL_STALL_LIM]
  | .QUL_STATUS => [F.QUL_STATUS_OVERLOAD, F.QUL_STATUS_OLD_BUSY, F.QUL_STATUS_BANK]
  | .QUL_GRAPH_BASE_LO => [F.QUL_GRAPH_BASE_LO_ADDR]
  | .QUL_GRAPH_BASE_HI => [F.QUL_GRAPH_BASE_HI_ADDR]
  | .QUL_LVL_CFG => [F.QUL_LVL_CFG_QBASE]
  | .QUL_LVL_STAT => [F.QUL_LVL_STAT_MAX, F.QUL_LVL_STAT_DEPTH]
  | .QUL_HIST_SEL => [F.QUL_HIST_SEL_GRP, F.QUL_HIST_SEL_SEL]
  | .QUL_HIST => [F.QUL_HIST_COUNT]
  | .QUL_LOAD_WIN => [F.QUL_LOAD_WIN_WIN]
  | .QUL_ENG_LOAD => [F.QUL_ENG_LOAD_PEAK, F.QUL_ENG_LOAD_LOAD]
  | .QUL_GRP_CTL => [F.QUL_GRP_CTL_INTAKE, F.QUL_GRP_CTL_WEIGHT]
  | .QUL_CNT => [F.QUL_CNT_COUNT]
  | .QUL_CNT_CLR => [F.QUL_CNT_CLR_CLR]
  | .OPS_CTRL => [F.OPS_CTRL_LOCK, F.OPS_CTRL_EN]
  | .OPS_STATUS => [F.OPS_STATUS_BANK]
  | .OPS_AREA_BASE_LO => [F.OPS_AREA_BASE_LO_ADDR]
  | .OPS_AREA_BASE_HI => [F.OPS_AREA_BASE_HI_ADDR]
  | .OPS_STATE_BASE_LO => [F.OPS_STATE_BASE_LO_ADDR]
  | .OPS_STATE_BASE_HI => [F.OPS_STATE_BASE_HI_ADDR]
  | .OPS_STATE_SIZE => [F.OPS_STATE_SIZE_MIB]
  | .OPS_ENG_OUT_LO => [F.OPS_ENG_OUT_LO_OUT]
  | .OPS_ENG_OUT_HI => [F.OPS_ENG_OUT_HI_OUT]
  | .OPS_CNT => [F.OPS_CNT_COUNT]
  | .OPS_CNT_CLR => [F.OPS_CNT_CLR_CLR]
  | .MAP_CTRL => [F.MAP_CTRL_LOCK, F.MAP_CTRL_EN, F.MAP_CTRL_HOLD]
  | .MAP_STATUS => [F.MAP_STATUS_CHANGE, F.MAP_STATUS_HELD, F.MAP_STATUS_BANK]
  | .MAP_BASE_LO => [F.MAP_BASE_LO_ADDR]
  | .MAP_BASE_HI => [F.MAP_BASE_HI_ADDR]
  | .MAP_PEND_BASE_LO => [F.MAP_PEND_BASE_LO_ADDR]
  | .MAP_PEND_BASE_HI => [F.MAP_PEND_BASE_HI_ADDR]
  | .MAP_PEND_CFG => [F.MAP_PEND_CFG_SIZE_LOG2]
  | .MAP_TBL_STATUS => [F.MAP_TBL_STATUS_BUILDING, F.MAP_TBL_STATUS_OVERFLOW, F.MAP_TBL_STATUS_LOG_COUNT]
  | .MAP_PEND_DEPTH => [F.MAP_PEND_DEPTH_COUNT]
  | .MAP_PEND_MAX => [F.MAP_PEND_MAX_COUNT]
  | .MAP_REQ_LO => [F.MAP_REQ_LO_ADDR]
  | .MAP_REQ_HI => [F.MAP_REQ_HI_ADDR]
  | .MAP_REQ_GO => [F.MAP_REQ_GO_GO]
  | .MAP_REQ_FAULT => [F.MAP_REQ_FAULT_COUNT, F.MAP_REQ_FAULT_REFUSED]
  | .MAP_CNT => [F.MAP_CNT_COUNT]
  | .MAP_CNT_CLR => [F.MAP_CNT_CLR_CLR]
  | .SCR_PERIOD => [F.SCR_PERIOD_PERIOD]
  | .SCR_OFFSET => [F.SCR_OFFSET_OFFSET]
  | .SCR_WDOG => [F.SCR_WDOG_WD_CYC]
  | .SCR_SIZE => [F.SCR_SIZE_N_OUT, F.SCR_SIZE_N_IN]
  | .SCR_MODE => [F.SCR_MODE_SKIP_MAX, F.SCR_MODE_MODE]
  | .SCR_RETAIN => [F.SCR_RETAIN_RETAIN_TAG]
  | .SCR_STATUS => [F.SCR_STATUS_TRIP_PC, F.SCR_STATUS_OLD_BUSY, F.SCR_STATUS_FORCED, F.SCR_STATUS_CMD_DEPTH, F.SCR_STATUS_CAUSE, F.SCR_STATUS_EXTENDING, F.SCR_STATUS_BANK, F.SCR_STATUS_STATE]
  | .SCR_CMD => [F.SCR_CMD_OP]
  | .SCR_AT_SEC => [F.SCR_AT_SEC_SEC]
  | .SCR_AT_US => [F.SCR_AT_US_US]
  | .SCR_CMD_GO => [F.SCR_CMD_GO_GO]
  | .SCR_CYC_MAX => [F.SCR_CYC_MAX_CYC]
  | .SCR_CNT => [F.SCR_CNT_COUNT]
  | .SCR_CNT_CLR => [F.SCR_CNT_CLR_CLR]
  | .PUB_CTRL => [F.PUB_CTRL_COLD, F.PUB_CTRL_TRIP_EN, F.PUB_CTRL_EN]
  | .PUB_STATUS => [F.PUB_STATUS_ADOPT, F.PUB_STATUS_BANK]
  | .PUB_TRIP_STATUS => [F.PUB_TRIP_STATUS_DIS, F.PUB_TRIP_STATUS_LEVEL]
  | .PUB_TRIP_DRIVE => [F.PUB_TRIP_DRIVE_DRIVE]
  | .PUB_CNT => [F.PUB_CNT_COUNT]
  | .PUB_CNT_CLR => [F.PUB_CNT_CLR_CLR]
  | .CHK_CFG => [F.CHK_CFG_IE, F.CHK_CFG_ALIVE_INC, F.CHK_CFG_ALIVE_IN, F.CHK_CFG_INIT, F.CHK_CFG_POLY]
  | .CHK_SRC_LO => [F.CHK_SRC_LO_ADDR]
  | .CHK_SRC_HI => [F.CHK_SRC_HI_ADDR]
  | .CHK_LEN => [F.CHK_LEN_LEN]
  | .CHK_GO => [F.CHK_GO_GO]
  | .CHK_STATUS => [F.CHK_STATUS_WBUSY, F.CHK_STATUS_BADCFG, F.CHK_STATUS_ADDR_ERR, F.CHK_STATUS_DONE, F.CHK_STATUS_BUSY]
  | .CHK_VALUE_LO => [F.CHK_VALUE_LO_VALUE]
  | .CHK_VALUE_HI => [F.CHK_VALUE_HI_VALUE]
  | .CHK_RESULT_LO => [F.CHK_RESULT_LO_RESULT]
  | .CHK_RESULT_HI => [F.CHK_RESULT_HI_RESULT]
  | .CHK_ALIVE => [F.CHK_ALIVE_ALIVE]
  | .PSW_MERGE_CFG => [F.PSW_MERGE_CFG_ECHO_EN, F.PSW_MERGE_CFG_AGREE_SOLO, F.PSW_MERGE_CFG_AGREE_WINDOW]
  | .PSW_DIV_CAPT0 => [F.PSW_DIV_CAPT0_VALID, F.PSW_DIV_CAPT0_KIND, F.PSW_DIV_CAPT0_PUB]
  | .PSW_DIV_CAPT1 => [F.PSW_DIV_CAPT1_ISSUE]
  | .DRC_CTRL => [F.DRC_CTRL_LOCK, F.DRC_CTRL_IE, F.DRC_CTRL_EN]
  | .DRC_STATUS => [F.DRC_STATUS_BUF, F.DRC_STATUS_OLD_BUSY, F.DRC_STATUS_BANK, F.DRC_STATUS_STATE]
  | .DRC_MEM_BASE_LO => [F.DRC_MEM_BASE_LO_ADDR]
  | .DRC_MEM_BASE_HI => [F.DRC_MEM_BASE_HI_ADDR]
  | .DRC_MEM_CFG => [F.DRC_MEM_CFG_COUNT_M1, F.DRC_MEM_CFG_SIZE_MIB]
  | .DRC_LAST => [F.DRC_LAST_BUF, F.DRC_LAST_SEQ]
  | .DRC_RELEASE => [F.DRC_RELEASE_BUF]
  | .DRC_RESUME => [F.DRC_RESUME_RESUME]
  | .DRC_MAN_SEC => [F.DRC_MAN_SEC_VALUE]
  | .DRC_MAN_US => [F.DRC_MAN_US_VALUE]
  | .DRC_MAN_GO => [F.DRC_MAN_GO_GO]
  | .DRC_XT_CFG => [F.DRC_XT_CFG_OUT_EN, F.DRC_XT_CFG_WIDTH]
  | .DRC_CNT => [F.DRC_CNT_COUNT]
  | .DRC_CNT_CLR => [F.DRC_CNT_CLR_CLR]
  | .INS_STATUS => [F.INS_STATUS_CHANGE, F.INS_STATUS_BANK]
  | .INS_CHG_MAP_LO => [F.INS_CHG_MAP_LO_CHG]
  | .INS_CHG_MAP_HI => [F.INS_CHG_MAP_HI_CHG]
  | .INS_VINT_SUM_LO => [F.INS_VINT_SUM_LO_SUM]
  | .INS_VINT_SUM_HI => [F.INS_VINT_SUM_HI_SUM]
  | .INS_VINT_SUM_MGR => [F.INS_VINT_SUM_MGR_SUM]
  | .INS_DIRTY_CTL => [F.INS_DIRTY_CTL_LOCK, F.INS_DIRTY_CTL_SIZE_LOG2, F.INS_DIRTY_CTL_OVERFLOW, F.INS_DIRTY_CTL_CLEARING, F.INS_DIRTY_CTL_EPOCH_GO, F.INS_DIRTY_CTL_EN]
  | .INS_DIRTY_RING_LO => [F.INS_DIRTY_RING_LO_ADDR]
  | .INS_DIRTY_RING_HI => [F.INS_DIRTY_RING_HI_ADDR]
  | .INS_DIRTY_MAP_LO => [F.INS_DIRTY_MAP_LO_ADDR]
  | .INS_DIRTY_MAP_HI => [F.INS_DIRTY_MAP_HI_ADDR]
  | .INS_DIRTY_HEAD => [F.INS_DIRTY_HEAD_INDEX]
  | .INS_DIRTY_TAIL => [F.INS_DIRTY_TAIL_INDEX]
  | .INS_DIRTY_EPOCH => [F.INS_DIRTY_EPOCH_EPOCH]
  | .INS_DIRTY_LOST => [F.INS_DIRTY_LOST_COUNT]
  | .INS_CMD => [F.INS_CMD_OP]
  | .INS_AT_SEC => [F.INS_AT_SEC_SEC]
  | .INS_AT_IDX => [F.INS_AT_IDX_IDX]
  | .INS_CMD_GO => [F.INS_CMD_GO_GO]
  | .INS_CMD_STATUS => [F.INS_CMD_STATUS_CODE, F.INS_CMD_STATUS_WAITING, F.INS_CMD_STATUS_DONE]
  | .INS_STATE => [F.INS_STATE_DRAIN_TMO, F.INS_STATE_DRAINED, F.INS_STATE_STATE]
  | .INS_DRAIN_LIMIT => [F.INS_DRAIN_LIMIT_LIMIT]
  | .INS_VINT_ROUTE => [F.INS_VINT_ROUTE_MASK, F.INS_VINT_ROUTE_CORE]
  | .INS_VINT_INJECT => [F.INS_VINT_INJECT_VECTOR]
  | .INS_VINT_PEND => [F.INS_VINT_PEND_BITS]
  | .INS_VINT_EN => [F.INS_VINT_EN_BITS]
  | .INS_OCNT => [F.INS_OCNT_COUNT]
  | .INS_OCNT_CLR => [F.INS_OCNT_CLR_CLR]
  | .FBS_OBJ_CMD => [F.FBS_OBJ_CMD_ABORT_TX, F.FBS_OBJ_CMD_RESUME, F.FBS_OBJ_CMD_SEND]
  | .FBS_OBJ_FLAGS => [F.FBS_OBJ_FLAGS_REPORT, F.FBS_OBJ_FLAGS_LOST, F.FBS_OBJ_FLAGS_NEW]
  | .FBS_CTRL => [F.FBS_CTRL_TDC_EN, F.FBS_CTRL_FD_EN, F.FBS_CTRL_PREF_ACTIVE, F.FBS_CTRL_PAIR_EN, F.FBS_CTRL_AUTO_RECOV, F.FBS_CTRL_OPMODE, F.FBS_CTRL_EN]
  | .FBS_STATUS => [F.FBS_STATUS_CHANGE, F.FBS_STATUS_RD_BUSY, F.FBS_STATUS_SYNC, F.FBS_STATUS_ACTIVE, F.FBS_STATUS_ERR_STATE]
  | .FBS_NBT => [F.FBS_NBT_SJW_M1, F.FBS_NBT_TSEG1_M1, F.FBS_NBT_TSEG2_M1, F.FBS_NBT_BRP_M1]
  | .FBS_DBT => [F.FBS_DBT_SJW_M1, F.FBS_DBT_TSEG1_M1, F.FBS_DBT_TSEG2_M1, F.FBS_DBT_BRP_M1]
  | .FBS_TDC => [F.FBS_TDC_TDCF, F.FBS_TDC_TDCO]
  | .FBS_ERR => [F.FBS_ERR_RP, F.FBS_ERR_REC, F.FBS_ERR_TEC]
  | .FBS_RD_CFG => [F.FBS_RD_CFG_DWELL, F.FBS_RD_CFG_GOOD, F.FBS_RD_CFG_ROUNDS, F.FBS_RD_CFG_N_CAND]
  | .FBS_RD_STATUS => [F.FBS_RD_STATUS_DONE, F.FBS_RD_STATUS_FOUND]
  | .FBS_RD_NBT => [F.FBS_RD_NBT_SJW_M1, F.FBS_RD_NBT_TSEG1_M1, F.FBS_RD_NBT_TSEG2_M1, F.FBS_RD_NBT_BRP_M1]
  | .FBS_RD_DBT => [F.FBS_RD_DBT_SJW_M1, F.FBS_RD_DBT_TSEG1_M1, F.FBS_RD_DBT_TSEG2_M1, F.FBS_RD_DBT_BRP_M1]
  | .FBS_CNT => [F.FBS_CNT_COUNT]
  | .FBS_CNT_CLR => [F.FBS_CNT_CLR_CLR]
  | .INK_STATUS => [F.INK_STATUS_LIFECYCLE, F.INK_STATUS_VTIME_GAP, F.INK_STATUS_OSC_FAIL, F.INK_STATUS_TAMPER1, F.INK_STATUS_TAMPER0, F.INK_STATUS_STANDBY_SEEN]
  | .INK_VTIME_LO => [F.INK_VTIME_LO_VALUE]
  | .INK_VTIME_HI => [F.INK_VTIME_HI_VALUE]
  | .INK_VTIME_TICK => [F.INK_VTIME_TICK_VALUE]
  | .INK_OPH => [F.INK_OPH_COUNT]
  | .INK_PCYC => [F.INK_PCYC_COUNT]
  | .INK_VINK_LOSS => [F.INK_VINK_LOSS_COUNT]
  | .INK_TAMPER_CFG => [F.INK_TAMPER_CFG_POL1, F.INK_TAMPER_CFG_POL0, F.INK_TAMPER_CFG_EN1, F.INK_TAMPER_CFG_EN0]
  | .INK_DIEID => [F.INK_DIEID_ID]
  | .EVR_HEAD => [F.EVR_HEAD_INDEX]
  | .EVR_TAIL => [F.EVR_TAIL_INDEX]
  | .EVR_WRAPS => [F.EVR_WRAPS_COUNT]
  | .EVR_CLR_COUNT => [F.EVR_CLR_COUNT_COUNT]
  | .EVR_OVERWRITTEN => [F.EVR_OVERWRITTEN_COUNT]
  | .EVR_SUPPRESSED => [F.EVR_SUPPRESSED_COUNT]
  | .EVR_STATUS => [F.EVR_STATUS_CLEARING, F.EVR_STATUS_OVERWRITE, F.EVR_STATUS_SUPPR]
  | .KEY_ROOT_STATUS => [F.KEY_ROOT_STATUS_MAINT, F.KEY_ROOT_STATUS_OPER, F.KEY_ROOT_STATUS_FACTORY]
  | .KEY_PENDING => [F.KEY_PENDING_CHANGE, F.KEY_PENDING_STALE]
  | .KEY_MCOUNT => [F.KEY_MCOUNT_COUNT]
  | .KEY_SLOT_W => [F.KEY_SLOT_W_WORD]
  | .CFG_BOOT_STATUS => [F.CFG_BOOT_STATUS_N_ELEM, F.CFG_BOOT_STATUS_N_STREAM, F.CFG_BOOT_STATUS_CHANGE, F.CFG_BOOT_STATUS_TRUNC, F.CFG_BOOT_STATUS_COPY, F.CFG_BOOT_STATUS_HANDED1, F.CFG_BOOT_STATUS_HANDED0, F.CFG_BOOT_STATUS_ARMED1, F.CFG_BOOT_STATUS_ARMED0, F.CFG_BOOT_STATUS_NOTABLE]
  | .BLT_CFG => [F.BLT_CFG_HOLD_MAX, F.BLT_CFG_ENG_LIMIT, F.BLT_CFG_AUTO]
  | .BLT_STATUS => [F.BLT_STATUS_CHANGE, F.BLT_STATUS_LIMITED, F.BLT_STATUS_HELD, F.BLT_STATUS_SLOTS, F.BLT_STATUS_WRITING, F.BLT_STATUS_CAPTURING]
  | .BLT_CTRL => [F.BLT_CTRL_RESTART, F.BLT_CTRL_ISOLATE]
  | .BLT_ACC_STATUS => [F.BLT_ACC_STATUS_VALID, F.BLT_ACC_STATUS_INIT, F.BLT_ACC_STATUS_WRITE, F.BLT_ACC_STATUS_REASON]
  | .BLT_ACC_ADDR_LO => [F.BLT_ACC_ADDR_LO_ADDR]
  | .BLT_ACC_ADDR_HI => [F.BLT_ACC_ADDR_HI_ADDR]
  | .BLT_CORR => [F.BLT_CORR_COUNT]
  | .BLT_UNC => [F.BLT_UNC_COUNT]
  | .CFG_ACC_STATUS => [F.CFG_ACC_STATUS_VALID, F.CFG_ACC_STATUS_WRITE, F.CFG_ACC_STATUS_REASON, F.CFG_ACC_STATUS_OFFSET]
  | .PWR_TEMP => [F.PWR_TEMP_MAX, F.PWR_TEMP_TEMP]
  | .PWR_TEMP_ALARM => [F.PWR_TEMP_ALARM_ALARM, F.PWR_TEMP_ALARM_LIMIT]
  | .PWR_BANK_STATUS => [F.PWR_BANK_STATUS_E_LV, F.PWR_BANK_STATUS_PRESENT, F.PWR_BANK_STATUS_LOW]
  | .SCR_SH_PERIOD => [F.SCR_SH_PERIOD_PERIOD]
  | .SCR_SH_OFFSET => [F.SCR_SH_OFFSET_OFFSET]
  | .SCR_SH_WDOG => [F.SCR_SH_WDOG_WD_CYC]
  | .SCR_SH_SIZE => [F.SCR_SH_SIZE_N_OUT, F.SCR_SH_SIZE_N_IN]
  | .SCR_SH_MODE => [F.SCR_SH_MODE_SKIP_MAX, F.SCR_SH_MODE_MODE]
  | .SCR_SH_RETAIN => [F.SCR_SH_RETAIN_RETAIN_TAG]

/-- The registers of a block, in the order of the spec. -/
def Kind.regs : Kind → List RegId
  | .cfg => [.CFG_DEVICE_ID, .CFG_DOMAIN_STATUS, .CFG_BCAST_STATUS, .CFG_BCAST_ADDR, .CFG_BCAST_DATA0, .CFG_BCAST_DATA1, .CFG_BOOT_STATUS]
  | .stw => [.STW_CMD, .STW_ARG, .STW_GO, .STW_CANCEL, .STW_STATUS, .STW_RES, .STW_PROGRESS, .STW_INT_EN]
  | .stwLoad => [.STW_LOAD_STATUS, .STW_LOAD_TARGETS, .STW_BANK]
  | .pwr => [.PWR_TEMP, .PWR_TEMP_ALARM, .PWR_BANK_STATUS]
  | .ink => [.INK_STATUS, .INK_VTIME_LO, .INK_VTIME_HI, .INK_VTIME_TICK, .INK_OPH, .INK_PCYC, .INK_VINK_LOSS, .INK_TAMPER_CFG, .INK_DIEID]
  | .evr => [.EVR_HEAD, .EVR_TAIL, .EVR_WRAPS, .EVR_CLR_COUNT, .EVR_OVERWRITTEN, .EVR_SUPPRESSED, .EVR_STATUS]
  | .key => [.KEY_ROOT_STATUS, .KEY_PENDING, .KEY_MCOUNT, .KEY_SLOT_W]
  | .blt => [.BLT_CFG, .BLT_STATUS, .BLT_CTRL, .BLT_ACC_STATUS, .BLT_ACC_ADDR_LO, .BLT_ACC_ADDR_HI, .BLT_CORR, .BLT_UNC]
  | .prt => [.PRT_CFG, .PRT_MAXLEN, .PRT_STATUS, .PRT_PAUSE_CFG, .PRT_PAUSE_QUANTA, .PRT_PAUSE_STATE, .PRT_MACADDR_LO, .PRT_MACADDR_HI, .PRT_CNT_CLR, .PRT_CNT, .PRT_MG_CTL, .PRT_MG_FILT_LO, .PRT_MG_FILT_HI, .PRT_MG_RXBASE_LO, .PRT_MG_TXBASE_LO, .PRT_MG_RXBASE_HI, .PRT_MG_TXBASE_HI, .PRT_MG_TX_KICK]
  | .psw => [.PSW_CTRL, .PSW_STATUS, .PSW_TBL_STATUS, .PSW_PCP_MAP, .PSW_LINK_HOLD, .PSW_AGE_MAX, .PSW_PAUSE_GRACE, .PSW_SEQ_CFG, .PSW_RED_CFG, .PSW_BUF_FREE, .PSW_BUF_LOW, .PSW_PCNT, .PSW_CNT_CLR, .PSW_HCAP_CTRL, .PSW_HCAP_BASE_LO, .PSW_HCAP_BASE_HI, .PSW_HCAP_HEAD, .PSW_HCAP_TAIL, .PSW_HCAP_LOST, .PSW_HCAP_FILT_A, .PSW_HCAP_FILT_B, .PSW_MERGE_CFG, .PSW_DIV_CAPT0, .PSW_DIV_CAPT1]
  | .pswPort => [.PSW_PORT_CFG, .PSW_IN_THR, .PSW_IN_LIM, .PSW_OCC, .PSW_EQ, .PSW_CNT]
  | .tim => [.TIM_CTRL, .TIM_STATUS, .TIM_NOW_W0, .TIM_NOW_W1, .TIM_NOW_W2, .TIM_OFFSET_XPLANE, .TIM_LIMITS, .TIM_DOM_CFG, .TIM_DOM_STATUS, .TIM_DOM_OFFSET, .TIM_DOM_GM0, .TIM_DOM_GM1, .TIM_PPS_CTRL, .TIM_PPS_ADJ0, .TIM_PPS_ADJ1, .TIM_PPS_IN_W0, .TIM_PPS_IN_W1, .TIM_PPS_IN_W2]
  | .timPort => [.TIM_NIB_RXADJ, .TIM_NIB_TXADJ, .TIM_PTP_PORT, .TIM_PDELAY, .TIM_TXQ_STATUS, .TIM_TXQ_FALLBACK, .TIM_TXQ_ENT]
  | .lcfg => [.CFG_LANE_ID, .CFG_PAIR_STATUS, .CFG_SETTLE_OVR, .CFG_TIME_FOLLOW, .CFG_TIME_DIFF, .CFG_ACC_STATUS]
  | .ing => [.ING_CTRL, .ING_STATUS, .ING_TBL_STATUS, .ING_CNT, .ING_CNT_CLR]
  | .flt => [.FLT_CTRL, .FLT_STATUS, .FLT_CNT, .FLT_CNT_CLR]
  | .fltEng => [.FLT_ENG_CFG, .FLT_WASH_LEN, .FLT_SWAP_REQ, .FLT_SWAP_SEC, .FLT_SWAP_IDX, .FLT_SWAP_GO, .FLT_ENG_LAG]
  | .qul => [.QUL_CTRL, .QUL_STATUS, .QUL_GRAPH_BASE_LO, .QUL_GRAPH_BASE_HI, .QUL_LVL_CFG, .QUL_LVL_STAT, .QUL_HIST_SEL, .QUL_HIST, .QUL_LOAD_WIN, .QUL_ENG_LOAD, .QUL_GRP_CTL, .QUL_CNT, .QUL_CNT_CLR]
  | .ops => [.OPS_CTRL, .OPS_STATUS, .OPS_AREA_BASE_LO, .OPS_AREA_BASE_HI, .OPS_STATE_BASE_LO, .OPS_STATE_BASE_HI, .OPS_STATE_SIZE, .OPS_ENG_OUT_LO, .OPS_ENG_OUT_HI, .OPS_CNT, .OPS_CNT_CLR]
  | .map => [.MAP_CTRL, .MAP_STATUS, .MAP_BASE_LO, .MAP_BASE_HI, .MAP_PEND_BASE_LO, .MAP_PEND_BASE_HI, .MAP_PEND_CFG, .MAP_TBL_STATUS, .MAP_PEND_DEPTH, .MAP_PEND_MAX, .MAP_REQ_LO, .MAP_REQ_HI, .MAP_REQ_GO, .MAP_REQ_FAULT, .MAP_CNT, .MAP_CNT_CLR]
  | .pub => [.PUB_CTRL, .PUB_STATUS, .PUB_TRIP_STATUS, .PUB_TRIP_DRIVE, .PUB_CNT, .PUB_CNT_CLR]
  | .chk => [.CHK_CFG, .CHK_SRC_LO, .CHK_SRC_HI, .CHK_LEN, .CHK_GO, .CHK_STATUS, .CHK_VALUE_LO, .CHK_VALUE_HI, .CHK_RESULT_LO, .CHK_RESULT_HI, .CHK_ALIVE]
  | .drc => [.DRC_CTRL, .DRC_STATUS, .DRC_MEM_BASE_LO, .DRC_MEM_BASE_HI, .DRC_MEM_CFG, .DRC_LAST, .DRC_RELEASE, .DRC_RESUME, .DRC_MAN_SEC, .DRC_MAN_US, .DRC_MAN_GO, .DRC_XT_CFG, .DRC_CNT, .DRC_CNT_CLR]
  | .ins => [.INS_STATUS, .INS_CHG_MAP_LO, .INS_CHG_MAP_HI, .INS_VINT_SUM_LO, .INS_VINT_SUM_HI, .INS_VINT_SUM_MGR, .INS_DIRTY_CTL, .INS_DIRTY_RING_LO, .INS_DIRTY_RING_HI, .INS_DIRTY_MAP_LO, .INS_DIRTY_MAP_HI, .INS_DIRTY_HEAD, .INS_DIRTY_TAIL, .INS_DIRTY_EPOCH, .INS_DIRTY_LOST]
  | .insPage => [.INS_CMD, .INS_AT_SEC, .INS_AT_IDX, .INS_CMD_GO, .INS_CMD_STATUS, .INS_STATE, .INS_DRAIN_LIMIT, .INS_VINT_ROUTE, .INS_VINT_INJECT, .INS_VINT_PEND, .INS_VINT_EN, .INS_OCNT, .INS_OCNT_CLR]
  | .fbs => []
  | .fbsCtl => [.FBS_CTRL, .FBS_STATUS, .FBS_NBT, .FBS_DBT, .FBS_TDC, .FBS_ERR, .FBS_RD_CFG, .FBS_RD_STATUS, .FBS_RD_NBT, .FBS_RD_DBT, .FBS_CNT, .FBS_CNT_CLR]
  | .fbsObj => [.FBS_OBJ_CMD, .FBS_OBJ_FLAGS]
  | .scr => [.SCR_PERIOD, .SCR_OFFSET, .SCR_WDOG, .SCR_SIZE, .SCR_MODE, .SCR_RETAIN, .SCR_STATUS, .SCR_CMD, .SCR_AT_SEC, .SCR_AT_US, .SCR_CMD_GO, .SCR_CYC_MAX, .SCR_CNT, .SCR_CNT_CLR, .SCR_SH_PERIOD, .SCR_SH_OFFSET, .SCR_SH_WDOG, .SCR_SH_SIZE, .SCR_SH_MODE, .SCR_SH_RETAIN]

/-- The table windows of the block layouts (Tables 5.7, 11.7, 16.3 and the layout tables of the lane blocks). -/
inductive Win where
  | pswFdbSh | pswFdbAct | pswStrSh | pswStrAct | pswVlanSh | pswVlanAct | ingSubSh | ingSubAct | ingGrpSh | ingGrpAct | ingState
  | ingChgMap | fltSlotSh | fltSlotAct | fltSwSh | fltSwAct | fltState | fltCoef | qulGrpSh | qulGrpAct | qulGrpState | qulFlowState
  | mapRngSh | mapRngAct | mapGooSh | mapGooAct | mapMemSh | mapMemAct | mapGooState | mapGchgMap | pubDescSh | pubDescAct | pubMemSh
  | pubMemAct | pubTextSh | pubTextAct | pubTripSh | pubTripAct | pubSrcSh | pubSrcAct | pubState | drcSetSh | drcSetAct | drcAnaSh
  | drcAnaAct | drcBinSh | drcBinAct | drcTrigSh | drcTrigAct | drcPhSh | drcPhAct | insDescSh | insDescAct | insMwSh | insMwAct
  | fbsDescSh | fbsDescAct | fbsObjState | fbsObjBuf | scrInSh | scrInAct | scrTpSh | scrTpAct | scrCpSh | scrCpAct | scrFrcSh | scrFrcAct
  | scrFlags | scrTimers | scrCounters | scrOutSh | scrOutAct | scrPrgSh | scrPrgAct
  deriving DecidableEq, Repr

/-- Block, offset, size in bytes and access of a window. -/
structure WinInfo where
  kind : Kind
  off : Nat
  size : Nat
  acc : Acc
  deriving DecidableEq, Repr

/-- Where each window lies in its block. -/
def Win.info : Win → WinInfo
  | .pswFdbSh => ⟨.psw, 0x100000, 0x100000, .rw⟩
  | .pswFdbAct => ⟨.psw, 0x200000, 0x100000, .ro⟩
  | .pswStrSh => ⟨.psw, 0x300000, 0x40000, .rw⟩
  | .pswStrAct => ⟨.psw, 0x340000, 0x40000, .ro⟩
  | .pswVlanSh => ⟨.psw, 0x380000, 0x4000, .rw⟩
  | .pswVlanAct => ⟨.psw, 0x384000, 0x4000, .ro⟩
  | .ingSubSh => ⟨.ing, 0x10000, 0x40000, .rw⟩
  | .ingSubAct => ⟨.ing, 0x50000, 0x40000, .ro⟩
  | .ingGrpSh => ⟨.ing, 0x90000, 0x800, .rw⟩
  | .ingGrpAct => ⟨.ing, 0x94000, 0x800, .ro⟩
  | .ingState => ⟨.ing, 0x100000, 0x40000, .ro⟩
  | .ingChgMap => ⟨.ing, 0x140000, 0x200, .w1c⟩
  | .fltSlotSh => ⟨.flt, 0x40000, 0x80000, .rw⟩
  | .fltSlotAct => ⟨.flt, 0xC0000, 0x80000, .ro⟩
  | .fltSwSh => ⟨.flt, 0x140000, 0x20000, .rw⟩
  | .fltSwAct => ⟨.flt, 0x160000, 0x20000, .ro⟩
  | .fltState => ⟨.flt, 0x180000, 0x20000, .ro⟩
  | .fltCoef => ⟨.flt, 0x200000, 0x200000, .rw⟩
  | .qulGrpSh => ⟨.qul, 0x10000, 0x1000, .rw⟩
  | .qulGrpAct => ⟨.qul, 0x11000, 0x1000, .ro⟩
  | .qulGrpState => ⟨.qul, 0x12000, 0x1000, .ro⟩
  | .qulFlowState => ⟨.qul, 0x100000, 0x100000, .ro⟩
  | .mapRngSh => ⟨.map, 0x10000, 0x10000, .rw⟩
  | .mapRngAct => ⟨.map, 0x20000, 0x10000, .ro⟩
  | .mapGooSh => ⟨.map, 0x100000, 0x100000, .rw⟩
  | .mapGooAct => ⟨.map, 0x200000, 0x100000, .ro⟩
  | .mapMemSh => ⟨.map, 0x300000, 0x80000, .rw⟩
  | .mapMemAct => ⟨.map, 0x380000, 0x80000, .ro⟩
  | .mapGooState => ⟨.map, 0x400000, 0x80000, .ro⟩
  | .mapGchgMap => ⟨.map, 0x480000, 0x800, .w1c⟩
  | .pubDescSh => ⟨.pub, 0x10000, 0x20000, .rw⟩
  | .pubDescAct => ⟨.pub, 0x30000, 0x20000, .ro⟩
  | .pubMemSh => ⟨.pub, 0x80000, 0x40000, .rw⟩
  | .pubMemAct => ⟨.pub, 0xC0000, 0x40000, .ro⟩
  | .pubTextSh => ⟨.pub, 0x100000, 0x100000, .rw⟩
  | .pubTextAct => ⟨.pub, 0x200000, 0x100000, .ro⟩
  | .pubTripSh => ⟨.pub, 0x300000, 0x100, .rw⟩
  | .pubTripAct => ⟨.pub, 0x301000, 0x100, .ro⟩
  | .pubSrcSh => ⟨.pub, 0x302000, 0x200, .rw⟩
  | .pubSrcAct => ⟨.pub, 0x303000, 0x200, .ro⟩
  | .pubState => ⟨.pub, 0x400000, 0x10000, .ro⟩
  | .drcSetSh => ⟨.drc, 0x10000, 0x40, .rw⟩
  | .drcSetAct => ⟨.drc, 0x10100, 0x40, .ro⟩
  | .drcAnaSh => ⟨.drc, 0x20000, 0x4000, .rw⟩
  | .drcAnaAct => ⟨.drc, 0x24000, 0x4000, .ro⟩
  | .drcBinSh => ⟨.drc, 0x30000, 0x8000, .rw⟩
  | .drcBinAct => ⟨.drc, 0x38000, 0x8000, .ro⟩
  | .drcTrigSh => ⟨.drc, 0x40000, 0x800, .rw⟩
  | .drcTrigAct => ⟨.drc, 0x40800, 0x800, .ro⟩
  | .drcPhSh => ⟨.drc, 0x50000, 0x4000, .rw⟩
  | .drcPhAct => ⟨.drc, 0x54000, 0x4000, .ro⟩
  | .insDescSh => ⟨.ins, 0x10000, 0x1000, .rw⟩
  | .insDescAct => ⟨.ins, 0x11000, 0x1000, .ro⟩
  | .insMwSh => ⟨.ins, 0x20000, 0x4000, .rw⟩
  | .insMwAct => ⟨.ins, 0x24000, 0x4000, .ro⟩
  | .fbsDescSh => ⟨.fbs, 0x10000, 0x8000, .rw⟩
  | .fbsDescAct => ⟨.fbs, 0x18000, 0x8000, .ro⟩
  | .fbsObjState => ⟨.fbs, 0x20000, 0x8000, .ro⟩
  | .fbsObjBuf => ⟨.fbs, 0x30000, 0x10000, .rw⟩
  | .scrInSh => ⟨.scr, 0x4000, 0x4000, .rw⟩
  | .scrInAct => ⟨.scr, 0x8000, 0x4000, .ro⟩
  | .scrTpSh => ⟨.scr, 0xC000, 0x1000, .rw⟩
  | .scrTpAct => ⟨.scr, 0xD000, 0x1000, .ro⟩
  | .scrCpSh => ⟨.scr, 0xE000, 0x1000, .rw⟩
  | .scrCpAct => ⟨.scr, 0xF000, 0x1000, .ro⟩
  | .scrFrcSh => ⟨.scr, 0x10000, 0x4000, .rw⟩
  | .scrFrcAct => ⟨.scr, 0x14000, 0x4000, .ro⟩
  | .scrFlags => ⟨.scr, 0x18000, 0x2000, .ro⟩
  | .scrTimers => ⟨.scr, 0x1A000, 0x2000, .ro⟩
  | .scrCounters => ⟨.scr, 0x1C000, 0x2000, .ro⟩
  | .scrOutSh => ⟨.scr, 0x20000, 0x20000, .rw⟩
  | .scrOutAct => ⟨.scr, 0x40000, 0x20000, .ro⟩
  | .scrPrgSh => ⟨.scr, 0x80000, 0x40000, .rw⟩
  | .scrPrgAct => ⟨.scr, 0xC0000, 0x40000, .ro⟩

/-- The windows of a block. -/
def Kind.wins : Kind → List Win
  | .psw => [.pswFdbSh, .pswFdbAct, .pswStrSh, .pswStrAct, .pswVlanSh, .pswVlanAct]
  | .ing => [.ingSubSh, .ingSubAct, .ingGrpSh, .ingGrpAct, .ingState, .ingChgMap]
  | .flt => [.fltSlotSh, .fltSlotAct, .fltSwSh, .fltSwAct, .fltState, .fltCoef]
  | .qul => [.qulGrpSh, .qulGrpAct, .qulGrpState, .qulFlowState]
  | .map => [.mapRngSh, .mapRngAct, .mapGooSh, .mapGooAct, .mapMemSh, .mapMemAct, .mapGooState, .mapGchgMap]
  | .pub => [.pubDescSh, .pubDescAct, .pubMemSh, .pubMemAct, .pubTextSh, .pubTextAct, .pubTripSh, .pubTripAct, .pubSrcSh, .pubSrcAct, .pubState]
  | .drc => [.drcSetSh, .drcSetAct, .drcAnaSh, .drcAnaAct, .drcBinSh, .drcBinAct, .drcTrigSh, .drcTrigAct, .drcPhSh, .drcPhAct]
  | .ins => [.insDescSh, .insDescAct, .insMwSh, .insMwAct]
  | .fbs => [.fbsDescSh, .fbsDescAct, .fbsObjState, .fbsObjBuf]
  | .scr => [.scrInSh, .scrInAct, .scrTpSh, .scrTpAct, .scrCpSh, .scrCpAct, .scrFrcSh, .scrFrcAct, .scrFlags, .scrTimers, .scrCounters, .scrOutSh, .scrOutAct, .scrPrgSh, .scrPrgAct]
  | _ => []

end Sys2Proof.Machine
end

