-- ==== Sys2Proof/Machine/State.lean ====
section
/-!
DEFINITION. The State of the block, its fault and refusal reasons, and the state after reset.
-/

namespace Sys2Proof.Machine
open Sys2Proof

/-- Faults. No command of the block ends in a fault: the spec describes what every command does, or gives the access a
refusal the machine itself reports (R7). The one constructor stands for a state that no rule covers. -/
inductive Fault where
  /-- Raised by no meaning; kept so that the type is inhabited. Safe. -/
  | unreachable
  deriving DecidableEq, Repr

/-- Refusals. -/
inductive Refusal where
  /-- Raised by an arm of `exec` whose command has no meaning yet. Safe: the run stops. -/
  | notModelled (mnemonic : String)
  deriving DecidableEq, Repr

/-- The states of the six domains (R13, CFG_DOMAIN_STATUS). -/
structure Domains where
  planeA : DomState
  planeB : DomState
  lane0 : DomState
  lane1 : DomState
  common : DomState
  inkwell : DomState
  deriving DecidableEq, Repr

/-- The levels of the device's pins that the spec names and a command moves. -/
structure Pins where
  porst : Bool                            -- PORST_N level
  ppsDriver : Plane                       -- plane whose PPS outputs the pads take (R86)
  trip : List (Nat × Bool)                -- TRIPn ball levels that are not low (R301)
  ipUp : Bool                             -- inter-plane link up (R131)
  trig : BitVec 6                         -- outside levels of TRIGIN0 to 3 and XTRIG0, 1 (R325)
  deriving DecidableEq, Repr

/-- The whole block. `regs` is the register file and the table windows, by absolute address, listing the words that
have been written (any other reads as its reset value); `shreg` holds the staged values of double-banked registers until their commit (R47).
`mem0`, `mem1` are the lane memories (16 GiB each; unlisted bytes read 0, or as the initial record in the point area at `bg0`,
`bg1` that the steward has written, R239; each byte is kept as its difference from what it reads unlisted), `flash0`, `flash1` the flash devices
(unlisted bytes read 0xFF, erased). `real` is elapsed time in units of 2⁻¹⁶ ns, `rdata` the word the last read
returned, `freeCtr` the counter the free values are taken at: these three are the model's own. `pending` is the queue
of waiting commands. -/
structure State where
  regs : List (Nat × Word)
  shreg : List (Nat × Word)
  mem0 : Mem
  mem1 : Mem
  bg0 : Option Nat                        -- base of the point area of Lane 0's memory written with initial records (R239)
  bg1 : Option Nat
  flash0 : Mem
  flash1 : Mem
  dom : Domains
  pairQ : List (Nat × List PairEntry)     -- pairing queues: target t of lane l at 2 t + l (R37)
  pa : PlaneSt
  pb : PlaneSt
  l0 : LaneSt
  l1 : LaneSt
  com : CommonSt
  ink : InkSt
  pins : Pins
  real : Nat
  rdata : Word
  freeCtr : Nat
  pending : List Instr
  deriving DecidableEq, Repr

/-- The block after reset: Common readable and the planes and lanes OFF, as the reset value of CFG_DOMAIN_STATUS
shows (log entry 4), Inkwell UP with a
valid vault header, every register at its reset value, every memory at its unlisted value, no command waiting. -/
def State.reset : State :=
  { regs := [], shreg := [], mem0 := [], mem1 := [], bg0 := none, bg1 := none, flash0 := [], flash1 := [],
    dom := ⟨.off, .off, .off, .off, .up, .up⟩,
    pairQ := [], pa := .empty, pb := .empty, l0 := .empty, l1 := .empty, com := .empty, ink := .first,
    pins := ⟨false, .a, [], true, 0b110000⟩, real := 0, rdata := 0, freeCtr := 0, pending := [] }

end Sys2Proof.Machine
end

