-- ==== Sys2Proof/Machine/Ops.lean ====
section
/-!
DEFINITION. The named operations over the State: registers and fields, table windows, lane memory and flash, domains,
time formats. Everything a command reads or writes goes through these.
-/

namespace Sys2Proof.Machine
open Sys2Proof

/-! Registers. -/

/-- The absolute address of register `r` (index `k`) of a page (R33 to R35). -/
def regAddr (p : Page) (r : RegId) (k : Nat) : Nat := p.base + r.geom.off + k * r.geom.stride

/-- A register's word. -/
def State.rd (s : State) (p : Page) (r : RegId) (k : Nat := 0) : Word :=
  assocGetD s.regs (regAddr p r k) (r.resetAt p k)

/-- Store a register's word. -/
def State.wr (s : State) (p : Page) (r : RegId) (k : Nat) (v : Word) : State :=
  { s with regs := assocPut s.regs (regAddr p r k) v }

/-- A field of a register, as a number. -/
def State.fld (s : State) (p : Page) (f : Fld) (k : Nat := 0) : Nat := bitsOf (s.rd p f.id k).toNat f.hi f.lo

/-- A one-bit field, as a truth value. -/
def State.bit (s : State) (p : Page) (f : Fld) (k : Nat := 0) : Bool := decide (s.fld p f k ≠ 0)

/-- Store a field of a register; the other bits stay. -/
def State.setFld (s : State) (p : Page) (f : Fld) (v : Nat) (k : Nat := 0) : State :=
  s.wr p f.id k (BitVec.ofNat 32 (bitsPut (s.rd p f.id k).toNat f.hi f.lo v))

/-- The number of a truth value. -/
def b2n (b : Bool) : Nat := if b then 1 else 0

/-- The first of numbers in an order. -/
def firstKey (older : Nat → Nat → Bool) : List Nat → Option Nat
  | [] => none
  | k :: t => some (t.foldl (fun a b => if older b a then b else a) k)

/-- Is bit `b` of a number set? -/
def bitAt (v b : Nat) : Bool := decide (v / 2 ^ b % 2 = 1)

/-- Set a status bit. -/
def State.setBit (s : State) (p : Page) (f : Fld) (k : Nat := 0) : State := s.setFld p f 1 k

/-- The largest value of a field. -/
def Fld.maxVal (f : Fld) : Nat := 2 ^ (f.hi + 1 - f.lo) - 1

/-- Add to a counter field, saturating at its largest value (R11). -/
def State.bump (s : State) (p : Page) (f : Fld) (k : Nat := 0) (n : Nat := 1) : State :=
  s.setFld p f (min (s.fld p f k + n) f.maxVal) k

/-- Clear the counters `k = 0` to `n - 1` of a register row. -/
def State.clrRow (s : State) (p : Page) (r : RegId) : Nat → State
  | 0 => s
  | n + 1 => (s.clrRow p r n).wr p r n (r.resetAt p n)

/-! Table windows and record words. -/

/-- The word of a table window at an absolute address; windows read 0 after reset. -/
def State.win (s : State) (a : Nat) : Word := assocGetD s.regs a 0

/-- Store a word of a table window. -/
def State.setWin (s : State) (a : Nat) (v : Word) : State := { s with regs := assocPut s.regs a v }

/-- The absolute address of byte `off` of a window of a page. -/
def winAddr (p : Page) (w : Win) (off : Nat) : Nat := p.base + w.info.off + off

/-- `n` words of a window from a word-aligned address, as a little-endian number. -/
def State.winWords (s : State) (a : Nat) : Nat → Nat
  | 0 => 0
  | n + 1 => (s.win a).toNat + 2 ^ 32 * s.winWords (a + 4) n

/-- Store the `n` low words of a number from a word-aligned address. -/
def State.setWinWords (s : State) (a : Nat) : Nat → Nat → State
  | 0, _ => s
  | n + 1, v => (s.setWin a (BitVec.ofNat 32 v)).setWinWords (a + 4) n (v / 2 ^ 32)

/-- A field of a table entry: bits counted from the entry's byte offset `off`, as the entry tables give them. -/
structure EFld where
  off : Nat
  hi : Nat
  lo : Nat
  deriving DecidableEq, Repr

/-- Read a field of the window entry that starts at an absolute address. -/
def State.ent (s : State) (a : Nat) (f : EFld) : Nat :=
  let sh := 8 * (f.off % 4)
  let w := s.winWords (a + f.off / 4 * 4) ((f.hi + sh) / 32 + 1)
  bitsOf w (f.hi + sh) (f.lo + sh)

/-- Store a field of a window entry. -/
def State.setEnt (s : State) (a : Nat) (f : EFld) (v : Nat) : State :=
  let sh := 8 * (f.off % 4)
  let n := (f.hi + sh) / 32 + 1
  let b := a + f.off / 4 * 4
  s.setWinWords b n (bitsPut (s.winWords b n) (f.hi + sh) (f.lo + sh) v)

/-- Copy `n` words between two windows. -/
def State.copyWin (s : State) (src dst : Nat) : Nat → State
  | 0 => s
  | n + 1 => (s.setWin dst (s.win src)).copyWin (src + 4) (dst + 4) n

/-- The entries of the register file inside an address range, as offsets from its base. -/
def State.range (s : State) (a n : Nat) : List (Nat × Word) :=
  (s.regs.filter (fun e => decide (a ≤ e.1 ∧ e.1 < a + n))).map (fun e => (e.1 - a, e.2))

/-- Remove the entries of the register file inside an address range. -/
def State.clearRange (s : State) (a n : Nat) : State :=
  { s with regs := s.regs.filter (fun e => !decide (a ≤ e.1 ∧ e.1 < a + n)) }

/-- Put entries, given as offsets, at a base. -/
def State.putRange (s : State) (a : Nat) (l : List (Nat × Word)) : State :=
  l.foldl (fun s e => s.setWin (a + e.1) e.2) s

/-- Exchange the contents of two windows of one size: a bank switch (R47). -/
def State.swapRange (s : State) (a b n : Nat) : State :=
  let ra := s.range a n
  let rb := s.range b n
  (((s.clearRange a n).clearRange b n).putRange a rb).putRange b ra

/-! Memories. -/

/-- The entries of a table in lane memory that hold a byte that is not 0. -/
def State.memEntries (s : State) (l : Lane) (base size stride : Nat) : List Nat :=
  let m := match l with
    | .l0 => s.mem0
    | .l1 => s.mem1
  ((m.filter (fun c => decide (base ≤ c.1 ∧ c.1 < base + size))).map (fun c => (c.1 - base) / stride)).dedup

/-- What an unlisted byte of lane memory reads as: in the point area at `base` the CODE byte of an initial record is MISSING
(R239), every other byte is 0. -/
def bgByte (base a : Nat) : Byte := if base ≤ a ∧ a < base + 0x10000000 ∧ (a - base) % 32 = 28 then 3 else 0

/-- Bytes at `a` against what they read unlisted: from the bytes as kept to those read, and back. -/
def bgFlip (bg : Option Nat) (a : Nat) (b : List Byte) : List Byte :=
  match bg with
  | none => b
  | some base => ((List.range b.length).zip b).map (fun e => e.2 ^^^ bgByte base (a + e.1))

/-- Read bytes of a lane's memory. -/
def State.mem (s : State) (l : Lane) (a n : Nat) : List Byte :=
  match l with
  | .l0 => bgFlip s.bg0 a (memRead 0 s.mem0 a n)
  | .l1 => bgFlip s.bg1 a (memRead 0 s.mem1 a n)

/-- Write bytes of a lane's memory. -/
def State.memW (s : State) (l : Lane) (a : Nat) (b : List Byte) : State :=
  match l with
  | .l0 => { s with mem0 := memWrite 0 s.mem0 a (bgFlip s.bg0 a b) }
  | .l1 => { s with mem1 := memWrite 0 s.mem1 a (bgFlip s.bg1 a b) }

/-- Every byte of a range of lane memory takes what it reads unlisted: 0, or the initial record's byte in the point area. -/
def State.memClear (s : State) (l : Lane) (a n : Nat) : State :=
  let f := fun (m : Mem) => m.filter (fun c => !decide (a ≤ c.1 ∧ c.1 < a + n))
  match l with
  | .l0 => { s with mem0 := f s.mem0 }
  | .l1 => { s with mem1 := f s.mem1 }

/-- Every byte of a range of lane memory becomes 0. -/
def State.memZero (s : State) (l : Lane) (a n : Nat) : State :=
  let s := s.memClear l a n
  match (match l with
    | .l0 => s.bg0
    | .l1 => s.bg1) with
  | none => s
  | some base => s.memW l (max a base) (List.replicate (min (a + n) (base + 0x10000000) - max a base) 0)

/-- The steward writes the initial record to every point of the area at `base` (R239). An area it wrote before at another base
keeps the bytes that were written to it since; its other bytes read 0 again (log entry 13). -/
def State.memInit (s : State) (l : Lane) (base : Nat) : State :=
  let f := fun (bg : Option Nat) (m : Mem) =>
    (m.map (fun c => (c.1, (bgFlip bg c.1 [c.2]).headD 0))).filter (fun c => decide (c.2 ≠ 0) && !decide (base ≤ c.1 ∧ c.1 < base + 0x10000000))
  match l with
  | .l0 => { s with mem0 := f s.bg0 s.mem0, bg0 := some base }
  | .l1 => { s with mem1 := f s.bg1 s.mem1, bg1 := some base }

/-- Read a little-endian number of `n` bytes from a lane's memory. -/
def State.memN (s : State) (l : Lane) (a n : Nat) : Nat := leNat (s.mem l a n)

/-- Write a little-endian number of `n` bytes to a lane's memory. -/
def State.setMemN (s : State) (l : Lane) (a n v : Nat) : State := s.memW l a (natLe n v)

/-- A field of a record in lane memory, its bits counted from its byte offset. -/
def State.recF (s : State) (l : Lane) (a : Nat) (f : EFld) : Nat := bitsOf (s.memN l (a + f.off) (f.hi / 8 + 1)) f.hi f.lo

/-- Store a field of a record in lane memory. -/
def State.setRecF (s : State) (l : Lane) (a : Nat) (f : EFld) (v : Nat) : State :=
  let n := f.hi / 8 + 1
  s.setMemN l (a + f.off) n (bitsPut (s.memN l (a + f.off) n) f.hi f.lo v)

/-- The size of a lane's memory: 16 GiB (Table 1.6). -/
def laneMemSize : Nat := 0x400000000

/-- Read bytes of a flash device. -/
def State.flash (s : State) (d : Nat) (a n : Nat) : List Byte :=
  if d = 0 then memRead 0xFF s.flash0 a n else memRead 0xFF s.flash1 a n

/-- Write bytes of both flash devices, FLASH0 first (R50). -/
def State.flashW (s : State) (a : Nat) (b : List Byte) : State :=
  { s with flash0 := memWrite 0xFF s.flash0 a b, flash1 := memWrite 0xFF s.flash1 a b }

/-- Erase a range of both flash devices. -/
def State.flashErase (s : State) (a n : Nat) : State :=
  let f := fun (m : Mem) => m.filter (fun c => !decide (a ≤ c.1 ∧ c.1 < a + n))
  { s with flash0 := f s.flash0, flash1 := f s.flash1 }

/-- A 64-bit address held in a register pair. -/
def State.pairReg (s : State) (p : Page) (lo hi : RegId) : Nat := (s.rd p lo 0).toNat + 2 ^ 32 * (s.rd p hi 0).toNat

/-! Planes, lanes and domains. -/

/-- A plane's state. -/
def State.plane (s : State) : Plane → PlaneSt
  | .a => s.pa
  | .b => s.pb

/-- Store a plane's state. -/
def State.setPlane (s : State) (p : Plane) (x : PlaneSt) : State :=
  match p with
  | .a => { s with pa := x }
  | .b => { s with pb := x }

/-- A lane's state. -/
def State.lane (s : State) : Lane → LaneSt
  | .l0 => s.l0
  | .l1 => s.l1

/-- Store a lane's state. -/
def State.setLane (s : State) (l : Lane) (x : LaneSt) : State :=
  match l with
  | .l0 => { s with l0 := x }
  | .l1 => { s with l1 := x }

/-- The state of a domain. -/
def State.domSt (s : State) : Dom → DomState
  | .plane .a => s.dom.planeA
  | .plane .b => s.dom.planeB
  | .lane .l0 => s.dom.lane0
  | .lane .l1 => s.dom.lane1
  | .common => s.dom.common
  | .inkwell => s.dom.inkwell

/-- Is a domain UP? -/
def State.up (s : State) (d : Dom) : Bool := decide (s.domSt d = .up)

/-- Is a plane UP? -/
def State.planeUp (s : State) (p : Plane) : Bool := s.up (.plane p)

/-- Is a lane UP? -/
def State.laneUp (s : State) (l : Lane) : Bool := s.up (.lane l)

/-- The word CFG_DOMAIN_STATUS shows, without CHANGE. -/
def State.domWord (s : State) : Nat :=
  s.dom.planeA.code + 4 * s.dom.planeB.code + 16 * s.dom.lane0.code + 64 * s.dom.lane1.code +
    256 * s.dom.common.code + 1024 * s.dom.inkwell.code

/-- The number a domain has as SRC in an event record (Table 17.1). -/
def domSrc : Dom → Nat
  | .common => 0
  | .plane .a => 2
  | .plane .b => 3
  | .lane .l0 => 4
  | .lane .l1 => 5
  | .inkwell => 6

/-- The number a domain has in BLT_CORRk and BLT_UNCk. -/
def domBltIdx : Dom → Nat
  | .common => 0
  | .plane .a => 1
  | .plane .b => 2
  | .lane .l0 => 3
  | .lane .l1 => 4
  | .inkwell => 5

/-- The bit a domain has in the BLT_ registers: 0 Plane A to 3 Lane 1. -/
def domBltBit : Dom → Nat
  | .plane .a => 0
  | .plane .b => 1
  | .lane .l0 => 2
  | .lane .l1 => 3
  | .common => 4
  | .inkwell => 5

/-- The state of a port's MAC. -/
def PlaneSt.port (x : PlaneSt) (i : Nat) : PortMac := assocGetD x.mac i .empty

/-- Store the state of a port's MAC. -/
def PlaneSt.setPort (x : PlaneSt) (i : Nat) (m : PortMac) : PlaneSt := { x with mac := assocPut x.mac i m }

/-- The PTP state of an external port. -/
def PlaneSt.pt (x : PlaneSt) (i : Nat) : PortTime := assocGetD x.ptp i .empty

/-- Store the PTP state of an external port. -/
def PlaneSt.setPt (x : PlaneSt) (i : Nat) (m : PortTime) : PlaneSt := { x with ptp := assocPut x.ptp i m }

/-- A PTP domain slot. -/
def PlaneSt.slot (x : PlaneSt) (n : Nat) : PtpSlot := if n = 0 then x.slot0 else x.slot1

/-- Store a PTP domain slot. -/
def PlaneSt.setSlot (x : PlaneSt) (n : Nat) (t : PtpSlot) : PlaneSt :=
  if n = 0 then { x with slot0 := t } else { x with slot1 := t }

/-! Time. -/

/-- One nanosecond in units of 2⁻¹⁶ ns (R4). -/
def ns : Nat := 65536

/-- One microsecond. -/
def us : Nat := 1000 * ns

/-- One millisecond. -/
def ms : Nat := 1000 * us

/-- One second. -/
def sec : Nat := 1000000000 * ns

/-- The settle margin of R26: 2.0 µs. -/
def settle : Nat := 2 * us

/-- A time as the 96-bit word of R4: seconds [95:48], nanoseconds [47:16], fraction [15:0]. -/
def toT96 (t : Nat) : Nat := (t / sec) * 2 ^ 48 + t % sec

/-- A 96-bit time word as a time, or nothing when its nanoseconds exceed 999,999,999 (R6). -/
def ofT96 (w : Nat) : Option Nat :=
  if 1000000000 ≤ bitsOf w 47 16 then none else some (bitsOf w 95 48 * sec + w % 2 ^ 48)

/-- A time quantised down to 0.25 ns, as Nib stamps are (R6, R80). -/
def quant (t : Nat) : Nat := t / (ns / 4) * (ns / 4)

/-- A signed time in units of 0.25 ns, saturating in 32 bits of two's complement. -/
def sat025 (d : Int) : Nat := satSigned 32 (d / (ns / 4 : Nat))

/-- A 32-bit two's complement register value in units of 0.25 ns as a signed time. -/
def of025 (w : Nat) : Int := signedOf 32 w * (ns / 4 : Nat)

/-- The followed clock of a lane. -/
def State.laneNow (s : State) (l : Lane) : Nat := (s.lane l).now

/-- The second that a 32-bit SEC register names beside a present second (R473). -/
def secNear (present lo : Nat) : Nat :=
  let base : Int := (present : Int) - (present % 2 ^ 32 : Nat) + lo
  let d := base - present
  let r := if d > 2 ^ 31 - 1 then base - 2 ^ 32 else if d < -(2 ^ 31) then base + 2 ^ 32 else base
  r.toNat

/-- Take the next free value index. -/
def State.fresh (s : State) : Nat × State := (s.freeCtr, { s with freeCtr := s.freeCtr + 1 })

/-- Complete with a next state. -/
abbrev ok (s : State) : Host.Outcome State Fault Refusal := .next s

end Sys2Proof.Machine
end

