-- ==== Sys2Proof/Machine/Flags.lean ====
section
/-!
DEFINITION. Status conditions computed from several registers: lock states, link states, bases, bank numbers.
-/

namespace Sys2Proof.Machine
open Sys2Proof

/-- TIM_STATUS.STATE of a plane: 0 FREE, 1 LOCKED, 2 HOLDOVER (R66). -/
def State.timState (s : State) (p : Plane) : Nat := s.fld (.tim p) F.TIM_STATUS_STATE

/-- Is a plane UP and LOCKED? A plane qualifies for a lane when it is (R74). -/
def State.planeLocked (s : State) (p : Plane) : Bool := s.planeUp p && decide (s.timState p = 1)

/-- Does a lane's grid run? -/
def State.gridRun (s : State) (l : Lane) : Bool := s.bit (.ing l) F.ING_STATUS_GRID_RUN

/-- Does a port report LINK = 1 (R90)? Ports 11 to 14 have no medium and are always up. -/
def State.link (s : State) (p : Plane) (i : Nat) : Bool :=
  if 11 ≤ i then true else s.bit (.prt p i) F.PRT_STATUS_LINK

/-- Is a lane rolled out (STW_LOAD_STATUS, R63)? -/
def State.rolledOut (s : State) (l : Lane) : Bool :=
  match l with
  | .l0 => s.bit .stwLoad F.STW_LOAD_STATUS_L0_OUT
  | .l1 => s.bit .stwLoad F.STW_LOAD_STATUS_L1_OUT

/-- Set or clear a lane's out bit. -/
def State.setOut (s : State) (l : Lane) (b : Bool) : State :=
  match l with
  | .l0 => s.setFld .stwLoad F.STW_LOAD_STATUS_L0_OUT (b2n b)
  | .l1 => s.setFld .stwLoad F.STW_LOAD_STATUS_L1_OUT (b2n b)

/-- Has a lane handed over (R424)? -/
def State.handed (s : State) (l : Lane) : Bool :=
  match l with
  | .l0 => s.bit .cfg F.CFG_BOOT_STATUS_HANDED0
  | .l1 => s.bit .cfg F.CFG_BOOT_STATUS_HANDED1

/-- Is the EPS of a lane armed (R421)? -/
def State.armed (s : State) (l : Lane) : Bool :=
  match l with
  | .l0 => s.bit .cfg F.CFG_BOOT_STATUS_ARMED0
  | .l1 => s.bit .cfg F.CFG_BOOT_STATUS_ARMED1

/-- Is the EPS of a lane running: armed and not yet handed over? -/
def State.epsRuns (s : State) (l : Lane) : Bool := s.laneUp l && s.armed l && !s.handed l

/-- Does a PTP slot count as usable on a plane: state USABLE and its DOMn_EN set (R68)? -/
def State.slotUsable (s : State) (p : Plane) (n : Nat) : Bool :=
  decide (s.fld (.tim p) F.TIM_DOM_STATUS_STATE n = 1) &&
    (if n = 0 then s.bit (.tim p) F.TIM_CTRL_DOM0_EN else s.bit (.tim p) F.TIM_CTRL_DOM1_EN)

/-- The plane a lane follows now, as CFG_TIME_FOLLOW shows it. -/
def State.followed (s : State) (l : Lane) : Plane := Plane.ofIdx (s.fld (.lcfg l) F.CFG_TIME_FOLLOW_FOLLOWING)

/-- Is a lane in lane holdover (R74)? -/
def State.laneHold (s : State) (l : Lane) : Bool := s.bit (.lcfg l) F.CFG_TIME_FOLLOW_HOLDOVER

/-- The lifecycle state (INK_STATUS). -/
def State.lifecycle (s : State) : Nat := s.fld .ink F.INK_STATUS_LIFECYCLE

/-- The two lanes that are UP. -/
def State.upLanes (s : State) : List Lane := [Lane.l0, Lane.l1].filter s.laneUp

end Sys2Proof.Machine
end

