-- ==== Sys2Proof/Machine/Events.lean ====
section
/-!
DEFINITION. Raising an event: the record's time (R387) and code (R388), the domain queues (R30), the rate limits
(R390) and the ring of the event recorder (R385, R386).
-/

namespace Sys2Proof.Machine
open Sys2Proof

/-- The code of an event (Table 17.2). -/
def evCode (block kind cause : Nat) : Nat := block * 1024 + kind * 256 + cause

/-- The block numbers of Table 17.2. -/
def bkCFG : Nat := 0
def bkSTW : Nat := 1
def bkTIM : Nat := 2
def bkPRT : Nat := 3
def bkPSW : Nat := 4
def bkING : Nat := 5
def bkFLT : Nat := 6
def bkQUL : Nat := 7
def bkOPS : Nat := 8
def bkMAP : Nat := 9
def bkSCR : Nat := 10
def bkPUB : Nat := 11
def bkCHK : Nat := 12
def bkDRC : Nat := 13
def bkINS : Nat := 14
def bkFBS : Nat := 15
def bkINK : Nat := 16
def bkEVR : Nat := 17
def bkKEY : Nat := 18
def bkBLT : Nat := 19
def bkPWR : Nat := 20

/-- Vault time as whole ticks of 32,768 Hz (R382). -/
def State.vtTicks (s : State) : Nat := s.ink.vt * 32768 / sec

/-- Vault time in milliseconds. -/
def State.vtMs (s : State) : Nat := s.ink.vt / ms

/-- Vault time as the TIME of a record: bit 95 set, seconds, ⌊ticks × 10⁹ / 32,768⌋ ns (Table 17.1). -/
def vaultT96 (ticks : Nat) : Nat :=
  2 ^ 95 + (ticks / 32768) * 2 ^ 48 + (ticks % 32768 * 1000000000 / 32768) * 2 ^ 16

/-- The TIME a record of a domain carries (R387). -/
def State.evTime (s : State) (d : Dom) : Nat :=
  match d with
  | .lane l => toT96 (s.laneNow l)
  | .plane p => toT96 (s.plane p).now
  | _ =>
    if s.planeLocked .a then toT96 s.pa.now
    else if s.planeLocked .b then toT96 s.pb.now
    else vaultT96 s.vtTicks

/-- The ring's size in 16-byte units (R385). -/
def evrUnits : Nat := 262144

/-- Move TAIL past whole records until `n` more units fit before it; each record passed is counted (R386). -/
def evrMakeRoom (n : Nat) : Nat → State → State
  | 0, s => s
  | fuel + 1, s =>
    let h := s.fld .evr F.EVR_HEAD_INDEX
    let t := s.fld .evr F.EVR_TAIL_INDEX
    let used := (h + evrUnits - t) % evrUnits
    if used + n < evrUnits then s
    else
      let len := (memGet 0 s.ink.ring (16 * t + 1)).toNat % 32 + 1
      let s := s.setFld .evr F.EVR_TAIL_INDEX ((t + len) % evrUnits)
      let s := s.bump .evr F.EVR_OVERWRITTEN_COUNT
      let s := s.setBit .evr F.EVR_STATUS_OVERWRITE
      evrMakeRoom n fuel s

/-- Write one record of whole units at HEAD, which has room for it (R386): the first byte is cleared, bytes 1 onward
are written, then MARK and PARITY, then HEAD advances. -/
def evrPut (units : Nat) (src code time : Nat) (payload : List Byte) (s : State) : State :=
  let s := evrMakeRoom units 64 s
  let h := s.fld .evr F.EVR_HEAD_INDEX
  let a := 16 * h
  let par := s.fld .evr F.EVR_WRAPS_COUNT % 2
  let body := [BitVec.ofNat 8 (src * 32 + (units - 1))] ++ natLe 2 code ++ natLe 12 time ++ payload
  let ring := memSet 0 s.ink.ring a 0
  let ring := memWrite 0 ring (a + 1) body
  let ring := memSet 0 ring a (BitVec.ofNat 8 (0b10100110 + par))
  let s := { s with ink := { s.ink with ring := ring } }
  let h' := (h + units) % evrUnits
  let s := s.setFld .evr F.EVR_HEAD_INDEX h'
  if h' = 0 then s.setFld .evr F.EVR_WRAPS_COUNT (s.fld .evr F.EVR_WRAPS_COUNT + 1) else s

/-- Write a record, after a pad record when it does not fit before the end of the ring (R385). -/
def evrWrite (r : EvRec) (s : State) : State :=
  let payload := r.payload.flatMap (natLe 4)
  let units := 1 + (payload.length + 15) / 16
  let payload := payload ++ List.replicate (16 * (units - 1) - payload.length) 0
  let h := s.fld .evr F.EVR_HEAD_INDEX
  let s :=
    if h + units ≤ evrUnits then s
    else
      let n := evrUnits - h
      evrPut n r.src 0xFFFF r.time (List.replicate (16 * (n - 1)) 0) s
  evrPut units r.src r.code r.time payload s

/-- The records that are never suppressed: pad, CLEARED, SUPPRESSED and TAMPER (R390). -/
def evrExempt (code : Nat) : Bool :=
  decide (code = 0xFFFF ∨ code = evCode bkEVR 2 0 ∨ code = evCode bkEVR 2 1 ∨ code = evCode bkINK 2 0)

/-- The rate-limit entry that governs a code: its index, 1,024 for the default entry. -/
def rlFind (ink : InkSt) (code : Nat) : Nat × RlEntry :=
  match ink.rl.find? (fun e => e.2.valid && decide (e.2.code = code)) with
  | some e => e
  | none => (1024, ink.rlDef)

/-- Store a rate-limit entry. -/
def rlPut (ink : InkSt) (k : Nat) (e : RlEntry) : InkSt :=
  if k = 1024 then { ink with rlDef := e } else { ink with rl := assocPut ink.rl k e }

/-- Tokens and last after refilling at vault time `t` ms (R390). -/
def rlRefill (e : RlEntry) (t : Nat) : RlEntry :=
  let n := (t - e.last) / max e.interval 1
  { e with tokens := min e.burst (e.tokens + n), last := e.last + n * e.interval }

/-- A record reaches the Inkwell interface: it is rate-limited and written to the ring (R386, R390). -/
def evrAdmit (r : EvRec) (s : State) : State :=
  if evrExempt r.code then evrWrite r s
  else
    let (k, e0) := rlFind s.ink r.code
    let e := rlRefill e0 s.vtMs
    if 0 < e.tokens then
      let s := if 0 < e.suppressed
        then evrWrite ⟨r.src, evCode bkEVR 2 1, r.time, [r.code, e.suppressed, 0, 0]⟩ s else s
      let s := evrWrite r s
      { s with ink := rlPut s.ink k { e with tokens := e.tokens - 1, suppressed := 0 } }
    else
      let s := { s with ink := rlPut s.ink k { e with suppressed := min (e.suppressed + 1) (2 ^ 32 - 1) } }
      let s := s.bump .evr F.EVR_SUPPRESSED_COUNT
      s.setBit .evr F.EVR_STATUS_SUPPR

/-- Can the recorder take a record now: Common and Inkwell UP and no clear in progress (R30, R392)? -/
def State.evrReady (s : State) : Bool := s.up .common && s.up .inkwell && !s.ink.clearing

/-- The event queue of a plane or lane. -/
def State.evq (s : State) : Dom → EvQueue
  | .plane p => (s.plane p).evq
  | .lane l => (s.lane l).evq
  | _ => ⟨[], 0⟩

/-- Store the event queue of a plane or lane. -/
def State.setEvq (s : State) (d : Dom) (q : EvQueue) : State :=
  match d with
  | .plane p => s.setPlane p { s.plane p with evq := q }
  | .lane l => s.setLane l { s.lane l with evq := q }
  | _ => s

/-- Send a record from a domain: to the recorder, or into the domain's queue of 64, whose overflow is counted (R30). -/
def evSend (d : Dom) (r : EvRec) (s : State) : State :=
  let q := s.evq d
  if s.evrReady && q.recs.isEmpty then evrAdmit r s
  else
    match d with
    | .plane _ | .lane _ =>
      if q.recs.length < 64 then s.setEvq d { q with recs := q.recs ++ [r] }
      else s.setEvq d { q with lost := q.lost + 1 }
    | _ => s

/-- Raise an event of a domain with UNIT and VALUE (R388, R389). -/
def State.event (s : State) (d : Dom) (code unit value : Nat) : State :=
  evSend d ⟨domSrc d, code, s.evTime d, [unit % 2 ^ 32, value % 2 ^ 32, 0, 0]⟩ s

/-- Raise the event of a counter register: KIND 0, CAUSE 32 T + k, VALUE the counter (R388, R389). -/
def State.evCount (s : State) (d : Dom) (block t k unit : Nat) (value : Nat) : State :=
  s.event d (evCode block 0 (32 * t + k)) unit value

/-- Raise the event of a status bit: KIND 1, CAUSE 32 T + b, VALUE the status register (R388, R389). -/
def State.evStatus (s : State) (d : Dom) (block t b unit : Nat) (value : Nat) : State :=
  s.event d (evCode block 1 (32 * t + b)) unit value

/-- Count in a counter field and raise its event. -/
def State.bumpEv (s : State) (d : Dom) (p : Page) (f : Fld) (k block t unit : Nat) : State :=
  let s := s.bump p f k
  s.evCount d block t k unit (s.fld p f k)

/-- Set a status bit and raise its event. -/
def State.setBitEv (s : State) (d : Dom) (p : Page) (f : Fld) (block t unit : Nat) : State :=
  let s := s.setBit p f
  s.evStatus d block t f.lo unit (s.rd p f.id 0).toNat

/-- Change the states of domains: CFG_DOMAIN_STATUS.CHANGE is set and DOMAIN_STATE is recorded when one differs. -/
def State.setDoms (s : State) (d : Domains) : State :=
  if d = s.dom then s
  else
    let old := (s.rd .cfg .CFG_DOMAIN_STATUS).toNat / 2 ^ 16 * 2 ^ 16 + s.domWord
    let s := { s with dom := d }
    let s := s.setBit .cfg F.CFG_DOMAIN_STATUS_CHANGE
    let new := (s.rd .cfg .CFG_DOMAIN_STATUS).toNat / 2 ^ 16 * 2 ^ 16 + s.domWord
    s.event .common (evCode bkCFG 2 0) old new

/-- The domain states with one replaced. -/
def Domains.put (x : Domains) : Dom → DomState → Domains
  | .plane .a, v => { x with planeA := v }
  | .plane .b, v => { x with planeB := v }
  | .lane .l0, v => { x with lane0 := v }
  | .lane .l1, v => { x with lane1 := v }
  | .common, v => { x with common := v }
  | .inkwell, v => { x with inkwell := v }

/-- Change the state of one domain. -/
def State.setDom (s : State) (d : Dom) (v : DomState) : State := s.setDoms (s.dom.put d v)

/-- Count a contained or discarded error of a domain in BLT_UNCk; each count raises a KIND 0 event (R434). -/
def State.countUnc (s : State) (d : Dom) : State :=
  s.bumpEv d .blt F.BLT_UNC_COUNT (domBltIdx d) bkBLT 1 0

/-- Count a corrected error of a domain in BLT_CORRk (R434). -/
def State.countCorr (s : State) (d : Dom) : State :=
  s.bumpEv d .blt F.BLT_CORR_COUNT (domBltIdx d) bkBLT 0 0

/-- A single-bit error, if one was met, is corrected in place and counted (R434). -/
def State.eccCorr (s : State) (d : Dom) (met : Bool) : State := if met then s.countCorr d else s

end Sys2Proof.Machine
end

