-- ==== Sys2Proof/Machine/Operands.lean ====
section
/-!
DEFINITION. The fields of the spec's in-memory records, descriptors and table entries, table by table: byte offset
and bits as the tables give them. `E.T15_1_VALID` is field VALID of Table 15.1; of a repeated field the first is
given, and its stride stands where it is used.
-/

namespace Sys2Proof.Machine
open Sys2Proof

/-! Table 2.2: Image header -/

def E.T2_2_MAGIC : EFld := ⟨0x0, 31, 0⟩
def E.T2_2_FORMAT : EFld := ⟨0x4, 15, 0⟩
def E.T2_2_HDR_LEN : EFld := ⟨0x6, 15, 0⟩
def E.T2_2_PART : EFld := ⟨0x8, 31, 0⟩
def E.T2_2_MIN_STEPPING : EFld := ⟨0xC, 7, 0⟩
def E.T2_2_PARTIAL : EFld := ⟨0xD, 0, 0⟩
def E.T2_2_ENTRY_COUNT : EFld := ⟨0xE, 15, 0⟩
def E.T2_2_IMAGE_LEN : EFld := ⟨0x10, 63, 0⟩
def E.T2_2_SEC_VERSION : EFld := ⟨0x18, 31, 0⟩
def E.T2_2_SIGNER : EFld := ⟨0x1C, 31, 0⟩
def E.T2_2_IMAGE_ID : EFld := ⟨0x20, 127, 0⟩
def E.T2_2_BUILD_TIME : EFld := ⟨0x30, 95, 0⟩
def E.T2_2_BASE_IMAGE_CRC : EFld := ⟨0x3C, 31, 0⟩

/-! Table 2.3: Manifest entry (192 bytes) -/

def E.T2_3_TYPE : EFld := ⟨0x0, 15, 0⟩
def E.T2_3_TARGET : EFld := ⟨0x2, 7, 0⟩
def E.T2_3_VERSION : EFld := ⟨0x4, 31, 0⟩
def E.T2_3_SEC_OFFSET : EFld := ⟨0x8, 63, 0⟩
def E.T2_3_SEC_LEN : EFld := ⟨0x10, 63, 0⟩
def E.T2_3_LAYOUT_TAG : EFld := ⟨0x18, 31, 0⟩
def E.T2_3_DEP_MASK : EFld := ⟨0x1C, 15, 0⟩
def E.T2_3_DIGEST : EFld := ⟨0x20, 511, 0⟩
def E.T2_3_15 : EFld := ⟨0x60, 31, 0⟩

/-! Table 2.4: Signature block (144 bytes) -/

def E.T2_4_ALG : EFld := ⟨0x0, 15, 0⟩
def E.T2_4_KEY_ID : EFld := ⟨0x4, 31, 0⟩
def E.T2_4_SIG_R : EFld := ⟨0x8, 527, 0⟩
def E.T2_4_SIG_S : EFld := ⟨0x4A, 527, 0⟩

/-! Table 2.5: Section header (32 bytes) -/

def E.T2_5_SEC_MAGIC : EFld := ⟨0x0, 31, 0⟩
def E.T2_5_TYPE : EFld := ⟨0x4, 15, 0⟩
def E.T2_5_TARGET : EFld := ⟨0x6, 7, 0⟩
def E.T2_5_VERSION : EFld := ⟨0x8, 31, 0⟩
def E.T2_5_RECORD_COUNT : EFld := ⟨0xC, 31, 0⟩
def E.T2_5_BODY_LEN : EFld := ⟨0x10, 63, 0⟩

/-! Table 2.6: Load record header (16 bytes), followed by its data padded with zeros to a multiple of 8 bytes -/

def E.T2_6_SPACE : EFld := ⟨0x0, 63, 62⟩
def E.T2_6_DEST : EFld := ⟨0x0, 47, 0⟩
def E.T2_6_LEN : EFld := ⟨0x8, 31, 0⟩
def E.T2_6_KIND : EFld := ⟨0xC, 7, 0⟩

/-! Table 2.9: Bank descriptor (first 64 bytes of each copy; the remainder is erased) -/

def E.T2_9_MAGIC : EFld := ⟨0x0, 31, 0⟩
def E.T2_9_SEQ : EFld := ⟨0x4, 31, 0⟩
def E.T2_9_FW_BANK : EFld := ⟨0x8, 0, 0⟩
def E.T2_9_IMG_BANK : EFld := ⟨0x8, 1, 1⟩
def E.T2_9_FW_TRIAL : EFld := ⟨0x8, 2, 2⟩
def E.T2_9_IMG_TRIAL : EFld := ⟨0x8, 3, 3⟩
def E.T2_9_FW_TRIALS : EFld := ⟨0xC, 3, 0⟩
def E.T2_9_IMG_TRIALS : EFld := ⟨0xC, 7, 4⟩
def E.T2_9_IMG_ID_A : EFld := ⟨0x10, 127, 0⟩
def E.T2_9_IMG_ID_B : EFld := ⟨0x20, 127, 0⟩
def E.T2_9_FW_VER_A : EFld := ⟨0x30, 31, 0⟩
def E.T2_9_FW_VER_B : EFld := ⟨0x34, 31, 0⟩
def E.T2_9_CRC : EFld := ⟨0x3C, 31, 0⟩

/-! Table 3.2: Transmit timestamp queue entry (16 bytes, read as TIM_TXQ_ENT0 to TIM_TXQ_ENT3) -/

def E.T3_2_STAMP : EFld := ⟨0x0, 95, 0⟩
def E.T3_2_TAG : EFld := ⟨0xC, 15, 0⟩
def E.T3_2_LEN : EFld := ⟨0xC, 28, 20⟩
def E.T3_2_LOST_BEFORE : EFld := ⟨0xC, 30, 30⟩
def E.T3_2_VALID : EFld := ⟨0xC, 31, 31⟩

/-! Table 4.3: Management ring descriptor (16 bytes) -/

def E.T4_3_BUF_ADDR : EFld := ⟨0x0, 47, 0⟩
def E.T4_3_LEN : EFld := ⟨0x8, 15, 0⟩
def E.T4_3_BUF_LEN : EFld := ⟨0xA, 15, 0⟩
def E.T4_3_ERR : EFld := ⟨0xC, 30, 30⟩
def E.T4_3_OWN : EFld := ⟨0xC, 31, 31⟩

/-! Table 5.1: FDB entry (16 bytes) -/

def E.T5_1_MAC : EFld := ⟨0x0, 47, 0⟩
def E.T5_1_VID : EFld := ⟨0x0, 59, 48⟩
def E.T5_1_VALID : EFld := ⟨0x0, 63, 63⟩
def E.T5_1_PORT : EFld := ⟨0x8, 3, 0⟩
def E.T5_1_STATIC : EFld := ⟨0x8, 4, 4⟩
def E.T5_1_AGE : EFld := ⟨0x8, 31, 16⟩

/-! Table 5.2: Stream table entry (16 bytes) -/

def E.T5_2_DMAC : EFld := ⟨0x0, 47, 0⟩
def E.T5_2_VID : EFld := ⟨0x0, 59, 48⟩
def E.T5_2_VALID : EFld := ⟨0x0, 63, 63⟩
def E.T5_2_EGRESS : EFld := ⟨0x8, 14, 0⟩
def E.T5_2_CUT_OK : EFld := ⟨0x8, 15, 15⟩
def E.T5_2_IGN : EFld := ⟨0x8, 21, 16⟩
def E.T5_2_CLASS : EFld := ⟨0x8, 24, 22⟩
def E.T5_2_CLASS_OVR : EFld := ⟨0x8, 25, 25⟩
def E.T5_2_HITS : EFld := ⟨0xC, 31, 0⟩

/-! Table 5.3: VLAN table entry (4 bytes, index = VID) -/

def E.T5_3_MEMBER : EFld := ⟨0x0, 14, 0⟩
def E.T5_3_MC_FLOOD : EFld := ⟨0x0, 15, 15⟩
def E.T5_3_UNTAG : EFld := ⟨0x0, 30, 16⟩
def E.T5_3_VALID : EFld := ⟨0x0, 31, 31⟩

/-! Table 5.4: Merge header (16 bytes) -/

def E.T5_4_PUB : EFld := ⟨0x0, 10, 0⟩
def E.T5_4_POLICY : EFld := ⟨0x0, 17, 16⟩
def E.T5_4_SRC : EFld := ⟨0x0, 23, 18⟩
def E.T5_4_ISSUE : EFld := ⟨0x4, 31, 0⟩
def E.T5_4_EGRESS : EFld := ⟨0x8, 14, 0⟩
def E.T5_4_TS_REQ : EFld := ⟨0x8, 15, 15⟩
def E.T5_4_TS_TAG : EFld := ⟨0x8, 31, 16⟩

/-! Table 5.5: Header capture entry (64 bytes) -/

def E.T5_5_STAMP : EFld := ⟨0x0, 95, 0⟩
def E.T5_5_PORT : EFld := ⟨0xC, 3, 0⟩
def E.T5_5_DIR : EFld := ⟨0xC, 4, 4⟩
def E.T5_5_CLASS : EFld := ⟨0xC, 7, 5⟩
def E.T5_5_LEN : EFld := ⟨0xC, 21, 8⟩
def E.T5_5_VERDICT : EFld := ⟨0xC, 25, 22⟩
def E.T5_5_CUT : EFld := ⟨0xC, 26, 26⟩
def E.T5_5_SEQ : EFld := ⟨0x10, 31, 0⟩
def E.T5_5_LOST : EFld := ⟨0x14, 15, 0⟩
def E.T5_5_FILTER : EFld := ⟨0x14, 18, 16⟩
def E.T5_5_HEADER : EFld := ⟨0x18, 319, 0⟩

/-! Table 6.2: Subscription entry (64 bytes) -/

def E.T6_2_DMAC : EFld := ⟨0x0, 47, 0⟩
def E.T6_2_VID : EFld := ⟨0x0, 59, 48⟩
def E.T6_2_VALID : EFld := ⟨0x0, 63, 63⟩
def E.T6_2_APPID : EFld := ⟨0x8, 15, 0⟩
def E.T6_2_SVID_CRC : EFld := ⟨0xC, 31, 0⟩
def E.T6_2_CONF_REV : EFld := ⟨0x10, 31, 0⟩
def E.T6_2_RATE : EFld := ⟨0x14, 2, 0⟩
def E.T6_2_NASDU : EFld := ⟨0x14, 7, 4⟩
def E.T6_2_NCH : EFld := ⟨0x14, 12, 8⟩
def E.T6_2_PREF_LAN : EFld := ⟨0x14, 13, 13⟩
def E.T6_2_SIM_ACC : EFld := ⟨0x14, 14, 14⟩
def E.T6_2_SYNC_REQ : EFld := ⟨0x14, 15, 15⟩
def E.T6_2_AUTH : EFld := ⟨0x14, 17, 16⟩
def E.T6_2_SEAL_REQ : EFld := ⟨0x14, 18, 18⟩
def E.T6_2_F60 : EFld := ⟨0x14, 19, 19⟩
def E.T6_2_REVIVE : EFld := ⟨0x14, 23, 20⟩
def E.T6_2_TRK_SHIFT : EFld := ⟨0x14, 26, 24⟩
def E.T6_2_LEAD : EFld := ⟨0x14, 31, 27⟩
def E.T6_2_CNT_MOD_M1 : EFld := ⟨0x18, 15, 0⟩
def E.T6_2_GAP_MAX : EFld := ⟨0x18, 23, 16⟩
def E.T6_2_TRK_GATE : EFld := ⟨0x18, 31, 24⟩
def E.T6_2_FIBRE_A : EFld := ⟨0x1C, 20, 0⟩
def E.T6_2_FIBRE_B : EFld := ⟨0x20, 20, 0⟩
def E.T6_2_MU_DELAY : EFld := ⟨0x24, 21, 0⟩
def E.T6_2_LOSS_TMO : EFld := ⟨0x28, 15, 0⟩
def E.T6_2_COPY_WAIT : EFld := ⟨0x28, 23, 16⟩
def E.T6_2_GROUP : EFld := ⟨0x28, 31, 24⟩
def E.T6_2_SLOT_CUR : EFld := ⟨0x2C, 5, 0⟩
def E.T6_2_SLOT_NEXT : EFld := ⟨0x2C, 13, 8⟩
def E.T6_2_NEXT_VALID : EFld := ⟨0x2C, 15, 15⟩
def E.T6_2_KEY_ID_CUR : EFld := ⟨0x30, 31, 0⟩
def E.T6_2_KEY_ID_NEXT : EFld := ⟨0x34, 31, 0⟩
def E.T6_2_SEAL_SRC : EFld := ⟨0x38, 31, 0⟩

/-! Table 6.3: Alignment group entry (8 bytes, index = group) -/

def E.T6_3_WINDOW : EFld := ⟨0x0, 10, 0⟩
def E.T6_3_VALID : EFld := ⟨0x0, 31, 31⟩

/-! Table 6.10: Stream state record (64 bytes) -/

def E.T6_10_STATE : EFld := ⟨0x0, 1, 0⟩
def E.T6_10_TRK_VALID : EFld := ⟨0x0, 2, 2⟩
def E.T6_10_REVIVE_CNT : EFld := ⟨0x0, 7, 4⟩
def E.T6_10_GATE_RUN : EFld := ⟨0x0, 10, 8⟩
def E.T6_10_LAST_KEY : EFld := ⟨0x0, 31, 16⟩
def E.T6_10_PHASE : EFld := ⟨0x8, 95, 0⟩
def E.T6_10_LAST_STAMP : EFld := ⟨0x14, 95, 0⟩
def E.T6_10_FRAMES : EFld := ⟨0x20, 31, 0⟩
def E.T6_10_MISSED : EFld := ⟨0x24, 31, 0⟩
def E.T6_10_LATE : EFld := ⟨0x28, 31, 0⟩
def E.T6_10_NONPREF : EFld := ⟨0x2C, 31, 0⟩
def E.T6_10_DISCONT : EFld := ⟨0x30, 15, 0⟩
def E.T6_10_REANCHOR : EFld := ⟨0x30, 31, 16⟩
def E.T6_10_LOSSES : EFld := ⟨0x34, 15, 0⟩
def E.T6_10_AUTH_FAIL : EFld := ⟨0x38, 31, 0⟩

/-! Table 7.1: Slot descriptor (64 bytes) -/

def E.T7_1_STREAM : EFld := ⟨0x0, 11, 0⟩
def E.T7_1_CH_FIRST : EFld := ⟨0x0, 16, 12⟩
def E.T7_1_CH_CNT_M1 : EFld := ⟨0x0, 19, 17⟩
def E.T7_1_VALID : EFld := ⟨0x0, 20, 20⟩
def E.T7_1_WASH_OK : EFld := ⟨0x0, 21, 21⟩
def E.T7_1_WASH_ON_COMMIT : EFld := ⟨0x0, 22, 22⟩
def E.T7_1_BANK : EFld := ⟨0x0, 26, 24⟩
def E.T7_1_DEC_LOG2 : EFld := ⟨0x0, 29, 27⟩
def E.T7_1_CIC_N : EFld := ⟨0x4, 2, 0⟩
def E.T7_1_TAPS_RS : EFld := ⟨0x4, 9, 4⟩
def E.T7_1_N_FIR : EFld := ⟨0x4, 11, 10⟩
def E.T7_1_RS_BASE : EFld := ⟨0x4, 23, 12⟩
def E.T7_1_TAPS : EFld := ⟨0x8, 8, 0⟩
def E.T7_1_SHIFT : EFld := ⟨0x8, 14, 9⟩
def E.T7_1_BASE : EFld := ⟨0x8, 27, 16⟩
def E.T7_1_NODE : EFld := ⟨0x14, 17, 0⟩
def E.T7_1_SCALE : EFld := ⟨0x20, 31, 0⟩

/-! Table 7.5: Speedwell entry (16 bytes) -/

def E.T7_5_STREAM : EFld := ⟨0x0, 11, 0⟩
def E.T7_5_CHANNEL : EFld := ⟨0x0, 16, 12⟩
def E.T7_5_VALID : EFld := ⟨0x0, 18, 18⟩
def E.T7_5_QDELAY : EFld := ⟨0x0, 28, 19⟩
def E.T7_5_SCALE : EFld := ⟨0x4, 31, 0⟩
def E.T7_5_NODE : EFld := ⟨0x8, 17, 0⟩

/-! Table 7.8: Slot state record (16 bytes) -/

def E.T7_8_ACT_BANK : EFld := ⟨0x0, 2, 0⟩
def E.T7_8_WASHING : EFld := ⟨0x0, 3, 3⟩
def E.T7_8_WASH_BANK : EFld := ⟨0x0, 6, 4⟩
def E.T7_8_PENDING : EFld := ⟨0x0, 7, 7⟩
def E.T7_8_PEND_BANK : EFld := ⟨0x0, 10, 8⟩
def E.T7_8_WASH_K : EFld := ⟨0x0, 24, 12⟩
def E.T7_8_PEND_SEC : EFld := ⟨0x4, 31, 0⟩
def E.T7_8_PEND_IDX : EFld := ⟨0x8, 14, 0⟩
def E.T7_8_SAT : EFld := ⟨0x8, 31, 16⟩
def E.T7_8_OUTPUTS : EFld := ⟨0xC, 31, 0⟩

/-! Table 8.1: Token (32 bytes as carried) -/

def E.T8_1_KEY : EFld := ⟨0x0, 95, 0⟩
def E.T8_1_NODE : EFld := ⟨0xC, 17, 0⟩
def E.T8_1_PORT : EFld := ⟨0xC, 21, 18⟩
def E.T8_1_CODE : EFld := ⟨0xC, 23, 22⟩
def E.T8_1_TEST : EFld := ⟨0xC, 24, 24⟩
def E.T8_1_SW : EFld := ⟨0xC, 25, 25⟩
def E.T8_1_PAYLOAD : EFld := ⟨0x10, 127, 0⟩

/-! Table 8.3: Node descriptor (16 bytes) -/

def E.T8_3_OP : EFld := ⟨0x0, 17, 0⟩
def E.T8_3_KIND : EFld := ⟨0x0, 19, 18⟩
def E.T8_3_GROUP : EFld := ⟨0x0, 31, 24⟩
def E.T8_3_FLOW : EFld := ⟨0x4, 15, 0⟩
def E.T8_3_FLOW_EN : EFld := ⟨0x4, 16, 16⟩
def E.T8_3_N_IN_M1 : EFld := ⟨0x4, 20, 17⟩
def E.T8_3_SW : EFld := ⟨0x4, 21, 21⟩
def E.T8_3_DIV_M1 : EFld := ⟨0x4, 31, 24⟩
def E.T8_3_SUCC_BASE : EFld := ⟨0x8, 19, 0⟩
def E.T8_3_SUCC_CNT : EFld := ⟨0x8, 26, 20⟩
def E.T8_3_COST : EFld := ⟨0xC, 15, 0⟩
def E.T8_3_PHASE : EFld := ⟨0xC, 23, 16⟩

/-! Table 8.4: Successor entry (4 bytes) -/

def E.T8_4_NODE : EFld := ⟨0x0, 17, 0⟩
def E.T8_4_PORT : EFld := ⟨0x0, 21, 18⟩

/-! Table 8.5: Flow entry (8 bytes) -/

def E.T8_5_FIRST : EFld := ⟨0x0, 17, 0⟩
def E.T8_5_VALID : EFld := ⟨0x0, 31, 31⟩
def E.T8_5_LAST : EFld := ⟨0x4, 17, 0⟩

/-! Table 8.6: Group descriptor (16 bytes) -/

def E.T8_6_LEVEL : EFld := ⟨0x0, 2, 0⟩
def E.T8_6_VALID : EFld := ⟨0x0, 3, 3⟩
def E.T8_6_OWNER : EFld := ⟨0x0, 10, 4⟩
def E.T8_6_READY_MAX : EFld := ⟨0x0, 31, 16⟩
def E.T8_6_WEIGHT : EFld := ⟨0x4, 7, 0⟩
def E.T8_6_CMAX : EFld := ⟨0x4, 31, 16⟩

/-! Table 8.8: Group state record (16 bytes) -/

def E.T8_8_DEPTH : EFld := ⟨0x0, 15, 0⟩
def E.T8_8_DEFERRED : EFld := ⟨0x0, 31, 16⟩
def E.T8_8_DEFICIT : EFld := ⟨0x4, 31, 0⟩
def E.T8_8_FIRED : EFld := ⟨0x8, 31, 0⟩
def E.T8_8_WAIT_MAX : EFld := ⟨0xC, 30, 0⟩
def E.T8_8_DRAINED : EFld := ⟨0xC, 31, 31⟩

/-! Table 8.9: Flow state record (16 bytes) -/

def E.T8_9_KEY : EFld := ⟨0x0, 95, 0⟩
def E.T8_9_VALID : EFld := ⟨0xC, 0, 0⟩
def E.T8_9_RUNNING : EFld := ⟨0xC, 1, 1⟩

/-! Table 9.1: Operator descriptor (128 bytes) -/

def E.T9_1_OPCODE : EFld := ⟨0x0, 7, 0⟩
def E.T9_1_VALID : EFld := ⟨0x0, 8, 8⟩
def E.T9_1_QUEST_OK : EFld := ⟨0x0, 9, 9⟩
def E.T9_1_MAP_EN : EFld := ⟨0x0, 10, 10⟩
def E.T9_1_LAST : EFld := ⟨0x0, 11, 11⟩
def E.T9_1_STATE_LEN : EFld := ⟨0x0, 23, 16⟩
def E.T9_1_STATE_IDX : EFld := ⟨0x4, 23, 0⟩
def E.T9_1_MAP_PT : EFld := ⟨0x8, 22, 0⟩
def E.T9_1_XPARAM : EFld := ⟨0xC, 31, 0⟩

/-! Table 9.4: Operator state words (offsets within the state record) -/

def E.T9_4_POS : EFld := ⟨0xC, 9, 0⟩
def E.T9_4_FILL : EFld := ⟨0xC, 19, 10⟩
def E.T9_4_HCNT : EFld := ⟨0x10, 15, 0⟩
def E.T9_4_VAL : EFld := ⟨0x20, 31, 0⟩
def E.T9_4_Q : EFld := ⟨0x24, 2, 0⟩
def E.T9_4_PCNT_DCNT_OP : EFld := ⟨0xC, 7, 0⟩
def E.T9_4_ZACC : EFld := ⟨0xC, 3, 0⟩
def E.T9_4_ZCNT : EFld := ⟨0x10, 15, 0⟩
def E.T9_4_AGE_MEM_OK : EFld := ⟨0xC, 15, 0⟩
def E.T9_4_MEM_RE_MEM_IM : EFld := ⟨0x10, 31, 0⟩
def E.T9_4_OP : EFld := ⟨0xC, 0, 0⟩
def E.T9_4_ACC : EFld := ⟨0x10, 63, 0⟩
def E.T9_4_PICK_OP : EFld := ⟨0xC, 0, 0⟩
def E.T9_4_PCNT_DCNT : EFld := ⟨0x10, 15, 0⟩
def E.T9_4_POS_FILL_PREV_OK : EFld := ⟨0xC, 5, 0⟩
def E.T9_4_QCNT_TCNT_OP : EFld := ⟨0xC, 20, 14⟩
def E.T9_4_PREV_RE_PREV_IM : EFld := ⟨0x14, 31, 0⟩
def E.T9_4_EST : EFld := ⟨0x20, 63, 0⟩

/-! Table 9.5: DIFF parameters -/

def E.T9_5_N_END : EFld := ⟨0x10, 3, 0⟩
def E.T9_5_BLK_EN : EFld := ⟨0x10, 4, 4⟩
def E.T9_5_PU_CNT : EFld := ⟨0x10, 15, 8⟩
def E.T9_5_DO_CNT : EFld := ⟨0x10, 23, 16⟩
def E.T9_5_IS1 : EFld := ⟨0x14, 31, 0⟩
def E.T9_5_K1 : EFld := ⟨0x18, 31, 0⟩
def E.T9_5_IS2 : EFld := ⟨0x1C, 31, 0⟩
def E.T9_5_K2 : EFld := ⟨0x20, 31, 0⟩

/-! Table 9.6: DIST parameters -/

def E.T9_6_ZEN : EFld := ⟨0x10, 3, 0⟩
def E.T9_6_ZREV : EFld := ⟨0x10, 7, 4⟩
def E.T9_6_RES_EN : EFld := ⟨0x10, 8, 8⟩
def E.T9_6_CHAIN : EFld := ⟨0x10, 9, 9⟩
def E.T9_6_K0_RE_K0_IM : EFld := ⟨0x14, 31, 0⟩
def E.T9_6_COT : EFld := ⟨0x1C, 31, 0⟩
def E.T9_6_I_MIN : EFld := ⟨0x20, 31, 0⟩
def E.T9_6_X_LOW : EFld := ⟨0x24, 31, 0⟩
def E.T9_6_R_LOW : EFld := ⟨0x28, 31, 0⟩
def E.T9_6_X_REACH : EFld := ⟨0x2C, 31, 0⟩
def E.T9_6_R_REACH : EFld := ⟨0x30, 31, 0⟩
def E.T9_6_T : EFld := ⟨0x4C, 15, 0⟩

/-! Table 9.7: DIR parameters -/

def E.T9_7_MEM_CNT : EFld := ⟨0x10, 15, 0⟩
def E.T9_7_MTA_C_MTA_S : EFld := ⟨0x14, 31, 0⟩
def E.T9_7_V_MIN : EFld := ⟨0x1C, 31, 0⟩
def E.T9_7_I_MIN : EFld := ⟨0x20, 31, 0⟩
def E.T9_7_MARGIN : EFld := ⟨0x24, 31, 0⟩

/-! Table 9.8: IDMT parameters -/

def E.T9_8_RST_MODE : EFld := ⟨0x10, 0, 0⟩
def E.T9_8_I_PU : EFld := ⟨0x14, 31, 0⟩
def E.T9_8_DT : EFld := ⟨0x18, 63, 0⟩
def E.T9_8_RST_RATE : EFld := ⟨0x20, 63, 0⟩
def E.T9_8_TMS : EFld := ⟨0x28, 63, 0⟩

/-! Table 9.9: DEFT parameters -/

def E.T9_9_SRC : EFld := ⟨0x10, 0, 0⟩
def E.T9_9_UNDER : EFld := ⟨0x10, 1, 1⟩
def E.T9_9_PU_CNT : EFld := ⟨0x14, 15, 0⟩
def E.T9_9_DO_CNT : EFld := ⟨0x14, 31, 16⟩
def E.T9_9_SET : EFld := ⟨0x18, 31, 0⟩
def E.T9_9_RESET : EFld := ⟨0x1C, 31, 0⟩

/-! Table 9.10: FREQ parameters -/

def E.T9_10_AVG : EFld := ⟨0x10, 6, 0⟩
def E.T9_10_PU_CNT : EFld := ⟨0x14, 15, 0⟩
def E.T9_10_DO_CNT : EFld := ⟨0x14, 31, 16⟩
def E.T9_10_F_NOM : EFld := ⟨0x18, 31, 0⟩
def E.T9_10_V_MIN : EFld := ⟨0x1C, 31, 0⟩
def E.T9_10_F_HI : EFld := ⟨0x20, 31, 0⟩
def E.T9_10_F_LO : EFld := ⟨0x24, 31, 0⟩
def E.T9_10_KF : EFld := ⟨0x28, 63, 0⟩
def E.T9_10_ROT_RE : EFld := ⟨0x30, 31, 0⟩
def E.T9_10_ROT_IM : EFld := ⟨0x34, 31, 0⟩

/-! Table 9.11: HARM parameters -/

def E.T9_11_N : EFld := ⟨0x10, 9, 0⟩
def E.T9_11_NH : EFld := ⟨0x10, 14, 10⟩
def E.T9_11_MODE : EFld := ⟨0x10, 15, 15⟩
def E.T9_11_HOLD : EFld := ⟨0x10, 31, 16⟩
def E.T9_11_I_MIN : EFld := ⟨0x14, 31, 0⟩
def E.T9_11_R_TOT : EFld := ⟨0x18, 31, 0⟩

/-! Table 9.12: INST parameters -/

def E.T9_12_PU_CNT : EFld := ⟨0x10, 7, 0⟩
def E.T9_12_DO_CNT : EFld := ⟨0x10, 15, 8⟩
def E.T9_12_I_SET : EFld := ⟨0x14, 31, 0⟩
def E.T9_12_PK_SET : EFld := ⟨0x18, 31, 0⟩
def E.T9_12_DO_RATIO : EFld := ⟨0x1C, 31, 0⟩

/-! Table 10.1: Point record (32 bytes) -/

def E.T10_1_W0 : EFld := ⟨0x0, 31, 0⟩
def E.T10_1_W1 : EFld := ⟨0x4, 31, 0⟩
def E.T10_1_W2 : EFld := ⟨0x8, 31, 0⟩
def E.T10_1_W3 : EFld := ⟨0xC, 31, 0⟩
def E.T10_1_KEY : EFld := ⟨0x10, 95, 0⟩
def E.T10_1_CODE : EFld := ⟨0x1C, 1, 0⟩
def E.T10_1_TEST : EFld := ⟨0x1C, 2, 2⟩
def E.T10_1_SW : EFld := ⟨0x1C, 3, 3⟩
def E.T10_1_SRC : EFld := ⟨0x1C, 6, 4⟩
def E.T10_1_LOST : EFld := ⟨0x1C, 7, 7⟩
def E.T10_1_QUALITY : EFld := ⟨0x1C, 20, 8⟩
def E.T10_1_UPD : EFld := ⟨0x1C, 31, 21⟩

/-! Table 10.2: Range descriptor (16 bytes) -/

def E.T10_2_FIRST : EFld := ⟨0x0, 22, 0⟩
def E.T10_2_VALID : EFld := ⟨0x0, 23, 23⟩
def E.T10_2_CLASS : EFld := ⟨0x0, 26, 24⟩
def E.T10_2_COUNT_M1 : EFld := ⟨0x4, 22, 0⟩
def E.T10_2_OWNER : EFld := ⟨0x8, 6, 0⟩
def E.T10_2_SHARED : EFld := ⟨0x8, 7, 7⟩

/-! Table 10.4: Map request record (64 bytes) -/

def E.T10_4_KIND : EFld := ⟨0x0, 1, 0⟩
def E.T10_4_POINT : EFld := ⟨0x4, 22, 0⟩
def E.T10_4_CODE : EFld := ⟨0x4, 24, 23⟩
def E.T10_4_TEST : EFld := ⟨0x4, 25, 25⟩
def E.T10_4_TIME : EFld := ⟨0x8, 95, 0⟩
def E.T10_4_COUNT : EFld := ⟨0x14, 12, 0⟩
def E.T10_4_LIST : EFld := ⟨0x18, 47, 0⟩
def E.T10_4_DEST : EFld := ⟨0x20, 47, 0⟩
def E.T10_4_W0_W3 : EFld := ⟨0x28, 31, 0⟩
def E.T10_4_STATUS : EFld := ⟨0x38, 7, 0⟩

/-! Table 10.6: GOOSE subscription entry (64 bytes) -/

def E.T10_6_DMAC : EFld := ⟨0x0, 47, 0⟩
def E.T10_6_VID : EFld := ⟨0x0, 59, 48⟩
def E.T10_6_VALID : EFld := ⟨0x0, 63, 63⟩
def E.T10_6_APPID : EFld := ⟨0x8, 15, 0⟩
def E.T10_6_OWNER : EFld := ⟨0x8, 22, 16⟩
def E.T10_6_GOCB_CRC : EFld := ⟨0xC, 31, 0⟩
def E.T10_6_CONF_REV : EFld := ⟨0x10, 31, 0⟩
def E.T10_6_PREF_LAN : EFld := ⟨0x14, 0, 0⟩
def E.T10_6_SIM_ACC : EFld := ⟨0x14, 1, 1⟩
def E.T10_6_AUTH : EFld := ⟨0x14, 3, 2⟩
def E.T10_6_SEAL_REQ : EFld := ⟨0x14, 4, 4⟩
def E.T10_6_COPY_WAIT : EFld := ⟨0x14, 15, 8⟩
def E.T10_6_MEMBERS : EFld := ⟨0x14, 22, 16⟩
def E.T10_6_MEMBER_BASE : EFld := ⟨0x18, 15, 0⟩
def E.T10_6_TAL_EXTRA : EFld := ⟨0x18, 31, 16⟩
def E.T10_6_TAL_DEF : EFld := ⟨0x1C, 15, 0⟩
def E.T10_6_SLOT_CUR : EFld := ⟨0x20, 5, 0⟩
def E.T10_6_SLOT_NEXT : EFld := ⟨0x20, 13, 8⟩
def E.T10_6_NEXT_VALID : EFld := ⟨0x20, 15, 15⟩
def E.T10_6_KEY_ID_CUR : EFld := ⟨0x24, 31, 0⟩
def E.T10_6_KEY_ID_NEXT : EFld := ⟨0x28, 31, 0⟩
def E.T10_6_SEAL_SRC : EFld := ⟨0x2C, 31, 0⟩

/-! Table 10.7: GOOSE member entry (8 bytes) -/

def E.T10_7_POINT : EFld := ⟨0x0, 22, 0⟩
def E.T10_7_TYPE : EFld := ⟨0x0, 26, 23⟩

/-! Table 11.2: Output list entry (32 bytes) -/

def E.T11_2_POINT : EFld := ⟨0x0, 22, 0⟩
def E.T11_2_VALID : EFld := ⟨0x0, 23, 23⟩
def E.T11_2_SAFE_EN : EFld := ⟨0x0, 24, 24⟩
def E.T11_2_SAFE_CODE : EFld := ⟨0x0, 26, 25⟩
def E.T11_2_SAFE_TEST : EFld := ⟨0x0, 27, 27⟩
def E.T11_2_ALWAYS : EFld := ⟨0x0, 28, 28⟩
def E.T11_2_SAFE_W0_SAFE_W3 : EFld := ⟨0x8, 31, 0⟩

/-! Table 11.6: Force entry (16 bytes) -/

def E.T11_6_POINT : EFld := ⟨0x0, 22, 0⟩
def E.T11_6_EN : EFld := ⟨0x0, 23, 23⟩
def E.T11_6_WORD : EFld := ⟨0x0, 25, 24⟩
def E.T11_6_SET_CODE : EFld := ⟨0x0, 26, 26⟩
def E.T11_6_FCODE : EFld := ⟨0x0, 28, 27⟩
def E.T11_6_MASK : EFld := ⟨0x4, 31, 0⟩
def E.T11_6_VALUE : EFld := ⟨0x8, 31, 0⟩

/-! Table 12.2: Publication descriptor (64 bytes) -/

def E.T12_2_VALID : EFld := ⟨0x0, 0, 0⟩
def E.T12_2_POLICY : EFld := ⟨0x0, 2, 1⟩
def E.T12_2_SEAL_EN : EFld := ⟨0x0, 3, 3⟩
def E.T12_2_TS_EN : EFld := ⟨0x0, 4, 4⟩
def E.T12_2_SIM : EFld := ⟨0x0, 5, 5⟩
def E.T12_2_TRIG_EN : EFld := ⟨0x0, 6, 6⟩
def E.T12_2_TAG : EFld := ⟨0x0, 7, 7⟩
def E.T12_2_AUTH : EFld := ⟨0x0, 9, 8⟩
def E.T12_2_SLOT : EFld := ⟨0x0, 15, 10⟩
def E.T12_2_SRC : EFld := ⟨0x0, 21, 16⟩
def E.T12_2_PCP : EFld := ⟨0x0, 24, 22⟩
def E.T12_2_TAL_MULT : EFld := ⟨0x0, 28, 25⟩
def E.T12_2_VID : EFld := ⟨0x4, 11, 0⟩
def E.T12_2_APPID : EFld := ⟨0x4, 31, 16⟩
def E.T12_2_DMAC : EFld := ⟨0x8, 47, 0⟩
def E.T12_2_EGRESS_A : EFld := ⟨0x10, 10, 0⟩
def E.T12_2_EGRESS_B : EFld := ⟨0x10, 26, 16⟩
def E.T12_2_TRIG_PT : EFld := ⟨0x14, 22, 0⟩
def E.T12_2_MEMBER_BASE : EFld := ⟨0x18, 15, 0⟩
def E.T12_2_MEMBERS : EFld := ⟨0x18, 22, 16⟩
def E.T12_2_T_MIN : EFld := ⟨0x1C, 31, 0⟩
def E.T12_2_T_MAX : EFld := ⟨0x20, 31, 0⟩
def E.T12_2_CONF_REV : EFld := ⟨0x24, 31, 0⟩
def E.T12_2_OFF : EFld := ⟨0x28, 19, 0⟩
def E.T12_2_LEN : EFld := ⟨0x28, 27, 20⟩
def E.T12_2_SEAL_ID : EFld := ⟨0x34, 31, 0⟩
def E.T12_2_KEY_ID : EFld := ⟨0x38, 31, 0⟩

/-! Table 12.3: Publication member entry (8 bytes) -/

def E.T12_3_POINT : EFld := ⟨0x0, 22, 0⟩
def E.T12_3_TYPE : EFld := ⟨0x0, 26, 23⟩
def E.T12_3_FROM_TRIG : EFld := ⟨0x0, 27, 27⟩
def E.T12_3_WORD : EFld := ⟨0x0, 29, 28⟩
def E.T12_3_BIT : EFld := ⟨0x4, 4, 0⟩

/-! Table 12.5: Seal (16 bytes) -/

def E.T12_5_MARK : EFld := ⟨0x0, 15, 0⟩
def E.T12_5_VER : EFld := ⟨0x2, 7, 0⟩
def E.T12_5_FLAGS : EFld := ⟨0x3, 7, 0⟩
def E.T12_5_SRC_ID : EFld := ⟨0x4, 31, 0⟩
def E.T12_5_ALIVE : EFld := ⟨0x8, 31, 0⟩
def E.T12_5_CRC : EFld := ⟨0xC, 31, 0⟩

/-! Table 12.6: Trip entry (16 bytes) -/

def E.T12_6_POINT : EFld := ⟨0x0, 22, 0⟩
def E.T12_6_WORD : EFld := ⟨0x0, 24, 23⟩
def E.T12_6_BIT : EFld := ⟨0x0, 29, 25⟩
def E.T12_6_VALID : EFld := ⟨0x0, 30, 30⟩
def E.T12_6_VOTE : EFld := ⟨0x4, 0, 0⟩
def E.T12_6_FALLBACK : EFld := ⟨0x4, 1, 1⟩
def E.T12_6_MIN_ON : EFld := ⟨0x8, 19, 0⟩
def E.T12_6_DISAGREE : EFld := ⟨0xC, 15, 0⟩

/-! Table 14.1: Record setup (64 bytes) -/

def E.T14_1_N_ANA : EFld := ⟨0x0, 10, 0⟩
def E.T14_1_N_BIN : EFld := ⟨0x0, 28, 16⟩
def E.T14_1_PRE : EFld := ⟨0x4, 23, 0⟩
def E.T14_1_POST : EFld := ⟨0x8, 23, 0⟩
def E.T14_1_MAX_POST : EFld := ⟨0xC, 23, 0⟩
def E.T14_1_RETRIG : EFld := ⟨0x10, 0, 0⟩
def E.T14_1_FULL_MODE : EFld := ⟨0x10, 1, 1⟩
def E.T14_1_MASK_ACT : EFld := ⟨0x10, 3, 2⟩
def E.T14_1_MEAS_EN : EFld := ⟨0x10, 4, 4⟩
def E.T14_1_PHASE_EN : EFld := ⟨0x10, 5, 5⟩
def E.T14_1_F_NOM : EFld := ⟨0x14, 31, 0⟩
def E.T14_1_REF : EFld := ⟨0x18, 9, 0⟩

/-! Table 14.2: Analogue channel entry (16 bytes) -/

def E.T14_2_KIND : EFld := ⟨0x0, 1, 0⟩
def E.T14_2_WORD : EFld := ⟨0x0, 3, 2⟩
def E.T14_2_INT : EFld := ⟨0x0, 4, 4⟩
def E.T14_2_DELAY_ROWS : EFld := ⟨0x0, 15, 8⟩
def E.T14_2_SOURCE : EFld := ⟨0x4, 22, 0⟩
def E.T14_2_MASK_PEAK : EFld := ⟨0x8, 31, 0⟩
def E.T14_2_MASK_RMS : EFld := ⟨0xC, 31, 0⟩

/-! Table 14.3: Binary channel entry (8 bytes) -/

def E.T14_3_POINT : EFld := ⟨0x0, 22, 0⟩
def E.T14_3_WORD : EFld := ⟨0x0, 24, 23⟩
def E.T14_3_BIT : EFld := ⟨0x0, 29, 25⟩
def E.T14_3_VALID : EFld := ⟨0x0, 30, 30⟩

/-! Table 14.4: Data row -/

def E.T14_4_N : EFld := ⟨0x0, 31, 0⟩
def E.T14_4_TS : EFld := ⟨0x4, 31, 0⟩
def E.T14_4_A : EFld := ⟨0x8, 31, 0⟩
def E.T14_4_S : EFld := ⟨0x8, 15, 0⟩

/-! Table 14.5: Trigger condition (32 bytes) -/

def E.T14_5_KIND : EFld := ⟨0x0, 3, 0⟩
def E.T14_5_XT_OUT : EFld := ⟨0x0, 4, 4⟩
def E.T14_5_XT_LINE : EFld := ⟨0x0, 5, 5⟩
def E.T14_5_NO_REC : EFld := ⟨0x0, 6, 6⟩
def E.T14_5_EDGE : EFld := ⟨0x0, 7, 7⟩
def E.T14_5_PIN : EFld := ⟨0x0, 9, 8⟩
def E.T14_5_SOURCE : EFld := ⟨0x4, 22, 0⟩
def E.T14_5_WORD : EFld := ⟨0x4, 24, 23⟩
def E.T14_5_BIT : EFld := ⟨0x4, 29, 25⟩
def E.T14_5_LEVEL : EFld := ⟨0x8, 31, 0⟩
def E.T14_5_HYST : EFld := ⟨0xC, 31, 0⟩
def E.T14_5_HOLDOFF : EFld := ⟨0x10, 15, 0⟩

/-! Table 14.8: Record header (256 bytes) -/

def E.T14_8_MAGIC : EFld := ⟨0x0, 31, 0⟩
def E.T14_8_STATE : EFld := ⟨0x4, 1, 0⟩
def E.T14_8_SEQ : EFld := ⟨0x8, 31, 0⟩
def E.T14_8_FIRST_TIME : EFld := ⟨0xC, 95, 0⟩
def E.T14_8_TRIG_TIME : EFld := ⟨0x18, 95, 0⟩
def E.T14_8_TRIG_STAMP : EFld := ⟨0x24, 95, 0⟩
def E.T14_8_TRIG_MASK : EFld := ⟨0x30, 63, 0⟩
def E.T14_8_TRIG_COND : EFld := ⟨0x38, 7, 0⟩
def E.T14_8_FLAGS : EFld := ⟨0x38, 15, 8⟩
def E.T14_8_RETRIGS : EFld := ⟨0x38, 31, 16⟩
def E.T14_8_N_ROWS : EFld := ⟨0x3C, 31, 0⟩
def E.T14_8_PRE_ROWS : EFld := ⟨0x40, 31, 0⟩
def E.T14_8_DEAD_ROWS : EFld := ⟨0x44, 31, 0⟩
def E.T14_8_LOST_TRIG : EFld := ⟨0x48, 31, 0⟩
def E.T14_8_N_ANA : EFld := ⟨0x4C, 10, 0⟩
def E.T14_8_N_BIN : EFld := ⟨0x4C, 28, 16⟩
def E.T14_8_ROW_BYTES : EFld := ⟨0x50, 15, 0⟩
def E.T14_8_GRID_RATE : EFld := ⟨0x54, 31, 0⟩
def E.T14_8_MEAS_OFF : EFld := ⟨0x58, 31, 0⟩
def E.T14_8_ROWS_OFF : EFld := ⟨0x5C, 31, 0⟩
def E.T14_8_LAST_TIME : EFld := ⟨0x60, 95, 0⟩

/-! Table 14.9: Measurement entry (32 bytes) -/

def E.T14_9_MIN : EFld := ⟨0x0, 31, 0⟩
def E.T14_9_MAX : EFld := ⟨0x4, 31, 0⟩
def E.T14_9_MEAN : EFld := ⟨0x8, 31, 0⟩
def E.T14_9_RMS : EFld := ⟨0xC, 31, 0⟩
def E.T14_9_SKEW : EFld := ⟨0x10, 31, 0⟩
def E.T14_9_BAD_ROWS : EFld := ⟨0x14, 31, 0⟩
def E.T14_9_FAIL_PEAK : EFld := ⟨0x18, 0, 0⟩
def E.T14_9_FAIL_RMS : EFld := ⟨0x18, 1, 1⟩
def E.T14_9_FIRST_BAD : EFld := ⟨0x1C, 31, 0⟩

/-! Table 15.1: Instance descriptor (64 bytes) -/

def E.T15_1_VALID : EFld := ⟨0x0, 0, 0⟩
def E.T15_1_SCRIBE_MASK : EFld := ⟨0x4, 31, 0⟩
def E.T15_1_FLT_MASK : EFld := ⟨0x8, 15, 0⟩
def E.T15_1_CHK_MASK : EFld := ⟨0x8, 23, 16⟩
def E.T15_1_DRC : EFld := ⟨0x8, 24, 24⟩
def E.T15_1_FBO_FIRST : EFld := ⟨0xC, 9, 0⟩
def E.T15_1_FBO_COUNT : EFld := ⟨0xC, 20, 10⟩
def E.T15_1_MW_FIRST : EFld := ⟨0x10, 9, 0⟩
def E.T15_1_MW_COUNT : EFld := ⟨0x10, 14, 10⟩
def E.T15_1_RESET_US : EFld := ⟨0x14, 31, 0⟩
def E.T15_1_PUB_FIRST : EFld := ⟨0x18, 10, 0⟩
def E.T15_1_PUB_COUNT : EFld := ⟨0x18, 23, 12⟩
def E.T15_1_DRAIN_MIN : EFld := ⟨0x1C, 31, 0⟩

/-! Table 15.2: Memory window entry (16 bytes) -/

def E.T15_2_BASE : EFld := ⟨0x0, 47, 0⟩
def E.T15_2_VALID : EFld := ⟨0x0, 63, 63⟩
def E.T15_2_PAGES : EFld := ⟨0x8, 22, 0⟩
def E.T15_2_W : EFld := ⟨0x8, 23, 23⟩
def E.T15_2_LOG : EFld := ⟨0x8, 24, 24⟩
def E.T15_2_OWNER : EFld := ⟨0xC, 6, 0⟩

/-! Table 15.7: Dirty-log entry (8 bytes) -/

def E.T15_7_PAGE : EFld := ⟨0x0, 35, 0⟩
def E.T15_7_OWNER : EFld := ⟨0x0, 42, 36⟩
def E.T15_7_INIT : EFld := ⟨0x0, 45, 43⟩
def E.T15_7_EPOCH : EFld := ⟨0x0, 63, 48⟩

/-! Table 16.2: Message object descriptor (32 bytes) -/

def E.T16_2_ID : EFld := ⟨0x0, 28, 0⟩
def E.T16_2_IDE : EFld := ⟨0x0, 29, 29⟩
def E.T16_2_VALID : EFld := ⟨0x0, 30, 30⟩
def E.T16_2_DIR : EFld := ⟨0x0, 31, 31⟩
def E.T16_2_MASK : EFld := ⟨0x4, 28, 0⟩
def E.T16_2_FD : EFld := ⟨0x4, 29, 29⟩
def E.T16_2_BRS : EFld := ⟨0x4, 30, 30⟩
def E.T16_2_DLEN : EFld := ⟨0x8, 6, 0⟩
def E.T16_2_HDR_EN : EFld := ⟨0x8, 7, 7⟩
def E.T16_2_MAP_EN : EFld := ⟨0x8, 8, 8⟩
def E.T16_2_OVERWRITE : EFld := ⟨0x8, 9, 9⟩
def E.T16_2_TX_MODE : EFld := ⟨0x8, 11, 10⟩
def E.T16_2_RETRY : EFld := ⟨0x8, 15, 12⟩
def E.T16_2_IE : EFld := ⟨0x8, 16, 16⟩
def E.T16_2_POINT : EFld := ⟨0xC, 22, 0⟩
def E.T16_2_PERIOD : EFld := ⟨0x10, 31, 0⟩
def E.T16_2_OFFSET : EFld := ⟨0x14, 31, 0⟩

/-! Table 16.4: Object state record (32 bytes) -/

def E.T16_4_STATE : EFld := ⟨0x0, 1, 0⟩
def E.T16_4_NEW : EFld := ⟨0x0, 2, 2⟩
def E.T16_4_LOST : EFld := ⟨0x0, 3, 3⟩
def E.T16_4_RESULT : EFld := ⟨0x0, 6, 4⟩
def E.T16_4_RETRY_USED : EFld := ⟨0x0, 11, 8⟩
def E.T16_4_CLASH_RUN : EFld := ⟨0x0, 13, 12⟩
def E.T16_4_COUNT : EFld := ⟨0x4, 31, 0⟩
def E.T16_4_STAMP : EFld := ⟨0x8, 95, 0⟩

/-! Table 17.1: Event record header (16 bytes) -/

def E.T17_1_MARK : EFld := ⟨0x0, 7, 1⟩
def E.T17_1_PARITY : EFld := ⟨0x0, 0, 0⟩
def E.T17_1_LEN_M1 : EFld := ⟨0x0, 12, 8⟩
def E.T17_1_SRC : EFld := ⟨0x0, 15, 13⟩
def E.T17_1_CODE : EFld := ⟨0x2, 15, 0⟩
def E.T17_1_TIME : EFld := ⟨0x4, 95, 0⟩

/-! Table 17.4: Factory identity block (up to 2,048 bytes) -/

def E.T17_4_MAGIC : EFld := ⟨0x0, 31, 0⟩
def E.T17_4_CERT_LEN : EFld := ⟨0x4, 15, 0⟩
def E.T17_4_SERIAL : EFld := ⟨0x8, 127, 0⟩
def E.T17_4_DIE_ID : EFld := ⟨0x18, 127, 0⟩
def E.T17_4_PART : EFld := ⟨0x28, 31, 0⟩
def E.T17_4_CRC : EFld := ⟨0x2C, 31, 0⟩

/-! Table 18.2: Signed messages -/

def E.T18_2_MAGIC : EFld := ⟨0x0, 31, 0⟩
def E.T18_2_DIE_ID : EFld := ⟨0x4, 127, 0⟩
def E.T18_2_COUNT : EFld := ⟨0x14, 31, 0⟩
def E.T18_2_TARGET : EFld := ⟨0x18, 2, 0⟩
def E.T18_2_ENTRY : EFld := ⟨0x18, 4, 3⟩
def E.T18_2_ROOT : EFld := ⟨0x18, 6, 5⟩
def E.T18_2_REVOKE : EFld := ⟨0x18, 7, 7⟩
def E.T18_2_KEY_ID : EFld := ⟨0x1C, 31, 0⟩
def E.T18_2_KEY_DIGEST : EFld := ⟨0x20, 511, 0⟩

/-! Table 18.3: Key slot descriptor (16 bytes) -/

def E.T18_3_STATE : EFld := ⟨0x0, 1, 0⟩
def E.T18_3_DERIVED : EFld := ⟨0x0, 2, 2⟩
def E.T18_3_VERIFY : EFld := ⟨0x0, 4, 4⟩
def E.T18_3_TAG : EFld := ⟨0x0, 5, 5⟩
def E.T18_3_DERIVE : EFld := ⟨0x0, 6, 6⟩
def E.T18_3_PARENT : EFld := ⟨0x0, 13, 8⟩
def E.T18_3_LEN : EFld := ⟨0x0, 22, 16⟩
def E.T18_3_KEY_ID : EFld := ⟨0x4, 31, 0⟩
def E.T18_3_GEN : EFld := ⟨0x8, 31, 0⟩
def E.T18_3_INFLIGHT : EFld := ⟨0xC, 15, 0⟩

/-! Table 18.4: Attestation report -/

def E.T18_4_MAGIC : EFld := ⟨0x0, 31, 0⟩
def E.T18_4_FORMAT : EFld := ⟨0x4, 15, 0⟩
def E.T18_4_LIFECYCLE : EFld := ⟨0x6, 7, 0⟩
def E.T18_4_FLAGS : EFld := ⟨0x7, 3, 0⟩
def E.T18_4_DIE_ID : EFld := ⟨0x8, 127, 0⟩
def E.T18_4_FW_VER : EFld := ⟨0x18, 31, 0⟩
def E.T18_4_SEC_VERSION : EFld := ⟨0x1C, 31, 0⟩
def E.T18_4_7 : EFld := ⟨0x20, 31, 0⟩
def E.T18_4_IMAGE_ID : EFld := ⟨0x40, 127, 0⟩
def E.T18_4_VTIME : EFld := ⟨0x50, 63, 0⟩
def E.T18_4_OPH : EFld := ⟨0x58, 31, 0⟩
def E.T18_4_PCYC : EFld := ⟨0x5C, 31, 0⟩
def E.T18_4_ACTIVE_DIGEST : EFld := ⟨0x60, 511, 0⟩
def E.T18_4_NONCE : EFld := ⟨0xA0, 511, 0⟩
def E.T18_4_SIG : EFld := ⟨0xE0, 1151, 0⟩

/-! Table 19.2: Boot table (7,680 bytes) -/

def E.T19_2_MAGIC : EFld := ⟨0x0, 31, 0⟩
def E.T19_2_FORMAT : EFld := ⟨0x4, 15, 0⟩
def E.T19_2_N_STREAM : EFld := ⟨0x6, 7, 0⟩
def E.T19_2_N_ELEM : EFld := ⟨0x7, 7, 0⟩
def E.T19_2_IMAGE_ID : EFld := ⟨0x8, 127, 0⟩
def E.T19_2_SEQ : EFld := ⟨0x18, 31, 0⟩
def E.T19_2_TRUNC : EFld := ⟨0x1C, 0, 0⟩
def E.T19_2_CRC : EFld := ⟨0x20, 31, 0⟩
def E.T19_2_PORT : EFld := ⟨0x40, 31, 0⟩
def E.T19_2_PIN : EFld := ⟨0x100, 127, 0⟩
def E.T19_2_STREAM : EFld := ⟨0x200, 511, 0⟩
def E.T19_2_SW : EFld := ⟨0x1200, 127, 0⟩
def E.T19_2_PARAM : EFld := ⟨0x1210, 127, 0⟩
def E.T19_2_PINS : EFld := ⟨0x1220, 15, 0⟩
def E.T19_2_QUEST_OK : EFld := ⟨0x1220, 16, 16⟩

/-! Table 20.3: Dump header (256 bytes, at slot offset 0) -/

def E.T20_3_MAGIC : EFld := ⟨0x0, 31, 0⟩
def E.T20_3_FORMAT : EFld := ⟨0x4, 15, 0⟩
def E.T20_3_N_SECT : EFld := ⟨0x6, 7, 0⟩
def E.T20_3_SEQ : EFld := ⟨0x8, 31, 0⟩
def E.T20_3_DOMAIN : EFld := ⟨0xC, 2, 0⟩
def E.T20_3_CAUSE : EFld := ⟨0xD, 7, 0⟩
def E.T20_3_RETAINED : EFld := ⟨0xE, 0, 0⟩
def E.T20_3_PARTIAL : EFld := ⟨0xE, 1, 1⟩
def E.T20_3_OVERWROTE : EFld := ⟨0xE, 2, 2⟩
def E.T20_3_OTHERS : EFld := ⟨0xE, 3, 3⟩
def E.T20_3_TIME : EFld := ⟨0x10, 95, 0⟩
def E.T20_3_DETAIL : EFld := ⟨0x1C, 31, 0⟩
def E.T20_3_ADDR : EFld := ⟨0x20, 63, 0⟩
def E.T20_3_FW_VER : EFld := ⟨0x28, 31, 0⟩
def E.T20_3_DOM_STATUS : EFld := ⟨0x2C, 31, 0⟩
def E.T20_3_IMAGE_ID : EFld := ⟨0x30, 127, 0⟩
def E.T20_3_DIE_ID : EFld := ⟨0x40, 127, 0⟩
def E.T20_3_PCYC : EFld := ⟨0x50, 31, 0⟩
def E.T20_3_OPH : EFld := ⟨0x54, 31, 0⟩
def E.T20_3_LEN : EFld := ⟨0x58, 31, 0⟩
def E.T20_3_CRC : EFld := ⟨0x5C, 31, 0⟩

end Sys2Proof.Machine
end

