-- ==== Sys2Proof/Machine/Clock.lean ====
section
/-!
DEFINITION. The passing of time and the choice of a clock's source: plane clocks (R65 to R73), lane copies (R74) and
vault time (R382) all advance by one elapsed time; source selection, holdover, slewing and the first acquisition.
-/

namespace Sys2Proof.Machine
open Sys2Proof

/-- What a clock with a rate adjustment gains over an elapsed time, in 2⁻⁴⁰ of its unit, `frac` being carried over (R65). -/
def rateGain (d : Nat) (rate : Int) (frac : Nat) : Int := (d : Int) * rate + frac

/-- What a slew must remove of a residual to bring it below 1 ns (R71). -/
def slewNeed (resid : Int) : Nat := resid.natAbs - (ns - 1)

/-- How much of a residual a slew of `ppm` removes over an elapsed time, `frac` millionths being carried over: the slew ends when
the residual is below 1 ns (R71). -/
def slewPart (d ppm frac : Nat) (resid : Int) : Int :=
  let m := min (slewNeed resid) ((d * ppm + frac) / 1000000)
  if 0 ≤ resid then (m : Int) else -(m : Int)

/-- How long a slew of `ppm` takes to its end. -/
def slewTime (ppm frac : Nat) (resid : Int) : Nat := (slewNeed resid * 1000000 - frac + ppm - 1) / max ppm 1

/-- Keep the newest 16 s of a rate history, newest first (R66). -/
def trimHist : Nat → List (Nat × Int) → List (Nat × Int)
  | _, [] => []
  | left, (d, r) :: t => if left = 0 then [] else (min d left, r) :: trimHist (left - min d left) t

/-- The mean of a rate history (R66). -/
def meanRate (h : List (Nat × Int)) : Int :=
  let tot : Nat := (h.map (fun e => e.1)).sum
  if tot = 0 then 0 else (h.map (fun e => (e.1 : Int) * e.2)).sum / (tot : Int)

/-- Let a plane's clock run. A slew ends by itself when its residual is below 1 ns (R71); the time after it counts for the mean
rate again (R66). -/
def State.runPlane (s : State) (p : Plane) (d : Nat) : State :=
  if !s.planeUp p then s
  else
    let x := s.plane p
    let slew := s.bit (.tim p) F.TIM_STATUS_SLEWING
    let ppm := s.fld (.tim p) F.TIM_CTRL_SLEW_MAX
    let m := if slew then slewPart d ppm x.slewFrac x.resid else 0
    let ends := slew && decide ((x.resid - m).natAbs < ns)
    let free := if !slew then d else if ends then d - slewTime ppm x.slewFrac x.resid else 0
    let g := rateGain d x.rate x.rateFrac
    let x := { x with
      now := ((x.now : Int) + d + g / 2 ^ 40 + m).toNat
      rateFrac := (g % 2 ^ 40).toNat
      hcapRun := if d = 0 then x.hcapRun else 0
      slewFrac := if slew && !ends then (d * ppm + x.slewFrac) % 1000000 else 0
      resid := if ends then 0 else x.resid - m
      hist := if s.timState p = 1 && free ≠ 0 then trimHist (16 * sec) ((free, x.rate) :: x.hist) else x.hist }
    let s := s.setPlane p (x.shift m)
    if ends then s.setFld (.tim p) F.TIM_STATUS_SLEWING 0 else s

/-- Let a lane's copy run after the planes have run (R74). -/
def State.runLane (s : State) (l : Lane) (d : Nat) : State :=
  if !s.laneUp l then s
  else
    let x := s.lane l
    if s.laneHold l then
      let g := rateGain d x.rate x.rateFrac
      s.setLane l { x with now := ((x.now : Int) + d + g / 2 ^ 40).toNat, rateFrac := (g % 2 ^ 40).toNat }
    else
      let p := s.followed l
      let slew := s.bit (.lcfg l) F.CFG_TIME_FOLLOW_SLEWING
      let ppm := s.fld (.tim p) F.TIM_CTRL_SLEW_MAX
      let off := if slew then x.off - slewPart d ppm x.slewFrac x.off else 0
      let now := (((s.plane p).now : Int) + off).toNat
      let s := s.setLane l { x with now := now, off := off, rate := (s.plane p).rate, rateFrac := 0
                                    slewFrac := if slew then (d * ppm + x.slewFrac) % 1000000 else 0 }
      if slew && off.natAbs < ns then
        (s.setLane l { s.lane l with off := 0, slewFrac := 0, now := (s.plane p).now }).setFld (.lcfg l) F.CFG_TIME_FOLLOW_SLEWING 0
      else s

/-- The clocks of planes and lanes run. -/
def State.runClocks (s : State) (d : Nat) : State := (((s.runPlane .a d).runPlane .b d).runLane .l0 d).runLane .l1 d

/-- How long a lane's followed clock still slews: its plane's slew or its own (R71, R74). -/
def State.slewLeft (s : State) (l : Lane) : Nat :=
  let p := s.followed l
  let ppm := s.fld (.tim p) F.TIM_CTRL_SLEW_MAX
  if s.laneHold l then 0
  else
    max (if s.bit (.tim p) F.TIM_STATUS_SLEWING then slewTime ppm (s.plane p).slewFrac (s.plane p).resid else 0)
      (if s.bit (.lcfg l) F.CFG_TIME_FOLLOW_SLEWING then slewTime ppm (s.lane l).slewFrac (s.lane l).off else 0)

/-- A span of disturbed time joins the newest one when it touches it. -/
def spanAdd (a b : Nat) : List (Nat × Nat) → List (Nat × Nat)
  | [] => [(a, b)]
  | (c, d) :: t => if a ≤ d ∧ c ≤ a then (c, max d b) :: t else (a, b) :: (c, d) :: t

/-- The recorder of a lane learns that its followed clock slewed or changed plane from `a` to `b` (Table 14.8, SLEW). -/
def State.drcSlew (s : State) (l : Lane) (a b : Nat) : State :=
  let x := s.lane l
  s.setLane l { x with drc := { x.drc with slews := spanAdd a b x.drc.slews } }

/-- The part of an elapsed time in which a lane's followed clock slews, told to the recorder. -/
def State.slewSpan (s : State) (l : Lane) (d : Nat) : State :=
  if !s.laneUp l || decide (s.slewLeft l = 0) || decide (d = 0) then s
  else s.drcSlew l (s.laneNow l) ((s.runClocks (min d (s.slewLeft l))).laneNow l)

/-- An elapsed time passes: every running clock advances. -/
def State.elapse (s : State) (d : Nat) : State :=
  let s := { s with real := s.real + d }
  let s := if s.ink.powered && !s.ink.oscFail then { s with ink := { s.ink with vt := s.ink.vt + d } } else s
  ((s.slewSpan .l0 d).slewSpan .l1 d).runClocks d

/-- Let time pass until a clock, given as a function of the state, reads at least `t`. -/
def State.reach (s : State) (clk : State → Nat) (t : Nat) : Nat → State
  | 0 => s
  | n + 1 => if t ≤ clk s then s else (s.elapse (t - clk s)).reach clk t n

/-- Let time pass until a lane's followed clock reads at least `t`. -/
def State.reachLane (s : State) (l : Lane) (t : Nat) : State := s.reach (fun s => s.laneNow l) t 12

/-- Let time pass until a plane clock reads at least `t`. -/
def State.reachPlane (s : State) (p : Plane) (t : Nat) : State := s.reach (fun s => (s.plane p).now) t 12

/-- Let time pass until vault time reads at least `t`. -/
def State.reachVault (s : State) (t : Nat) : State := s.reach (fun s => s.ink.vt) t 4

/-- Let the model's elapsed time reach `t`. -/
def State.reachReal (s : State) (t : Nat) : State := s.elapse (t - s.real)

/-- One period of the 500 MHz time-unit islands: what an empty queue lets pass (log entry 2). -/
def tick (s : State) : State := s.elapse (2 * ns)

/-- Where a lane keeps its copy of the boot table and the records of its EPS (R422): addresses of the model's own, above
the 48-bit address map (log entry 12). The table lies at offset 0, the stream records at 0x2000, the element records at
0x4000. -/
def epsBase (l : Lane) : Nat := 2 ^ 48 + 0x100000 * l.idx

/-- The active subscription entry of stream n; 4,096 + s is EPS stream s, whose entry stands in the boot table. -/
def subAddr (l : Lane) (n : Nat) : Nat :=
  if n < 4096 then winAddr (.ing l) .ingSubAct (64 * n) else epsBase l + 0x200 + 64 * (n - 4096)

/-- The state record of stream n. -/
def strRec (l : Lane) (n : Nat) : Nat :=
  if n < 4096 then winAddr (.ing l) .ingState (64 * n) else epsBase l + 0x2000 + 64 * (n - 4096)

/-- The EPS streams of a lane's boot table. -/
def State.epsStreams (s : State) (l : Lane) : List Nat :=
  ((List.range (s.ent (epsBase l) E.T19_2_N_STREAM)).map (fun i => 4096 + i)).filter
    (fun n => decide (s.ent (subAddr l n) E.T6_2_VALID = 1))

/-- The acquisition step of R67 reaches a lane's running EPS: its trackers are re-anchored and its pending loss
deadlines, which count from the last stamp, move by the step (R422). -/
def State.epsStep (s : State) (l : Lane) (step : Int) : State :=
  (s.epsStreams l).foldl (fun s n =>
    let s := s.setEnt (strRec l n) E.T6_10_TRK_VALID 0
    let t : Int := ((ofT96 (s.ent (strRec l n) E.T6_10_LAST_STAMP)).getD 0 : Nat)
    s.setEnt (strRec l n) E.T6_10_LAST_STAMP (toT96 (t + step).toNat)) s

/-- A lane's copy takes a plane's clock at once (R74): before the grid, every change of followed plane and the step. -/
def State.laneTake (s : State) (l : Lane) (p : Plane) : State :=
  let s := if s.followed l = p then s else s.drcSlew l (s.laneNow l) (s.laneNow l)
  let x := s.lane l
  let s := s.setLane l { x with now := (s.plane p).now, off := 0, rate := (s.plane p).rate }
  let s := s.setFld (.lcfg l) F.CFG_TIME_FOLLOW_FOLLOWING p.idx
  let s := s.setFld (.lcfg l) F.CFG_TIME_FOLLOW_SLEWING 0
  s.setFld (.lcfg l) F.CFG_TIME_FOLLOW_HOLDOVER 0

/-- A lane takes a plane by slewing (R71, R74). -/
def State.laneSlewTo (s : State) (l : Lane) (p : Plane) : State :=
  let s := if s.followed l = p then s else s.drcSlew l (s.laneNow l) (s.laneNow l)
  let x := s.lane l
  let off := (x.now : Int) - (s.plane p).now
  let s := s.setLane l { x with off := off }
  let s := s.setFld (.lcfg l) F.CFG_TIME_FOLLOW_FOLLOWING p.idx
  let s := s.setFld (.lcfg l) F.CFG_TIME_FOLLOW_HOLDOVER 0
  if off.natAbs < ns then (s.setLane l { s.lane l with off := 0, now := (s.plane p).now }).setFld (.lcfg l) F.CFG_TIME_FOLLOW_SLEWING 0
  else s.setFld (.lcfg l) F.CFG_TIME_FOLLOW_SLEWING 1

/-- The default plane of a lane (CFG_TIME_FOLLOW.DEFAULT). -/
def State.defPlane (s : State) (l : Lane) : Plane := Plane.ofIdx (s.fld (.lcfg l) F.CFG_TIME_FOLLOW_DEFAULT)

/-- What plane a lane follows after a change of the planes' states (R74). -/
def State.laneFollow (s : State) (l : Lane) : State :=
  if !s.laneUp l then s
  else
    let d := s.defPlane l
    if !s.gridRun l then
      let want := if s.planeUp d then some d else if s.planeUp d.other then some d.other else none
      match want with
      | some p =>
        if s.followed l = p && !s.laneHold l then s else s.laneTake l p
      | none => s.setFld (.lcfg l) F.CFG_TIME_FOLLOW_HOLDOVER 1
    else
      let f := s.followed l
      let stay := !s.laneHold l && s.planeUp f && (s.planeLocked f || !s.planeLocked f.other)
      if stay then s
      else if s.laneHold l then
        if s.planeLocked d then s.laneSlewTo l d
        else if s.planeLocked d.other then s.laneSlewTo l d.other
        else s
      else if s.planeLocked f.other then s.laneSlewTo l f.other
      else s.setFld (.lcfg l) F.CFG_TIME_FOLLOW_HOLDOVER 1

/-- Both lanes follow again. -/
def State.lanesFollow (s : State) : State := (s.laneFollow .l0).laneFollow .l1

/-- The offset of a source from a plane's clock as it stands now (R72): a slot's, the other plane's clock, or the phase of the
last PPS edge to the nearest second. -/
def State.srcOffset (s : State) (p : Plane) (src : Nat) : Int :=
  match src with
  | 1 => (s.plane p).slot0.off.getD 0
  | 2 => (s.plane p).slot1.off.getD 0
  | 3 => ((s.plane p.other).now : Int) - (s.plane p).now
  | 4 =>
    (s.plane p).ppsPhase
  | _ => 0

/-- The source R68 and R69 give a plane: 1 or 2 a slot, 3 PEER, 4 PPS, 0 none. -/
def State.pickSource (s : State) (p : Plane) : Nat :=
  let c := (s.plane p).common
  let other := 1 - c
  if s.slotUsable p c then c + 1
  else if s.bit (.tim p) F.TIM_CTRL_PEER_SRC && s.pins.ipUp && s.planeLocked p.other && decide (s.fld (.tim p.other) F.TIM_STATUS_SOURCE = c + 1) then 3
  else if s.slotUsable p other then other + 1
  else if s.bit (.tim p) F.TIM_CTRL_PPS_SRC && (s.plane p).ppsGood then 4
  else 0

/-- Start or continue a slew of a plane's clock by an offset, or end it when the offset is below 1 ns (R71, R72). -/
def State.planeSlew (s : State) (p : Plane) (off : Int) : State :=
  let s := s.setPlane p { s.plane p with resid := off }
  if off.natAbs < ns then (s.setPlane p { s.plane p with resid := 0, slewFrac := 0 }).setFld (.tim p) F.TIM_STATUS_SLEWING 0
  else s.setFld (.tim p) F.TIM_STATUS_SLEWING 1

/-- The first acquisition: the plane clock steps once to the source (R67), lanes that follow it before their grid take
the step, and a running EPS is re-anchored (R422). What has been measured against the clock stands against the stepped clock. -/
def State.acquire (s : State) (p : Plane) (off : Int) : State :=
  let x := s.plane p
  let pps := x.lastPps.map (fun t => ((t : Int) + off).toNat)
  let s := s.setPlane p ({ x with now := ((x.now : Int) + off).toNat, resid := 0, slewFrac := 0, lastPps := pps }.shift off)
  let s := s.setBit (.tim p) F.TIM_STATUS_STEPPED
  let s := s.setFld (.tim p) F.TIM_STATUS_SLEWING 0
  let f := fun (s : State) (l : Lane) =>
    if s.laneUp l && !s.gridRun l && !s.laneHold l && decide (s.followed l = p) then
      let s := s.laneTake l p
      if s.epsRuns l then s.epsStep l off else s
    else s
  f (f s .l0) .l1

/-- Since when each slot of a plane has been usable, without a break, its DOMn_EN included (R68, R73). -/
def State.noteUsable (s : State) (p : Plane) : State :=
  let f := fun (s : State) (n : Nat) =>
    let t := (s.plane p).slot n
    let since := if s.slotUsable p n then (if t.usableSince.isSome then t.usableSince else some s.real) else none
    s.setPlane p ((s.plane p).setSlot n { t with usableSince := since })
  f (f s 0) 1

/-- Select a plane's source (R68) and carry the change out: a first acquisition steps, another change slews, the loss
of every source gives HOLDOVER at the mean rate (R66) or leaves FREE. -/
def State.selectSource (s : State) (p : Plane) : State :=
  if !s.planeUp p then s
  else
    let s := s.noteUsable p
    let old := s.fld (.tim p) F.TIM_STATUS_SOURCE
    let st := s.timState p
    let src := s.pickSource p
    let s' := s.setFld (.tim p) F.TIM_STATUS_SOURCE src
    let s' :=
      if src = 0 then
        if st = 1 then
          let x := s'.plane p
          let s' := s'.setPlane p { x with rate := meanRate x.hist, resid := 0, slewFrac := 0, lockedSince := none }
          let s' := s'.setFld (.tim p) F.TIM_STATUS_SLEWING 0
          s'.setFld (.tim p) F.TIM_STATUS_STATE 2
        else s'
      else
        let off := s.srcOffset p src
        let locked := fun (s : State) => (s.setFld (.tim p) F.TIM_STATUS_STATE 1).setPlane p
          { s.plane p with lockedSince := if st = 1 then (s.plane p).lockedSince else some s.real }
        if st = 0 then locked (s'.acquire p off)
        else if old = src && decide (st = 1) then s'
        else locked (s'.planeSlew p off)
    let s' := if s'.timState p ≠ st ∨ src ≠ old then s'.setBit (.tim p) F.TIM_STATUS_CHANGE else s'
    s'.lanesFollow

/-- Both planes select, Plane A first. -/
def State.selectSources (s : State) : State := (s.selectSource .a).selectSource .b

end Sys2Proof.Machine
end

