-- ==== Sys2Proof/Machine/Ber.lean ====
section
/-!
DEFINITION. ASN.1 BER as GOOSE uses it (Tables 10.5, 10.7 and 12.1): elements, the fields of the APDU, and the values of dataset
members. The tag octets are those of IEC 61850-8-1 (PRESUMED, log entry 49).
-/

namespace Sys2Proof.Machine
open Sys2Proof

/-! Encoding. -/

/-- A length in short form below 128, in long form above (Table 12.1). -/
def berLen (n : Nat) : List Byte :=
  if n < 128 then natBe 1 n else if n < 256 then 0x81 :: natBe 1 n else 0x82 :: natBe 2 n

/-- Tag, length and contents. -/
def berTlv (tag : Nat) (c : List Byte) : List Byte := natBe 1 tag ++ berLen c.length ++ c

/-- The fewest octets that hold a value as a non-negative integer. -/
def berUnsigned (v : Nat) : List Byte :=
  if v < 2 ^ 7 then natBe 1 v else if v < 2 ^ 15 then natBe 2 v else if v < 2 ^ 23 then natBe 3 v
  else if v < 2 ^ 31 then natBe 4 v else natBe 5 v

/-- The fewest octets that hold a 32-bit two's complement value. -/
def berSigned (v : Nat) : List Byte :=
  let i := signedOf 32 v
  let n := if -(2 ^ 7) ≤ i ∧ i < 2 ^ 7 then 1 else if -(2 ^ 15) ≤ i ∧ i < 2 ^ 15 then 2
    else if -(2 ^ 23) ≤ i ∧ i < 2 ^ 23 then 3 else 4
  natBe n (unsignedOf (8 * n) i)

/-- `n` bits of a word as a bit-string, word bit 0 first: the count of unused bits, then the octets. -/
def berBits (w n : Nat) : List Byte :=
  let oct := (n + 7) / 8
  BitVec.ofNat 8 (8 * oct - n) :: (List.range oct).map (fun j =>
    BitVec.ofNat 8 (((List.range 8).map (fun b => b2n (decide (8 * j + b < n) && bitAt w (8 * j + b)) * 2 ^ (7 - b))).sum))

/-! Decoding. -/

/-- The octets of a tag after a first one that announces more, to the one whose bit 7 is clear: the tag's number so far and what
follows. -/
def berTagMore (t : Nat) : List Byte → Option (Nat × List Byte)
  | [] => none
  | b :: rest => if b.toNat < 128 then some (t * 256 + b.toNat, rest) else berTagMore (t * 256 + b.toNat) rest

/-- The tag at the front: one octet, or several when its low five bits are all 1. -/
def berTag : List Byte → Option (Nat × List Byte)
  | [] => none
  | b :: rest => if b.toNat % 32 = 31 then berTagMore b.toNat rest else some (b.toNat, rest)

/-- The element at the front of octets, with its length in definite form, and what follows it. -/
def berTake (o : List Byte) : Option (BerElem × List Byte) :=
  match berTag o with
  | some (t, b :: rest) =>
    let k := if b.toNat < 128 then 0 else b.toNat - 128
    let n := if b.toNat < 128 then b.toNat else beNat (rest.take k)
    let rest := rest.drop k
    if b.toNat = 128 ∨ rest.length < n then none else some (⟨t, rest.take n⟩, rest.drop n)
  | _ => none

/-- Octets as a sequence of elements, if they are one; `fuel` bounds their number. -/
def berSeq : Nat → List Byte → Option (List BerElem)
  | _, [] => some []
  | 0, _ => none
  | fuel + 1, o =>
    match berTake o with
    | none => none
    | some (e, rest) => (berSeq fuel rest).map (fun es => e :: es)

/-- A boolean: one content octet, FALSE for 0x00 (Table 10.5). -/
def berBool (c : List Byte) : Option Bool :=
  match c with
  | [b] => some (decide (b ≠ 0))
  | _ => none

/-- An unsigned: 1 to 5 content octets, the leading bit 0, a value below 2^32 (Table 10.5). -/
def berNat (c : List Byte) : Option Nat :=
  match c with
  | [] => none
  | b :: _ => if b.toNat < 128 ∧ c.length ≤ 5 ∧ beNat c < 2 ^ 32 then some (beNat c) else none

/-- The bits of a bit-string, the first in bit 0, and their number; unused bits give 0 (Table 10.7). -/
def berString (c : List Byte) : Option (Nat × Nat) :=
  match c with
  | [] => none
  | u :: o =>
    let n := 8 * o.length - u.toNat
    if 7 < u.toNat ∨ 8 * o.length < u.toNat then none
    else some (((List.range n).map (fun i => b2n (bitAt ((o.getD (i / 8) 0).toNat) (7 - i % 8)) * 2 ^ i)).sum, n)

/-- The words W0 and W1 of a dataset member of a TYPE (Table 10.7); of a quality member the 13 bits; none for an encoding that
differs from the TYPE (R248). -/
def gooVal (type : Nat) (e : BerElem) : Option (Nat × Nat) :=
  let c := e.content
  match type with
  | 0 => some (0, 0)
  | 1 => if e.tag = 0x83 then (berBool c).map (fun b => (b2n b, 0)) else none
  | 2 => if e.tag = 0x85 ∧ 1 ≤ c.length ∧ c.length ≤ 4 then some (unsignedOf 32 (signedOf (8 * c.length) (beNat c)), 0) else none
  | 3 => if e.tag = 0x86 then (berNat c).map (fun v => (v, 0)) else none
  | 4 => if e.tag = 0x87 ∧ c.length = 5 ∧ c.head? = some 8 then some (beNat (c.drop 1), 0) else none
  | 5 => if e.tag = 0x84 then (berString c).bind (fun v => if v.2 ≤ 32 then some (v.1, 0) else none) else none
  | 6 => if e.tag = 0x84 then (berString c).bind (fun v => if v.2 = 13 then some (v.1, 0) else none) else none
  | 7 => if e.tag = 0x91 ∧ c.length = 8 then some (beNat (c.take 4), beNat (c.drop 4)) else none
  | _ => none

/-! The frame. -/

end Sys2Proof.Machine

namespace Sys2Proof
open Sys2Proof.Machine

/-- APPID. -/
def GooseMsg.appid (f : GooseMsg) : Nat := beNat (f.oct.take 2)

/-- The simulate bit of Reserved1. -/
def GooseMsg.simBit (f : GooseMsg) : Bool := bitAt (beNat ((f.oct.drop 4).take 2)) 15

/-- The IEC 62351-6 extension, which stands behind the APDU when Reserved2 gives it a length. -/
def GooseMsg.ext (f : GooseMsg) : Option AuthExt := if beNat ((f.oct.drop 6).take 2) = 0 then none else f.auth

/-- The fields of the APDU, in order; none where the octets are not one APDU of tagged fields. -/
def GooseMsg.fields (f : GooseMsg) : Option (List BerElem) :=
  match berTake (f.oct.drop 8) with
  | some (e, []) => if e.tag = 0x61 then berSeq e.content.length e.content else none
  | _ => none

/-- The content of the field with a tag. -/
def berField (fs : List BerElem) (tag : Nat) : Option (List Byte) := (fs.find? (fun e => decide (e.tag = tag))).map (fun e => e.content)

/-- gocbRef, by whose CRC-32C the copy is matched. -/
def GooseMsg.gocbRef (f : GooseMsg) : List Byte := (f.fields.bind (fun fs => berField fs 0x80)).getD []

/-- The tags that an APDU may carry, in the order of their fields (Table 10.5). -/
def gooseTags : List Nat := [0x80, 0x81, 0x82, 0x83, 0x84, 0x85, 0x86, 0x87, 0x88, 0x89, 0x8A, 0xAB]

/-- What the APDU carries, when its layout is that of Table 10.5: supported fields in their order, every required one there. -/
def GooseMsg.pdu? (f : GooseMsg) : Option GoosePdu := do
  let fs ← f.fields
  let tags := fs.map (fun e => e.tag)
  if !(gooseTags.filter tags.contains == tags) then none
  let tal ← (berField fs 0x81).bind berNat
  let t ← berField fs 0x84
  if t.length ≠ 8 then none
  let st ← (berField fs 0x85).bind berNat
  let sq ← (berField fs 0x86).bind berNat
  let sim ← (berField fs 0x87).bind berBool
  let confRev ← (berField fs 0x88).bind berNat
  let ndsCom ← (berField fs 0x89).bind berBool
  let entries ← (berField fs 0x8A).bind berNat
  let data ← berField fs 0xAB
  let elems ← berSeq data.length data
  some ⟨tal, beNat (t.take 4), st, sq, sim, confRev, ndsCom, entries, elems⟩

/-- The same, with nothing in it when the layout is wrong. -/
def GooseMsg.pdu (f : GooseMsg) : GoosePdu := f.pdu?.getD ⟨0, 0, 0, 0, false, 0, false, 0, []⟩

end Sys2Proof
end

