-- ==== Sys2Proof/Machine/Crypto.lean ====
section
/-!
DEFINITION. The published functions the spec relies on (Table 0.2, FIPS 180-4, FIPS 198-1, FIPS 186-5, RFC 5869):
SHA-256, SHA-512, HMAC, HKDF and ECDSA on P-521, over lists of bytes.
-/

namespace Sys2Proof.Machine
open Sys2Proof

/-- Round constants of SHA-256. -/
def sha256K : List Nat :=
    [0x428A2F98, 0x71374491, 0xB5C0FBCF, 0xE9B5DBA5, 0x3956C25B, 0x59F111F1, 0x923F82A4, 0xAB1C5ED5] ++
    [0xD807AA98, 0x12835B01, 0x243185BE, 0x550C7DC3, 0x72BE5D74, 0x80DEB1FE, 0x9BDC06A7, 0xC19BF174] ++
    [0xE49B69C1, 0xEFBE4786, 0x0FC19DC6, 0x240CA1CC, 0x2DE92C6F, 0x4A7484AA, 0x5CB0A9DC, 0x76F988DA] ++
    [0x983E5152, 0xA831C66D, 0xB00327C8, 0xBF597FC7, 0xC6E00BF3, 0xD5A79147, 0x06CA6351, 0x14292967] ++
    [0x27B70A85, 0x2E1B2138, 0x4D2C6DFC, 0x53380D13, 0x650A7354, 0x766A0ABB, 0x81C2C92E, 0x92722C85] ++
    [0xA2BFE8A1, 0xA81A664B, 0xC24B8B70, 0xC76C51A3, 0xD192E819, 0xD6990624, 0xF40E3585, 0x106AA070] ++
    [0x19A4C116, 0x1E376C08, 0x2748774C, 0x34B0BCB5, 0x391C0CB3, 0x4ED8AA4A, 0x5B9CCA4F, 0x682E6FF3] ++
    [0x748F82EE, 0x78A5636F, 0x84C87814, 0x8CC70208, 0x90BEFFFA, 0xA4506CEB, 0xBEF9A3F7, 0xC67178F2]

/-- Round constants of SHA-512. -/
def sha512K : List Nat :=
    [0x428A2F98D728AE22, 0x7137449123EF65CD, 0xB5C0FBCFEC4D3B2F, 0xE9B5DBA58189DBBC, 0x3956C25BF348B538, 0x59F111F1B605D019, 0x923F82A4AF194F9B, 0xAB1C5ED5DA6D8118] ++
    [0xD807AA98A3030242, 0x12835B0145706FBE, 0x243185BE4EE4B28C, 0x550C7DC3D5FFB4E2, 0x72BE5D74F27B896F, 0x80DEB1FE3B1696B1, 0x9BDC06A725C71235, 0xC19BF174CF692694] ++
    [0xE49B69C19EF14AD2, 0xEFBE4786384F25E3, 0x0FC19DC68B8CD5B5, 0x240CA1CC77AC9C65, 0x2DE92C6F592B0275, 0x4A7484AA6EA6E483, 0x5CB0A9DCBD41FBD4, 0x76F988DA831153B5] ++
    [0x983E5152EE66DFAB, 0xA831C66D2DB43210, 0xB00327C898FB213F, 0xBF597FC7BEEF0EE4, 0xC6E00BF33DA88FC2, 0xD5A79147930AA725, 0x06CA6351E003826F, 0x142929670A0E6E70] ++
    [0x27B70A8546D22FFC, 0x2E1B21385C26C926, 0x4D2C6DFC5AC42AED, 0x53380D139D95B3DF, 0x650A73548BAF63DE, 0x766A0ABB3C77B2A8, 0x81C2C92E47EDAEE6, 0x92722C851482353B] ++
    [0xA2BFE8A14CF10364, 0xA81A664BBC423001, 0xC24B8B70D0F89791, 0xC76C51A30654BE30, 0xD192E819D6EF5218, 0xD69906245565A910, 0xF40E35855771202A, 0x106AA07032BBD1B8] ++
    [0x19A4C116B8D2D0C8, 0x1E376C085141AB53, 0x2748774CDF8EEB99, 0x34B0BCB5E19B48A8, 0x391C0CB3C5C95A63, 0x4ED8AA4AE3418ACB, 0x5B9CCA4F7763E373, 0x682E6FF3D6B2B8A3] ++
    [0x748F82EE5DEFB2FC, 0x78A5636F43172F60, 0x84C87814A1F0AB72, 0x8CC702081A6439EC, 0x90BEFFFA23631E28, 0xA4506CEBDE82BDE9, 0xBEF9A3F7B2C67915, 0xC67178F2E372532B] ++
    [0xCA273ECEEA26619C, 0xD186B8C721C0C207, 0xEADA7DD6CDE0EB1E, 0xF57D4F7FEE6ED178, 0x06F067AA72176FBA, 0x0A637DC5A2C898A6, 0x113F9804BEF90DAE, 0x1B710B35131C471B] ++
    [0x28DB77F523047D84, 0x32CAAB7B40C72493, 0x3C9EBE0A15C9BEBC, 0x431D67C49C100D4C, 0x4CC5D4BECB3E42B6, 0x597F299CFC657E2A, 0x5FCB6FAB3AD6FAEC, 0x6C44198C4A475817]

/-- The parameters that tell SHA-256 and SHA-512 apart: word bits, block bytes, rotation amounts, round constants and
initial state. -/
structure ShaParam where
  w : Nat
  blk : Nat
  s0 : Nat × Nat × Nat
  s1 : Nat × Nat × Nat
  b0 : Nat × Nat × Nat
  b1 : Nat × Nat × Nat
  k : List Nat
  h : List Nat
  out : Nat

/-- SHA-256. -/
def sha256P : ShaParam :=
  ⟨32, 64, (7, 18, 3), (17, 19, 10), (2, 13, 22), (6, 11, 25), sha256K,
    [0x6A09E667, 0xBB67AE85, 0x3C6EF372, 0xA54FF53A, 0x510E527F, 0x9B05688C, 0x1F83D9AB, 0x5BE0CD19], 32⟩

/-- SHA-512. -/
def sha512P : ShaParam :=
  ⟨64, 128, (1, 8, 7), (19, 61, 6), (28, 34, 39), (14, 18, 41), sha512K,
    [0x6A09E667F3BCC908, 0xBB67AE8584CAA73B, 0x3C6EF372FE94F82B, 0xA54FF53A5F1D36F1, 0x510E527FADE682D1, 0x9B05688C2B3E6C1F, 0x1F83D9ABFB41BD6B, 0x5BE0CD19137E2179], 64⟩

/-- Rotate a `w`-bit number right. -/
def rotrW (w x n : Nat) : Nat := (x / 2 ^ n) + (x % 2 ^ n) * 2 ^ (w - n)

/-- A small sigma: two rotations and a shift. -/
def shaSmall (w : Nat) (c : Nat × Nat × Nat) (x : Nat) : Nat := (rotrW w x c.1).xor ((rotrW w x c.2.1).xor (x / 2 ^ c.2.2))

/-- A big sigma: three rotations. -/
def shaBig (w : Nat) (c : Nat × Nat × Nat) (x : Nat) : Nat := (rotrW w x c.1).xor ((rotrW w x c.2.1).xor (rotrW w x c.2.2))

/-- Extend the message schedule by `n` words; the list is held newest first. -/
def shaSchedule (p : ShaParam) : Nat → List Nat → List Nat
  | 0, ws => ws
  | n + 1, ws =>
    let x := (shaSmall p.w p.s1 (ws.getD 1 0) + ws.getD 6 0 + shaSmall p.w p.s0 (ws.getD 14 0) + ws.getD 15 0) % 2 ^ p.w
    shaSchedule p n (x :: ws)

/-- One round on the eight working words. -/
def shaRound (p : ShaParam) (v : List Nat) (kw : Nat × Nat) : List Nat :=
  match v with
  | [a, b, c, d, e, f, g, h] =>
    let ch := (e.land f).xor ((2 ^ p.w - 1 - e).land g)
    let t1 := h + shaBig p.w p.b1 e + ch + kw.1 + kw.2
    let maj := (a.land b).xor ((a.land c).xor (b.land c))
    let t2 := shaBig p.w p.b0 a + maj
    [(t1 + t2) % 2 ^ p.w, a, b, c, (d + t1) % 2 ^ p.w, e, f, g]
  | v => v

/-- The `n` big-endian words of a block. -/
def shaWords (bytes : Nat) : Nat → List Byte → List Nat
  | 0, _ => []
  | n + 1, l => beNat (l.take bytes) :: shaWords bytes n (l.drop bytes)

/-- Fold one block into the state. -/
def shaBlock (p : ShaParam) (h : List Nat) (blk : List Byte) : List Nat :=
  let ws := (shaSchedule p (p.k.length - 16) (shaWords (p.w / 8) 16 blk).reverse).reverse
  let v := (p.k.zip ws).foldl (shaRound p) h
  (h.zip v).map (fun x => (x.1 + x.2) % 2 ^ p.w)

/-- Fold `n` blocks into the state. -/
def shaBlocks (p : ShaParam) : Nat → List Byte → List Nat → List Nat
  | 0, _, h => h
  | n + 1, l, h => shaBlocks p n (l.drop p.blk) (shaBlock p h (l.take p.blk))

/-- The padded message: 0x80, zeros, and the bit length in the last eighth of a block. -/
def shaPad (p : ShaParam) (m : List Byte) : List Byte :=
  let lenB := p.blk / 8
  let z := (p.blk - (m.length + 1 + lenB) % p.blk) % p.blk
  m ++ [0x80] ++ List.replicate z 0 ++ natBe lenB (m.length * 8)

/-- The hash of a message. -/
def sha (p : ShaParam) (m : List Byte) : List Byte :=
  let q := shaPad p m
  (shaBlocks p (q.length / p.blk) q p.h).flatMap (natBe (p.w / 8))

/-- SHA-256. -/
def sha256 (m : List Byte) : List Byte := sha sha256P m

/-- SHA-512. -/
def sha512 (m : List Byte) : List Byte := sha sha512P m

/-- HMAC over a hash. -/
def hmac (p : ShaParam) (key m : List Byte) : List Byte :=
  let k0 := if key.length > p.blk then sha p key else key
  let k := k0 ++ List.replicate (p.blk - k0.length) 0
  sha p (k.map (fun b => b ^^^ 0x5C) ++ sha p (k.map (fun b => b ^^^ 0x36) ++ m))

/-- The output blocks of HKDF-Expand (RFC 5869), at most `n` of them. -/
def hkdfBlocks (p : ShaParam) (prk info : List Byte) : Nat → Nat → List Byte → List Byte
  | 0, _, _ => []
  | n + 1, i, t =>
    let b := hmac p prk (t ++ info ++ [BitVec.ofNat 8 i])
    b ++ hkdfBlocks p prk info n (i + 1) b

/-- HKDF-SHA-512 (RFC 5869). -/
def hkdf512 (ikm salt info : List Byte) (len : Nat) : List Byte :=
  let s := if salt.isEmpty then List.replicate 64 (0 : Byte) else salt
  let prk := hmac sha512P s ikm
  (hkdfBlocks sha512P prk info ((len + 63) / 64) 1 []).take len

/-- The prime of P-521. -/
def p521P : Nat := 2 ^ 521 - 1

/-- The order of P-521. -/
def p521N : Nat := 0x01FFFFFFFFFFFFFFFFFFFFFFFFFFFFFFFFFFFFFFFFFFFFFFFFFFFFFFFFFFFFFFFFFA51868783BF2F966B7FCC0148F709A5D03BB5C9B8899C47AEBB6FB71E91386409

/-- The coefficient b of P-521. -/
def p521B : Nat := 0x0051953EB9618E1C9A1F929A21A0B68540EEA2DA725B99B315F3B8B489918EF109E156193951EC7E937B1652C0BD3BB1BF073573DF883D2C34F1EF451FD46B503F00

/-- The base point of P-521. -/
def p521G : Nat × Nat :=
  (0x00C6858E06B70404E9CD9E3ECB662395B4429C648139053FB521F828AF606B4D3DBAA14B5E77EFE75928FE1DC127A2FFA8DE3348B3C1856A429BF97E7E31C2E5BD66,
   0x011839296A789A3BC0045C8A5FB42C7D1BD998F54449579B446817AFBD17273E662C97EE72995EF42640C550B9013FAD0761353C7086A272C24088BE94769FD16650)

/-- Power modulo `m` by squaring, over `n` exponent bits. -/
def powMod (m : Nat) : Nat → Nat → Nat → Nat
  | 0, _, _ => 1 % m
  | n + 1, b, e =>
    let r := powMod m n (b * b % m) (e / 2)
    if e % 2 = 1 then r * b % m else r

/-- The inverse modulo a prime. -/
def invMod (m x : Nat) : Nat := powMod m 521 (x % m) (m - 2)

/-- Point addition on P-521; `none` is the point at infinity. -/
def p521Add (a b : Option (Nat × Nat)) : Option (Nat × Nat) :=
  match a, b with
  | none, b => b
  | a, none => a
  | some (x1, y1), some (x2, y2) =>
    if x1 = x2 ∧ (y1 + y2) % p521P = 0 then none
    else
      let l := if x1 = x2 then (3 * x1 * x1 + (p521P - 3)) * invMod p521P (2 * y1) % p521P
               else (y2 + p521P - y1) * invMod p521P (x2 + p521P - x1) % p521P
      let x3 := (l * l + 2 * p521P - x1 - x2) % p521P
      some (x3, (l * (x1 + p521P - x3) + p521P - y1) % p521P)

/-- Scalar multiplication over `n` bits. -/
def p521Mul : Nat → Nat → Option (Nat × Nat) → Option (Nat × Nat)
  | 0, _, _ => none
  | n + 1, k, q =>
    let r := p521Mul n (k / 2) (p521Add q q)
    if k % 2 = 1 then p521Add r q else r

/-- The 521 leftmost bits of a SHA-512 digest are all of it. -/
def digestNat (m : List Byte) : Nat := beNat (sha512 m)

/-- ECDSA verification on P-521 with SHA-512 (FIPS 186-5), with r and s in 1 to n − 1 (R396). -/
def ecdsaVerify (pub : Nat × Nat) (m : List Byte) (r s : Nat) : Bool :=
  if r = 0 ∨ p521N ≤ r ∨ s = 0 ∨ p521N ≤ s then false
  else
    let w := invMod p521N s
    let u1 := digestNat m * w % p521N
    let u2 := r * w % p521N
    match p521Add (p521Mul 521 u1 (some p521G)) (p521Mul 521 u2 (some pub)) with
    | none => false
    | some (x, _) => decide (x % p521N = r)

/-- An ECDSA signature with private key `d` and per-message number `k` (FIPS 186-5). -/
def ecdsaSign (d k : Nat) (m : List Byte) : Nat × Nat :=
  let kk := k % (p521N - 1) + 1
  match p521Mul 521 kk (some p521G) with
  | none => (0, 0)
  | some (x, _) =>
    let r := x % p521N
    (r, invMod p521N kk * (digestNat m + r * d) % p521N)

end Sys2Proof.Machine
end

