-- ==== Sys2Proof/Machine/Float.lean ====
section
/-!
DEFINITION. The floating-point arithmetic of R19: IEEE 754-2019 binary32 and binary64 on bit patterns, round to
nearest even, subnormals kept, canonical quiet NaNs, fused multiply-add only where an operator names it. Every
operation computes its exact result as an integer times a power of two and rounds once.
-/

namespace Sys2Proof.Machine
open Sys2Proof

/-- A binary interchange format: exponent bits and stored fraction bits. -/
structure Fmt where
  eb : Nat
  mb : Nat
  deriving DecidableEq, Repr

/-- binary32. -/
def f32 : Fmt := ⟨8, 23⟩

/-- binary64. -/
def f64 : Fmt := ⟨11, 52⟩

/-- The bit of weight of the sign. -/
def Fmt.signBit (f : Fmt) : Nat := 2 ^ (f.eb + f.mb)

/-- The pattern of +infinity. -/
def Fmt.inf (f : Fmt) : Nat := (2 ^ f.eb - 1) * 2 ^ f.mb

/-- The canonical quiet NaN: 0x7FC0_0000, 0x7FF8_0000_0000_0000 (R19). -/
def Fmt.nan (f : Fmt) : Nat := f.inf + 2 ^ (f.mb - 1)

/-- The exponent of the least significant bit of a subnormal. -/
def Fmt.emin (f : Fmt) : Int := 2 - 2 ^ (f.eb - 1) - f.mb

/-- The pattern without its sign. -/
def fMag (f : Fmt) (x : Nat) : Nat := x % f.signBit

/-- The sign of a pattern. -/
def fNeg (f : Fmt) (x : Nat) : Bool := decide (f.signBit ≤ x % (2 * f.signBit))

/-- Is the pattern a NaN? -/
def fIsNan (f : Fmt) (x : Nat) : Bool := decide (f.inf < fMag f x)

/-- Is the pattern an infinity? -/
def fIsInf (f : Fmt) (x : Nat) : Bool := decide (fMag f x = f.inf)

/-- Is the pattern a zero? -/
def fIsZero (f : Fmt) (x : Nat) : Bool := decide (fMag f x = 0)

/-- The pattern with a given sign. -/
def fSigned (f : Fmt) (neg : Bool) (mag : Nat) : Nat := if neg then mag + f.signBit else mag

/-- The significand of a finite pattern: its value is the significand times 2 to `fExp`. -/
def fMant (f : Fmt) (x : Nat) : Nat :=
  let e := fMag f x / 2 ^ f.mb
  if e = 0 then fMag f x else fMag f x % 2 ^ f.mb + 2 ^ f.mb

/-- The exponent that goes with `fMant`. -/
def fExp (f : Fmt) (x : Nat) : Int :=
  let e := fMag f x / 2 ^ f.mb
  if e = 0 then f.emin else f.emin + (e : Int) - 1

/-- Round `m * 2 ^ e` to nearest even and pack it with a sign. -/
def fRound (f : Fmt) (neg : Bool) (m : Nat) (e : Int) : Nat :=
  if m = 0 then fSigned f neg 0
  else
    let e' := max (e + (Nat.log2 m : Int) - f.mb) f.emin
    let s := e' - e
    let q :=
      if s ≤ 0 then m * 2 ^ (-s).toNat
      else
        let d := 2 ^ s.toNat
        let q := m / d
        let r := m % d
        if d < 2 * r ∨ (2 * r = d ∧ q % 2 = 1) then q + 1 else q
    let bits := (e' - f.emin).toNat * 2 ^ f.mb + q
    fSigned f neg (min bits f.inf)

/-- Round a signed integer times a power of two; an exact zero takes the sign `zneg`. -/
def fRoundInt (f : Fmt) (zneg : Bool) (v : Int) (e : Int) : Nat :=
  if v = 0 then fSigned f zneg 0 else fRound f (decide (v < 0)) v.natAbs e

/-- The signed significand of a finite pattern. -/
def fSMant (f : Fmt) (x : Nat) : Int := if fNeg f x then -(fMant f x : Int) else (fMant f x : Int)

/-- Exact sum of `a * 2 ^ ea` and `b * 2 ^ eb`, as a significand at the smaller exponent. -/
def sumAt (a : Int) (ea : Int) (b : Int) (eb : Int) : Int × Int :=
  let e := min ea eb
  (a * 2 ^ (ea - e).toNat + b * 2 ^ (eb - e).toNat, e)

/-- Addition. -/
def fAdd (f : Fmt) (x y : Nat) : Nat :=
  if fIsNan f x || fIsNan f y then f.nan
  else if fIsInf f x then (if fIsInf f y && (fNeg f x != fNeg f y) then f.nan else fSigned f (fNeg f x) f.inf)
  else if fIsInf f y then fSigned f (fNeg f y) f.inf
  else
    let r := sumAt (fSMant f x) (fExp f x) (fSMant f y) (fExp f y)
    let bothNegZero := fIsZero f x && fIsZero f y && fNeg f x && fNeg f y
    fRoundInt f bothNegZero r.1 r.2

/-- Negation of a pattern (a NaN stays canonical). -/
def fNegate (f : Fmt) (x : Nat) : Nat := if fIsNan f x then f.nan else fSigned f (!fNeg f x) (fMag f x)

/-- Absolute value (a NaN stays canonical). -/
def fAbs (f : Fmt) (x : Nat) : Nat := if fIsNan f x then f.nan else fMag f x

/-- Subtraction. -/
def fSub (f : Fmt) (x y : Nat) : Nat := fAdd f x (fNegate f y)

/-- Multiplication. -/
def fMul (f : Fmt) (x y : Nat) : Nat :=
  let n := fNeg f x != fNeg f y
  if fIsNan f x || fIsNan f y then f.nan
  else if fIsInf f x || fIsInf f y then (if fIsZero f x || fIsZero f y then f.nan else fSigned f n f.inf)
  else fRound f n (fMant f x * fMant f y) (fExp f x + fExp f y)

/-- Division: the quotient to enough bits, its lowest bit sticky. -/
def fDiv (f : Fmt) (x y : Nat) : Nat :=
  let n := fNeg f x != fNeg f y
  if fIsNan f x || fIsNan f y then f.nan
  else if fIsInf f x then (if fIsInf f y then f.nan else fSigned f n f.inf)
  else if fIsInf f y then fSigned f n 0
  else if fIsZero f y then (if fIsZero f x then f.nan else fSigned f n f.inf)
  else
    let k := 2 * f.mb + 6
    let a := fMant f x * 2 ^ k
    let q := a / fMant f y
    let st := if a % fMant f y = 0 then 0 else 1
    fRound f n (2 * q + st) (fExp f x - fExp f y - k - 1)

/-- Fused multiply-add: x * y + z with one rounding. -/
def fFma (f : Fmt) (x y z : Nat) : Nat :=
  let n := fNeg f x != fNeg f y
  if fIsNan f x || fIsNan f y || fIsNan f z then f.nan
  else if fIsInf f x || fIsInf f y then
    if fIsZero f x || fIsZero f y then f.nan
    else if fIsInf f z && (fNeg f z != n) then f.nan
    else fSigned f n f.inf
  else if fIsInf f z then fSigned f (fNeg f z) f.inf
  else
    let r := sumAt (fSMant f x * fSMant f y) (fExp f x + fExp f y) (fSMant f z) (fExp f z)
    let prodZero := fIsZero f x || fIsZero f y
    fRoundInt f (prodZero && n && fIsZero f z && fNeg f z) r.1 r.2

/-- Integer square root by one result bit a step, from bit `n` down. -/
def isqrtGo (v : Nat) : Nat → Nat → Nat
  | 0, r => if (r + 1) * (r + 1) ≤ v then r + 1 else r
  | n + 1, r =>
    let c := r + 2 ^ (n + 1)
    isqrtGo v n (if c * c ≤ v then c else r)

/-- Integer square root. -/
def isqrt (v : Nat) : Nat := isqrtGo v (Nat.log2 v / 2 + 1) 0

/-- Square root: an even exponent, enough bits, a sticky last bit. -/
def fSqrt (f : Fmt) (x : Nat) : Nat :=
  if fIsNan f x then f.nan
  else if fIsZero f x then fSigned f (fNeg f x) 0
  else if fNeg f x then f.nan
  else if fIsInf f x then f.inf
  else
    let k := 2 * f.mb + 8
    let odd := (fExp f x - k) % 2
    let m := fMant f x * 2 ^ k * (if odd = 0 then 1 else 2)
    let e := (fExp f x - k) - odd
    let r := isqrt m
    let st := if r * r = m then 0 else 1
    fRound f false (2 * r + st) (e / 2 - 1)

/-- The value of an integer. -/
def fOfInt (f : Fmt) (v : Int) : Nat := fRoundInt f false v 0

/-- An integer times a power of two, rounded. -/
def fOfScaled (f : Fmt) (v : Int) (e : Int) : Nat := fRoundInt f false v e

/-- Conversion between formats. -/
def fConv (f g : Fmt) (x : Nat) : Nat :=
  if fIsNan f x then g.nan
  else if fIsInf f x then fSigned g (fNeg f x) g.inf
  else fRound g (fNeg f x) (fMant f x) (fExp f x)

/-- The ordering key of a non-NaN pattern: the two zeros are equal. -/
def fKey (f : Fmt) (x : Nat) : Int := if fNeg f x then -(fMag f x : Int) else (fMag f x : Int)

/-- x < y; false when either is a NaN. -/
def fLt (f : Fmt) (x y : Nat) : Bool := !fIsNan f x && !fIsNan f y && decide (fKey f x < fKey f y)

/-- x ≤ y; false when either is a NaN. -/
def fLe (f : Fmt) (x y : Nat) : Bool := !fIsNan f x && !fIsNan f y && decide (fKey f x ≤ fKey f y)

/-- x = y; false when either is a NaN. -/
def fEq (f : Fmt) (x y : Nat) : Bool := !fIsNan f x && !fIsNan f y && decide (fKey f x = fKey f y)

/-- x > y. -/
def fGt (f : Fmt) (x y : Nat) : Bool := fLt f y x

/-- x ≥ y. -/
def fGe (f : Fmt) (x y : Nat) : Bool := fLe f y x

/-- The integer part of a finite value that is not negative. -/
def fFloor (f : Fmt) (x : Nat) : Nat :=
  let e := fExp f x
  if 0 ≤ e then fMant f x * 2 ^ e.toNat else fMant f x / 2 ^ (-e).toNat

/-- The exact value of a finite pattern rounded to an integer, ties to even. -/
def fToInt (f : Fmt) (x : Nat) : Int :=
  let e := fExp f x
  if 0 ≤ e then fSMant f x * 2 ^ e.toNat
  else
    let d := 2 ^ (-e).toNat
    let q := fMant f x / d
    let r := fMant f x % d
    let a : Nat := if d < 2 * r ∨ (2 * r = d ∧ q % 2 = 1) then q + 1 else q
    if fNeg f x then -(a : Int) else (a : Int)

/-- The terms of Euler's series of the arctangent of a/b from term `n` on: each is the last by 2n/(2n+1) and a²/(a² + b²). -/
def atanTerms (a b : Nat) : Nat → Nat → Nat → Nat → Nat
  | 0, _, _, acc => acc
  | fuel + 1, n, t, acc => atanTerms a b fuel (n + 1) (t * (2 * n) * (a * a) / ((2 * n + 1) * (a * a + b * b))) (acc + t)

/-- The arctangent of a/b, at most 1, times 2 to `k`, rounded down. -/
def atanFix (a b k : Nat) : Nat :=
  let t := a * b * 2 ^ k / (a * a + b * b)
  atanTerms a b 256 1 t 0

/-- The angle of the point (b, a) with a zero or positive and b given with its sign, as a rounded pattern: 256 fraction bits of the
exact value, or 200 bits of a small one, before the one rounding. -/
def fAngle (f : Fmt) (neg : Bool) (a b : Nat) (left : Bool) : Nat :=
  if a = 0 ∧ !left then fSigned f neg 0
  else if a ≤ b ∧ !left then
    let k := 200 + Nat.log2 b - Nat.log2 a
    fRound f neg (2 * atanFix a b k + 1) (-(k : Int) - 1)
  else
    let pi := 4 * atanFix 1 1 256
    let phi := if a ≤ b then atanFix a b 256 else pi / 2 - atanFix b a 256
    fRound f neg (2 * (if left then pi - phi else phi) + 1) (-257)

/-- The angle atan2(y, x) in (−π, π], rounded once. -/
def fAtan2 (f : Fmt) (y x : Nat) : Nat :=
  let neg := fNeg f y
  let left := fNeg f x
  if fIsNan f x || fIsNan f y then f.nan
  else if fIsInf f y then fAngle f neg 1 (if fIsInf f x then 1 else 0) left
  else if fIsInf f x then fAngle f neg 0 1 left
  else
    let e := min (fExp f y) (fExp f x)
    fAngle f neg (fMant f y * 2 ^ (fExp f y - e).toNat) (fMant f x * 2 ^ (fExp f x - e).toNat) left

end Sys2Proof.Machine
end

