-- ==== Sys2Proof/Machine/Owners.lean ====
section
/-!
DEFINITION. Owners of units ("Virtual instances"): which instance owns a unit, what memory it may reach (R340, R341),
the dirty-page log (R359, R360) and the vectors (R355 to R357). Owner 64 is the manager.
-/

namespace Sys2Proof.Machine
open Sys2Proof

/-- The address of instance n's active descriptor. -/
def insDesc (l : Lane) (n : Nat) : Nat := winAddr (.ins l) .insDescAct (64 * n)

/-- Is a descriptor VALID? -/
def State.insValid (s : State) (l : Lane) (n : Nat) : Bool := decide (s.ent (insDesc l n) E.T15_1_VALID = 1)

/-- The first instance 0 to 63 whose valid descriptor satisfies a test, or the manager, 64. -/
def State.ownerBy (s : State) (l : Lane) (f : Nat → Bool) : Nat :=
  match (List.range 64).find? (fun n => s.insValid l n && f (insDesc l n)) with
  | some n => n
  | none => 64

/-- The owner of a Scribe engine. -/
def State.ownerScribe (s : State) (l : Lane) (k : Nat) : Nat := s.ownerBy l (fun a => bitAt (s.ent a E.T15_1_SCRIBE_MASK) k)

/-- The owner of a filter engine. -/
def State.ownerFlt (s : State) (l : Lane) (e : Nat) : Nat := s.ownerBy l (fun a => bitAt (s.ent a E.T15_1_FLT_MASK) e)

/-- The owner of a check-value unit. -/
def State.ownerChk (s : State) (l : Lane) (u : Nat) : Nat := s.ownerBy l (fun a => bitAt (s.ent a E.T15_1_CHK_MASK) u)

/-- The owner of the lane's recorder. -/
def State.ownerDrc (s : State) (l : Lane) : Nat := s.ownerBy l (fun a => decide (s.ent a E.T15_1_DRC = 1))

/-- The owner of a field-bus object, by its device-wide number. -/
def State.ownerFbo (s : State) (l : Lane) (d : Nat) : Nat :=
  s.ownerBy l (fun a => decide (s.ent a E.T15_1_FBO_FIRST ≤ d ∧ d < s.ent a E.T15_1_FBO_FIRST + s.ent a E.T15_1_FBO_COUNT))

/-- The owner of a publication. -/
def State.ownerPub (s : State) (l : Lane) (n : Nat) : Nat :=
  s.ownerBy l (fun a => decide (s.ent a E.T15_1_PUB_FIRST ≤ n ∧ n < s.ent a E.T15_1_PUB_FIRST + s.ent a E.T15_1_PUB_COUNT))

/-- The state of instance n (Table 15.4). -/
def State.insState (s : State) (l : Lane) (n : Nat) : Nat := s.fld (.insPage l n) F.INS_STATE_STATE

/-- May an owner reach a byte of lane memory, for writing or reading (R341)? The manager may reach all of it. -/
def State.mayReach (s : State) (l : Lane) (o : Nat) (wr : Bool) (a : Nat) : Bool :=
  if o = 64 then decide (a < laneMemSize)
  else
    let d := insDesc l o
    (List.range (s.ent d E.T15_1_MW_COUNT)).any (fun i =>
      let w := winAddr (.ins l) .insMwAct (16 * (s.ent d E.T15_1_MW_FIRST + i))
      decide (s.ent w E.T15_2_VALID = 1) && decide (s.ent w E.T15_2_OWNER = o) &&
        decide (s.ent w E.T15_2_BASE ≤ a ∧ a < s.ent w E.T15_2_BASE + 4096 * s.ent w E.T15_2_PAGES) &&
        (!wr || decide (s.ent w E.T15_2_W = 1)))

/-- May an owner reach a whole range: tested at its pages, which a window holds whole or not at all. -/
def State.mayReachRange (s : State) (l : Lane) (o : Nat) (wr : Bool) (a n : Nat) : Bool :=
  if n = 0 then true
  else (List.range ((a + n - 1) / 4096 + 1 - a / 4096)).all (fun i => s.mayReach l o wr (max a ((a / 4096 + i) * 4096)))

/-- Count REFUSED of an owner. -/
def State.refused (s : State) (l : Lane) (o : Nat) : State := s.bump (.insPage l o) F.INS_OCNT_COUNT 0

/-- Count items cancelled by ABORT. -/
def State.aborted (s : State) (l : Lane) (n k : Nat) : State := s.bump (.insPage l n) F.INS_OCNT_COUNT 4 k

/-- Count a settle overrun of a lane and raise its event (R27). -/
def State.settleOvr (s : State) (l : Lane) : State :=
  s.bumpEv (.lane l) (.lcfg l) F.CFG_SETTLE_OVR_COUNT 0 bkCFG 0 0

/-- The valid window with LOG = 1 that holds a page, if any: its owner. -/
def State.loggedOwner (s : State) (l : Lane) (page : Nat) : Option Nat :=
  let hit := fun (w : Nat) =>
    decide (s.ent w E.T15_2_VALID = 1) && decide (s.ent w E.T15_2_LOG = 1) &&
      decide (s.ent w E.T15_2_BASE / 4096 ≤ page ∧ page < s.ent w E.T15_2_BASE / 4096 + s.ent w E.T15_2_PAGES)
  let ws := ((s.range (winAddr (.ins l) .insMwAct 0) 0x4000).map (fun e => e.1 / 16)).dedup
  (ws.map (fun i => winAddr (.ins l) .insMwAct (16 * i))).find? hit |>.map (fun w => s.ent w E.T15_2_OWNER)

/-- Log one written page (R359, R360): its bit is set, and an entry is appended when the bit was 0 or clearing runs. -/
def State.dirtyPage (s : State) (l : Lane) (init : Nat) (page : Nat) : State :=
  match s.loggedOwner l page with
  | none => s
  | some o =>
    let pg : Page := .ins l
    let bmap := s.pairReg pg .INS_DIRTY_MAP_LO .INS_DIRTY_MAP_HI
    let byte := s.memN l (bmap + page / 8) 1
    let was := bitAt byte (page % 8)
    let s := s.setMemN l (bmap + page / 8) 1 (bitsPut byte (page % 8) (page % 8) 1)
    if was && !s.bit pg F.INS_DIRTY_CTL_CLEARING then s
    else
      let size := 2 ^ s.fld pg F.INS_DIRTY_CTL_SIZE_LOG2
      let h := s.fld pg F.INS_DIRTY_HEAD_INDEX
      let h' := (h + 1) % size
      if h' = s.fld pg F.INS_DIRTY_TAIL_INDEX then
        let s := s.bump pg F.INS_DIRTY_LOST_COUNT
        s.setBit pg F.INS_DIRTY_CTL_OVERFLOW
      else
        let e := page % 2 ^ 36 + o * 2 ^ 36 + init * 2 ^ 43 + (s.fld pg F.INS_DIRTY_EPOCH_EPOCH % 2 ^ 16) * 2 ^ 48
        let s := s.setMemN l (s.pairReg pg .INS_DIRTY_RING_LO .INS_DIRTY_RING_HI + 8 * h) 8 e
        s.setFld pg F.INS_DIRTY_HEAD_INDEX h'

/-- Log the pages of a write (R359). -/
def State.dirty (s : State) (l : Lane) (init : Nat) (a n : Nat) : State :=
  if n = 0 || !s.bit (.ins l) F.INS_DIRTY_CTL_EN then s
  else (List.range ((a + n - 1) / 4096 + 1 - a / 4096)).foldl (fun s i => s.dirtyPage l init (a / 4096 + i)) s

/-- Write bytes of a lane's memory and log the pages. INIT: 0 core, 1 map, 2 recorder, 3 steward, 4 plane, 5 other. -/
def State.memWLog (s : State) (l : Lane) (init : Nat) (a : Nat) (b : List Byte) : State :=
  (s.memW l a b).dirty l init a b.length

/-- The parts of a range in one page each. -/
def pageParts (a n : Nat) : List (Nat × Nat) :=
  if n = 0 then []
  else (List.range ((a + n - 1) / 4096 + 1 - a / 4096)).map (fun i =>
    let p := max a ((a / 4096 + i) * 4096)
    (p, min (a + n) ((a / 4096 + i + 1) * 4096) - p))

/-- A unit writes bytes of lane memory on behalf of an owner: the bytes the owner may not reach are not accessed and the refusal
is counted (R341), and an instance that is ABSENT, STOPPED or QUIESCED receives no write (R358). -/
def State.memWOwn (s : State) (l : Lane) (o init a : Nat) (b : List Byte) : State :=
  if o < 64 ∧ (s.insState l o = 0 ∨ s.insState l o = 1 ∨ s.insState l o = 4) then s
  else
    let ok := fun (p : Nat × Nat) => s.mayReach l o true p.1
    let parts := pageParts a b.length
    let s' := (parts.filter ok).foldl (fun (s : State) p => s.memWLog l init p.1 ((b.drop (p.1 - a)).take p.2)) s
    if parts.all ok then s' else s'.refused l o

/-- INS_VINT_SUM of a lane follows the pending, enabled and mask bits of an owner (R356). -/
def State.vintSum (s : State) (l : Lane) (o : Nat) : State :=
  let pg : Page := .insPage l o
  let any := (List.range 8).any (fun k => decide ((s.rd pg .INS_VINT_PEND k).toNat.land (s.rd pg .INS_VINT_EN k).toNat ≠ 0)) &&
    !s.bit pg F.INS_VINT_ROUTE_MASK
  let r : RegId := if o < 32 then .INS_VINT_SUM_LO else if o < 64 then .INS_VINT_SUM_HI else .INS_VINT_SUM_MGR
  let b := o % 32
  s.wr (.ins l) r 0 (BitVec.ofNat 32 (bitsPut (s.rd (.ins l) r).toNat b b (b2n any)))

/-- Is the interrupt of an application core asserted: an owner routed to it has its SUM bit set (R356)? -/
def State.coreIrq (s : State) (l : Lane) (core : Nat) : Bool :=
  (List.range 65).any (fun o =>
    let r : RegId := if o < 32 then .INS_VINT_SUM_LO else if o < 64 then .INS_VINT_SUM_HI else .INS_VINT_SUM_MGR
    bitAt (s.rd (.ins l) r).toNat (o % 32) && decide (s.fld (.insPage l o) F.INS_VINT_ROUTE_CORE = core))

/-- Raise a vector at an owner (R355); while the owner is RESETTING it is discarded and counted (R357). -/
def State.vector (s : State) (l : Lane) (o v : Nat) : State :=
  if o < 64 ∧ s.insState l o = 6 then s.bump (.insPage l o) F.INS_OCNT_COUNT 2
  else
    let pg : Page := .insPage l o
    let w := (s.rd pg .INS_VINT_PEND (v / 32)).toNat
    (s.wr pg .INS_VINT_PEND (v / 32) (BitVec.ofNat 32 (bitsPut w (v % 32) (v % 32) 1))).vintSum l o

/-- Raise a manager vector in every lane that is UP. -/
def State.mgrVector (s : State) (v : Nat) : State := s.upLanes.foldl (fun s l => s.vector l 64 v) s

end Sys2Proof.Machine
end

