-- ==== Sys2Proof/Machine/Mailbox.lean ====
section
/-!
DEFINITION. The mailbox: submission, the channel and lifecycle gates, completion (R58 to R61, R64), and what commands
read and write in lane memory.
-/

namespace Sys2Proof.Machine
open Sys2Proof

/-- Status codes (Table 2.12). -/
def stOK : Nat := 0x00
def stBADCMD : Nat := 0x01
def stBADARG : Nat := 0x02
def stBUSY : Nat := 0x03
def stSTATE : Nat := 0x04
def stSIGNATURE : Nat := 0x05
def stDIGEST : Nat := 0x06
def stFORMAT : Nat := 0x07
def stROLLBACK : Nat := 0x08
def stDEPEND : Nat := 0x09
def stCAPACITY : Nat := 0x0A
def stFLASH : Nat := 0x0B
def stMISMATCH : Nat := 0x0C
def stDIVERGE : Nat := 0x0D
def stTIMEOUT : Nat := 0x0E
def stCANCELLED : Nat := 0x0F
def stSTALE : Nat := 0x10
def stDENIED : Nat := 0x11
def stNOLANE : Nat := 0x12
def stPART : Nat := 0x13

/-- What a command does: the state after it, its status, its results, and whether it waits before it may complete. -/
structure CmdOut where
  st : State
  code : Nat
  res : List Nat
  wait : Bool

/-- A command that ends with a status and no results. -/
def cmdCode (s : State) (c : Nat) : CmdOut := ⟨s, c, [], false⟩

/-- A command that ends OK with results. -/
def cmdOk (s : State) (r : List Nat) : CmdOut := ⟨s, stOK, r, false⟩

/-- The running command of a channel. -/
def State.mbox (s : State) (ch : Nat) : Option MbRun := if ch = 0 then s.com.mb0 else s.com.mb1

/-- Store the running command of a channel. -/
def State.setMbox (s : State) (ch : Nat) (m : Option MbRun) : State :=
  if ch = 0 then { s with com := { s.com with mb0 := m } } else { s with com := { s.com with mb1 := m } }

/-- The read commands that channel 1 accepts in OPERATIONAL (R60). -/
def readOps : List Nat := [0x01, 0x02, 0x30, 0x60, 0x6C, 0x40, 0x4B, 0x50, 0x58]

/-- The shared resource a command uses: 1 the loader and flash (R60), 2 the vault commands that list BUSY, 0 none.
DESIGN CHOICE: LANE_CONVERGE, DUMP_READ and DUMP_CLEAR, whose rows list no BUSY, are in the first (log entry 72). -/
def opResource (op : Nat) : Nat :=
  if op ∈ [0x10, 0x11, 0x12, 0x13, 0x14, 0x20, 0x21, 0x22, 0x23, 0x24, 0x25, 0x30, 0x31] then 1
  else if op ∈ [0x41, 0x44, 0x48, 0x49, 0x4A, 0x51, 0x52, 0x5C, 0x60, 0x61, 0x62] then 2
  else 0

/-- A running command completes: results, TAG and CODE, DONE, BUSY cleared, and the manager's interrupt (R58). -/
def State.mboxFinish (s : State) (ch : Nat) : State :=
  match s.mbox ch with
  | none => s
  | some m =>
    let pg : Page := .stw ch
    let s := (List.range 16).foldl (fun s i => s.wr pg .STW_RES i (BitVec.ofNat 32 (m.res.getD i 0))) s
    let s := s.setFld pg F.STW_STATUS_TAG m.tag
    let s := s.setFld pg F.STW_STATUS_CODE m.code
    let s := s.setFld pg F.STW_STATUS_DONE 1
    let s := s.setFld pg F.STW_STATUS_BUSY 0
    let s := s.setMbox ch none
    if s.bit pg F.STW_INT_EN_DONE_IE then s.mgrVector 48 else s

/-- GO on a channel whose STW_CMD and STW_ARGn hold a command (R58): OVERRUN while BUSY; otherwise the words are
latched, the gates of R60 are applied, and the command runs. Nothing happens while Common or the steward is not there. -/
def mboxGo (ch : Nat) (f : List Nat → State → CmdOut) (s : State) : State :=
  if !s.up .common || !s.com.steward then s
  else
    let pg : Page := .stw ch
    if s.bit pg F.STW_STATUS_BUSY then s.setBit pg F.STW_STATUS_OVERRUN
    else
      let op := s.fld pg F.STW_CMD_OPCODE
      let tag := s.fld pg F.STW_CMD_TAG
      let args := (List.range 16).map (fun i => (s.rd pg .STW_ARG i).toNat)
      let s := s.setFld pg F.STW_STATUS_BUSY 1
      let s := s.wr pg .STW_PROGRESS 0 0
      let denied := decide (ch = 1) && decide (s.lifecycle = 2) && !readOps.contains op
      let busy := match s.mbox (1 - ch) with
        | some m => decide (opResource op ≠ 0 ∧ opResource m.op = opResource op)
        | none => false
      if denied then s.setMbox ch (some ⟨op, tag, args, stDENIED, [], false⟩)
      else if busy then (s.setMbox ch (some ⟨op, tag, args, stBUSY, [], false⟩)).mboxFinish ch
      else
        let r := f args s
        r.st.setMbox ch (some ⟨op, tag, args, r.code, r.res, r.wait⟩)

/-- A mailbox row: the caller writes STW_CMD and STW_ARGn and then GO. -/
def mboxIssue (ch : Fin 2) (op : Nat) (tag : BitVec 16) (args : List Nat) (f : List Nat → State → CmdOut) (s : State) : State :=
  if !s.up .common then s
  else
    let pg : Page := .stw ch
    let s := s.wr pg .STW_CMD 0 (BitVec.ofNat 32 (tag.toNat * 65536 + op))
    let s := (List.range 16).foldl (fun s i => s.wr pg .STW_ARG i (BitVec.ofNat 32 (args.getD i 0))) s
    mboxGo ch f s

/-- The two argument words of an address. -/
def addrArgs (a : BitVec 64) : List Nat := [a.toNat % 2 ^ 32, a.toNat / 2 ^ 32]

/-- An address from two argument words. -/
def argAddr (args : List Nat) (i : Nat) : Nat := args.getD i 0 + 2 ^ 32 * args.getD (i + 1) 0

/-- Read a range of lane memory from every UP lane and compare (R61): the bytes, or NOLANE or MISMATCH. -/
def readLanes (s : State) (a n : Nat) : Except Nat (List Byte) :=
  match s.upLanes with
  | [] => .error stNOLANE
  | [l] => .ok (s.mem l a n)
  | _ =>
    let b := s.mem .l0 a n
    if b = s.mem .l1 a n then .ok b else .error stMISMATCH

/-- Write bytes to every UP lane (R61). -/
def State.writeLanes (s : State) (a : Nat) (b : List Byte) : State :=
  s.upLanes.foldl (fun s l => s.memWLog l 3 a b) s

/-- Is a range inside lane memory? -/
def inLaneMem (a n : Nat) : Bool := decide (a + n ≤ laneMemSize)

/-- The words of a byte list, four bytes each. -/
def wordsOf (b : List Byte) (n : Nat) : List Nat := (List.range n).map (fun i => leNat ((b.drop (4 * i)).take 4))

end Sys2Proof.Machine
end

