-- ==== Sys2Proof/Machine/Map.lean ====
section
/-!
DEFINITION. The signal map: points and ranges (R238 to R240), effective time, the horizon and the pending queue (R241 to
R243), notices (R283), snapshots (R244), and the queueing of field-bus transmit objects, which the horizon causes (R370).
-/

namespace Sys2Proof.Machine
open Sys2Proof

/-! Field-bus transmit objects. -/

/-- The active descriptor of message object d. -/
def fboDesc (l : Lane) (d : Nat) : Nat := winAddr (.fbs l) .fbsDescAct (32 * d)

/-- The state record of message object d. -/
def fboRec (l : Lane) (d : Nat) : Nat := winAddr (.fbs l) .fbsObjState (32 * d)

/-- The 64-byte buffer of message object d. -/
def fboBuf (l : Lane) (d : Nat) : Nat := winAddr (.fbs l) .fbsObjBuf (64 * d)

/-- Store the field bus of a lane. -/
def State.setFbs (s : State) (l : Lane) (x : FbsSt) : State := s.setLane l { s.lane l with fbs := x }

/-- The lane that holds controller c, 0 to 3. -/
def fbLane (c : Nat) : Lane := if c < 2 then .l0 else .l1

/-- Count in FBS_CNTk of a lane's controller page for controller c (R379). -/
def State.fbsCnt (s : State) (l : Lane) (c k : Nat) : State := s.bump (.fbsCtl l (c % 2)) F.FBS_CNT_COUNT k

/-- Count in FBS_CNTk and raise its event. -/
def State.fbsCntEv (s : State) (l : Lane) (c k unit : Nat) : State :=
  s.bumpEv (.lane l) (.fbsCtl l (c % 2)) F.FBS_CNT_COUNT k bkFBS 0 unit

/-- Does an owner's work run: the manager's always, an instance's while it is RUNNING (R343, R347)? -/
def State.ownerRuns (s : State) (l : Lane) (o : Nat) : Bool := decide (o = 64) || decide (s.insState l o = 2)

/-- The points an object uses (R366). -/
def State.fboPts (s : State) (l : Lane) (d : Nat) : Nat :=
  s.ent (fboDesc l d) E.T16_2_HDR_EN + (s.ent (fboDesc l d) E.T16_2_DLEN + 15) / 16

/-- Queue a transmit object with data (R370, R372): a SUSPENDED one only takes the data; one whose frame has not started
takes it and is counted; one on the bus sends it next, where it waits as a frame that has not started. -/
def State.fboQueue (s : State) (l : Lane) (d : Nat) (data : List Byte) : State :=
  let r := fboRec l d
  let x := (s.lane l).fbs
  if !s.ownerRuns l (s.ownerFbo l d) then s
  else
    match s.ent r E.T16_4_STATE with
    | 2 =>
      let s := s.setFbs l { x with next := assocPut x.next d data }
      if (assocGet x.next d).isSome then s.fbsCnt l (d / 256) 10 else s
    | 3 => s.setFbs l { x with data := assocPut x.data d data }
    | 1 => (s.setFbs l { x with data := assocPut x.data d data }).fbsCnt l (d / 256) 10
    | _ =>
      let s := s.setFbs l { x with data := assocPut x.data d data }
      let s := s.setEnt r E.T16_4_STATE 1
      s.setEnt r E.T16_4_RETRY_USED 0

/-! Points. -/

/-- Store the map of a lane. -/
def State.setMap (s : State) (l : Lane) (m : MapSt) : State := s.setLane l { s.lane l with map := m }

/-- The initial record (R239): every word 0, CODE MISSING, SRC 0. -/
def initRec : Nat := 3 * 2 ^ 224

/-- The fields of a record as a number (Table 10.1). -/
def recW (r i : Nat) : Nat := bitsOf r (32 * i + 31) (32 * i)
def recKey (r : Nat) : Nat := bitsOf r 223 128
def recCode (r : Nat) : Nat := bitsOf r 225 224
def recTest (r : Nat) : Nat := bitsOf r 226 226
def recSrc (r : Nat) : Nat := bitsOf r 230 228
def recLost (r : Nat) : Nat := bitsOf r 231 231
def recQual (r : Nat) : Nat := bitsOf r 244 232
def recUpd (r : Nat) : Nat := bitsOf r 255 245

/-- Build a record without UPD from its value words, key, code, marks, source and quality. -/
def mkRec (w key code : Nat) (test sw : Bool) (src : Nat) (lost : Bool) (qual : Nat) : Nat :=
  w % 2 ^ 128 + (key % 2 ^ 96) * 2 ^ 128 + (code % 4) * 2 ^ 224 + b2n test * 2 ^ 226 + b2n sw * 2 ^ 227 + (src % 8) * 2 ^ 228 +
    b2n lost * 2 ^ 231 + (qual % 8192) * 2 ^ 232

/-- What R251 compares of two records: all but KEY, SW and UPD. -/
def recCmp (r : Nat) : Nat := r % 2 ^ 128 + (r / 2 ^ 224 % 8) * 2 ^ 128 + (r / 2 ^ 228 % 2 ^ 17) * 2 ^ 132

/-- The active range descriptor that holds a point (R240). -/
def State.rngOf (s : State) (l : Lane) (p : Nat) : Option Nat :=
  let base := winAddr (.map l) .mapRngAct 0
  let ks := ((s.range base 0x10000).map (fun e => e.1 / 16)).dedup
  (ks.map (fun k => base + 16 * k)).find? (fun a =>
    decide (s.ent a E.T10_2_VALID = 1) && decide (s.ent a E.T10_2_FIRST ≤ p ∧ p ≤ s.ent a E.T10_2_FIRST + s.ent a E.T10_2_COUNT_M1))

/-- The address of point p. -/
def State.ptAddr (s : State) (l : Lane) (p : Nat) : Nat := s.pairReg (.map l) .MAP_BASE_LO .MAP_BASE_HI + 32 * p

/-- The settled record of a point: the initial record when nothing has been written to it (log entry 13) or no range holds
it. -/
def State.settled (s : State) (l : Lane) (p : Nat) : Nat :=
  match s.rngOf l p with
  | none => initRec
  | some _ =>
    let r := s.memN l (s.ptAddr l p) 32
    if r = 0 then initRec else r

/-- May an owner read a point (R245)? A point in no range reads as the initial record to everybody. -/
def State.mayRead (s : State) (l : Lane) (o p : Nat) : Bool :=
  match s.rngOf l p with
  | none => true
  | some a => decide (o = 64) || decide (s.ent a E.T10_2_OWNER = o) || decide (s.ent a E.T10_2_SHARED = 1)

/-- May a writer of a class and an owner write a point (R240)? -/
def State.mayWrite (s : State) (l : Lane) (cls o p : Nat) : Bool :=
  match s.rngOf l p with
  | none => false
  | some a => decide (s.ent a E.T10_2_CLASS = cls ∧ s.ent a E.T10_2_OWNER = o)

/-- Count in MAP_CNTk. -/
def State.mapCnt (s : State) (l : Lane) (k : Nat) : State := s.bump (.map l) F.MAP_CNT_COUNT k

/-- Count in MAP_CNTk and raise its event. -/
def State.mapCntEv (s : State) (l : Lane) (k unit : Nat) : State :=
  s.bumpEv (.lane l) (.map l) F.MAP_CNT_COUNT k bkMAP 0 unit

/-- HOLD as a time. -/
def State.hold (s : State) (l : Lane) : Nat := s.fld (.map l) F.MAP_CTRL_HOLD * us

/-- The horizon H (R242). -/
def State.horizon (s : State) (l : Lane) : Nat := s.laneNow l - s.hold l

/-! Application. -/

/-- Data bytes of an object from its points, as the settled map or a cut gives them. -/
def fboBytes (hdr dlen : Nat) (recs : List Nat) : List Byte :=
  ((recs.drop hdr).flatMap (fun r => natLe 16 (r % 2 ^ 128))).take dlen

/-- The record of a point as of a cut: what the last write applied with E at or before it has left (R244). -/
def State.recAt (s : State) (l : Lane) (c p : Nat) : Nat :=
  let hs := (s.lane l).map.hist.filter (fun h => decide (h.point = p))
  match (hs.filter (fun h => decide (h.e ≤ c))).getLast? with
  | some h => h.new
  | none =>
    match hs with
    | h :: _ => h.old
    | [] => s.settled l p

/-- The latest of some writes of a point with a known E at or before a time, the last issued among equals. -/
def writeAt (ws : List MapW) (p t : Nat) : Option MapW :=
  (ws.filter (fun w => decide (w.point = p) && w.e.isSome && decide (w.e.getD 0 ≤ t))).foldl (fun a w =>
    match a with
    | none => some w
    | some b => if b.e.getD 0 ≤ w.e.getD 0 then some w else a) none

/-- A write with time `e` changed a point: on-change transmit objects of the lane's own controllers that use it are queued with the
data as of that cut, which the writes of the same E that follow it belong to; a cut older than the history is taken at its edge
and counted (R244, R370). -/
def State.fboChange (s : State) (l : Lane) (p e : Nat) : State :=
  let lo := 512 * l.idx
  let ds := ((s.range (fboDesc l 0) 0x8000).map (fun e => e.1 / 32)).dedup
  let hit := ds.filter (fun d =>
    let a := fboDesc l d
    decide (lo ≤ d ∧ d < lo + 512) && decide (s.ent a E.T16_2_VALID = 1 ∧ s.ent a E.T16_2_DIR = 1 ∧ s.ent a E.T16_2_TX_MODE = 2 ∧
      s.ent a E.T16_2_MAP_EN = 1 ∧ s.ent a E.T16_2_POINT ≤ p ∧ p < s.ent a E.T16_2_POINT + s.fboPts l d))
  let lim := s.horizon l - s.hold l
  hit.foldl (fun s d =>
    let a := fboDesc l d
    let recs := (List.range (s.fboPts l d)).map (fun i =>
      let q := s.ent a E.T16_2_POINT + i
      ((writeAt (s.lane l).map.pend q e).map (fun w => w.rec_)).getD (s.recAt l (max e lim) q))
    let s := if e < lim then s.mapCntEv l 14 0 else s
    s.fboQueue l d (fboBytes (s.ent a E.T16_2_HDR_EN) (s.ent a E.T16_2_DLEN) recs)) s

/-- Apply one write (R242): the record replaces the point's, UPD counts, and the history keeps both records. -/
def State.mapApply (s : State) (l : Lane) (w : MapW) : State :=
  let e := w.e.getD 0
  let old := s.settled l w.point
  let new := w.rec_ % 2 ^ 245 + ((recUpd old + 1) % 2048) * 2 ^ 245
  let s := s.setMemN l (s.ptAddr l w.point) 32 new
  let m := (s.lane l).map
  let lim := s.horizon l - s.hold l
  let s := s.setMap l { m with hist := m.hist.filter (fun h => decide (lim < h.e)) ++ [⟨e, w.point, old, new⟩] }
  if recCmp old = recCmp new then s else s.fboChange l w.point e

/-- What the registers show of the pending queue. -/
def State.pendShow (s : State) (l : Lane) : State :=
  let n := (s.lane l).map.pend.length
  let s := s.setFld (.map l) F.MAP_PEND_DEPTH_COUNT n
  s.setFld (.map l) F.MAP_PEND_MAX_COUNT (max n (s.fld (.map l) F.MAP_PEND_MAX_COUNT))

/-- The pending write with the least known E, in issue order among equals. -/
def pendFirst (p : List MapW) : Option MapW :=
  p.foldl (fun a w =>
    match a, w.e with
    | none, some _ => some w
    | some b, some e => if e < b.e.getD 0 then some w else a
    | _, none => a) none

/-- Apply pending writes with E ≤ `c`, in ascending E (R242). -/
def State.applyUpTo (s : State) (l : Lane) (c : Nat) : Nat → State
  | 0 => s
  | fuel + 1 =>
    let m := (s.lane l).map
    match pendFirst m.pend with
    | none => s
    | some w =>
      if c < w.e.getD 0 then s
      else ((s.setMap l { m with pend := m.pend.erase w }).mapApply l w).applyUpTo l c fuel

/-- The horizon has reached where the clock says: every pending write it has passed is applied. -/
def State.mapSettle (s : State) (l : Lane) : State :=
  if !s.bit (.map l) F.MAP_CTRL_EN then s
  else (s.applyUpTo l (s.horizon l) ((s.lane l).map.pend.length + 1)).pendShow l

/-- The latest of a point's notices with E at or before a time, the last issued among equals. -/
def noteAt (ns : List (Nat × Nat)) (t : Nat) : Option (Nat × Nat) :=
  (ns.filter (fun n => decide (n.1 ≤ t))).foldl (fun a n =>
    match a with
    | none => some n
    | some b => if b.1 ≤ n.1 then some n else some b) none

/-- The recorder keeps a point's notices: the latest one at or before a time, and those after it (R323). -/
def notePrune (t : Nat) (ns : List (Nat × Nat)) : List (Nat × Nat) :=
  (noteAt ns t).toList ++ ns.filter (fun n => decide (t < n.1))

/-- A notice reaches the recorder; while it is OFF only what a later row can read is kept. -/
def State.drcNote (s : State) (l : Lane) (p e r : Nat) : State :=
  let x := (s.lane l).drc
  let ns := assocGetD x.notes p [] ++ [(e, r)]
  let ns := if s.fld (.drc l) F.DRC_STATUS_STATE = 0 then notePrune (s.horizon l - s.hold l) ns else ns
  s.setLane l { s.lane l with drc := { x with notes := assocPut x.notes p ns } }

/-- Send the notice of a committed write whose E is known (R283, R315), to publications and voters and to the recorder. -/
def State.notice (s : State) (l : Lane) (w : MapW) : State :=
  let s := s.drcNote l w.point (w.e.getD 0) w.rec_
  let m := (s.lane l).map
  s.setMap l { m with notices := m.notices ++ [⟨w.point, w.e.getD 0, w.rec_⟩] }

/-- A write whose E is known meets the horizon: a write of a quiesced instance's Speedwell firing is dropped (R347); one at
or behind the horizon is a map overrun and is applied at once (R243), or stays pending while MAP_CTRL.EN = 0 (R472); the others
stay pending. -/
def State.mapJudge (s : State) (l : Lane) (w : MapW) : State :=
  let e := w.e.getD 0
  let gq := assocGet (s.lane l).insGq w.owner
  let dropped := w.sw.isSome && (match gq with
    | some g => decide (g ≤ e)
    | none => false)
  if dropped then s.bump (.insPage l w.owner) F.INS_OCNT_COUNT 1
  else
    let s := s.notice l w
    let late := decide (e ≤ s.horizon l)
    let s :=
      if late && s.bit (.map l) F.MAP_CTRL_EN then (s.mapSettle l).mapApply l w
      else
        let m := (s.lane l).map
        s.setMap l { m with pend := m.pend ++ [w] }
    if late then s.mapCntEv l 14 w.point else s

/-- The instant of a delivered sample of a stream by its smpCnt, once its frame's timing copy is decided (R241): the newest such
sample, unless a frame that holds the smpCnt still waits for its decision. -/
def State.swInstant (s : State) (l : Lane) (sc : Nat × Nat) : Option Nat :=
  let x := assocGetD (s.lane l).strs sc.1 .empty
  let m := s.ent (winAddr (.ing l) .ingSubAct (64 * sc.1)) E.T6_2_CNT_MOD_M1 + 1
  if x.pend.any (fun f => f.copies.any (fun c => (List.range c.data.length).any (fun j => decide ((f.key + j) % m = sc.2)))) then none
  else (x.fine.find? (fun y => decide (y.cnt = sc.2))).map (fun y => y.t.toNat)

/-- Speedwell-path writes in the queue take their E once it is known and are judged then (R241, R243). -/
def State.mapResolve (s : State) (l : Lane) : State :=
  let m := (s.lane l).map
  let ready := m.pend.filter (fun w => w.e.isNone && (w.sw.bind (s.swInstant l)).isSome)
  let s := s.setMap l { m with pend := m.pend.filter (fun w => !(w.e.isNone && (w.sw.bind (s.swInstant l)).isSome)) }
  (ready.foldl (fun s w => s.mapJudge l { w with e := w.sw.bind (s.swInstant l) }) s).pendShow l

/-- Is there room for `n` writes, the map being enabled (R243, R472)? -/
def State.mapRoom (s : State) (l : Lane) (n : Nat) : Bool :=
  s.bit (.map l) F.MAP_CTRL_EN && decide ((s.lane l).map.pend.length + n ≤ 2 ^ s.fld (.map l) F.MAP_PEND_CFG_SIZE_LOG2)

/-- A writer waits: counted once (R243, R472). -/
def State.mapWait (s : State) (l : Lane) (w : Waiter) : State :=
  let m := (s.lane l).map
  if m.waits.contains w then s
  else (s.setMap l { m with waits := m.waits ++ [w] }).mapCnt l 15

/-- A writer no longer waits. -/
def State.mapGo (s : State) (l : Lane) (w : Waiter) : State :=
  let m := (s.lane l).map
  s.setMap l { m with waits := m.waits.filter (fun v => decide (v ≠ w)) }

/-- Commit one write of a writer of a class (R240, R242): refused when its point is not the writer's; a Speedwell-path write
whose E is not known yet waits for it. -/
def State.mapPost (s : State) (l : Lane) (cls : Nat) (w : MapW) : State :=
  if !s.mayWrite l cls w.owner w.point then s.mapCntEv l 13 w.point
  else
    match w.e with
    | some _ => (s.mapJudge l w).pendShow l
    | none =>
      let m := (s.lane l).map
      (s.setMap l { m with pend := m.pend ++ [w] }).mapResolve l

/-! Cuts. -/

/-- Copy points at a cut the horizon has reached; a cut older than the history is taken at its edge and counted (R244). -/
def State.snapshot (s : State) (l : Lane) (c : Nat) (pts : List Nat) : State × List Nat :=
  let s := s.mapSettle l
  let lim := s.horizon l - s.hold l
  if c < lim then
    let s := s.mapCntEv l 14 0
    (s, pts.map (s.recAt l lim))
  else (s, pts.map (s.recAt l c))

/-- May a snapshot at a cut be taken now (R244, R472)? -/
def State.snapReady (s : State) (l : Lane) (c : Nat) : Bool := s.bit (.map l) F.MAP_CTRL_EN && decide (c ≤ s.horizon l)

/-- HORIZON_APPLY (R242): the horizon reaches the least E of the pending writes and every write with that E is applied. -/
def execHorizonApply (l : Lane) (corr : Bool) (s : State) : Host.Outcome State Fault Refusal :=
  if !s.laneUp l || !s.bit (.map l) F.MAP_CTRL_EN then ok s
  else
    match pendFirst (s.lane l).map.pend with
    | none => ok s
    | some w =>
      let s := (s.eccCorr (.lane l) corr).reachLane l (w.e.getD 0 + s.hold l)
      ok (s.mapSettle l)

end Sys2Proof.Machine
end

