-- ==== Sys2Proof/Machine/Crc.lean ====
section
/-!
DEFINITION. Cyclic redundancy checks: one bitwise register, with the parameters of each published check.
-/

namespace Sys2Proof.Machine
open Sys2Proof

/-- A check: width, polynomial, initial register, whether bits are reflected, final exclusive OR. -/
structure CrcParam where
  width : Nat
  poly : Nat
  init : Nat
  refl : Bool
  xout : Nat
  deriving DecidableEq, Repr

/-- The `n` low bits of a number in reverse order. -/
def reflectBits : Nat → Nat → Nat
  | 0, _ => 0
  | n + 1, v => (v % 2) * 2 ^ n + reflectBits n (v / 2)

/-- Shift the register `n` times. -/
def crcShift (p : CrcParam) : Nat → Nat → Nat
  | 0, r => r
  | n + 1, r =>
    let r' := (2 * r) % 2 ^ p.width
    crcShift p n (if 2 ^ (p.width - 1) ≤ r then r'.xor p.poly else r')

/-- Take one byte into the register, most significant bit first (of the reflected byte where bits are reflected). -/
def crcByte (p : CrcParam) (r : Nat) (b : Byte) : Nat :=
  let v := if p.refl then reflectBits 8 b.toNat else b.toNat
  crcShift p 8 (r.xor (v * 2 ^ (p.width - 8)))

/-- The register after a list of bytes, from a register value. -/
def crcRun (p : CrcParam) (r : Nat) (l : List Byte) : Nat := l.foldl (crcByte p) r

/-- The check value of a register. -/
def crcOut (p : CrcParam) (r : Nat) : Nat := (if p.refl then reflectBits p.width r else r).xor p.xout

/-- The check value of a list of bytes. -/
def crcOf (p : CrcParam) (l : List Byte) : Nat := crcOut p (crcRun p p.init l)

/-- CRC-32C. -/
def crc32c : CrcParam := ⟨32, 0x1EDC6F41, 0xFFFFFFFF, true, 0xFFFFFFFF⟩

/-- The frame check sequence of IEEE 802.3. -/
def crc32 : CrcParam := ⟨32, 0x04C11DB7, 0xFFFFFFFF, true, 0xFFFFFFFF⟩

end Sys2Proof.Machine
end

