-- ==== Sys2Proof/Machine/Time.lean ====
section
/-!
DEFINITION. The time rows: PTP messages and their timeouts (R76 to R79), slot states and sources (R68 to R73), the
lanes' copies (R74, R75), transmit timestamps (R82 to R84) and the PPS pins (R85 to R87).
-/

namespace Sys2Proof.Machine
open Sys2Proof

/-- A PTP interval 2^log seconds (log interval −7 to 7 after clamping). -/
def ptpIval (lg : Int) : Nat :=
  if 0 ≤ lg then sec * 2 ^ (min lg 7).toNat else sec / 2 ^ (min (-lg) 7).toNat

/-- The order of Announce datasets (IEEE 1588-2019 clause 9.3): the first difference decides, the number of
the receiving port last. -/
def annKey (a : Announce) (port : Nat) : List Nat :=
  [a.prio1, a.clockClass, a.accuracy, a.variance, a.prio2, a.gm, a.stepsRemoved, a.srcPort, port]

/-- Lexicographic "is better than". -/
def lexLt : List Nat → List Nat → Bool
  | a :: s, b :: t => if a < b then true else if b < a then false else lexLt s t
  | _, _ => false

/-- The state of a domain slot from what it holds (R77): 0 ABSENT, 1 USABLE, 2 DEGRADED, 3 TIMEOUT, 4 JUMPED. -/
def slotCode (t : PtpSlot) (classMax : Nat) : Nat :=
  match t.best with
  | none => if t.annLate then 3 else 0
  | some a =>
    if t.annLate || t.syncLate then 3
    else if t.jumped then 4
    else if classMax < a.clockClass then 2
    else if t.off.isSome then 1
    else 0

/-- Store a slot, show its state, and let both planes select again. -/
def State.putSlot (s : State) (p : Plane) (n : Nat) (t : PtpSlot) : State :=
  let c := slotCode t (s.fld (.tim p) F.TIM_DOM_CFG_CLASS_MAX n)
  let s := s.setPlane p ((s.plane p).setSlot n t)
  let s := s.setFld (.tim p) F.TIM_DOM_STATUS_STATE c n
  s.selectSources

/-- A slot whose limits were written is judged again (R77). -/
def State.slotAgain (s : State) (p : Plane) (n : Nat) : State := s.putSlot p n ((s.plane p).slot n)

/-- The slot of a plane that holds a domain number, slot 0 first. -/
def State.slotOf (s : State) (p : Plane) (domain : Nat) : Option Nat :=
  if s.fld (.tim p) F.TIM_DOM_CFG_DOMAIN 0 = domain then some 0
  else if s.fld (.tim p) F.TIM_DOM_CFG_DOMAIN 1 = domain then some 1
  else none

/-- PTP is processed on a port of an UP plane with PTP_EN set. -/
def State.ptpOn (s : State) (p : Plane) (port : Nat) : Bool :=
  s.planeUp p && s.bit (.timPort p port) F.TIM_PTP_PORT_PTP_EN

/-- The receive stamp of a frame whose start crosses the SerDes balls of an external port at plane clock `t`: `t` minus
TIM_NIB_RXADJ, quantised (R80). The inter-plane link has no medium and keeps `t`. -/
def State.rxStamp (s : State) (p : Plane) (port t : Nat) : Nat :=
  if 11 ≤ port then quant t else quant ((t : Int) - of025 (s.rd (.timPort p port) .TIM_NIB_RXADJ).toNat).toNat

/-- The settle margin after the last Announce stamp plus ANN_TMO intervals, a slot is TIMEOUT (R77). -/
def State.annExpire (s : State) (p : Plane) (n : Nat) : State :=
  let t := (s.plane p).slot n
  match t.annStamp with
  | none => s
  | some a =>
    let s := s.reachPlane p (a + s.fld (.tim p) F.TIM_DOM_CFG_ANN_TMO n * t.annIval + settle)
    s.putSlot p n { (s.plane p).slot n with annLate := true, annStamp := none }

/-- The settle margin after the last Sync stamp plus SYNC_TMO intervals, a slot is TIMEOUT (R77). -/
def State.syncExpire (s : State) (p : Plane) (n : Nat) : State :=
  let t := (s.plane p).slot n
  match t.syncStamp with
  | none => s
  | some a =>
    let s := s.reachPlane p (a + s.fld (.tim p) F.TIM_DOM_CFG_SYNC_TMO n * t.syncIval + settle)
    s.putSlot p n { (s.plane p).slot n with syncLate := true, syncStamp := none, good := 0 }

/-- Is a stamp later than a receipt deadline of R77 (R25): the last stamp plus a number of intervals? -/
def ptpLate (last : Option Nat) (tmo ival stamp : Nat) : Bool :=
  match last with
  | none => false
  | some a => decide (a + tmo * ival < stamp)

/-- ANNOUNCE_RECEIVED: the best dataset among the plane's ports is kept (R76), its data shown, and the receipt
deadline restarts (R77). -/
def execAnnounceReceived (p : Plane) (port : Fin 11) (stamp : Nat) (m : Announce) (s : State) : Host.Outcome State Fault Refusal :=
  let stamp := s.rxStamp p port stamp
  if !s.ptpOn p port then ok s
  else if m.logInterval < 0 ∨ 2 < m.logInterval then ok s
  else
    match s.slotOf p m.domain with
    | none => ok s
    | some n =>
      let t := (s.plane p).slot n
      let same := match t.best with
        | none => true
        | some b => decide (b.srcPort = m.srcPort) && decide (t.port = port.val)
      let better := match t.best with
        | none => true
        | some b => t.annLate || lexLt (annKey m port.val) (annKey b t.port)
      if !(same || better) then ok s
      else
        let late := t.best.isSome && same && ptpLate t.annStamp (s.fld (.tim p) F.TIM_DOM_CFG_ANN_TMO n) t.annIval stamp
        let s := if late then s.annExpire p n else s
        let t := (s.plane p).slot n
        let newSrc := !same || t.best.isNone
        let t := { t with best := some m, port := port.val, annStamp := some stamp, annIval := ptpIval m.logInterval,
                          annLate := false,
                          off := if newSrc then none else t.off,
                          syncStamp := if newSrc then none else t.syncStamp }
        let pg : Page := .tim p
        let s := s.setFld pg F.TIM_DOM_STATUS_GM_CLASS m.clockClass n
        let s := s.setFld pg F.TIM_DOM_STATUS_UTC_OFFSET m.utcOffset n
        let s := s.setFld pg F.TIM_DOM_STATUS_LEAP61 (b2n m.leap61) n
        let s := s.setFld pg F.TIM_DOM_STATUS_LEAP59 (b2n m.leap59) n
        let s := s.setFld pg F.TIM_DOM_STATUS_C37238 (b2n m.c37238) n
        let s := s.wr pg .TIM_DOM_GM0 n (BitVec.ofNat 32 m.gm)
        let s := s.wr pg .TIM_DOM_GM1 n (BitVec.ofNat 32 (m.gm / 2 ^ 32))
        ok (s.putSlot p n t)

/-- The XDOM alarm (R70): the offset between a plane's two slots above TIM_LIMITS.XDOM. -/
def State.xdomCheck (s : State) (p : Plane) : State :=
  match (s.plane p).slot0.off, (s.plane p).slot1.off with
  | some a, some b =>
    if s.fld (.tim p) F.TIM_LIMITS_XDOM * ns < (a - b).natAbs then
      s.setBitEv (.plane p) (.tim p) F.TIM_STATUS_XDOM bkTIM 0 0
    else s
  | _, _ => s

/-- The servo takes an offset from the followed source: the rate it sets is a free value within ±500 ppm (R65), and a change of the
source's offset is removed by slewing (R67). -/
def State.servo (s : State) (p : Plane) (off : Int) : State :=
  let (k, s) := s.fresh
  let r := max (-549755813) (min 549755813 (Config.servoRate k))
  (s.setPlane p { s.plane p with rate := r }).planeSlew p off

/-- An offset measurement of a slot (R77): JUMPED beyond 1 ms, back after 16 intervals within 1 µs; the servo takes it
when the plane follows the slot (R65), and a change of the source's offset is removed by slewing (R67). A first acquisition has
stepped the clock and left no offset. -/
def State.measure (s : State) (p : Plane) (n : Nat) (stamp : Nat) (lg : Int) (off : Int) : State :=
  let t := (s.plane p).slot n
  let jump := match t.prev with
    | none => false
    | some o => decide (ms < (off - o).natAbs)
  let good := if jump then 0 else if off.natAbs ≤ us then t.good + 1 else 0
  let jumped := if jump then true else t.jumped && decide (good < 16)
  let t := { t with off := some off, prev := some off, syncStamp := some stamp, syncIval := ptpIval lg, syncLate := false, good := good, jumped := jumped }
  let s := s.wr (.tim p) .TIM_DOM_OFFSET n (BitVec.ofNat 32 (sat025 off))
  let s := s.setFld (.tim p) F.TIM_DOM_STATUS_LOG_SYNC (unsignedOf 8 lg) n
  let s := s.putSlot p n t
  let s := s.xdomCheck p
  if decide (s.fld (.tim p) F.TIM_STATUS_SOURCE = n + 1) && decide (s.timState p = 1) then
    s.servo p (((s.plane p).slot n).off.getD 0)
  else s

/-- The mean link delay of a port, when an exchange has succeeded (R78). -/
def State.linkDelay (s : State) (p : Plane) (port : Nat) : Option Nat :=
  let d := (s.rd (.timPort p port) .TIM_PDELAY).toNat
  if d = 0xFFFFFFFF then none else some (d * (ns / 4))

/-- SYNC_RECEIVED: a one-step Sync of the selected grandmaster measures its slot's offset; a two-step Sync waits for
its Follow_Up (R76, R77). -/
def execSyncReceived (p : Plane) (port : Fin 11) (stamp : Nat) (m : PtpMsg) (s : State) : Host.Outcome State Fault Refusal :=
  let stamp := s.rxStamp p port stamp
  if !s.ptpOn p port then ok s
  else if m.logInterval < -4 ∨ 0 < m.logInterval then ok s
  else
    match s.slotOf p m.domain with
    | none => ok s
    | some n =>
      let t := (s.plane p).slot n
      let sel := match t.best with
        | none => false
        | some b => decide (b.srcPort = m.srcPort) && decide (t.port = port.val)
      match s.linkDelay p port with
      | none => ok s
      | some d =>
        if !sel then ok s
        else
          let late := ptpLate t.syncStamp (s.fld (.tim p) F.TIM_DOM_CFG_SYNC_TMO n) t.syncIval stamp
          let s := if late then s.syncExpire p n else s
          if m.twoStep then
            ok (s.setPlane p ((s.plane p).setSlot n { (s.plane p).slot n with
              pend := some ⟨m.srcPort, m.seqId, stamp, m.corr, port.val⟩, syncStamp := some stamp, syncIval := ptpIval m.logInterval }))
          else ok (s.measure p n stamp m.logInterval ((m.time : Int) + m.corr + d - stamp))

/-- FOLLOW_UP_RECEIVED: the Follow_Up completes a two-step Sync of the slot (R76); without a residence entry for its Sync it sets
FU_ORPHAN, with one it takes the correction as it leaves each egress port (R79). -/
def execFollowUpReceived (p : Plane) (port : Fin 11) (m : PtpMsg) (s : State) : Host.Outcome State Fault Refusal :=
  if !s.ptpOn p port then ok s
  else
    let s :=
      match (if m.logInterval < -4 ∨ 0 < m.logInterval then none else s.slotOf p m.domain) with
      | none => s
      | some n =>
        let t := (s.plane p).slot n
        match t.pend, s.linkDelay p port with
        | some q, some d =>
          if q.srcPort = m.srcPort ∧ q.seqId = m.seqId ∧ q.port = port.val then
            let s := s.setPlane p ((s.plane p).setSlot n { t with pend := none })
            s.measure p n q.rx m.logInterval ((m.time : Int) + m.corr + q.corr + d - q.rx)
          else s
        | _, _ => s
    if (s.plane p).res.any (fun e => decide (e.srcPort = m.srcPort ∧ e.seqId = m.seqId)) then ok s
    else ok (s.setBit (.tim p) F.TIM_STATUS_FU_ORPHAN)

/-- The octets of a PTP message over Ethernet to the peer-delay address (Table 3.1): header of IEEE 1588-2019 clause 13.3. -/
def ptpFrame (mac : Nat) (type : Nat) (twoStep : Bool) (corr : Int) (srcPort seqId : Nat) (lg : Int) (body : List Byte) : List Byte :=
  [0x01, 0x80, 0xC2, 0x00, 0x00, 0x0E] ++ natBe 6 mac ++ [0x88, 0xF7] ++
    [BitVec.ofNat 8 type, 0x02] ++ natBe 2 (34 + body.length) ++ [0, 0] ++ [if twoStep then 0x02 else 0x00, 0x00] ++
    natBe 8 (unsignedOf 64 corr) ++ [0, 0, 0, 0] ++ natBe 10 srcPort ++ natBe 2 seqId ++ [0x05] ++
    [BitVec.ofNat 8 (unsignedOf 8 lg)] ++ body

/-- The PTP timestamp field: 48-bit seconds and 32-bit nanoseconds. -/
def ptpTime (t : Nat) : List Byte := natBe 6 (t / sec) ++ natBe 4 (t % sec / ns)

/-- The MAC address of a port. -/
def State.macAddr (s : State) (p : Plane) (port : Nat) : Nat :=
  (s.rd (.prt p port) .PRT_MACADDR_LO).toNat + 2 ^ 32 * s.fld (.prt p port) F.PRT_MACADDR_HI_ADDR

/-- The device's source port identity on a port: the EUI-64 of its MAC address and its port number (log entry 10). -/
def State.portIdentity (s : State) (p : Plane) (port : Nat) : Nat :=
  let m := s.macAddr p port
  ((m / 2 ^ 24) * 2 ^ 40 + 0xFFFE * 2 ^ 24 + m % 2 ^ 24) * 2 ^ 16 + (port + 1)

/-- Queue an own frame of a port for the next frame boundary: its kind as TxFrame numbers it, and, for a one-step Pdelay_Resp, the
stamp of the request it answers. The two-step kinds carry a timestamp request (R110). -/
def State.ownFrame (s : State) (p : Plane) (port : Nat) (o : List Byte) (kind stamp : Nat) : State :=
  let m := (s.plane p).port port
  s.setPlane p ((s.plane p).setPort port
    { m with ctl := m.ctl ++ [⟨o, none, decide (kind = 4 ∨ kind = 5), 0, false, true, false, port, 0, stamp, 0, kind, none⟩] })

/-- The transmit stamp of an own frame leaving now: the plane clock plus TIM_NIB_TXADJ (R80). -/
def State.txStamp (s : State) (p : Plane) (port : Nat) : Nat :=
  quant (((s.plane p).now : Int) + of025 (s.rd (.timPort p port) .TIM_NIB_TXADJ).toNat).toNat

/-- Is there a transmit timestamp entry free for the time unit (R82, R84)? -/
def State.txqFree (s : State) (p : Plane) (port : Nat) : Bool := decide (((s.plane p).pt port).txq.length < 64)

/-- PDELAY_REQ_RECEIVED: the port answers with Pdelay_Resp, in two-step form with a Pdelay_Resp_Follow_Up, or in
one-step form when TWO_STEP is 0 or no queue entry is free, which counts ONESTEP (R76, R84). What depends on the transmit stamp
is filled in as the frames leave (`State.ownLeaves`). -/
def execPdelayReqReceived (p : Plane) (port : Fin 11) (stamp : Nat) (m : PtpMsg) (s : State) : Host.Outcome State Fault Refusal :=
  let stamp := s.rxStamp p port stamp
  if !s.ptpOn p port then ok s
  else
    let mac := s.macAddr p port
    let id := s.portIdentity p port
    let two := s.bit (.timPort p port) F.TIM_PTP_PORT_TWO_STEP
    let free := s.txqFree p port
    if two && free then
      let s := s.ownFrame p port (ptpFrame mac 3 true 0 id m.seqId 0x7F (ptpTime stamp ++ natBe 10 m.srcPort)) 5 stamp
      ok (s.ownFrame p port (ptpFrame mac 0xA false m.corr id m.seqId 0x7F (List.replicate 10 0 ++ natBe 10 m.srcPort)) 7 stamp)
    else
      let s := s.ownFrame p port (ptpFrame mac 3 false m.corr id m.seqId 0x7F (List.replicate 10 0 ++ natBe 10 m.srcPort)) 6 stamp
      ok (if two then s.bump (.timPort p port) F.TIM_TXQ_FALLBACK_ONESTEP else s)

/-- An exchange without an on-time response: after three in a row the link delay is not valid (R78). -/
def State.pdelayMissed (s : State) (p : Plane) (port : Nat) : State :=
  let t := (s.plane p).pt port
  let s := s.setPlane p ((s.plane p).setPt port { t with missed := t.missed + 1, reqStamp := none, resp := none })
  if 3 ≤ t.missed + 1 then s.wr (.timPort p port) .TIM_PDELAY 0 0xFFFFFFFF else s

/-- PDELAY_REQ_SEND: when its interval is due the port sends a Pdelay_Req, or counts SKIP and a missed exchange when
no queue entry is free (R78, R84). An exchange still open when the next one is due is missed. The request is stamped as it
leaves (`State.ownLeaves`). -/
def execPdelayReqSend (p : Plane) (port : Fin 11) (s : State) : Host.Outcome State Fault Refusal :=
  if !s.ptpOn p port || !s.link p port then ok s
  else
    let lg := signedOf 8 (s.fld (.timPort p port) F.TIM_PTP_PORT_LOG_PDELAY)
    let s := match ((s.plane p).pt port).lastReq with
      | some t => s.reachPlane p (t + ptpIval lg)
      | none => s
    let s := if ((s.plane p).pt port).reqStamp.isSome then s.pdelayMissed p port else s
    let t := (s.plane p).pt port
    let s := s.setPlane p ((s.plane p).setPt port { t with lastReq := some (s.plane p).now })
    if !s.txqFree p port then ok ((s.bump (.timPort p port) F.TIM_TXQ_FALLBACK_SKIP).pdelayMissed p port)
    else
      let t := (s.plane p).pt port
      let s := s.setPlane p ((s.plane p).setPt port { t with seqId := (t.seqId + 1) % 65536, reqStamp := none, resp := none })
      ok (s.ownFrame p port (ptpFrame (s.macAddr p port) 2 false 0 (s.portIdentity p port) ((t.seqId + 1) % 65536) lg
        (List.replicate 20 0)) 4 0)

/-- The kind of an own frame that the transmit stamp changes leaves its port, stamped `tx` (R80, R84): a Pdelay_Req opens the
exchange; a two-step Pdelay_Resp gives its stamp to the Pdelay_Resp_Follow_Up queued behind it; a one-step one gets its turnaround
time added to the correctionField. Gives the octets sent. The queue entry of a two-step message is drained within 1 µs
(R82), which is within this step. -/
def State.ownLeaves (s : State) (p : Plane) (port : Nat) (t : TxFrame) (tx : Nat) : List Byte × State :=
  let o := t.octets
  if t.ctl = 4 then
    let x := (s.plane p).pt port
    (o, if beNat ((o.drop 44).take 2) = x.seqId then s.setPlane p ((s.plane p).setPt port { x with reqStamp := some tx }) else s)
  else if t.ctl = 5 then
    let m := (s.plane p).port port
    let fill := fun (f : TxFrame) =>
      if f.ctl = 7 ∧ beNat ((f.octets.drop 44).take 2) = beNat ((o.drop 44).take 2) then { f with octets := f.octets.take 48 ++ ptpTime tx ++ f.octets.drop 58 } else f
    (o, s.setPlane p ((s.plane p).setPort port { m with ctl := m.ctl.map fill }))
  else if t.ctl = 6 then
    let c := signedOf 64 (beNat ((o.drop 22).take 8)) + (tx : Int) - t.stamp
    (o.take 22 ++ natBe 8 (unsignedOf 64 c) ++ o.drop 30, s)
  else (o, s)

/-- An exchange succeeds with a mean link delay (R78). -/
def State.pdelayDone (s : State) (p : Plane) (port : Nat) (d : Int) : State :=
  let t := (s.plane p).pt port
  let s := s.setPlane p ((s.plane p).setPt port { t with missed := 0, reqStamp := none, resp := none })
  s.wr (.timPort p port) .TIM_PDELAY 0 (BitVec.ofNat 32 (min ((max d 0).toNat / (ns / 4)) 0xFFFFFFFE))

/-- PDELAY_RESP_RECEIVED: an on-time one-step response completes the exchange; a two-step response waits for its
Pdelay_Resp_Follow_Up; one stamped later than 10 ms after the request is late (R78). -/
def execPdelayRespReceived (p : Plane) (port : Fin 11) (stamp : Nat) (m : PtpMsg) (s : State) : Host.Outcome State Fault Refusal :=
  let stamp := s.rxStamp p port stamp
  if !s.ptpOn p port then ok s
  else
    let t := (s.plane p).pt port
    match t.reqStamp with
    | none => ok s
    | some t1 =>
      if m.reqPort ≠ s.portIdentity p port ∨ m.seqId ≠ t.seqId ∨ t1 + 10 * ms < stamp then ok s
      else if m.twoStep then
        ok (s.setPlane p ((s.plane p).setPt port { t with resp := some ⟨m.srcPort, m.seqId, stamp, m.corr - m.time, port.val⟩ }))
      else ok (s.pdelayDone p port (((stamp : Int) - t1 - m.corr) / 2))

/-- PDELAY_RESP_FOLLOW_UP_RECEIVED: an on-time follow-up completes the exchange (R78). -/
def execPdelayRespFollowUpReceived (p : Plane) (port : Fin 11) (stamp : Nat) (m : PtpMsg) (s : State) : Host.Outcome State Fault Refusal :=
  let stamp := s.rxStamp p port stamp
  if !s.ptpOn p port then ok s
  else
    let t := (s.plane p).pt port
    match t.reqStamp, t.resp with
    | some t1, some r =>
      if m.reqPort ≠ s.portIdentity p port ∨ m.seqId ≠ r.seqId ∨ m.srcPort ≠ r.srcPort ∨ t1 + 10 * ms < stamp then ok s
      else ok (s.pdelayDone p port (((r.rx : Int) - t1 - ((m.time : Int) + m.corr + r.corr)) / 2))
    | _, _ => ok s

/-- PDELAY_RESP_TIMEOUT: 10 ms and the settle margin after the request's transmit stamp, an exchange still open is
missed (R25, R26, R78). -/
def execPdelayRespTimeout (p : Plane) (port : Fin 11) (s : State) : Host.Outcome State Fault Refusal :=
  match ((s.plane p).pt port).reqStamp with
  | none => ok s
  | some t1 => if !s.planeUp p then ok s else ok ((s.reachPlane p (t1 + 10 * ms + settle)).pdelayMissed p port)

/-- ANNOUNCE_TIMEOUT: no Announce by the receipt deadline makes the slot TIMEOUT (R77). -/
def execAnnounceTimeout (p : Plane) (slot : Fin 2) (s : State) : Host.Outcome State Fault Refusal :=
  if !s.planeUp p then ok s else ok (s.annExpire p slot)

/-- SYNC_TIMEOUT: no Sync by the receipt deadline makes the slot TIMEOUT (R77). -/
def execSyncTimeout (p : Plane) (slot : Fin 2) (s : State) : Host.Outcome State Fault Refusal :=
  if !s.planeUp p then ok s else ok (s.syncExpire p slot)

/-- SLEW_END: at SLEW_MAX ppm the slew has brought the residual below 1 ns, and SLEWING returns to 0 (R71). -/
def execSlewEnd (p : Plane) (s : State) : Host.Outcome State Fault Refusal :=
  if !s.planeUp p || !s.bit (.tim p) F.TIM_STATUS_SLEWING then ok s
  else
    let x := s.plane p
    let s := s.elapse (slewTime (s.fld (.tim p) F.TIM_CTRL_SLEW_MAX) x.slewFrac x.resid)
    ok ((s.setPlane p { s.plane p with resid := 0, slewFrac := 0 }).setFld (.tim p) F.TIM_STATUS_SLEWING 0)

/-- Do the planes know each other's slot states: both UP and the inter-plane link up (R69)? -/
def State.paired (s : State) : Bool := s.planeUp .a && s.planeUp .b && s.pins.ipUp

/-- Is a slot usable on at least one plane, as far as plane p knows (R69)? -/
def State.usableAny (s : State) (p : Plane) (n : Nat) : Bool :=
  (s.planeUp p && s.slotUsable p n) || (s.paired && s.slotUsable p.other n)

/-- Since when a slot has been usable on a plane that p knows of. -/
def State.usableSince (s : State) (p : Plane) (n : Nat) : Option Nat :=
  let since := fun q => if s.planeUp q && s.slotUsable q n then ((s.plane q).slot n).usableSince else none
  match since p, (if s.paired then since p.other else none) with
  | some a, some b => some (min a b)
  | some a, none => some a
  | none, b => b

/-- The plane whose time unit decides for the pair (log entry 11): Plane A while it is UP. -/
def State.timeLead (s : State) : Plane := if s.planeUp .a then .a else .b

/-- The preferred slot of a plane, TIM_CTRL.PREF. -/
def State.prefSlot (s : State) (p : Plane) : Nat := s.fld (.tim p) F.TIM_CTRL_PREF

/-- What one plane decides takes effect on the planes it speaks for: both while they are paired, else itself (R69). -/
def State.setCommon (s : State) (p : Plane) (n : Nat) : State :=
  let s := s.setPlane p { s.plane p with common := n }
  let s := if s.paired then s.setPlane p.other { s.plane p.other with common := n } else s
  s.selectSources

/-- The common domain at an exchange (R69): the preferred slot while it is usable on a plane, else the other while that one is. A
plane that has never been LOCKED begins at its preferred slot; a return waits for R73. -/
def State.commonNext (s : State) (p : Plane) : Nat :=
  let pref := s.prefSlot p
  let cur := (s.plane p).common
  if cur = pref then (if !s.usableAny p pref && s.usableAny p (1 - pref) then 1 - pref else pref)
  else if s.timState p = 0 ∧ (s.paired = false ∨ s.timState p.other = 0) then pref
  else cur

/-- The planes that decide for themselves: the leading one while the planes are paired, else every plane that is UP. -/
def State.deciders (s : State) : List Plane := if s.paired then [s.timeLead] else [Plane.a, .b].filter (fun p => s.planeUp p)

/-- Let the leading plane's clock reach its next 1 ms boundary. -/
def State.toBoundary (s : State) : State := s.reachPlane s.timeLead (((s.plane s.timeLead).now / ms + 1) * ms)

/-- SLOT_STATE_EXCHANGE: at the next 1 ms boundary the planes exchange slot states over the inter-plane link and apply the common
domain; without the link each decides by what it knows (R69). -/
def execSlotStateExchange (s : State) : Host.Outcome State Fault Refusal :=
  if !(s.planeUp .a || s.planeUp .b) then ok s
  else
    let s := s.toBoundary
    ok (s.deciders.foldl (fun s p => s.setCommon p (s.commonNext p)) s)

/-- When the preferred slot of plane p will have been usable for REVERT_HOLD seconds, if the pair has left it and a return is not
disabled (R73). -/
def State.revertAt (s : State) (p : Plane) : Option Nat :=
  let hold := s.fld (.tim p) F.TIM_CTRL_REVERT_HOLD
  if hold = 0 ∨ (s.plane p).common = s.prefSlot p then none else (s.usableSince p (s.prefSlot p)).map (fun t => t + hold * sec)

/-- REVERT_HOLD_EXPIRE: the preferred slot, usable for REVERT_HOLD seconds on a plane, regains the pair at the next 1 ms boundary
(R69, R73); 0 disables the return. -/
def execRevertHoldExpire (s : State) : Host.Outcome State Fault Refusal :=
  match s.deciders.filterMap s.revertAt with
  | [] => ok s
  | t :: ts =>
    let s := (s.reachReal (ts.foldl min t)).toBoundary
    ok (s.deciders.foldl (fun s p =>
      match s.revertAt p with
      | some t => if t ≤ s.real then s.setCommon p (s.prefSlot p) else s
      | none => s) s)

/-- XPLANE_MEASURE: the other plane's clock minus this one, and the XPLANE alarm (R70). A plane that follows PEER takes the
measurement (R67, R68). -/
def execXplaneMeasure (p : Plane) (s : State) : Host.Outcome State Fault Refusal :=
  if !s.paired then ok s
  else
    let d : Int := ((s.plane p.other).now : Int) - (s.plane p).now
    let s := s.wr (.tim p) .TIM_OFFSET_XPLANE 0 (BitVec.ofNat 32 (sat025 d))
    let s := if s.fld (.tim p) F.TIM_LIMITS_XPLANE * ns < d.natAbs then
        s.setBitEv (.plane p) (.tim p) F.TIM_STATUS_XPLANE bkTIM 0 0
      else s
    ok (if s.fld (.tim p) F.TIM_STATUS_SOURCE = 3 ∧ s.timState p = 1 then s.servo p d else s)

/-- LANE_DEFAULT_RETURN: 10 s after its default plane has been UP and LOCKED without a break, a lane slews back to it (R74). -/
def execLaneDefaultReturn (l : Lane) (s : State) : Host.Outcome State Fault Refusal :=
  let d := s.defPlane l
  match (s.plane d).lockedSince with
  | none => ok s
  | some t =>
    if !s.laneUp l || !s.planeLocked d || (decide (s.followed l = d) && !s.laneHold l) then ok s
    else
      let s := s.reachReal (t + 10 * sec)
      ok (if s.gridRun l then s.laneSlewTo l d else s.laneTake l d)

/-- LANE_TIME_SAMPLE: Plane B minus Plane A as the lane samples them, and the lane's XPLANE alarm (R75). -/
def execLaneTimeSample (l : Lane) (s : State) : Host.Outcome State Fault Refusal :=
  if !(s.laneUp l && s.planeUp .a && s.planeUp .b) then ok s
  else
    let d : Int := (s.pb.now : Int) - s.pa.now
    let s := s.wr (.lcfg l) .CFG_TIME_DIFF 0 (BitVec.ofNat 32 (sat025 d))
    if s.fld (.lcfg l) F.CFG_TIME_FOLLOW_XLIMIT * ns < d.natAbs then
      ok (s.setBitEv (.lane l) (.lcfg l) F.CFG_TIME_FOLLOW_XPLANE bkCFG 4 0)
    else ok s

/-- RESIDENCE_ENTRY_EXPIRE: residence entries older than 1 s go, after the oldest has reached that age (R79). -/
def execResidenceEntryExpire (p : Plane) (s : State) : Host.Outcome State Fault Refusal :=
  match (s.plane p).res with
  | [] => ok s
  | e :: _ =>
    if !s.planeUp p then ok s
    else
      let s := s.reachPlane p (e.at_ + sec + 1)
      let x := s.plane p
      ok (s.setPlane p { x with res := x.res.filter (fun r => decide (x.now ≤ r.at_ + sec)) })

/-- The words of a transmit timestamp entry (Table 3.2). -/
def txqWord (e : TxqEnt) (k : Nat) : Nat :=
  if k < 3 then toT96 e.stamp / 2 ^ (32 * k) % 2 ^ 32
  else e.tag % 65536 + (e.len / 16 % 512) * 2 ^ 20 + b2n e.lostBefore * 2 ^ 30 + 2 ^ 31

/-- TXQ_ENTRY_READ: a read of TIM_TXQ_ENT3 returns the oldest entry's last word and removes the entry; 0 when the
queue is empty (R83). -/
def execTxqEntryRead (p : Plane) (port : Fin 11) (s : State) : Host.Outcome State Fault Refusal :=
  if !s.planeUp p then ok { s with rdata := 0 }
  else
    let t := (s.plane p).pt port
    match t.txq with
    | [] => ok { s with rdata := 0 }
    | e :: rest =>
      let s := s.setPlane p ((s.plane p).setPt port { t with txq := rest })
      let s := s.setFld (.timPort p port) F.TIM_TXQ_STATUS_COUNT rest.length
      ok { s with rdata := BitVec.ofNat 32 (txqWord e 3) }

/-- A requesting frame's transmit stamp enters its port's queue, or counts LOST when the requested share is full (R82). -/
def State.txqPut (s : State) (p : Plane) (port : Nat) (stamp tag len : Nat) : State :=
  let t := (s.plane p).pt port
  if 64 - s.fld (.timPort p port) F.TIM_PTP_PORT_TXQ_RESERVE ≤ t.txq.length then
    let s := s.setPlane p ((s.plane p).setPt port { t with lostNext := true })
    s.bump (.timPort p port) F.TIM_TXQ_STATUS_LOST
  else
    let s := s.setPlane p ((s.plane p).setPt port { t with txq := t.txq ++ [⟨stamp, tag, len, t.lostNext⟩], lostNext := false })
    s.setFld (.timPort p port) F.TIM_TXQ_STATUS_COUNT (t.txq.length + 1)

/-- TIM_NOW_READ: TIM_NOW_W0 returns the low word of the plane clock and latches W1 and W2. -/
def execTimNowRead (p : Plane) (s : State) : Host.Outcome State Fault Refusal :=
  if !s.planeUp p then ok { s with rdata := 0 }
  else
    let w := toT96 (s.plane p).now
    let s := s.wr (.tim p) .TIM_NOW_W0 0 (BitVec.ofNat 32 w)
    let s := s.wr (.tim p) .TIM_NOW_W1 0 (BitVec.ofNat 32 (w / 2 ^ 32))
    let s := s.wr (.tim p) .TIM_NOW_W2 0 (BitVec.ofNat 32 (w / 2 ^ 64))
    ok { s with rdata := BitVec.ofNat 32 w }

/-- A PPS output of a plane: high since, or low. -/
def PlaneSt.pps (x : PlaneSt) (n : Nat) : Option Nat := if n = 0 then x.pps0 else x.pps1

/-- Store a PPS output. -/
def PlaneSt.setPps (x : PlaneSt) (n : Nat) (v : Option Nat) : PlaneSt := if n = 0 then { x with pps0 := v } else { x with pps1 := v }

/-- The plane the pads should take the PPS outputs from (R86): A or B when UP and LOCKED, else any UP plane, A first. -/
def State.ppsWanted (s : State) : Plane :=
  if s.planeLocked .a then .a else if s.planeLocked .b then .b
  else if s.planeUp .a then .a else if s.planeUp .b then .b else s.pins.ppsDriver

/-- Are both pads low? -/
def State.ppsLow (s : State) : Bool := (s.plane s.pins.ppsDriver).pps0.isNone && (s.plane s.pins.ppsDriver).pps1.isNone

/-- Let the pads change their driving plane if both pins are low (R86); PPS_DRIVE shows it. -/
def State.ppsSettle (s : State) : State :=
  let w := s.ppsWanted
  if s.ppsLow then
    let s := { s with pins := { s.pins with ppsDriver := w } }
    (s.setFld (.tim w) F.TIM_STATUS_PPS_DRIVE 1).setFld (.tim w.other) F.TIM_STATUS_PPS_DRIVE 0
  else s

/-- PPS_DRIVE_CHANGE: the pads take the wanted plane while both pins are low (R86). -/
def execPpsDriveChange (s : State) : Host.Outcome State Fault Refusal := ok s.ppsSettle

/-- TIM_DOMn_OFFSET: the slot's time minus the plane clock as it stands, or, without a measurement of the present grandmaster, the
last one. -/
def State.domOffset (s : State) (p : Plane) (n : Nat) : Nat :=
  match ((s.plane p).slot n).off with
  | some o => sat025 o
  | none => (s.rd (.tim p) .TIM_DOM_OFFSET n).toNat

/-- PPS_OUT_EDGE: at the next second boundary of its slot's time, shifted by TIM_PPS_ADJn, an enabled output rises;
it stays low while the slot is not USABLE and the plane is not LOCKED to it (R85). DESIGN CHOICE: a plane that follows PEER is not
LOCKED to a slot, and a positive ADJ makes the edge later (log entry 75). -/
def execPpsOutEdge (p : Plane) (n : Fin 2) (s : State) : Host.Outcome State Fault Refusal :=
  let en := if n.val = 0 then s.bit (.tim p) F.TIM_PPS_CTRL_OUT0_EN else s.bit (.tim p) F.TIM_PPS_CTRL_OUT1_EN
  let locked := s.planeLocked p && decide (s.fld (.tim p) F.TIM_STATUS_SOURCE = n.val + 1)
  if !s.planeUp p || !en || !(locked || decide (s.fld (.tim p) F.TIM_DOM_STATUS_STATE n = 1)) then ok s
  else
    let off : Int := if locked then 0 else of025 (s.domOffset p n)
    let adj0 : Int := signedOf 32 (if n.val = 0 then s.rd (.tim p) .TIM_PPS_ADJ0 else s.rd (.tim p) .TIM_PPS_ADJ1).toNat
    let adj : Int := max (-4000) (min 4000 adj0) * (ns / 4 : Nat)
    let slotNow := (((s.plane p).now : Int) + off - adj).toNat
    let due := ((((slotNow / sec + 1) * sec : Nat) : Int) - off + adj).toNat
    let s := s.reachPlane p due
    ok (s.setPlane p ((s.plane p).setPps n (some due)))

/-- PPS_WIDTH_EXPIRE: WIDTH ms after its rise an output falls, and a pending change of driving plane takes effect once
both pins are low (R85, R86). -/
def execPpsWidthExpire (p : Plane) (n : Fin 2) (s : State) : Host.Outcome State Fault Refusal :=
  match (s.plane p).pps n with
  | none => ok s
  | some t =>
    if !s.planeUp p then ok s
    else
      let s := s.reachPlane p (t + s.fld (.tim p) F.TIM_PPS_CTRL_WIDTH * ms)
      ok (s.setPlane p ((s.plane p).setPps n none)).ppsSettle

/-- One time unit stamps a rising edge of PPS_IN now and sets PPSIN_NEW; the edge qualifies as a source within 1 ms of
a second boundary and 1 s ± 100 µs after the previous one, and then sets phase only (R87). -/
def State.ppsInEdge (s : State) (p : Plane) : State :=
  if !s.planeUp p then s
  else
    let x := s.plane p
    let stamp := quant x.now
    let w := toT96 stamp
    let s := s.wr (.tim p) .TIM_PPS_IN_W0 0 (BitVec.ofNat 32 w)
    let s := s.wr (.tim p) .TIM_PPS_IN_W1 0 (BitVec.ofNat 32 (w / 2 ^ 32))
    let s := s.wr (.tim p) .TIM_PPS_IN_W2 0 (BitVec.ofNat 32 (w / 2 ^ 64))
    let s := s.setBit (.tim p) F.TIM_STATUS_PPSIN_NEW
    let near := decide (stamp % sec ≤ ms ∨ sec - stamp % sec ≤ ms)
    let spaced := match x.lastPps with
      | some t => decide (((stamp : Int) - t - sec).natAbs ≤ 100 * us)
      | none => false
    let f : Int := (stamp % sec : Nat)
    let phase := if f * 2 < sec then -f else (sec : Int) - f
    let s := s.setPlane p { s.plane p with lastPps := some stamp, ppsPhase := phase, ppsGood := near && spaced }
    let s := s.selectSource p
    if s.fld (.tim p) F.TIM_STATUS_SOURCE = 4 ∧ s.timState p = 1 ∧ near ∧ spaced then s.planeSlew p (s.srcOffset p 4)
    else s

/-- PPS_IN_EDGE: both time units take the edge. With bank VIO_C low the input reads 0 and has no edge (R453). -/
def execPpsInEdge (s : State) : Host.Outcome State Fault Refusal :=
  if s.com.lowBanks.contains 2 then ok s else ok ((s.ppsInEdge .a).ppsInEdge .b)

end Sys2Proof.Machine
end

