-- ==== Sys2Proof/Machine/Buffer.lean ====
section
/-!
DEFINITION. The plane's shared buffer (R121 to R124), its egress queues, header capture (R132, R133), and the reading
of a frame's tag, length and check sequence.
-/

namespace Sys2Proof.Machine
open Sys2Proof

/-! Frames. -/

/-- Two octets of a frame as a big-endian number. -/
def oct2 (o : List Byte) (i : Nat) : Nat := beNat ((o.drop i).take 2)

/-- Does a frame carry an 802.1Q tag? -/
def tagged (o : List Byte) : Bool := decide (oct2 o 12 = 0x8100)

/-- The destination address. -/
def dmacOf (o : List Byte) : Nat := beNat (o.take 6)

/-- The source address. -/
def smacOf (o : List Byte) : Nat := beNat ((o.drop 6).take 6)

/-- The octet at which the EtherType after any tag stands. -/
def etypeAt (o : List Byte) : Nat := if tagged o then 16 else 12

/-- The EtherType that follows any VLAN tag. -/
def etypeOf (o : List Byte) : Nat := oct2 o (etypeAt o)

/-- Is the destination a group address? -/
def isGroup (a : Nat) : Bool := decide (a / 2 ^ 40 % 2 = 1)

/-- The length of a frame: its octets and the four of the FCS. -/
def frameLen (o : List Byte) : Nat := o.length + 4

/-- The octets without the VLAN tag. -/
def untagOct (o : List Byte) : List Byte := if tagged o then o.take 12 ++ o.drop 16 else o

/-- The octets with an RCT at the end: the suffix 0x88FB. -/
def hasRct (o : List Byte) : Bool := decide (6 ≤ o.length ∧ oct2 o (o.length - 2) = 0x88FB)

/-- Padding to 64 bytes (R101): zeros before the RCT, or at the end. -/
def padOct (rct : Bool) (o : List Byte) : List Byte :=
  let z := List.replicate (60 - o.length) (0 : Byte)
  if rct then o.take (o.length - 6) ++ z ++ o.drop (o.length - 6) else o ++ z

/-- The four octets of the FCS in wire order. -/
def fcsOct (o : List Byte) : List Byte := natLe 4 (crcOf crc32 o)

/-- What the check of a received frame finds (R95): no fault, a wrong FCS, the inverse of the FCS, or a code error. -/
inductive RxKind where
  | good
  | badFcs
  | stomped
  | code
  deriving DecidableEq, Repr

/-- The FCS a port computes over a frame, its first octet on the wire in the low byte (R95). -/
def fcsOf (o : List Byte) : Nat := leNat (fcsOct o)

/-- The check of a received frame: a code error or an uncorrectable codeword in it first, then its last four bytes against the FCS
computed over it and its bitwise inverse (R94, R95, R96). -/
def rxKind (o : List Byte) (e : RxEnd) : RxKind :=
  if e.code ∨ 0 < e.fecUncorr then .code
  else if e.fcs.toNat = fcsOf o then .good
  else if e.fcs.toNat = 2 ^ 32 - 1 - fcsOf o then .stomped
  else .badFcs

/-- The octets a port puts on the line for a frame (R97, R120): the frame, then the FCS it keeps or one generated over it, or, when
it ends stomped, the bitwise inverse of the correct FCS. -/
def lineOct (o : List Byte) (keep : Option Nat) (stomp : Bool) : List Byte :=
  o ++ natLe 4 (if stomp then 2 ^ 32 - 1 - fcsOf o else keep.getD (fcsOf o))

/-- Cells of 256 bytes for a length. -/
def cellsOf (len : Nat) : Nat := (len + 255) / 256

/-! Counters of ports. -/

/-- Count in PRT_CNTk. -/
def State.prtCnt (s : State) (pg : Page) (k : Nat) : State := s.bump pg F.PRT_CNT_COUNT k

/-- Add to a 64-bit byte counter at PRT_CNTk and PRT_CNTk+1, which wraps (R111). -/
def State.prtBytes (s : State) (pg : Page) (k n : Nat) : State :=
  let v := (s.rd pg .PRT_CNT k).toNat + 2 ^ 32 * (s.rd pg .PRT_CNT (k + 1)).toNat + n
  (s.wr pg .PRT_CNT k (BitVec.ofNat 32 v)).wr pg .PRT_CNT (k + 1) (BitVec.ofNat 32 (v / 2 ^ 32))

/-- Count in PSW_CNTk of a switch port (Table 5.8). -/
def State.pswCnt (s : State) (p : Plane) (i k : Nat) : State := s.bump (.pswPort p i) F.PSW_CNT_COUNT k

/-- Count in PSW_PCNTk of a plane (Tables 5.7 and 12.11). -/
def State.pswPcnt (s : State) (p : Plane) (k : Nat) : State := s.bump (.psw p) F.PSW_PCNT_COUNT k

/-- The data rate of a port in Mbit/s (Table 4.1); 0 for a disabled port and for the internal ports. -/
def State.portRate (s : State) (p : Plane) (i : Nat) : Nat :=
  match s.fld (.prt p i) F.PRT_CFG_MODE with
  | 1 => 100 | 2 => 1000 | 3 => 2500 | 4 => 10000 | 5 => 25000 | 6 => 100000
  | _ => 0

/-- Does a port run RS-FEC: always in mode 6, by RS_FEC in mode 5 (R94, PRT_CFG)? -/
def State.fecOn (s : State) (p : Plane) (i : Nat) : Bool :=
  match s.fld (.prt p i) F.PRT_CFG_MODE with
  | 6 => true
  | 5 => s.bit (.prt p i) F.PRT_CFG_RS_FEC
  | _ => false

/-- FEC_CORR and FEC_UNCORR count the codewords that came with a frame and since the one before (R94). -/
def State.fecCount (s : State) (p : Plane) (i : Nat) (e : RxEnd) : State :=
  if 11 ≤ i || !s.fecOn p i then s
  else
    let add := fun (s : State) (k n : Nat) =>
      s.wr (.prt p i) .PRT_CNT k (BitVec.ofNat 32 (min ((s.rd (.prt p i) .PRT_CNT k).toNat + n) 0xFFFFFFFF))
    add (add s 21 e.fecCorr) 22 (e.fecUncorr + e.fecIdle)

/-- The length limit that held when a frame's first byte came: PRT_MAXLEN as the writes since then found it (R99). -/
def limitAt (lims : List (Nat × Nat)) (now stamp : Nat) : Nat :=
  match lims.find? (fun w => decide (stamp ≤ w.1)) with
  | some w => w.2
  | none => now

/-- The frame with an HSR tag before its EtherType (R129): 0x892F, path and LSDU size, sequence number. -/
def hsrOct (p : Plane) (seq : Nat) (o : List Byte) : List Byte :=
  let a := etypeAt o
  o.take a ++ [0x89, 0x2F] ++ natBe 2 (p.idx * 4096 + (o.length - a + 4) % 4096) ++ natBe 2 seq ++ o.drop a

/-- A time in pause quanta of 512 bit times (R104). -/
def quantaTime (q rate : Nat) : Nat := if rate = 0 then 0 else q * 512 * us / rate

/-! Header capture. -/

/-- The lowest enabled filter that matches an event (R132). -/
def State.hcapFilter (s : State) (p : Plane) (port : Nat) (tx : Bool) (verdict etype : Nat) : Option Nat :=
  (List.range 8).find? (fun n =>
    let pg : Page := .psw p
    s.bit pg F.PSW_HCAP_FILT_A_EN n && bitAt (s.fld pg F.PSW_HCAP_FILT_A_PORTS n) port &&
      bitAt (s.fld pg F.PSW_HCAP_FILT_A_DIR n) (b2n tx) && bitAt (s.fld pg F.PSW_HCAP_FILT_B_VERDICTS n) verdict &&
      (decide (s.fld pg F.PSW_HCAP_FILT_B_ETYPE n = 0) || decide (s.fld pg F.PSW_HCAP_FILT_B_ETYPE n = etype)))

/-- One frame event meets the capture filters, and a selected one is written to the ring in every lane that is UP, or
counted lost (R132, R133). DESIGN CHOICE: the plane's 64-entry queue takes 64 entries between two moments of the plane clock, and what
it has taken is in the ring at once (log entry 37). -/
def State.capture (s : State) (p : Plane) (port : Nat) (tx : Bool) (stamp cls verdict : Nat) (cut : Bool) (o : List Byte) : State :=
  let pg : Page := .psw p
  if !s.bit pg F.PSW_HCAP_CTRL_EN then s
  else
    match s.hcapFilter p port tx verdict (etypeOf o) with
    | none => s
    | some n =>
      let sz := s.fld pg F.PSW_HCAP_CTRL_SIZE_LOG2
      let ring := 2 ^ (sz + 8)
      let h := s.fld pg F.PSW_HCAP_HEAD_INDEX
      let h' := (h + 1) % ring
      let x := s.plane p
      if sz = 0 ∨ 64 ≤ x.hcapRun ∨ s.upLanes.isEmpty ∨ (s.bit pg F.PSW_HCAP_CTRL_MODE ∧ h' = s.fld pg F.PSW_HCAP_TAIL_INDEX) then
        (s.setPlane p { x with hcapLost := min (x.hcapLost + 1) 0xFFFF }).bump pg F.PSW_HCAP_LOST_COUNT
      else
        let word := port + b2n tx * 16 + cls * 32 + (frameLen o % 16384) * 256 + verdict * 2 ^ 22 + b2n cut * 2 ^ 26
        let hdr := o.take 40
        let ent := natLe 12 (toT96 stamp) ++ natLe 4 word ++ natLe 4 x.hcapSeq ++ natLe 2 x.hcapLost ++ natLe 2 n ++
          hdr ++ List.replicate (40 - hdr.length) 0
        let base := s.pairReg pg .PSW_HCAP_BASE_LO .PSW_HCAP_BASE_HI
        let s := s.upLanes.foldl (fun s l => s.memWLog l 4 (base + 64 * h) ent) s
        let s := s.setPlane p { s.plane p with hcapSeq := (x.hcapSeq + 1) % 2 ^ 32, hcapLost := 0, hcapRun := x.hcapRun + 1 }
        s.setFld pg F.PSW_HCAP_HEAD_INDEX h'

/-! The buffer. -/

/-- Cells in use. -/
def PlaneSt.cellsUsed (x : PlaneSt) : Nat := (x.bufs.map (fun e => e.2.cells)).sum

/-- PSW_BUF_FREE and PSW_BUF_LOW follow the cells in use. -/
def State.bufShow (s : State) (p : Plane) : State :=
  let free := 65536 - (s.plane p).cellsUsed
  let s := s.setFld (.psw p) F.PSW_BUF_FREE_FREE free
  if free < s.fld (.psw p) F.PSW_BUF_LOW_LOW then s.setFld (.psw p) F.PSW_BUF_LOW_LOW free else s

/-- Occupancy of (p, c). -/
def State.occ (s : State) (p : Plane) (i c : Nat) : Nat := s.fld (.pswPort p i) F.PSW_OCC_OCC c

/-- MIN of (p, c). -/
def State.occMin (s : State) (p : Plane) (i c : Nat) : Nat := s.fld (.pswPort p i) F.PSW_IN_LIM_MIN c

/-- The cells of the shared pool in use: what each (p, c) holds beyond its MIN, and the cells held by egress ports. -/
def State.poolUsed (s : State) (p : Plane) : Nat :=
  ((List.range 15).map (fun i => ((List.range 8).map (fun c => s.occ p i c - s.occMin p i c)).sum)).sum +
    (((s.plane p).bufs.filter (fun e => e.2.held)).map (fun e => e.2.cells)).sum

/-- The size of the shared pool (R121). -/
def State.poolSize (s : State) (p : Plane) : Nat :=
  65536 - ((List.range 15).map (fun i => ((List.range 8).map (fun c => s.occMin p i c)).sum)).sum

/-- May `cells` more enter (p, c) (R122)? -/
def State.admits (s : State) (p : Plane) (i c cells : Nat) : Bool :=
  let o := s.occ p i c
  let mn := s.occMin p i c
  decide (o + cells ≤ mn) ||
    (decide (o + cells ≤ s.fld (.pswPort p i) F.PSW_IN_LIM_DROP c) &&
      decide (s.poolUsed p + ((o + cells - mn) - (o - mn)) ≤ s.poolSize p))

/-- How (p, c) asks a peer for a pause: class c for PFC, 16 + c for classic PAUSE, nothing (R124). -/
def State.xoffKey (s : State) (p : Plane) (i c : Nat) : Option Nat :=
  if bitAt (s.fld (.prt p i) F.PRT_PAUSE_CFG_TX_PFC) c then some c
  else if s.bit (.prt p i) F.PRT_PAUSE_CFG_TX_PAUSE then some (16 + c)
  else none

/-- Ask for XOFF when an occupancy has risen to XOFF (R124, R105). -/
def State.xoffCheck (s : State) (p : Plane) (i c : Nat) : State :=
  let x := s.fld (.pswPort p i) F.PSW_IN_THR_XOFF c
  if x = 0 ∨ s.occ p i c < x ∨ 11 ≤ i then s
  else
    match s.xoffKey p i c with
    | none => s
    | some k =>
      let m := (s.plane p).port i
      if m.xoff.contains k then s
      else
        s.setPlane p ((s.plane p).setPort i
          { m with xoff := m.xoff ++ [k], pfcEnded := m.pfcEnded.filter (fun e => decide (e ≠ k)), pfcDue := m.pfcDue || decide (k < 16), pauseDue := m.pauseDue || decide (16 ≤ k) })

/-- End the request when an occupancy has fallen to XON (R124, R105). -/
def State.xonCheck (s : State) (p : Plane) (i c : Nat) : State :=
  if s.fld (.pswPort p i) F.PSW_IN_THR_XON c < s.occ p i c then s
  else
    let m := (s.plane p).port i
    let gone := m.xoff.filter (fun k => decide (k % 16 = c))
    if gone.isEmpty then s
    else
      let left := m.xoff.filter (fun k => decide (k % 16 ≠ c))
      let classicEnds := gone.any (fun k => decide (16 ≤ k)) && !left.any (fun k => decide (16 ≤ k))
      s.setPlane p ((s.plane p).setPort i
        { m with xoff := left, pfcEnded := m.pfcEnded ++ gone.filter (fun k => decide (k < 16)), pfcDue := m.pfcDue || gone.any (fun k => decide (k < 16)), pauseDue := m.pauseDue || classicEnds,
                 pauseSent := m.pauseSent.filter (fun e => decide (e.1 % 16 ≠ c)) })

/-- Change an occupancy. -/
def State.setOcc (s : State) (p : Plane) (i c v : Nat) : State := s.setFld (.pswPort p i) F.PSW_OCC_OCC v c

/-- Put a frame into the buffer under (p, c) and give its number. -/
def State.bufPut (s : State) (p : Plane) (f : BufFrame) : Nat × State :=
  let x := s.plane p
  let s := s.setPlane p { x with bufs := assocPut x.bufs x.nextBuf f, nextBuf := x.nextBuf + 1 }
  let s := s.setOcc p f.inPort f.cls (s.occ p f.inPort f.cls + f.cells)
  (x.nextBuf, (s.bufShow p).xoffCheck p f.inPort f.cls)

/-- A frame's cells leave the buffer. -/
def State.bufFree (s : State) (p : Plane) (b : Nat) : State :=
  let x := s.plane p
  match assocGet x.bufs b with
  | none => s
  | some f =>
    let s := s.setPlane p { x with bufs := assocDel x.bufs b }
    let s := if f.held then s else s.setOcc p f.inPort f.cls (s.occ p f.inPort f.cls - f.cells)
    (s.bufShow p).xonCheck p f.inPort f.cls

/-- One copy of a frame has left or is discarded; the last one frees its cells. -/
def State.bufDrop (s : State) (p : Plane) (b : Nat) : State :=
  let x := s.plane p
  match assocGet x.bufs b with
  | none => s
  | some f =>
    if f.copies ≤ 1 then s.bufFree p b
    else s.setPlane p { x with bufs := assocPut x.bufs b { f with copies := f.copies - 1 } }

/-- A frame takes its true size: the excess cells of a cut-through frame are returned (R122). `fcs` is its FCS as received. -/
def State.bufResize (s : State) (p : Plane) (b : Nat) (o : List Byte) (cells : Nat) (fcs : Option Nat) : State :=
  let x := s.plane p
  match assocGet x.bufs b with
  | none => s
  | some f =>
    let s := s.setPlane p { x with bufs := assocPut x.bufs b { f with octets := o, cells := cells, fcs := fcs } }
    let s := if f.held then s else s.setOcc p f.inPort f.cls (s.occ p f.inPort f.cls - f.cells + cells)
    (s.bufShow p).xonCheck p f.inPort f.cls

/-- One more copy holds a frame. -/
def State.bufHold (s : State) (p : Plane) (b : Nat) : State :=
  let x := s.plane p
  match assocGet x.bufs b with
  | none => s
  | some f => s.setPlane p { x with bufs := assocPut x.bufs b { f with copies := f.copies + 1 } }

/-! Egress queues. -/

/-- An egress queue. -/
def PlaneSt.queue (x : PlaneSt) (e c : Nat) : List QEnt := assocGetD x.queues (8 * e + c) []

/-- Store an egress queue. -/
def PlaneSt.setQueue (x : PlaneSt) (e c : Nat) (q : List QEnt) : PlaneSt := { x with queues := assocSet [] x.queues (8 * e + c) q }

/-- The cells of a buffered frame. -/
def PlaneSt.bufCells (x : PlaneSt) (b : Nat) : Nat :=
  match assocGet x.bufs b with
  | some f => f.cells
  | none => 0

/-- EQ_OCC of an egress queue follows its frames. -/
def State.eqShow (s : State) (p : Plane) (e c : Nat) : State :=
  let x := s.plane p
  s.setFld (.pswPort p e) F.PSW_EQ_EQ_OCC (((x.queue e c).map (fun q => x.bufCells q.buf)).sum) c

/-- The lane of an egress port L0 or L1. -/
def laneOfPort (e : Nat) : Option Lane := if e = 11 then some .l0 else if e = 12 then some .l1 else none

/-- A frame waits in the frozen queues of an egress port: its cells leave the occupancy of its ingress (p, c) and the port alone holds
them (R126). -/
def State.freezeBuf (s : State) (p : Plane) (b : Nat) : State :=
  match assocGet (s.plane p).bufs b with
  | none => s
  | some f =>
    if f.held then s
    else
      let s := s.setPlane p { s.plane p with bufs := assocPut (s.plane p).bufs b { f with held := true } }
      (s.setOcc p f.inPort f.cls (s.occ p f.inPort f.cls - f.cells)).xonCheck p f.inPort f.cls

/-- The copies decided for an egress port while its LINK is 0 are discarded and counted DOWN_DROP (R126); gives the others. -/
def State.downDrop (s : State) (p : Plane) (cls : Nat) (o : List Byte) (ports : List Nat) : List Nat × State :=
  (ports.filter (fun e => s.link p e),
    (ports.filter (fun e => !s.link p e)).foldl (fun s e => (s.pswCnt p e 7).capture p e true (s.plane p).now cls 9 false o) s)

/-- One copy is offered to an egress queue: discarded NOLANE or EGRESS_DROP, or queued (R123). A copy decided before its port lost
its link waits with the frozen ones, or is discarded with them when the hold has ended (R126). Says whether it was queued. -/
def State.enqueue (s : State) (p : Plane) (e b : Nat) (untag : Bool) (hsr : Option Nat) : State × Bool :=
  let x := s.plane p
  match assocGet x.bufs b with
  | none => (s, false)
  | some f =>
    let cap := fun (s : State) (v : Nat) => s.capture p e true x.now f.cls v false f.octets
    let noLane := match laneOfPort e with
      | some l => !s.laneUp l
      | none => false
    if noLane then (cap (s.pswCnt p e 6) 8, false)
    else if !s.link p e && (x.port e).holdEnd.isNone then (cap (s.pswCnt p e 9) 11, false)
    else if s.fld (.pswPort p e) F.PSW_EQ_EQ_MAX f.cls < s.fld (.pswPort p e) F.PSW_EQ_EQ_OCC f.cls + f.cells then
      (cap (s.pswCnt p e 5) 8, false)
    else
      let s := s.setPlane p (x.setQueue e f.cls (x.queue e f.cls ++ [⟨b, untag, !s.link p e, hsr⟩]))
      let s := (s.bufHold p b).eqShow p e f.cls
      (if s.link p e then s else s.freezeBuf p b, true)

/-- Offer one frame to a list of egress ports, each with whether the tag is left off and the HSR number it takes; says whether at
least one copy was queued. -/
def State.enqueueAll (s : State) (p : Plane) (b : Nat) : List (Nat × Bool × Option Nat) → State × Bool
  | [] => (s, false)
  | (e, u, h) :: t =>
    let r := s.enqueue p e b u h
    let r' := r.1.enqueueAll p b t
    (r'.1, r.2 || r'.2)

/-- Count a tail drop in one of two counters (R124): 4 UNHEEDED or 3 TAILDROP, and give the capture verdict. -/
def State.tailDrop (s : State) (p : Plane) (i c stamp : Nat) : State × Nat :=
  let m := (s.plane p).port i
  let grace := s.fld (.psw p) F.PSW_PAUSE_GRACE_GRACE * ns
  let unheeded := m.xoff.any (fun k => decide (k = c ∨ 16 ≤ k) &&
    (match assocGet m.pauseSent k with
     | some t => decide (t + grace < stamp)
     | none => false))
  if unheeded then (s.pswCnt p i 4, 3) else (s.pswCnt p i 3, 2)

/-- Discard every frozen copy of an egress port and count it (R126): FLUSHED, verdict 11. -/
def State.flushPort (s : State) (p : Plane) (e : Nat) : State :=
  (List.range 8).foldl (fun s c =>
    let q := (s.plane p).queue e c
    let out := q.filter (fun k => k.frozen)
    let s := s.setPlane p ((s.plane p).setQueue e c (q.filter (fun k => !k.frozen)))
    let s := out.foldl (fun s k =>
      match assocGet (s.plane p).bufs k.buf with
      | none => s
      | some f => ((s.pswCnt p e 9).capture p e true (s.plane p).now f.cls 11 false f.octets).bufDrop p k.buf) s
    s.eqShow p e c) s

/-- Freeze an egress port's queues: the cells of frames in them leave the occupancies of their ingress (p, c). -/
def State.freezePort (s : State) (p : Plane) (e : Nat) : State :=
  (List.range 8).foldl (fun s c =>
    let q := (s.plane p).queue e c
    let s := s.setPlane p ((s.plane p).setQueue e c (q.map (fun k => { k with frozen := true })))
    q.foldl (fun s k => s.freezeBuf p k.buf) s) s

/-- Let an egress port's frozen frames move again. -/
def State.thawPort (s : State) (p : Plane) (e : Nat) : State :=
  (List.range 8).foldl (fun s c =>
    let q := (s.plane p).queue e c
    s.setPlane p ((s.plane p).setQueue e c (q.map (fun k => { k with frozen := false })))) s

end Sys2Proof.Machine
end

