-- ==== Sys2Proof/Machine/Ports.lean ====
section
/-!
DEFINITION. The port MACs ("Ports and MACs"): modes and link state (R88 to R92), pause (R103 to R106), the management
MACs and their rings (R107 to R109), and the port counters (R111).
-/

namespace Sys2Proof.Machine
open Sys2Proof

/-- Does a plane port support a mode (Table 4.1)? Ports 0 to 7 are PB0 to PB7 of the plane, 8 and 9 its SB ports, 10 its
TK port; mode 0 disables any port. -/
def modeOk (i mode : Nat) : Bool :=
  if mode = 0 then true
  else if i ≤ 7 then decide (1 ≤ mode ∧ mode ≤ 4)
  else if i ≤ 9 then decide (2 ≤ mode ∧ mode ≤ 5)
  else if i = 10 then decide (4 ≤ mode ∧ mode ≤ 6)
  else false

/-- LINK changes, and CHANGE is set. -/
def State.setLink (s : State) (p : Plane) (i : Nat) (b : Bool) : State :=
  (s.setFld (.prt p i) F.PRT_STATUS_LINK (b2n b)).setBit (.prt p i) F.PRT_STATUS_CHANGE

/-- The receive frame of a port ends where reception stopped: discarded, RX_CODE, its cut-through copies stomped, and the cells
reserved beyond what had come returned (R91, R120, R122). -/
def State.truncateRx (s : State) (p : Plane) (i : Nat) : State :=
  let m := (s.plane p).port i
  match m.rx with
  | none => s
  | some r =>
    let s := s.setPlane p ((s.plane p).setPort i { m with rx := none })
    let s := (s.prtCnt (.prt p i) 3).prtCnt (.prt p i) 8
    let s := s.capture p i false r.stamp r.cls 4 (!r.cutTo.isEmpty) r.octets
    let s := r.cutTo.foldl (fun s e =>
      let me := (s.plane p).port e.1
      match me.tx with
      | some t => s.setPlane p ((s.plane p).setPort e.1 { me with tx := some { t with done := true, stomp := true } })
      | none => s) s
    match r.buf with
    | some b => (s.bufResize p b r.octets (cellsOf (frameLen r.octets)) none).bufDrop p b
    | none => s

/-- A frame being received is cut through to a port no more. -/
def PlaneSt.uncut (x : PlaneSt) (i e : Nat) : PlaneSt :=
  let m := x.port i
  match m.rx with
  | some r => x.setPort i { m with rx := some { r with cutTo := r.cutTo.filter (fun c => decide (c.1 ≠ e)) } }
  | none => x

/-- The frame being transmitted is abandoned at the next word: TX_ABORT (R91). A cut-through copy whose reception goes on leaves its
ingress port's list, and the reception goes on for the others. -/
def State.abortTx (s : State) (p : Plane) (i : Nat) : State :=
  let m := (s.plane p).port i
  match m.tx with
  | none => s
  | some t =>
    let s := s.setPlane p ((s.plane p).setPort i { m with tx := none })
    let s := if t.cut && !t.done then s.setPlane p ((s.plane p).uncut t.inPort i) else s
    let s := s.prtCnt (.prt p i) 17
    match t.buf with
    | some b => s.bufDrop p b
    | none => s

/-- The loss of a plane port's link (R91, R126): both frames end, LINK_DOWN is counted, and the hold of PSW_LINK_HOLD
freezes the egress queues, or flushes them when it is 0. -/
def State.linkDown (s : State) (p : Plane) (i : Nat) : State :=
  let s := (s.truncateRx p i).abortTx p i
  let s := (s.setLink p i false).prtCnt (.prt p i) 20
  let s := s.setFld (.prt p i) F.PRT_STATUS_AN_DONE 0
  let s := s.freezePort p i
  let hold := s.fld (.psw p) F.PSW_LINK_HOLD_HOLD
  if hold = 0 then s.flushPort p i
  else s.setPlane p ((s.plane p).setPort i { (s.plane p).port i with holdEnd := some ((s.plane p).now + hold * ms) })

/-- The end of a hold: with LINK still 0 the frozen frames are discarded and counted FLUSHED (R126). -/
def State.endHold (s : State) (p : Plane) (i : Nat) : State :=
  let s := s.setPlane p ((s.plane p).setPort i { (s.plane p).port i with holdEnd := none })
  if s.link p i then s else s.flushPort p i

/-- LINK_UP: the PCS has held lock without fault for LINK_DEB µs, with every lane locked in mode 6 and Clause 37 complete
in mode 2 with AN_EN (R90); a hold that has not ended lets transmission resume (R126). `locks` is the lane locks. -/
def execLinkUp (p : Plane) (port : Fin 11) (locks : Fin 16) (s : State) : Host.Outcome State Fault Refusal :=
  let i := port.val
  let mode := s.fld (.prt p i) F.PRT_CFG_MODE
  let locked := if mode = 6 then decide (locks.val = 15) else decide (locks.val % 2 = 1)
  if !s.planeUp p || decide (mode = 0) || !locked || s.link p i then ok s
  else
    let s := s.reachPlane p ((s.plane p).now + s.fld (.prt p i) F.PRT_CFG_LINK_DEB * us)
    let s := s.setFld (.prt p i) F.PRT_STATUS_LANE_LOCK locks.val
    let s := s.setFld (.prt p i) F.PRT_STATUS_ALIGNED (b2n (decide (mode = 6)))
    let s := s.setFld (.prt p i) F.PRT_STATUS_AN_DONE (b2n (decide (mode = 2) && s.bit (.prt p i) F.PRT_CFG_AN_EN))
    let s := s.setFld (.prt p i) F.PRT_STATUS_LOCAL_FAULT 0
    let s := s.setFld (.prt p i) F.PRT_STATUS_REMOTE_FAULT 0
    let s := match ((s.plane p).port i).holdEnd with
      | some h => if h < (s.plane p).now then s.endHold p i else s
      | none => s
    ok ((s.setLink p i true).thawPort p i)

/-- LINK_DOWN: a condition of R90 has failed for LINK_DEB µs: the link is lost (R91). `locks` is the lane locks left. -/
def execLinkDown (p : Plane) (port : Fin 11) (locks : Fin 16) (localFault remoteFault : Bool) (s : State) :
    Host.Outcome State Fault Refusal :=
  let i := port.val
  if !s.planeUp p || !s.link p i then ok s
  else
    let s := s.reachPlane p ((s.plane p).now + s.fld (.prt p i) F.PRT_CFG_LINK_DEB * us)
    let s := s.setFld (.prt p i) F.PRT_STATUS_LANE_LOCK locks.val
    let s := s.setFld (.prt p i) F.PRT_STATUS_ALIGNED 0
    let s := s.setFld (.prt p i) F.PRT_STATUS_LOCAL_FAULT (b2n localFault)
    let s := s.setFld (.prt p i) F.PRT_STATUS_REMOTE_FAULT (b2n remoteFault)
    ok (s.linkDown p i)

/-- The word a write leaves in PRT_CFG: an unsupported MODE and a LINK_DEB above 1,000 leave their fields unchanged (R88). -/
def prtCfgWord (i old new : Nat) : Nat :=
  let w := if modeOk i (bitsOf new 3 0) then new else bitsPut new 3 0 (bitsOf old 3 0)
  if 1000 < bitsOf new 31 16 then bitsPut w 31 16 (bitsOf old 31 16) else w

/-- A port retrains in a new setting (R92): no lane of it is locked or aligned until its PCS reports so, and no negotiation complete. -/
def State.retrain (s : State) (p : Plane) (i : Nat) : State :=
  ((s.setFld (.prt p i) F.PRT_STATUS_LANE_LOCK 0).setFld (.prt p i) F.PRT_STATUS_ALIGNED 0).setFld (.prt p i) F.PRT_STATUS_AN_DONE 0

/-- A write of a plane port's PRT_CFG: a change of mode, RS-FEC, auto-negotiation or polarity takes a link that is up
down at once, and the port retrains (R92). DEDUCED: so does a port whose link is down. -/
def State.writePrtCfg (s : State) (p : Plane) (i : Nat) (data : Word) : State :=
  let old := (s.rd (.prt p i) .PRT_CFG).toNat
  let new := prtCfgWord i old data.toNat
  let keyOf := fun w => (bitsOf w 15 6, bitsOf w 3 0)
  let s := s.wr (.prt p i) .PRT_CFG 0 (BitVec.ofNat 32 new)
  if keyOf old = keyOf new then s
  else (if s.bit (.prt p i) F.PRT_STATUS_LINK then s.linkDown p i else s).retrain p i

/-- PRT_CFG_WRITE: a write of PRT_CFG (R88, R92). -/
def execPrtCfgWrite (p : Plane) (port : Fin 11) (data : Word) (s : State) : Host.Outcome State Fault Refusal :=
  if !s.planeUp p then ok s else ok (s.writePrtCfg p port.val data)

/-! Pause. -/

/-- How long a frame's bytes take at a rate in Mbit/s. -/
def wireTime (len rate : Nat) : Nat := if rate = 0 then 0 else len * 8 * us / rate

/-- The register page of a MAC: a plane's port 0 to 10, or 11 and 12 for MG0 and MG1. -/
def macPage (p : Plane) (i : Nat) : Page := if i < 11 then .prt p i else .mg (i - 11)

/-- The MAC of a port. -/
def State.mac (s : State) (p : Plane) (i : Nat) : PortMac :=
  if i < 11 then (s.plane p).port i else assocGetD s.com.mg (i - 11) .empty

/-- Store the MAC of a port. -/
def State.setMac (s : State) (p : Plane) (i : Nat) (m : PortMac) : State :=
  if i < 11 then s.setPlane p ((s.plane p).setPort i m)
  else { s with com := { s.com with mg := assocPut s.com.mg (i - 11) m } }

/-- Does a MAC receive: its domain UP, RX_EN set, and its link up, or no half duplex on MG? -/
def State.macRx (s : State) (p : Plane) (i : Nat) : Bool :=
  if i < 11 then s.planeUp p && s.link p i && s.bit (.prt p i) F.PRT_CFG_RX_EN
  else s.up .common && s.bit (.mg (i - 11)) F.PRT_CFG_RX_EN && !s.bit (.mg (i - 11)) F.PRT_STATUS_HDX

/-- Is a MAC's domain UP? -/
def State.macUp (s : State) (p : Plane) (i : Nat) : Bool := if i < 11 then s.planeUp p else s.up .common

/-- The clock a MAC times pauses with: its plane's, or elapsed time in Common. -/
def State.macNow (s : State) (p : Plane) (i : Nat) : Nat := if i < 11 then (s.plane p).now else s.real

/-- The data rate of a MAC in Mbit/s; an MG port's SPEED. -/
def State.macRate (s : State) (p : Plane) (i : Nat) : Nat :=
  if i < 11 then s.portRate p i
  else
    match s.fld (.mg (i - 11)) F.PRT_STATUS_SPEED with
    | 0 => 10 | 1 => 100 | _ => 1000

/-- Count a faulty frame: RX_BAD and the one cause of R96, in its order of precedence. -/
def State.countBad (s : State) (pg : Page) (len maxlen : Nat) (e : RxKind) : State :=
  let k :=
    match e with
    | .code => 8
    | _ =>
      if len < 64 then 6
      else if maxlen < len then 7
      else match e with
        | .stomped => 5
        | _ => 4
  (s.prtCnt pg 3).prtCnt pg k

/-- Is a received frame free of fault? -/
def rxGood (len maxlen : Nat) (e : RxKind) : Bool := decide (e = .good) && decide (64 ≤ len) && decide (len ≤ maxlen)

/-- PRT_PAUSE_STATE follows the running pauses. -/
def State.pauseShow (s : State) (p : Plane) (i : Nat) : State :=
  let m := s.mac p i
  let cls := ((List.range 8).map (fun c => if (assocGet m.clsPauseEnd c).isSome then 2 ^ c else 0)).sum
  let s := s.setFld (macPage p i) F.PRT_PAUSE_STATE_PAUSED (b2n m.pauseEnd.isSome)
  s.setFld (macPage p i) F.PRT_PAUSE_STATE_CLASS_PAUSED cls

/-- The octets of a PAUSE or PFC frame, without FCS: 60 octets to 01-80-C2-00-00-01 (R105). -/
def pauseOct (mac : Nat) (pfc : Bool) (enables : Nat) (q : List Nat) : List Byte :=
  let head := [0x01, 0x80, 0xC2, 0x00, 0x00, 0x01] ++ natBe 6 mac ++ [0x88, 0x08]
  let body := if pfc then [0x01, 0x01] ++ natBe 2 enables ++ q.flatMap (natBe 2) else [0x00, 0x01] ++ natBe 2 (q.getD 0 0)
  padOct false (head ++ body)

/-- Is a pause frame due on an idle port that may send one (R105)? A pause received does not stop it. -/
def State.pauseReady (s : State) (p : Plane) (i : Nat) : Bool :=
  let m := (s.plane p).port i
  s.planeUp p && m.tx.isNone && (m.pfcDue || m.pauseDue) && s.link p i && s.bit (.prt p i) F.PRT_CFG_TX_EN

/-- The due pause frame of a port starts: XOFF quanta while requested, 0 when the request has ended, a class enabled in its PFC frame
in both cases; PFC before classic PAUSE when both are due (R105). -/
def State.pauseSend (s : State) (p : Plane) (i : Nat) : State :=
    let m := (s.plane p).port i
    let xoff := s.fld (.prt p i) F.PRT_PAUSE_QUANTA_XOFF
    let pfc := m.pfcDue
    let cls := m.xoff.filter (fun k => decide (k < 16))
    let classic := m.xoff.any (fun k => decide (16 ≤ k))
    let mac := s.macAddr p i
    let o := if pfc then pauseOct mac true ((List.range 8).map (fun c => if cls.contains c || m.pfcEnded.contains c then 2 ^ c else 0)).sum ((List.range 8).map (fun c => if cls.contains c then xoff else 0))
      else pauseOct mac false 0 [if classic then xoff else 0]
    let st := s.txStamp p i
    let sent := (m.xoff.filter (fun k => decide ((k < 16) = pfc))).foldl (fun l k =>
      if (assocGet l k).isSome then l else assocPut l k st) m.pauseSent
    let refresh := if m.xoff.isEmpty then none
      else some ((s.plane p).now + quantaTime (s.fld (.prt p i) F.PRT_PAUSE_QUANTA_REFRESH) (s.portRate p i))
    let t : TxFrame := ⟨o, none, false, 0, false, true, false, i, 0, (s.plane p).now, st, if pfc then 2 else 1, none⟩
    let m := if pfc then { m with pfcDue := false, pfcEnded := [] } else { m with pauseDue := false }
    s.setPlane p ((s.plane p).setPort i { m with tx := some t, pauseSent := sent, refreshAt := refresh })

/-- PAUSE_FRAME_SEND: at the frame boundary a due pause frame starts, ahead of every queued frame (R105). -/
def execPauseFrameSend (p : Plane) (port : Fin 11) (s : State) : Host.Outcome State Fault Refusal :=
  if s.pauseReady p port.val then ok (s.pauseSend p port.val) else ok s

/-- PAUSE_REFRESH: REFRESH quanta after the last pause frame a request that lasts makes the next one due (R105). -/
def execPauseRefresh (p : Plane) (port : Fin 11) (s : State) : Host.Outcome State Fault Refusal :=
  let i := port.val
  match ((s.plane p).port i).refreshAt with
  | none => ok s
  | some t =>
    if !s.planeUp p then ok s
    else
      let s := s.reachPlane p t
      let m := (s.plane p).port i
      ok (s.setPlane p ((s.plane p).setPort i
        { m with refreshAt := none, pfcDue := m.pfcDue || m.xoff.any (fun k => decide (k < 16)),
                 pauseDue := m.pauseDue || m.xoff.any (fun k => decide (16 ≤ k)) }))

/-- LINK_HOLD_EXPIRE: the hold ends; with LINK still 0 every frozen frame is discarded and counted FLUSHED (R126). -/
def execLinkHoldExpire (p : Plane) (port : Fin 11) (s : State) : Host.Outcome State Fault Refusal :=
  match ((s.plane p).port port.val).holdEnd with
  | none => ok s
  | some t => if !s.planeUp p then ok s else ok ((s.reachPlane p t).endHold p port.val)

/-! Management MACs. -/

/-- Is a destination accepted by an MG filter (R107)? -/
def State.mgAccepts (s : State) (i dmac : Nat) : Bool :=
  (decide (dmac = 2 ^ 48 - 1) && s.bit (.mg i) F.PRT_MG_CTL_BCAST_EN) ||
    (List.range 16).any (fun n => s.bit (.mg i) F.PRT_MG_FILT_HI_EN n &&
      decide (dmac = (s.rd (.mg i) .PRT_MG_FILT_LO n).toNat + 2 ^ 32 * s.fld (.mg i) F.PRT_MG_FILT_HI_ADDR n))

/-- A ring of an MG MAC: its base address and how many descriptors it holds, 0 when disabled. -/
def State.mgRing (s : State) (i : Nat) (tx : Bool) : Nat × Nat :=
  let pg : Page := .mg i
  let lo := if tx then (s.rd pg .PRT_MG_TXBASE_LO).toNat else (s.rd pg .PRT_MG_RXBASE_LO).toNat
  let hi := if tx then s.fld pg F.PRT_MG_TXBASE_HI_ADDR_HI else s.fld pg F.PRT_MG_RXBASE_HI_ADDR_HI
  let sz := if tx then s.fld pg F.PRT_MG_TXBASE_HI_SIZE_LOG2 else s.fld pg F.PRT_MG_RXBASE_HI_SIZE_LOG2
  (lo / 64 * 64 + 2 ^ 32 * hi, if sz = 0 then 0 else 2 ^ sz)

/-- Send the owned descriptors of an MG transmit ring in ring order, at most `fuel` of them (R109). -/
def State.mgSend (s : State) (i : Nat) : Nat → State
  | 0 => s
  | fuel + 1 =>
    let pg : Page := .mg i
    let (base, n) := s.mgRing i true
    let m := s.mac .a (11 + i)
    let d := base + 16 * m.mgTx
    match s.upLanes with
    | [] => s
    | l :: ls =>
      if n = 0 ∨ s.recF l d E.T4_3_OWN = 0 then s
      else
        let len := s.recF l d E.T4_3_LEN
        let o := s.mem l (s.recF l d E.T4_3_BUF_ADDR) len
        let same := ls.all (fun k => decide (s.mem k d 16 = s.mem l d 16) && decide (s.mem k (s.recF k d E.T4_3_BUF_ADDR) len = o))
        let good := same && decide (60 ≤ len) && decide (len ≤ s.fld pg F.PRT_MAXLEN_MAXLEN - 4)
        let s :=
          if good then (s.prtCnt pg 12).prtBytes pg 13 (frameLen (padOct false o))
          else s.prtCnt pg 25
        let s := s.upLanes.foldl (fun s l =>
          let s := if good then s else s.setRecF l d E.T4_3_ERR 1
          (s.setRecF l d E.T4_3_OWN 0).dirty l 4 d 16) s
        let m := s.mac .a (11 + i)
        let s := s.setMac .a (11 + i) { m with mgTx := (m.mgTx + 1) % n, sent := if good then lineOct (padOct false o) none false else m.sent }
        let s := if s.bit pg F.PRT_MG_CTL_TX_IE then s.mgrVector (51 + 2 * i) else s
        s.mgSend i fuel

/-- An MG MAC whose transmission was kicked while it was paused starts when the pause has ended (R104, R109). -/
def State.mgResume (s : State) (p : Plane) (i : Nat) : State :=
  let m := s.mac p i
  if i < 11 || !m.mgKick || m.pauseEnd.isSome || !s.bit (.mg (i - 11)) F.PRT_CFG_TX_EN then s
  else (s.setMac p i { m with mgKick := false }).mgSend (i - 11) 4096

/-- MG_TX_KICK: descriptors with OWN = 1 are compared between the lanes and sent; while the port is paused they wait for the end
of the pause (R106, R109). DESIGN CHOICE: a KICK written while PRT_CFG.TX_EN = 0 is lost (log entry 75). -/
def execMgTxKick (i : Fin 2) (s : State) : Host.Outcome State Fault Refusal :=
  if !s.up .common || !s.bit (.mg i.val) F.PRT_CFG_TX_EN then ok s
  else
    let m := s.mac .a (11 + i.val)
    if m.pauseEnd.isSome then ok (s.setMac .a (11 + i.val) { m with mgKick := true }) else ok (s.mgSend i.val 4096)

/-- The limit that held for a frame whose first byte came to a MAC at `stamp` (R99). -/
def State.rxLimit (s : State) (p : Plane) (i stamp : Nat) : Nat :=
  limitAt (s.mac p i).lims (s.fld (macPage p i) F.PRT_MAXLEN_MAXLEN) stamp

/-- A received MAC control frame with its fault found and its opcode and quanta read (R103): the port consumes it; PAUSE stops the port
and PFC stops classes for their quanta where enabled, a new time replacing the old (R104, R106). -/
def State.macControl (s : State) (p : Plane) (i maxlen : Nat) (o : List Byte) (e : RxEnd) : State :=
  let pg := macPage p i
  let len := frameLen o
  let k := rxKind o e
  let a := etypeAt o + 2
  let op := oct2 o a
  let s := s.fecCount p i e
  if !rxGood len maxlen k then s.countBad pg len maxlen k
  else if op = 0x0001 then
    let s := s.prtCnt pg 9
    if !s.bit pg F.PRT_PAUSE_CFG_RX_PAUSE || decide (s.fld pg F.PRT_PAUSE_CFG_RX_PFC ≠ 0) then s
    else
      let q := oct2 o (a + 2)
      let t := if q = 0 then none else some (s.macNow p i + quantaTime q (s.macRate p i))
      ((s.setMac p i { s.mac p i with pauseEnd := t }).pauseShow p i).mgResume p i
  else if op = 0x0101 then
    let s := s.prtCnt pg 10
    let s := (List.range 8).foldl (fun s c =>
      if bitAt (oct2 o (a + 2)) c && bitAt (s.fld pg F.PRT_PAUSE_CFG_RX_PFC) c && decide (i < 11) then
        let q := oct2 o (a + 4 + 2 * c)
        let m := s.mac p i
        let l := if q = 0 then assocDel m.clsPauseEnd c
          else assocPut m.clsPauseEnd c (s.macNow p i + quantaTime q (s.macRate p i))
        s.setMac p i { m with clsPauseEnd := l }
      else s) s
    s.pauseShow p i
  else s.prtCnt pg 11

/-- The octets of a MAC control frame (R103): the addresses, EtherType 0x8808, and what follows it up to the FCS. -/
def macControlOct (dst src : BitVec 48) (body : List Byte) : List Byte :=
  natBe 6 dst.toNat ++ natBe 6 src.toNat ++ [0x88, 0x08] ++ body

/-- MAC_CONTROL_FRAME_RECEIVED: a frame with EtherType 0x8808 has ended on a port (R103). Ports 11 and 12 stand for MG0 and MG1. -/
def execMacControlFrameReceived (p : Plane) (port : Fin 13) (dst src : BitVec 48) (body : List Byte) (e : RxEnd) (s : State) :
    Host.Outcome State Fault Refusal :=
  let i := port.val
  let o := macControlOct dst src body
  if !s.macRx p i then ok s
  else ok (s.macControl p i (s.rxLimit p i (s.macNow p i - wireTime (frameLen o) (s.macRate p i))) o e)

/-- MG_FRAME_RECEIVED: a fault-free frame the filter accepts goes to the next receive descriptor with OWN = 1, in every
lane that is UP, and the receive interrupt is raised (R107, R108). A MAC control frame is consumed (R103, R106). -/
def execMgFrameReceived (i : Fin 2) (f : Frame) (e : RxEnd) (s : State) : Host.Outcome State Fault Refusal :=
  let pg : Page := .mg i.val
  let len := frameLen f.octets
  let k := rxKind f.octets e
  let maxlen := s.rxLimit .a (11 + i.val) (s.real - wireTime len (s.macRate .a (11 + i.val)))
  if !s.macRx .a (11 + i.val) then ok s
  else if etypeOf f.octets = 0x8808 then ok (s.macControl .a (11 + i.val) maxlen f.octets e)
  else if !rxGood len maxlen k then ok (s.countBad pg len maxlen k)
  else
    let s := (s.prtCnt pg 0).prtBytes pg 1 len
    if !s.mgAccepts i.val (dmacOf f.octets) then ok (s.prtCnt pg 23)
    else
      let (base, n) := s.mgRing i.val false
      let m := s.mac .a (11 + i.val)
      match s.upLanes with
      | [] => ok (s.prtCnt pg 24)
      | l :: _ =>
        let d := base + 16 * m.mgRx
        if n = 0 ∨ s.recF l d E.T4_3_OWN = 0 ∨ s.recF l d E.T4_3_BUF_LEN < len - 4 then ok (s.prtCnt pg 24)
        else
          let buf := s.recF l d E.T4_3_BUF_ADDR
          let s := s.upLanes.foldl (fun s l =>
            let s := s.memWLog l 4 buf f.octets
            let s := s.setRecF l d E.T4_3_LEN (len - 4)
            (s.setRecF l d E.T4_3_OWN 0).dirty l 4 d 16) s
          let s := s.setMac .a (11 + i.val) { m with mgRx := (m.mgRx + 1) % n }
          if s.bit pg F.PRT_MG_CTL_RX_IE then ok (s.mgrVector (50 + 2 * i.val)) else ok s

/-- PAUSE_EXPIRE: the pause time of a class, or of the port (8), runs out and transmission resumes (R104). -/
def execPauseExpire (p : Plane) (port : Fin 13) (cls : Fin 9) (s : State) : Host.Outcome State Fault Refusal :=
  let i := port.val
  let m := s.mac p i
  let due := if cls.val = 8 then m.pauseEnd else assocGet m.clsPauseEnd cls.val
  match due with
  | none => ok s
  | some t =>
    if !s.macUp p i then ok s
    else
      let s := if i < 11 then s.reachPlane p t else s.reachReal t
      let m := s.mac p i
      let m := if cls.val = 8 then { m with pauseEnd := none } else { m with clsPauseEnd := assocDel m.clsPauseEnd cls.val }
      ok (((s.setMac p i m).pauseShow p i).mgResume p i)

/-- A write to an MG ring base register: a SIZE_LOG2 outside 0 and 4 to 12 leaves that field, and the ring restarts at
descriptor 0. -/
def State.writeMgBase (s : State) (i : Nat) (tx hi : Bool) (data : Word) : State :=
  let pg : Page := .mg i
  let r : RegId := match tx, hi with
    | true, true => .PRT_MG_TXBASE_HI
    | true, false => .PRT_MG_TXBASE_LO
    | false, true => .PRT_MG_RXBASE_HI
    | false, false => .PRT_MG_RXBASE_LO
  let old := (s.rd pg r).toNat
  let sz := bitsOf data.toNat 31 28
  let w :=
    if hi then
      (if sz = 0 ∨ (4 ≤ sz ∧ sz ≤ 12) then sz else bitsOf old 31 28) * 2 ^ 28 + data.toNat % 65536
    else data.toNat / 64 * 64
  let s := s.wr pg r 0 (BitVec.ofNat 32 w)
  let m := s.mac .a (11 + i)
  s.setMac .a (11 + i) (if tx then { m with mgTx := 0 } else { m with mgRx := 0 })

/-- MG_RING_BASE_WRITE: a ring base register is written and its ring restarts at descriptor 0 (R109). -/
def execMgRingBaseWrite (i : Fin 2) (tx hi : Bool) (data : Word) (s : State) : Host.Outcome State Fault Refusal :=
  if !s.up .common then ok s else ok (s.writeMgBase i.val tx hi data)

/-- Every counter of a MAC is cleared, with the HI words latched for the next read (R111). -/
def State.prtClr (s : State) (p : Plane) (i : Nat) : State :=
  let s := s.clrRow (macPage p i) .PRT_CNT 26
  s.setMac p i { s.mac p i with rxHi := 0, txHi := 0 }

/-- PRT_CNT_CLR: every counter of a port is cleared (R111). -/
def execPrtCntClr (p : Plane) (port : Fin 15) (s : State) : Host.Outcome State Fault Refusal :=
  if !s.planeUp p then ok s
  else if port.val < 11 then ok (s.prtClr p port.val) else ok (s.clrRow (.prt p port.val) .PRT_CNT 26)

/-- A write of PRT_MAXLEN: outside 1,518 to 9,216 it leaves the field; a frame whose first byte came before it keeps the limit it had
(R99). Limits that no frame on the line can still need are forgotten: 10 ms carry 9,216 bytes at 10 Mbit/s. -/
def State.writeMaxlen (s : State) (p : Plane) (i : Nat) (data : Word) : State :=
  let v := data.toNat % 2 ^ 14
  if v < 1518 ∨ 9216 < v then s
  else
    let m := s.mac p i
    let old := s.fld (macPage p i) F.PRT_MAXLEN_MAXLEN
    let now := s.macNow p i
    let s := s.setMac p i { m with lims := m.lims.filter (fun w => decide (now ≤ w.1 + 10 * ms)) ++ [(now, old)] }
    s.setFld (macPage p i) F.PRT_MAXLEN_MAXLEN v

end Sys2Proof.Machine
end

