-- ==== Sys2Proof/Machine/Switch.lean ====
section
/-!
DEFINITION. The switch core ("Switch planes"): classes (R112), forwarding (R113, R114), learning and ageing (R115), the
change log (R116), cut-through (R118 to R120), dequeue and transmission (R79, R97, R100, R101, R110, R125), HSR (R129),
supervision (R128), and the inter-plane link (R131).
-/

namespace Sys2Proof.Machine
open Sys2Proof

/-! Tables. -/

/-- The numbers of the entries of a table window that hold something, rising. -/
def State.entries (s : State) (base size stride : Nat) : List Nat := ((s.range base size).map (fun e => e.1 / stride)).dedup

/-- The address of an active FDB entry. -/
def fdbAddr (p : Plane) (k : Nat) : Nat := winAddr (.psw p) .pswFdbAct (16 * k)

/-- The address of an active stream entry. -/
def strAddr (p : Plane) (k : Nat) : Nat := winAddr (.psw p) .pswStrAct (16 * k)

/-- The address of an active VLAN entry. -/
def vlanAddr (p : Plane) (v : Nat) : Nat := winAddr (.psw p) .pswVlanAct (4 * v)

/-- The valid active FDB entries, rising. -/
def State.fdbValid (s : State) (p : Plane) : List Nat :=
  (s.entries (fdbAddr p 0) 0x100000 16).filter (fun k => decide (s.ent (fdbAddr p k) E.T5_1_VALID = 1))

/-- The lowest valid FDB entry for an address and VID. -/
def State.fdbFind (s : State) (p : Plane) (mac vid : Nat) : Option Nat :=
  (s.fdbValid p).find? (fun k => decide (s.ent (fdbAddr p k) E.T5_1_MAC = mac ∧ s.ent (fdbAddr p k) E.T5_1_VID = vid))

/-- The lowest number from `k` on that a rising list does not hold. -/
def firstFree : List Nat → Nat → Nat
  | [], k => k
  | u :: t, k => if u = k then firstFree t (k + 1) else k

/-- The stream entry for a group address and VID: exact entries first, then range entries, the lower index first (R113). -/
def State.strFind (s : State) (p : Plane) (mac vid : Nat) : Option Nat :=
  let v := (s.entries (strAddr p 0) 0x40000 16).filter (fun k =>
    decide (s.ent (strAddr p k) E.T5_2_VALID = 1 ∧ s.ent (strAddr p k) E.T5_2_VID = vid))
  let exact := v.find? (fun k => decide (s.ent (strAddr p k) E.T5_2_IGN = 0 ∧ s.ent (strAddr p k) E.T5_2_DMAC = mac))
  match exact with
  | some k => some k
  | none => v.find? (fun k =>
      let g := s.ent (strAddr p k) E.T5_2_IGN
      decide (g ≠ 0 ∧ mac / 2 ^ g = s.ent (strAddr p k) E.T5_2_DMAC / 2 ^ g))

/-- A frame matches a stream entry: its HITS counts it (Table 5.2). -/
def State.strHit (s : State) (p : Plane) (k : Nat) : State := s.setEnt (strAddr p k) E.T5_2_HITS (s.ent (strAddr p k) E.T5_2_HITS + 1)

/-- A learning or ageing change enters the change log while a build runs; the 4,097th sets OVERFLOW (R116). -/
def State.fdbLog (s : State) (p : Plane) (e : LogEnt) : State :=
  let pg : Page := .psw p
  if !s.bit pg F.PSW_TBL_STATUS_BUILDING || s.bit pg F.PSW_TBL_STATUS_OVERFLOW then s
  else if 4096 ≤ (s.plane p).log.length then s.setBit pg F.PSW_TBL_STATUS_OVERFLOW
  else
    let x := s.plane p
    (s.setPlane p { x with log := x.log ++ [e] }).setFld pg F.PSW_TBL_STATUS_LOG_COUNT (x.log.length + 1)

/-- The words 0 and 1 of an FDB entry as one number. -/
def fdbKey (mac vid : Nat) : Nat := mac + vid * 2 ^ 48 + 2 ^ 63

/-- Whole seconds of the plane clock. -/
def State.planeSec (s : State) (p : Plane) : Nat := (s.plane p).now / sec

/-- A source address is learned (R115): over a dynamic entry of its key, or at the lowest free index; a static entry of the key at any
index blocks it. -/
def State.learn (s : State) (p : Plane) (mac vid port : Nat) : State :=
  let put := fun (s : State) (k : Nat) =>
    let a := fdbAddr p k
    let changed := decide (s.winWords a 3 ≠ fdbKey mac vid + port * 2 ^ 64)
    let s := (s.setWinWords a 2 (fdbKey mac vid)).setWinWords (a + 8) 1 port
    let x := s.plane p
    let s := s.setPlane p { x with fdbSeen := assocPut x.fdbSeen k (s.planeSec p) }
    if changed then s.fdbLog p ⟨false, fdbKey mac vid, port⟩ else s
  let same := (s.fdbValid p).filter (fun k => decide (s.ent (fdbAddr p k) E.T5_1_MAC = mac ∧ s.ent (fdbAddr p k) E.T5_1_VID = vid))
  if same.any (fun k => decide (s.ent (fdbAddr p k) E.T5_1_STATIC = 1)) then s
  else
    match same with
    | k :: _ => put s k
    | [] =>
      let k := firstFree (s.fdbValid p) 0
      if k < 65536 then put s k else s.pswPcnt p 2

/-- FDB_AGE_OUT: a dynamic entry not refreshed for MAC_AGE seconds is removed; 0 disables ageing (R115). -/
def execFdbAgeOut (p : Plane) (k : Fin 65536) (s : State) : Host.Outcome State Fault Refusal :=
  let a := fdbAddr p k.val
  let age := s.fld (.psw p) F.PSW_CTRL_MAC_AGE
  if !s.planeUp p || decide (age = 0) || decide (s.ent a E.T5_1_VALID = 0) || decide (s.ent a E.T5_1_STATIC = 1) then ok s
  else
    let seen := assocGetD (s.plane p).fdbSeen k.val 0
    let s := s.reachPlane p ((seen + age) * sec)
    let key := s.winWords a 2
    let s := s.setWinWords a 4 0
    let x := s.plane p
    let s := s.setPlane p { x with fdbSeen := assocDel x.fdbSeen k.val }
    ok (s.fdbLog p ⟨true, key, 0⟩)

/-! Forwarding. -/

/-- The class of a frame (R112), before any stream entry replaces it. -/
def State.classOf (s : State) (p : Plane) (i : Nat) (o : List Byte) : Nat :=
  if tagged o then
    let pcp := oct2 o 14 / 2 ^ 13
    bitsOf (s.rd (.psw p) .PSW_PCP_MAP).toNat (3 * pcp + 2) (3 * pcp)
  else s.fld (.pswPort p i) F.PSW_PORT_CFG_DEF_CLASS

/-- The VID of a frame: its tag's, or PVID when untagged or priority-tagged (R113). -/
def State.vidOf (s : State) (p : Plane) (i : Nat) (o : List Byte) : Nat :=
  let v := if tagged o then oct2 o 14 % 4096 else 0
  if v = 0 then s.fld (.pswPort p i) F.PSW_PORT_CFG_PVID else v

/-- The class of a frame that a stream entry decides: CLASS_OVR replaces what R112 gives. -/
def State.strClass (s : State) (p : Plane) (k cls : Nat) : Nat :=
  if s.ent (strAddr p k) E.T5_2_CLASS_OVR = 1 then s.ent (strAddr p k) E.T5_2_CLASS else cls

/-- What the tables say of a frame: its egress ports, its class, and whether a stream entry permits cut-through. -/
structure Route where
  ports : List Nat
  cls : Nat
  cutOk : Bool
  vid : Nat
  deriving DecidableEq, Repr

/-- The ports of a mask. -/
def maskPorts (m : Nat) : List Nat := (List.range 15).filter (fun p => bitAt m p)

/-- Steps 4 and 5 of R113: the egress set of a frame that its VLAN admits. -/
def State.route (s : State) (p : Plane) (i : Nat) (o : List Byte) : Route × State :=
  let vid := s.vidOf p i o
  let cls := s.classOf p i o
  let d := dmacOf o
  let v := vlanAddr p vid
  let flood := (maskPorts (s.ent v E.T5_3_MEMBER)).filter (fun e => decide (e ≠ i ∧ e < 11))
  if isGroup d then
    match s.strFind p d vid with
    | some k =>
      let a := strAddr p k
      let s' := s.strHit p k
      (⟨(maskPorts (s.ent a E.T5_2_EGRESS)).filter (fun e => decide (e ≠ i)), s.strClass p k cls, decide (s.ent a E.T5_2_CUT_OK = 1), vid⟩, s')
    | none =>
      if d = 2 ^ 48 - 1 ∨ s.ent v E.T5_3_MC_FLOOD = 1 then (⟨flood, cls, true, vid⟩, s) else (⟨[], cls, true, vid⟩, s)
  else
    match s.fdbFind p d vid with
    | some k =>
      let e := s.ent (fdbAddr p k) E.T5_1_PORT
      (⟨if e = i then [] else [e], cls, true, vid⟩, s)
    | none => (⟨flood, cls, true, vid⟩, s)

/-- Is the plane in HSR mode? -/
def State.hsr (s : State) (p : Plane) : Bool := decide (s.fld (.psw p) F.PSW_CTRL_RED_MODE = 2)

/-- The HSR ring port. -/
def State.ringPort (s : State) (p : Plane) : Nat := s.fld (.psw p) F.PSW_RED_CFG_RING_PORT

/-- The HSR sequence number of a frame, when it carries an HSR tag (EtherType 0x892F). -/
def hsrSeq (o : List Byte) : Nat := oct2 o (etypeAt o + 4)

/-- Does a plane's duplicate table hold a source and sequence number? -/
def PlaneSt.hsrHas (x : PlaneSt) (mac seq : Nat) : Bool := x.hsr.any (fun e => decide (e.mac = mac ∧ e.seq = seq))

/-- A frame received on the ring port (R129): its route, whether its verdict is HSR_DUP or HSR_OWN, and the state. -/
def State.ringRoute (s : State) (p : Plane) (o : List Byte) : Route × Bool × State :=
  let vid := s.vidOf p (s.ringPort p) o
  let cls := s.classOf p (s.ringPort p) o
  let own := s.macAddr p (s.ringPort p)
  let src := smacOf o
  let seq := hsrSeq o
  if src = own then (⟨[], cls, false, vid⟩, true, s.pswPcnt p 4)
  else
    let x := s.plane p
    let s := if x.hsrHas src seq then s
      else
        let l := if 4096 ≤ x.hsr.length then x.hsr.drop 1 else x.hsr
        s.setPlane p { x with hsr := l ++ [⟨src, seq, x.now⟩] }
    if !isGroup (dmacOf o) && decide (dmacOf o = own) then (⟨[11, 12], cls, false, vid⟩, false, s)
    else
      let (lanes, cls, s) := match s.strFind p (dmacOf o) vid with
        | some k => ((maskPorts (s.ent (strAddr p k) E.T5_2_EGRESS)).filter (fun e => decide (e = 11 ∨ e = 12)), s.strClass p k cls, s.strHit p k)
        | none => ([], cls, s)
      if (s.plane p.other).hsrHas src seq then (⟨lanes, cls, false, vid⟩, true, s.pswPcnt p 3)
      else (⟨lanes ++ [13], cls, true, vid⟩, false, s)

/-- Does a plane run on the boot table: its EPS has armed and its SWITCH region has not committed (R421)? -/
def State.epsSwitching (s : State) (p : Plane) : Bool := !(s.plane p).switched && !(s.plane p).eps.isEmpty

/-- The forwarding decision of R113: the route, the receive verdict (0 FORWARDED, 1 FILTERED, 5 HSR), and the state. While
the plane runs on the boot table, a frame that matches one of its stream entries goes to the lanes, and no other does (R421). A ring
frame passed over IP goes to the ring port whatever the VLAN tables say, and no other frame enters the ring or the link to it (R129).
DESIGN CHOICE: outside HSR a frame that arrives over IP is forwarded by R113 with port 13's PVID and MEMBER bit (log entry 75). -/
def State.decideRoute (s : State) (p : Plane) (i : Nat) (o : List Byte) : Route × Nat × State :=
  let vid := s.vidOf p i o
  let v := vlanAddr p vid
  let none_ : Route := ⟨[], s.classOf p i o, false, vid⟩
  let filtered := fun (s : State) => (none_, 1, s.pswCnt p i 2)
  if s.epsSwitching p then
    match s.strFind p (dmacOf o) vid with
    | some k => (⟨[11, 12], s.strClass p k (s.classOf p i o), false, vid⟩, 0, s.strHit p k)
    | none => filtered s
  else if !s.bit (.psw p) F.PSW_CTRL_EN || !s.bit (.pswPort p i) F.PSW_PORT_CFG_FWD_EN then filtered s
  else if s.hsr p && decide (i = 13) then (⟨[s.ringPort p], s.classOf p i o, true, vid⟩, 0, s)
  else if s.ent v E.T5_3_VALID = 0 ∨ !bitAt (s.ent v E.T5_3_MEMBER) i then filtered s
  else if s.hsr p && decide (i = s.ringPort p) then
    let (r, dup, s) := s.ringRoute p o
    if dup then (r, 5, s) else if r.ports.isEmpty then filtered s else (r, 0, s)
  else
    let (r, s) := s.route p i o
    let ports := if s.hsr p then r.ports.filter (fun e => decide (e ≠ s.ringPort p ∧ e ≠ 13)) else r.ports
    if ports.isEmpty then filtered s else ({ r with ports := ports }, 0, s)

/-- Is the other plane cutting a frame through into the inter-plane link (R118)? What arrives over IP meanwhile is that frame. -/
def State.ipCutting (s : State) (p : Plane) : Bool := (((s.plane p.other).port 13).tx.map (fun t => t.cut)).getD false

/-- May a frame be cut through from i to e (R118, R119, R100)? The inter-plane link has no rate in Table 4.1. -/
def State.cutThrough (s : State) (p : Plane) (i e : Nat) (r : Route) : Bool :=
  let m := (s.plane p).port e
  let ext := fun (n : Nat) => decide (n ≤ 10)
  (ext i || (decide (i = 13) && s.ipCutting p)) && (ext e || (decide (e = 13) && s.bit (.psw p) F.PSW_CTRL_IP_CUT)) &&
    s.bit (.pswPort p i) F.PSW_PORT_CFG_CUT_EN && s.bit (.pswPort p e) F.PSW_PORT_CFG_CUT_EN &&
    (!(ext i && ext e) || decide (s.portRate p e ≤ s.portRate p i)) &&
    decide (s.fld (.prt p i) F.PRT_MAXLEN_MAXLEN ≤ s.fld (.prt p e) F.PRT_MAXLEN_MAXLEN) &&
    r.cutOk && s.link p e && (!ext e || s.bit (.prt p e) F.PRT_CFG_TX_EN) &&
    m.pauseEnd.isNone && (assocGet m.clsPauseEnd r.cls).isNone && m.tx.isNone &&
    (List.range 8).all (fun c => ((s.plane p).queue e c).isEmpty)

/-- Does an egress port leave the tag off (step 6 of R113)? -/
def State.untags (s : State) (p : Plane) (e vid : Nat) : Bool :=
  decide (e ≤ 10) && bitAt (s.ent (vlanAddr p vid) E.T5_3_UNTAG) e

/-- Does a plane receive on a port: its domain UP, its link up and RX_EN set on an external port? -/
def State.receives (s : State) (p : Plane) (i : Nat) : Bool :=
  s.planeUp p && s.link p i && (decide (11 ≤ i) || s.bit (.prt p i) F.PRT_CFG_RX_EN)

/-- The forwarding decision on a port's frame, with cut-through copies started and their cells reserved (R113, R118, R122), and the copies
for ports that are down discarded (R126). -/
def State.decision (s : State) (p : Plane) (i stamp : Nat) (o : List Byte) : State :=
  let (r, verdict, s) := s.decideRoute p i o
  let maxlen := s.rxLimit p i stamp
  let cut := r.ports.filter (fun e => s.cutThrough p i e r)
  let (left, s) := s.downDrop p r.cls o (r.ports.filter (fun e => !cut.contains e))
  let with_ := fun (e : Nat) => (e, s.untags p e r.vid)
  let put := fun (s : State) (x : RxFrame) => s.setPlane p ((s.plane p).setPort i { (s.plane p).port i with rx := some x })
  if cut.isEmpty then put s ⟨none, o, stamp, r.cls, [], left.map with_, maxlen, verdict, r.vid⟩
  else
    let cells := cellsOf maxlen
    if !s.admits p i r.cls cells then
      let (s, v) := s.tailDrop p i r.cls stamp
      put s ⟨none, o, stamp, r.cls, [], [], maxlen, v, r.vid⟩
    else
      let (b, s) := s.bufPut p ⟨o, i, r.cls, stamp, cells, cut.length + 1, false, false, 0, none⟩
      let s := cut.foldl (fun s e =>
        let o' := if s.untags p e r.vid then untagOct o else o
        let t : TxFrame := ⟨o', some b, false, 0, true, false, false, i, r.cls, stamp,
          if e ≤ 10 then s.txStamp p e else (s.plane p).now, 0, none⟩
        (s.setPlane p ((s.plane p).setPort e { (s.plane p).port e with tx := some t })).pswCnt p e 1) s
      put s ⟨some b, o, stamp, r.cls, cut.map with_, left.map with_, maxlen, verdict, r.vid⟩

/-- FORWARDING_DECISION: byte 64 of a frame has been received on an external port or the inter-plane link (R113); MAC
control frames never reach it (R103). -/
def execForwardingDecision (p : Plane) (port : Fin 14) (stamp : Nat) (f : Frame) (s : State) : Host.Outcome State Fault Refusal :=
  let stamp := s.rxStamp p port stamp
  let i := port.val
  if !s.receives p i || decide (i = 11) || decide (i = 12) then ok s
  else if frameLen f.octets < 64 ∨ etypeOf f.octets = 0x8808 ∨ ((s.plane p).port i).rx.isSome then ok s
  else ok (s.decision p i stamp f.octets)

/-- The octets of a frame as a port sends it: the tag left off where UNTAG says so, then padding to 64 bytes (R97, R101). -/
def sendOct (o : List Byte) (untag : Bool) : List Byte :=
  let o := if untag then untagOct o else o
  if 60 ≤ o.length then o else padOct (hasRct o) o

/-- End the cut-through copies of a frame: each egress learns that reception is done, and whether to stomp (R120); the tag is left off
where the bank of the forwarding decision said so (R117). `fcs` is the FCS received. -/
def State.endCut (s : State) (p : Plane) (o : List Byte) (fcs : Nat) (stomp : Bool) (cut : List (Nat × Bool)) : State :=
  cut.foldl (fun s e =>
    let m := (s.plane p).port e.1
    let o' := sendOct o e.2
    match m.tx with
    | some t =>
      s.setPlane p ((s.plane p).setPort e.1 { m with tx := some { t with octets := o', done := true, stomp := stomp || t.stomp,
                                                                          fcs := if o' = o then some fcs else none } })
    | none => s) s

/-- A frame's reception has ended with a fault (R95, R96): it is counted, its cut-through copies are stomped (R98, R120), and it goes. -/
def State.receiveBad (s : State) (p : Plane) (i : Nat) (r : RxFrame) (o : List Byte) (k : RxKind) : State :=
  let len := frameLen o
  let s := if i = 13 then s else s.countBad (.prt p i) len r.maxlen k
  let sent := if r.maxlen < len then (o ++ fcsOct o).take r.maxlen else o
  let s := s.endCut p sent 0 true r.cutTo
  let s := match r.buf with
    | some b => (s.bufResize p b sent (cellsOf (min len r.maxlen)) none).bufDrop p b
    | none => s
  s.capture p i false r.stamp r.cls 4 (!r.cutTo.isEmpty) o

/-- A frame's reception has ended without fault: it is counted and learned from (R111, R115), admitted and queued (R122, R123). -/
def State.receiveGood (s : State) (p : Plane) (i : Nat) (r : RxFrame) (o : List Byte) (fcs : Nat) : State :=
  let len := frameLen o
  let cut := !r.cutTo.isEmpty
  let s := if i = 13 then s else (s.prtCnt (.prt p i) 0).prtBytes (.prt p i) 1 len
  let s := if i ≤ 10 ∧ s.bit (.pswPort p i) F.PSW_PORT_CFG_LEARN then s.learn p (smacOf o) r.vid i else s
  let s := s.endCut p o fcs false r.cutTo
  let cells := cellsOf len
  let adm : Option Nat × State × Nat :=
    match r.buf with
    | some b => (some b, s.bufResize p b o cells (some fcs), r.verdict)
    | none =>
      if r.storeTo.isEmpty then (none, s, r.verdict)
      else if s.admits p i r.cls cells then
        let (b, s) := s.bufPut p ⟨o, i, r.cls, r.stamp, cells, 1, false, false, 0, some fcs⟩
        (some b, s, r.verdict)
      else
        let (s, v) := s.tailDrop p i r.cls r.stamp
        (none, s, v)
  match adm with
  | (none, s, v) => s.capture p i false r.stamp r.cls v cut o
  | (some b, s, v) =>
    let (s, q) := s.enqueueAll p b (r.storeTo.map (fun e => (e.1, e.2, none)))
    let s := if q || cut then s.pswCnt p i 0 else s
    (s.bufDrop p b).capture p i false r.stamp r.cls v cut o

/-- FRAME_RECEIVE_END: a frame's end: its FCS is computed and compared, and it is classified and counted (R94 to R96); a bad one is
discarded and its cut-through copies stomped (R98, R120), a good one is learned from, admitted and queued (R115, R122, R123). A MAC
control frame is consumed (R103). Over IP the abort mark is the code error of the frame's end, and nothing is counted (R102, R120). -/
def execFrameReceiveEnd (p : Plane) (port : Fin 14) (stamp : Nat) (f : Frame) (e : RxEnd) (s : State) : Host.Outcome State Fault Refusal :=
  let stamp := s.rxStamp p port stamp
  let i := port.val
  let o := f.octets
  let len := frameLen o
  let k := rxKind o e
  if !s.receives p i || decide (i = 11) || decide (i = 12) then ok s
  else if etypeOf o = 0x8808 then ok (if i ≤ 10 then s.macControl p i (s.rxLimit p i stamp) o e else s)
  else
    let s := s.fecCount p i e
    let s := if ((s.plane p).port i).rx.isNone && decide (64 ≤ len) then s.decision p i stamp o else s
    let m := (s.plane p).port i
    match m.rx with
    | none => ok ((if i = 13 then s else s.countBad (.prt p i) len (s.rxLimit p i stamp) k).capture p i false stamp (s.classOf p i o) 4 false o)
    | some r =>
      let s := s.setPlane p ((s.plane p).setPort i { m with rx := none })
      ok (if rxGood len r.maxlen k then s.receiveGood p i r o e.fcs.toNat else s.receiveBad p i r o k)

/-! Transmission. -/

/-- Examine a queue's head until a frame may be sent: AGED and TX_OVERSIZE copies are discarded (R125, R100). -/
def State.dequeue (s : State) (p : Plane) (e c : Nat) : Nat → State
  | 0 => s
  | fuel + 1 =>
    let x := s.plane p
    match x.queue e c with
    | [] => s
    | k :: rest =>
      match assocGet x.bufs k.buf with
      | none => s.setPlane p (x.setQueue e c rest)
      | some f =>
        let age := (x.now : Int) - f.stamp
        let max := s.fld (.psw p) F.PSW_AGE_MAX_AGE_MAX c
        let o := sendOct (match k.hsr with
          | some n => hsrOct p n f.octets
          | none => f.octets) k.untag
        let pop := fun (s : State) => (s.setPlane p ((s.plane p).setQueue e c rest)).eqShow p e c
        if max ≠ 0 ∧ (max * us : Nat) < age then
          ((((pop s).pswCnt p e 8).capture p e true x.now c 10 false f.octets).bufDrop p k.buf).dequeue p e c fuel
        else if e ≤ 10 ∧ s.fld (.prt p e) F.PRT_MAXLEN_MAXLEN < frameLen o then
          ((((pop s).prtCnt (.prt p e) 16).capture p e true x.now c 13 false f.octets).bufDrop p k.buf).dequeue p e c fuel
        else
          let t : TxFrame := ⟨o, some k.buf, f.tsReq, f.tsTag, false, true, false, f.inPort, c, f.stamp,
            if e ≤ 10 then s.txStamp p e else x.now, 0, if o = f.octets then f.fcs else none⟩
          let s := pop s
          s.setPlane p ((s.plane p).setPort e { (s.plane p).port e with tx := some t })

/-- The classes of a port that hold a frame which may be sent now: not frozen, not paused. -/
def State.readyClasses (s : State) (p : Plane) (e : Nat) : List Nat :=
  let m := (s.plane p).port e
  (List.range 8).filter (fun c => (((s.plane p).queue e c).head?.any (fun k => !k.frozen)) && (assocGet m.clsPauseEnd c).isNone)

/-- A cell of a buffered frame meets an uncorrectable error (R434): the frame is discarded in every egress queue it occupies, a copy
already leaving by cut-through is stomped (R120), RX_BAD of the ingress port counts it, and the plane's BLT_UNC. -/
def State.bufError (s : State) (p : Plane) (b : Nat) : State :=
  match assocGet (s.plane p).bufs b with
  | none => s
  | some f =>
    let s := (List.range 15).foldl (fun (s : State) e =>
      let m := (s.plane p).port e
      match m.tx with
      | some t => if t.buf = some b ∧ t.cut = true then s.setPlane p ((s.plane p).setPort e { m with tx := some { t with stomp := true } }) else s
      | none => s) s
    let s := (List.range 120).foldl (fun (s : State) k =>
      let q := (s.plane p).queue (k / 8) (k % 8)
      let keep := q.filter (fun x => decide (x.buf ≠ b))
      if keep.length = q.length then s
      else
        let s := (s.setPlane p ((s.plane p).setQueue (k / 8) (k % 8) keep)).eqShow p (k / 8) (k % 8)
        (List.range (q.length - keep.length)).foldl (fun (s : State) _ => s.bufDrop p b) s) s
    (if f.inPort = 13 then s else s.prtCnt (.prt p f.inPort) 3).countUnc (.plane p)

/-- EGRESS_DEQUEUE: an idle port starts a due pause frame, ahead of every queued frame (R105), else an own message, stamped as it
leaves (R80), else the head frame of one of its queues, which has first been aged (R125); which class goes first the spec leaves
open. `ecc` is what reading the head frame's buffer cells meets (R434). -/
def execEgressDequeue (p : Plane) (port : Fin 15) (ecc : Ecc) (s : State) : Host.Outcome State Fault Refusal :=
  let e := port.val
  let m := (s.plane p).port e
  let canSend := s.planeUp p && s.link p e && (decide (11 ≤ e) || s.bit (.prt p e) F.PRT_CFG_TX_EN) && m.tx.isNone &&
    m.pauseEnd.isNone
  if decide (e ≤ 10) && s.pauseReady p e then ok (s.pauseSend p e)
  else if !canSend then ok s
  else
    match m.ctl with
    | t :: rest =>
      let tx := s.txStamp p e
      let (o, s) := (s.setPlane p ((s.plane p).setPort e { m with ctl := rest })).ownLeaves p e t tx
      ok (s.setPlane p ((s.plane p).setPort e { (s.plane p).port e with tx := some { t with octets := o, started := tx } }))
    | [] =>
      match s.readyClasses p e with
      | [] => ok s
      | cs =>
        let (n, s) := s.fresh
        let c := cs.getD (Config.egressClass n % cs.length) 0
        match ecc, ((s.plane p).queue e c).head? with
        | .uncorrectable, some k => ok (s.bufError p k.buf)
        | _, _ => ok ((s.eccCorr (.plane p) (decide (ecc = .corrected))).dequeue p e c (((s.plane p).queue e c).length))

/-- The mean link delay of an external port, 0 when none is valid (R78, R79). -/
def State.linkDelay0 (s : State) (p : Plane) (i : Nat) : Nat := if i ≤ 10 then (s.linkDelay p i).getD 0 else 0

/-- The residence correction of a forwarded Sync or Pdelay message on an egress port (R79): written into a one-step frame as it
leaves, or kept for the Follow_Up of a two-step Sync, which takes the correction kept for that port. -/
def State.residence (s : State) (p : Plane) (out : Nat) (t : TxFrame) : List Byte × State :=
  let o := t.octets
  let a := etypeAt o + 2
  if etypeOf o ≠ 0x88F7 ∨ t.ctl ≠ 0 then (o, s)
  else
    let type := (o.getD a 0).toNat % 16
    let two := bitAt (o.getD (a + 6) 0).toNat 1
    let res : Int := (t.started : Int) - t.stamp + (if type = 0 then (s.linkDelay0 p t.inPort : Int) else 0)
    let field := beNat ((o.drop (a + 8)).take 8)
    let id := beNat ((o.drop (a + 20)).take 10)
    let seqId := oct2 o (a + 30)
    let x := s.plane p
    let mine := x.res.find? (fun e => decide (e.srcPort = id ∧ e.seqId = seqId))
    let add := fun (v : Int) => o.take (a + 8) ++ natBe 8 (unsignedOf 64 (signedOf 64 field + v)) ++ o.drop (a + 16)
    if type = 0 ∧ two then
      let l := x.res.filter (fun e => decide (e.srcPort ≠ id ∨ e.seqId ≠ seqId))
      let l := if 512 ≤ l.length then l.drop 1 else l
      let old := match mine with
        | some e => e.corr.filter (fun c => decide (c.1 ≠ out))
        | none => []
      (o, s.setPlane p { x with res := l ++ [⟨id, seqId, old ++ [(out, res)], x.now⟩] })
    else if type = 0 ∨ type = 2 ∨ type = 3 then
      (add res, s)
    else if type = 8 then
      match mine with
      | some e => (add (assocGetD e.corr out 0), s)
      | none => (o, s)
    else (o, s)

/-- FRAME_TRANSMIT_END: a frame has left a port: it is counted (R111), stamped for its request (R82, R110), corrected for
its residence (R79), its FCS kept or generated (R97), and its buffer copy ends. A cut-through copy ends only after its reception has. The
queue entry of an own two-step message is written and drained by the time unit within this step (R82). -/
def execFrameTransmitEnd (p : Plane) (port : Fin 15) (s : State) : Host.Outcome State Fault Refusal :=
  let e := port.val
  let pg : Page := .prt p e
  let m := (s.plane p).port e
  match m.tx with
  | none => ok s
  | some t =>
    if !s.planeUp p || !t.done then ok s
    else
      let s := s.setPlane p ((s.plane p).setPort e { m with tx := none })
      let (o, s) := s.residence p e t
      let ext := decide (e ≤ 10)
      let line := lineOct o (if o = t.octets then t.fcs else none) t.stomp
      let s := if ext then s.setPlane p ((s.plane p).setPort e { (s.plane p).port e with sent := line }) else s
      let s :=
        if t.ctl = 1 then s.prtCnt pg 18
        else if t.ctl = 2 then s.prtCnt pg 19
        else if !ext then s
        else if t.stomp then s.prtCnt pg 15
        else (s.prtCnt pg 12).prtBytes pg 13 (frameLen o)
      let s := if ext && t.tsReq && decide (t.ctl = 0) then s.txqPut p e t.started t.tsTag (frameLen o) else s
      let s := if t.ctl = 0 then s.capture p e true t.started t.cls (if t.stomp then 7 else 6) t.cut o else s
      match t.buf with
      | some b => ok (s.bufDrop p b)
      | none => ok s

/-- HSR_DUP_EXPIRE: the oldest duplicate-table entry is dropped 400 ms after it was made (R129). -/
def execHsrDupExpire (p : Plane) (s : State) : Host.Outcome State Fault Refusal :=
  match (s.plane p).hsr with
  | [] => ok s
  | e :: _ =>
    if !s.planeUp p then ok s
    else
      let s := s.reachPlane p (e.at_ + 400 * ms)
      ok (s.setPlane p { s.plane p with hsr := (s.plane p).hsr.drop 1 })

/-- The octets of a PRP supervision frame (R128; IEC 62439-3): path and version, sequence number, the duplicate-discard
TLV with the sender's address, and the end TLV. -/
def supvOct (mac last seq : Nat) : List Byte :=
  padOct false ([0x01, 0x15, 0x4E, 0x00, 0x01, BitVec.ofNat 8 last] ++ natBe 6 mac ++ [0x88, 0xFB] ++ [0x00, 0x01] ++ natBe 2 seq ++
    [20, 6] ++ natBe 6 mac ++ [0, 0])

/-- SUPERVISION_FRAME_SEND: with SUPV_EN = 1, SUPV_INT ms after the last one, a supervision frame is queued on each
external port in the VLAN 0 MEMBER mask (R128). -/
def execSupervisionFrameSend (p : Plane) (s : State) : Host.Outcome State Fault Refusal :=
  let pg : Page := .psw p
  if !s.planeUp p || !s.bit pg F.PSW_RED_CFG_SUPV_EN then ok s
  else
    let int := s.fld pg F.PSW_RED_CFG_SUPV_INT * ms
    let s := match (s.plane p).supvAt with
      | some t => s.reachPlane p (t + int)
      | none => s
    let x := s.plane p
    let s := s.setPlane p { x with supvAt := some x.now, supvSeq := (x.supvSeq + 1) % 65536 }
    let ports := (maskPorts (s.ent (vlanAddr p 0) E.T5_3_MEMBER)).filter (fun e => decide (e ≤ 10))
    ok (ports.foldl (fun s e =>
      if s.link p e then s.ownFrame p e (supvOct (s.macAddr p e) (s.fld pg F.PSW_RED_CFG_SUPV_LAST) x.supvSeq) 3 x.now else s) s)

/-! The inter-plane link and the sequence owner. -/

/-- Show IPDOWN in both planes; CHANGE is set where it changes. -/
def State.setIpDown (s : State) (b : Bool) : State :=
  let f := fun (s : State) (p : Plane) =>
    if s.bit (.psw p) F.PSW_STATUS_IPDOWN = b then s
    else (s.setFld (.psw p) F.PSW_STATUS_IPDOWN (b2n b)).setBit (.psw p) F.PSW_STATUS_CHANGE
  f (f s .a) .b

/-- IP_LINK_DOWN: the inter-plane link fails; PEER can no longer be taken (R68), and with both planes UP, IPDOWN is set (R131).
DESIGN CHOICE: the assignments on the link are lost (log entry 75). -/
def execIpLinkDown (s : State) : Host.Outcome State Fault Refusal :=
  let s := { s with pins := { s.pins with ipUp := false } }
  let s := s.setPlane .a { s.pa with ipIn := [] }
  let s := s.setPlane .b { s.pb with ipIn := [] }
  let s := s.selectSources
  if s.planeUp .a && s.planeUp .b then ok (s.setIpDown true) else ok s

/-- IP_LINK_RESTORED: the inter-plane link returns and IPDOWN is cleared (R131). -/
def execIpLinkRestored (s : State) : Host.Outcome State Fault Refusal :=
  let s := { s with pins := { s.pins with ipUp := true } }
  ok (s.selectSources.setIpDown false)

/-- The configured sequence owner, as a plane's PSW_CTRL names it (R130). -/
def State.cfgOwner (s : State) (p : Plane) : Plane := Plane.ofIdx (s.fld (.psw p) F.PSW_CTRL_SEQ_OWNER)

/-- The acting sequence owner that a plane shows (R131). -/
def State.actOwner (s : State) (p : Plane) : Plane := Plane.ofIdx (s.fld (.psw p) F.PSW_STATUS_OWNER)

/-- Show an acting owner in every plane that is UP; CHANGE is set where it changes. -/
def State.setOwner (s : State) (o : Plane) : State :=
  let f := fun (s : State) (p : Plane) =>
    if !s.planeUp p || decide (s.actOwner p = o) then s
    else (s.setFld (.psw p) F.PSW_STATUS_OWNER o.idx).setBit (.psw p) F.PSW_STATUS_CHANGE
  f (f s .a) .b

/-- OWNER_TAKEOVER: a plane becomes acting owner, each counter at the last number received for its SRC plus JUMP (R131). -/
def State.takeOver (s : State) (p : Plane) : State :=
  let jump := s.fld (.psw p) F.PSW_SEQ_CFG_JUMP
  let x := s.plane p
  let ctr := (List.range 64).map (fun c => (c, (assocGetD x.seqLast c 0 + jump) % 65536))
  (s.setPlane p { x with seqCtr := ctr }).setOwner p

/-- A plane takes over from the acting owner with its counters (R131). -/
def State.handOver (s : State) (o : Plane) : State :=
  (s.setPlane o { s.plane o with seqCtr := (s.plane o.other).seqCtr }).setOwner o

/-- OWNER_HANDBACK: the configured owner, UP again, receives the acting owner's counters over the inter-plane link and
takes over between two assignments (R131). -/
def execOwnerHandback (s : State) : Host.Outcome State Fault Refusal :=
  let o := s.cfgOwner .a
  if !s.planeUp .a || !s.planeUp .b || !s.pins.ipUp then ok s
  else if s.actOwner o.other = o then ok s
  else ok (s.handOver o)

/-- SEQ_OWNER has changed in a plane's PSW_CTRL: once both planes name the same plane, it is the owner (R130). DESIGN CHOICE: it takes
the counters over as at a hand-back, or, with the inter-plane link down, counts on as at a takeover (log entry 75). -/
def State.ownerNamed (s : State) : State :=
  let o := s.cfgOwner .a
  if !s.planeUp .a || !s.planeUp .b || decide (s.cfgOwner .b ≠ o) || decide (s.actOwner .a = o ∧ s.actOwner .b = o) then s
  else if s.pins.ipUp then s.handOver o else s.takeOver o

/-- HCAP_ENABLE: setting PSW_HCAP_CTRL.EN zeroes HEAD and SEQ and starts capture (R133). -/
def State.hcapEnable (s : State) (p : Plane) : State :=
  let s := s.setBit (.psw p) F.PSW_HCAP_CTRL_EN
  let s := s.setFld (.psw p) F.PSW_HCAP_HEAD_INDEX 0
  s.setPlane p { s.plane p with hcapSeq := 0 }

/-- HCAP_ENABLE: a write sets PSW_HCAP_CTRL.EN. -/
def execHcapEnable (p : Plane) (s : State) : Host.Outcome State Fault Refusal :=
  if !s.planeUp p then ok s else ok (s.hcapEnable p)

/-- PSW_CNT_CLR: every PSW_PCNT and PSW_CNT of a plane is cleared (R308, R135). -/
def State.pswClr (s : State) (p : Plane) : State :=
  let s := s.clrRow (.psw p) .PSW_PCNT 12
  (List.range 15).foldl (fun s i => s.clrRow (.pswPort p i) .PSW_CNT 10) s

/-- PSW_CNT_CLR: a write of 1 to PSW_CNT_CLR.CLR. -/
def execPswCntClr (p : Plane) (s : State) : Host.Outcome State Fault Refusal :=
  if !s.planeUp p then ok s else ok (s.pswClr p)

end Sys2Proof.Machine
end

