-- ==== Sys2Proof/Machine/Merge.lean ====
section
/-!
DEFINITION. The twin merge of a plane (R290 to R296), its PRP sequence numbers (R127, R130), and echoes (R297).
-/

namespace Sys2Proof.Machine
open Sys2Proof

/-- The octets compared between two copies: the merge header and the frame (R290). -/
def mergeSpan (c : MergeCopy) : List Byte := c.hdr.flatMap (natLe 4) ++ c.octets

/-- Are two copies equal: octet for octet under AGREE, by CRC-32C and CRC-32 under FIRST (R290)? -/
def mergeEq (a b : MergeCopy) : Bool :=
  if a.policy = 1 then decide (mergeSpan a = mergeSpan b)
  else decide (crcOf crc32c (mergeSpan a) = crcOf crc32c (mergeSpan b) ∧ crcOf crc32 (mergeSpan a) = crcOf crc32 (mergeSpan b))

/-- Is a lane absent for the merge (R293)? -/
def State.mergeAbsent (s : State) (l : Lane) : Bool := !s.laneUp l || s.rolledOut l

/-- Count in a plane counter and raise its event, with the publication as UNIT. -/
def State.mergeEv (s : State) (p : Plane) (k pub : Nat) : State := s.bumpEv (.plane p) (.psw p) F.PSW_PCNT_COUNT k bkPSW 0 pub

/-- The first DIVERGE (0) or AGREE_TMO (1) is captured while VALID = 0 (R296). -/
def State.divCapture (s : State) (p : Plane) (kind : Nat) (c : MergeCopy) : State :=
  let pg : Page := .psw p
  if s.bit pg F.PSW_DIV_CAPT0_VALID then s
  else
    let s := s.setFld pg F.PSW_DIV_CAPT0_VALID 1
    let s := s.setFld pg F.PSW_DIV_CAPT0_KIND kind
    let s := s.setFld pg F.PSW_DIV_CAPT0_PUB c.pub
    s.wr pg .PSW_DIV_CAPT1 0 (BitVec.ofNat 32 c.issue)

/-- The frame with an RCT (R127): padding before it, then the sequence number, LanId and LSDU size, and 0x88FB. -/
def rctOct (p : Plane) (seq : Nat) (o : List Byte) : List Byte :=
  let o := o ++ List.replicate (54 - o.length) 0
  let lsdu := o.length + 6 - (etypeAt o + 2)
  o ++ natBe 2 seq ++ natBe 2 ((0xA + p.idx) * 4096 + lsdu % 4096) ++ [0x88, 0xFB]

/-- The receive event of a copy that its plane does not forward, or that names no egress port (R132). DESIGN CHOICE: its verdict is
FILTERED, which no counter shows (log entry 75). -/
def State.mergeSeen (s : State) (p : Plane) (c : MergeCopy) : State :=
  s.capture p (11 + c.lane.idx) false c.stamp (s.classOf p (11 + c.lane.idx) c.octets) 1 false c.octets

/-- Put a merged frame into the egress queues, from lane port 11 or 12, as one frame of `len` bytes: `ports` gives each egress port
with the HSR number its copy takes (R122, R135). -/
def State.mergeQueue (s : State) (p : Plane) (c : MergeCopy) (o : List Byte) (len : Nat) (ports : List (Nat × Option Nat)) : State :=
  let i := 11 + c.lane.idx
  let cls := s.classOf p i o
  let vid := s.vidOf p i o
  let cells := cellsOf len
  if !s.admits p i cls cells then
    let (s, v) := s.tailDrop p i cls c.stamp
    s.capture p i false c.stamp cls v false o
  else
    let (b, s) := s.bufPut p ⟨o, i, cls, c.stamp, cells, 1, false, c.tsReq, c.tsTag, none⟩
    let (left, s) := s.downDrop p cls o (ports.map (fun e => e.1))
    let (s, q) := s.enqueueAll p b (left.map (fun e => (e, s.untags p e vid, assocGetD ports e none)))
    let s := if q then s.pswCnt p i 0 else s
    (s.bufDrop p b).capture p i false c.stamp cls 0 false o

/-- An echo of a forwarded copy goes to each adopting lane (R297). -/
def State.echoSend (s : State) (p : Plane) (c : MergeCopy) : State :=
  if !s.bit (.psw p) F.PSW_MERGE_CFG_ECHO_EN then s
  else
    [Lane.l0, Lane.l1].foldl (fun s l =>
      if s.laneUp l && s.bit (.pub l) F.PUB_STATUS_ADOPT then
        s.setLane l { s.lane l with echoIn := (s.lane l).echoIn ++ [c.echo] }
      else s) s

/-- Send a copy with its sequence number: RCT under PRP, HSR tag on the ring port under HSR; MERGED is counted. Under HSR the frame
occupies the cells of its longest form. -/
def State.mergeSend (s : State) (p : Plane) (c : MergeCopy) (seq : Nat) : State :=
  let mode := s.fld (.psw p) F.PSW_CTRL_RED_MODE
  let ring := s.ringPort p
  let s := s.pswPcnt p 5
  let s :=
    if c.ports.isEmpty then s.mergeSeen p c
    else if mode = 1 then s.mergeQueue p c (rctOct p seq c.octets) (frameLen (rctOct p seq c.octets)) (c.ports.map (fun e => (e, none)))
    else if mode = 2 then
      let len := if c.ports.contains ring then frameLen (hsrOct p seq c.octets) else frameLen c.octets
      s.mergeQueue p c c.octets len (c.ports.map (fun e => (e, if e = ring then some seq else none)))
    else s.mergeQueue p c c.octets (frameLen c.octets) (c.ports.map (fun e => (e, none)))
  s.echoSend p c

/-- A copy without a number in time is discarded and counted SEQ_MISS (R130). -/
def State.seqMiss (s : State) (p : Plane) (c : MergeCopy) : State :=
  let s := s.pswPcnt p 0
  (c.ports.foldl (fun s e => s.capture p e true c.stamp (s.classOf p (11 + c.lane.idx) c.octets) 12 false c.octets) s).mergeSeen p c

/-- The merge decides to forward a copy (R130): the acting owner assigns the number and sends the assignment to the other
plane; the other plane misses it while the inter-plane link is down (R131), and else uses a held assignment or waits for one. -/
def State.mergeForward (s : State) (p : Plane) (c : MergeCopy) : State :=
  let x := s.plane p
  if s.actOwner p = p then
    let n := assocGetD x.seqCtr c.src 0
    let s := s.setPlane p { x with seqCtr := assocPut x.seqCtr c.src ((n + 1) % 65536) }
    let q := p.other
    let s := if s.pins.ipUp && s.planeUp q
      then s.setPlane q { s.plane q with ipIn := (s.plane q).ipIn ++ [⟨c.pub, c.issue, c.src, n, 0⟩] } else s
    s.mergeSend p c n
  else if s.bit (.psw p) F.PSW_STATUS_IPDOWN then s.seqMiss p c
  else
    match x.seqCache.find? (fun a => decide (a.pub = c.pub ∧ a.issue = c.issue)) with
    | some a => (s.setPlane p { x with seqCache := x.seqCache.filter (fun b => decide (b ≠ a)) }).mergeSend p c a.seq
    | none => s.setPlane p { x with seqWait := x.seqWait ++ [⟨c, x.now⟩] }

/-- A copy whose partner lane is absent (R293): FIRST is forwarded; AGREE by AGREE_SOLO, else an AGREE_TMO. -/
def State.mergeSolo (s : State) (p : Plane) (c : MergeCopy) : State :=
  if c.policy ≠ 1 ∨ s.bit (.psw p) F.PSW_MERGE_CFG_AGREE_SOLO then s.mergeForward p c
  else ((s.mergeEv p 8 c.pub).divCapture p 1 c).mergeSeen p c

/-- An open entry closes and stays in the table, marked closed (R294). -/
def PlaneSt.mergeClose (x : PlaneSt) (e : MergeEnt) : PlaneSt :=
  { x with merge := x.merge.filter (fun f => decide (f ≠ e)), mergeClosed := x.mergeClosed ++ [(e.first.pub, e.first.issue)] }

/-- A running LANE_CONVERGE sees that a publication of the rolled-out lane does not equal that of the other (R63). -/
def State.convergeBad (s : State) : State :=
  match s.com.converge with
  | some v => { s with com := { s.com with converge := some { v with lastBad := true } } }
  | none => s

/-- A mismatch (R291 to R293): ROLL_DIFF when a rolled-out lane is involved, which LANE_CONVERGE sees, else DIVERGE. -/
def State.mergeDiffer (s : State) (p : Plane) (rolled : Bool) (c : MergeCopy) : State :=
  if rolled then (s.pswPcnt p 11).convergeBad
  else (s.mergeEv p 7 c.pub).divCapture p 0 c

/-- One copy meets the merge table (R291 to R294). A copy that is not forwarded gives its receive event here (R132). -/
def State.mergeCopy (s : State) (p : Plane) (c : MergeCopy) : State :=
  let x := s.plane p
  let win := s.fld (.psw p) F.PSW_MERGE_CFG_AGREE_WINDOW * us
  let out := s.rolledOut c.lane
  match x.merge.find? (fun e => decide (e.first.pub = c.pub ∧ e.first.issue = c.issue)) with
  | some e =>
    let swap := decide (c.stamp < e.first.stamp) || (decide (c.stamp = e.first.stamp) && decide (c.lane = .l0))
    let (a, b) := if swap then (c, e.first) else (e.first, c)
    let rolled := e.rolled || out || s.rolledOut e.first.lane
    let held := decide (e.first.policy = 1) && !e.rolled
    let s := if held && rolled then s.mergeSeen p e.first else s
    let shut := fun (s : State) => s.setPlane p ((s.plane p).mergeClose e)
    if a.stamp + win < b.stamp then
      let s := s.mergeEv p 9 c.pub
      let s := if rolled then s.convergeBad else s
      let s := if rolled && !out then s.mergeSolo p c else s.mergeSeen p c
      if e.first.policy = 1 && !rolled then s else shut s
    else if mergeEq a b then
      let s := shut s
      if rolled then (if out then s.mergeSeen p c else s.mergeSolo p c)
      else if e.first.policy = 1 then (s.mergeForward p a).mergeSeen p b else s.mergeSeen p c
    else
      let s := (shut s).mergeDiffer p rolled c
      if rolled && !out then s.mergeSolo p c
      else (if held && !rolled then s.mergeSeen p e.first else s).mergeSeen p c
  | none =>
    if x.mergeClosed.contains (c.pub, c.issue) then (s.mergeEv p 9 c.pub).mergeSeen p c
    else
      let other := c.lane.other
      let present := fun (s : State) => if out then s.mergeSeen p c else s.mergeSolo p c
      if !s.laneUp other then present s
      else
        let rolled := out || s.rolledOut other
        if 4096 ≤ x.merge.length then
          if rolled && !out then s.mergeSolo p c
          else
            let s := s.pswPcnt p 10
            if out then s.convergeBad.mergeSeen p c else if c.policy = 1 then s.mergeSeen p c else s.mergeForward p c
        else
          let closed := if 4096 ≤ x.merge.length + x.mergeClosed.length then x.mergeClosed.drop 1 else x.mergeClosed
          let s := s.setPlane p { x with merge := x.merge ++ [⟨c, c.stamp + win, rolled⟩], mergeClosed := closed }
          if rolled then present s
          else if c.policy = 1 then s else s.mergeForward p c

/-- A copy that has reached a lane's port meets the merge, unless the plane forwards nothing, or nothing from that port: it is then
counted FILTERED (PSW_CTRL.EN, PSW_PORT_CFG.FWD_EN; R134). -/
def State.mergeArrive (s : State) (p : Plane) (c : MergeCopy) : State :=
  if s.bit (.psw p) F.PSW_CTRL_EN && s.bit (.pswPort p (11 + c.lane.idx)) F.PSW_PORT_CFG_FWD_EN then s.mergeCopy p c
  else (s.pswCnt p (11 + c.lane.idx) 2).mergeSeen p c

/-- MERGE_COPY_RECEIVED: the oldest copy at a lane's port meets the merge; a copy of the other lane for the same issue
whose time is earlier, or equal from L0, goes first (R291). -/
def execMergeCopyReceived (p : Plane) (l : Lane) (s : State) : Host.Outcome State Fault Refusal :=
  if !s.planeUp p then ok s
  else
    let x := s.plane p
    match x.laneIn.find? (fun c => decide (c.lane = l)) with
    | none => ok s
    | some c =>
      let before := fun (d : MergeCopy) => decide (d.lane = l.other ∧ d.pub = c.pub ∧ d.issue = c.issue) &&
        (decide (d.stamp < c.stamp) || (decide (d.stamp = c.stamp) && decide (d.lane = .l0)))
      match x.laneIn.find? before with
      | none => ok ((s.setPlane p { x with laneIn := x.laneIn.erase c }).mergeArrive p c)
      | some d =>
        let s := s.setPlane p { x with laneIn := (x.laneIn.erase c).erase d }
        ok ((s.mergeArrive p d).mergeArrive p c)

/-- MERGE_DEADLINE: an entry without a second copy at D and the settle margin closes: SOLO under FIRST; under AGREE the
held copy is discarded with AGREE_TMO (R291, R292). An entry of a rolled-out lane compares unequal to nothing (log entry 62). -/
def execMergeDeadline (p : Plane) (pub : Fin 2048) (issue : Word) (s : State) : Host.Outcome State Fault Refusal :=
  if !s.planeUp p then ok s
  else
    match (s.plane p).merge.find? (fun e => decide (e.first.pub = pub.val ∧ e.first.issue = issue.toNat)) with
    | none => ok s
    | some e =>
      let s := s.reachPlane p (e.deadline + settle)
      let s := s.setPlane p ((s.plane p).mergeClose e)
      if e.rolled then ok s.convergeBad
      else if e.first.policy = 1 then ok (((s.mergeEv p 8 e.first.pub).divCapture p 1 e.first).mergeSeen p e.first)
      else ok (s.pswPcnt p 6)

/-- PARTNER_ABSENT: the AGREE entries held in a plane for a lane whose partner becomes absent take the rule for a lone
copy at once (R293). -/
def State.mergePartnerAbsent (s : State) (p : Plane) (l : Lane) : State :=
  if !s.planeUp p then s
  else
    let held := (s.plane p).merge.filter (fun e => decide (e.first.lane = l.other) && decide (e.first.policy = 1) && !e.rolled)
    held.foldl (fun s e => (s.setPlane p ((s.plane p).mergeClose e)).mergeSolo p e.first) s

/-- SEQ_ASSIGNMENT_RECEIVED: the next assignment on the inter-plane link reaches the plane: the copy waiting for it is
sent, or it is cached, displacing the oldest of 256, which counts SEQ_UNUSED (R130). -/
def execSeqAssignmentReceived (p : Plane) (s : State) : Host.Outcome State Fault Refusal :=
  if !s.planeUp p then ok s
  else
    let x := s.plane p
    match x.ipIn with
    | [] => ok s
    | a :: rest =>
      let x := { x with ipIn := rest, seqLast := assocPut x.seqLast a.src a.seq }
      match x.seqWait.find? (fun w => decide (w.copy.pub = a.pub ∧ w.copy.issue = a.issue)) with
      | some w => ok ((s.setPlane p { x with seqWait := x.seqWait.filter (fun v => decide (v ≠ w)) }).mergeSend p w.copy a.seq)
      | none =>
        let full := decide (256 ≤ x.seqCache.length)
        let cache := if full then x.seqCache.drop 1 else x.seqCache
        let s := s.setPlane p { x with seqCache := cache ++ [{ a with at_ := x.now }] }
        ok (if full then s.pswPcnt p 1 else s)

/-- SEQ_CACHE_EXPIRE: the oldest assignment unused for 1 ms is discarded and counted SEQ_UNUSED (R130). -/
def execSeqCacheExpire (p : Plane) (s : State) : Host.Outcome State Fault Refusal :=
  match (s.plane p).seqCache with
  | [] => ok s
  | a :: _ =>
    if !s.planeUp p then ok s
    else
      let s := s.reachPlane p (a.at_ + ms)
      ok ((s.setPlane p { s.plane p with seqCache := (s.plane p).seqCache.drop 1 }).pswPcnt p 1)

/-- SEQ_WAIT_EXPIRE: a copy without an assignment WAIT ns after it became ready is discarded and counted SEQ_MISS (R130). -/
def execSeqWaitExpire (p : Plane) (pub : Fin 2048) (issue : Word) (s : State) : Host.Outcome State Fault Refusal :=
  match (s.plane p).seqWait.find? (fun w => decide (w.copy.pub = pub.val ∧ w.copy.issue = issue.toNat)) with
  | none => ok s
  | some w =>
    if !s.planeUp p then ok s
    else
      let s := s.reachPlane p (w.ready + s.fld (.psw p) F.PSW_SEQ_CFG_WAIT * ns)
      let x := s.plane p
      ok ((s.setPlane p { x with seqWait := x.seqWait.filter (fun v => decide (v ≠ w)) }).seqMiss p w.copy)

end Sys2Proof.Machine
end

