-- ==== Sys2Proof/Machine/Trip.lean ====
section
/-!
DEFINITION. Trip pins: a lane's drives (R299), the EPS drives and handover (R422, R424), the voters (R300), and read-back
(R302).
-/

namespace Sys2Proof.Machine
open Sys2Proof

/-- The active trip entry of pin n. -/
def tripAct (l : Lane) (n : Nat) : Nat := winAddr (.pub l) .pubTripAct (16 * n)

/-- A lane's drive state of pin n. -/
def State.trip (s : State) (l : Lane) (n : Nat) : TripSt := assocGetD (s.lane l).trip n .empty

/-- Store it. -/
def State.setTrip (s : State) (l : Lane) (n : Nat) (x : TripSt) : State :=
  s.setLane l { s.lane l with trip := assocPut (s.lane l).trip n x }

/-- Does the EPS of a lane still hold pin n: it runs, and the pin has not left it (R424)? -/
def State.epsHolds (s : State) (l : Lane) (n : Nat) : Bool :=
  s.epsRuns l && (match (s.lane l).epsLeft with
    | none => true
    | some left => !left.contains n)

/-- The EPS drive of pin n and the moment it rose (R422). -/
def State.epsPinSt (s : State) (l : Lane) (n : Nat) : Bool × Nat := assocGetD (s.lane l).epsPin n (false, 0)

/-- The full-service drive of pin n (R299). -/
def State.fullDrive (s : State) (l : Lane) (n : Nat) : Bool :=
  s.bit (.pub l) F.PUB_CTRL_TRIP_EN && decide (s.ent (tripAct l n) E.T12_6_VALID = 1) && (s.trip l n).drive

/-- A lane's drive of pin n: the EPS drive, from g_h on together with the full-service drive, and the latter alone once the
pin has left the EPS (R424). -/
def State.laneDrive (s : State) (l : Lane) (n : Nat) : Bool :=
  if s.epsHolds l n then (s.epsPinSt l n).1 || ((s.lane l).epsLeft.isSome && s.fullDrive l n) else s.fullDrive l n

/-- The entry whose VOTE, FALLBACK and DISAGREE hold for pin n in a lane. -/
def State.tripCfg (s : State) (l : Lane) (n : Nat) : Nat := if s.epsHolds l n then epsBase l + 0x100 + 16 * n else tripAct l n

/-- Is a lane present at the voter of pin n (R300, R422)? -/
def State.tripPresent (s : State) (l : Lane) (n : Nat) : Bool :=
  s.laneUp l && !s.rolledOut l && (s.epsHolds l n || s.bit (.pub l) F.PUB_CTRL_TRIP_EN)

/-- The level of ball TRIPn (Table 12.7); with bank VIO_A low it is held low (R453). The vote of the present lane of the
lowest number holds where both are present. -/
def State.pinLevel (s : State) (n : Nat) : Bool :=
  if s.com.lowBanks.contains 0 then false
  else
    let d := fun (l : Lane) => s.laneDrive l n
    let vote2 := fun (l : Lane) => decide (s.ent (s.tripCfg l n) E.T12_6_VOTE = 1)
    let alone := fun (l : Lane) => if vote2 l && decide (s.ent (s.tripCfg l n) E.T12_6_FALLBACK = 0) then false else d l
    match s.tripPresent .l0 n, s.tripPresent .l1 n with
    | true, true => if vote2 .l0 then d .l0 && d .l1 else d .l0 || d .l1
    | true, false => alone .l0
    | false, true => alone .l1
    | false, false => false

/-- The pins of TRIP0 to TRIP15. -/
def tripPins : List Nat := List.range 16

/-- One lane reads pin n back: it differs from the lane's drive, and by the vote this lane is the one to report (R302). -/
def State.tripDiffers (s : State) (l : Lane) (n : Nat) : Bool :=
  let v2 := decide (s.ent (s.tripCfg l n) E.T12_6_VOTE = 1)
  decide (s.pinLevel n ≠ s.laneDrive l n) && decide (s.laneDrive l n = v2)

/-- The balls, the drive and level registers, and the run of each disagreement follow the drives. -/
def State.tripShow (s : State) : State :=
  let lev := tripPins.filter s.pinLevel
  let s := { s with pins := { s.pins with trip := lev.map (fun n => (n, true)) } }
  let word := fun (f : Nat → Bool) => (tripPins.map (fun n => b2n (f n) * 2 ^ n)).sum
  s.upLanes.foldl (fun s l =>
    let s := s.setFld (.pub l) F.PUB_TRIP_DRIVE_DRIVE (word (s.laneDrive l))
    let s := s.setFld (.pub l) F.PUB_TRIP_STATUS_LEVEL (word s.pinLevel)
    tripPins.foldl (fun s n =>
      let x := s.trip l n
      let diff := if s.tripDiffers l n then (if x.diff.isSome then x.diff else some (s.laneNow l)) else none
      if x.diff = diff then s else s.setTrip l n { x with diff := diff, told := x.told && diff.isSome }) s) s

/-- The level of the latest notice in effect reaches the drive: it rises at once; it falls once MIN_ON has passed (R299). -/
def State.tripDrive (s : State) (l : Lane) (n : Nat) (v : Bool) : State :=
  let x := s.trip l n
  let minOn := s.ent (tripAct l n) E.T12_6_MIN_ON * us
  let now := s.laneNow l
  let y :=
    if v then { x with want := true, drive := true, rose := if x.drive then x.rose else now }
    else if x.drive && decide (now < x.rose + minOn) then { x with want := false }
    else { x with want := false, drive := false }
  (s.setTrip l n y).tripShow

/-- PUB_CTRL.TRIP_EN changes: the drives are 0 while it is 0, and follow the latest notice again from when it is 1. -/
def State.tripEnable (s : State) (l : Lane) (en : Bool) : State :=
  let s := s.setFld (.pub l) F.PUB_CTRL_TRIP_EN (b2n en)
  let s := (s.lane l).trip.foldl (fun s e =>
    let x := s.trip l e.1
    s.setTrip l e.1 { x with drive := en && x.want, rose := s.laneNow l }) s
  s.tripShow

/-- A notice for the point of pin n: it takes effect at once, or when the clock reaches its E (R299). -/
def State.tripNotice (s : State) (l : Lane) (point e rec_ : Nat) : State :=
  tripPins.foldl (fun s n =>
    let a := tripAct l n
    if s.ent a E.T12_6_VALID = 0 ∨ s.ent a E.T12_6_POINT ≠ point then s
    else
      let v := decide (bitsOf rec_ (32 * s.ent a E.T12_6_WORD + s.ent a E.T12_6_BIT) (32 * s.ent a E.T12_6_WORD + s.ent a E.T12_6_BIT) = 1)
      let x := s.trip l n
      if e ≤ s.laneNow l then (s.setTrip l n { x with due := x.due.filter (fun d => decide (e < d.1)) }).tripDrive l n v
      else s.setTrip l n { x with due := x.due ++ [(e, v)] }) s

/-- A pin whose EPS drive is 0 leaves the EPS from g_h on; when every pin has left, the lane has handed over: its EPS stops
and HANDED is set (R424, R433). -/
def State.epsLeave (s : State) (l : Lane) : State :=
  match (s.lane l).epsLeft with
  | none => s
  | some left =>
    let left' := tripPins.filter (fun n => left.contains n || !(s.epsPinSt l n).1)
    let s := s.setLane l { s.lane l with epsLeft := some left' }
    let s :=
      if left'.length = 16 && !s.handed l then
        let f := match l with
          | .l0 => F.CFG_BOOT_STATUS_HANDED0
          | .l1 => F.CFG_BOOT_STATUS_HANDED1
        ((s.setBit .cfg F.CFG_BOOT_STATUS_CHANGE).setBitEv .common .cfg f bkCFG 3 0).setLane l { s.lane l with epsQ := [] }
      else s
    s.tripShow

/-- The operating state of EPS element e (INST, R233), at an address of the model's own. -/
def epsElemRec (l : Lane) (e : Nat) : Nat := epsBase l + 0x4000 + 0x100 * e

/-- Does any element that drives pin n operate: the OR of R422, over the results the elements last committed? -/
def State.epsWant (s : State) (l : Lane) (n : Nat) : Bool :=
  (List.range (s.ent (epsBase l) E.T19_2_N_ELEM)).any (fun e =>
    bitAt (s.ent (epsBase l + 48 * e) E.T19_2_PINS) n && decide (s.win (epsElemRec l e + 0xFC) = 1))

/-- The MIN_ON of pin n's record in the boot table. -/
def State.epsMinOn (s : State) (l : Lane) (n : Nat) : Nat := s.ent (epsBase l + (0x100 + 16 * n)) E.T12_6_MIN_ON * us

/-- One EPS drive follows the elements: it rises at once and stays for MIN_ON (R422). -/
def State.epsPinFollow (s : State) (l : Lane) (n : Nat) : State :=
  let st := s.epsPinSt l n
  let now := s.laneNow l
  let st' : Bool × Nat :=
    if s.epsWant l n then (true, if st.1 then st.2 else now)
    else (st.1 && decide (now < st.2 + s.epsMinOn l n), st.2)
  s.setLane l { s.lane l with epsPin := assocPut (s.lane l).epsPin n st' }

/-- The EPS drives follow the elements. -/
def State.epsDrives (s : State) (l : Lane) : State :=
  ((tripPins.foldl (fun s n => s.epsPinFollow l n) s).epsLeave l).tripShow

/-- TRIP_NOTICE_DUE (R299): the followed clock reaches the E of the earliest notice that waits for pin n. -/
def execTripNoticeDue (l : Lane) (n : Fin 16) (s : State) : Host.Outcome State Fault Refusal :=
  match (s.trip l n).due with
  | [] => ok s
  | (e, v) :: rest =>
    if !s.laneUp l then ok s
    else
      let s := s.reachLane l e
      ok ((s.setTrip l n { s.trip l n with due := rest }).tripDrive l n v)

/-- TRIP_MIN_ON_EXPIRE (R299, R422): the MIN_ON of a drive whose latest notice, or whose elements, no longer call for it has
passed. -/
def execTripMinOnExpire (l : Lane) (n : Fin 16) (s : State) : Host.Outcome State Fault Refusal :=
  if !s.laneUp l then ok s
  else
    let x := s.trip l n
    let s := if x.drive && !x.want then
        (s.reachLane l (x.rose + s.ent (tripAct l n) E.T12_6_MIN_ON * us)).tripDrive l n false else s
    let st := s.epsPinSt l n
    if s.epsHolds l n && st.1 && !s.epsWant l n then
      ok ((s.reachLane l (st.2 + s.epsMinOn l n)).epsDrives l)
    else ok s

/-- TRIP_DISAGREE (R302): a pin has differed from the drive for DISAGREE µs: DIS, the counter and its event. -/
def execTripDisagree (l : Lane) (n : Fin 16) (s : State) : Host.Outcome State Fault Refusal :=
  if !s.laneUp l then ok s
  else
    let s := s.tripShow
    match (s.trip l n).diff with
    | none => ok s
    | some t =>
      let s := s.reachLane l (t + s.ent (s.tripCfg l n) E.T12_6_DISAGREE * us)
      let pg : Page := .pub l
      if (s.trip l n).told then ok s
      else
        let s := s.setTrip l n { s.trip l n with told := true }
        let s := s.setFld pg F.PUB_TRIP_STATUS_DIS (bitsPut (s.fld pg F.PUB_TRIP_STATUS_DIS) n n 1)
        ok (s.bumpEv (.lane l) pg F.PUB_CNT_COUNT 6 bkPUB 0 n)

end Sys2Proof.Machine
end

