-- ==== Sys2Proof/Machine/Ingest.lean ====
section
/-!
DEFINITION. Stream ingest and grid alignment: the processing grid (R144), the checks of a copy (R138), pairing and timing
(R139 to R141), continuity (R142), the tracker (R143), stream states (R149, R150), release (R145 to R148), the Speedwell
unit (R176), and keys of received tags (R154, R155, R405).
-/

namespace Sys2Proof.Machine
open Sys2Proof

/-! The grid. -/

/-- The grid rates of ING_CTRL.GRID_RATE. -/
def gridRates : List Nat := [4000, 4800, 9600, 12800, 14400, 19200]

/-- The grid rate of a lane in instants per second. -/
def State.gridG (s : State) (l : Lane) : Nat := gridRates.getD (s.fld (.ing l) F.ING_CTRL_GRID_RATE) 4800

/-- The linear time of grid instant `k`, counted from second 0 (R144). -/
def gridT (g k : Nat) : Nat := (k / g) * sec + (k % g) * sec / g

/-- The number of the first instant at or after a time. -/
def gridAt (g t : Nat) : Nat := (t / sec) * g + ((t % sec) * g + sec - 1) / sec

/-- The time of a lane's instant `k`. -/
def State.gT (s : State) (l : Lane) (k : Nat) : Nat := gridT (s.gridG l) k

/-! Keys in a lane. -/

/-- The material of a slot of a lane for a use stamped `t`: VALID, or STALE with the use started at or before S (R405, R409); a slot
with DERIVE = 1 serves no tag. -/
def State.laneKey (s : State) (l : Lane) (slot t : Nat) (tagUse : Bool) : Option (List Byte) :=
  match assocGet (s.lane l).keys slot with
  | none => none
  | some k =>
    let allowed := (if tagUse then k.tag else k.verify) && !k.derive
    if !allowed then none
    else if k.state = 1 then some k.key
    else if k.state = 2 ∧ t ≤ assocGetD (s.lane l).keyS slot 0 then some k.key
    else none

/-- The lane's copy of every VALID slot of the vault (R404, R406): at the next grid instant, and before the first. -/
def State.keyLoad (s : State) (l : Lane) : State :=
  if !s.up .inkwell || !s.up .common then s
  else
    let x := s.lane l
    let valid := s.ink.slots.filter (fun e => decide (e.2.state = 1))
    s.setLane l { x with
      keys := valid.foldl (fun k e => assocPut k e.1 e.2) x.keys
      keyS := x.keyS.filter (fun e => !valid.any (fun v => decide (v.1 = e.1))) }

/-! Entries and records. -/

/-- The active group entry. -/
def ingGrpAddr (l : Lane) (g : Nat) : Nat := winAddr (.ing l) .ingGrpAct (8 * g)

/-- The largest value of an entry field. -/
def EFld.maxVal (f : EFld) : Nat := 2 ^ (f.hi + 1 - f.lo) - 1

/-- Add to a counter field of an entry, saturating (R11). -/
def State.bumpEnt (s : State) (a : Nat) (f : EFld) (n : Nat := 1) : State := s.setEnt a f (min (s.ent a f + n) f.maxVal)

/-- A stream's state. -/
def State.str (s : State) (l : Lane) (n : Nat) : StrSt := assocGetD (s.lane l).strs n .empty

/-- Store a stream's state. -/
def State.setStr (s : State) (l : Lane) (n : Nat) (x : StrSt) : State :=
  s.setLane l { s.lane l with strs := assocPut (s.lane l).strs n x }

/-- The sample rates of Table 6.2. -/
def svRates : List Nat := [4000, 4800, 12800, 14400, 96000]

/-- The sample periods of Table 6.6. -/
def svPeriods : List Nat := [16384000000, 13653333333, 5120000000, 4551111111, 682666667]

/-- The sample period of stream n. -/
def State.strT (s : State) (l : Lane) (n : Nat) : Nat := svPeriods.getD (s.ent (subAddr l n) E.T6_2_RATE) 0

/-- Where a lane keeps the subscription, group and slot tables of before a switch for the instants before g_c: addresses of the
model's own (log entry 42). -/
def oldTables (l : Lane) : Nat := 2 ^ 48 + 0x800000 + 0x200000 * l.idx

/-- The subscription entry of stream n that governs instant k: the one of before the switch for an instant before g_c (R156). -/
def State.subAt (s : State) (l : Lane) (n k : Nat) : Nat :=
  if n < 4096 ∧ k < (s.lane l).subGc then oldTables l + 64 * n else subAddr l n

/-- The group entry that governs instant k (R156). -/
def State.grpAt (s : State) (l : Lane) (g k : Nat) : Nat :=
  if k < (s.lane l).subGc then oldTables l + 0x40000 + 8 * g else ingGrpAddr l g

/-- LEAD × T_s of stream n for instant k. -/
def State.strLead (s : State) (l : Lane) (n k : Nat) : Nat :=
  s.ent (s.subAt l n k) E.T6_2_LEAD * svPeriods.getD (s.ent (s.subAt l n k) E.T6_2_RATE) 0

/-- The state of stream n (Table 6.7): 0 WAITING, 1 REVIVING, 2 LIVE, 3 LOST. -/
def State.strState (s : State) (l : Lane) (n : Nat) : Nat := s.ent (strRec l n) E.T6_10_STATE

/-- Change a stream's state: its bit in ING_CHG_MAP and CHANGE are set (R150). -/
def State.setStrState (s : State) (l : Lane) (n v : Nat) : State :=
  if s.strState l n = v then s
  else
    let s := s.setEnt (strRec l n) E.T6_10_STATE v
    if 4096 ≤ n then s else
    let a := winAddr (.ing l) .ingChgMap (n / 32 * 4)
    let s := s.setWin a (BitVec.ofNat 32 (bitsPut (s.win a).toNat (n % 32) (n % 32) 1))
    s.setBit (.ing l) F.ING_STATUS_CHANGE

/-- The loss deadline of a LIVE or REVIVING stream (R150). -/
def State.lossDeadline (s : State) (l : Lane) (n : Nat) : Nat :=
  (ofT96 (s.ent (strRec l n) E.T6_10_LAST_STAMP)).getD 0 + s.ent (subAddr l n) E.T6_2_LOSS_TMO * us

/-- The valid streams of a lane, rising. -/
def State.streams (s : State) (l : Lane) : List Nat :=
  (s.entries (subAddr l 0) 0x40000 64).filter (fun n => decide (s.ent (subAddr l n) E.T6_2_VALID = 1))

/-- The valid streams of the table that governs instant k. -/
def State.streamsAt (s : State) (l : Lane) (k : Nat) : List Nat :=
  (s.entries (s.subAt l 0 k) 0x40000 64).filter (fun n => decide (s.ent (s.subAt l n k) E.T6_2_VALID = 1))

/-- The members of an alignment group for instant k. -/
def State.members (s : State) (l : Lane) (g k : Nat) : List Nat :=
  (s.streamsAt l k).filter (fun n => decide (s.ent (s.subAt l n k) E.T6_2_GROUP = g))

/-! Release of instants. -/

/-- The stamp with which a LIVE stream covers instant k: that of its first delivered frame reaching g + LEAD × T_s (R145). -/
def State.coverStamp (s : State) (l : Lane) (n k : Nat) : Option Nat :=
  let t : Int := (s.gT l k + s.strLead l n k : Nat)
  (((s.str l n).fine.filter (fun x => decide (t ≤ x.t))).getLast?).map (fun x => x.stamp)

/-- The active descriptor of slot `i` = 512 e + k. -/
def slotDesc (l : Lane) (i : Nat) : Nat := winAddr (.flt l) .fltSlotAct (64 * i)

/-- The descriptor of a slot that governs instant g: the one of before the switch for an instant before g_c (R184). -/
def State.slotAt (s : State) (l : Lane) (i g : Nat) : Nat :=
  if g < (s.lane l).fltGc then oldTables l + 0x80000 + 64 * i else slotDesc l i

/-- A stream's slots become ready for an instant (R174). -/
def State.slotRelease (s : State) (l : Lane) (n : Nat) (e : RelEnt) : State :=
  if !s.bit (.flt l) F.FLT_CTRL_EN then s else
  let ks := (s.entries (s.slotAt l 0 e.g) 0x80000 64).filter (fun k =>
    decide (s.ent (s.slotAt l k e.g) E.T7_1_VALID = 1 ∧ s.ent (s.slotAt l k e.g) E.T7_1_STREAM = n))
  ks.foldl (fun s k =>
    let x := assocGetD (s.lane l).slots k .empty
    s.setLane l { s.lane l with slots := assocPut (s.lane l).slots k { x with ready := x.ready ++ [e] } }) s

/-- Release instant k of one stream with the latest eligible stamp. -/
def State.strRelease (s : State) (l : Lane) (n k dl : Nat) : State :=
  s.slotRelease l n ⟨k, dl, decide (s.strState l n = 2), s.real⟩

/-- The alignment deadline of instant k of a group (R145). -/
def State.alignDeadline (s : State) (l : Lane) (g k : Nat) : Nat :=
  s.gT l k + ((s.members l g k).map (fun n => s.strLead l n k)).foldl max 0 + s.ent (s.grpAt l g k) E.T6_3_WINDOW * us

/-- The next instant a group has to release. -/
def State.grpNext (s : State) (l : Lane) (g : Nat) : Nat := assocGetD (s.lane l).grpRel g (s.lane l).gridFirst

/-- Release the next instant of a group: members that are LIVE and late are counted (R146, R147), and a frame of theirs that was on
time but comes after this is a settle overrun (R27). -/
def State.grpRelease (s : State) (l : Lane) (g : Nat) : State :=
  let k := s.grpNext l g
  let d := s.alignDeadline l g k
  let s := (s.members l g k).foldl (fun s n =>
    let covered := match s.coverStamp l n k with
      | some st => decide (st ≤ d)
      | none => false
    let s := if s.strState l n = 2 && !covered then
        let s := (s.setStr l n { s.str l n with alignD := some d }).bumpEnt (strRec l n) E.T6_10_LATE
        s.evCount (.lane l) bkING 1 2 n (s.ent (strRec l n) E.T6_10_LATE)
      else s
    s.strRelease l n k d) s
  s.setLane l { s.lane l with grpRel := assocPut (s.lane l).grpRel g (k + 1) }

/-- Has every member covered the next instant of a group in time, or been lost in time (R146)? DEDUCED: an instant that has not come
is not released, whatever its members are. -/
def State.grpCovered (s : State) (l : Lane) (g : Nat) : Bool :=
  let k := s.grpNext l g
  let d := s.alignDeadline l g k
  !(s.members l g k).isEmpty && (s.members l g k).all (fun n =>
    (decide (s.strState l n = 2) && (match s.coverStamp l n k with
      | some st => decide (st ≤ d)
      | none => false)) ||
    (decide (s.strState l n = 3) && decide ((s.str l n).lossAt ≤ d ∧ s.gT l k ≤ s.laneNow l)))

/-- The next instant a solo stream has to release. -/
def State.soloNext (s : State) (l : Lane) (n : Nat) : Nat := ((s.str l n).rel).getD (s.lane l).gridFirst

/-- Is a stream solo for instant k (R145)? -/
def State.soloAt (s : State) (l : Lane) (n k : Nat) : Bool :=
  decide (s.ent (s.subAt l n k) E.T6_2_VALID = 1 ∧ s.ent (s.subAt l n k) E.T6_2_GROUP = 255)

/-- The stamp with which a LIVE solo stream covers its next instant (R148). -/
def State.soloCover (s : State) (l : Lane) (n : Nat) : Option Nat :=
  if s.soloAt l n (s.soloNext l n) && decide (s.strState l n = 2) then s.coverStamp l n (s.soloNext l n) else none

/-- The groups a stream is a member of: by the active table, and by the one of before the switch. -/
def State.strGrps (s : State) (l : Lane) (n : Nat) : List Nat :=
  ([s.subAt l n 0, subAddr l n].map (fun a => s.ent a E.T6_2_GROUP)).filter (fun g => decide (g ≠ 255))

/-- Release every instant that a new coverage or loss allows, at most `fuel` of them: of the stream itself when solo, and of
its group (R146, R148). -/
def State.releaseOn (s : State) (l : Lane) (n : Nat) : Nat → State
  | 0 => s
  | fuel + 1 =>
    if !s.gridRun l || decide (4096 ≤ n) then s
    else
      match s.soloCover l n with
      | some st =>
        let k := s.soloNext l n
        let s := s.strRelease l n k st
        (s.setStr l n { s.str l n with rel := some (k + 1) }).releaseOn l n fuel
      | none =>
        match (s.strGrps l n).find? (fun g => s.grpCovered l g) with
        | some g => (s.grpRelease l g).releaseOn l n fuel
        | none => s

/-- How many releases one event can bring a stream: the instants from the earliest it has not released to the newest that has come or
that its newest sample reaches, for itself and for its groups. -/
def State.relFuel (s : State) (l : Lane) (n : Nat) : Nat :=
  let newest := ((s.str l n).fine.head?.map (fun x => x.t.toNat)).getD 0
  let hi := gridAt (s.gridG l) (max (s.laneNow l) newest)
  let gs := s.strGrps l n
  let lo := (gs.map (fun g => s.grpNext l g)).foldl min (s.soloNext l n)
  (1 + gs.length) * (hi + 1 - lo)

/-- Release every instant of a stream, and of its groups, that can be released now (R146, R148). -/
def State.strGo (s : State) (l : Lane) (n : Nat) : State := s.releaseOn l n (s.relFuel l n)

/-! The Speedwell unit. -/

/-- Give a token to a Quill source queue. -/
def State.tokPush (s : State) (l : Lane) (src : Nat) (t : Tok) : State :=
  let x := s.lane l
  let q := assocGetD x.quill.src src .empty
  s.setLane l { x with quill := { x.quill with src := assocPut x.quill.src src { q with toks := q.toks ++ [t] } } }

/-- The hold values of the Speedwell delay line after a sample: a GOOD or QUEST value replaces its channel's (R176). -/
def swHold (good : List (Nat × Int)) (chans : List Smp) : List (Nat × Int) :=
  ((List.range chans.length).zip chans).foldl (fun g e => if e.2.code ≤ 1 then assocPut g e.1 e.2.val else g) good

/-- The entry of the Speedwell delay line for a smpCnt (R176): the newest that has it; without one the sample is MISSING. -/
def swAt (sw : List (Nat × List Smp)) (cnt : Nat) : List Smp :=
  match sw.find? (fun e => decide (e.1 = cnt)) with
  | some e => e.2
  | none => []

/-- A sample as Speedwell and the filters take it: the hold value in place of an INVALID or MISSING value (R169). -/
def Smp.held (x : Smp) (hold : Int) : Int := if 2 ≤ x.code then hold else x.val

/-- One entry of the Speedwell table, at address `a`, on the newest sample of stream n's delay line, whose smpCnt counts modulo `m`
(R176). -/
def State.speedwellTok (s : State) (a n smpCnt m : Nat) (x : StrSt) : Tok :=
  let sw := x.sw
  let c := s.ent a E.T7_5_CHANNEL
  let hold := assocGetD x.swGood c 0
  let x := (swAt sw smpCnt).getD c .missing
  let q := s.ent a E.T7_5_QDELAY
  let y := (swAt sw ((smpCnt + m * (q + 1) - q) % m)).getD c .missing
  let scale := s.ent a E.T7_5_SCALE
  let va := fMul f32 (fOfInt f32 (x.held hold)) scale
  let vq := fMul f32 (fOfInt f32 (y.held hold)) scale
  let mag := fSqrt f32 (fFma f32 va va (fMul f32 vq vq))
  ⟨smpCnt, true, n + 8192 * c, s.ent a E.T7_5_NODE, 0, max x.code y.code, x.test || y.test, va + 2 ^ 32 * mag, decide (sw.length = 1), 0⟩

/-- The samples of one ASDU enter the Speedwell delay line, and every entry of the stream's channels sends a token: to
Quill, or on an EPS stream to the element of the record (R422). -/
def State.swSample (s : State) (l : Lane) (n smpCnt : Nat) (chans : List Smp) : State :=
  if n < 4096 && !s.bit (.flt l) F.FLT_CTRL_SW_EN then s
  else
    let x := s.str l n
    let x := { x with sw := ((smpCnt, chans) :: x.sw).take 1024, swGood := swHold x.swGood chans }
    let m := s.ent (subAddr l n) E.T6_2_CNT_MOD_M1 + 1
    let s := s.setStr l n x
    if n < 4096 then
      let base := winAddr (.flt l) .fltSwAct 0
      let ks := (s.entries base 0x20000 16).filter (fun k =>
        decide (s.ent (base + 16 * k) E.T7_5_VALID = 1 ∧ s.ent (base + 16 * k) E.T7_5_STREAM = n))
      ks.foldl (fun s k => s.tokPush l 16 (s.speedwellTok (base + 16 * k) n smpCnt m x)) s
    else
      let at_ := fun (e : Nat) => epsBase l + 0x1200 + 48 * e
      let es := (List.range (s.ent (epsBase l) E.T19_2_N_ELEM)).filter (fun e =>
        decide (s.ent (at_ e) E.T7_5_VALID = 1 ∧ s.ent (at_ e) E.T7_5_STREAM = n - 4096))
      es.foldl (fun s e =>
        s.setLane l { s.lane l with epsQ := (s.lane l).epsQ ++ [(e, s.speedwellTok (at_ e) n smpCnt m x)] }) s

/-! The tracker and the fine path. -/

/-- An arithmetic shift right, toward minus infinity. -/
def asr (x : Int) (k : Nat) : Int := x / (2 ^ k : Int)

/-- What an entry that leaves the history adds to the hold values (R169). -/
def oldHold (old : List (Nat × OldGood)) (e : FineSmp) : List (Nat × OldGood) :=
  ((List.range e.chans.length).zip e.chans).foldl (fun g c => if c.2.code ≤ 1 then assocPut g c.1 ⟨e.n, e.stamp, c.2.val⟩ else g) old

/-- Append delivered samples to a stream's history, keeping the newest 512 (R161). -/
def StrSt.addFine (x : StrSt) (cnt : Nat) (t : Int) (stamp : Nat) (chans : List Smp) : StrSt :=
  let all := ⟨x.nextN, cnt, t, stamp, chans⟩ :: x.fine
  { x with fine := all.take 512, old := (all.drop 512).foldl oldHold x.old, nextN := x.nextN + 1 }

/-- The first sample since the stream became LIVE takes its place by smpCnt behind the history of before: the entries between hold
nothing and count as MISSING (R161, R171). DEDUCED: a whole turn of smpCnt lies between equal counts. -/
def StrSt.revive (x : StrSt) (cnt m : Nat) : StrSt :=
  match x.fine.head? with
  | some e =>
    let skip := (cnt + m - e.cnt % m - 1 + m) % m
    { x with nextN := x.nextN + (if skip = 0 then m else skip) }
  | none => x

/-- Append skipped samples as MISSING at their predicted instants (R142). -/
def StrSt.addGap (x : StrSt) (t0 : Int) (ts stamp key m : Nat) : Nat → Nat → StrSt
  | 0, _ => x
  | n + 1, i => (x.addFine ((key + m * (n + 1) - (n + 1)) % m) (t0 + ts * (i + 1)) stamp []).addGap t0 ts stamp key m n (i + 1)

/-- Append the ASDUs of a frame at their instants. -/
def StrSt.addAsdus (x : StrSt) (phase : Int) (ts stamp nasdu key m : Nat) (held : Bool) : Nat → List (List Smp) → StrSt
  | _, [] => x
  | j, d :: rest =>
    let chans := if held then d.map (fun c => { c with code := max c.code 1 }) else d
    (x.addFine ((key + j) % m) (phase - ts * (nasdu - 1 - j : Nat)) stamp chans).addAsdus phase ts stamp nasdu key m held (j + 1) rest

/-- The loss deadline still to come once frame `f` is decided: an earlier one kept, or the running one when no copy of `f` is
stamped at or before it (R150). -/
def State.strOverdue (s : State) (l : Lane) (n : Nat) (f : SvFrame) : Option (Nat × Nat) :=
  let dl := s.lossDeadline l n
  match (s.str l n).overdue with
  | some o => some o
  | none => if f.first || f.copies.any (fun c => decide (c.stamp ≤ dl)) then none else some (dl, f.key)

/-- The update of R143 for the frame at the head of the stream's order, once its timing copy is decided. -/
def State.track (s : State) (l : Lane) (n : Nat) (f : SvFrame) (c : SvCopy) : State :=
  let sub := subAddr l n
  let rec_ := strRec l n
  let ts := s.strT l n
  let nasdu := s.ent sub E.T6_2_NASDU
  let fibre := if c.lan = 0 then s.ent sub E.T6_2_FIBRE_A else s.ent sub E.T6_2_FIBRE_B
  let e : Int := (c.stamp : Int) - 16384 * (fibre : Int) - 16384 * (s.ent sub E.T6_2_MU_DELAY : Int)
  let x := s.str l n
  let late := s.strOverdue l n f
  let gateRun := s.ent rec_ E.T6_10_GATE_RUN
  let adv := nasdu + f.gap
  let pred := x.phase + (ts * adv : Nat)
  let err := e - pred
  let gate := s.ent sub E.T6_2_TRK_GATE
  let gated := decide (gate ≠ 0) && decide ((gate * us : Nat) < err.natAbs)
  let (phase, run, held, re) : Int × Nat × Bool × Bool :=
    if s.ent rec_ E.T6_10_TRK_VALID = 0 ∨ f.anchor then (e, 0, false, false)
    else if gated then
      if gateRun + 1 = 4 then (e, 0, false, true) else (pred, gateRun + 1, true, false)
    else (pred + asr err (s.ent sub E.T6_2_TRK_SHIFT), 0, false, false)
  let s := s.setEnt rec_ E.T6_10_TRK_VALID 1
  let s := s.setEnt rec_ E.T6_10_GATE_RUN run
  let s := if re then s.bumpEnt rec_ E.T6_10_REANCHOR else s
  let s := s.setEnt rec_ E.T6_10_PHASE (toT96 phase.toNat)
  let s := s.setEnt rec_ E.T6_10_LAST_STAMP (toT96 c.stamp)
  let s := if c.lan ≠ s.ent sub E.T6_2_PREF_LAN then s.bumpEnt rec_ E.T6_10_NONPREF else s
  let y :=
    if f.deliver then
      let m := s.ent sub E.T6_2_CNT_MOD_M1 + 1
      let x := if f.revives then x.revive f.key m else x
      ({ x with phase := phase }.addGap x.phase ts c.stamp f.key m f.gap 0).addAsdus phase ts c.stamp nasdu f.key m held 0 c.data
    else { x with phase := phase }
  let done := (⟨f.key, f.oct, f.copies.map (fun d => d.lan), c.lan, c.stamp⟩ :: y.done).take 16
  s.setStr l n { y with done := done, overdue := late }

/-- Decide every frame at the head of the order whose timing copy is known, in key order (R141). -/
def State.flushFrames (s : State) (l : Lane) (n : Nat) : Nat → State
  | 0 => s
  | fuel + 1 =>
    match (s.str l n).pend with
    | [] => s
    | f :: rest =>
      match f.timing with
      | none => s
      | some c =>
        let s := s.setStr l n { s.str l n with pend := rest }
        let s := s.track l n f c
        (s.strGo l n).flushFrames l n fuel

/-- The timing copy of a frame as far as its copies decide it (R140): on the preferred copy's arrival. -/
def timingOf (pref wait : Nat) (copies : List SvCopy) : Option SvCopy :=
  match copies.find? (fun c => decide (c.lan = pref)) with
  | none => none
  | some p =>
    match copies.find? (fun c => decide (c.lan ≠ pref)) with
    | some o => if o.stamp + wait < p.stamp then some o else some p
    | none => some p

/-! The checks of a copy. -/

/-- Count in ING_CNTk. -/
def State.ingCnt (s : State) (l : Lane) (k : Nat) : State := s.bump (.ing l) F.ING_CNT_COUNT k

/-- Count in ING_CNTk for a copy of stream n; the copies of an EPS stream are counted in its own record only, since
ING_CTRL.EN = 0 leaves every copy uncounted (log entry 12). -/
def State.ingCntN (s : State) (l : Lane) (n k : Nat) : State := if 4096 ≤ n then s else s.ingCnt l k

/-- The stream a copy belongs to (R137), among some streams. -/
def State.subFind (s : State) (l : Lane) (among : List Nat) (m : SvMsg) : Option Nat :=
  let crc := crcOf crc32c ((m.asdus.head?.map (fun a => a.svId)).getD [])
  among.find? (fun n =>
    let a := subAddr l n
    decide (s.ent a E.T6_2_DMAC = m.dmac ∧ s.ent a E.T6_2_VID = m.vid ∧ s.ent a E.T6_2_APPID = m.appid ∧
      s.ent a E.T6_2_SVID_CRC = crc))

/-- The layout check of Table 6.1 against an entry (step 3). -/
def svFormat (nasdu nch cntMod rate fnom : Nat) (m : SvMsg) : Bool :=
  let id := (m.asdus.head?.map (fun a => a.svId)).getD []
  let key := (m.asdus.head?.map (fun a => a.smpCnt)).getD 0
  let rateOk := fun (a : SvAsdu) => match a.smpRate with
    | none => true
    | some r =>
      match a.smpMod with
      | some 1 => decide (r = rate)
      | some _ => decide (rate % fnom = 0 ∧ r = rate / fnom)
      | none => decide (r = rate) || decide (rate % fnom = 0 ∧ r = rate / fnom)
  m.wellFormed && decide (1 ≤ id.length ∧ id.length ≤ 127) && decide (m.asdus.length = nasdu) &&
    ((List.range nasdu).zip m.asdus).all (fun ja =>
      decide (ja.2.svId = id ∧ ja.2.smpCnt = (key + ja.1) % cntMod ∧ ja.2.data.length = nch) && rateOk ja.2 &&
        (match ja.2.smpMod with
         | some v => decide (v ≤ 1)
         | none => true))

/-- Steps 1 to 4 of the seal check (R289). -/
def sealOk (body : List Byte) (trailer : Option (List Byte)) (src : Nat) : Bool :=
  match trailer with
  | none => false
  | some t =>
    decide (t.length = 16) && decide (beNat (t.take 2) = 0xC5E1) && decide (beNat ((t.drop 2).take 1) = 1) &&
      decide (beNat ((t.drop 12).take 4) = crcOf crc32c (body ++ t.take 12)) &&
      decide (beNat ((t.drop 4).take 4) = src) && decide (beNat ((t.drop 3).take 1) = 0)

/-- ALIVE of a seal. -/
def sealAlive (trailer : Option (List Byte)) : Nat :=
  match trailer with
  | none => 0
  | some t => beNat ((t.drop 8).take 4)

/-- What the tag check of a copy finds (R154): 0 passes, 1 passes under the next key, 2 fails. -/
def State.tagCheck (s : State) (l : Lane) (cur nxt idCur idNxt : Nat) (nxtOk : Bool) (mode stamp : Nat) (x : AuthExt) : Nat :=
  let len := if mode = 1 then 16 else 32
  let ok := fun (slot : Nat) =>
    match s.laneKey l slot stamp false with
    | none => false
    | some k => decide (x.tag.length = len) && decide ((hmac sha256P k x.span).take len = x.tag)
  if x.keyId = idCur then (if ok cur then 0 else 2)
  else if nxtOk ∧ x.keyId = idNxt then (if ok nxt then 1 else 2)
  else 2

/-- Does the slot that a failed tag check used hold no key any more, though the copy is stamped at or before its stale instant S? Such a
check is a settle overrun (R409). -/
def State.keyGone (s : State) (l : Lane) (cur nxt idCur idNxt : Nat) (nxtOk : Bool) (stamp : Nat) (x : AuthExt) : Bool :=
  let gone := fun (slot : Nat) => (assocGet (s.lane l).keys slot).isNone && (assocGet (s.lane l).keyS slot).any (fun t => decide (stamp ≤ t))
  if x.keyId = idCur then gone cur else nxtOk && decide (x.keyId = idNxt) && gone nxt

/-- A copy verified under the next key promotes it, and a running build logs the promotion (R154, R155). -/
def State.promote (s : State) (l : Lane) (n : Nat) : State :=
  let a := subAddr l n
  let slot := s.ent a E.T6_2_SLOT_NEXT
  let id := s.ent a E.T6_2_KEY_ID_NEXT
  let s := s.setEnt a E.T6_2_SLOT_CUR slot
  let s := s.setEnt a E.T6_2_KEY_ID_CUR id
  let s := s.setEnt a E.T6_2_NEXT_VALID 0
  let pg : Page := .ing l
  if !s.bit pg F.ING_TBL_STATUS_BUILDING || s.bit pg F.ING_TBL_STATUS_OVERFLOW then s
  else
    let x := s.lane l
    if 4096 ≤ x.ingLog.length then s.setBit pg F.ING_TBL_STATUS_OVERFLOW
    else (s.setLane l { x with ingLog := x.ingLog ++ [(n, slot, id)] }).setFld pg F.ING_TBL_STATUS_LOG_COUNT (x.ingLog.length + 1)

/-- Checks 2 to 7 of Table 6.4 on a copy of stream n: the state after them, and whether it passed. -/
def State.svChecks (s : State) (l : Lane) (n stamp : Nat) (timeOk : Bool) (m : SvMsg) : State × Bool :=
  let a := subAddr l n
  let fnom := if s.ent a E.T6_2_F60 = 1 then 60 else 50
  let auth := s.ent a E.T6_2_AUTH
  let fail := fun (s : State) => s.bumpEnt (strRec l n) E.T6_10_AUTH_FAIL
  if !timeOk && decide (n < 4096) then (s.ingCntN l n 7, false)
  else if !svFormat (s.ent a E.T6_2_NASDU) (s.ent a E.T6_2_NCH) (s.ent a E.T6_2_CNT_MOD_M1 + 1)
      (svRates.getD (s.ent a E.T6_2_RATE) 0) fnom m then (s.ingCntN l n 1, false)
  else if m.sim && decide (s.ent a E.T6_2_SIM_ACC = 0) then (s.ingCntN l n 2, false)
  else if m.asdus.any (fun d => decide (d.confRev ≠ s.ent a E.T6_2_CONF_REV)) then (s.ingCntN l n 3, false)
  else if s.ent a E.T6_2_SEAL_REQ = 1 ∧ !sealOk m.body m.trailer (s.ent a E.T6_2_SEAL_SRC) then (fail (s.ingCntN l n 4), false)
  else if auth = 0 then (s, true)
  else
    match m.auth with
    | none => (fail (s.ingCntN l n 6), false)
    | some x =>
      let r := s.tagCheck l (s.ent a E.T6_2_SLOT_CUR) (s.ent a E.T6_2_SLOT_NEXT) (s.ent a E.T6_2_KEY_ID_CUR)
        (s.ent a E.T6_2_KEY_ID_NEXT) (decide (s.ent a E.T6_2_NEXT_VALID = 1 ∧ n < 4096)) auth stamp x
      let gone := s.keyGone l (s.ent a E.T6_2_SLOT_CUR) (s.ent a E.T6_2_SLOT_NEXT) (s.ent a E.T6_2_KEY_ID_CUR)
        (s.ent a E.T6_2_KEY_ID_NEXT) (decide (s.ent a E.T6_2_NEXT_VALID = 1 ∧ n < 4096)) stamp x
      if r = 2 then (fail ((if gone then s.settleOvr l else s).ingCntN l n 5), false)
      else if r = 1 then (s.promote l n, true)
      else (s, true)

/-- The samples of a copy with their codes, TEST marks and quality (R151, R152). -/
def svSamples (syncReq : Bool) (m : SvMsg) : List (List Smp) :=
  m.asdus.map (fun d => d.data.map (fun vq =>
    let v := vq.2 % 4
    let base := if v = 1 ∨ v = 2 then 2 else if v = 3 then 1 else 0
    let code := if syncReq && decide (d.smpSynch = 0) then max base 1 else base
    ⟨signedOf 32 vq.1, code, m.sim || bitAt vq.2 11, vq.2⟩))

/-- A frame enters the stream's order: it is kept until its timing copy is decided, which for a preferred copy is at once. -/
def State.putFrame (s : State) (l : Lane) (n : Nat) (f : SvFrame) : State :=
  let a := subAddr l n
  let f := { f with timing := timingOf (s.ent a E.T6_2_PREF_LAN) (s.ent a E.T6_2_COPY_WAIT * us) f.copies }
  let x := s.str l n
  (s.setStr l n { x with pend := x.pend ++ [f] }).flushFrames l n (x.pend.length + 1)

/-- Give a frame's samples to the Speedwell path, with its skipped samples as MISSING before them (R139, R151). -/
def State.swFrame (s : State) (l : Lane) (n gap key : Nat) (data : List (List Smp)) : State :=
  let cm := s.ent (subAddr l n) E.T6_2_CNT_MOD_M1 + 1
  let s := (List.range gap).foldl (fun s i => s.swSample l n ((key + cm * gap - gap + i) % cm) []) s
  ((List.range data.length).zip data).foldl (fun s e => s.swSample l n ((key + e.1) % cm) e.2) s

/-- A first copy accepted at the continuity check (R142, R149). `how`: 0 in sequence, 1 a gap, 2 starts REVIVING. -/
def State.accept (s : State) (l : Lane) (n key : Nat) (oct : List Byte) (c : SvCopy) (alive : Nat) (gap how : Nat) : State :=
  let rec_ := strRec l n
  let a := subAddr l n
  let revive := s.ent a E.T6_2_REVIVE
  let s := s.setEnt rec_ E.T6_10_LAST_KEY key
  let s := s.bumpEnt rec_ E.T6_10_FRAMES
  let s := if gap = 0 then s else s.bumpEnt rec_ E.T6_10_MISSED gap
  let s := s.setStr l n { s.str l n with alive := some alive }
  let st := s.strState l n
  let first := decide (st = 0 ∨ st = 3)
  let cnt := if how = 2 ∨ how = 1 then 1 else s.ent rec_ E.T6_10_REVIVE_CNT + 1
  let s :=
    if how = 2 then (s.setStrState l n 1).setEnt rec_ E.T6_10_TRK_VALID 0
    else s
  let reviving := decide (how = 2) || decide (st = 1)
  let s := if reviving then s.setEnt rec_ E.T6_10_REVIVE_CNT (min cnt 15) else s
  let goesLive := reviving && decide (revive ≤ cnt)
  let s := if goesLive then (s.setStrState l n 2).setStr l n { s.str l n with sw := [], swGood := [] } else s
  let live := decide (s.strState l n = 2)
  let gap' := if how = 1 then gap else 0
  let s := if live then s.swFrame l n (if goesLive then 0 else gap') key c.data else s
  s.putFrame l n ⟨key, oct, [c], none, gap', live, decide (how = 2), first, goesLive⟩

/-- A copy of a frame whose first copy was accepted earlier and is still to be decided (R139, R140). -/
def State.secondCopy (s : State) (l : Lane) (n : Nat) (f : SvFrame) (oct : List Byte) (c : SvCopy) : State :=
  let s := s.ingCntN l n 8
  if f.copies.any (fun d => decide (d.lan = c.lan)) then s
  else
    let s := if f.oct = oct then s
      else
        let s := s.ingCntN l n 10
        if 4096 ≤ n then s else s.evCount (.lane l) bkING 0 10 n (s.fld (.ing l) F.ING_CNT_COUNT 10)
    let a := subAddr l n
    let x := s.str l n
    let upd := fun (g : SvFrame) =>
      if g.key = f.key then
        let copies := g.copies ++ [c]
        { g with copies := copies, timing := timingOf (s.ent a E.T6_2_PREF_LAN) (s.ent a E.T6_2_COPY_WAIT * us) copies }
      else g
    (s.setStr l n { x with pend := x.pend.map upd }).flushFrames l n x.pend.length

/-- A copy of a frame already decided within the last 16 (R139): counted DUP, compared with the first when it is the
second copy; a preferred copy that was on time has overrun the settle margin (R27). -/
def State.doneCopy (s : State) (l : Lane) (n : Nat) (d : SvDone) (oct : List Byte) (c : SvCopy) : State :=
  let s := s.ingCntN l n 8
  if d.lans.contains c.lan then s
  else
    let a := subAddr l n
    let s := if d.oct = oct then s
      else
        let s := s.ingCntN l n 10
        if 4096 ≤ n then s else s.evCount (.lane l) bkING 0 10 n (s.fld (.ing l) F.ING_CNT_COUNT 10)
    let pref := s.ent a E.T6_2_PREF_LAN
    let s := if c.lan = pref ∧ d.timing ≠ pref ∧ c.stamp ≤ d.stamp + s.ent a E.T6_2_COPY_WAIT * us then s.settleOvr l else s
    let x := s.str l n
    let met := match x.overdue with
      | some o => decide (o.2 = d.key) && decide (c.stamp ≤ o.1)
      | none => false
    s.setStr l n { x with
      overdue := if met then none else x.overdue
      done := x.done.map (fun e => if e = d then { e with lans := e.lans ++ [c.lan] } else e) }

/-- The continuity check on a first copy (Table 6.5) and what follows from it. A copy that was on time for a loss or an alignment
deadline already decided is a settle overrun (R27). -/
def State.continuity (s : State) (l : Lane) (n key : Nat) (m : SvMsg) (c : SvCopy) : State :=
  let a := subAddr l n
  let rec_ := strRec l n
  let st := s.strState l n
  let md := s.ent a E.T6_2_CNT_MOD_M1 + 1
  let nas := s.ent a E.T6_2_NASDU
  let k := s.ent rec_ E.T6_10_LAST_KEY
  let delta := ((key : Int) - k - nas) % (md : Int)
  let delta := delta.toNat
  let alive := sealAlive m.trailer
  let frozen := decide (s.ent a E.T6_2_SEAL_REQ = 1) && decide ((s.str l n).alive = some alive)
  let refuse := fun (s : State) => (s.ingCntN l n 4).bumpEnt rec_ E.T6_10_AUTH_FAIL
  let s := if (st = 3 ∧ c.stamp ≤ (s.str l n).lossAt) ∨ (s.str l n).alignD.any (fun d => decide (c.stamp ≤ d)) then s.settleOvr l else s
  if st = 0 ∨ st = 3 then
    s.accept l n key m.asduOct c alive 0 2
  else if delta = 0 then
    if frozen then refuse s else s.accept l n key m.asduOct c alive 0 0
  else if delta ≤ s.ent a E.T6_2_GAP_MAX then
    if frozen then refuse s else s.accept l n key m.asduOct c alive delta 1
  else if md - 16 * nas ≤ delta then s.ingCntN l n 9
  else (s.bumpEnt rec_ E.T6_10_DISCONT).accept l n key m.asduOct c alive 0 2

/-- A checked copy of stream n is paired with the other LAN's copy, or meets the continuity check (R139, R142). -/
def State.svCopy (s : State) (l : Lane) (n lan stamp : Nat) (m : SvMsg) : State :=
  let key := (m.asdus.head?.map (fun a => a.smpCnt)).getD 0
  let c : SvCopy := ⟨lan, stamp, svSamples (decide (s.ent (subAddr l n) E.T6_2_SYNC_REQ = 1)) m⟩
  match (s.str l n).pend.find? (fun f => decide (f.key = key)) with
  | some f => s.secondCopy l n f m.asduOct c
  | none =>
    match (s.str l n).done.find? (fun d => decide (d.key = key)) with
    | some d => s.doneCopy l n d m.asduOct c
    | none => s.continuity l n key m c

/-! The commands. -/

/-- One copy of a stream among some streams: checks of Table 6.4, then pairing and continuity; map writes that waited for
its timing copy take their E (R241). -/
def State.svAmong (s : State) (l : Lane) (n lan stamp : Nat) (timeOk : Bool) (m : SvMsg) : State :=
  let r := s.svChecks l n stamp timeOk m
  if r.2 then (r.1.svCopy l n lan stamp m).mapResolve l else r.1

/-- SV_COPY_RECEIVED (R138): a copy reaches the lane port. The EPS, while it runs, takes the copies of its own streams
(R422); ingest takes every copy while ING_CTRL.EN = 1. GOOSE frames go to their own command. -/
def execSvCopyReceived (l : Lane) (lan : Fin 2) (stamp : Nat) (timeOk : Bool) (m : SvMsg) (s : State) : Host.Outcome State Fault Refusal :=
  if !s.laneUp l || decide (m.etype = 0x88B8) then ok s
  else
    let s :=
      if s.epsRuns l && decide (m.etype = 0x88BA) then
        match s.subFind l (s.epsStreams l) m with
        | some n => s.svAmong l n lan stamp timeOk m
        | none => s
      else s
    if !s.bit (.ing l) F.ING_CTRL_EN then ok s
    else if m.etype ≠ 0x88BA then ok (s.ingCnt l 0)
    else
      match s.subFind l (s.streams l) m with
      | none => ok (s.ingCnt l 0)
      | some n => ok (s.svAmong l n lan stamp timeOk m)

/-- Does stream n (4,096 + s for EPS stream s) run: ingest for a subscribed stream, the EPS for one of its own? -/
def State.strRuns (s : State) (l : Lane) (n : Nat) : Bool :=
  s.laneUp l && (if n < 4096 then s.bit (.ing l) F.ING_CTRL_EN else s.epsRuns l) && decide (s.ent (subAddr l n) E.T6_2_VALID = 1)

/-- TIMING_COPY_WAIT_EXPIRE (R140): the followed clock reaches S_n + COPY_WAIT + 2.0 µs for the frame at the head of the
stream's order, whose preferred copy has not arrived: the other copy times it. -/
def execTimingCopyWaitExpire (l : Lane) (n : Fin 4160) (s : State) : Host.Outcome State Fault Refusal :=
  if !s.strRuns l n then ok s
  else
    match (s.str l n).pend with
    | [] => ok s
    | f :: rest =>
      match f.timing, f.copies with
      | none, c :: _ =>
        let s := s.reachLane l (c.stamp + s.ent (subAddr l n) E.T6_2_COPY_WAIT * us + settle)
        ok ((s.setStr l n { s.str l n with pend := { f with timing := some c } :: rest }).flushFrames l n (rest.length + 1) |>.mapResolve l)
      | _, _ => ok s

/-- A grid instant passes for a running LANE_CONVERGE, counted on the present lane (R63): every publication compared since the
last instant was equal, and so is every trip drive. -/
def State.convergeInstant (s : State) (l : Lane) : State :=
  match s.com.converge with
  | none => s
  | some c =>
    if c.lane = l then s
    else
      let bad := c.lastBad || tripPins.any (fun n => s.laneDrive .l0 n != s.laneDrive .l1 n)
      let c := { c with run := if bad then 0 else c.run + 1, total := c.total + 1, mism := c.mism + b2n bad, lastBad := false }
      if c.run < c.want then { s with com := { s.com with converge := some c } }
      else
        let s := { s with com := { s.com with converge := none } }
        match s.mbox c.chan with
        | some m => s.setMbox c.chan (some { m with code := stOK, res := [c.total, c.mism], wait := false })
        | none => s

/-- The alignment groups of a lane's streams. -/
def State.groups (s : State) (l : Lane) : List Nat :=
  (((s.streams l).map (fun n => s.ent (subAddr l n) E.T6_2_GROUP)).filter (fun g => decide (g ≠ 255))).dedup

/-- The points that a switch of MAPLAYOUT did not keep are set to the initial record when instant `k` is g_c or later; what is
pending for them with an earlier E is discarded, and cuts before g_c see the records they had (R253). -/
def State.ptsRest (s : State) (l : Lane) (k : Nat) : State :=
  match (s.lane l).map.rests with
  | none => s
  | some (gc, ps) =>
    if k < gc then s
    else
      let e := s.gT l gc
      let m := (s.lane l).map
      let stale := fun (w : MapW) => ps.contains w.point && (match w.e with
        | some t => decide (t < e)
        | none => false)
      let s := s.setMap l { m with rests := none, pend := m.pend.filter (fun w => !stale w) }
      (ps.foldl (fun s p =>
        let old := s.memN l (s.ptAddr l p) 32
        let m := (s.lane l).map
        (s.setMap l { m with hist := m.hist ++ [⟨e, p, old, initRec⟩] }).setMemN l (s.ptAddr l p) 32 initRec) s).pendShow l

/-- The lane's grid passes instant k: points that a switch did not keep are reset (R253), key slots written since reach the lane's store (R406), a running LANE_CONVERGE
counts the instant, and a group whose members are all LOST releases it (R146). -/
def State.gridPass (s : State) (l : Lane) (k : Nat) : State :=
  let s := (s.reachLane l (s.gT l k)).ptsRest l k
  let s := ((s.setLane l { s.lane l with grid := k }).keyLoad l).convergeInstant l
  (s.groups l).foldl (fun s g =>
    match s.members l g (s.grpNext l g) with
    | n :: _ => s.strGo l n
    | [] => s) s

/-- ALIGNMENT_DEADLINE (R146): the followed clock reaches D(g) + 2.0 µs of the next instant a group has not released. -/
def execAlignmentDeadline (l : Lane) (g : Fin 255) (s : State) : Host.Outcome State Fault Refusal :=
  if !s.laneUp l || !s.gridRun l || (s.members l g (s.grpNext l g)).isEmpty then ok s
  else
    let s := s.reachLane l (s.alignDeadline l g (s.grpNext l g) + settle)
    let s := s.grpRelease l g
    match s.members l g (s.grpNext l g) with
    | n :: _ => ok (s.strGo l n)
    | [] => ok s

/-- SOLO_MISSING_RELEASE (R148): a solo stream that is not LIVE releases its next instant at g + LEAD × T_s + 2.0 µs, with
every channel MISSING. -/
def execSoloMissingRelease (l : Lane) (n : Fin 4096) (s : State) : Host.Outcome State Fault Refusal :=
  if !s.laneUp l || !s.bit (.ing l) F.ING_CTRL_EN || !s.gridRun l || !s.soloAt l n (s.soloNext l n) || decide (s.strState l n = 2) then ok s
  else
    let k := s.soloNext l n
    let t := s.gT l k + s.strLead l n k
    let s := s.reachLane l (t + settle)
    let s := s.slotRelease l n ⟨k, t, false, s.real⟩
    ok (s.setStr l n { s.str l n with rel := some (k + 1) })

/-- LOSS_DEADLINE (R150): the followed clock reaches a stream's loss deadline plus 2.0 µs. A frame stamped at or before the
deadline that waits for its timing copy keeps the stream; otherwise it becomes LOST. A deadline that an accepted frame missed
comes first. -/
def execLossDeadline (l : Lane) (n : Fin 4160) (s : State) : Host.Outcome State Fault Refusal :=
  let st := s.strState l n
  if !s.strRuns l n || !decide (st = 1 ∨ st = 2) then ok s
  else
    let rec_ := strRec l n
    let o := (s.str l n).overdue
    let dl := match o with
      | some x => x.1
      | none => s.lossDeadline l n
    let s := s.reachLane l (dl + settle)
    if o.isNone && (s.str l n).pend.any (fun f => f.first || f.copies.any (fun c => decide (c.stamp ≤ dl))) then ok s
    else
      let s := s.setStrState l n 3
      let s := s.bumpEnt rec_ E.T6_10_LOSSES
      let s := s.setEnt rec_ E.T6_10_TRK_VALID 0
      let x := s.str l n
      let s := s.setStr l n { x with lossAt := dl, overdue := none, pend := x.pend.map (fun f => { f with first := true }) }
      ok (s.strGo l n)

/-- ING_CNT_CLR (R158): every ING_CNT and every counter of the state records is cleared. -/
def execIngCntClr (l : Lane) (s : State) : Host.Outcome State Fault Refusal :=
  if !s.laneUp l then ok s
  else
    let s := s.clrRow (.ing l) .ING_CNT 11
    let ns := s.entries (strRec l 0) 0x40000 64
    ok (ns.foldl (fun s n =>
      [E.T6_10_FRAMES, E.T6_10_MISSED, E.T6_10_LATE, E.T6_10_LOSSES, E.T6_10_DISCONT, E.T6_10_AUTH_FAIL, E.T6_10_NONPREF,
        E.T6_10_REANCHOR].foldl (fun s f => s.setEnt (strRec l n) f 0) s) s)

end Sys2Proof.Machine
end

