-- ==== Sys2Proof/Machine/Filter.lean ====
section
/-!
DEFINITION. The filter chain: the resampler (R161, R162), the CIC decimator (R164), the FIR stages (R166), delivery
(R167, R175), missing input (R169 to R171), reset (R172), the slot schedule (R174), coefficient banks (R179), the
wash (R180 to R183) and a slot's new descriptor (R184).
-/

namespace Sys2Proof.Machine
open Sys2Proof

/-- The state record of slot `i`. -/
def slotRec (l : Lane) (i : Nat) : Nat := winAddr (.flt l) .fltState (16 * i)

/-- What a slot holds beside its record. -/
def State.slotSt (s : State) (l : Lane) (i : Nat) : SlotSt := assocGetD (s.lane l).slots i .empty

/-- Store it. -/
def State.setSlotSt (s : State) (l : Lane) (i : Nat) (x : SlotSt) : State :=
  s.setLane l { s.lane l with slots := assocPut (s.lane l).slots i x }

/-- Count in FLT_CNTk. -/
def State.fltCnt (s : State) (l : Lane) (k : Nat) (n : Nat := 1) : State := s.bump (.flt l) F.FLT_CNT_COUNT k n

/-- A coefficient of a bank of an engine, as a signed integer. -/
def State.coef (s : State) (l : Lane) (e b w : Nat) : Int :=
  signedOf 24 (s.win (winAddr (.flt l) .fltCoef ((8 * e + b) * 0x4000 + 4 * w))).toNat

/-- Clamp to INT32, with whether it clamped. -/
def sat32 (v : Int) : Int × Bool :=
  if v < -(2 ^ 31) then (-(2 ^ 31), true)
  else if (2 ^ 31) - 1 < v then ((2 ^ 31) - 1, true)
  else (v, false)

/-- Keep the low 64 bits as a two's complement value (R164). -/
def wrap64 (v : Int) : Int := signedOf 64 (unsignedOf 64 v)

/-- The entries of a stream's history that a slot may use for a released instant: after the slot's reset and stamped in
time (R146, R172). -/
def eligible (fine : List FineSmp) (resetN dl : Nat) : List FineSmp :=
  fine.filter (fun x => decide (resetN ≤ x.n ∧ x.stamp ≤ dl))

/-- The hold value of a channel (R169): of the eligible history, or of what left it since the slot was reset. -/
def holdVal (el : List FineSmp) (old : Option OldGood) (resetN dl c : Nat) : Int :=
  match el.find? (fun x => decide ((x.chans.getD c .missing).code ≤ 1)) with
  | some x => (x.chans.getD c .missing).val
  | none =>
    match old with
    | some o => if resetN ≤ o.n ∧ o.stamp ≤ dl then o.val else 0
    | none => 0

/-- The highest code and the OR of the marks of a support (R170). -/
def supMark (l : List Smp) : Nat × Bool := l.foldl (fun a x => (max a.1 x.code, a.2 || x.test)) (0, false)

/-- The resampler's output for one sub-instant of one channel (R162), with whether it saturated. -/
def resample (bank : Nat → Int) (rsBase taps ts : Nat) (el : List FineSmp) (hold : Int) (c : Nat) (tau : Int) : Smp × Bool :=
  match el.find? (fun x => decide (x.t ≤ tau)) with
  | none => (⟨hold, 3, false, 0⟩, false)
  | some e =>
    let p := ((2048 * (tau - e.t) + ts) / (2 * (ts : Int))).toNat
    let m := if 1024 ≤ p then e.n + 1 else e.n
    let p := if 1024 ≤ p then 0 else p
    let b := p / 16
    let st := p % 16
    let smp := fun (i : Nat) =>
      let idx : Int := (m : Int) - (taps / 2 : Nat) + 1 + i
      match el.find? (fun x => decide ((x.n : Int) = idx)) with
      | some x => x.chans.getD c .missing
      | none => .missing
    let xs := (List.range taps).map smp
    let acc := ((List.range taps).zip xs).foldl (fun (a : Int) ix =>
      let w0 := bank (rsBase + b * taps + ix.1)
      let w1 := bank (rsBase + (b + 1) * taps + ix.1)
      a + (w0 + ((w1 - w0) * st + 8) / 16) * ix.2.held hold) 0
    let y := sat32 ((acc + 4194304) / 8388608)
    let mk := supMark xs
    (⟨y.1, mk.1, mk.2, 0⟩, y.2)

/-- The integrators of a channel take one input: each adds its new predecessor (R164). -/
def cicInt : Int → List Int → List Int
  | _, [] => []
  | x, i :: t =>
    let y := wrap64 (i + x)
    y :: cicInt y t

/-- The combs of a channel: the output and the new comb states (R164). -/
def cicComb : Int → List Int → Int × List Int
  | c, [] => (c, [])
  | c, p :: t =>
    let r := cicComb (wrap64 (c - p)) t
    (r.1, c :: r.2)

/-- A list grown with zeros to `n` entries. -/
def padZ (n : Nat) (l : List Int) : List Int := (l ++ List.replicate n 0).take n

/-- What a slot's chain is: the fields of Table 7.1 it computes with. -/
structure ChainCfg where
  decLog : Nat
  cicN : Nat
  firs : List (Nat × Nat × Nat)           -- TAPS, SHIFT, BASE
  deriving DecidableEq, Repr

/-- One FIR stage of one channel: its new history, output and whether it saturated (R166). -/
def firStage (bank : Nat → Int) (taps shift base : Nat) (h : List Smp) (x : Smp) : List Smp × Smp × Bool :=
  let h := (x :: h).take taps
  let full := (List.range taps).map (fun i => h.getD i .missing)
  let acc := ((List.range taps).zip full).foldl (fun (a : Int) ix => a + bank (base + ix.1) * ix.2.val) 0
  let y := sat32 (if shift = 0 then acc else (acc + 2 ^ (shift - 1)) / 2 ^ shift)
  let mk := supMark full
  (h, ⟨y.1, mk.1, mk.2, 0⟩, y.2)

/-- The FIR stages of one channel in order. -/
def firChain (bank : Nat → Int) : List (Nat × Nat × Nat) → List (List Smp) → Smp → List (List Smp) × Smp × Nat
  | [], _, x => ([], x, 0)
  | (taps, shift, base) :: t, hs, x =>
    let r := firStage bank taps shift base (hs.headD []) x
    let q := firChain bank t hs.tail r.2.1
    (r.1 :: q.1, q.2.1, q.2.2 + b2n r.2.2)

/-- The stages of one channel after the resampler: new integrators, combs, CIC support, FIR histories, output, saturations. -/
def chanRun (bank : Nat → Int) (g : ChainCfg) (first : Bool) (integ comb : List Int) (sup : List Smp) (firh : List (List Smp))
    (v : List Smp) : (List Int × List Int × List Smp × List (List Smp)) × Smp × Nat :=
  if g.decLog = 0 then
    let r := firChain bank g.firs firh (v.getLastD .missing)
    ((integ, comb, sup, r.1), r.2.1, r.2.2)
  else
    let integ := v.foldl (fun st x => cicInt x.val st) (padZ g.cicN integ)
    let cr := cicComb (integ.getLastD 0) (padZ g.cicN comb)
    let sh := g.cicN * g.decLog
    let y := if 0 < sh then (cr.1 + 2 ^ (sh - 1)) / 2 ^ sh else cr.1
    let n := g.cicN * (2 ^ g.decLog - 1) + 1
    let sup := (v.reverse ++ sup).take n
    let mk := supMark ((List.range n).map (fun i => sup.getD i .missing))
    let x : Smp := ⟨y, if first then 3 else mk.1, mk.2, 0⟩
    let r := firChain bank g.firs firh x
    ((integ, cr.2, sup, r.1), r.2.1, r.2.2)

/-- A pipeline takes the resampler outputs of an instant, channel by channel: the pipeline after it, its outputs, and how
often a stage saturated. -/
def pipeRun (bank : Nat → Int) (g : ChainCfg) (p : Pipe) (vs : List (List Smp)) : Pipe × List Smp × Nat :=
  let first := decide (p.cicOut < g.cicN)
  let rs := ((List.range vs.length).zip vs).map (fun jv =>
    chanRun bank g first (p.integ.getD jv.1 []) (p.comb.getD jv.1 []) (p.cicIn.getD jv.1 []) (p.fir.getD jv.1 []) jv.2)
  (⟨rs.map (fun r => r.1.1), rs.map (fun r => r.1.2.1), rs.map (fun r => r.1.2.2.1), rs.map (fun r => r.1.2.2.2),
    min (p.cicOut + 1) 255⟩, rs.map (fun r => r.2.1), (rs.map (fun r => r.2.2)).sum)

/-- The chain of a descriptor. -/
def State.chainCfg (s : State) (a : Nat) : ChainCfg :=
  ⟨s.ent a E.T7_1_DEC_LOG2, s.ent a E.T7_1_CIC_N, (List.range (s.ent a E.T7_1_N_FIR)).map (fun f =>
    (s.ent (a + 4 * f) E.T7_1_TAPS, s.ent (a + 4 * f) E.T7_1_SHIFT, s.ent (a + 4 * f) E.T7_1_BASE))⟩

/-- The resampler outputs of a slot for a released instant with one bank: channel by channel, sub-instant by sub-instant
(R161, R171), with the saturations. -/
def State.slotResample (s : State) (l : Lane) (a : Nat) (bank : Nat → Int) (resetN : Nat) (e : RelEnt) : List (List Smp) × Nat :=
  let n := s.ent a E.T7_1_STREAM
  let el := eligible (s.str l n).fine resetN e.dl
  let dec := 2 ^ s.ent a E.T7_1_DEC_LOG2
  let prev := s.gT l (e.g - 1)
  let g := s.gT l e.g
  let outs := (List.range (s.ent a E.T7_1_CH_CNT_M1 + 1)).map (fun j =>
    let c := s.ent a E.T7_1_CH_FIRST + j
    let hold := holdVal el (assocGet (s.str l n).old c) resetN e.dl c
    (List.range dec).map (fun k =>
      if e.live then
        resample bank (s.ent a E.T7_1_RS_BASE) (s.ent a E.T7_1_TAPS_RS) (s.strT l n) el hold c (prev + (k + 1) * (g - prev) / dec : Nat)
      else (⟨hold, 3, false, 0⟩, false)))
  (outs.map (fun o => o.map (fun x => x.1)), (outs.map (fun o => (o.map (fun x => b2n x.2)).sum)).sum)

/-- The blend of a wash output (R180). -/
def washBlend (k len : Nat) (old new : Smp) : Smp :=
  let a := (new.val - old.val) * k
  ⟨old.val + (2 * a + len) / (2 * len : Nat), max old.code new.code, old.test || new.test, 0⟩

/-- A waiting request meets instant g: it starts a wash, switches the bank, or ends without one (R180, R182, R183). -/
def State.washStart (s : State) (l : Lane) (e i : Nat) (g : Nat) : State :=
  let r := slotRec l i
  let x := s.slotSt l i
  if s.ent r E.T7_8_WASHING = 1 ∨ s.ent r E.T7_8_PENDING = 0 ∨ g < x.pendAt then s
  else
    let b := s.ent r E.T7_8_PEND_BANK
    let s := s.setEnt r E.T7_8_PENDING 0
    if s.ent r E.T7_8_ACT_BANK = b then s.fltCnt l 6
    else if s.ent (s.slotAt l i g) E.T7_1_WASH_OK = 0 then s.setEnt r E.T7_8_ACT_BANK b
    else
      let s := s.setEnt r E.T7_8_WASHING 1
      let s := s.setEnt r E.T7_8_WASH_BANK b
      let s := s.setEnt r E.T7_8_WASH_K 0
      s.setSlotSt l i { x with pipe2 := some x.pipe, washLen := s.fld (.fltEng l e) F.FLT_WASH_LEN_LEN }

/-- A slot's outputs for a released instant, its pipelines advanced (R162 to R166, R180). -/
def State.slotCompute (s : State) (l : Lane) (e i : Nat) (rel : RelEnt) : State × List Smp :=
  let a := s.slotAt l i rel.g
  let r := slotRec l i
  let x := s.slotSt l i
  let cfg := s.chainCfg a
  let bank := s.coef l e (s.ent r E.T7_8_ACT_BANK)
  let v := s.slotResample l a bank x.resetN rel
  let o := pipeRun bank cfg x.pipe v.1
  let sat := v.2 + o.2.2
  let count := fun (s : State) (n : Nat) => if n = 0 then s else (s.bumpEnt r E.T7_8_SAT n).fltCnt l 0 n
  match x.pipe2 with
  | none => (count (s.setSlotSt l i { x with pipe := o.1 }) sat, o.2.1)
  | some p2 =>
    let bank2 := s.coef l e (s.ent r E.T7_8_WASH_BANK)
    let v2 := s.slotResample l a bank2 x.resetN rel
    let o2 := pipeRun bank2 cfg p2 v2.1
    let k := s.ent r E.T7_8_WASH_K + 1
    let outs := (o.2.1.zip o2.2.1).map (fun p => washBlend k x.washLen p.1 p.2)
    let s := count s (sat + v2.2 + o2.2.2)
    let s := s.setEnt r E.T7_8_WASH_K k
    if k < x.washLen then (s.setSlotSt l i { x with pipe := o.1, pipe2 := some o2.1 }, outs)
    else
      let s := s.setEnt r E.T7_8_ACT_BANK (s.ent r E.T7_8_WASH_BANK)
      let s := s.setEnt r E.T7_8_WASHING 0
      ((s.setSlotSt l i { x with pipe := o2.1, pipe2 := none }).fltCnt l 2, outs)

/-- The tokens of a slot's outputs: converted, scaled, and passed to the engine's queue (R167). -/
def State.slotTokens (s : State) (l : Lane) (e i : Nat) (g : Nat) (outs : List Smp) : State :=
  let a := s.slotAt l i g
  ((List.range outs.length).zip outs).foldl (fun s jo =>
    let v := fMul f32 (fOfInt f32 jo.2.val) (s.ent (a + 4 * jo.1) E.T7_1_SCALE)
    s.tokPush l e ⟨g, false, 0, s.ent a E.T7_1_NODE + jo.1, 0, jo.2.code, jo.2.test, v, false, 0⟩) s

/-- The source queue of an engine (0 to 15) or of Speedwell (16). -/
def State.tokQ (s : State) (l : Lane) (src : Nat) : TokQ := assocGetD (s.lane l).quill.src src .empty

/-- Store a source queue. -/
def State.setTokQ (s : State) (l : Lane) (src : Nat) (q : TokQ) : State :=
  let x := s.lane l
  s.setLane l { x with quill := { x.quill with src := assocPut x.quill.src src q } }

/-- The lowest position of an engine whose slot is ready (R174). -/
def State.slotReady (s : State) (l : Lane) (e : Nat) : Option Nat :=
  (List.range (s.fld (.fltEng l e) F.FLT_ENG_CFG_N_SLOTS)).find? (fun k =>
    let i := 512 * e + k
    match (s.slotSt l i).ready with
    | [] => false
    | rel :: _ => decide (s.ent (s.slotAt l i rel.g) E.T7_1_VALID = 1))

/-- Count a stall of an engine once (R175). -/
def State.engStall (s : State) (l : Lane) (e : Nat) : State :=
  let q := s.tokQ l e
  if q.stall then s else (s.setTokQ l e { q with stall := true }).fltCnt l 1

/-- Reset of a slot (R172): history, pipelines and any wash or request; the active bank becomes BANK. -/
def State.slotReset (s : State) (l : Lane) (i : Nat) : State :=
  let a := slotDesc l i
  let r := slotRec l i
  let x := s.slotSt l i
  let s := s.setSlotSt l i { x with pipe := .empty, pipe2 := none, resetN := (s.str l (s.ent a E.T7_1_STREAM)).nextN, last := none, due := false }
  let s := s.setEnt r E.T7_8_ACT_BANK (s.ent a E.T7_1_BANK)
  let s := s.setEnt r E.T7_8_WASHING 0
  let s := s.setEnt r E.T7_8_PENDING 0
  let s := s.setEnt r E.T7_8_WASH_K 0
  s.setEnt r E.T7_8_OUTPUTS 0

/-- Store a waiting request of slot `i` (R181, R182): one already waiting is replaced and counted; one whose start has
passed is counted late and starts at the next instant. -/
def State.swapRequest (s : State) (l : Lane) (i b start : Nat) : State :=
  let r := slotRec l i
  let x := s.slotSt l i
  let s := if s.ent r E.T7_8_PENDING = 1 then s.fltCnt l 3 else s
  let late := match x.last with
    | some g => decide (start ≤ g)
    | none => false
  let s := if late then s.fltCnt l 4 else s
  let at_ := if late then x.last.getD 0 + 1 else start
  let s := s.setEnt r E.T7_8_PENDING 1
  let s := s.setEnt r E.T7_8_PEND_BANK b
  let s := s.setEnt r E.T7_8_PEND_SEC (at_ / s.gridG l)
  let s := s.setEnt r E.T7_8_PEND_IDX (at_ % s.gridG l)
  s.setSlotSt l i { x with pendAt := at_ }

/-- The valid slots of a lane, as 512 e + k. -/
def State.validSlots (s : State) (l : Lane) : List Nat :=
  (s.entries (slotDesc l 0) 0x80000 64).filter (fun i => decide (s.ent (slotDesc l i) E.T7_1_VALID = 1))

/-- Is a bank of an engine busy: does a valid slot use it as active bank, wash target or waiting target (R179)? -/
def State.bankBusy (s : State) (l : Lane) (e b : Nat) : Bool :=
  (s.validSlots l).any (fun i =>
    let r := slotRec l i
    decide (i / 512 = e) && (decide (s.ent r E.T7_8_ACT_BANK = b) ||
      decide (s.ent r E.T7_8_WASHING = 1 ∧ s.ent r E.T7_8_WASH_BANK = b) ||
      decide (s.ent r E.T7_8_PENDING = 1 ∧ s.ent r E.T7_8_PEND_BANK = b)))

/-- Would a request of slot `i` for bank `b` find its target busy (R181)? The slot's own waiting target does not count. -/
def State.targetBusy (s : State) (l : Lane) (i b : Nat) : Bool :=
  let r := slotRec l i
  s.bankBusy l (i / 512) b && !decide (s.ent r E.T7_8_PENDING = 1 ∧ s.ent r E.T7_8_PEND_BANK = b)

/-- The layout of a slot descriptor (R184): its words without BANK, WASH_OK, WASH_ON_COMMIT, NODE and SCALE. -/
def State.slotLayout (s : State) (a : Nat) : Nat :=
  let w0 := bitsPut (bitsPut (s.winWords a 1) 26 24 0) 22 21 0
  w0 + 2 ^ 32 * bitsPut (s.winWords (a + 4) 7) 145 128 0

/-- A slot meets its new descriptor at instant gc (R184). -/
def State.slotSwitch (s : State) (l : Lane) (gc i : Nat) : State :=
  let new := slotDesc l i
  let old := oldTables l + 0x80000 + 64 * i
  let r := slotRec l i
  let s := s.setSlotSt l i { s.slotSt l i with due := false }
  if s.slotLayout new ≠ s.slotLayout old then s.slotReset l i
  else if s.ent new E.T7_1_VALID = 0 then s
  else
    let b := s.ent new E.T7_1_BANK
    if b = s.ent r E.T7_8_ACT_BANK then s
    else if s.ent new E.T7_1_WASH_ON_COMMIT = 1 then
      if s.targetBusy l i b then s.fltCnt l 6 else s.swapRequest l i b gc
    else
      let s := if s.ent r E.T7_8_WASHING = 1 then s.fltCnt l 6 else s
      let s := if s.ent r E.T7_8_PENDING = 1 then s.fltCnt l 6 else s
      let s := ((s.setEnt r E.T7_8_WASHING 0).setEnt r E.T7_8_PENDING 0).setEnt r E.T7_8_ACT_BANK b
      s.setSlotSt l i { s.slotSt l i with pipe2 := none }

/-- The slot meets its new descriptor when it takes its first instant at or after g_c (R184). -/
def State.slotMeet (s : State) (l : Lane) (i g : Nat) : State :=
  if (s.slotSt l i).due && decide ((s.lane l).fltGc ≤ g) then s.slotSwitch l (s.lane l).fltGc i else s

/-- Has a slot whose new descriptor is not VALID computed every instant before g_c, all of them released (R184)? -/
def State.slotGone (s : State) (l : Lane) (i : Nat) : Bool :=
  let x := s.slotSt l i
  let gc := (s.lane l).fltGc
  let n := s.ent (s.slotAt l i (gc - 1)) E.T7_1_STREAM
  let sub := s.subAt l n (gc - 1)
  let next := if s.ent sub E.T6_2_VALID = 0 then gc
    else if s.ent sub E.T6_2_GROUP = 255 then s.soloNext l n else s.grpNext l (s.ent sub E.T6_2_GROUP)
  x.due && decide (s.ent (slotDesc l i) E.T7_1_VALID = 0) && x.ready.all (fun e => decide (gc ≤ e.g)) && decide (gc ≤ next)

/-- The slots that a commit has taken out of use are reset at the first instant at or after g_c (R184): once their last instant before it
is computed. -/
def State.slotsGone (s : State) (l : Lane) : State :=
  if (s.lane l).grid < (s.lane l).fltGc then s
  else (((s.lane l).slots.map (fun e => e.1)).filter (fun i => decide (i < 8192) && s.slotGone l i)).foldl (fun s i => s.slotSwitch l (s.lane l).fltGc i) s

/-- SLOT_SERVE (R174): the engine computes the oldest released instant of its lowest ready slot and passes the tokens on;
with its queue of 64 full it stalls. Tokens beyond the 64th are those a stalled engine still holds. -/
def execSlotServe (l : Lane) (e : Fin 16) (s : State) : Host.Outcome State Fault Refusal :=
  if !s.laneUp l || !s.bit (.flt l) F.FLT_CTRL_EN then ok s
  else
    match s.slotReady l e with
    | none => ok s
    | some k =>
      if 64 ≤ (s.tokQ l e).toks.length then ok (s.engStall l e)
      else
        let i := 512 * e.val + k
        match (s.slotSt l i).ready with
        | [] => ok s
        | rel :: rest =>
          let s := s.slotMeet l i rel.g
          let s := s.setSlotSt l i { s.slotSt l i with ready := rest, last := some rel.g }
          let s := s.washStart l e i rel.g
          let r := s.slotCompute l e i rel
          let s := r.1.slotTokens l e i rel.g r.2
          let s := s.setEnt (slotRec l i) E.T7_8_OUTPUTS ((s.ent (slotRec l i) E.T7_8_OUTPUTS + 1) % 2 ^ 32)
          let pg : Page := .fltEng l e
          let s := s.setFld pg F.FLT_ENG_LAG_LAG (max (s.fld pg F.FLT_ENG_LAG_LAG) (min ((s.real - rel.at_) / ns) (2 ^ 32 - 1)))
          ok (if 64 < (s.tokQ l e).toks.length then (s.engStall l e).slotsGone l else s.slotsGone l)

/-- FILTER_ENABLE (R172): FLT_CTRL.EN goes from 0 to 1 and every slot is reset. -/
def execFilterEnable (l : Lane) (s : State) : Host.Outcome State Fault Refusal :=
  if !s.laneUp l || s.bit (.flt l) F.FLT_CTRL_EN then ok s
  else
    let s := s.setBit (.flt l) F.FLT_CTRL_EN
    let x := s.lane l
    let s := s.setLane l { x with fltGc := 0, slots := x.slots.map (fun e => (e.1, { e.2 with due := false })) }
    ok ((s.validSlots l).foldl (fun s i => (s.setSlotSt l i { s.slotSt l i with ready := [] }).slotReset l i) s)

/-- COEFFICIENT_WRITE (R179): driver software writes a bank word; on a busy bank it has no effect and is counted. The word
reads as the sign extension of its 24 bits. -/
def execCoefficientWrite (l : Lane) (e : Fin 16) (b : Fin 8) (w : Fin 4096) (data : Word) (s : State) : Host.Outcome State Fault Refusal :=
  if !s.laneUp l then ok s
  else if s.bankBusy l e b then ok (s.fltCnt l 5)
  else
    let v := unsignedOf 32 (signedOf 24 data.toNat)
    ok (s.setWin (winAddr (.flt l) .fltCoef ((8 * e.val + b.val) * 0x4000 + 4 * w.val)) (BitVec.ofNat 32 v))

/-- SWAP_POST (R181): a write of 1 to FLT_SWAP_GO posts the request that the engine's swap registers name. -/
def execSwapPost (l : Lane) (e : Fin 16) (s : State) : Host.Outcome State Fault Refusal :=
  if !s.laneUp l then ok s
  else
    let pg : Page := .fltEng l e
    let k := s.fld pg F.FLT_SWAP_REQ_SLOT
    let b := s.fld pg F.FLT_SWAP_REQ_BANK
    let idx := s.fld pg F.FLT_SWAP_IDX_IDX
    let i := 512 * e.val + k
    if s.fld pg F.FLT_ENG_CFG_N_SLOTS ≤ k ∨ s.ent (slotDesc l i) E.T7_1_VALID = 0 ∨ s.gridG l ≤ idx ∨ s.targetBusy l i b then
      ok (s.fltCnt l 6)
    else
      let sec_ := secNear (s.laneNow l / sec) (s.fld pg F.FLT_SWAP_SEC_SEC)
      ok (s.swapRequest l i b (sec_ * s.gridG l + idx))

/-- FLT_CNT_CLR: every FLT_CNT and every SAT field is cleared. -/
def execFltCntClr (l : Lane) (s : State) : Host.Outcome State Fault Refusal :=
  if !s.laneUp l then ok s
  else
    let s := s.clrRow (.flt l) .FLT_CNT 7
    ok ((s.entries (slotRec l 0) 0x20000 16).foldl (fun s i => s.setEnt (slotRec l i) E.T7_8_SAT 0) s)

end Sys2Proof.Machine
end

