-- ==== Sys2Proof/Machine/Inkwell.lean ====
section
/-!
DEFINITION. Inkwell: active and standby (R380, R381), vault time and counters (R381 to R383), the event recorder's
commands (R390 to R392, R395), the factory identity (R393) and the tag area (R394).
-/

namespace Sys2Proof.Machine
open Sys2Proof

/-- EVENT_RECORD_WRITE: a record reaches the Inkwell interface: it is rate-limited and written (R386, R390). A record whose TIME is
malformed does not exist: the device never produces one (R6). -/
def execEventRecordWrite (src code time : Nat) (payload : List Nat) (s : State) : Host.Outcome State Fault Refusal :=
  if !s.evrReady || (ofT96 (time % 2 ^ 96)).isNone then ok s
  else ok (evrAdmit ⟨src % 8, code % 65536, time % 2 ^ 96, payload.take 124⟩ s)

/-- EVENT_QUEUE_DRAIN: a domain's queued records are written in order once Common and Inkwell are back, then the count
of lost ones as one record (R30). -/
def execEventQueueDrain (d : Dom) (s : State) : Host.Outcome State Fault Refusal :=
  if !s.evrReady then ok s
  else
    let q := s.evq d
    let s := s.setEvq d ⟨[], 0⟩
    let s := q.recs.foldl (fun s r => evrAdmit r s) s
    if q.lost = 0 then ok s
    else ok (evrAdmit ⟨domSrc d, evCode bkCFG 2 1, s.evTime d, [domSrc d, q.lost % 2 ^ 32, 0, 0]⟩ s)

/-- The counters and vault time go to MRAM (R381). -/
def State.saveVault (s : State) : State :=
  { s with ink := { s.ink with savedVt := s.ink.vt, savedOph := s.fld .ink F.INK_OPH_COUNT, savedPcyc := s.fld .ink F.INK_PCYC_COUNT } }

/-- STANDBY_ENTRY: on entry into standby vault time and the counters are written to MRAM (R381), once; Inkwell is in standby while
Common is not UP (R380). -/
def execStandbyEntry (s : State) : Host.Outcome State Fault Refusal :=
  if !s.up .inkwell || s.up .common || s.ink.standby then ok s
  else
    let s := s.saveVault
    ok { s with ink := { s.ink with standby := true } }

/-- A tamper record (R384): UNIT the input, VALUE INK_PCYC at the assertion, and its vault time. -/
def tamperRec (n ticks pcyc : Nat) : EvRec := ⟨6, evCode bkINK 2 0, vaultT96 ticks, [n, pcyc, 0, 0]⟩

/-- The records of a tamper response: TAMPER, TAMPER_RESPONSE, and LC_TRANSITION where the lifecycle moved (R384, R411). -/
def State.tamperRecord (s : State) (n ticks pcyc slots : Nat) (old : Option Nat) : State :=
  let s := evrAdmit (tamperRec n ticks pcyc) s
  let s := evrAdmit ⟨6, evCode bkKEY 2 7, vaultT96 ticks, [n, slots, 0, 0]⟩ s
  match old with
  | some lc => evrAdmit ⟨6, evCode bkKEY 2 0, vaultT96 ticks, [lc, 4, 0, 0]⟩ s
  | none => s

/-- The assertions that could not be recorded when they came are recorded. -/
def State.tamperFlush (s : State) : State :=
  s.ink.tampLast.foldl (fun s e => s.tamperRecord e.1 e.2.1 e.2.2.1 e.2.2.2.1 e.2.2.2.2) { s with ink := { s.ink with tampLast := [] } }

/-- What the recorder does at start-up (R386): a complete record at the saved HEAD is stepped over. -/
def State.evrStart (s : State) : State :=
  let h := s.fld .evr F.EVR_HEAD_INDEX
  let b0 := (memGet 0 s.ink.ring (16 * h)).toNat
  let len := (memGet 0 s.ink.ring (16 * h + 1)).toNat % 32 + 1
  if b0 = 0b10100110 + s.fld .evr F.EVR_WRAPS_COUNT % 2 ∧ h + len ≤ evrUnits then
    let h' := (h + len) % evrUnits
    let s := s.setFld .evr F.EVR_HEAD_INDEX h'
    if h' = 0 then s.setFld .evr F.EVR_WRAPS_COUNT (s.fld .evr F.EVR_WRAPS_COUNT + 1) else s
  else s

/-- STANDBY_EXIT: Common UP makes Inkwell active: STANDBY_SEEN is set, the recorder checks its HEAD, and assertions of
standby are recorded ahead of any other record (R380, R384, R386). -/
def execStandbyExit (s : State) : Host.Outcome State Fault Refusal :=
  if !s.up .inkwell || !s.up .common || !s.ink.standby then ok s
  else
    let s := s.setBit .ink F.INK_STATUS_STANDBY_SEEN
    let s := s.evrStart
    ok { s with ink := { s.ink with standby := false, ophAt := s.ink.vt / sec } }.tamperFlush

/-- VINK_LOSS: VINK below its range stops Inkwell; MRAM is intact (R381). -/
def execVinkLoss (s : State) : Host.Outcome State Fault Refusal :=
  if !s.ink.powered then ok s
  else
    let s := { s with ink := { s.ink with powered := false } }
    ok (s.setDom .inkwell .off)

/-- VINK_RESTORED: every counter is restored from MRAM, vault time resumes from its saved value, VTIME_GAP is set and
INK_VINK_LOSS incremented; VINK_RESTORED is recorded (R381), and the recorder, starting up, has checked its HEAD (R386). -/
def execVinkRestored (s : State) : Host.Outcome State Fault Refusal :=
  if s.ink.powered then ok s
  else
    let s := { s with ink := { s.ink with powered := true, vt := s.ink.savedVt, ophAt := s.ink.savedVt / sec } }
    let s := s.setFld .ink F.INK_OPH_COUNT s.ink.savedOph
    let s := s.setFld .ink F.INK_PCYC_COUNT s.ink.savedPcyc
    let s := s.setBit .ink F.INK_STATUS_VTIME_GAP
    let s := s.bump .ink F.INK_VINK_LOSS_COUNT
    let s := s.evrStart.setDom .inkwell .up
    ok (s.event .inkwell (evCode bkINK 2 1) (s.fld .ink F.INK_VINK_LOSS_COUNT) 0)

/-- VAULT_TIME_SAVE: while active, vault time is written to MRAM every 60 s of vault time (R381). -/
def execVaultTimeSave (s : State) : Host.Outcome State Fault Refusal :=
  if !s.up .inkwell || !s.up .common || s.ink.oscFail then ok s
  else
    let s := s.reachVault (s.ink.savedVt + 60 * sec)
    ok { s with ink := { s.ink with savedVt := s.ink.vt } }

/-- OSC_FAIL: the oscillator has stopped for more than 4 ms: OSC_FAIL is set, the event recorded, vault time held (R382). -/
def execOscFail (s : State) : Host.Outcome State Fault Refusal :=
  if !s.up .inkwell || s.ink.oscFail then ok s
  else
    let s := { s with ink := { s.ink with oscFail := true } }
    let s := s.elapse (4 * ms + 1)
    let s := s.setBit .ink F.INK_STATUS_OSC_FAIL
    ok (s.event .inkwell (evCode bkINK 2 2) 0 (s.ink.vt / sec))

/-- OSCILLATOR_RESTART: vault time resumes counting from the held value (R382). -/
def execOscillatorRestart (s : State) : Host.Outcome State Fault Refusal :=
  ok { s with ink := { s.ink with oscFail := false } }

/-- OPH_TICK: the next whole second of vault time passes with Inkwell active, and INK_OPH counts it (R383). -/
def execOphTick (s : State) : Host.Outcome State Fault Refusal :=
  if !s.up .inkwell || !s.up .common || s.ink.oscFail then ok s
  else
    let t := s.ink.ophAt + 1
    let s := s.reachVault (t * sec)
    let s := { s with ink := { s.ink with ophAt := t } }
    ok (s.bump .ink F.INK_OPH_COUNT)

/-! The event recorder's mailbox commands. -/

/-- Is a unit index a record boundary: TAIL, or reached from it by whole records (R395)? -/
def evrBoundary (s : State) (idx : Nat) : Nat → Nat → Bool
  | 0, _ => false
  | n + 1, p =>
    if p = idx then true
    else if p = s.fld .evr F.EVR_HEAD_INDEX then false
    else evrBoundary s idx n ((p + (memGet 0 s.ink.ring (16 * p + 1)).toNat % 32 + 1) % evrUnits)

/-- The whole records from a unit up to HEAD that fit a byte count, without those at the indices `bad`, the next index, and how
many were skipped. -/
def evrCollect (s : State) (bad : List Nat) : Nat → Nat → Nat → List Byte → Nat → List Byte × Nat × Nat
  | 0, p, _, acc, k => (acc, p, k)
  | n + 1, p, left, acc, k =>
    if p = s.fld .evr F.EVR_HEAD_INDEX then (acc, p, k)
    else
      let len := (memGet 0 s.ink.ring (16 * p + 1)).toNat % 32 + 1
      if bad.contains p then evrCollect s bad n ((p + len) % evrUnits) left acc (k + 1)
      else if left < 16 * len then (acc, p, k)
      else evrCollect s bad n ((p + len) % evrUnits) (left - 16 * len) (acc ++ memRead 0 s.ink.ring (16 * p) (16 * len)) k

/-- EVR_READ's effect (Table 17.5); records at the indices `bad` meet an uncorrectable error: they are skipped and counted (R434). -/
def cmdEvrRead (bad : List Nat) (a : List Nat) (s : State) : CmdOut :=
  let addr := argAddr a 0
  let max := a.getD 2 0
  let start := a.getD 3 0
  if !s.up .inkwell then cmdCode s stSTATE
  else if s.upLanes.isEmpty then cmdCode s stNOLANE
  else if max % 16 ≠ 0 ∨ !inLaneMem addr max ∨ !evrBoundary s start (evrUnits + 1) (s.fld .evr F.EVR_TAIL_INDEX) then cmdCode s stBADARG
  else
    let (b, nxt, k) := evrCollect s bad evrUnits start max [] 0
    cmdOk ((List.range k).foldl (fun (s : State) _ => s.countUnc .inkwell) (s.writeLanes addr b))
      [b.length, nxt, s.fld .evr F.EVR_TAIL_INDEX, s.fld .evr F.EVR_WRAPS_COUNT]

/-- The die identifier of the factory identity block (Table 17.4). -/
def State.dieId (s : State) : List Byte :=
  let d := (s.ink.ident.drop 0x18).take 16
  d ++ List.replicate (16 - d.length) 0

/-- The root a lifecycle state accepts for maintenance operations (Table 18.1): 0 factory, 2 maintenance. -/
def maintRoot (lc : Nat) : Nat := if lc ≤ 1 then 0 else 2

/-- Does a 144-byte signature block verify a message under one of some entries of a root (R396)? -/
def verifyEntries (ink : InkSt) (root : Nat) (among : List Nat) (blk msg : List Byte) : Bool :=
  let alg := leNat (blk.take 2)
  let keyId := leNat ((blk.drop 4).take 4)
  let r := beNat ((blk.drop 8).take 66)
  let sg := beNat ((blk.drop 0x4A).take 66)
  decide (blk.length = 144) && decide (alg = 1) &&
    ((blk.drop 2).take 2).all (fun b => decide (b = 0)) && (blk.drop 0x8C).all (fun b => decide (b = 0)) &&
    among.any (fun e =>
      match assocGet ink.roots (4 * root + e) with
      | none => false
      | some k => decide (k.keyId = keyId) && ecdsaVerify (k.x, k.y) msg r sg)

/-- Does a block verify a message under a root (R396)? -/
def verifyBlock (ink : InkSt) (root : Nat) (blk msg : List Byte) : Bool := verifyEntries ink root [0, 1, 2, 3] blk msg

/-- EVR_CLEAR's effect: an authorised clear zeroes the ring, sets TAIL = HEAD = 0 and counts (R391, R392); CLEARED is
the first record after it. -/
def cmdEvrClear (a : List Nat) (s : State) : CmdOut :=
  if !s.up .inkwell then cmdCode s stSTATE
  else
    match readLanes s (argAddr a 0) 144 with
    | .error e => cmdCode s e
    | .ok blk =>
      let msg := natLe 4 0x4C435645 ++ s.dieId ++ natLe 4 (s.fld .evr F.EVR_CLR_COUNT_COUNT)
      if !verifyBlock s.ink (maintRoot s.lifecycle) blk msg then cmdCode s stSIGNATURE
      else
        let s := s.setFld .evr F.EVR_STATUS_CLEARING 1
        let s := { s with ink := { s.ink with clearing := true } }
        ⟨s, stOK, [min (s.fld .evr F.EVR_CLR_COUNT_COUNT + 1) (2 ^ 32 - 1)], false⟩

/-- The records from TAIL to HEAD, counted. -/
def evrCount (s : State) : Nat → Nat → Nat
  | 0, _ => 0
  | n + 1, p =>
    if p = s.fld .evr F.EVR_HEAD_INDEX then 0
    else 1 + evrCount s n ((p + (memGet 0 s.ink.ring (16 * p + 1)).toNat % 32 + 1) % evrUnits)

/-- A clear ends (R392). -/
def State.evrClearEnd (s : State) : State :=
  if !s.ink.clearing then s
  else
    let n := evrCount s evrUnits (s.fld .evr F.EVR_TAIL_INDEX)
    let s := { s with ink := { s.ink with ring := [], clearing := false } }
    let s := s.setFld .evr F.EVR_HEAD_INDEX 0
    let s := s.setFld .evr F.EVR_TAIL_INDEX 0
    let s := s.bump .evr F.EVR_CLR_COUNT_COUNT
    let s := s.setFld .evr F.EVR_WRAPS_COUNT (s.fld .evr F.EVR_WRAPS_COUNT + 1)
    let s := s.setFld .evr F.EVR_OVERWRITTEN_COUNT 0
    let s := s.setFld .evr F.EVR_STATUS_CLEARING 0
    (s.event .common (evCode bkEVR 2 0) (s.fld .evr F.EVR_CLR_COUNT_COUNT) n).tamperFlush

/-- EVR_RL_SET's effect (R390, R394, Table 17.5). -/
def cmdEvrRlSet (a : List Nat) (s : State) : CmdOut :=
  let k := a.getD 0 0
  let code := a.getD 1 0 % 65536
  let valid := bitAt (a.getD 1 0) 31
  let burst := a.getD 2 0 % 256
  let ival := a.getD 2 0 / 65536
  let dup := valid && (s.ink.rl.any (fun e => e.1 != k && e.2.valid && decide (e.2.code = code)))
  if !s.up .inkwell then cmdCode s stSTATE
  else if (1024 ≤ k ∧ k ≠ 0xFFFF) ∨ burst = 0 ∨ ival = 0 ∨ (k ≠ 0xFFFF ∧ dup) then cmdCode s stBADARG
  else
    let idx := if k = 0xFFFF then 1024 else k
    let old := if idx = 1024 then s.ink.rlDef else assocGetD s.ink.rl idx ⟨0, false, 255, 1, 0, 0, 0⟩
    let e :=
      if idx = 1024 then { old with burst := burst, interval := ival, tokens := min old.tokens burst }
      else if valid && (!old.valid || decide (old.code ≠ code)) then ⟨code, true, burst, ival, burst, 0, s.vtMs⟩
      else { old with code := code, valid := valid, burst := burst, interval := ival, tokens := min old.tokens burst }
    cmdOk { s with ink := rlPut s.ink idx e } []

/-- EVR_RL_GET's effect (Table 17.5). -/
def cmdEvrRlGet (a : List Nat) (s : State) : CmdOut :=
  let k := a.getD 0 0
  if !s.up .inkwell then cmdCode s stSTATE
  else if 1024 ≤ k ∧ k ≠ 0xFFFF then cmdCode s stBADARG
  else
    let e := if k = 0xFFFF then s.ink.rlDef else assocGetD s.ink.rl k ⟨0, false, 255, 1, 0, 0, 0⟩
    cmdOk s [e.code + b2n e.valid * 2 ^ 31, e.burst + e.interval * 65536, e.tokens, e.suppressed]

/-! The tag area and the identity. -/

/-- A valid tag area copy: MAGIC and CRC (R394). -/
def tagValid (c : List Byte) : Bool :=
  let used := leNat ((c.drop 8).take 4)
  decide (leNat (c.take 4) = 0x4741544B) && decide (used ≤ 4080) &&
    decide (leNat ((c.drop 12).take 4) = crcOf crc32c (c.take 12 ++ (c.drop 16).take used))

/-- The sequence number of a copy. -/
def tagSeq (c : List Byte) : Nat := leNat ((c.drop 4).take 4)

/-- The copy in use: 0 or 1, the valid one with the higher SEQ (R394). -/
def State.tagSel (s : State) : Option Nat :=
  match tagValid s.ink.tag0, tagValid s.ink.tag1 with
  | true, true => some (if tagSeq s.ink.tag0 < tagSeq s.ink.tag1 then 1 else 0)
  | true, false => some 0
  | false, true => some 1
  | false, false => none

/-- Tag area copies that meet an uncorrectable error are invalid from then on, and counted (R394, R434). -/
def State.tagLost (s : State) (ue : Nat) : State :=
  if !s.up .inkwell then s
  else
    let s := if bitAt ue 0 then ({ s with ink := { s.ink with tag0 := [] } }).countUnc .inkwell else s
    if bitAt ue 1 then ({ s with ink := { s.ink with tag1 := [] } }).countUnc .inkwell else s

/-- The octets of the copy in use. -/
def State.tagCopy (s : State) : List Byte :=
  match s.tagSel with
  | some 0 => s.ink.tag0
  | some _ => s.ink.tag1
  | none => []

/-- The records of a copy: type and value. -/
def tagRecs : Nat → List Byte → List (Nat × List Byte)
  | 0, _ => []
  | n + 1, b =>
    if b.length < 4 then []
    else
      let t := leNat (b.take 2)
      let len := leNat ((b.drop 2).take 2)
      (t, (b.drop 4).take len) :: tagRecs n (b.drop (4 + (len + 3) / 4 * 4))

/-- The records in use. -/
def State.tags (s : State) : List (Nat × List Byte) :=
  let c := s.tagCopy
  tagRecs 1024 ((c.drop 16).take (leNat ((c.drop 8).take 4)))

/-- The octets of records. -/
def tagBytes (l : List (Nat × List Byte)) : List Byte :=
  l.flatMap (fun e => natLe 2 e.1 ++ natLe 2 e.2.length ++ e.2 ++ List.replicate ((e.2.length + 3) / 4 * 4 - e.2.length) 0)

/-- Write the tag area: the copy with the lower SEQ or an invalid one is replaced, with SEQ + 1 (R394). -/
def State.tagStore (s : State) (l : List (Nat × List Byte)) : State :=
  let body := tagBytes l
  let seq := match s.tagSel with
    | none => 1
    | some _ => tagSeq s.tagCopy + 1
  let head := natLe 4 0x4741544B ++ natLe 4 seq ++ natLe 4 body.length
  let c := head ++ natLe 4 (crcOf crc32c (head ++ body)) ++ body
  match s.tagSel with
  | some 0 => { s with ink := { s.ink with tag1 := c } }
  | _ => { s with ink := { s.ink with tag0 := c } }

/-- The transition to DECOMMISSIONED zeroes both copies but for the records of factory types (R394). -/
def State.tagWipe (s : State) : State :=
  let keep := fun (c : List Byte) =>
    let l := (tagRecs 1024 ((c.drop 16).take (leNat ((c.drop 8).take 4)))).filter (fun e => decide (0x8000 ≤ e.1))
    if !tagValid c || l.isEmpty then []
    else
      let body := tagBytes l
      let head := c.take 8 ++ natLe 4 body.length
      head ++ natLe 4 (crcOf crc32c (head ++ body)) ++ body
  { s with ink := { s.ink with tag0 := keep s.ink.tag0, tag1 := keep s.ink.tag1 } }

/-- TAG_READ's effect (Table 17.5). -/
def cmdTagRead (a : List Nat) (s : State) : CmdOut :=
  let t := a.getD 0 0
  let addr := argAddr a 1
  let max := a.getD 3 0
  if !s.up .inkwell then cmdCode s stSTATE
  else if s.upLanes.isEmpty then cmdCode s stNOLANE
  else if t = 0 then
    let c := s.tagCopy
    if max < c.length ∨ !inLaneMem addr max then cmdCode s stBADARG else cmdOk (s.writeLanes addr c) [c.length]
  else
    match s.tags.find? (fun e => decide (e.1 = t)) with
    | none => cmdOk s [0xFFFFFFFF]
    | some e => if max < e.2.length ∨ !inLaneMem addr max then cmdCode s stBADARG else cmdOk (s.writeLanes addr e.2) [e.2.length]

/-- TAG_WRITE's effect (R394, Table 17.5). -/
def cmdTagWrite (a : List Nat) (s : State) : CmdOut :=
  let t := a.getD 0 0
  let addr := argAddr a 1
  let len := a.getD 3 0
  if !s.up .inkwell ∨ s.lifecycle = 4 then cmdCode s stSTATE
  else if t = 0 ∨ 0x8000 ≤ t ∨ 1020 < len ∨ !inLaneMem addr len then cmdCode s stBADARG
  else
    let keep := s.tags.filter (fun e => decide (e.1 ≠ t))
    if len = 0 then cmdOk (s.tagStore keep) [(tagBytes keep).length]
    else
      match readLanes s addr len with
      | .error e => cmdCode s e
      | .ok v =>
        let l := keep ++ [(t, v)]
        if 4080 < (tagBytes l).length then cmdCode s stCAPACITY else cmdOk (s.tagStore l) [(tagBytes l).length]

/-- ID_READ's effect (R393, Table 17.5). -/
def cmdIdRead (a : List Nat) (s : State) : CmdOut :=
  let addr := argAddr a 0
  let max := a.getD 2 0
  let n := 0x80 + leNat ((s.ink.ident.drop 4).take 2)
  let b := s.ink.ident.take n ++ List.replicate (n - s.ink.ident.length) 0
  if !s.up .inkwell then cmdCode s stSTATE
  else if s.upLanes.isEmpty then cmdCode s stNOLANE
  else if max < n ∨ !inLaneMem addr max then cmdCode s stBADARG
  else cmdOk (s.writeLanes addr b) [n]

/-- EVR_READ: copies whole event records from a start index (R395). Reading MRAM meets uncorrectable errors in the records at the
indices `bad`, and with `corr` a single-bit error (R434). -/
def execEvrRead (ch : Fin 2) (tag : BitVec 16) (addr : BitVec 64) (max start : Word) (bad : List Nat) (corr : Bool) (s : State) :
    Host.Outcome State Fault Refusal :=
  ok (mboxIssue ch 0x60 tag (addrArgs addr ++ [max.toNat, start.toNat]) (fun a s => cmdEvrRead bad a (s.eccCorr .inkwell corr)) s)

/-- EVR_CLEAR: an authorised clear of the event ring (R392). -/
def execEvrClear (ch : Fin 2) (tag : BitVec 16) (addr : BitVec 64) (s : State) : Host.Outcome State Fault Refusal :=
  ok (mboxIssue ch 0x61 tag (addrArgs addr) cmdEvrClear s)

/-- EVR_RL_SET: sets a rate-limit entry (R390). -/
def execEvrRlSet (ch : Fin 2) (tag : BitVec 16) (entry code lim : Word) (s : State) : Host.Outcome State Fault Refusal :=
  ok (mboxIssue ch 0x62 tag [entry.toNat, code.toNat, lim.toNat] cmdEvrRlSet s)

/-- EVR_RL_GET: returns a rate-limit entry (R395). -/
def execEvrRlGet (ch : Fin 2) (tag : BitVec 16) (entry : Word) (s : State) : Host.Outcome State Fault Refusal :=
  ok (mboxIssue ch 0x63 tag [entry.toNat] cmdEvrRlGet s)

/-- TAG_READ: reads a tag record or the whole copy (R394). Bit c of `ue` says that copy c meets an uncorrectable error (R434). -/
def execTagRead (ch : Fin 2) (tag : BitVec 16) (type : Word) (addr : BitVec 64) (max : Word) (ue : Fin 4) (s : State) :
    Host.Outcome State Fault Refusal :=
  ok (mboxIssue ch 0x68 tag ([type.toNat] ++ addrArgs addr ++ [max.toNat]) (fun a s => cmdTagRead a (s.tagLost ue)) s)

/-- TAG_WRITE: writes or deletes a tag record (R394). Bit c of `ue` says that copy c meets an uncorrectable error (R434). -/
def execTagWrite (ch : Fin 2) (tag : BitVec 16) (type : Word) (addr : BitVec 64) (len : Word) (ue : Fin 4) (s : State) :
    Host.Outcome State Fault Refusal :=
  ok (mboxIssue ch 0x69 tag ([type.toNat] ++ addrArgs addr ++ [len.toNat]) (fun a s => cmdTagWrite a (s.tagLost ue)) s)

/-- ID_READ: copies the factory identity block (R393). -/
def execIdRead (ch : Fin 2) (tag : BitVec 16) (addr : BitVec 64) (max : Word) (s : State) : Host.Outcome State Fault Refusal :=
  ok (mboxIssue ch 0x6C tag (addrArgs addr ++ [max.toNat]) cmdIdRead s)

end Sys2Proof.Machine
end

