-- ==== Sys2Proof/Machine/Pub.lean ====
section
/-!
DEFINITION. Publications: datasets (R281, R282), evaluation (R283, R284, R474), issues and their frames (R278, R285 to R288),
and adoption (R297).
-/

namespace Sys2Proof.Machine
open Sys2Proof

/-- The active descriptor of publication n. -/
def pubDesc (l : Lane) (n : Nat) : Nat := winAddr (.pub l) .pubDescAct (64 * n)

/-- A publication's running values. -/
def State.pub (s : State) (l : Lane) (n : Nat) : PubSt := assocGetD (s.lane l).pub n .empty

/-- Store them. -/
def State.setPub (s : State) (l : Lane) (n : Nat) (x : PubSt) : State :=
  s.setLane l { s.lane l with pub := assocPut (s.lane l).pub n x }

/-- Count in PUB_CNTk. -/
def State.pubCnt (s : State) (l : Lane) (k : Nat) : State := s.bump (.pub l) F.PUB_CNT_COUNT k

/-- The valid publications of a lane. -/
def State.pubs (s : State) (l : Lane) : List Nat :=
  (s.entries (pubDesc l 0) 0x20000 64).filter (fun n => decide (s.ent (pubDesc l n) E.T12_2_VALID = 1))

/-- PUB_STATUS.ADOPT: a publication is UNSYNCED (R297). -/
def State.adoptShow (s : State) (l : Lane) : State :=
  s.setFld (.pub l) F.PUB_STATUS_ADOPT (b2n ((s.pubs l).any (fun n => (s.pub l n).on && !(s.pub l n).synced)))

/-! ASN.1 BER of the members. -/

/-- The 13-bit quality of a source record (Table 12.4), first bit in bit 0. -/
def qualityOf (r : Nat) : Nat :=
  let test := recTest r * 2 ^ 11
  let old := fun (b : Nat) => b * 2 ^ 7
  if recSrc r = 0 ∨ recCode r = 3 then 2 + old 1 + test
  else
    match recCode r with
    | 2 => 2 + old (recLost r) + test
    | 1 => 3 + old (recLost r) + test
    | _ => old (recLost r) + test

/-- One dataset member from its entry and its source record (Table 12.3). -/
def State.memberOct (s : State) (a r : Nat) : List Byte :=
  let w := s.ent a E.T12_3_WORD
  let b := s.ent a E.T12_3_BIT
  let v := recW r w
  match s.ent a E.T12_3_TYPE with
  | 1 => berTlv 0x83 [if bitAt v b then 0xFF else 0x00]
  | 2 => berTlv 0x85 (berSigned v)
  | 3 => berTlv 0x86 (berUnsigned v)
  | 4 => berTlv 0x87 (0x08 :: natBe 4 v)
  | 5 => berTlv 0x84 (berBits v (b + 1))
  | 6 => berTlv 0x84 (berBits (qualityOf r) 13)
  | _ => berTlv 0x91 (natBe 4 v ++ natBe 4 (recW r (w + 1)))

/-- The member entries of a publication. -/
def State.pubMembers (s : State) (l : Lane) (n : Nat) : List Nat :=
  (List.range (s.ent (pubDesc l n) E.T12_2_MEMBERS)).map (fun m =>
    winAddr (.pub l) .pubMemAct (8 * (s.ent (pubDesc l n) E.T12_2_MEMBER_BASE + m)))

/-- The points a publication's snapshot copies: those of its members with FROM_TRIG = 0 (R281). -/
def State.pubPoints (s : State) (l : Lane) (n : Nat) : List Nat :=
  ((s.pubMembers l n).filter (fun a => decide (s.ent a E.T12_3_FROM_TRIG = 0))).map (fun a => s.ent a E.T12_3_POINT)

/-- The allData octets: each member from the trigger record or from the snapshot's records, in order (R281). -/
def State.pubData (s : State) (trig : Nat) : List Nat → List Nat → List Byte
  | [], _ => []
  | a :: t, recs =>
    if s.ent a E.T12_3_FROM_TRIG = 1 then s.memberOct a trig ++ s.pubData trig t recs
    else s.memberOct a (recs.headD initRec) ++ s.pubData trig t (recs.drop 1)

/-! Evaluation. -/

/-- The start second of a publication enabled at `t` (R474): known once the grid runs. -/
def State.pubStart (s : State) (l : Lane) (t : Nat) : Option Nat :=
  if !s.gridRun l then none
  else some ((max t (s.gT l (s.lane l).gridFirst) + ms + sec - 1) / sec * sec)

/-- The next scheduled time: e_s, or the start second before the first evaluation. -/
def State.pubEs (s : State) (l : Lane) (n : Nat) : Option Nat :=
  let x := s.pub l n
  match x.start with
  | some t => s.pubStart l t
  | none => x.es

/-- Is a time evaluated: not at or after the instant at which the owner was quiesced (R347)? -/
def State.pubLive (s : State) (l : Lane) (n e : Nat) : Bool :=
  match assocGet (s.lane l).insGq (s.ownerPub l n) with
  | some g => decide (e < g)
  | none => true

/-- stNum and sqNum after 0xFFFF_FFFF take 1. -/
def wrapNum (v : Nat) : Nat := if v = 0xFFFFFFFF then 1 else v + 1

/-- An unsent issue and an echo that agree: the lane takes the running values (R297). -/
def State.pubAdopt (s : State) (l : Lane) (n : Nat) : State :=
  let x := s.pub l n
  match x.lastUnsent, x.echo with
  | some u, some c =>
    if x.on && !x.synced && decide (u.e = c.e) && decide (crcOf crc32c u.data = c.crc) then
      let y := { x with synced := true, num := c.issue, st := c.stNum, sq := c.sqNum, tChg := c.tChg }
      let s := s.setPub l n { y with es := some c.eS, k := c.k, lastUnsent := none, echo := none }
      (s.pubCnt l 3).adoptShow l
    else s
  | _, _ => s

/-- One evaluation (R284) with the records of its snapshot. -/
def State.pubEval (s : State) (l : Lane) (n : Nat) (r : EvalReq) (recs : List Nat) : State :=
  let d := pubDesc l n
  let x := s.pub l n
  let trig := match r.trig with
    | some t => some t
    | none => x.trig
  let x := { x with trig := trig, start := none, evals := x.evals.filter (fun q => decide (q ≠ r)) }
  let data := s.pubData (trig.getD initRec) (s.pubMembers l n) recs
  let change := x.first || decide (data ≠ x.data)
  if !change && !r.sched then s.setPub l n x
  else
    let st := if change then wrapNum x.st else x.st
    let sq := if change then 0 else wrapNum x.sq
    let tChg := if change then r.e else x.tChg
    let k := if change then 0 else x.k + 1
    let es := r.e + min (s.ent d E.T12_2_T_MIN * 2 ^ k) (s.ent d E.T12_2_T_MAX) * us
    let num := (x.num + 1) % 2 ^ 32
    let i : Issue := ⟨r.e, max r.e (s.laneNow l), num, st, sq, tChg, es, k, data, x.synced⟩
    let y := { x with st := st, sq := sq, tChg := tChg, k := k, es := some es, num := num, data := data, first := false }
    let s := if change then s.pubCnt l 1 else s
    if x.synced then s.setPub l n { y with issues := y.issues ++ [i] }
    else ((s.pubCnt l 2).setPub l n { y with lastUnsent := some i }).pubAdopt l n

/-- The evaluation due next among those requested: a scheduled time at or before a trigger comes first (R284). -/
def State.pubNext (s : State) (l : Lane) (n : Nat) : Option EvalReq :=
  match (s.pub l n).evals with
  | [] => none
  | r :: _ =>
    match s.pubEs l n with
    | some t => if !r.sched && decide (t ≤ r.e) then some ⟨t, true, none⟩ else some r
    | none => some r

/-- Carry out the requested evaluations of a publication in order, as far as their snapshots can be taken (R244, R472). -/
def State.pubRun (s : State) (l : Lane) (n : Nat) : Nat → State
  | 0 => s
  | fuel + 1 =>
    match s.pubNext l n with
    | none => s
    | some r =>
      let x := s.pub l n
      let drop := fun (_ : Unit) => (s.setPub l n { x with evals := x.evals.filter (fun q => decide (q ≠ r)) }).pubRun l n fuel
      if !s.pubLive l n r.e then
        if r.sched then
          (s.setPub l n { x with es := none, start := none, evals := x.evals.filter (fun q => decide (q ≠ r)) }).pubRun l n fuel
        else drop ()
      else if r.sched && decide (s.pubEs l n ≠ some r.e) then drop ()
      else
        let pts := s.pubPoints l n
        if pts.isEmpty then (s.pubEval l n r []).pubRun l n fuel
        else
          let cut := r.e - s.hold l
          if s.snapReady l cut then
            let (s, recs) := s.snapshot l cut pts
            (s.pubEval l n r recs).pubRun l n fuel
          else
            let m := (s.lane l).map
            if m.snaps.contains (.pub n cut) then s else s.setMap l { m with snaps := m.snaps ++ [.pub n cut] }

/-- Request an evaluation and carry out what can be; scheduled times lie at least 100 µs apart (Table 12.2). -/
def State.pubAsk (s : State) (l : Lane) (n : Nat) (r : EvalReq) : State :=
  let x := s.pub l n
  let s := s.setPub l n { x with evals := x.evals ++ [r] }
  s.pubRun l n (2 * (s.pub l n).evals.length + 64 + (r.e - (s.pubEs l n).getD r.e) / (100 * us))

/-- A notice reaches a publication whose TRIG_PT it is: before the start second it is ignored (R474). -/
def State.pubTrigger (s : State) (l : Lane) (n e rec_ : Nat) : State :=
  let x := s.pub l n
  let early := match x.start with
    | none => false
    | some t =>
      match s.pubStart l t with
      | none => true
      | some g => decide (e < g)
  if !x.on || early || !s.pubLive l n e then s else s.pubAsk l n ⟨e, false, some rec_⟩

/-! Frames. -/

/-- A byte of a window. -/
def State.winByte (s : State) (a : Nat) : Byte := BitVec.ofNat 8 ((s.win (a / 4 * 4)).toNat / 2 ^ (8 * (a % 4)))

/-- One of the descriptor's strings: 0 gocbRef, 1 datSet, 2 goID. -/
def State.pubText (s : State) (l : Lane) (n i : Nat) : List Byte :=
  let d := pubDesc l n + 4 * i
  let base := winAddr (.pub l) .pubTextAct (s.ent d E.T12_2_OFF)
  (List.range (s.ent d E.T12_2_LEN)).map (fun j => s.winByte (base + j))

/-- A time as utc-time: seconds, 24-bit fraction and the time-quality octet. -/
def utcOct (t q : Nat) : List Byte := natBe 4 (t / sec) ++ natBe 3 (t % sec * 2 ^ 24 / sec) ++ natBe 1 q

/-- The APDU of an issue (R279, R285). -/
def State.pubApdu (s : State) (l : Lane) (n : Nat) (i : Issue) : List Byte :=
  let d := pubDesc l n
  let tal := max 1 ((s.ent d E.T12_2_TAL_MULT * (i.es - i.e) + ms - 1) / ms)
  let q := if s.planeLocked (s.followed l) && !s.laneHold l then 0x0A else 0x2A
  berTlv 0x61 (berTlv 0x80 (s.pubText l n 0) ++ berTlv 0x81 (berUnsigned tal) ++ berTlv 0x82 (s.pubText l n 1) ++
    berTlv 0x83 (s.pubText l n 2) ++ berTlv 0x84 (utcOct i.tChg q) ++ berTlv 0x85 (berUnsigned i.st) ++ berTlv 0x86 (berUnsigned i.sq) ++
    berTlv 0x87 [if s.ent d E.T12_2_SIM = 1 then 0xFF else 0x00] ++ berTlv 0x88 (berUnsigned (s.ent d E.T12_2_CONF_REV)) ++
    berTlv 0x89 [0x00] ++ berTlv 0x8A (berUnsigned (s.ent d E.T12_2_MEMBERS)) ++ berTlv 0xAB i.data)

/-- The seal of an issue over the octets from APPID on (R288). -/
def sealOct (body : List Byte) (id alive : Nat) : List Byte :=
  let h := natBe 2 0xC5E1 ++ [0x01, 0x00] ++ natBe 4 id ++ natBe 4 alive
  h ++ natBe 4 (crcOf crc32c (body ++ h))

/-- The octets of an issue's frame from DMAC on; nothing when its tag needs a key that the lane may not use (R286). -/
def State.pubFrame (s : State) (l : Lane) (n : Nat) (i : Issue) : Option (List Byte) :=
  let d := pubDesc l n
  let auth := s.ent d E.T12_2_AUTH
  let src := s.ent (winAddr (.pub l) .pubSrcAct (8 * s.ent d E.T12_2_SRC)) ⟨0, 47, 0⟩
  let tag := if s.ent d E.T12_2_TAG = 1 then natBe 2 0x8100 ++ natBe 2 (s.ent d E.T12_2_PCP * 2 ^ 13 + s.ent d E.T12_2_VID) else []
  let apdu := s.pubApdu l n i
  let head := Config.authHead (s.ent d E.T12_2_KEY_ID)
  let tagLen := if auth = 1 then 16 else 32
  let extLen := if auth = 0 then 0 else head.length + tagLen
  let pdu := natBe 2 (s.ent d E.T12_2_APPID) ++ natBe 2 (8 + apdu.length) ++ natBe 2 (s.ent d E.T12_2_SIM * 2 ^ 15) ++ natBe 2 extLen ++ apdu
  let ext : Option (List Byte) :=
    if auth = 0 then some []
    else (s.laneKey l (s.ent d E.T12_2_SLOT) i.e true).map (fun k => head ++ (hmac sha256P k pdu).take tagLen)
  ext.map (fun x =>
    let body := pdu ++ x
    natBe 6 (s.ent d E.T12_2_DMAC) ++ natBe 6 src ++ tag ++ natBe 2 0x88B8 ++ body ++
      (if s.ent d E.T12_2_SEAL_EN = 1 then sealOct body (s.ent d E.T12_2_SEAL_ID) i.num else []))

/-- The EGRESS mask of a publication for a plane. -/
def State.pubEgress (s : State) (l : Lane) (n : Nat) (p : Plane) : Nat :=
  match p with
  | .a => s.ent (pubDesc l n) E.T12_2_EGRESS_A
  | .b => s.ent (pubDesc l n) E.T12_2_EGRESS_B

/-- Does a frame, once its RCT is added, exceed the smallest PRT_MAXLEN of its egress ports (R286)? -/
def State.pubTooLong (s : State) (l : Lane) (n : Nat) (o : List Byte) : Bool :=
  [Plane.a, Plane.b].any (fun p => (List.range 11).any (fun i =>
    bitAt (s.pubEgress l n p) i && decide (s.fld (.prt p i) F.PRT_MAXLEN_MAXLEN < frameLen o + 6)))

/-- An issue reaches its moment: its frame goes with its merge header to the lane's port of each plane that is UP, or is not
sent and is counted (R278, R286, R287). -/
def State.pubSend (s : State) (l : Lane) (n : Nat) (i : Issue) : State :=
  let d := pubDesc l n
  match s.pubFrame l n i with
  | none => s.pubCnt l 5
  | some o =>
    if s.pubTooLong l n o then s.pubCnt l 4
    else
      let ts := s.ent d E.T12_2_TS_EN
      let echo : Echo := ⟨n, i.num, i.st, i.sq, i.tChg, i.es, i.k, i.e, crcOf crc32c i.data⟩
      let hdr := fun (p : Plane) => [n + s.ent d E.T12_2_POLICY * 2 ^ 16 + s.ent d E.T12_2_SRC * 2 ^ 18, i.num,
        s.pubEgress l n p + ts * 2 ^ 15 + (if ts = 1 then (n * 32 + i.num % 32) * 2 ^ 16 else 0), 0]
      let s := s.pubCnt l 0
      [Plane.a, Plane.b].foldl (fun s p =>
        if s.planeUp p then
          let x := s.plane p
          s.setPlane p { x with laneIn := x.laneIn ++ [⟨l, hdr p, o, x.now, echo⟩] }
        else s) s

/-! The commands. -/

/-- NOTICE_RECEIVED (R283): the oldest notice reaches the publication engine and the trip voters. -/
def execNoticeReceived (l : Lane) (s : State) : Host.Outcome State Fault Refusal :=
  let m := (s.lane l).map
  match m.notices with
  | [] => ok s
  | x :: rest =>
    if !s.laneUp l then ok s
    else
      let s := s.setMap l { m with notices := rest }
      let s := s.tripNotice l x.point x.e x.rec_
      if !s.bit (.pub l) F.PUB_CTRL_EN then ok s
      else
        let ns := (s.pubs l).filter (fun n =>
          decide (s.ent (pubDesc l n) E.T12_2_TRIG_EN = 1 ∧ s.ent (pubDesc l n) E.T12_2_TRIG_PT = x.point))
        ok (ns.foldl (fun s n => s.pubTrigger l n x.e x.rec_) s)

/-- SCHEDULED_EVALUATION (R284, R474): the followed clock reaches e_s + HOLD of a publication. -/
def execScheduledEvaluation (l : Lane) (n : Fin 2048) (s : State) : Host.Outcome State Fault Refusal :=
  if !s.laneUp l || !s.bit (.pub l) F.PUB_CTRL_EN || !(s.pub l n).on then ok s
  else
    match s.pubEs l n with
    | none => ok s
    | some t =>
      if !s.pubLive l n t then ok (s.setPub l n { s.pub l n with es := none, start := none })
      else
        let s := s.reachLane l (t + s.hold l)
        ok (s.pubAsk l n ⟨t, true, none⟩)

/-- The publication whose oldest waiting issue is built next: the least send moment, equal moments in ascending index (R314). -/
def State.pubFirst (s : State) (l : Lane) : Option (Nat × Issue) :=
  (s.lane l).pub.foldl (fun best e =>
    match e.2.issues, best with
    | [], _ => best
    | i :: _, none => some (e.1, i)
    | i :: _, some b => if i.due < b.2.due ∨ i.due = b.2.due ∧ e.1 < b.1 then some (e.1, i) else best) none

/-- Build and send the waiting issues one at a time in the order of R314, up to and with one of publication `n`. -/
def State.pubSendTo (s : State) (l : Lane) (n : Nat) : Nat → State
  | 0 => s
  | fuel + 1 =>
    match s.pubFirst l with
    | none => s
    | some (m, i) =>
      let x := s.pub l m
      let s := (s.setPub l m { x with issues := x.issues.drop 1 }).pubSend l m i
      if m = n then s else s.pubSendTo l n fuel

/-- The issues that wait in a lane. -/
def State.pubWaiting (s : State) (l : Lane) : Nat := ((s.lane l).pub.map (fun e => e.2.issues.length)).sum

/-- ISSUE_SEND (R286): the followed clock reaches the send moment of the oldest issue of a publication, and it is sent; the
issues that come before it in the order of R314 are built and sent first. -/
def execIssueSend (l : Lane) (n : Fin 2048) (s : State) : Host.Outcome State Fault Refusal :=
  match (s.pub l n).issues with
  | [] => ok s
  | i :: _ =>
    if !s.laneUp l || !s.bit (.pub l) F.PUB_CTRL_EN then ok s
    else ok ((s.reachLane l i.due).pubSendTo l n (s.pubWaiting l))

/-- A publication starts from rest, with the present COLD (R297, R298). -/
def State.pubBegin (s : State) (l : Lane) (n : Nat) (cold : Bool) : State :=
  s.setPub l n { PubSt.empty with on := true, synced := cold, first := cold, start := some (s.laneNow l) }

/-- A write of PUB_CTRL: EN from 0 to 1 starts every valid publication (R297); to 0 it stops them; TRIP_EN moves the
drives (R299). -/
def State.pubCtrl (s : State) (l : Lane) (en trip cold : Bool) : State :=
  let was := s.bit (.pub l) F.PUB_CTRL_EN
  let s := s.setFld (.pub l) F.PUB_CTRL_EN (b2n en)
  let s := s.setFld (.pub l) F.PUB_CTRL_COLD (b2n cold)
  let s :=
    if en && !was then (s.pubs l).foldl (fun s n => s.pubBegin l n cold) s
    else if was && !en then
      s.setLane l { s.lane l with pub := (s.lane l).pub.map (fun e => (e.1, { e.2 with on := false, evals := [], issues := [] })) }
    else s
  let s := s.adoptShow l
  if s.bit (.pub l) F.PUB_CTRL_TRIP_EN = trip then s else s.tripEnable l trip

/-- PUB_ENABLE (R297): PUB_CTRL.EN is written 1 with COLD; TRIP_EN is left. -/
def execPubEnable (l : Lane) (cold : Bool) (s : State) : Host.Outcome State Fault Refusal :=
  if !s.laneUp l then ok s else ok (s.pubCtrl l true (s.bit (.pub l) F.PUB_CTRL_TRIP_EN) cold)

/-- ECHO_RECEIVED (R297): the oldest echo reaches an adopting lane. -/
def execEchoReceived (l : Lane) (s : State) : Host.Outcome State Fault Refusal :=
  match (s.lane l).echoIn with
  | [] => ok s
  | c :: rest =>
    if !s.laneUp l then ok s
    else
      let s := s.setLane l { s.lane l with echoIn := rest }
      if !s.bit (.pub l) F.PUB_STATUS_ADOPT then ok s
      else ok ((s.setPub l c.pub { s.pub l c.pub with echo := some c }).pubAdopt l c.pub)

/-- PUB_CNT_CLR (R307). -/
def execPubCntClr (l : Lane) (s : State) : Host.Outcome State Fault Refusal :=
  if !s.laneUp l then ok s else ok (s.clrRow (.pub l) .PUB_CNT 7)

end Sys2Proof.Machine
end

