-- ==== Sys2Proof/Machine/Keys.lean ====
section
/-!
DEFINITION. Lifecycle, roots, counters and key slots ("Keys, lifecycle and trust", R396 to R414): the mailbox commands
0x40 to 0x5C, stale instants and zeroisation, the tamper response, attestation.
-/

namespace Sys2Proof.Machine
open Sys2Proof

/-! Registers of the vault. -/

/-- A key slot of the vault. -/
def State.keySlot (s : State) (n : Nat) : KeySlot := assocGetD s.ink.slots n .empty

/-- Store it; KEY_PENDING.CHANGE is set when its STATE changes. -/
def State.setKeySlot (s : State) (n : Nat) (k : KeySlot) : State :=
  let old := (s.keySlot n).state
  let s := { s with ink := { s.ink with slots := assocPut s.ink.slots n k } }
  if old = k.state then s else s.setBit .key F.KEY_PENDING_CHANGE

/-- The monotonic counter k (R399). -/
def State.mcount (s : State) (k : Nat) : Nat := s.fld .key F.KEY_MCOUNT_COUNT k

/-- Raise it to a value; it never goes down. MCOUNT0 and MCOUNT1 record ROLLBACK when they change (R400). -/
def State.mcountTo (s : State) (k v : Nat) : State :=
  if v ≤ s.mcount k then s
  else
    let s := s.setFld .key F.KEY_MCOUNT_COUNT (min v 0xFFFFFFFF) k
    if k < 2 then s.event .common (evCode bkKEY 2 6) k (s.mcount k) else s

/-- The valid-entry bits of a root. -/
def State.rootBits (s : State) (r : Nat) : Nat :=
  ((List.range 4).map (fun e => b2n (assocGet s.ink.roots (4 * r + e)).isSome * 2 ^ e)).sum

/-- The word KEY_ROOT_STATUS shows. -/
def State.rootStatus (s : State) : Nat := s.rootBits 0 + 16 * s.rootBits 1 + 256 * s.rootBits 2

/-- Uses of a slot in flight in a lane: tags of evaluated issues that have not been sent, up to a time (R409). -/
def State.inflightLane (s : State) (l : Lane) (n t : Nat) : Nat :=
  (((s.lane l).pub.filter (fun e =>
      decide (s.ent (pubDesc l e.1) E.T12_2_AUTH ≠ 0 ∧ s.ent (pubDesc l e.1) E.T12_2_SLOT = n))).map (fun e =>
    (e.2.issues.filter (fun i => decide (i.e ≤ t))).length)).sum

/-- INFLIGHT: the larger of the two lanes' counts. -/
def State.inflight (s : State) (n t : Nat) : Nat :=
  (s.upLanes.map (fun l => s.inflightLane l n t)).foldl max 0

/-- Word m of a slot's descriptor (Table 18.3). -/
def State.keyWord (s : State) (n m : Nat) : Nat :=
  let k := s.keySlot n
  match m with
  | 0 => k.state + 4 * b2n k.derived + 16 * b2n k.verify + 32 * b2n k.tag + 64 * b2n k.derive + 256 * k.parent +
      65536 * (if k.state = 0 then 0 else k.key.length)
  | 1 => k.keyId
  | 2 => k.gen
  | _ =>
    let t := match (s.ink.stale.find? (fun x => x.slots.contains n)) with
      | some x => x.s
      | none => s.upLanes.foldl (fun a l => max a (s.laneNow l)) 0
    min (s.inflight n t) 0xFFFF

/-- Slots STALE and awaiting zeroisation. -/
def State.staleCount (s : State) : Nat := (s.ink.slots.filter (fun e => decide (e.2.state = 2))).length

/-! Stale sets. -/

/-- The children of a slot that are not EMPTY. -/
def State.keyKids (s : State) (n : Nat) : List Nat :=
  (s.ink.slots.filter (fun e => decide (e.2.state ≠ 0) && e.2.derived && decide (e.2.parent = n))).map (fun e => e.1)

/-- A slot and its descendants, parents first (R408); chains are at most five long (R407). -/
def State.keyTree (s : State) : Nat → List Nat → List Nat
  | 0, l => l
  | n + 1, l => if l.isEmpty then [] else l ++ s.keyTree n (l.flatMap s.keyKids)

/-- Every slot that is not EMPTY, parents before children. -/
def State.keyAll (s : State) : List Nat :=
  let live := (s.ink.slots.filter (fun e => decide (e.2.state ≠ 0))).map (fun e => e.1)
  let heads := live.filter (fun n => !(s.keySlot n).derived || !live.contains (s.keySlot n).parent)
  let t := s.keyTree 5 heads
  t ++ live.filter (fun n => !t.contains n)

/-- The stale instant of an acceptance now (R408): the first grid instant of a lane at or after T + 1.0 ms, or T without a
running grid. -/
def State.staleInstant (s : State) : Nat :=
  match s.upLanes.find? s.gridRun with
  | some l => s.gT l (gridAt (s.gridG l) ((s.plane (s.followed l)).now + ms))
  | none => if s.planeUp .a then s.pa.now else s.pb.now

/-- The stored lifecycle takes a state, and MCOUNT2 counts; DECOMMISSIONED zeroes the tag area (R394, R401). -/
def State.lcPut (s : State) (to_ : Nat) : State :=
  let s := (s.setFld .ink F.INK_STATUS_LIFECYCLE to_).mcountTo 2 (s.mcount 2 + 1)
  if to_ = 4 then s.tagWipe else s

/-- The stored lifecycle moves to a state: MCOUNT2 counts and LC_TRANSITION is recorded (R401). -/
def State.lcMove (s : State) (to_ : Nat) : State := (s.lcPut to_).event .common (evCode bkKEY 2 0) s.lifecycle to_

/-- What waited for a set's slots to be EMPTY goes on: a transition, and the command of a mailbox channel. A transition that a tamper
response has overtaken is denied: DECOMMISSIONED is final (R403). -/
def State.staleDone (s : State) (x : StaleSet) : State :=
  let late := x.target.isSome && decide (s.lifecycle = 4)
  let s := match x.target with
    | some t => if late then s else s.lcMove t
    | none => s
  match x.chan with
  | none => s
  | some ch =>
    match s.mbox ch with
    | some m =>
      let res := if late then [] else if x.target.isSome then [s.mcount 2] else m.res
      s.setMbox ch (some { m with code := (if late then stDENIED else m.code), res := res, wait := false })
    | none => s

/-- A set is made stale at its instant S; one without slots is done at once. -/
def State.staleSet (s : State) (x : StaleSet) : State :=
  if x.slots.isEmpty then s.staleDone x else { s with ink := { s.ink with stale := s.ink.stale ++ [x] } }

/-- A slot becomes STALE in both lane copies and in MRAM; KEY_STALE is recorded (R408). -/
def State.slotStale (s : State) (n t : Nat) : State :=
  let k := s.keySlot n
  if k.state ≠ 1 then s
  else
    let s := s.setKeySlot n { k with state := 2 }
    let s := s.upLanes.foldl (fun s l =>
      let x := s.lane l
      match assocGet x.keys n with
      | some c => s.setLane l { x with keys := assocPut x.keys n { c with state := 2 }, keyS := assocPut x.keyS n t }
      | none => s) s
    s.event .common (evCode bkKEY 2 3) n (s.inflight n t)

/-- A slot's material is zeroised in the lanes and in MRAM; it becomes EMPTY and KEY_ZEROISED is recorded (R409). -/
def State.slotZero (s : State) (n : Nat) : State :=
  let k := s.keySlot n
  if k.state = 0 then s
  else
    let s := s.setKeySlot n { k with state := 0, key := [] }
    let s := [Lane.l0, Lane.l1].foldl (fun s l =>
      let x := s.lane l
      let other := fun (e : Nat) => decide (e ≠ n)
      s.setLane l { x with keys := x.keys.filter (fun e => other e.1) }) s
    s.event .common (evCode bkKEY 2 4) n k.gen

/-- KEY_STALE (R408): the earliest stale instant that lies ahead comes, and every slot of its set becomes STALE. -/
def execKeyStale (s : State) : Host.Outcome State Fault Refusal :=
  if !s.up .common || !s.up .inkwell then ok s
  else
    match s.ink.stale.find? (fun x => !x.stale) with
    | none => ok s
    | some x =>
      let s := (s.upLanes.filter s.gridRun).foldl (fun s l => s.reachLane l x.s) s
      let s := { s with ink := { s.ink with stale := s.ink.stale.map (fun y => if y = x then { y with stale := true } else y) } }
      ok (x.slots.foldl (fun s n => s.slotStale n x.s) s)

/-- A slot of a set is zeroised when no use of it is in flight and it has no child left (R409). -/
def State.slotEnd (s : State) (t n : Nat) : State :=
  if s.inflight n t = 0 ∧ s.keyKids n = [] then s.slotZero n else s

/-- KEY_ZEROISED (R409): the followed clock reaches S + HOLD + 2.0 µs: the set's slots without a use in flight are zeroised, children
before their parents; once all are EMPTY the set is done. -/
def execKeyZeroised (s : State) : Host.Outcome State Fault Refusal :=
  if !s.up .common || !s.up .inkwell then ok s
  else
    match s.ink.stale.find? (fun x => x.stale) with
    | none => ok s
    | some x =>
      let s' := (s.upLanes.filter s.gridRun).foldl (fun s l => s.reachLane l (x.s + s.hold l + settle)) s
      let s := x.slots.reverse.foldl (fun s n => s.slotEnd x.s n) s'
      if x.slots.any (fun n => decide ((s.keySlot n).state ≠ 0)) then ok s
      else
        let s := { s with ink := { s.ink with stale := s.ink.stale.erase { x with stale := true } } }
        ok (s.staleDone x)

/-- At every start of Common an interrupted zeroisation is finished (R410), and no lane keeps a copy of a slot that is EMPTY. -/
def State.keyStart (s : State) : State :=
  let sets := s.ink.stale
  let left := (s.ink.slots.filter (fun e => decide (e.2.state = 2))).map (fun e => e.1)
  let s := (s.keyAll.filter left.contains).reverse.foldl (fun s n => s.slotZero n) s
  let s := { s with ink := { s.ink with stale := (sets.filter (fun x => !x.stale)).map (fun x =>
    if x.chan.isSome then { x with chan := none, target := none } else x) } }
  let s := (sets.filter (fun x => x.stale && x.chan.isNone)).foldl (fun s x => s.staleDone x) s
  [Lane.l0, Lane.l1].foldl (fun s l =>
    let x := s.lane l
    s.setLane l { x with keys := x.keys.filter (fun e => decide ((s.keySlot e.1).state ≠ 0)) }) s

/-! The tamper response. -/

/-- TAMPER_ASSERT (R384, R411): input n has differed from its idle level for 4 ticks. It is latched, and the response runs: in
standby the slots are zeroised in MRAM at once; while active they go stale. With DECOM the lifecycle moves. -/
def execTamperAssert (n : Fin 2) (s : State) : Host.Outcome State Fault Refusal :=
  let en := if n.val = 0 then F.INK_TAMPER_CFG_EN0 else F.INK_TAMPER_CFG_EN1
  let latch := if n.val = 0 then F.INK_STATUS_TAMPER0 else F.INK_STATUS_TAMPER1
  if !s.up .inkwell || s.ink.oscFail || !s.bit .ink en then ok s
  else
    let s := s.elapse (4 * sec / 32768)
    if s.bit .ink latch then ok s
    else
      let s := s.setBit .ink latch
      let ticks := s.vtTicks
      let slots := s.keyAll
      let decom := bitAt s.ink.decom n.val && decide (s.lifecycle ≠ 4)
      if s.up .common then
        let pcyc := s.fld .ink F.INK_PCYC_COUNT
        let s := if s.evrReady then s.tamperRecord n.val ticks pcyc slots.length none
          else { s with ink := { s.ink with tampLast := s.ink.tampLast ++ [(n.val, ticks, pcyc, slots.length, none)] } }
        ok (s.staleSet ⟨s.staleInstant, slots, false, none, if decom then some 4 else none⟩)
      else
        let old := s.lifecycle
        let s := slots.foldl (fun s k => s.setKeySlot k { s.keySlot k with state := 0, key := [] }) s
        let s := if decom then s.lcPut 4 else s
        ok { s with ink := { s.ink with
          stale := []
          tampLast := s.ink.tampLast ++ [(n.val, ticks, s.fld .ink F.INK_PCYC_COUNT, slots.length, if decom then some old else none)] } }

/-! Lifecycle and roots. -/

/-- LC_STATUS's effect. -/
def cmdLcStatus (_ : List Nat) (s : State) : CmdOut := cmdOk s [s.lifecycle, s.mcount 2, s.rootStatus]

/-- The roots whose signature a transition needs (Table 18.1). -/
def lcRoots : Nat → Nat → List Nat
  | 0, 1 => [0]
  | 1, 2 => [1]
  | 1, 4 => [0, 1]
  | 2, 3 => [2]
  | 2, 4 => [1]
  | 3, 2 => [1]
  | 3, 4 => [1, 2]
  | _, _ => []

/-- LC_ADVANCE's effect (R401). -/
def cmdLcAdvance (ch : Nat) (a : List Nat) (s : State) : CmdOut :=
  let target := a.getD 0 0
  let lc := s.lifecycle
  let roots := lcRoots lc target
  if lc = 4 then cmdCode s stDENIED
  else if !s.up .inkwell || roots.isEmpty then cmdCode s stSTATE
  else
    match readLanes s (argAddr a 1) 144 with
    | .error e => cmdCode s e
    | .ok blk =>
      let msg := natLe 4 0x56434C4C ++ s.dieId ++ natLe 4 (s.mcount 2) ++ natLe 4 target
      if !roots.any (fun r => verifyBlock s.ink r blk msg) then cmdCode s stSIGNATURE
      else if lc = 1 ∧ target = 2 ∧ (s.rootBits 1 = 0 ∨ s.rootBits 2 = 0) then cmdCode s stSTATE
      else
        let slots := s.keyAll
        if slots.isEmpty then
          let s := s.lcMove target
          cmdOk s [s.mcount 2]
        else ⟨s.staleSet ⟨s.staleInstant, slots, false, some ch, some target⟩, stOK, [], true⟩

/-- ROOT_KEY_SET's effect (R402). -/
def cmdRootKeySet (a : List Nat) (s : State) : CmdOut :=
  let root := a.getD 0 0
  let e := a.getD 1 0
  let revoke := decide (a.getD 2 0 = 1)
  let keyId := a.getD 3 0
  let lc := s.lifecycle
  let valid := (assocGet s.ink.roots (4 * root + e)).isSome
  let count := ((List.range 4).filter (fun i => (assocGet s.ink.roots (4 * root + i)).isSome)).length
  if lc = 4 then cmdCode s stDENIED
  else if (root ≠ 1 ∧ root ≠ 2) ∨ 3 < e ∨ 1 < a.getD 2 0 then cmdCode s stBADARG
  else if !s.up .inkwell || decide (lc = 0) || (!revoke && valid) || (revoke && (!valid || decide (count ≤ 1))) then cmdCode s stSTATE
  else
    match (if revoke then .ok [] else readLanes s (argAddr a 4) 133), readLanes s (argAddr a 6) 144 with
    | .error x, _ => cmdCode s x
    | .ok _, .error x => cmdCode s x
    | .ok key, .ok blk =>
      let word := e * 8 + root * 32 + b2n revoke * 128
      let msg := fun (die : List Byte) => natLe 4 0x594B5452 ++ die ++ natLe 4 (s.mcount 2) ++ natLe 4 word ++ natLe 4 keyId ++
        (if revoke then List.replicate 64 (0 : Byte) else sha512 key)
      let good := if lc = 1 then
          verifyBlock s.ink 0 blk (msg s.dieId) || verifyBlock s.ink 0 blk (msg (List.replicate 16 (0 : Byte)))
        else verifyEntries s.ink root ((List.range 4).filter (fun i => decide (i ≠ e))) blk (msg s.dieId)
      if !good then cmdCode s stSIGNATURE
      else if !revoke && decide ((key.headD 0).toNat ≠ 4) then cmdCode s stBADARG
      else
        let ent : RootEntry := ⟨keyId, beNat ((key.drop 1).take 66), beNat ((key.drop 67).take 66)⟩
        let ink := s.ink
        let ink := if revoke then
            { ink with roots := assocDel ink.roots (4 * root + e), revoked := ink.revoked ++ ((assocGet ink.roots (4 * root + e)).toList.map (fun r => (4 * root + e, r))) }
          else { ink with roots := assocPut ink.roots (4 * root + e) ent }
        cmdOk (({ s with ink := ink }).event .common (evCode bkKEY 2 5) (root * 4 + e) (b2n revoke)) []

/-! Key slots. -/

/-- LEN and the three flags of a write argument. -/
def keyFlags (v : Nat) : Nat × Bool × Bool × Bool := (v % 128, bitAt v 8, bitAt v 9, bitAt v 10)

/-- Fill an EMPTY slot: GEN counts. -/
def State.keyFill (s : State) (n : Nat) (v keyId : Nat) (key : List Byte) (parent : Option Nat) : State :=
  let f := keyFlags v
  let gen := ((s.keySlot n).gen + 1) % 2 ^ 32
  s.setKeySlot n ⟨1, parent.isSome, f.2.1, f.2.2.1, f.2.2.2, parent.getD 0, key, keyId, gen⟩

/-- KEY_WRITE's effect (R406). -/
def cmdKeyWrite (a : List Nat) (s : State) : CmdOut :=
  let n := a.getD 0 0
  let len := (keyFlags (a.getD 1 0)).1
  let addr := argAddr a 3
  if s.lifecycle = 4 then cmdCode s stDENIED
  else if 63 < n ∨ len < 16 ∨ 64 < len ∨ !inLaneMem addr len then cmdCode s stBADARG
  else if !s.up .inkwell || decide ((s.keySlot n).state ≠ 0) then cmdCode s stSTATE
  else
    match readLanes s addr len with
    | .error e => cmdCode s e
    | .ok key =>
      let s := s.keyFill n (a.getD 1 0) (a.getD 2 0) key none
      cmdOk (s.event .common (evCode bkKEY 2 1) n (a.getD 2 0)) [(s.keySlot n).gen]

/-- The ancestors of a slot, at most `n` of them. -/
def State.keyDepth (s : State) : Nat → Nat → Nat
  | 0, _ => 0
  | n + 1, k => if (s.keySlot k).derived then 1 + s.keyDepth n (s.keySlot k).parent else 0

/-- KEY_DERIVE's effect (R407): HKDF-SHA-512 of the parent's key. -/
def cmdKeyDerive (a : List Nat) (s : State) : CmdOut :=
  let c := a.getD 0 0
  let p := a.getD 1 0
  let len := (keyFlags (a.getD 2 0)).1
  let addr := argAddr a 4
  let salt := a.getD 6 0
  let info := a.getD 7 0
  let par := s.keySlot p
  if s.lifecycle = 4 then cmdCode s stDENIED
  else if 63 < c ∨ 63 < p ∨ len < 16 ∨ 64 < len ∨ 64 < salt ∨ 128 < info ∨ !inLaneMem addr (salt + info) then cmdCode s stBADARG
  else if !s.up .inkwell || decide ((s.keySlot c).state ≠ 0) || decide (par.state ≠ 1) || !par.derive then cmdCode s stSTATE
  else if 4 < s.keyDepth 8 p + 1 then cmdCode s stBADARG
  else
    match readLanes s addr (salt + info) with
    | .error e => cmdCode s e
    | .ok b =>
      let key := hkdf512 par.key (b.take salt) (b.drop salt) len
      let s := s.keyFill c (a.getD 2 0) (a.getD 3 0) key (some p)
      cmdOk (s.event .common (evCode bkKEY 2 2) c p) [(s.keySlot c).gen]

/-- KEY_INVALIDATE's effect (R408): the slot and its descendants go stale; the command completes when they are EMPTY. -/
def cmdKeyInvalidate (ch : Nat) (a : List Nat) (s : State) : CmdOut :=
  let n := a.getD 0 0
  if 63 < n then cmdCode s stBADARG
  else if !s.up .inkwell || decide ((s.keySlot n).state = 0) then cmdCode s stSTATE
  else
    let t := s.staleInstant
    let set := s.keyTree 5 [n]
    ⟨s.staleSet ⟨t, set, false, some ch, none⟩, stOK, [(set.filter (fun k => decide ((s.keySlot k).state = 1))).length, t / ns % 2 ^ 32], true⟩

/-- KEY_STATUS's effect. -/
def cmdKeyStatus (a : List Nat) (s : State) : CmdOut :=
  let n := a.getD 0 0
  if 63 < n then cmdCode s stBADARG else cmdOk s ((List.range 4).map (s.keyWord n))

/-! Counters. -/

/-- MCOUNT_READ's effect. -/
def cmdMcountRead (_ : List Nat) (s : State) : CmdOut := cmdOk s ((List.range 8).map s.mcount)

/-- MCOUNT_INC's effect. -/
def cmdMcountInc (a : List Nat) (s : State) : CmdOut :=
  let k := a.getD 0 0
  if s.lifecycle = 4 then cmdCode s stDENIED
  else if k < 3 ∨ 7 < k then cmdCode s stBADARG
  else if !s.up .inkwell then cmdCode s stSTATE
  else if s.mcount k = 0xFFFFFFFF then cmdCode s stCAPACITY
  else
    let s := s.mcountTo k (s.mcount k + 1)
    cmdOk s [s.mcount k]

/-- The highest SEC_VERSION among active regions. -/
def State.maxSecVer (s : State) : Nat := (s.com.active.map (fun r => r.secVer)).foldl max 0

/-- ROLLBACK_ADVANCE's effect (R400). -/
def cmdRollbackAdvance (_ : List Nat) (s : State) : CmdOut :=
  if s.lifecycle = 4 then cmdCode s stDENIED
  else if !s.up .inkwell then cmdCode s stSTATE
  else
    let s := s.mcountTo 0 s.maxSecVer
    cmdOk s [s.mcount 0]

/-! Attestation. -/

/-- The digest over the active regions (R412). -/
def State.activeDigest (s : State) : List Byte :=
  sha512 ((List.range 4).flatMap (fun t => (List.range 12).flatMap (fun y =>
    match s.com.active.find? (fun r => decide (r.target = t ∧ r.type = y)) with
    | some r => r.digest
    | none => List.replicate 64 0)))

/-- The 224 octets that the report's signature covers (Table 18.4). -/
def State.attestBody (s : State) (nonce : List Byte) : List Byte :=
  let st := (s.rd .ink .INK_STATUS).toNat
  let flags := bitsOf st 1 1 + 2 * bitsOf st 2 2 + 4 * bitsOf st 4 4 + 8 * bitsOf st 3 3
  natLe 4 0x54535441 ++ natLe 2 1 ++ natLe 1 s.lifecycle ++ natLe 1 flags ++ s.dieId ++
    natLe 4 s.com.fwVer ++ natLe 4 s.maxSecVer ++
    (List.range 8).flatMap (fun k => natLe 4 (s.mcount k)) ++ natLe 16 s.com.imageId ++
    natLe 8 (s.vtTicks / 32768 * 2 ^ 15 + s.vtTicks % 32768) ++ natLe 4 (s.fld .ink F.INK_OPH_COUNT) ++
    natLe 4 (s.fld .ink F.INK_PCYC_COUNT) ++ s.activeDigest ++ nonce

/-- A signature block of the device's key (Table 2.4, KEY_ID 0). -/
def sigBlock (d k : Nat) (m : List Byte) : List Byte :=
  let r := ecdsaSign d k m
  natLe 2 1 ++ natLe 2 0 ++ natLe 4 0 ++ natBe 66 r.1 ++ natBe 66 r.2 ++ List.replicate 4 0

/-- ATTEST's effect (R412): the per-message number of the signature is a free value. -/
def cmdAttest (a : List Nat) (s : State) : CmdOut :=
  let na := argAddr a 0
  let ra := argAddr a 2
  if !inLaneMem na 64 || !inLaneMem ra 368 then cmdCode s stBADARG
  else
    match readLanes s na 64 with
    | .error e => cmdCode s e
    | .ok nonce =>
      let body := s.attestBody nonce
      let (i, s) := s.fresh
      cmdOk (s.writeLanes ra (body ++ sigBlock s.ink.devKey (Config.signNonce i) body)) [368]

/-- TAMPER_CFG's effect (R411). -/
def cmdTamperCfg (a : List Nat) (s : State) : CmdOut :=
  let v := a.getD 0 0 % 64
  let old := (s.rd .ink .INK_TAMPER_CFG).toNat % 16 + s.ink.decom % 4 * 16
  let off := [0, 1].any (fun b => bitAt old b && !bitAt v b) || [4, 5].any (fun b => bitAt old b && !bitAt v b)
  let on := [0, 1].any (fun b => !bitAt old b && bitAt v b) || [2, 3].any (fun b => bitAt old b != bitAt v b)
  if (off && decide (s.lifecycle ≠ 3)) || (on && decide (s.lifecycle = 4)) then cmdCode s stDENIED
  else if !s.up .inkwell then cmdCode s stSTATE
  else
    let s := s.wr .ink .INK_TAMPER_CFG 0 (BitVec.ofNat 32 (v % 16))
    let s := { s with ink := { s.ink with decom := v / 16 } }
    cmdOk (s.event .common (evCode bkKEY 2 8) (old % 16) (v % 16)) []

/-! The commands. -/

/-- LC_STATUS (R413): lifecycle state, MCOUNT2 and the roots' valid entries. -/
def execLcStatus (ch : Fin 2) (tag : BitVec 16) (s : State) : Host.Outcome State Fault Refusal :=
  ok (mboxIssue ch 0x40 tag [] cmdLcStatus s)

/-- LC_ADVANCE (R401): a signed lifecycle transition. -/
def execLcAdvance (ch : Fin 2) (tag : BitVec 16) (target : Word) (addr : BitVec 64) (s : State) : Host.Outcome State Fault Refusal :=
  ok (mboxIssue ch 0x41 tag ([target.toNat] ++ addrArgs addr) (cmdLcAdvance ch) s)

/-- ROOT_KEY_SET (R402): installs or revokes an entry of the operational or maintenance root. -/
def execRootKeySet (ch : Fin 2) (tag : BitVec 16) (root entry op keyId : Word) (keyAddr sigAddr : BitVec 64) (s : State) : Host.Outcome State Fault Refusal :=
  ok (mboxIssue ch 0x44 tag ([root.toNat, entry.toNat, op.toNat, keyId.toNat] ++ addrArgs keyAddr ++ addrArgs sigAddr) cmdRootKeySet s)

/-- KEY_WRITE (R406): fills an EMPTY slot. -/
def execKeyWrite (ch : Fin 2) (tag : BitVec 16) (slot flags keyId : Word) (addr : BitVec 64) (s : State) : Host.Outcome State Fault Refusal :=
  ok (mboxIssue ch 0x48 tag ([slot.toNat, flags.toNat, keyId.toNat] ++ addrArgs addr) cmdKeyWrite s)

/-- KEY_DERIVE (R407): fills an EMPTY child slot from its parent. -/
def execKeyDerive (ch : Fin 2) (tag : BitVec 16) (child parent flags keyId : Word) (addr : BitVec 64) (saltLen infoLen : Word) (s : State) : Host.Outcome State Fault Refusal :=
  ok (mboxIssue ch 0x49 tag ([child.toNat, parent.toNat, flags.toNat, keyId.toNat] ++ addrArgs addr ++ [saltLen.toNat, infoLen.toNat]) cmdKeyDerive s)

/-- KEY_INVALIDATE (R408): a slot and its descendants go stale and are zeroised. -/
def execKeyInvalidate (ch : Fin 2) (tag : BitVec 16) (slot : Word) (s : State) : Host.Outcome State Fault Refusal :=
  ok (mboxIssue ch 0x4A tag [slot.toNat] (cmdKeyInvalidate ch) s)

/-- KEY_STATUS (R404): a slot's descriptor. -/
def execKeyStatus (ch : Fin 2) (tag : BitVec 16) (slot : Word) (s : State) : Host.Outcome State Fault Refusal :=
  ok (mboxIssue ch 0x4B tag [slot.toNat] cmdKeyStatus s)

/-- MCOUNT_READ (R399): the eight monotonic counters. -/
def execMcountRead (ch : Fin 2) (tag : BitVec 16) (s : State) : Host.Outcome State Fault Refusal :=
  ok (mboxIssue ch 0x50 tag [] cmdMcountRead s)

/-- MCOUNT_INC (R399): one of MCOUNT3 to MCOUNT7 is advanced. -/
def execMcountInc (ch : Fin 2) (tag : BitVec 16) (k : Word) (s : State) : Host.Outcome State Fault Refusal :=
  ok (mboxIssue ch 0x51 tag [k.toNat] cmdMcountInc s)

/-- ROLLBACK_ADVANCE (R400): MCOUNT0 takes the highest active SEC_VERSION. -/
def execRollbackAdvance (ch : Fin 2) (tag : BitVec 16) (s : State) : Host.Outcome State Fault Refusal :=
  ok (mboxIssue ch 0x52 tag [] cmdRollbackAdvance s)

/-- ATTEST (R412): a signed report with the caller's nonce. -/
def execAttest (ch : Fin 2) (tag : BitVec 16) (nonceAddr repAddr : BitVec 64) (s : State) : Host.Outcome State Fault Refusal :=
  ok (mboxIssue ch 0x58 tag (addrArgs nonceAddr ++ addrArgs repAddr) cmdAttest s)

/-- TAMPER_CFG (R411): EN, POL and DECOM of the tamper inputs. -/
def execTamperCfg (ch : Fin 2) (tag : BitVec 16) (cfg : Word) (s : State) : Host.Outcome State Fault Refusal :=
  ok (mboxIssue ch 0x5C tag [cfg.toNat] cmdTamperCfg s)

end Sys2Proof.Machine
end

