-- ==== Sys2Proof/Machine/Quill.lean ====
section
/-!
DEFINITION. The Quill scheduler: arrival of tokens (R190, R192, R194, R202), ready items and pools (R191, R195), flows
(R199), selection (R196 to R201), the banks of the graph (R203) and what is observed (R206, R207).
-/

namespace Sys2Proof.Machine
open Sys2Proof

/-! The graph. -/

/-- Store Quill's state. -/
def State.setQuill (s : State) (l : Lane) (q : QuillSt) : State := s.setLane l { s.lane l with quill := q }

/-- The active graph bank. -/
def State.gBank (s : State) (l : Lane) : Nat := s.fld (.qul l) F.QUL_STATUS_BANK

/-- The address of a byte of a graph bank (R188). -/
def State.graphAt (s : State) (l : Lane) (b off : Nat) : Nat :=
  s.pairReg (.qul l) .QUL_GRAPH_BASE_LO .QUL_GRAPH_BASE_HI + b * 0x1000000 + off

/-- A field of the descriptor of node n in bank b (Table 8.3). -/
def State.nd (s : State) (l : Lane) (b n : Nat) (f : EFld) : Nat := s.recF l (s.graphAt l b (16 * n)) f

/-- The successors of a node: node and port, in table order. -/
def State.succs (s : State) (l : Lane) (b n : Nat) : List (Nat × Nat) :=
  (List.range (s.nd l b n E.T8_3_SUCC_CNT)).map (fun i =>
    let a := s.graphAt l b (0x400000 + 4 * (s.nd l b n E.T8_3_SUCC_BASE + i))
    (s.recF l a E.T8_4_NODE, s.recF l a E.T8_4_PORT))

/-- The key under which Quill keeps node n of bank b. -/
def ndKey (b n : Nat) : Nat := 2 ^ 18 * b + n

/-- What a node holds. -/
def State.node (s : State) (l : Lane) (b n : Nat) : NodeSt := assocGetD (s.lane l).quill.nodes (ndKey b n) .empty

/-- Store it. -/
def State.setNode (s : State) (l : Lane) (b n : Nat) (x : NodeSt) : State :=
  let q := (s.lane l).quill
  s.setQuill l { q with nodes := assocSet .empty q.nodes (ndKey b n) x }

/-- A group's state. -/
def State.grpSt (s : State) (l : Lane) (g : Nat) : GrpSt := assocGetD (s.lane l).quill.groups g .empty

/-- Store it. -/
def State.setGrpSt (s : State) (l : Lane) (g : Nat) (x : GrpSt) : State :=
  let q := (s.lane l).quill
  s.setQuill l { q with groups := assocPut q.groups g x }

/-- A field of a group's descriptor (Table 8.6), for group g under the active graph bank; 256 + g names it under the old bank,
whose descriptors stand in the shadow window (R203). -/
def State.grpF (s : State) (l : Lane) (g : Nat) (f : EFld) : Nat :=
  if g < 256 then s.ent (winAddr (.qul l) .qulGrpAct (16 * g)) f
  else s.ent (winAddr (.qul l) .qulGrpSh (16 * (g - 256))) f

/-- Group g under bank b, as arbitration names it. -/
def State.grpEnt (s : State) (l : Lane) (b g : Nat) : Nat := if b = s.gBank l then g else 256 + g

/-- The group of an item, as arbitration names it. -/
def State.itemGrp (s : State) (l : Lane) (i : Item) : Nat := s.grpEnt l i.bank i.group

/-- Count in QUL_CNTk. -/
def State.qulCnt (s : State) (l : Lane) (k : Nat) : State := s.bump (.qul l) F.QUL_CNT_COUNT k

/-- Count in QUL_CNTk and raise its event. -/
def State.qulCntEv (s : State) (l : Lane) (k unit : Nat) : State := s.bumpEv (.lane l) (.qul l) F.QUL_CNT_COUNT k bkQUL 0 unit

/-- The tokens and the reserved places of a port. -/
def NodeSt.port (x : NodeSt) (p : Nat) : List Tok := assocGetD x.ports p []

/-- The reserved places of a port. -/
def NodeSt.resvd (x : NodeSt) (p : Nat) : Nat := assocGetD x.resv p 0

/-- Store the tokens of a port. -/
def NodeSt.setPort (x : NodeSt) (p : Nat) (t : List Tok) : NodeSt := { x with ports := assocSet [] x.ports p t }

/-- Store the reserved places of a port. -/
def NodeSt.setResv (x : NodeSt) (p n : Nat) : NodeSt := { x with resv := assocSet 0 x.resv p n }

/-- The tokens that a port keeps when a key arrives there: all of them, but on a port awaiting its first token after a reopening
only that of the node's ready or running firing and those not older than the key (R202). -/
def NodeSt.kept (x : NodeSt) (p k : Nat) (older : Nat → Nat → Bool) : List Tok :=
  if x.reopen.contains p then
    let n := if x.firing = 0 then 0 else 1
    (x.port p).take n ++ ((x.port p).drop n).filter (fun t => !older t.key k)
  else x.port p

/-- Has a port a free place (R191) for a key? -/
def NodeSt.room (x : NodeSt) (p k : Nat) (older : Nat → Nat → Bool) : Bool :=
  decide ((x.kept p k older).length + x.resvd p < 2)

/-- Is a group closed to a key (R202, R347, R352)? -/
def State.grpClosed (s : State) (l : Lane) (g : Nat) (key : Nat) (sw : Bool) : Bool :=
  let x := s.grpSt l g
  if s.bit (.qul l) F.QUL_GRP_CTL_INTAKE g then !sw && decide (key < x.openFrom)
  else
    match x.closeFrom with
    | some c => sw || decide (c ≤ key)
    | none => true

/-- Is a key a firing key of a node (R190)? -/
def State.firingKey (s : State) (l : Lane) (b n key : Nat) (sw : Bool) : Bool :=
  sw || decide (key % s.gridG l % (s.nd l b n E.T8_3_DIV_M1 + 1) = s.nd l b n E.T8_3_PHASE)

/-- Will a node take a key (R191)? -/
def State.willTake (s : State) (l : Lane) (b n key : Nat) (sw : Bool) : Bool :=
  s.firingKey l b n key sw && !s.grpClosed l (s.nd l b n E.T8_3_GROUP) key sw

/-- The bank a token uses (R203). -/
def State.tokBank (s : State) (l : Lane) (t : Tok) : Nat :=
  if t.sw then s.gBank l
  else if t.key < (s.lane l).quill.gc then 1 - s.gBank l
  else s.gBank l

/-! Speedwell keys. -/

/-- The stream of a Speedwell token. -/
def Tok.stream (t : Tok) : Nat := t.src % 8192

/-- The modulus of a stream's smpCnt. -/
def State.cntMod (s : State) (l : Lane) (n : Nat) : Nat := s.ent (subAddr l n) E.T6_2_CNT_MOD_M1 + 1

/-- The forward distance from one smpCnt to another (R194). -/
def fwdDist (m a b : Nat) : Nat := (b % m + m - a % m) % m

/-- Does `a` lie before `b` in the forward order? -/
def swOlder (m a b : Nat) : Bool := decide (0 < fwdDist m a b ∧ 2 * fwdDist m a b < m)

/-- Does key `a` lie before key `b`, on the grid or on a stream? -/
def State.keyOlder (s : State) (l : Lane) (sw : Bool) (stream a b : Nat) : Bool :=
  if sw then swOlder (s.cntMod l stream) a b else decide (a < b)

/-! Arrival. -/

/-- The oldest key among the first tokens of a node's ports, in the forward order of a stream. -/
def oldestKey (older : Nat → Nat → Bool) (x : NodeSt) : Option Nat :=
  (x.ports.filterMap (fun e => e.2.head?)).foldl (fun a t =>
    match a with
    | none => some t.key
    | some k => if older t.key k then some t.key else some k) none

/-- Discard the tokens of a key from every port; how many there were. -/
def NodeSt.dropKey (x : NodeSt) (k : Nat) : NodeSt × Nat :=
  let ports := x.ports.map (fun e => (e.1, e.2.filter (fun t => decide (t.key ≠ k))))
  let n := (x.ports.map (fun e => (e.2.filter (fun t => decide (t.key = k))).length)).sum
  ({ x with ports := ports.filter (fun e => !e.2.isEmpty) }, n)

/-- Count SW_DROP for each of several tokens. -/
def State.swDrops (s : State) (l : Lane) (n : Nat) : Nat → State
  | 0 => s
  | k + 1 => (s.qulCntEv l 3 n).swDrops l n k

/-- After a token of key `k` has arrived on port `p` of a Speedwell node: while it is later than the oldest key and
another port still lacks that key, the oldest key's tokens are discarded (R194). -/
def State.swLag (s : State) (l : Lane) (b n p k : Nat) (older : Nat → Nat → Bool) : Nat → State
  | 0 => s
  | fuel + 1 =>
    let x := s.node l b n
    match oldestKey older x with
    | none => s
    | some o =>
      let lacks := (List.range (s.nd l b n E.T8_3_N_IN_M1 + 1)).any (fun q =>
        decide (q ≠ p ∧ ((x.port q).head?.map (fun t => t.key)) ≠ some o))
      if older o k && lacks && decide (x.firing = 0) then
        let r := x.dropKey o
        ((s.setNode l b n r.1).swDrops l n r.2).swLag l b n p k older fuel
      else s

/-- The order of keys on the path of a token. -/
def State.tokOlder (s : State) (l : Lane) (t : Tok) : Nat → Nat → Bool := s.keyOlder l t.sw t.stream

/-- A token arrives at a port that takes its key. A port awaiting its first token after a reopening is emptied of older tokens
first (R202). A Speedwell token behind its node or finding no place is discarded and counted (R194). -/
def State.arrive (s : State) (l : Lane) (b n p : Nat) (t : Tok) : State :=
  let x := s.node l b n
  let x := if x.reopen.contains p then
      { x.setPort p (x.kept p t.key (s.tokOlder l t)) with reopen := x.reopen.filter (fun q => decide (q ≠ p)) }
    else x
  let t := { t with node := n, port := p }
  if !t.sw then s.setNode l b n (x.setPort p (x.port p ++ [t]))
  else
    let m := s.cntMod l t.stream
    let x := if t.fresh then { x with last := none } else x
    let s := s.setNode l b n x
    let behind := match x.last with
      | none => false
      | some k => decide (fwdDist m k t.key = 0 ∨ m ≤ 2 * fwdDist m k t.key)
    if behind then s.qulCntEv l 4 n
    else if !x.room p t.key (swOlder m) then s.qulCntEv l 3 n
    else
      let s := s.setNode l b n (x.setPort p (x.port p ++ [t]))
      s.swLag l b n p t.key (swOlder m) 4

/-- Copy a token to a node's successors that take its key; one closed to it discards it and is counted (R190, R202). While
QUL_CTRL.EN = 0 a Speedwell token is discarded, uncounted (R194). -/
def State.spread (s : State) (l : Lane) (b : Nat) (t : Tok) (dsts : List (Nat × Nat)) : State :=
  dsts.foldl (fun s np =>
    if t.sw && !s.bit (.qul l) F.QUL_CTRL_EN then s
    else if s.willTake l b np.1 t.key t.sw then s.arrive l b np.1 np.2 t
    else if s.firingKey l b np.1 t.key t.sw then s.qulCnt l 5
    else s) s

/-! Ready items. -/

/-- The address of the descriptor of operator instance i in bank b (R213). -/
def State.opDesc (s : State) (l : Lane) (b i : Nat) : Nat :=
  s.pairReg (.ops l) .OPS_AREA_BASE_LO .OPS_AREA_BASE_HI + b * 0x4000000 + 128 * i

/-- The active operator bank. -/
def State.opBank (s : State) (l : Lane) : Nat := s.fld (.ops l) F.OPS_STATUS_BANK

/-- The operator bank an item reads (R234). -/
def State.itemOpBank (s : State) (l : Lane) (i : Item) : Nat :=
  if i.sw then i.opb
  else if i.key < (s.lane l).quill.opsGc then 1 - s.opBank l
  else s.opBank l

/-- The ready items of a group, as arbitration names it. -/
def State.pool (s : State) (l : Lane) (g : Nat) : List Item :=
  (s.lane l).quill.items.filter (fun i => decide (s.itemGrp l i = g))

/-- The key for which a node meets every condition of R191, if any. -/
def State.nodeReady (s : State) (l : Lane) (b n : Nat) : Option Nat :=
  let x := s.node l b n
  if s.nd l b n E.T8_3_KIND ≠ 3 ∨ x.firing ≠ 0 then none
  else
    match (x.port 0).head? with
    | none => none
    | some t =>
      let k := t.key
      let all := (List.range (s.nd l b n E.T8_3_N_IN_M1 + 1)).all (fun p => decide (((x.port p).head?.map (fun t => t.key)) = some k))
      let room := (s.succs l b n).all (fun np => !s.willTake l b np.1 k t.sw || (s.node l b np.1).room np.2 k (s.tokOlder l t))
      if all && room && !s.grpClosed l (s.nd l b n E.T8_3_GROUP) k t.sw then some k else none

/-- The operator bank of a node's next firing on the Speedwell path: that active when its tokens were accepted, the active one
when they were accepted under both (R234). -/
def State.firingBank (s : State) (l : Lane) (b n : Nat) : Nat :=
  let ts := ((s.node l b n).ports.filterMap (fun e => e.2.head?)).map (fun t => t.opb)
  match ts with
  | [] => s.opBank l
  | o :: rest => if rest.all (fun r => decide (r = o)) then o else s.opBank l

/-- A node becomes ready: it reserves its places and gives an item, or is deferred when its group's pool is full (R195). -/
def State.makeReady (s : State) (l : Lane) (b n : Nat) : State :=
  match s.nodeReady l b n with
  | none => s
  | some k =>
    let g := s.nd l b n E.T8_3_GROUP
    let q := (s.lane l).quill
    let o := s.grpEnt l b g
    if s.grpF l o E.T8_6_READY_MAX ≤ (s.pool l o).length then
      if q.deferred.contains (b, n) then s
      else (s.setQuill l { q with deferred := q.deferred ++ [(b, n)] }).qulCnt l 1
    else
      let sw := decide (s.nd l b n E.T8_3_SW = 1)
      let dsts := (s.succs l b n).filter (fun np => s.willTake l b np.1 k sw)
      let s := dsts.foldl (fun s np =>
        let y := s.node l b np.1
        s.setNode l b np.1 (y.setResv np.2 (y.resvd np.2 + 1))) s
      let s := s.setNode l b n { s.node l b n with firing := 1 }
      let q := (s.lane l).quill
      s.setQuill l { q with
        items := q.items ++ [⟨b, n, k, sw, g, s.firingBank l b n, dsts, none⟩]
        deferred := q.deferred.filter (fun d => decide (d ≠ (b, n))) }

/-! Flows. -/

/-- A field of the entry of flow f in bank b (Table 8.5). -/
def State.flowF (s : State) (l : Lane) (b f : Nat) (fl : EFld) : Nat := s.recF l (s.graphAt l b (0x800000 + 8 * f)) fl

/-- The valid flow that a node is a member of, if any (R199). -/
def State.flowOf (s : State) (l : Lane) (b n : Nat) : Option Nat :=
  let f := s.nd l b n E.T8_3_FLOW
  if s.nd l b n E.T8_3_FLOW_EN = 1 ∧ s.flowF l b f E.T8_5_VALID = 1 then some f else none

/-- The tokens that the members of a flow hold; a ready or running firing's stay in its ports till it completes (R191). -/
def State.flowHeld (s : State) (l : Lane) (b f : Nat) : List Tok :=
  ((s.lane l).quill.nodes.filter (fun e =>
    decide (e.1 / 2 ^ 18 = b ∧ s.flowOf l b (e.1 % 2 ^ 18) = some f))).flatMap (fun e => e.2.ports.flatMap (fun p => p.2))

/-- The flow key F (R199). A grid flow keeps it; one that has restarted takes the oldest key that a member holds. A Speedwell
flow's is the first held one in the forward order measured from the key that LAST last completed. -/
def State.flowKey (s : State) (l : Lane) (b f : Nat) : Option Nat :=
  let held := s.flowHeld l b f
  match held with
  | [] => assocGet (s.lane l).quill.flows (2 ^ 16 * b + f)
  | t :: _ =>
    let keys := held.map (fun t => t.key)
    if t.sw then
      match (s.node l b (s.flowF l b f E.T8_5_LAST)).last with
      | some k => firstKey (fun x y => decide (fwdDist (s.cntMod l t.stream) k x < fwdDist (s.cntMod l t.stream) k y)) keys
      | none => firstKey (s.tokOlder l t) keys
    else
      match assocGet (s.lane l).quill.flows (2 ^ 16 * b + f) with
      | some k => some k
      | none => firstKey (s.tokOlder l t) keys

/-- Does its flow, if any, allow an item: is its key F (R199)? -/
def State.flowAllows (s : State) (l : Lane) (i : Item) : Bool :=
  match s.flowOf l i.bank i.node with
  | none => true
  | some f => decide (s.flowKey l i.bank f = some i.key)

/-- The first firing key of a node at or after instant g (R190). -/
def State.firstFiring (s : State) (l : Lane) (b n g : Nat) : Nat :=
  let r := s.gridG l
  let d := s.nd l b n E.T8_3_DIV_M1 + 1
  let ph := s.nd l b n E.T8_3_PHASE
  let k := g + (ph + d - g % r % d) % d
  if k / r = g / r then k else (g / r + 1) * r + ph

/-- The flows of bank b that satisfy a test, by index. -/
def State.flowsOf (s : State) (l : Lane) (b : Nat) (p : Nat → Bool) : List Nat :=
  (s.memEntries l (s.graphAt l b 0x800000) 0x80000 8).filter (fun f => decide (s.flowF l b f E.T8_5_VALID = 1) && p f)

/-- Grid flows of bank b start with F equal to the first firing key of their chain at or after g (R203, R351); with none the flow
takes the oldest key that a member comes to hold. -/
def State.flowsStart (s : State) (l : Lane) (b : Nat) (g : Option Nat) (p : Nat → Bool) : State :=
  (s.flowsOf l b p).foldl (fun s f =>
    let n := s.flowF l b f E.T8_5_FIRST
    let q := (s.lane l).quill
    let k := 2 ^ 16 * b + f
    match g with
    | some g => if s.nd l b n E.T8_3_SW = 1 then s else s.setQuill l { q with flows := assocPut q.flows k (s.firstFiring l b n g) }
    | none => s.setQuill l { q with flows := assocDel q.flows k }) s

/-- Is the first member of a flow of bank b in group g? -/
def State.flowIn (s : State) (l : Lane) (b g f : Nat) : Bool := decide (s.nd l b (s.flowF l b f E.T8_5_FIRST) E.T8_3_GROUP = g)

/-- The order numbers of the items: one that its flow now allows takes the next one, several in ascending node index (R197); one
that its flow no longer allows loses its own (R199). Commands come one at a time: what one command makes dispatchable is taken
as one Quill cycle. -/
def State.dispItems (s : State) (l : Lane) : State :=
  let q := (s.lane l).quill
  let new := (q.items.filter (fun i => i.disp.isNone && s.flowAllows l i)).map (fun i => ndKey i.bank i.node)
  let items := q.items.map (fun i =>
    if !s.flowAllows l i then { i with disp := none }
    else
      match i.disp with
      | some _ => i
      | none => { i with disp := some (s.real, q.order + (new.filter (fun k => decide (k % 2 ^ 18 < i.node ∨ (k % 2 ^ 18 = i.node ∧ k < ndKey i.bank i.node)))).length) })
  s.setQuill l { q with items := items, order := q.order + new.length }

/-- The level of a group, as arbitration names it. -/
def State.level (s : State) (l : Lane) (g : Nat) : Nat := s.grpF l g E.T8_6_LEVEL

/-- Groups of levels 1 to 7 that now hold a dispatchable item join the tail of their level's active list with deficit 0
(R198). -/
def State.joinActive (s : State) (l : Lane) : State :=
  (s.lane l).quill.items.foldl (fun s i =>
    let g := s.itemGrp l i
    let lv := s.level l g
    let q := (s.lane l).quill
    let act := assocGetD q.active lv []
    if i.disp.isNone || decide (lv = 0) || act.contains g then s
    else
      let s := s.setQuill l { q with active := assocPut q.active lv (act ++ [g]) }
      s.setGrpSt l g { s.grpSt l g with deficit := 0, topped := false }) s

/-- Groups leave the active lists; a round counts no more those it had still to serve (R198). -/
def QuillSt.leaveActive (q : QuillSt) (p : Nat → Bool) : QuillSt :=
  { q with
    active := q.active.map (fun a => (a.1, a.2.filter (fun g => !p g)))
    roundLeft := q.roundLeft.map (fun r => (r.1, (((assocGetD q.active r.1 []).take r.2).filter (fun g => !p g)).length)) }

/-- What the registers show of Quill's holdings: depths of the levels and OLD_BUSY (R203). -/
def State.quillShow (s : State) (l : Lane) : State :=
  let q := (s.lane l).quill
  let pg : Page := .qul l
  let s := (List.range 8).foldl (fun s lv =>
    let d := (q.items.filter (fun i => decide (s.level l (s.itemGrp l i) = lv))).length
    let s := s.setFld pg F.QUL_LVL_STAT_DEPTH (min d 0xFFFF) lv
    s.setFld pg F.QUL_LVL_STAT_MAX (max (s.fld pg F.QUL_LVL_STAT_MAX lv) (min d 0xFFFF)) lv) s
  let old := 1 - s.gBank l
  let busy := q.items.any (fun i => decide (i.bank = old)) || q.eng.any (fun e => decide (e.2.item.bank = old)) ||
    q.nodes.any (fun e => decide (e.1 / 2 ^ 18 = old) && !e.2.ports.isEmpty) ||
    q.src.any (fun e => e.2.toks.any (fun t => decide (s.tokBank l t = old)))
  s.setFld pg F.QUL_STATUS_OLD_BUSY (b2n busy)

/-- Deferred nodes take entries in ascending node index, then the other nodes that have become ready; items and active
lists follow. -/
def State.refresh (s : State) (l : Lane) : State :=
  let s := ((s.lane l).quill.deferred.mergeSort (fun a b => decide (ndKey a.1 a.2 ≤ ndKey b.1 b.2))).foldl
    (fun s d => s.makeReady l d.1 d.2) s
  let s := (s.lane l).quill.nodes.foldl (fun s e => s.makeReady l (e.1 / 2 ^ 18) (e.1 % 2 ^ 18)) s
  ((s.dispItems l).joinActive l).quillShow l

/-! Sources. -/

/-- A source's head token leaves its queue. -/
def State.srcPop (s : State) (l : Lane) (src : Nat) : State :=
  let q := s.tokQ l src
  s.setTokQ l src { toks := q.toks.tail, held := none, overLim := false, stall := q.stall && decide (64 < q.toks.length) }

/-- A source's head token is held for lack of room, counted once (R192). -/
def State.srcHold (s : State) (l : Lane) (src : Nat) : State :=
  let q := s.tokQ l src
  match q.held with
  | some _ => s
  | none => (s.setTokQ l src { q with held := some s.real }).qulCnt l 2

/-- The recorder takes a filter engine's token as Quill accepts it (R323); keys more than 2,048 instants old are dropped. -/
def State.drcTok (s : State) (l : Lane) (t : Tok) : State :=
  if t.sw then s
  else
    let x := (s.lane l).drc
    let toks := x.toks.filter (fun k => decide (t.key ≤ k.2.1 + 2048)) ++ [(t.node, t.key, t.payload % 2 ^ 32, t.code)]
    s.setLane l { s.lane l with drc := { x with toks := toks } }

/-- TOKEN_ACCEPT (R192): Quill takes the head token of a source: a filter engine (0 to 15) or Speedwell (16). With QUL_CTRL.EN
= 0 grid sources are held and Speedwell tokens discarded. -/
def execTokenAccept (l : Lane) (src : Fin 17) (s : State) : Host.Outcome State Fault Refusal :=
  if !s.laneUp l then ok s
  else
    match (s.tokQ l src).toks with
    | [] => ok s
    | t :: _ =>
      let b := s.tokBank l t
      let n := t.node
      let kind := s.nd l b n E.T8_3_KIND
      if !s.bit (.qul l) F.QUL_CTRL_EN then (if t.sw then ok (s.srcPop l src) else ok (s.srcHold l src))
      else
      let t := { t with opb := s.opBank l }
      if kind ≠ (if t.sw then 2 else 1) ∨ !s.firingKey l b n t.key t.sw then ok (((s.drcTok l t).srcPop l src).refresh l)
      else if s.grpClosed l (s.nd l b n E.T8_3_GROUP) t.key t.sw then ok ((((s.drcTok l t).srcPop l src).qulCnt l 5).refresh l)
      else
        let dsts := s.succs l b n
        let room := dsts.all (fun np => !s.willTake l b np.1 t.key t.sw || (s.node l b np.1).room np.2 t.key (s.tokOlder l t))
        if !t.sw && !room then ok (s.srcHold l src)
        else ok ((((s.drcTok l t).srcPop l src).spread l b t dsts).refresh l)

/-- OVERLOAD (R193): a source's head token has been held longer than STALL_LIM: counted once for the holding, shown, and an
event. -/
def execOverload (l : Lane) (src : Fin 17) (s : State) : Host.Outcome State Fault Refusal :=
  let q := s.tokQ l src
  match q.held with
  | none => ok s
  | some t =>
    if !s.laneUp l || q.overLim then ok s
    else
      let s := s.reachReal (t + s.fld (.qul l) F.QUL_CTRL_STALL_LIM * us + 1)
      let s := s.setTokQ l src { q with overLim := true }
      let s := s.setBit (.qul l) F.QUL_STATUS_OVERLOAD
      ok (s.qulCntEv l 6 src)

/-! Selection. -/

/-- The state range of an item's instance in 64-byte units: first and length. -/
def State.itemRange (s : State) (l : Lane) (i : Item) : Nat × Nat :=
  let a := s.opDesc l (s.itemOpBank l i) (s.nd l i.bank i.node E.T8_3_OP)
  (s.recF l a E.T9_1_STATE_IDX, s.recF l a E.T9_1_STATE_LEN)

/-- Does a firing of the old operator bank hold back an item of the new one, their state ranges overlapping (R234)? -/
def State.heldByOld (s : State) (l : Lane) (i : Item) : Bool :=
  let q := (s.lane l).quill
  if s.itemOpBank l i ≠ s.opBank l then false
  else
    let r := s.itemRange l i
    (q.items ++ q.eng.map (fun e => e.2.item)).any (fun j =>
      let o := s.itemRange l j
      decide (s.itemOpBank l j ≠ s.opBank l) && decide (0 < r.2 ∧ 0 < o.2 ∧ r.1 < o.1 + o.2 ∧ o.1 < r.1 + r.2))

/-- May an item be dispatched now? -/
def State.canGo (s : State) (l : Lane) (i : Item) : Bool := i.disp.isSome && !s.heldByOld l i

/-- The dispatchable level-0 item that became dispatchable first (R197). -/
def State.fifo0 (s : State) (l : Lane) : Option Item :=
  ((s.lane l).quill.items.filter (fun i => decide (s.level l (s.itemGrp l i) = 0) && s.canGo l i)).foldl (fun a i =>
    match a with
    | none => some i
    | some j => if (i.disp.getD (0, 0)).2 < (j.disp.getD (0, 0)).2 then some i else some j) none

/-- The cost of an item. -/
def State.itemCost (s : State) (l : Lane) (i : Item) : Nat := s.nd l i.bank i.node E.T8_3_COST

/-- Start a round of a level: quanta anew, deficits clamped (R200). -/
def State.drrRound (s : State) (l : Lane) (lv : Nat) (act : List Nat) : State :=
  let s := act.foldl (fun s g =>
    let x := s.grpSt l g
    let qt := max (s.fld (.qul l) F.QUL_GRP_CTL_WEIGHT (g % 256) * s.fld (.qul l) F.QUL_LVL_CFG_QBASE lv) (s.grpF l g E.T8_6_CMAX)
    s.setGrpSt l g { x with quantum := qt, deficit := min x.deficit qt }) s
  let q := (s.lane l).quill
  s.setQuill l { q with roundLeft := assocPut q.roundLeft lv act.length }

/-- The deficit round robin of a level (R200). -/
def State.drrNext (s : State) (l : Lane) (lv : Nat) : Nat → State × Option Item
  | 0 => (s, none)
  | fuel + 1 =>
    let act := assocGetD (s.lane l).quill.active lv []
    match act with
    | [] => (s, none)
    | g :: rest =>
      let s := if assocGetD (s.lane l).quill.roundLeft lv 0 = 0 then s.drrRound l lv act else s
      let x := s.grpSt l g
      let x := if x.topped then x else { x with deficit := x.deficit + x.quantum, topped := true }
      let it := (s.pool l g).find? (s.canGo l)
      match it with
      | some i =>
        if s.itemCost l i ≤ x.deficit then (s.setGrpSt l g { x with deficit := x.deficit - s.itemCost l i }, some i)
        else
          let s := s.setGrpSt l g { x with topped := false }
          let q := (s.lane l).quill
          (s.setQuill l { q with active := assocPut q.active lv (rest ++ [g]), roundLeft := assocPut q.roundLeft lv (assocGetD q.roundLeft lv 0 - 1) }).drrNext l lv fuel
      | none =>
        let s := s.setGrpSt l g { x with topped := false, deficit := 0 }
        let q := (s.lane l).quill
        (s.setQuill l { q with active := assocPut q.active lv rest, roundLeft := assocPut q.roundLeft lv (assocGetD q.roundLeft lv 0 - 1) }).drrNext l lv fuel

/-- Levels in order until one gives an item. -/
def State.drrLevels (s : State) (l : Lane) : List Nat → State × Option Item
  | [] => (s, none)
  | lv :: t =>
    let r := s.drrNext l lv 1024
    match r.2 with
    | some i => (r.1, some i)
    | none => r.1.drrLevels l t

/-- The item engine e takes (R200). -/
def State.select (s : State) (l : Lane) (e : Nat) : State × Option Item :=
  match s.fifo0 l with
  | some i => (s, some i)
  | none =>
    if e < s.fld (.qul l) F.QUL_CTRL_RES0 then (s, none)
    else s.drrLevels l [1, 2, 3, 4, 5, 6, 7]

/-- Is engine e out of dispatch: faulty (R212), or kept for a running EPS (R422)? -/
def State.engOut (s : State) (l : Lane) (e : Nat) : Bool :=
  (if e < 32 then bitAt (s.rd (.ops l) .OPS_ENG_OUT_LO 0).toNat e else bitAt (s.rd (.ops l) .OPS_ENG_OUT_HI 0).toNat (e - 32)) ||
    (decide (44 ≤ e) && s.epsRuns l)

/-- The histogram bin of a wait in ns (R206). -/
def waitBin (w : Nat) : Nat := if w < 20 then 0 else min (Nat.log2 (w / 20) + 1) 15

/-- Record the wait of a dispatched item. -/
def State.waited (s : State) (l : Lane) (i : Item) : State :=
  let w := (s.real - (i.disp.getD (s.real, 0)).1) / ns
  let x := s.grpSt l i.group
  let s := s.setGrpSt l i.group { x with fired := (x.fired + 1) % 2 ^ 32, waitMax := max x.waitMax (min w (2 ^ 31 - 1)) }
  let pg : Page := .qul l
  let sel := s.fld pg F.QUL_HIST_SEL_SEL
  let hit := if s.bit pg F.QUL_HIST_SEL_GRP then decide (sel = i.group) else decide (sel = s.level l (s.itemGrp l i))
  if hit then s.bump pg F.QUL_HIST_COUNT (waitBin w) else s

/-- Start an item on an engine. -/
def State.fire (s : State) (l : Lane) (e : Nat) (i : Item) : State :=
  let q := (s.lane l).quill
  let s := s.setQuill l { q with
    items := q.items.filter (fun j => decide (j.bank ≠ i.bank ∨ j.node ≠ i.node))
    eng := assocPut q.eng e ⟨i, s.real, 0⟩ }
  let s := s.setNode l i.bank i.node { s.node l i.bank i.node with firing := 2 }
  ((s.waited l i).qulCnt l 0).refresh l

/-- ENGINE_SELECT (R200): a free engine takes the item that the arbitration gives it. -/
def execEngineSelect (l : Lane) (e : Fin 48) (s : State) : Host.Outcome State Fault Refusal :=
  if !s.laneUp l || !s.bit (.qul l) F.QUL_CTRL_EN || !s.bit (.ops l) F.OPS_CTRL_EN || s.engOut l e ||
      (assocGet (s.lane l).quill.eng e.val).isSome then ok s
  else
    match s.select l e with
    | (s, none) => ok s
    | (s, some i) => ok (s.fire l e i)

/-! Completion of a firing, as Quill learns of it. -/

/-- An engine's busy time in the present window grows by the run that ends. -/
def State.engBusy (s : State) (l : Lane) (e : Nat) (r : EngRun) : State :=
  let q := (s.lane l).quill
  s.setQuill l { q with busy := assocPut q.busy e (assocGetD q.busy e 0 + (s.real - max r.start q.winStart)) }

/-- The key LAST's completion moves a grid flow to: the next firing key (R199). -/
def State.flowStep (s : State) (l : Lane) (i : Item) : State :=
  match s.flowOf l i.bank i.node with
  | none => s
  | some f =>
    if i.sw || decide (s.flowF l i.bank f E.T8_5_LAST ≠ i.node) then s
    else
      let q := (s.lane l).quill
      s.setQuill l { q with flows := assocPut q.flows (2 ^ 16 * i.bank + f) (s.firstFiring l i.bank i.node (i.key + 1)) }

/-- A firing completes: its ports free their tokens, its output goes into the reserved places, its engine is free, and its
flow advances (R191, R199). -/
def State.complete (s : State) (l : Lane) (e : Nat) (r : EngRun) (out : Tok) : State :=
  let i := r.item
  let x := s.node l i.bank i.node
  let ports := (x.ports.map (fun p => (p.1, p.2.filter (fun t => decide (t.key ≠ i.key))))).filter (fun p => !p.2.isEmpty)
  let s := s.setNode l i.bank i.node { x with ports := ports, firing := 0, last := some i.key }
  let s := i.resv.foldl (fun s np =>
    let y := s.node l i.bank np.1
    s.setNode l i.bank np.1 (y.setResv np.2 (y.resvd np.2 - 1))) s
  let dsts := s.succs l i.bank i.node
  let s := s.spread l i.bank out (dsts.filter (fun np => i.resv.contains np || !s.willTake l i.bank np.1 i.key i.sw))
  let s := s.engBusy l e r
  let q := (s.lane l).quill
  let s := s.setQuill l { q with eng := assocDel q.eng e }
  (s.flowStep l i).refresh l

/-! The other commands. -/

/-- GROUP_WEIGHT_WRITE (R201): the weight counts from the level's next round; 0 leaves it unchanged. -/
def execGroupWeightWrite (l : Lane) (g : Fin 256) (w : BitVec 8) (s : State) : Host.Outcome State Fault Refusal :=
  if !s.laneUp l || decide (w.toNat = 0) then ok s
  else ok (s.setFld (.qul l) F.QUL_GRP_CTL_WEIGHT w.toNat g)

/-- GROUP_INTAKE_CLOSE (R202): the group is closed to new work; what is ready stays. -/
def execGroupIntakeClose (l : Lane) (g : Fin 256) (s : State) : Host.Outcome State Fault Refusal :=
  if !s.laneUp l then ok s
  else
    let s := s.setFld (.qul l) F.QUL_GRP_CTL_INTAKE 0 g
    let s := s.setGrpSt l g { s.grpSt l g with closeFrom := none }
    let q := (s.lane l).quill
    ok ((s.setQuill l { q with deferred := q.deferred.filter (fun d => decide (s.nd l d.1 d.2 E.T8_3_GROUP ≠ g.val)) }).refresh l)

/-- The nodes of a group that hold something await their first token after a reopening on every port (R202). -/
def State.reopenNodes (s : State) (l : Lane) (g : Nat) : State :=
  (s.lane l).quill.nodes.foldl (fun s e =>
    let b := e.1 / 2 ^ 18
    let n := e.1 % 2 ^ 18
    if s.nd l b n E.T8_3_GROUP ≠ g then s
    else s.setNode l b n { e.2 with reopen := List.range (s.nd l b n E.T8_3_N_IN_M1 + 1) }) s

/-- GROUP_INTAKE_OPEN (R202): the group takes work again; its flows go on with the first key that comes to be held. -/
def execGroupIntakeOpen (l : Lane) (g : Fin 256) (s : State) : Host.Outcome State Fault Refusal :=
  if !s.laneUp l || s.bit (.qul l) F.QUL_GRP_CTL_INTAKE g then ok s
  else
    let s := s.setFld (.qul l) F.QUL_GRP_CTL_INTAKE 1 g
    let s := s.setGrpSt l g { s.grpSt l g with closeFrom := none, openFrom := 0 }
    ok (((s.reopenNodes l g).flowsStart l (s.gBank l) none (s.flowIn l (s.gBank l) g)).refresh l)

/-- GRID_START (R144): at the first instant after ING_CTRL.EN = 1 and the followed clock LOCKED the grid starts, and the
lane's key store takes the VALID slots (R404); flows start at the first firing key of their chain (R203). -/
def execGridStart (l : Lane) (s : State) : Host.Outcome State Fault Refusal :=
  let pg : Page := .ing l
  if !s.laneUp l || !s.bit pg F.ING_CTRL_EN || s.gridRun l || s.laneHold l || !s.planeLocked (s.followed l) then ok s
  else
    let k := gridAt (s.gridG l) (s.laneNow l + 1)
    let s := s.reachLane l (s.gT l k)
    let s := s.setBit pg F.ING_STATUS_GRID_RUN
    let x := s.lane l
    let s := s.setLane l { x with
      grid := k, gridFirst := k, grpRel := [], subGc := 0, fltGc := 0, strs := x.strs.map (fun e => (e.1, { e.2 with rel := none })) }
    ok ((s.keyLoad l).flowsStart l (s.gBank l) (some k) (fun _ => true))

/-- HIST_SELECT (R206): a write to QUL_HIST_SEL zeroes every bin; a level above 7 leaves the register unchanged. -/
def execHistSelect (l : Lane) (grp : Bool) (sel : Fin 256) (s : State) : Host.Outcome State Fault Refusal :=
  if !s.laneUp l then ok s
  else
    let s := s.clrRow (.qul l) .QUL_HIST 16
    if !grp && decide (7 < sel.val) then ok s
    else ok ((s.setFld (.qul l) F.QUL_HIST_SEL_GRP (b2n grp)).setFld (.qul l) F.QUL_HIST_SEL_SEL sel)

/-- LOAD_WINDOW_END (R207): the window of QUL_LOAD_WIN µs completes; each engine's LOAD and PEAK are taken. -/
def execLoadWindowEnd (l : Lane) (s : State) : Host.Outcome State Fault Refusal :=
  if !s.laneUp l then ok s
  else
    let pg : Page := .qul l
    let win := s.fld pg F.QUL_LOAD_WIN_WIN * us
    let start := (s.lane l).quill.winStart
    let s := s.reachReal (start + win)
    let q := (s.lane l).quill
    let s := (List.range 48).foldl (fun s e =>
      let run := match assocGet q.eng e with
        | some r => s.real - max r.start start
        | none => 0
      let load := min ((assocGetD q.busy e 0 + run) * 65536 / (s.real - start)) 0xFFFF
      let s := s.setFld pg F.QUL_ENG_LOAD_LOAD load e
      s.setFld pg F.QUL_ENG_LOAD_PEAK (max (s.fld pg F.QUL_ENG_LOAD_PEAK e) load) e) s
    ok (s.setQuill l { q with busy := [], winStart := s.real })

/-- QUL_CNT_CLR: every QUL_CNT, every WAIT_MAX and every histogram bin is cleared. -/
def execQulCntClr (l : Lane) (s : State) : Host.Outcome State Fault Refusal :=
  if !s.laneUp l then ok s
  else
    let s := (s.clrRow (.qul l) .QUL_CNT 7).clrRow (.qul l) .QUL_HIST 16
    let q := (s.lane l).quill
    ok (s.setQuill l { q with groups := q.groups.map (fun e => (e.1, { e.2 with waitMax := 0 })) })

end Sys2Proof.Machine
end

