-- ==== Sys2Proof/Machine/RegStore.lean ====
section
/-!
DEFINITION. What a write leaves in a register: each field by its access code (Table 0.5), the values a field table says
leave a field unchanged, and the locks of R9.
-/

namespace Sys2Proof.Machine
open Sys2Proof

/-- Is the lock that governs a register's RWL fields set (R9)? -/
def State.regLocked (s : State) (pg : Page) : RegId → Bool
  | .QUL_GRAPH_BASE_LO | .QUL_GRAPH_BASE_HI => s.bit pg F.QUL_CTRL_LOCK
  | .OPS_AREA_BASE_LO | .OPS_AREA_BASE_HI | .OPS_STATE_BASE_LO | .OPS_STATE_BASE_HI | .OPS_STATE_SIZE => s.bit pg F.OPS_CTRL_LOCK
  | .MAP_BASE_LO | .MAP_BASE_HI | .MAP_PEND_BASE_LO | .MAP_PEND_BASE_HI | .MAP_PEND_CFG => s.bit pg F.MAP_CTRL_LOCK
  | .DRC_MEM_BASE_LO | .DRC_MEM_BASE_HI | .DRC_MEM_CFG => s.bit pg F.DRC_CTRL_LOCK
  | .INS_DIRTY_CTL | .INS_DIRTY_RING_LO | .INS_DIRTY_RING_HI | .INS_DIRTY_MAP_LO | .INS_DIRTY_MAP_HI => s.bit pg F.INS_DIRTY_CTL_LOCK
  | _ => false

/-- The cells PSW_IN_LIM reserves over all ports and classes but one (R121). -/
def State.minSum (s : State) (p : Plane) (but : Nat) : Nat :=
  ((List.range 120).map (fun i =>
    if i = but then 0 else s.fld (.pswPort p (i / 8)) F.PSW_IN_LIM_MIN (i % 8))).sum

/-- Does a field take a value a write gives it? The values that a field table or a rule says leave the field unchanged are
refused, and an interval that Table 3.1 does not accept. DESIGN CHOICE: a field whose table gives a range and no effect of a write
outside it takes what is written, such as ANN_TMO, SYNC_TMO, TXQ_RESERVE and SUPV_INT (log entry 75). -/
def State.fldTakes (s : State) (pg : Page) (k : Nat) (f : Fld) (v : Nat) : Bool :=
  let within := fun (a b : Nat) => decide (a ≤ v ∧ v ≤ b)
  match f.id, f.lo with
  | .TIM_CTRL, 8 => within 1 10
  | .TIM_PPS_CTRL, 8 => within 1 500
  | .TIM_PTP_PORT, 8 => decide (-4 ≤ signedOf 8 v ∧ signedOf 8 v ≤ 5)
  | .TIM_NIB_RXADJ, _ => decide ((signedOf 32 v).natAbs ≤ 40000)
  | .TIM_NIB_TXADJ, _ => decide ((signedOf 32 v).natAbs ≤ 40000)
  | .PRT_PAUSE_QUANTA, 16 => decide (1 ≤ v)
  | .PSW_CTRL, 2 => decide (v ≠ 3)
  | .PSW_LINK_HOLD, 0 => within 0 50
  | .PSW_SEQ_CFG, 0 => decide (100 ≤ v)
  | .PSW_RED_CFG, 0 => within 0 10
  | .PSW_HCAP_CTRL, 28 => decide (v = 0) || within 2 12
  | .PSW_MERGE_CFG, 0 => within 1 1000
  | .ING_CTRL, 4 => within 0 5 && !s.bit pg F.ING_CTRL_EN
  | .FLT_ENG_CFG, 0 => within 0 512
  | .FLT_WASH_LEN, 0 => within 1 4096
  | .QUL_CTRL, 20 => within 0 12
  | .QUL_CTRL, 0 => decide (1 ≤ v)
  | .QUL_LVL_CFG, _ => decide (1 ≤ v ∧ k ≠ 0)
  | .QUL_LOAD_WIN, 0 => decide (1 ≤ v)
  | .OPS_STATE_SIZE, 0 => within 1 1024
  | .MAP_CTRL, 24 => decide (v = 0) || decide (s.fld pg F.MAP_PEND_CFG_SIZE_LOG2 ≠ 0)
  | .MAP_CTRL, 0 => within 2 20000 && !s.bit pg F.MAP_CTRL_EN
  | .MAP_PEND_CFG, 0 => decide (v = 0) || within 10 20
  | .SCR_AT_US, 0 => within 0 999999
  | .CHK_LEN, 0 => within 0 16777216
  | .DRC_CTRL, 0 => decide (v = 0) || decide (s.fld pg F.DRC_MEM_CFG_SIZE_MIB ≠ 0)
  | .DRC_MEM_CFG, 0 => within 0 4096
  | .DRC_MAN_US, 0 => within 0 999999
  | .DRC_XT_CFG, 0 => decide (1 ≤ v)
  | .INS_DIRTY_CTL, 16 => within 10 24
  | .INS_DIRTY_CTL, 0 => decide (v = 0) || decide (s.fld pg F.INS_DIRTY_CTL_SIZE_LOG2 ≠ 0)
  | .BLT_CFG, 16 => within 100 60000
  | _, _ => true

/-- The value a field takes: TIM_PPS_ADJ is clamped, everything else is stored as written. -/
def fldClamp (f : Fld) (v : Nat) : Nat :=
  match f.id with
  | .TIM_PPS_ADJ0 | .TIM_PPS_ADJ1 => unsignedOf 32 (max (-4000) (min 4000 (signedOf 32 v)))
  | _ => v

/-- The word a register holds after a write of `new` over `old`, field by field (Table 0.5); reserved bits read 0 (R12). -/
def State.regMerge (s : State) (pg : Page) (r : RegId) (k : Nat) (old new : Nat) : Nat :=
  r.fields.foldl (fun acc f =>
    let o := bitsOf old f.hi f.lo
    let n := bitsOf new f.hi f.lo
    let v := match f.acc with
      | .rw => if s.fldTakes pg k f n then fldClamp f n else o
      | .rwl => if s.regLocked pg r || !s.fldTakes pg k f n then o else n
      | .ro => o
      | .rc => o
      | .wo => 0
      | .w1c => o - Nat.land o n
      | .w1s => Nat.lor o n
    bitsPut acc f.hi f.lo v) 0

/-- Store a write into a register. -/
def State.regStore (s : State) (pg : Page) (r : RegId) (k : Nat) (data : Word) : State :=
  match r, pg with
  | .PRT_CFG, .prt p i => s.writePrtCfg p i data
  | .PRT_CFG, .mg _ =>
    let old := (s.rd pg r k).toNat
    let new := bitsPut data.toNat 3 0 (bitsOf old 3 0)
    s.wr pg r k (BitVec.ofNat 32 (if 1000 < bitsOf new 31 16 then bitsPut new 31 16 (bitsOf old 31 16) else new))
  | .PRT_MAXLEN, .prt p i => if 11 ≤ i then s else s.writeMaxlen p i data
  | .PRT_MAXLEN, .mg i => s.writeMaxlen .a (11 + i) data
  | .PRT_PAUSE_CFG, .mg _ => s.wr pg r k (BitVec.ofNat 32 (data.toNat % 2))
  | .PSW_IN_LIM, .pswPort p i =>
    if 65536 < s.minSum p (8 * i + k) + data.toNat % 65536 then s
    else s.wr pg r k (BitVec.ofNat 32 (s.regMerge pg r k (s.rd pg r k).toNat data.toNat))
  | _, _ => s.wr pg r k (BitVec.ofNat 32 (s.regMerge pg r k (s.rd pg r k).toNat data.toNat))

/-- Store a word that a committed region gives a register: PSW_IN_LIM is taken as the region has it, since its sum was tested whole when
the region was staged (R121). -/
def State.regCommit (s : State) (pg : Page) (r : RegId) (k : Nat) (data : Word) : State :=
  match r with
  | .PSW_IN_LIM => s.wr pg r k (BitVec.ofNat 32 (s.regMerge pg r k (s.rd pg r k).toNat data.toNat))
  | _ => s.regStore pg r k data

end Sys2Proof.Machine
end

