-- ==== Sys2Proof/Machine/Loader.lean ====
section
/-!
DEFINITION. The structure image ("Structure image and the steward"): its header, manifest and sections (R45), the
structures each region type owns (R46), and the writing of load records into the shadow banks (R47).
-/

namespace Sys2Proof.Machine
open Sys2Proof

/-- A field of a record held as octets. -/
def octF (b : List Byte) (f : EFld) : Nat := bitsOf (leNat ((b.drop f.off).take (f.hi / 8 + 1))) f.hi f.lo

/-- Are the octets from `i` up to `j` all zero? -/
def octZero (b : List Byte) (i j : Nat) : Bool := ((b.drop i).take (j - i)).all (fun x => decide (x = 0))

/-- A manifest entry (Table 2.3). -/
structure ManEnt where
  type : Nat
  target : Nat
  version : Nat
  off : Nat
  len : Nat
  tag : Nat
  deps : Nat
  digest : List Byte
  req : List Nat
  deriving DecidableEq, Repr

/-- Read a manifest entry. -/
def manEnt (b : List Byte) : ManEnt :=
  { type := octF b E.T2_3_TYPE, target := octF b E.T2_3_TARGET, version := octF b E.T2_3_VERSION, off := octF b E.T2_3_SEC_OFFSET,
    len := octF b E.T2_3_SEC_LEN, tag := octF b E.T2_3_LAYOUT_TAG, deps := octF b E.T2_3_DEP_MASK,
    digest := (b.drop 0x20).take 64, req := (List.range 16).map (fun t => octF b ⟨0x60 + 4 * t, 31, 0⟩) }

/-- The dependency mask of a region type (Table 2.1). -/
def regionDeps : Nat → Nat
  | 1 => 0x1 | 3 => 0x3 | 4 => 0x8 | 5 => 0x2 | 6 => 0x31 | 7 => 0x2 | 8 => 0x3 | 9 => 0xA | 10 => 0x2 | _ => 0

/-- Is a region type's target the planes? -/
def regionOnPlanes (t : Nat) : Bool := decide (t = 2 ∨ t = 11)

/-- The region types and manifest targets a full image must hold (Table 2.1). -/
def mandatory : List (Nat × Nat) :=
  [(0, 0), (1, 0), (2, 1), (2, 2), (3, 0), (4, 0), (5, 0), (6, 0), (7, 0), (8, 0), (11, 1), (11, 2)]

/-- The commit targets (0 Lane 0, 1 Lane 1, 2 Plane A, 3 Plane B) of a manifest target. -/
def commitTargets (m : Nat) : List Nat := if m = 0 then [0, 1] else if m = 1 then [2] else [3]

/-- Is a manifest entry as Table 2.1 and Table 2.3 state: a defined type, a target of that type, its dependency mask, and
zeros where zeros are stated? -/
def manOk (b : List Byte) (m : ManEnt) : Bool :=
  decide (m.type ≤ 11) && (if regionOnPlanes m.type then decide (m.target = 1 ∨ m.target = 2) else decide (m.target = 0)) &&
    decide (m.deps = regionDeps m.type) && decide (m.off % 4096 = 0) && decide (32 ≤ m.len) &&
    octZero b 3 4 && octZero b 0x1E 0x20 && octZero b 0xA0 0xC0 &&
    (List.range 16).all (fun t => bitAt m.deps t || decide (m.req.getD t 0 = 0))

/-- The manifest of an image whose first octets are given. -/
def manifest (b : List Byte) : List ManEnt :=
  (List.range (octF b E.T2_2_ENTRY_COUNT)).map (fun i => manEnt ((b.drop (0x100 + 192 * i)).take 192))

/-- The bytes the signature covers: from 0 to the end of the manifest (R45). -/
def signedLen (b : List Byte) : Nat := 0x100 + 192 * octF b E.T2_2_ENTRY_COUNT

/-- The gaps between an image's parts, from the end of the signature block on, or nothing when a section does not follow
the one before it in manifest order (R45). -/
def imageGaps : Nat → List ManEnt → Option (List (Nat × Nat))
  | _, [] => some []
  | e, m :: t => if m.off < e then none else (imageGaps (m.off + m.len) t).map ((e, m.off) :: ·)

/-- A load record (Table 2.6). -/
structure LoadRec where
  space : Nat
  dest : Nat
  len : Nat
  zero : Bool
  data : List Byte
  deriving DecidableEq, Repr

/-- The load records of a section's body: as many as RECORD_COUNT says and nothing after them, or nothing when malformed. -/
def loadRecs : Nat → List Byte → Option (List LoadRec)
  | 0, b => if b.isEmpty then some [] else none
  | n + 1, b =>
    let len := octF b E.T2_6_LEN
    let kind := octF b E.T2_6_KIND
    let pad := if kind = 0 then (len + 7) / 8 * 8 else 0
    let rest := b.drop 16
    if b.length < 16 ∨ octF b ⟨0, 61, 48⟩ ≠ 0 ∨ len % 4 ≠ 0 ∨ len < 4 ∨ 1 < kind ∨ !octZero b 13 16 ∨ rest.length < pad ∨
        octF b E.T2_6_SPACE = 3 ∨ !octZero rest len pad then none
    else
      (loadRecs n (rest.drop pad)).map
        (⟨octF b E.T2_6_SPACE, octF b E.T2_6_DEST, len, decide (kind = 1), if kind = 0 then rest.take len else []⟩ :: ·)

/-- The load records of a region. -/
def Region.recs (r : Region) : Option (List LoadRec) := loadRecs (octF r.body E.T2_5_RECORD_COUNT) (r.body.drop 32)

/-- Does a section header equal its manifest entry (step 6 of Table 2.7)? -/
def secHeadOk (m : ManEnt) (b : List Byte) : Bool :=
  decide (octF b E.T2_5_SEC_MAGIC = 0x43455342 ∧ octF b E.T2_5_TYPE = m.type ∧ octF b E.T2_5_TARGET = m.target ∧
    octF b E.T2_5_VERSION = m.version ∧ octF b E.T2_5_BODY_LEN = m.len - 32 ∧ b.length = m.len) && octZero b 7 8 && octZero b 0x18 0x20

/-! What the region types own (R46). -/

/-- The lane or plane of a commit target as a domain. -/
def targetDom (t : Nat) : Dom :=
  match t with
  | 0 => .lane .l0
  | 1 => .lane .l1
  | 2 => .plane .a
  | _ => .plane .b

/-- The lane of a lane target. -/
def targetLane (t : Nat) : Lane := if t = 0 then .l0 else .l1

/-- The plane of a plane target. -/
def targetPlane (t : Nat) : Plane := if t = 2 then .a else .b

/-- Base of the register space of a target (SPACE 1 and 2 of Table 2.6). -/
def targetBase (t : Nat) : Nat := if t < 2 then laneBase (targetLane t) else planeBase (targetPlane t)

/-- A shadow window, its active window, and their size. -/
def winPair (p : Page) (sh act : Win) : Nat × Nat × Nat := (winAddr p sh 0, winAddr p act 0, sh.info.size)

/-- The banks of a Scribe engine: shadow, active and size (Table 11.7). -/
def scrPairs (l : Lane) (k : Nat) : List (Nat × Nat × Nat) :=
  let p : Page := .scr l k
  [(p.base + 0x100, p.base, 0x100), winPair p .scrInSh .scrInAct, winPair p .scrTpSh .scrTpAct, winPair p .scrCpSh .scrCpAct,
    winPair p .scrOutSh .scrOutAct, winPair p .scrPrgSh .scrPrgAct]

/-- The double-banked windows of a region type on a target: shadow, active and size. -/
def regionWins (type t : Nat) : List (Nat × Nat × Nat) :=
  let l := targetLane t
  let p := targetPlane t
  match type with
  | 0 => [winPair (.ins l) .insDescSh .insDescAct, winPair (.ins l) .insMwSh .insMwAct]
  | 1 => [winPair (.map l) .mapRngSh .mapRngAct]
  | 2 => [winPair (.psw p) .pswFdbSh .pswFdbAct, winPair (.psw p) .pswStrSh .pswStrAct, winPair (.psw p) .pswVlanSh .pswVlanAct]
  | 3 => [winPair (.ing l) .ingSubSh .ingSubAct, winPair (.ing l) .ingGrpSh .ingGrpAct, winPair (.map l) .mapGooSh .mapGooAct,
      winPair (.map l) .mapMemSh .mapMemAct]
  | 4 => [winPair (.flt l) .fltSlotSh .fltSlotAct, winPair (.flt l) .fltSwSh .fltSwAct]
  | 6 => [winPair (.qul l) .qulGrpSh .qulGrpAct]
  | 7 => (List.range 32).flatMap (scrPairs l)
  | 8 => [winPair (.pub l) .pubDescSh .pubDescAct, winPair (.pub l) .pubMemSh .pubMemAct, winPair (.pub l) .pubTextSh .pubTextAct,
      winPair (.pub l) .pubTripSh .pubTripAct, winPair (.pub l) .pubSrcSh .pubSrcAct]
  | 9 => [winPair (.drc l) .drcSetSh .drcSetAct, winPair (.drc l) .drcAnaSh .drcAnaAct, winPair (.drc l) .drcBinSh .drcBinAct,
      winPair (.drc l) .drcTrigSh .drcTrigAct, winPair (.drc l) .drcPhSh .drcPhAct]
  | 10 => [winPair (.fbs l) .fbsDescSh .fbsDescAct]
  | _ => []

/-- All indices of a register of a page. -/
def regRow (p : Page) (r : RegId) : List (Page × RegId × Nat) := (List.range r.geom.count).map (fun k => (p, r, k))

/-- The base registers of R48. -/
def baseRegs (l : Lane) : List (Page × RegId × Nat) :=
  [(.qul l, .QUL_GRAPH_BASE_LO, 0), (.qul l, .QUL_GRAPH_BASE_HI, 0), (.ops l, .OPS_AREA_BASE_LO, 0), (.ops l, .OPS_AREA_BASE_HI, 0),
    (.ops l, .OPS_STATE_BASE_LO, 0), (.ops l, .OPS_STATE_BASE_HI, 0), (.ops l, .OPS_STATE_SIZE, 0), (.map l, .MAP_BASE_LO, 0),
    (.map l, .MAP_BASE_HI, 0), (.map l, .MAP_PEND_BASE_LO, 0), (.map l, .MAP_PEND_BASE_HI, 0), (.map l, .MAP_PEND_CFG, 0)]

/-- The registers of one external port that the SWITCH region loads. -/
def prtRegs (p : Plane) (i : Nat) : List (Page × RegId × Nat) :=
  [.PRT_CFG, .PRT_MAXLEN, .PRT_PAUSE_CFG, .PRT_PAUSE_QUANTA, .PRT_MACADDR_LO, .PRT_MACADDR_HI].map (fun r => (.prt p i, r, 0))

/-- The registers of the switch core that the SWITCH region loads. -/
def pswRegs (p : Plane) : List (Page × RegId × Nat) :=
  [.PSW_CTRL, .PSW_PCP_MAP, .PSW_LINK_HOLD, .PSW_AGE_MAX, .PSW_PAUSE_GRACE, .PSW_SEQ_CFG, .PSW_RED_CFG, .PSW_MERGE_CFG].flatMap
      (regRow (.psw p)) ++
    (List.range 15).flatMap (fun i => [.PSW_PORT_CFG, .PSW_IN_THR, .PSW_IN_LIM, .PSW_EQ].flatMap (regRow (.pswPort p i)))

/-- The registers of the time unit that the TIME region loads: every TIM_ register marked RW. -/
def timRegs (p : Plane) : List (Page × RegId × Nat) :=
  [.TIM_CTRL, .TIM_LIMITS, .TIM_DOM_CFG, .TIM_PPS_CTRL, .TIM_PPS_ADJ0, .TIM_PPS_ADJ1].flatMap (regRow (.tim p)) ++
    (List.range 11).flatMap (fun i => [.TIM_NIB_RXADJ, .TIM_NIB_TXADJ, .TIM_PTP_PORT].flatMap (regRow (.timPort p i)))

/-- The single registers a region type loads on a target; they are staged and take their values at the commit (R47, R48,
R134, R185, R378). -/
def regionRegs (type t : Nat) : List (Page × RegId × Nat) :=
  let l := targetLane t
  let p := targetPlane t
  match type with
  | 0 => baseRegs l
  | 2 => (List.range 11).flatMap (prtRegs p) ++ pswRegs p
  | 4 => (List.range 16).flatMap (fun e => regRow (.fltEng l e) .FLT_ENG_CFG)
  | 10 => (List.range 2).flatMap (fun c => [.FBS_NBT, .FBS_DBT, .FBS_TDC].flatMap (regRow (.fbsCtl l c)))
  | 11 => timRegs p
  | _ => []

/-- The register of a region at an address, if any. -/
def regionRegAt (type t a : Nat) : Option (Page × RegId × Nat) := (regionRegs type t).find? (fun x => decide (regAddr x.1 x.2.1 x.2.2 = a))

/-- The value a register will have after the commit: as staged, or as it stands. -/
def State.stagedReg (s : State) (p : Page) (r : RegId) (k : Nat := 0) : Nat :=
  match assocGet s.shreg (regAddr p r k) with
  | some v => v.toNat
  | none => (s.rd p r k).toNat

/-- An address pair as it will stand after the commit. -/
def State.stagedPair (s : State) (p : Page) (lo hi : RegId) : Nat := s.stagedReg p lo + 2 ^ 32 * s.stagedReg p hi

/-- The lane memory a region type loads: base and size against bank 0, and what to add for the shadow bank (R188, R213). -/
def State.regionMem (s : State) (type : Nat) (l : Lane) : Option (Nat × Nat × Nat) :=
  match type with
  | 5 => some (s.stagedPair (.ops l) .OPS_AREA_BASE_LO .OPS_AREA_BASE_HI, 0x4000000, (1 - s.opBank l) * 0x4000000)
  | 6 => some (s.stagedPair (.qul l) .QUL_GRAPH_BASE_LO .QUL_GRAPH_BASE_HI, 0x1000000, (1 - s.gBank l) * 0x1000000)
  | _ => none

/-- The coefficient banks a FILTER record lies in: engine and bank of its first and last word (R179). -/
def coefBanks (l : Lane) (a len : Nat) : List (Nat × Nat) :=
  let b := winAddr (.flt l) .fltCoef 0
  if a < b ∨ b + 0x200000 < a + len then []
  else (List.range ((a + len - 1 - b) / 0x4000 + 1 - (a - b) / 0x4000)).map (fun i =>
    let n := (a - b) / 0x4000 + i
    (n / 8, n % 8))

/-- Does a load record lie in the structures its region type owns on a target (R46)? A record into register space begins at a
word, as every access to registers does (R7). -/
def State.recOwned (s : State) (type t : Nat) (r : LoadRec) : Bool :=
  if r.space = 0 then
    match s.regionMem type (targetLane t) with
    | some (b, n, _) => decide (t < 2) && decide (b ≤ r.dest ∧ r.dest + r.len ≤ b + n)
    | none => false
  else
    let a := targetBase t + r.dest
    decide ((r.space = 1 ∧ t < 2) ∨ (r.space = 2 ∧ 2 ≤ t)) && decide (a % 4 = 0) &&
      ((regionWins type t).any (fun w => decide (w.1 ≤ a ∧ a + r.len ≤ w.1 + w.2.2)) ||
        (decide (type = 4) && !(coefBanks (targetLane t) a r.len).isEmpty) ||
        (List.range (r.len / 4)).all (fun i => (regionRegAt type t (a + 4 * i)).isSome))

/-! Writing the shadow banks. -/

/-- The word `i` of a load record. -/
def LoadRec.word (r : LoadRec) (i : Nat) : Word := if r.zero then 0 else BitVec.ofNat 32 (leNat ((r.data.drop (4 * i)).take 4))

/-- A word as a register keeps it: reserved bits read 0 (R12). -/
def RegId.keeps (r : RegId) (v : Nat) : Nat := r.fields.foldl (fun acc f => bitsPut acc f.hi f.lo (bitsOf v f.hi f.lo)) 0

/-- A word of a load record as the shadow bank keeps it: a coefficient is sign-extended from its 24 bits (R179), and a shadow
register of a Scribe engine has its reserved bits 0 (R12). -/
def shadowWord (type t a : Nat) (v : Word) : Word :=
  let c := winAddr (.flt (targetLane t)) .fltCoef 0
  let o := a % 0x100000
  if type = 4 ∧ c ≤ a ∧ a < c + 0x200000 then BitVec.ofNat 32 (unsignedOf 32 (signedOf 24 v.toNat))
  else if type = 7 ∧ o < 0x200 then
    match Kind.scr.regs.find? (fun r => decide (r.geom.off = o)) with
    | some r => BitVec.ofNat 32 (r.keeps v.toNat)
    | none => 0
  else v

/-- Write one load record of a region into a target's shadow bank. -/
def State.loadRec (s : State) (type t : Nat) (r : LoadRec) : State :=
  if r.space = 0 then
    match s.regionMem type (targetLane t) with
    | some (_, _, d) => s.memWLog (targetLane t) 3 (r.dest + d) (if r.zero then List.replicate r.len 0 else r.data)
    | none => s
  else
    let a := targetBase t + r.dest
    (List.range (r.len / 4)).foldl (fun s i =>
      match regionRegAt type t (a + 4 * i) with
      | some x =>
        if s.regLocked x.1 x.2.1 then s
        else { s with shreg := assocPut s.shreg (a + 4 * i) (r.word i) }
      | none => s.setWin (a + 4 * i) (shadowWord type t (a + 4 * i) (r.word i))) s

/-- The Scribe engines whose shadow bank a region's records write. -/
def scrBuilt (rs : List LoadRec) : List Nat :=
  (rs.filterMap (fun r => if r.space = 1 ∧ 0x4000000 ≤ r.dest then some ((r.dest - 0x4000000) / 0x100000) else none)).dedup

/-- Set an engine's shadow bank to 0 before its first write in a build (R276). -/
def State.scrClear (s : State) (l : Lane) (k : Nat) : State := (scrPairs l k).foldl (fun s w => s.clearRange w.1 w.2.2) s

/-- Start a target's change logs with a build of a region, or end them; OVERFLOW stays as it is until a new build starts (R116, R155,
R253). -/
def State.logStart (s : State) (type t : Nat) (on : Bool) : State :=
  let l := targetLane t
  let p := targetPlane t
  match type with
  | 2 =>
    let s := s.setPlane p { s.plane p with log := [] }
    let s := s.setFld (.psw p) F.PSW_TBL_STATUS_BUILDING (b2n on)
    let s := if on then s.setFld (.psw p) F.PSW_TBL_STATUS_OVERFLOW 0 else s
    s.setFld (.psw p) F.PSW_TBL_STATUS_LOG_COUNT 0
  | 3 =>
    let x := s.lane l
    let s := s.setLane l { x with ingLog := [], map := { x.map with gooLog := [] } }
    let s := (s.setFld (.ing l) F.ING_TBL_STATUS_BUILDING (b2n on)).setFld (.map l) F.MAP_TBL_STATUS_BUILDING (b2n on)
    let s := if on then (s.setFld (.ing l) F.ING_TBL_STATUS_OVERFLOW 0).setFld (.map l) F.MAP_TBL_STATUS_OVERFLOW 0 else s
    (s.setFld (.ing l) F.ING_TBL_STATUS_LOG_COUNT 0).setFld (.map l) F.MAP_TBL_STATUS_LOG_COUNT 0
  | _ => s

/-- Write a region into a target's shadow bank. -/
def State.loadRegion (s : State) (t : Nat) (r : Region) : State :=
  let rs := (Region.recs r).getD []
  let s := s.logStart r.type t true
  let s := if r.type = 7 then (scrBuilt rs).foldl (fun s k => s.scrClear (targetLane t) k) s else s
  rs.foldl (fun s x => s.loadRec r.type t x) s

/-- The regions of a list that a commit target takes, PARTITION first so that the areas it places are known. -/
def regionsOf (rs : List Region) (t : Nat) : List Region :=
  let x := rs.filter (fun r => (commitTargets r.target).contains t)
  x.filter (fun r => decide (r.type = 0)) ++ x.filter (fun r => decide (r.type ≠ 0))

/-- Write regions into a target's shadow banks. -/
def State.build (s : State) (t : Nat) (rs : List Region) : State := (regionsOf rs t).foldl (fun s r => s.loadRegion t r) s

/-- Discard a region's shadow bank on a target: its windows and staged registers hold nothing, its log ends. A Scribe engine
that the region did not write keeps its old bank, from which it may still run (R273). -/
def State.unload (s : State) (t : Nat) (r : Region) : State :=
  let wins := if r.type = 7 then (scrBuilt ((Region.recs r).getD [])).flatMap (scrPairs (targetLane t)) else regionWins r.type t
  let s := wins.foldl (fun s w => s.clearRange w.1 w.2.2) s
  let own := (regionRegs r.type t).map (fun x => regAddr x.1 x.2.1 x.2.2)
  let s := { s with shreg := s.shreg.filter (fun e => !own.contains e.1) }
  s.logStart r.type t false

/-- Discard the shadow banks of a staged image on a target (R49, R55, R57). -/
def State.unbuild (s : State) (t : Nat) (rs : List Region) : State := (regionsOf rs t).foldl (fun s r => s.unload t r) s

end Sys2Proof.Machine
end

