-- ==== Sys2Proof/Machine/Flash.lean ====
section
/-!
DEFINITION. The flash devices: reads and writes with device errors (R50), the bank descriptor (R51), and the firmware and image
banks (Table 2.8).
-/

namespace Sys2Proof.Machine
open Sys2Proof

/-! Reads and writes. Whether an access meets a device error is a free value. -/

/-- Bank VIO_E, which carries both flash interfaces, is out of range (R453). -/
def State.flashOff (s : State) : Bool := s.com.lowBanks.contains 4

/-- Read a range of one device: nothing when the device error check fails. -/
def State.flashRd (s : State) (d a n : Nat) : Option (List Byte) × State :=
  let (k, s) := s.fresh
  (if Config.flashError k || s.flashOff then none else some (s.flash d a n), s)

/-- Read a range from FLASH0, and from FLASH1 when that read fails its device check or a test of its octets (R50). A range
neither device reads is nothing. Each failed read is counted (Table 20.1). -/
def State.flashRead (s : State) (a n : Nat) (good : List Byte → Bool) : Option (List Byte) × State :=
  match s.flashRd 0 a n with
  | (some b, s) =>
    if good b then (some b, s)
    else
      match (s.countUnc .common).flashRd 1 a n with
      | (some c, s) => (some c, s)
      | (none, s) => (some b, s.countUnc .common)
  | (none, s) =>
    match (s.countUnc .common).flashRd 1 a n with
    | (some c, s) => (some c, s)
    | (none, s) => (none, s.countUnc .common)

/-- The octets that a write of `n` bytes leaves in a device after a device error. -/
def garbled (k n : Nat) : List Byte := (List.range n).map (fun i => BitVec.ofNat 8 (Config.flashGarble k i))

/-- Write octets to both devices, FLASH0 first: the state, and whether at least one device took them (R50). -/
def State.flashPut (s : State) (a : Nat) (b : List Byte) : Bool × State :=
  let (k0, s) := s.fresh
  let (k1, s) := s.fresh
  let e0 := Config.flashError k0
  let e1 := Config.flashError k1
  let put := fun (k : Nat) (e : Bool) (m : Mem) => memWrite 0xFF m a (if e then garbled k b.length else b)
  if s.flashOff then (false, s)
  else (!(e0 && e1), { s with flash0 := put k0 e0 s.flash0, flash1 := put k1 e1 s.flash1 })

/-- Erase a range of both devices. -/
def State.flashWipe (s : State) (a n : Nat) : Bool × State :=
  let (k0, s) := s.fresh
  let (k1, s) := s.fresh
  let e0 := Config.flashError k0
  let e1 := Config.flashError k1
  let t := s.flashErase a n
  let put := fun (k : Nat) (e : Bool) (m : Mem) => if e then memWrite 0xFF m a (garbled k n) else m
  if s.flashOff then (false, s)
  else (!(e0 && e1), { t with flash0 := put k0 e0 t.flash0, flash1 := put k1 e1 t.flash1 })

/-! Banks. -/

/-- Where a bank lies (Table 2.8): W 0 firmware or 1 image, B 0 or 1. -/
def bankBase (w b : Nat) : Nat := if w = 0 then 0x100000 + b * 0x800000 else 0x2000000 + b * 0x1E000000

/-- A bank's size. -/
def bankSize (w : Nat) : Nat := if w = 0 then 0x800000 else 0x1E000000

/-- Store a field of a record held as octets. -/
def octPut (b : List Byte) (f : EFld) (v : Nat) : List Byte :=
  let n := f.hi / 8 + 1
  b.take f.off ++ natLe n (bitsPut (leNat ((b.drop f.off).take n)) f.hi f.lo v) ++ b.drop (f.off + n)

/-- Is a bank descriptor copy valid: MAGIC and CRC (R51)? -/
def descOk (b : List Byte) : Bool := decide (octF b E.T2_9_MAGIC = 0x4B4E4142 ∧ octF b E.T2_9_CRC = crcOf crc32c (b.take 0x3C))

/-- The copy the steward uses: the valid one with the highest SEQ on either device; its number and octets (R51). -/
def State.descPick (s : State) : Option (Nat × List Byte) :=
  let all := [(0, s.flash 0 0 64), (1, s.flash 0 0x8000 64), (0, s.flash 1 0 64), (1, s.flash 1 0x8000 64)]
  (all.filter (fun e => descOk e.2)).foldl (fun best e =>
    match best with
    | none => some e
    | some x => if octF x.2 E.T2_9_SEQ < octF e.2 E.T2_9_SEQ then some e else best) none

/-- The descriptor in use; without a valid copy, bank A for both, no trial, nothing held (R51). -/
def State.desc (s : State) : List Byte :=
  match s.descPick with
  | some e => e.2
  | none => List.replicate 64 0

/-- STW_BANK shows the descriptor. -/
def State.showBank (s : State) : State :=
  let d := s.desc
  s.wr .stwLoad .STW_BANK 0 (BitVec.ofNat 32 (octF d ⟨0x8, 3, 0⟩ + 16 * octF d ⟨0xC, 7, 0⟩))

/-- Write a new descriptor over the copy with the lower SEQ or the invalid one, with SEQ + 1, on both devices (R51). -/
def State.descWrite (s : State) (d : List Byte) : State :=
  let copy := match s.descPick with
    | some e => 1 - e.1
    | none => 0
  let d := octPut (octPut d E.T2_9_MAGIC 0x4B4E4142) E.T2_9_SEQ (octF s.desc E.T2_9_SEQ + 1)
  let d := octPut d E.T2_9_CRC (crcOf crc32c (d.take 0x3C))
  let s := s.flashErase (0x8000 * copy) 0x8000
  (s.flashW (0x8000 * copy) d).showBank

/-- The fields of a bank kind in the descriptor: bank bit, trial flag and trial counter. -/
def bankFld (w : Nat) : EFld := if w = 0 then E.T2_9_FW_BANK else E.T2_9_IMG_BANK
def trialFld (w : Nat) : EFld := if w = 0 then E.T2_9_FW_TRIAL else E.T2_9_IMG_TRIAL
def trialsFld (w : Nat) : EFld := if w = 0 then E.T2_9_FW_TRIALS else E.T2_9_IMG_TRIALS

/-- What the descriptor says a bank holds: its IMAGE_ID or firmware version. -/
def heldFld (w b : Nat) : EFld :=
  if w = 0 then (if b = 0 then E.T2_9_FW_VER_A else E.T2_9_FW_VER_B)
  else if b = 0 then E.T2_9_IMG_ID_A else E.T2_9_IMG_ID_B

/-- The active bank, and whether it is on trial. -/
def State.bankOf (s : State) (w : Nat) : Nat := octF s.desc (bankFld w)
def State.onTrial (s : State) (w : Nat) : Bool := decide (octF s.desc (trialFld w) = 1)

/-- The octets of a firmware bank as one number. -/
def State.fwOct (s : State) (d b : Nat) : Nat := leNat (s.flash d (bankBase 0 b) (bankSize 0))

/-- What a bank now holds, for the descriptor: the IMAGE_ID of a header with the right MAGIC, or the firmware's version. -/
def State.heldBy (s : State) (w b : Nat) : Nat :=
  if w = 0 then Config.firmwareVersion (s.fwOct 0 b)
  else
    let h := s.flash 0 (bankBase 1 b) 256
    if octF h E.T2_2_MAGIC = 0x49534C42 then octF h E.T2_2_IMAGE_ID else 0

/-- A bank changes: it counts as verified no more, and the descriptor says what it holds. -/
def State.bankChanged (s : State) (w b held : Nat) : State :=
  let s := { s with com := { s.com with verified := s.com.verified.filter (fun e => decide (e ≠ (w, b))) } }
  s.descWrite (octPut s.desc (heldFld w b) held)

/-- May a bank be erased or written: neither active nor the one a trial would fall back to (R52)? -/
def State.bankFree (s : State) (w b : Nat) : Bool := decide (s.bankOf w ≠ b) && !s.onTrial w

/-- The steward boots on a bank that is on trial: the counter rises; at 3 the trial ends, the other bank is selected and the
named event BANK_FALLBACK is recorded (R52). DESIGN CHOICE: the trial counter is zeroed (log entry 72). -/
def State.fallBack (s : State) (w : Nat) : State :=
  let d := s.desc
  let b := octF d (bankFld w)
  let d := octPut (octPut (octPut d (trialFld w) 0) (trialsFld w) 0) (bankFld w) (1 - b)
  (s.descWrite d).event .common (evCode bkSTW 2 0) w (1 - b)

/-- The trial counter of a bank kind at a start (R52). -/
def State.trialStart (s : State) (w : Nat) : State :=
  if !s.onTrial w then s
  else
    let n := octF s.desc (trialsFld w) + 1
    let s := s.descWrite (octPut s.desc (trialsFld w) n)
    if 3 ≤ n then s.fallBack w else s

/-- Set a running command's progress, in units of 256 bytes (STW_PROGRESS). -/
def State.progress (s : State) (ch n : Nat) : State := s.wr (.stw ch) .STW_PROGRESS 0 (BitVec.ofNat 32 (n / 256))

end Sys2Proof.Machine
end

