-- ==== Sys2Proof/Machine/Operators.lean ====
section
/-!
DEFINITION. The element engines and the operator catalogue: firing and commit (R211, R212), tokens in and out (R217 to
R221), pickup and dropout (R222), and the ten operators (R224 to R233).
-/

namespace Sys2Proof.Machine
open Sys2Proof

/-! Inputs, outputs and helpers. -/

/-- What a firing reads: parameters, state record and extended block by field, whether QUEST is usable, whether it is the
LAST member, the input tokens by port, and the forward distance to the instance's last smpCnt. -/
structure OpIn where
  p : EFld → Nat
  st : EFld → Nat
  ext : Nat → Nat → Nat                   -- byte offset and length
  questOk : Bool
  isLast : Bool
  ins : List Tok
  dist : Nat

/-- What a firing computes: W0 to W3, CODE, TEST and the state words it writes. -/
structure OpOut where
  w0 : Nat
  w1 : Nat
  w2 : Nat
  w3 : Nat
  code : Nat
  test : Bool
  st : List (EFld × Nat)

/-- A field moved by a byte offset. -/
def EFld.at_ (f : EFld) (d : Nat) : EFld := ⟨f.off + d, f.hi, f.lo⟩

/-- A word of a token's payload (R217). -/
def Tok.w (t : Tok) (i : Nat) : Nat := recW t.payload i

/-- A missing input. -/
def Tok.none_ : Tok := ⟨0, false, 0, 0, 0, 3, false, 0, false, 0⟩

/-- The token on a port. -/
def OpIn.port (x : OpIn) (i : Nat) : Tok := x.ins.getD i .none_

/-- Is a code usable (R218)? -/
def OpIn.usableCode (x : OpIn) (c : Nat) : Bool := decide (c = 0) || (decide (c = 1) && x.questOk)

/-- Is an input usable? -/
def OpIn.usable (x : OpIn) (t : Tok) : Bool := x.usableCode t.code

/-- The highest code and the OR of the TEST marks of some inputs (R219). -/
def tokMark (l : List Tok) : Nat × Bool := l.foldl (fun a t => (max a.1 t.code, a.2 || t.test)) (0, false)

/-- A complex value. -/
abbrev Cx := Nat × Nat

/-- The helpers of R220 in binary32. -/
def cabs (x : Cx) : Nat := fSqrt f32 (fFma f32 x.1 x.1 (fMul f32 x.2 x.2))
def cmul (x y : Cx) : Cx :=
  (fFma f32 x.1 y.1 (fNegate f32 (fMul f32 x.2 y.2)), fFma f32 x.1 y.2 (fMul f32 x.2 y.1))
def conj (x : Cx) : Cx := (x.1, fNegate f32 x.2)
def cdiv (v z : Cx) : Cx :=
  let den := fFma f32 z.1 z.1 (fMul f32 z.2 z.2)
  (fDiv f32 (fFma f32 v.1 z.1 (fMul f32 v.2 z.2)) den, fDiv f32 (fFma f32 v.2 z.1 (fNegate f32 (fMul f32 v.1 z.2))) den)

/-- The constants of R220, and others the pseudocode names, as bit patterns. -/
def cAIm : Nat := 0x3F5DB3D7
def cThird : Nat := 0x3EAAAAAB
def cHalf : Nat := 0x3F000000
def cMinusHalf : Nat := 0xBF000000
def d0 : Nat := 0
def d1 : Nat := 0x3FF0000000000000
def d33 : Nat := fOfInt f64 33
def d8 : Nat := fOfInt f64 8
def dQuarter : Nat := 0x3FD0000000000000
def dFifth : Nat := fDiv f64 d1 (fOfInt f64 5)
def dThird : Nat := fDiv f64 d1 (fOfInt f64 3)

/-- The greater of two values; the first when they do not compare. -/
def fMax (f : Fmt) (a b : Nat) : Nat := if fGt f b a then b else a

/-- The lesser of two values; the first when they do not compare. -/
def fMin (f : Fmt) (a b : Nat) : Nat := if fLt f b a then b else a

/-- The pickup and dropout discipline (R222): the new PCNT, DCNT and OP. -/
def pdc (cmax puCnt doCnt : Nat) (pick blocked : Bool) (pcnt dcnt : Nat) (op : Bool) : Nat × Nat × Bool :=
  if blocked then (0, 0, false)
  else if pick then
    let p := min (pcnt + 1) cmax
    (p, 0, op || decide (puCnt ≤ p))
  else if op then
    let d := dcnt + 1
    if doCnt ≤ d then (0, 0, false) else (0, d, true)
  else (0, dcnt, false)

/-- W3 of an element under pdc: PICKUP, OPERATE and BLOCKED (Table 9.2). -/
def w3Of (pick op blocked : Bool) : Nat := b2n (pick && !blocked) + 2 * b2n op + 4 * b2n blocked

/-! State words of Table 9.4. -/

def stPos : EFld := ⟨0x0C, 9, 0⟩
def stFill : EFld := ⟨0x0C, 19, 10⟩
def stHcnt : EFld := ⟨0x10, 15, 0⟩
def stVal (k : Nat) : EFld := ⟨0x20 + 8 * k, 31, 0⟩
def stQ (k : Nat) : EFld := ⟨0x24 + 8 * k, 2, 0⟩
def stDiffP : EFld := ⟨0x0C, 7, 0⟩
def stDiffD : EFld := ⟨0x0C, 15, 8⟩
def stDiffOp : EFld := ⟨0x0C, 16, 16⟩
def stZacc : EFld := ⟨0x0C, 3, 0⟩
def stZcnt (z : Nat) : EFld := ⟨0x10 + 2 * z, 15, 0⟩
def stAge : EFld := ⟨0x0C, 15, 0⟩
def stMemOk : EFld := ⟨0x0C, 16, 16⟩
def stMemRe : EFld := ⟨0x10, 31, 0⟩
def stMemIm : EFld := ⟨0x14, 31, 0⟩
def stIdmtOp : EFld := ⟨0x0C, 0, 0⟩
def stAcc : EFld := ⟨0x10, 63, 0⟩
def stPick : EFld := ⟨0x0C, 0, 0⟩
def stOp : EFld := ⟨0x0C, 1, 1⟩
def stPcnt : EFld := ⟨0x10, 15, 0⟩
def stDcnt : EFld := ⟨0x10, 31, 16⟩
def stFPos : EFld := ⟨0x0C, 5, 0⟩
def stFFill : EFld := ⟨0x0C, 12, 6⟩
def stPrevOk : EFld := ⟨0x0C, 13, 13⟩
def stQcnt : EFld := ⟨0x0C, 20, 14⟩
def stTcnt : EFld := ⟨0x0C, 27, 21⟩
def stFOp : EFld := ⟨0x0C, 28, 28⟩
def stPrevRe : EFld := ⟨0x14, 31, 0⟩
def stPrevIm : EFld := ⟨0x18, 31, 0⟩
def stEst (k : Nat) : EFld := ⟨0x20 + 8 * k, 63, 0⟩

/-! The ring of PHASOR and HARM. -/

/-- The ring after a sample: the entries oldest first as value and quality, the writes, and whether it is full. -/
structure Ring where
  vals : List Nat
  code : Nat
  test : Bool
  full : Bool
  st : List (EFld × Nat)

/-- The ring update of R224. -/
def ringPut (x : OpIn) (n : Nat) : Ring :=
  let t := x.port 0
  let pos := x.st stPos
  let fill := min (x.st stFill + 1) n
  let q := t.code + 4 * b2n t.test
  let pos' := (pos + 1) % n
  let ents := (List.range n).map (fun k =>
    let e := (pos' + k) % n
    if e = pos then (t.w 0, q) else (x.st (stVal e), x.st (stQ e)))
  let code := ents.foldl (fun a e => max a (e.2 % 4)) 0
  ⟨ents.map (fun e => e.1), code, ents.any (fun e => decide (4 ≤ e.2)), decide (fill = n),
    [(stVal pos, t.w 0), (stQ pos, q), (stPos, pos'), (stFill, fill)]⟩

/-- The phasor of a window with a coefficient table at an extended offset, summed oldest first in binary64 (R224). -/
def phasorOf (x : OpIn) (tbl : Nat) (vals : List Nat) : Cx :=
  let r := ((List.range vals.length).zip vals).foldl (fun (a : Cx) kv =>
    let c := fConv f32 f64 (x.ext (tbl + 8 * kv.1) 4)
    let sn := fConv f32 f64 (x.ext (tbl + 8 * kv.1 + 4) 4)
    let v := fConv f32 f64 kv.2
    (fAdd f64 a.1 (fMul f64 c v), fAdd f64 a.2 (fMul f64 sn v))) (d0, d0)
  (fConv f64 f32 r.1, fConv f64 f32 r.2)

/-! The operators. -/

/-- PHASOR (R224). -/
def opPhasorF (x : OpIn) : OpOut :=
  let n := x.p ⟨0x10, 9, 0⟩
  let r := ringPut x n
  let z := phasorOf x 0 r.vals
  ⟨z.1, z.2, cabs z, 0, if r.full then r.code else 3, r.test, r.st⟩

/-- SEQ (R225). -/
def opSeqF (x : OpIn) : OpOut :=
  let ph := fun (i : Nat) => ((x.port i).w 0, (x.port i).w 1)
  let a : Cx := (cMinusHalf, cAIm)
  let a2 : Cx := (cMinusHalf, fNegate f32 cAIm)
  let sel := x.p ⟨0x10, 1, 0⟩
  let t := if sel = 1 then cmul a (ph 1) else if sel = 2 then cmul a2 (ph 1) else ph 1
  let u := if sel = 1 then cmul a2 (ph 2) else if sel = 2 then cmul a (ph 2) else ph 2
  let s : Cx := (fAdd f32 (ph 0).1 t.1, fAdd f32 (ph 0).2 t.2)
  let s : Cx := (fAdd f32 s.1 u.1, fAdd f32 s.2 u.2)
  let w : Cx := (fMul f32 s.1 cThird, fMul f32 s.2 cThird)
  let mk := tokMark (x.ins.take 3)
  ⟨w.1, w.2, cabs w, 0, mk.1, mk.2, []⟩

/-- DIFF (R226). -/
def opDiffF (x : OpIn) : OpOut :=
  let n := x.p E.T9_5_N_END
  let cur := (List.range n).map x.port
  let acc := cur.foldl (fun (a : Nat × Nat × Nat) t =>
    (fAdd f32 a.1 (t.w 0), fAdd f32 a.2.1 (t.w 1), fAdd f32 a.2.2 (cabs (t.w 0, t.w 1)))) (0, 0, 0)
  let iop := cabs (acc.1, acc.2.1)
  let ires := fMul f32 acc.2.2 cHalf
  let is2 := x.p E.T9_5_IS2
  let k1 := x.p E.T9_5_K1
  let slope := if fLe f32 ires is2 then fMul f32 k1 ires
    else fFma f32 (x.p E.T9_5_K2) (fSub f32 ires is2) (fMul f32 k1 is2)
  let thr := fMax f32 (x.p E.T9_5_IS1) slope
  let blkEn := decide (x.p E.T9_5_BLK_EN = 1)
  let blk := x.port n
  let blocked := cur.any (fun t => !x.usable t) || (blkEn && bitAt (blk.w 3) 16)
  let pick := fGt f32 iop thr
  let was := decide (x.st stDiffOp = 1)
  let r := pdc 255 (x.p E.T9_5_PU_CNT) (x.p E.T9_5_DO_CNT) pick blocked (x.st stDiffP) (x.st stDiffD) was
  let mk := tokMark cur
  ⟨iop, ires, thr, w3Of pick r.2.2 blocked, mk.1, mk.2 || (blkEn && blk.test),
    [(stDiffP, r.1), (stDiffD, r.2.1), (stDiffOp, b2n r.2.2)]⟩

/-- DIST (R227). -/
def opDistF (x : OpIn) : OpOut :=
  let resEn := decide (x.p E.T9_6_RES_EN = 1)
  let v := x.port 0
  let i := x.port 1
  let rd := if resEn then [v, i, x.port 2] else [v, i]
  let iw : Cx := (i.w 0, i.w 1)
  let il : Cx :=
    if resEn then
      let k := cmul (x.p E.T9_6_K0_RE_K0_IM, x.p (E.T9_6_K0_RE_K0_IM.at_ 4)) ((x.port 2).w 0, (x.port 2).w 1)
      (fAdd f32 iw.1 k.1, fAdd f32 iw.2 k.2)
    else iw
  let mag := cabs il
  let blocked := rd.any (fun t => !x.usable t)
  let done := !blocked && fGe f32 mag (x.p E.T9_6_I_MIN)
  let z : Cx := if done then cdiv (v.w 0, v.w 1) il else (0, 0)
  let inZone := fun (zn : Nat) =>
    let zz : Cx := if bitAt (x.p E.T9_6_ZREV) zn then (fNegate f32 z.1, fNegate f32 z.2) else z
    let rr := fFma f32 (fNegate f32 zz.2) (x.p E.T9_6_COT) zz.1
    done && bitAt (x.p E.T9_6_ZEN) zn && fGe f32 zz.2 (x.p E.T9_6_X_LOW) && fLe f32 zz.2 (x.p (E.T9_6_X_REACH.at_ (8 * zn))) &&
      fGe f32 rr (x.p E.T9_6_R_LOW) && fLe f32 rr (x.p (E.T9_6_R_REACH.at_ (8 * zn)))
  let zns := List.range 4
  let zpu := (zns.map (fun zn => b2n (inZone zn) * 2 ^ zn)).sum
  let zacc := (zns.map (fun zn => b2n (inZone zn || bitAt (x.st stZacc) zn) * 2 ^ zn)).sum
  let tz := fun (zn : Nat) => x.p (E.T9_6_T.at_ (2 * zn))
  let cnt := fun (zn : Nat) => if bitAt zacc zn then min (x.st (stZcnt zn) + 1) 65535 else 0
  let zop := if x.isLast then (zns.map (fun zn => b2n (decide (tz zn ≤ cnt zn)) * 2 ^ zn)).sum else 0
  let mk := tokMark rd
  ⟨z.1, z.2, mag, b2n (decide (zpu ≠ 0)) + 2 * b2n (decide (zop ≠ 0)) + 4 * b2n blocked + zpu * 2 ^ 8 + zop * 2 ^ 12, mk.1, mk.2,
    if x.isLast then (stZacc, 0) :: zns.map (fun zn => (stZcnt zn, cnt zn)) else [(stZacc, zacc)]⟩

/-- DIR (R228). -/
def opDirF (x : OpIn) : OpOut :=
  let v := x.port 0
  let i := x.port 1
  let byV := x.usable v && fGe f32 (cabs (v.w 0, v.w 1)) (x.p E.T9_7_V_MIN)
  let byMem := !byV && decide (x.st stMemOk = 1) && decide (x.st stAge < x.p E.T9_7_MEM_CNT)
  let pol : Cx := if byV then (v.w 0, v.w 1) else (x.st stMemRe, x.st stMemIm)
  let blocked := !x.usable i
  let go := !blocked && (byV || byMem) && fGe f32 (cabs (i.w 0, i.w 1)) (x.p E.T9_7_I_MIN)
  let p := cmul (i.w 0, i.w 1) (conj pol)
  let tau := fFma f32 p.1 (x.p E.T9_7_MTA_C_MTA_S) (fMul f32 p.2 (x.p (E.T9_7_MTA_C_MTA_S.at_ 4)))
  let lim := fMul f32 (x.p E.T9_7_MARGIN) (cabs p)
  let fwd := go && fGt f32 tau lim
  let rev := go && fLt f32 tau (fNegate f32 lim)
  let st :=
    if byV then [(stMemRe, v.w 0), (stMemIm, v.w 1), (stMemOk, 1), (stAge, 0)]
    else if byMem then [(stAge, x.st stAge + 1)]
    else [(stMemOk, 0)]
  let mk := tokMark (if byV then [i, v] else [i])
  ⟨if go then tau else 0, if go then lim else 0, 0, 4 * b2n blocked + 8 * b2n fwd + 16 * b2n rev + 32 * b2n byMem, mk.1, mk.2, st⟩

/-- IDMT (R229). -/
def opIdmtF (x : OpIn) : OpOut :=
  let t := x.port 0
  let m := fDiv f64 (fConv f32 f64 (t.w 2)) (fConv f32 f64 (x.p E.T9_8_I_PU))
  let acc := x.st stAcc
  let was := decide (x.st stIdmtOp = 1)
  let dt := x.p E.T9_8_DT
  let blocked := !x.usable t
  let r : Bool × Nat × Bool :=
    if blocked then (false, acc, false)
    else if fGt f64 m d1 then
      let u := fMul f64 (fSub f64 (fMin f64 m d33) d1) d8
      let j := min (fFloor f64 u) 255
      let f := fSub f64 u (fOfInt f64 j)
      let rt := fun (k : Nat) => fConv f32 f64 (x.ext (4 * k) 4)
      let rate := fFma f64 f (fSub f64 (rt (j + 1)) (rt j)) (rt j)
      let a := fMin f64 (fFma f64 (fDiv f64 rate (x.p E.T9_8_TMS)) dt acc) d1
      (true, a, was || fGe f64 a d1)
    else if x.p E.T9_8_RST_MODE = 0 then (false, d0, false)
    else (false, fMax f64 (fFma f64 (fNegate f64 (x.p E.T9_8_RST_RATE)) dt acc) d0, false)
  ⟨fConv f64 f32 m, fConv f64 f32 r.2.1, 0, b2n r.1 + 2 * b2n r.2.2 + 4 * b2n blocked, t.code, t.test,
    [(stAcc, r.2.1), (stIdmtOp, b2n r.2.2)]⟩

/-- DEFT (R230). -/
def opDeftF (x : OpIn) : OpOut :=
  let t := x.port 0
  let v := if x.p E.T9_9_SRC = 1 then t.w 2 else t.w 0
  let was := decide (x.st stPick = 1)
  let set := x.p E.T9_9_SET
  let rst := x.p E.T9_9_RESET
  let pick :=
    if x.p E.T9_9_UNDER = 0 then (if fGt f32 v set then true else if fLt f32 v rst then false else was)
    else (if fLt f32 v set then true else if fGt f32 v rst then false else was)
  let blocked := !x.usable t
  let pick := pick && !blocked
  let opWas := decide (x.st stOp = 1)
  let r := pdc 65535 (x.p E.T9_9_PU_CNT) (x.p E.T9_9_DO_CNT) pick blocked (x.st stPcnt) (x.st stDcnt) opWas
  ⟨v, 0, 0, w3Of pick r.2.2 blocked, t.code, t.test, [(stPick, b2n pick), (stOp, b2n r.2.2), (stPcnt, r.1), (stDcnt, r.2.1)]⟩

/-- FREQ (R231). -/
def opFreqF (x : OpIn) : OpOut :=
  let t := x.port 0
  let avg := x.p E.T9_10_AVG
  let okIn := x.usable t && fGe f32 (t.w 2) (x.p E.T9_10_V_MIN)
  let pos := x.st stFPos
  let fill0 := x.st stFFill
  let meas := okIn && decide (x.st stPrevOk = 1)
  let zc := cmul (cmul (t.w 0, t.w 1) (conj (x.st stPrevRe, x.st stPrevIm))) (x.p E.T9_10_ROT_RE, x.p E.T9_10_ROT_IM)
  let xx := fDiv f64 (fConv f32 f64 zc.2) (fConv f32 f64 zc.1)
  let inRange := meas && fGt f32 zc.1 0 && fLe f64 (fAbs f64 xx) dQuarter
  let x2 := fMul f64 xx xx
  let d := fMul f64 xx (fFma f64 x2 (fFma f64 x2 dFifth (fNegate f64 dThird)) d1)
  let e := fFma f64 d (x.p E.T9_10_KF) (fConv f32 f64 (x.p E.T9_10_F_NOM))
  let rng := meas && !inRange
  let pos' := if inRange then (pos + 1) % avg else pos
  let fill := if !okIn || rng then 0 else if inRange then min (fill0 + 1) avg else fill0
  let qcnt := if t.code = 1 then avg + 1 else x.st stQcnt - 1
  let tcnt := if t.test then avg + 1 else x.st stTcnt - 1
  let est := fun (k : Nat) => if inRange && decide (k = pos) then e else x.st (stEst k)
  let full := decide (fill = avg)
  let sum := (List.range avg).foldl (fun a k => fAdd f64 a (est ((pos' + k) % avg))) d0
  let f := if full then fConv f64 f32 (fDiv f64 sum (fOfInt f64 avg)) else 0
  let hi := x.p E.T9_10_F_HI
  let lo := x.p E.T9_10_F_LO
  let pick := full && ((fGt f32 hi 0 && fGt f32 f hi) || (fGt f32 lo 0 && fLt f32 f lo))
  let was := decide (x.st stFOp = 1)
  let r := pdc 65535 (x.p E.T9_10_PU_CNT) (x.p E.T9_10_DO_CNT) pick (!full) (x.st stPcnt) (x.st stDcnt) was
  let code := if !full then 3 else if 0 < qcnt then 1 else 0
  ⟨f, 0, 0, w3Of pick r.2.2 (!full) + 64 * b2n rng, code, decide (0 < tcnt),
    (if inRange then [(stEst pos, e)] else []) ++
      [(stFPos, pos'), (stFFill, fill), (stPrevOk, b2n okIn), (stQcnt, qcnt), (stTcnt, tcnt), (stFOp, b2n r.2.2),
        (stPcnt, r.1), (stDcnt, r.2.1), (stPrevRe, t.w 0), (stPrevIm, t.w 1)]⟩

/-- HARM (R232). -/
def opHarmF (x : OpIn) : OpOut :=
  let n := x.p E.T9_11_N
  let nh := x.p E.T9_11_NH
  let r := ringPut x n
  let hm := (List.range nh).map (fun e => cabs (phasorOf x (8 * nh + 8 * n * e) r.vals))
  let h0 := hm.headD 0
  let rest := (List.range nh).tail
  let unus := !r.full || !x.usableCode r.code
  let hold := x.p E.T9_11_HOLD
  let c : Bool × Nat :=
    if unus then (true, 0)
    else if fLt f32 h0 (x.p E.T9_11_I_MIN) then (false, 0)
    else if x.p E.T9_11_MODE = 0 then
      rest.foldl (fun (a : Bool × Nat) e =>
        let h := hm.getD e 0
        let re := x.ext (8 * e + 4) 4
        (a.1 || (fGt f32 re 0 && fGt f32 h (fMul f32 re h0)), fMax f32 a.2 (fDiv f32 h h0))) (false, 0)
    else
      let t := rest.foldl (fun a e => fFma f32 (hm.getD e 0) (hm.getD e 0) a) 0
      (fGt f32 (fSqrt f32 t) (fMul f32 (x.p E.T9_11_R_TOT) h0), fDiv f32 (fSqrt f32 t) h0)
  let hcnt := x.st stHcnt
  let blk := c.1 || decide (0 < hcnt)
  let hcnt' := if c.1 then hold else hcnt - 1
  ⟨h0, c.2, 0, 4 * b2n unus + b2n blk * 2 ^ 16, if r.full then r.code else 3, r.test, r.st ++ [(stHcnt, hcnt')]⟩

/-- INST (R233). -/
def opInstF (x : OpIn) : OpOut :=
  let t := x.port 0
  let a := t.w 0
  let mag := t.w 1
  let pcnt := if x.dist = 1 then x.st stPcnt else 0
  let iset := x.p E.T9_12_I_SET
  let pk := x.p E.T9_12_PK_SET
  let hit := fGt f32 mag iset || (fGt f32 pk 0 && fGt f32 (fAbs f32 a) pk)
  let pick := hit || (decide (x.st stPick = 1) && fGt f32 mag (fMul f32 iset (x.p E.T9_12_DO_RATIO)))
  let blocked := !x.usable t
  let pick := pick && !blocked
  let was := decide (x.st stOp = 1)
  let r := pdc 65535 (x.p E.T9_12_PU_CNT) (x.p E.T9_12_DO_CNT) pick blocked pcnt (x.st stDcnt) was
  ⟨mag, a, 0, w3Of pick r.2.2 blocked, t.code, t.test, [(stPick, b2n pick), (stOp, b2n r.2.2), (stPcnt, r.1), (stDcnt, r.2.1)]⟩

/-! Firing and commit. -/

/-- The address of a state record, by its index (R215). -/
def State.opStateAt (s : State) (l : Lane) (idx : Nat) : Nat := s.pairReg (.ops l) .OPS_STATE_BASE_LO .OPS_STATE_BASE_HI + 64 * idx

/-- Count in OPS_CNTk. -/
def State.opsCnt (s : State) (l : Lane) (k : Nat) : State := s.bump (.ops l) F.OPS_CNT_COUNT k

/-- Set a state record to rest (R215). -/
def State.opRest (s : State) (l : Lane) (idx len : Nat) : State := s.memW l (s.opStateAt l idx) (List.replicate (64 * len) 0)

/-- The input tokens of a firing by port: the first token of each (R191). -/
def State.opInputs (s : State) (l : Lane) (i : Item) : List Tok :=
  let x := s.node l i.bank i.node
  (List.range (s.nd l i.bank i.node E.T8_3_N_IN_M1 + 1)).map (fun p => (x.port p).headD .none_)

/-- The key of a firing as Table 8.1 lays it out. -/
def State.keyOf (s : State) (l : Lane) (sw : Bool) (key src : Nat) : Nat :=
  if sw then key % 2 ^ 16 + (src % 8192 % 4096) * 2 ^ 16 + (src / 8192) * 2 ^ 28 else toT96 (s.gT l key)

/-- How many engines are out of dispatch for a fault. -/
def State.enginesOut (s : State) (l : Lane) : Nat :=
  ((List.range 48).filter (fun e =>
    if e < 32 then bitAt (s.rd (.ops l) .OPS_ENG_OUT_LO 0).toNat e else bitAt (s.rd (.ops l) .OPS_ENG_OUT_HI 0).toNat (e - 32))).length

/-- An engine's error before the commit: the firing goes back to Quill and the engine out of dispatch (R212). -/
def State.engError (s : State) (l : Lane) (e : Nat) (r : EngRun) : State :=
  let s := s.engBusy l e r
  let q := (s.lane l).quill
  let s := s.setQuill l { q with items := r.item :: q.items, eng := assocDel q.eng e }
  let s := s.setNode l r.item.bank r.item.node { s.node l r.item.bank r.item.node with firing := 1 }
  let s := s.opsCnt l 5
  let s :=
    if e < 32 then s.wr (.ops l) .OPS_ENG_OUT_LO 0 (BitVec.ofNat 32 (bitsPut (s.rd (.ops l) .OPS_ENG_OUT_LO 0).toNat e e 1))
    else s.wr (.ops l) .OPS_ENG_OUT_HI 0 (BitVec.ofNat 32 (bitsPut (s.rd (.ops l) .OPS_ENG_OUT_HI 0).toNat (e - 32) (e - 32) 1))
  let s := s.countUnc (.lane l)
  let s := s.event (.lane l) (evCode bkBLT 2 6) (l.idx * 64 + e) (s.enginesOut l)
  (s.joinActive l).quillShow l

/-- The commit of a firing: state record, signal point and output token together, and Quill's completion (R211, R221). -/
def State.opCommit (s : State) (l : Lane) (e : Nat) (r : EngRun) (a : Nat) (ins : List Tok) (o : OpOut) : State :=
  let i := r.item
  let nan := fIsNan f32 o.w0 || fIsNan f32 o.w1 || fIsNan f32 o.w2
  let code := if nan then max o.code 2 else o.code
  let src := (ins.headD .none_).src
  let len := s.recF l a E.T9_1_STATE_LEN
  let base := s.opStateAt l (s.recF l a E.T9_1_STATE_IDX)
  let key := s.keyOf l i.sw i.key src
  let s := if len = 0 then s
    else o.st.foldl (fun s fv => s.setRecF l base fv.1 fv.2) (s.setRecF l base ⟨0, 95, 0⟩ key)
  let s := s.opsCnt l 0
  let s := if bitAt o.w3 2 then s.opsCnt l 1 else s
  let s := if nan then s.opsCnt l 2 else s
  let inst := s.nd l i.bank i.node E.T8_3_OP
  let s := if bitAt o.w3 1 && !(s.lane l).quill.operated.contains inst then s.opsCnt l 3 else s
  let q := (s.lane l).quill
  let s := s.setQuill l { q with operated := q.operated.filter (fun n => decide (n ≠ inst)) ++ (if bitAt o.w3 1 then [inst] else []) }
  let payload := o.w0 + 2 ^ 32 * o.w1 + 2 ^ 64 * o.w2 + 2 ^ 96 * o.w3
  let s :=
    if s.recF l a E.T9_1_MAP_EN = 1 then
      let w : MapW := ⟨if i.sw then none else some (s.gT l i.key), if i.sw then some (src % 8192, i.key) else none,
        s.recF l a E.T9_1_MAP_PT, mkRec payload key code o.test i.sw 1 false 0, s.grpF l (s.itemGrp l i) E.T8_6_OWNER⟩
      s.mapPost l 1 w
    else s
  s.complete l e r ⟨i.key, i.sw, src, 0, 0, code, o.test, payload, ins.any (fun t => t.fresh), i.opb⟩

/-- The firing on engine e reaches its commit, if its instance runs this operator: computed, and committed unless an engine
error (an uncorrectable one, R212) or a full pending queue stands in the way (R210 to R212, R243); a single-bit error met is
corrected and counted (R434). -/
def State.opFire (s : State) (l : Lane) (e : Nat) (ecc : Ecc) (opcode : Nat) (f : OpIn → OpOut) : State :=
  match assocGet (s.lane l).quill.eng e with
  | none => s
  | some r =>
    let i := r.item
    let inst := s.nd l i.bank i.node E.T8_3_OP
    let ob := s.itemOpBank l i
    let a := s.opDesc l ob inst
    if !s.laneUp l || decide (s.recF l a E.T9_1_OPCODE ≠ opcode) then s
    else
      let s := (s.eccCorr (.lane l) (decide (ecc = .corrected))).reachReal (r.start + s.itemCost l i * ns * 2 / 3)
      if ecc = .uncorrectable then s.engError l e r
      else if s.recF l a E.T9_1_MAP_EN = 1 ∧ !s.mapRoom l 1 then s.mapWait l (.engine e)
      else
        let idx := s.recF l a E.T9_1_STATE_IDX
        let len := s.recF l a E.T9_1_STATE_LEN
        let q := (s.lane l).quill
        let s :=
          let due := q.opsReset.filter (fun n => decide (s.recF l (s.opDesc l ob n) E.T9_1_STATE_IDX = idx))
          if ob = s.opBank l ∧ 0 < len ∧ due ≠ [] then
            ((s.setQuill l { q with
              opsReset := q.opsReset.filter (fun n => !due.contains n)
              operated := q.operated.filter (fun n => !due.contains n) }).opRest l idx len).opsCnt l 4
          else s
        let base := s.opStateAt l idx
        let ins := s.opInputs l i
        let ext := s.pairReg (.ops l) .OPS_AREA_BASE_LO .OPS_AREA_BASE_HI + ob * 0x4000000 + 0x2000000 + s.recF l a E.T9_1_XPARAM
        let last := s.recF l base ⟨0, 15, 0⟩
        let x : OpIn := {
          p := fun fl => s.recF l a fl
          st := fun fl => if len = 0 then 0 else s.recF l base fl
          ext := fun o n => s.memN l (ext + o) n
          questOk := decide (s.recF l a E.T9_1_QUEST_OK = 1)
          isLast := decide (s.recF l a E.T9_1_LAST = 1)
          ins := ins
          dist := if i.sw then fwdDist (s.cntMod l ((ins.headD .none_).stream)) last i.key else 1 }
        (s.mapGo l (.engine e)).opCommit l e r a ins (f x)

/-- PHASOR (R224). -/
def execOpPhasor (l : Lane) (e : Fin 48) (ecc : Ecc) (s : State) : Host.Outcome State Fault Refusal := ok (s.opFire l e ecc 0x01 opPhasorF)

/-- SEQ (R225). -/
def execOpSeq (l : Lane) (e : Fin 48) (ecc : Ecc) (s : State) : Host.Outcome State Fault Refusal := ok (s.opFire l e ecc 0x02 opSeqF)

/-- DIFF (R226). -/
def execOpDiff (l : Lane) (e : Fin 48) (ecc : Ecc) (s : State) : Host.Outcome State Fault Refusal := ok (s.opFire l e ecc 0x03 opDiffF)

/-- DIST (R227). -/
def execOpDist (l : Lane) (e : Fin 48) (ecc : Ecc) (s : State) : Host.Outcome State Fault Refusal := ok (s.opFire l e ecc 0x04 opDistF)

/-- DIR (R228). -/
def execOpDir (l : Lane) (e : Fin 48) (ecc : Ecc) (s : State) : Host.Outcome State Fault Refusal := ok (s.opFire l e ecc 0x05 opDirF)

/-- IDMT (R229). -/
def execOpIdmt (l : Lane) (e : Fin 48) (ecc : Ecc) (s : State) : Host.Outcome State Fault Refusal := ok (s.opFire l e ecc 0x06 opIdmtF)

/-- DEFT (R230). -/
def execOpDeft (l : Lane) (e : Fin 48) (ecc : Ecc) (s : State) : Host.Outcome State Fault Refusal := ok (s.opFire l e ecc 0x07 opDeftF)

/-- FREQ (R231). -/
def execOpFreq (l : Lane) (e : Fin 48) (ecc : Ecc) (s : State) : Host.Outcome State Fault Refusal := ok (s.opFire l e ecc 0x08 opFreqF)

/-- HARM (R232). -/
def execOpHarm (l : Lane) (e : Fin 48) (ecc : Ecc) (s : State) : Host.Outcome State Fault Refusal := ok (s.opFire l e ecc 0x09 opHarmF)

/-- INST (R233). -/
def execOpInst (l : Lane) (e : Fin 48) (ecc : Ecc) (s : State) : Host.Outcome State Fault Refusal := ok (s.opFire l e ecc 0x0A opInstF)

/-- The operator of an opcode, for a firing that waited for the map (R243). -/
def opByCode (c : Nat) : Option (OpIn → OpOut) :=
  match c with
  | 1 => some opPhasorF | 2 => some opSeqF | 3 => some opDiffF | 4 => some opDistF | 5 => some opDirF
  | 6 => some opIdmtF | 7 => some opDeftF | 8 => some opFreqF | 9 => some opHarmF | 10 => some opInstF
  | _ => none

/-- A firing held at a full pending queue goes on to its commit. -/
def State.opResume (s : State) (l : Lane) (e : Nat) : State :=
  match assocGet (s.lane l).quill.eng e with
  | none => s
  | some r =>
    let c := s.recF l (s.opDesc l (s.itemOpBank l r.item) (s.nd l r.item.bank r.item.node E.T8_3_OP)) E.T9_1_OPCODE
    match opByCode c with
    | some f => s.opFire l e .clean c f
    | none => s

/-- OPS_CNT_CLR: every OPS_CNT is cleared. -/
def execOpsCntClr (l : Lane) (s : State) : Host.Outcome State Fault Refusal :=
  if !s.laneUp l then ok s else ok (s.clrRow (.ops l) .OPS_CNT 6)

end Sys2Proof.Machine
end

