-- ==== Sys2Proof/Machine/Recorder.lean ====
section
/-!
DEFINITION. The disturbance recorder ("Disturbance recorder"): rows (R323, R324), trigger edges and conditions (R325 to
R327), capture and buffers (R328 to R330), measurements and stop (R331, R332), cross-trigger lines (R334).
-/

namespace Sys2Proof.Machine
open Sys2Proof

/-- The recorder of a lane. -/
def State.drc (s : State) (l : Lane) : DrcSt := (s.lane l).drc

/-- Store it. -/
def State.setDrc (s : State) (l : Lane) (x : DrcSt) : State := s.setLane l { s.lane l with drc := x }

/-- Its state (Table 14.7). -/
def State.drcState (s : State) (l : Lane) : Nat := s.fld (.drc l) F.DRC_STATUS_STATE

/-- Store its state. -/
def State.setDrcState (s : State) (l : Lane) (v : Nat) : State := s.setFld (.drc l) F.DRC_STATUS_STATE v

/-- Count in DRC_CNTk. -/
def State.drcCnt (s : State) (l : Lane) (k : Nat) (n : Nat := 1) : State := s.bump (.drc l) F.DRC_CNT_COUNT k n

/-- The table the recorder uses: a record that a commit found in progress keeps the old one, in the shadow window (R335). -/
def State.drcWin (s : State) (l : Lane) (act sh : Win) (off : Nat) : Nat :=
  winAddr (.drc l) (if s.bit (.drc l) F.DRC_STATUS_OLD_BUSY then sh else act) off

/-- A field of the record setup (Table 14.1). -/
def State.drcSet (s : State) (l : Lane) (f : EFld) : Nat := s.ent (s.drcWin l .drcSetAct .drcSetSh 0) f

/-- A field of analogue channel a (Table 14.2). -/
def State.drcAna (s : State) (l : Lane) (a : Nat) (f : EFld) : Nat := s.ent (s.drcWin l .drcAnaAct .drcAnaSh (16 * a)) f

/-- A field of binary channel b (Table 14.3). -/
def State.drcBin (s : State) (l : Lane) (b : Nat) (f : EFld) : Nat := s.ent (s.drcWin l .drcBinAct .drcBinSh (8 * b)) f

/-- A field of trigger condition c (Table 14.5). -/
def State.drcCond (s : State) (l : Lane) (c : Nat) (f : EFld) : Nat := s.ent (s.drcWin l .drcTrigAct .drcTrigSh (32 * c)) f

/-- Binary words of a row. -/
def State.drcBinWords (s : State) (l : Lane) : Nat := (s.drcSet l E.T14_1_N_BIN + 15) / 16

/-- ROW_BYTES (R324). -/
def State.rowBytes (s : State) (l : Lane) : Nat := 8 + 4 * s.drcSet l E.T14_1_N_ANA + 2 * s.drcBinWords l

/-- ROWS_OFF (R329). -/
def State.rowsOff (s : State) (l : Lane) : Nat := 0x100 + 32 * s.drcSet l E.T14_1_N_ANA

/-! Buffers. -/

/-- The number of buffers, and the bytes of one (R329). -/
def State.drcBufs (s : State) (l : Lane) : Nat := s.fld (.drc l) F.DRC_MEM_CFG_COUNT_M1 + 1
def State.drcBufSize (s : State) (l : Lane) : Nat :=
  s.fld (.drc l) F.DRC_MEM_CFG_SIZE_MIB * 0x100000 / s.drcBufs l / 4096 * 4096

/-- The address of buffer i. -/
def State.drcBuf (s : State) (l : Lane) (i : Nat) : Nat :=
  s.pairReg (.drc l) .DRC_MEM_BASE_LO .DRC_MEM_BASE_HI + i * s.drcBufSize l

/-- State and SEQ of buffer i. -/
def DrcSt.buf (x : DrcSt) (i : Nat) : Nat × Nat := assocGetD x.bufs i (0, 0)

/-- The recorder writes bytes of its capture memory on behalf of its owner (R341). -/
def State.drcW (s : State) (l : Lane) (a : Nat) (b : List Byte) : State := s.memWOwn l (s.ownerDrc l) 2 a b

/-- Give buffer i a state and SEQ, its header's STATE with them. -/
def State.setBuf (s : State) (l : Lane) (i st seq : Nat) : State :=
  let x := s.drc l
  (s.setDrc l { x with bufs := assocPut x.bufs i (st, seq) }).drcW l (s.drcBuf l i + 4) (natLe 4 st)

/-- The buffer the recorder chooses on arming, and whether it overwrites a record (R329). -/
def State.drcPick (s : State) (l : Lane) : Option (Nat × Bool) :=
  let x := s.drc l
  let is := List.range (s.drcBufs l)
  match is.find? (fun i => decide ((x.buf i).1 = 0)) with
  | some i => some (i, false)
  | none =>
    if s.drcSet l E.T14_1_FULL_MODE = 1 then none
    else
      ((is.filter (fun i => decide ((x.buf i).1 = 2))).foldl (fun (a : Option Nat) i =>
        match a with
        | none => some i
        | some b => if (x.buf i).2 < (x.buf b).2 then some i else some b) none).map (fun i => (i, true))

/-- Arm, or wait for a buffer: the new tables take effect at the arming (R329, R335). -/
def State.drcArm (s : State) (l : Lane) : State :=
  match s.drcPick l with
  | none => s.setDrcState l 4
  | some (i, again) =>
    let s := s.setFld (.drc l) F.DRC_STATUS_OLD_BUSY 0
    let s := if again then s.drcCnt l 3 else s
    let s := s.setFld (.drc l) F.DRC_STATUS_BUF i
    let s := s.setBuf l i 1 0
    (s.setDrc l { s.drc l with rows := [], trig := none, pre := 0, short := false, end_ := 0, retrigs := 0, rearm := none }).setDrcState l 1

/-- The recorder enters OFF: a record in progress is left as it stands (R328). -/
def State.drcOff (s : State) (l : Lane) : State :=
  let s := s.setFld (.drc l) F.DRC_STATUS_OLD_BUSY 0
  let s := s.setFld (.drc l) F.DRC_CTRL_EN 0
  (s.setDrc l { s.drc l with rows := [], trig := none, rearm := none }).setDrcState l 0

/-! Rows. -/

/-- A value word of a point's latest notice at or before a time, with its CODE; 0 and MISSING without one (R323). -/
def State.drcPoint (s : State) (l : Lane) (p w t : Nat) : Nat × Nat :=
  match noteAt (assocGetD (s.drc l).notes p []) t with
  | some n => (recW n.2 w, recCode n.2)
  | none => (0, 3)

/-- A bit of a point's word at a time. -/
def State.drcBit (s : State) (l : Lane) (p w b t : Nat) : Bool := bitAt (s.drcPoint l p w t).1 b

/-- The value of analogue channel a in row g, or nothing while its token has not been accepted. -/
def State.anaAt (s : State) (l : Lane) (a g : Nat) : Option (Nat × Nat) :=
  if s.drcAna l a E.T14_2_KIND = 2 then
    let v := s.drcPoint l (s.drcAna l a E.T14_2_SOURCE) (s.drcAna l a E.T14_2_WORD) (s.gT l g)
    some (if s.drcAna l a E.T14_2_INT = 1 then fOfInt f32 (signedOf 32 v.1) else v.1, v.2)
  else
    let d := s.drcAna l a E.T14_2_DELAY_ROWS
    if g < max (s.drc l).start (s.lane l).gridFirst + d then some (0, 3)
    else ((s.drc l).toks.find? (fun t => decide (t.1 = s.drcAna l a E.T14_2_SOURCE ∧ t.2.1 = g - d))).map (fun t => (t.2.2.1, t.2.2.2))

/-- Row g, once every filter token for it has been accepted (R323). -/
def State.drcRow (s : State) (l : Lane) (g : Nat) : Option DrcRow :=
  let ana := (List.range (s.drcSet l E.T14_1_N_ANA)).map (fun a => s.anaAt l a g)
  if ana.all (fun v => v.isSome) then
    let nb := s.drcSet l E.T14_1_N_BIN
    let word := fun (w : Nat) => ((List.range 16).map (fun b =>
      let c := 16 * w + b
      if c < nb then
        b2n (s.drcBit l (s.drcBin l c E.T14_3_POINT) (s.drcBin l c E.T14_3_WORD) (s.drcBin l c E.T14_3_BIT) (s.gT l g)) * 2 ^ b
      else 0)).sum
    some ⟨g, ana.map (fun v => v.getD (0, 3)), (List.range (s.drcBinWords l)).map word⟩
  else none

/-- Write row k of the record whose row 0 has instant `g0` in its final form (R324). -/
def State.rowWrite (s : State) (l : Lane) (k g0 : Nat) (r : DrcRow) : State :=
  let a := s.drcBuf l (s.fld (.drc l) F.DRC_STATUS_BUF) + s.rowsOff l + k * s.rowBytes l
  s.drcW l a (natLe 4 (k + 1) ++ natLe 4 ((s.gT l r.g - s.gT l g0) / us) ++ r.ana.flatMap (fun v => natLe 4 v.1) ++
    r.bin.flatMap (natLe 2))

/-! Trigger conditions. -/

/-- When condition c last fired, and whether it waits to re-arm. -/
def DrcSt.cond (x : DrcSt) (c : Nat) : Option Nat × Bool := assocGetD x.conds c (none, false)

/-- The edges of a pin that belong to instant g (R325). -/
def State.edgesOf (s : State) (l : Lane) (pin g : Nat) : List DrcEdge :=
  (s.drc l).edges.filter (fun e => decide (e.pin = pin ∧ s.gT l (g - 1) < e.stamp ∧ e.stamp ≤ s.gT l g))

/-- Is a point's latest notice at or before a time bad: INVALID, MISSING or LOST, or none at all (Table 14.6, kind 5)? -/
def State.qualBad (s : State) (l : Lane) (p t : Nat) : Bool :=
  match noteAt (assocGetD (s.drc l).notes p []) t with
  | some n => decide (2 ≤ recCode n.2) || decide (recLost n.2 = 1)
  | none => true

/-- The edges that a TRIGIN or XTRIG condition can fire on at g. -/
def State.condEdges (s : State) (l : Lane) (c g : Nat) : List DrcEdge :=
  let f := fun (e : EFld) => s.drcCond l c e
  if f E.T14_5_KIND = 6 then
    (s.edgesOf l (f E.T14_5_PIN) g).filter (fun e => decide (b2n (!e.rise) = f E.T14_5_EDGE))
  else (s.edgesOf l (4 + f E.T14_5_PIN) g).filter (fun e => !e.rise && !e.own)

/-- Would condition c fire at g by Table 14.6, leaving HOLDOFF aside? -/
def State.condRaw (s : State) (l : Lane) (c : Nat) (r : DrcRow) : Bool :=
  let f := fun (e : EFld) => s.drcCond l c e
  let t := s.gT l r.g
  let t0 := s.gT l (r.g - 1)
  let bit := s.drcBit l (f E.T14_5_SOURCE) (f E.T14_5_WORD) (f E.T14_5_BIT)
  let v := (r.ana.getD (f E.T14_5_SOURCE) (f32.nan, 3)).1
  let armed := !((s.drc l).cond c).2
  match f E.T14_5_KIND with
  | 1 => bit t && !bit t0
  | 2 => !bit t && bit t0
  | 3 => armed && fGt f32 v (f E.T14_5_LEVEL)
  | 4 => armed && fLt f32 v (f E.T14_5_LEVEL)
  | 5 => s.qualBad l (f E.T14_5_SOURCE) t && !s.qualBad l (f E.T14_5_SOURCE) t0
  | 6 => !(s.condEdges l c r.g).isEmpty
  | 7 => !(s.condEdges l c r.g).isEmpty
  | _ => false

/-- Does condition c fire at g, HOLDOFF instants having passed since it last did (R326)? -/
def State.condFires (s : State) (l : Lane) (c : Nat) (r : DrcRow) : Bool :=
  let free := match ((s.drc l).cond c).1 with
    | some g0 => decide (g0 + s.drcCond l c E.T14_5_HOLDOFF < r.g)
    | none => true
  free && s.condRaw l c r

/-- A condition after g: a firing is remembered and disarms kinds 3 and 4, which re-arm below or above HYST. -/
def State.condAfter (s : State) (l : Lane) (r : DrcRow) (fired : Bool) (c : Nat) : State :=
  let x := s.drc l
  let k := s.drcCond l c E.T14_5_KIND
  let v := (r.ana.getD (s.drcCond l c E.T14_5_SOURCE) (f32.nan, 3)).1
  let hyst := s.drcCond l c E.T14_5_HYST
  let y := x.cond c
  let back := if k = 3 then fLt f32 v hyst else fGt f32 v hyst
  let y := if fired then (some r.g, decide (k = 3 ∨ k = 4)) else if back then (y.1, false) else y
  s.setDrc l { x with conds := assocPut x.conds c y }

/-! Trigger pins. -/

/-- The carried stamp of an edge now: Plane A's when it is LOCKED, otherwise Plane B's (R325). -/
def State.edgeStamp (s : State) : Option Nat :=
  if s.planeLocked .a then some (quant s.pa.now)
  else if s.planeLocked .b then some (quant s.pb.now)
  else none

/-- How long a recorder that is OFF keeps an edge: longer than HOLD, at most 20 ms, and a grid period. -/
def edgeKeep : Nat := 100 * ms

/-- An edge reaches the lanes that are UP; without a carried stamp it is counted UNTIMED. A recorder that is OFF keeps it for the
first instants it may decide after EN. -/
def State.trigEdge (s : State) (pin : Nat) (rise own : Bool) : State :=
  s.upLanes.foldl (fun s l =>
    match s.edgeStamp with
    | none => s.drcCnt l 6
    | some t =>
      let es := (s.drc l).edges
      let es := if s.drcState l = 0 then es.filter (fun e => decide (s.laneNow l ≤ e.stamp + edgeKeep)) else es
      s.setDrc l { s.drc l with edges := es ++ [⟨pin, rise, t, own⟩] }) s

/-- Since when the module drives an XTRIG line, if any lane does. -/
def State.xtDriven (s : State) (line : Nat) : Option Nat :=
  (s.upLanes.filterMap (fun l => assocGet (s.drc l).xt line)).foldl (fun a e =>
    match a with
    | none => some e.1
    | some b => some (min b e.1)) none

/-- The level of an XTRIG line from outside. -/
def State.xtOutside (s : State) (line : Nat) : Bool := s.pins.trig.getLsbD (4 + line) && !s.com.lowBanks.contains 2

/-- The lane asserts its drive of a line, or holds it on (R334); the line's own edge is marked OWN. -/
def State.xtAssert (s : State) (l : Lane) (line : Nat) : State :=
  let before := s.xtDriven line
  let x := s.drc l
  let since := match assocGet x.xt line with
    | some e => e.1
    | none => s.real
  let until_ := s.laneNow l + s.fld (.drc l) F.DRC_XT_CFG_WIDTH * us
  let s := s.setDrc l { x with xt := assocPut x.xt line (since, until_) }
  if before.isNone && s.xtOutside line then s.trigEdge (4 + line) false true else s

/-- The lane releases its drive of a line. -/
def State.xtRelease (s : State) (l : Lane) (line : Nat) : State :=
  let x := s.drc l
  let s := s.setDrc l { x with xt := assocDel x.xt line }
  if (s.xtDriven line).isNone && s.xtOutside line then s.trigEdge (4 + line) true false else s

/-- The outside level of a trigger pin changes: an edge, unless the module holds the line; an assertion of a line within
100 ns of the module's own is OWN (R325, R334). -/
def State.pinEdge (s : State) (pin : Nat) (rise : Bool) : State :=
  if s.pins.trig.getLsbD pin = rise then s
  else
    let t := s.pins.trig
    let s := { s with pins := { s.pins with trig := if rise then t ||| (1#6 <<< pin) else t &&& ~~~(1#6 <<< pin) } }
    if s.com.lowBanks.contains 2 then s
    else if pin < 4 then s.trigEdge pin rise false
    else
      match s.xtDriven (pin - 4) with
      | none => s.trigEdge pin rise false
      | some t0 => if !rise && decide (s.real ≤ t0 + 100 * ns) then s.trigEdge pin rise true else s

/-! Capture. -/

/-- The time E of the notice, or the stamp of the edge, that fired a condition; the trigger instant otherwise (Table 14.8). -/
def State.trigStamp (s : State) (l : Lane) (c g : Nat) : Nat :=
  let k := s.drcCond l c E.T14_5_KIND
  let t := s.gT l g
  if k = 6 ∨ k = 7 then ((s.condEdges l c g).head?.map (fun e => e.stamp)).getD t
  else if k = 1 ∨ k = 2 ∨ k = 5 then
    ((noteAt (assocGetD (s.drc l).notes (s.drcCond l c E.T14_5_SOURCE) []) t).map (fun n => n.1)).getD t
  else t

/-- The trigger instant (R328): the ring becomes the pre-trigger part, and row g is the first post-trigger row. -/
def State.drcTrigger (s : State) (l : Lane) (r : DrcRow) (fired : List Nat) : State :=
  let x := s.drc l
  let mask := (fired.map (fun c => 2 ^ c)).sum
  let cond := fired.head?.getD 0xFF
  let stamp := match fired.head? with
    | some c => s.trigStamp l c r.g
    | none => s.gT l r.g
  let rows := x.rows ++ [r]
  let g0 := (rows.head?.map (fun q => q.g)).getD r.g
  let s := (rows.foldl (fun (a : State × Nat) q => (a.1.rowWrite l a.2 g0 q, a.2 + 1)) (s, 0)).1
  let post := s.drcSet l E.T14_1_POST
  let x := s.drc l
  let n := x.rows.length
  let s := s.setDrc l { x with lostHdr := x.lost, lost := 0, rows := rows, trig := some ⟨r.g, stamp, mask, cond⟩, pre := n, short := decide (n < s.drcSet l E.T14_1_PRE), end_ := post }
  s.setDrcState l (if post ≤ 1 then 3 else 2)

/-- Row g as a post-trigger row (R328); a record-starting firing counts RETRIGS and, with RETRIG, extends the end. -/
def State.drcCapture (s : State) (l : Lane) (r : DrcRow) (starts : Bool) : State :=
  let x := s.drc l
  let idx := x.rows.length - x.pre
  let g0 := (x.rows.head?.map (fun q => q.g)).getD r.g
  let s := s.rowWrite l x.rows.length g0 r
  let ext := starts && decide (s.drcSet l E.T14_1_RETRIG = 1)
  let end_ := if ext then min (max x.end_ (idx + s.drcSet l E.T14_1_POST)) (s.drcSet l E.T14_1_MAX_POST) else x.end_
  let s := if starts then s.drcCnt l 1 else s
  let x := s.drc l
  let s := s.setDrc l { x with rows := x.rows ++ [r], end_ := end_, retrigs := min (x.retrigs + b2n starts) 0xFFFF }
  if end_ ≤ idx + 1 then s.setDrcState l 3 else s

/-- Has the owner's quiesce instant been reached at instant g (R347)? -/
def State.drcQuiesced (s : State) (l : Lane) (g : Nat) : Bool :=
  match assocGet (s.lane l).insGq (s.ownerDrc l) with
  | some t => decide (t ≤ s.gT l g)
  | none => false

/-- After instant g: edges, notices and spans of slewing that no later row or header reads are dropped. -/
def State.drcPrune (s : State) (l : Lane) (g : Nat) : State :=
  let x := s.drc l
  let t := s.gT l g
  s.setDrc l { x with
    next := g + 1
    edges := x.edges.filter (fun e => decide (t < e.stamp))
    slews := x.slews.filter (fun e => decide (min t ((x.rows.head?.map (fun r => s.gT l r.g)).getD t) ≤ e.2))
    notes := x.notes.map (fun n => (n.1, notePrune t n.2)) }

/-- Decide instant g with its row (R327, R328). -/
def State.drcDecide (s : State) (l : Lane) (r : DrcRow) : State :=
  let conds := (List.range 64).filter (fun c => decide (s.drcCond l c E.T14_5_KIND ≠ 0))
  let fired := conds.filter (fun c => s.condFires l c r)
  let man := match (s.drc l).man with
    | some t => decide (t ≤ s.gT l r.g)
    | none => false
  let starts := man || fired.any (fun c => decide (s.drcCond l c E.T14_5_NO_REC = 0))
  let st := s.drcState l
  let s0 := s
  let s :=
    match st with
    | 1 =>
      if starts then s.drcTrigger l r fired
      else
        let x := s.drc l
        let rows := x.rows ++ [r]
        s.setDrc l { x with rows := rows.drop (rows.length - s.drcSet l E.T14_1_PRE) }
    | 2 => s.drcCapture l r starts
    | _ =>
      let s := s.drcCnt l 4
      if starts then (s.setDrc l { s.drc l with lost := min ((s.drc l).lost + 1) (2 ^ 32 - 1) }).drcCnt l 2 else s
  let s := if man then s.setDrc l { s.drc l with man := none } else s
  let s := conds.foldl (fun s c => s.condAfter l r (fired.contains c) c) s
  let lines := (fired.filter (fun c => decide (s0.drcCond l c E.T14_5_XT_OUT = 1))).map (fun c => s0.drcCond l c E.T14_5_XT_LINE)
  let s := (lines.dedup.filter (fun i => bitAt (s.fld (.drc l) F.DRC_XT_CFG_OUT_EN) i)).foldl (fun s i => s.xtAssert l i) s
  s.drcPrune l r.g

/-- The decision of instant g meets tables that a commit brought (R335): at the first instant after the switch an ARMED recorder
re-arms the same buffer with them, its ring restarting and the lost rows counting as dead; one that waits or has stopped takes
them. -/
def State.drcRearm (s : State) (l : Lane) (g : Nat) : State :=
  match (s.drc l).rearm with
  | none => s
  | some gc =>
    let st := s.drcState l
    if g < gc ∨ st = 2 ∨ st = 3 then s
    else
      let x := s.drc l
      let s := if st = 1 then s.drcCnt l 4 x.rows.length else s
      (s.setDrc l { x with rows := (if st = 1 then [] else x.rows), rearm := none }).setFld (.drc l) F.DRC_STATUS_OLD_BUSY 0

/-- ROW_DECISION (R327): the followed clock reaches g + HOLD of the next undecided instant; the row is decided once its filter
tokens have been accepted. From the owner's quiesce instant no row is written: a record closes, and the recorder goes OFF
(R347). -/
def execRowDecision (l : Lane) (s : State) : Host.Outcome State Fault Refusal :=
  if !s.laneUp l || !s.gridRun l || decide (s.drcState l = 0) then ok s
  else
    let g := max (s.drc l).next (s.lane l).gridFirst
    let s' := s.reachLane l (s.gT l g + s.hold l)
    if s'.drcQuiesced l g then
      if s'.drcState l = 2 then ok (s'.setDrcState l 3)
      else if s'.drcState l = 3 then ok s'
      else ok (s'.drcOff l)
    else
      let s' := s'.drcRearm l g
      match s'.drcRow l g with
      | none => ok s
      | some r => ok (s'.drcDecide l r)

/-- XTRIG_DRIVE_RELEASE (R334): WIDTH µs after the last firing the lane releases its drive of a line. -/
def execXtrigDriveRelease (l : Lane) (line : Fin 2) (s : State) : Host.Outcome State Fault Refusal :=
  match assocGet (s.drc l).xt line.val with
  | none => ok s
  | some e =>
    if !s.laneUp l then ok s
    else ok ((s.reachLane l e.2).xtRelease l line.val)

/-- TRIGGER_PIN_EDGE (R325): the outside level of a trigger pin (0 to 3 TRIGIN, 4 and 5 XTRIG) rises or falls. -/
def execTriggerPinEdge (pin : Fin 6) (rise : Bool) (s : State) : Host.Outcome State Fault Refusal := ok (s.pinEdge pin.val rise)

/-! Closing. -/

/-- Running values of a channel over the rows used (R331): MIN, MAX, s, q, N, bad rows and the first of them. -/
structure Meas where
  lo : Nat
  hi : Nat
  s : Nat
  q : Nat
  n : Nat
  bad : Nat
  first : Nat
  deriving DecidableEq, Repr

/-- Visit row k. -/
def Meas.row (m : Meas) (k : Nat) (v : Nat × Nat) : Meas :=
  if 2 ≤ v.2 then { m with bad := m.bad + 1, first := if m.bad = 0 then k else m.first }
  else
    let x := fConv f32 f64 v.1
    { m with lo := (if m.n = 0 then v.1 else fMin f32 m.lo v.1), hi := (if m.n = 0 then v.1 else fMax f32 m.hi v.1),
             s := fAdd f64 m.s x, q := fFma f64 x x m.q, n := m.n + 1 }

/-- The values of a channel in the rows of the record, with their indices. -/
def DrcSt.column (x : DrcSt) (a : Nat) : List (Nat × Nat × Nat) :=
  (List.range x.rows.length).zip (x.rows.map (fun r => r.ana.getD a (0, 3)))

/-- The measurements of a channel. -/
def DrcSt.meas (x : DrcSt) (a : Nat) : Meas :=
  (x.column a).foldl (fun m v => m.row v.1 v.2) ⟨f32.nan, f32.nan, 0, 0, 0, 0, 0xFFFFFFFF⟩

/-- Rows per nominal period. -/
def State.drcM (s : State) (l : Lane) : Nat :=
  (fToInt f64 (fDiv f64 (fOfInt f64 (s.gridG l)) (fConv f32 f64 (s.drcSet l E.T14_1_F_NOM)))).toNat

/-- The phase of a channel over whole periods (R331): atan2 of the two sums in binary64. -/
def State.drcPhase (s : State) (l : Lane) (a : Nat) : Nat :=
  let x := s.drc l
  let m := max (s.drcM l) 1
  let used := (x.column a).take (x.rows.length / m * m)
  let ph := s.drcWin l .drcPhAct .drcPhSh 0
  let sums := used.foldl (fun (b : Nat × Nat) v =>
    if 2 ≤ v.2.2 then b
    else
      let y := fConv f32 f64 v.2.1
      let j := v.1 % m
      (fFma f64 y (s.winWords (ph + 16 * j) 2) b.1, fFma f64 (fNegate f64 y) (s.winWords (ph + 16 * j + 8) 2) b.2)) (0, 0)
  fAtan2 f64 sums.2 sums.1

/-- π and 2π in binary64. -/
def dPi : Nat := 0x400921FB54442D18
def dTwoPi : Nat := 0x401921FB54442D18

/-- SKEW of a channel against REF in ns, binary32 (R331). With PHASE_EN = 0 nothing says what it is: a free value that the
recorded values fix (log entry 53). -/
def State.drcSkew (s : State) (l : Lane) (a : Nat) : Nat :=
  let x := s.drc l
  let ref := s.drcSet l E.T14_1_REF
  if (x.meas a).bad ≠ 0 ∨ (x.meas ref).bad ≠ 0 ∨ (x.meas a).n = 0 then f32.nan
  else if s.drcSet l E.T14_1_PHASE_EN = 0 then
    Config.unaskedSkew (a :: (x.rows.map (fun r => r.g) ++ (x.column a).map (fun v => v.2.1))) % 2 ^ 32
  else
    let d := fSub f64 (s.drcPhase l ref) (s.drcPhase l a)
    let d := if fGt f64 d dPi then fSub f64 d dTwoPi else if fLe f64 d (fNegate f64 dPi) then fAdd f64 d dTwoPi else d
    let w := fMul f64 dTwoPi (fConv f32 f64 (s.drcSet l E.T14_1_F_NOM))
    fConv f64 f32 (fMul f64 (fDiv f64 d w) (fOfInt f64 1000000000))

/-- Write the measurement entry of a channel (Table 14.9): the state after it, and whether the channel fails its mask. -/
def State.measWrite (s : State) (l : Lane) (base a : Nat) : State × Bool :=
  let m := (s.drc l).meas a
  let mean := if m.n = 0 then f32.nan else fConv f64 f32 (fDiv f64 m.s (fOfInt f64 m.n))
  let rms := if m.n = 0 then f32.nan else fConv f64 f32 (fSqrt f64 (fDiv f64 m.q (fOfInt f64 m.n)))
  let lp := s.drcAna l a E.T14_2_MASK_PEAK
  let lr := s.drcAna l a E.T14_2_MASK_RMS
  let peak := !fIsZero f32 lp && fGt f32 (fMax f32 (fAbs f32 m.lo) (fAbs f32 m.hi)) lp
  let frms := !fIsZero f32 lr && fGt f32 rms lr
  let oct := natLe 4 m.lo ++ natLe 4 m.hi ++ natLe 4 mean ++ natLe 4 rms ++ natLe 4 (s.drcSkew l a) ++ natLe 4 m.bad ++
    natLe 4 (b2n peak + 2 * b2n frms) ++ natLe 4 m.first
  (s.drcW l (base + 0x100 + 32 * a) oct, peak || frms)

/-- Did the followed clock slew or change plane during the record, from the instant of its first row to that of its last? -/
def State.slewFlag (s : State) (l : Lane) : Bool :=
  let x := s.drc l
  match x.rows.head?, x.rows.getLast? with
  | some r, some q => x.slews.any (fun e => decide (e.1 ≤ s.gT l q.g ∧ s.gT l r.g ≤ e.2))
  | _, _ => false

/-- The header of the record in progress (Table 14.8), with its FLAGS. -/
def State.drcHeader (s : State) (l : Lane) (seq flags : Nat) : List Byte :=
  let x := s.drc l
  let g0 := (x.rows.head?.map (fun r => r.g)).getD 0
  let ge := (x.rows.getLast?.map (fun r => r.g)).getD 0
  let t := x.trig.getD ⟨0, 0, 0, 0⟩
  let dead := match x.lastRow with
    | some p => g0 - p - 1
    | none => 0xFFFFFFFF
  let time := fun (k : Nat) => natLe 12 (toT96 (s.gT l k))
  natLe 4 0x43455244 ++ natLe 4 1 ++ natLe 4 seq ++ time g0 ++ time t.g ++ natLe 12 (toT96 t.stamp) ++ natLe 8 t.mask ++
    natLe 4 (t.cond + flags + x.retrigs * 2 ^ 16) ++ natLe 4 x.rows.length ++ natLe 4 x.pre ++ natLe 4 dead ++
    natLe 4 x.lostHdr ++ natLe 4 (s.drcSet l E.T14_1_N_ANA + s.drcSet l E.T14_1_N_BIN * 2 ^ 16) ++ natLe 4 (s.rowBytes l) ++
    natLe 4 (s.gridG l) ++ natLe 4 0x100 ++ natLe 4 (s.rowsOff l) ++ time ge ++ List.replicate 0x94 0

/-- CLOSING ends (R328 to R332): measurements, header, COMPLETE last; then the recorder stops, arms or waits. -/
def State.drcClose (s : State) (l : Lane) : State :=
  let pg : Page := .drc l
  let i := s.fld pg F.DRC_STATUS_BUF
  let base := s.drcBuf l i
  let meas := decide (s.drcSet l E.T14_1_MEAS_EN = 1)
  let r := if meas then
      (List.range (s.drcSet l E.T14_1_N_ANA)).foldl (fun (b : State × Bool) a =>
        let q := b.1.measWrite l base a
        (q.1, b.2 || q.2)) (s, false)
    else (s, false)
  let s := r.1
  let fail := r.2
  let act := s.drcSet l E.T14_1_MASK_ACT
  let stop := decide (act = 1) && fail || decide (act = 2) && !fail
  let x := s.drc l
  let seq := if x.seq = 0xFFFFFFFF then 1 else x.seq + 1
  let flags := b2n x.short * 2 ^ 8 + b2n (decide (x.end_ = s.drcSet l E.T14_1_MAX_POST)) * 2 ^ 9 + b2n fail * 2 ^ 10 +
    b2n stop * 2 ^ 11 + b2n meas * 2 ^ 12 + b2n (meas && decide (s.drcSet l E.T14_1_PHASE_EN = 1)) * 2 ^ 13 +
    b2n (s.slewFlag l) * 2 ^ 14
  let s := s.drcW l base (s.drcHeader l seq flags)
  let s := s.setDrc l { s.drc l with seq := seq, lostHdr := 0, lastRow := (x.rows.getLast?.map (fun r => r.g)) }
  let s := s.setBuf l i 2 seq
  let s := s.drcCnt l 0
  let s := if fail then s.drcCnt l 5 else s
  let s := s.setFld pg F.DRC_LAST_BUF i
  let s := s.setFld pg F.DRC_LAST_SEQ seq
  let s := if s.bit pg F.DRC_CTRL_IE then s.vector l (s.ownerDrc l) 9 else s
  if s.drcQuiesced l (s.drc l).next then s.drcOff l
  else if stop then (s.setDrc l { s.drc l with rows := [] }).setDrcState l 5
  else s.drcArm l

/-- RECORD_CLOSE (R328): CLOSING ends. -/
def execRecordClose (l : Lane) (s : State) : Host.Outcome State Fault Refusal :=
  if !s.laneUp l || decide (s.drcState l ≠ 3) then ok s else ok (s.drcClose l)

/-! Control. -/

/-- A write of DRC_RELEASE (R329): a COMPLETE buffer becomes EMPTY; a waiting recorder arms. -/
def State.drcRelease (s : State) (l : Lane) (i : Nat) : State :=
  if s.drcBufs l ≤ i ∨ ((s.drc l).buf i).1 ≠ 2 then s
  else
    let s := s.setBuf l i 0 0
    if s.drcState l = 4 then s.drcArm l else s

/-- DRC_RELEASE (R329): buffer BUF is released. -/
def execDrcRelease (l : Lane) (buf : Fin 256) (s : State) : Host.Outcome State Fault Refusal :=
  if !s.laneUp l then ok s else ok (s.drcRelease l buf.val)

/-- DRC_RESUME (R332): STOPPED is left for ARMED, or for WAITING when no buffer is available. -/
def State.drcResume (s : State) (l : Lane) : State := if s.drcState l = 5 then s.drcArm l else s

/-- DRC_RESUME (R332). -/
def execDrcResume (l : Lane) (s : State) : Host.Outcome State Fault Refusal :=
  if !s.laneUp l then ok s else ok (s.drcResume l)

/-- A write of 1 to DRC_MAN_GO (R327): the manual trigger is posted; one at or before the last decided instant is late. -/
def State.drcManGo (s : State) (l : Lane) : State :=
  let pg : Page := .drc l
  let t := secNear (s.laneNow l / sec) (s.rd pg .DRC_MAN_SEC).toNat * sec + bitsOf (s.rd pg .DRC_MAN_US).toNat 19 0 * us
  let x := s.drc l
  let late := decide (s.drcState l ≠ 0) && decide (x.start < x.next) && decide (t ≤ s.gT l (x.next - 1))
  let s := if late then s.drcCnt l 7 else s
  s.setDrc l { s.drc l with man := some t }

/-- MANUAL_TRIGGER_POST (R327): the owner writes DRC_MAN_SEC, DRC_MAN_US and DRC_MAN_GO. -/
def execManualTriggerPost (l : Lane) (secs : Word) (usecs : Fin 1000000) (s : State) : Host.Outcome State Fault Refusal :=
  if !s.laneUp l then ok s
  else
    let s := s.wr (.drc l) .DRC_MAN_SEC 0 secs
    ok ((s.wr (.drc l) .DRC_MAN_US 0 (BitVec.ofNat 32 usecs)).drcManGo l)

/-- The first instant the recorder decides after it is enabled: the first whose decision lies ahead. -/
def State.drcFirst (s : State) (l : Lane) : Nat := gridAt (s.gridG l) (s.laneNow l + 1 - s.hold l)

/-- EN rises (R328): the capture memory must be configured, and lie where the owner may write (R341). -/
def State.drcEnable (s : State) (l : Lane) : State :=
  let pg : Page := .drc l
  let size := s.fld pg F.DRC_MEM_CFG_SIZE_MIB * 0x100000
  let o := s.ownerDrc l
  if s.bit pg F.DRC_CTRL_EN || decide (size = 0) then s
  else if !s.mayReachRange l o true (s.drcBuf l 0) size then s.refused l o
  else
    let s := s.setFld pg F.DRC_CTRL_EN 1
    let x := s.drc l
    let k := s.drcFirst l
    let s := s.setDrc l { x with
      next := k, start := k, lost := 0, lostHdr := 0, seq := 0, lastRow := none, conds := []
      bufs := x.bufs.filter (fun b => decide (b.2.1 = 2)) }
    s.drcArm l

/-- A write of DRC_CTRL.EN. -/
def State.drcEn (s : State) (l : Lane) (en : Bool) : State :=
  if en then s.drcEnable l else if s.drcState l = 0 then s.setFld (.drc l) F.DRC_CTRL_EN 0 else s.drcOff l

/-- RECORDER_ENABLE (R328): DRC_CTRL.EN is written. -/
def execRecorderEnable (l : Lane) (en : Bool) (s : State) : Host.Outcome State Fault Refusal :=
  if !s.laneUp l then ok s else ok (s.drcEn l en)

/-- The tables switch (R335): a recorder that is not OFF keeps the old ones, for the instants before the first one after the switch
or to the end of a record in progress. -/
def State.drcSwitch (s : State) (l : Lane) : State :=
  if s.drcState l = 0 then s
  else (s.setDrc l { s.drc l with rearm := some (gridAt (s.gridG l) (s.laneNow l + 1)) }).setBit (.drc l) F.DRC_STATUS_OLD_BUSY

/-- DRC_CNT_CLR (R337): every DRC_CNT is cleared. -/
def execDrcCntClr (l : Lane) (s : State) : Host.Outcome State Fault Refusal :=
  if !s.laneUp l then ok s else ok (s.clrRow (.drc l) .DRC_CNT 8)

end Sys2Proof.Machine
end

