-- ==== Sys2Proof/Machine/ImageCheck.lean ====
section
/-!
DEFINITION. What the steward checks of a region beside where its records lie (step 8 of Table 2.7): the constraints that the
owning chapters give for each region type, read from the tables as they will stand after the commit.
-/

namespace Sys2Proof.Machine
open Sys2Proof

/-- The tables as they will stand after a commit: the state with the shadow banks written, the lane, and the region types that
the image brings. -/
structure After where
  st : State
  lane : Lane
  types : List Nat

/-- The address of a table after the commit. -/
def After.tab (x : After) (type : Nat) (p : Page) (sh act : Win) : Nat := if x.types.contains type then winAddr p sh 0 else winAddr p act 0

/-- The size of lane memory that ranges must lie in, and whether two ranges (base and size) meet. -/
def rangesMeet (a b : Nat × Nat) : Bool := decide (a.1 < b.1 + b.2 ∧ b.1 < a.1 + a.2)

/-- Does any pair of a list meet? -/
def anyMeet : List (Nat × Nat) → Bool
  | [] => false
  | a :: t => t.any (rangesMeet a) || anyMeet t

/-! PARTITION. -/

/-- The areas no instance window may map: graph area, operator area, state area and map (R340). -/
def After.areas (x : After) : List (Nat × Nat) :=
  let l := x.lane
  [(x.st.stagedPair (.qul l) .QUL_GRAPH_BASE_LO .QUL_GRAPH_BASE_HI, 0x2000000),
    (x.st.stagedPair (.ops l) .OPS_AREA_BASE_LO .OPS_AREA_BASE_HI, 0x8000000),
    (x.st.stagedPair (.ops l) .OPS_STATE_BASE_LO .OPS_STATE_BASE_HI, x.st.stagedReg (.ops l) .OPS_STATE_SIZE * 0x100000),
    (x.st.stagedPair (.map l) .MAP_BASE_LO .MAP_BASE_HI, 0x10000000)]

/-- A valid instance descriptor is within its ranges (R339). -/
def After.insOk (x : After) (a : Nat) : Bool :=
  let f := fun (e : EFld) => x.st.ent a e
  decide (f E.T15_1_MW_COUNT ≤ 16 ∧ f E.T15_1_MW_FIRST + f E.T15_1_MW_COUNT ≤ 1024 ∧
    f E.T15_1_FBO_COUNT ≤ 1024 ∧ f E.T15_1_FBO_FIRST + f E.T15_1_FBO_COUNT ≤ 1024 ∧
    f E.T15_1_PUB_COUNT ≤ 2048 ∧ f E.T15_1_PUB_FIRST + f E.T15_1_PUB_COUNT ≤ 2048 ∧
    10 ≤ f E.T15_1_RESET_US ∧ f E.T15_1_RESET_US ≤ 1000000)

/-- A valid memory window entry is within its ranges (Table 15.2). -/
def After.mwOk (x : After) (a : Nat) : Bool :=
  let f := fun (e : EFld) => x.st.ent a e
  decide (f E.T15_2_BASE % 4096 = 0 ∧ 1 ≤ f E.T15_2_PAGES ∧ f E.T15_2_PAGES ≤ 4194304 ∧ f E.T15_2_OWNER ≤ 64)

/-- The PARTITION region's constraints (R339, R340). -/
def After.partition (x : After) : Nat :=
  let l := x.lane
  let d := winAddr (.ins l) .insDescSh 0
  let m := winAddr (.ins l) .insMwSh 0
  let ds := (x.st.entries d 0x1000 64).map (fun n => d + 64 * n) |>.filter (fun a => decide (x.st.ent a E.T15_1_VALID = 1))
  let ms := (x.st.entries m 0x4000 16).map (fun w => m + 16 * w) |>.filter (fun a => decide (x.st.ent a E.T15_2_VALID = 1))
  let rs := ms.map (fun a => (x.st.ent a E.T15_2_BASE, 4096 * x.st.ent a E.T15_2_PAGES))
  if !ds.all x.insOk || !ms.all x.mwOk || anyMeet rs || x.areas.any (fun a => rs.any (rangesMeet a)) ||
      x.areas.any (fun a => decide (laneMemSize < a.1 + a.2)) then stFORMAT
  else stOK

/-! MAPLAYOUT. -/

/-- The MAPLAYOUT region's constraints (R240). -/
def After.mapLayout (x : After) : Nat :=
  let d := winAddr (.map x.lane) .mapRngSh 0
  let rs := (x.st.entries d 0x10000 16).map (fun n => d + 16 * n) |>.filter (fun a => decide (x.st.ent a E.T10_2_VALID = 1))
  let ps := rs.map (fun a => (x.st.ent a E.T10_2_FIRST, x.st.ent a E.T10_2_COUNT_M1 + 1))
  if anyMeet ps || ps.any (fun p => decide (8388608 < p.1 + p.2)) ||
      rs.any (fun a => decide (x.st.ent a E.T10_2_CLASS < 1 ∨ 5 < x.st.ent a E.T10_2_CLASS ∨ 64 < x.st.ent a E.T10_2_OWNER)) then stFORMAT
  else stOK

/-! SWITCH. -/

/-- The SWITCH region's constraints: at most 64 range entries (R114), reserved cells within the buffer (R121). -/
def switchCheck (s : State) (p : Plane) : Nat :=
  let d := winAddr (.psw p) .pswStrSh 0
  let ig := (s.entries d 0x40000 16).filter (fun n => decide (s.ent (d + 16 * n) E.T5_2_VALID = 1 ∧ s.ent (d + 16 * n) E.T5_2_IGN ≠ 0))
  let mins := ((List.range 15).map (fun i => ((List.range 8).map (fun c => s.stagedReg (.pswPort p i) .PSW_IN_LIM c % 65536)).sum)).sum
  if 64 < ig.length ∨ 65536 < mins then stCAPACITY else stOK

/-! SUBSCRIBE. -/

/-- The valid subscriptions after the commit, as addresses. -/
def After.subs (x : After) : List Nat :=
  let d := x.tab 3 (.ing x.lane) .ingSubSh .ingSubAct
  (x.st.entries d 0x40000 64).map (fun n => d + 64 * n) |>.filter (fun a => decide (x.st.ent a E.T6_2_VALID = 1))

/-- The address of alignment group g's entry after the commit. -/
def After.grp (x : After) (g : Nat) : Nat := x.tab 3 (.ing x.lane) .ingGrpSh .ingGrpAct + 8 * g

/-- The types of the members of a GOOSE subscription, in order. -/
def After.memberTypes (x : After) (a : Nat) : List Nat :=
  (List.range (x.st.ent a E.T10_6_MEMBERS)).map (fun m =>
    x.st.ent (x.tab 3 (.map x.lane) .mapMemSh .mapMemAct + 8 * (x.st.ent a E.T10_6_MEMBER_BASE + m)) E.T10_7_TYPE)

/-- Member types 0 to 7, and each quality member after one that has a point (R248). -/
def membersOk : Bool → List Nat → Bool
  | _, [] => true
  | had, t :: r =>
    if t = 6 then had && membersOk had r
    else decide (t ≤ 7) && membersOk (had || decide (t ≠ 0)) r

/-- The SUBSCRIBE region's constraints (Table 6.2, Table 6.3, R145, R248). -/
def After.subscribe (x : After) : Nat :=
  let d := x.tab 3 (.map x.lane) .mapGooSh .mapGooAct
  let gs := (x.st.entries d 0x100000 64).map (fun n => d + 64 * n) |>.filter (fun a => decide (x.st.ent a E.T10_6_VALID = 1))
  let subBad := fun a =>
    let g := x.st.ent a E.T6_2_GROUP
    decide (4 < x.st.ent a E.T6_2_RATE) || decide (x.st.ent a E.T6_2_AUTH = 3) ||
      (decide (g ≠ 255) && decide (x.st.ent (x.grp g) E.T6_3_VALID = 0))
  let gooBad := fun a =>
    decide (x.st.ent a E.T10_6_AUTH = 3) || decide (65536 < x.st.ent a E.T10_6_MEMBER_BASE + x.st.ent a E.T10_6_MEMBERS) ||
      !membersOk false (x.memberTypes a)
  let winBad := (List.range 255).any (fun g =>
    decide (x.st.ent (x.grp g) E.T6_3_VALID = 1) && decide (2000 < x.st.ent (x.grp g) E.T6_3_WINDOW))
  if x.subs.any subBad || gs.any gooBad || winBad then stFORMAT else stOK

/-! FILTER. -/

/-- The subscription of stream n after the commit. -/
def After.sub (x : After) (n : Nat) : Nat := x.tab 3 (.ing x.lane) .ingSubSh .ingSubAct + 64 * n

/-- Field TAPS, SHIFT or BASE of FIR stage f of a slot descriptor. -/
def firF (e : EFld) (f : Nat) : EFld := { e with off := e.off + 4 * f }

/-- A slot descriptor meets the constraints of R160. -/
def After.slotOk (x : After) (a : Nat) : Bool :=
  let f := fun (e : EFld) => x.st.ent a e
  let sub := x.sub (f E.T7_1_STREAM)
  decide (f E.T7_1_RS_BASE + 65 * f E.T7_1_TAPS_RS ≤ 4096) &&
    (List.range (f E.T7_1_N_FIR)).all (fun i => decide (f (firF E.T7_1_BASE i) + f (firF E.T7_1_TAPS i) ≤ 4096)) &&
    (decide (0 < f E.T7_1_DEC_LOG2) == decide (0 < f E.T7_1_CIC_N)) &&
    decide (f E.T7_1_CH_FIRST + f E.T7_1_CH_CNT_M1 < x.st.ent sub E.T6_2_NCH) &&
    decide (f E.T7_1_TAPS_RS = 2 * x.st.ent sub E.T6_2_LEAD) &&
    decide (f E.T7_1_NODE + f E.T7_1_CH_CNT_M1 < 262144) &&
    (List.range (f E.T7_1_CH_CNT_M1 + 1)).all (fun j =>
      let v := x.st.ent (a + 4 * j) E.T7_1_SCALE
      !fIsNan f32 v && !fIsInf f32 v)

/-- The cost of a slot in engine cycles (R173). -/
def After.slotCost (x : After) (a : Nat) : Nat :=
  let f := fun (e : EFld) => x.st.ent a e
  let dec := 2 ^ f E.T7_1_DEC_LOG2
  let n := f E.T7_1_CIC_N
  let c := dec * (f E.T7_1_TAPS_RS + 4) + (if 0 < n then dec * n + n else 0) +
    ((List.range (f E.T7_1_N_FIR)).map (fun i => f (firF E.T7_1_TAPS i) + 4)).sum
  if f E.T7_1_WASH_OK = 1 then 28 + 2 * c else 20 + c

/-- A slot's stream fits the history: f_s × (WINDOW + 2 T_g) + 2 × TAPS_RS at most 512 (R173). -/
def After.slotFits (x : After) (a : Nat) : Bool :=
  let sub := x.sub (x.st.ent a E.T7_1_STREAM)
  let g := x.st.gridG x.lane
  let grp := x.st.ent sub E.T6_2_GROUP
  let win := if grp = 255 then 0 else x.st.ent (x.grp grp) E.T6_3_WINDOW
  let fs := svRates.getD (x.st.ent sub E.T6_2_RATE) 0
  decide (fs * (win * g + 2000000) + 2 * x.st.ent a E.T7_1_TAPS_RS * g * 1000000 ≤ 512 * g * 1000000)

/-- The valid slots of an engine after the commit, as positions. -/
def After.slots (x : After) (e : Nat) : List Nat :=
  let d := x.tab 4 (.flt x.lane) .fltSlotSh .fltSlotAct + 0x8000 * e
  (x.st.entries d 0x8000 64).filter (fun k => decide (x.st.ent (d + 64 * k) E.T7_1_VALID = 1))

/-- The address of slot k of engine e after the commit. -/
def After.slot (x : After) (e k : Nat) : Nat := x.tab 4 (.flt x.lane) .fltSlotSh .fltSlotAct + 0x8000 * e + 64 * k

/-- An engine's slots meet their budget (R173). -/
def After.engineFits (x : After) (e : Nat) : Bool :=
  let w := x.st.stagedReg (.fltEng x.lane e) .FLT_ENG_CFG
  let n := bitsOf w 9 0
  let cyc := bitsOf w 31 16
  (x.slots e).all (fun k => decide (x.slotCost (x.slot e k) ≤ cyc) && x.slotFits (x.slot e k) && decide (k < n)) &&
    decide (2 * n * cyc * x.st.gridG x.lane ≤ 1600000000)

/-- The FILTER region's constraints (R160, R173, R176). -/
def After.filter (x : After) : Nat :=
  let d := x.tab 4 (.flt x.lane) .fltSwSh .fltSwAct
  let q := ((x.st.entries d 0x20000 16).map (fun n =>
    if x.st.ent (d + 16 * n) E.T7_5_VALID = 1 then x.st.ent (d + 16 * n) E.T7_5_QDELAY + 1 else 0)).sum
  if (List.range 16).any (fun e => (x.slots e).any (fun k => !x.slotOk (x.slot e k))) then stFORMAT
  else if 262144 < q ∨ (List.range 16).any (fun e => !x.engineFits e) then stCAPACITY
  else stOK

/-! OPERATOR and GRAPH. -/

/-- The bank of operator descriptors after the commit. -/
def After.ops (x : After) : Nat :=
  x.st.stagedPair (.ops x.lane) .OPS_AREA_BASE_LO .OPS_AREA_BASE_HI +
    (if x.types.contains 5 then 1 - x.st.opBank x.lane else x.st.opBank x.lane) * 0x4000000

/-- The valid operator descriptors after the commit, as instance numbers. -/
def After.opList (x : After) : List Nat :=
  (x.st.memEntries x.lane x.ops 0x2000000 128).filter (fun i => decide (x.st.recF x.lane (x.ops + 128 * i) E.T9_1_VALID = 1))

/-- The length in bytes of an instance's extended block: PHASOR's N pairs (R224), IDMT's 257 rates (R229), HARM's NH order
entries and NH tables of N pairs (R232); the other operators have none. -/
def After.xBlockLen (x : After) (a : Nat) : Nat :=
  match x.st.recF x.lane a E.T9_1_OPCODE with
  | 0x01 => 8 * x.st.recF x.lane a ⟨0x10, 9, 0⟩
  | 0x06 => 4 * 257
  | 0x09 => 8 * x.st.recF x.lane a E.T9_11_NH * (1 + x.st.recF x.lane a E.T9_11_N)
  | _ => 0

/-- The OPERATOR region's constraints (R216): state ranges inside the state area, extended blocks inside the extended area. -/
def After.operator (x : After) : Nat :=
  let size := x.st.stagedReg (.ops x.lane) .OPS_STATE_SIZE * 0x100000
  let bad := fun i =>
    let a := x.ops + 128 * i
    let xp := x.st.recF x.lane a E.T9_1_XPARAM
    decide (size < 64 * (x.st.recF x.lane a E.T9_1_STATE_IDX + x.st.recF x.lane a E.T9_1_STATE_LEN)) ||
      (decide (xp ≠ 0xFFFFFFFF ∧ x.xBlockLen a ≠ 0) && decide (0x2000000 < xp + x.xBlockLen a))
  if x.opList.any bad then stCAPACITY else stOK

/-- The GRAPH region's constraints: owners (Table 8.6) and the pool (R189). -/
def After.graph (x : After) : Nat :=
  let d := winAddr (.qul x.lane) .qulGrpSh 0
  let gs := ((List.range 256).map (fun g => d + 16 * g)).filter (fun a => decide (x.st.ent a E.T8_6_VALID = 1))
  if gs.any (fun a => decide (64 < x.st.ent a E.T8_6_OWNER)) then stFORMAT
  else if 32768 < (gs.map (fun a => x.st.ent a E.T8_6_READY_MAX)).sum then stCAPACITY
  else stOK

/-! SCRIBE and PUBLISH. -/

/-- An engine's budget fits its period, and its lists fit their tables (R259). -/
def After.scribeFits (x : After) (k : Nat) : Bool :=
  let p : Page := .scr x.lane k
  let f := fun (e : Fld) => x.st.fld p e
  let per := f F.SCR_SH_PERIOD_PERIOD
  decide (per = 0) ||
    (decide (100000 + 200 * (f F.SCR_SH_SIZE_N_IN + f F.SCR_SH_SIZE_N_OUT) + 251 * f F.SCR_SH_WDOG_WD_CYC ≤ 100000 * per) &&
      decide (f F.SCR_SH_SIZE_N_IN ≤ 4096 ∧ f F.SCR_SH_SIZE_N_OUT ≤ 4096))

/-- A valid publication meets the constraints of R280, and its members' types are those of Table 12.3. -/
def After.pubOk (x : After) (a : Nat) : Bool :=
  let l := x.lane
  let f := fun (e : EFld) => x.st.ent a e
  let str := (List.range 3).all (fun i =>
    let off := x.st.ent (a + 4 * i) E.T12_2_OFF
    let len := x.st.ent (a + 4 * i) E.T12_2_LEN
    decide (1 ≤ len ∧ len ≤ 129 ∧ off + len ≤ 0x100000))
  let m := x.tab 8 (.pub l) .pubMemSh .pubMemAct
  decide (f E.T12_2_POLICY ≠ 3) && decide (f E.T12_2_AUTH ≠ 3) && str && decide (f E.T12_2_T_MIN ≤ f E.T12_2_T_MAX) &&
    decide (f E.T12_2_MEMBER_BASE + f E.T12_2_MEMBERS ≤ 32768) &&
    bitAt (x.st.winWords (x.tab 8 (.pub l) .pubSrcSh .pubSrcAct + 8 * f E.T12_2_SRC) 2) 63 &&
    (List.range (f E.T12_2_MEMBERS)).all (fun i =>
      let t := x.st.ent (m + 8 * (f E.T12_2_MEMBER_BASE + i)) E.T12_3_TYPE
      decide (1 ≤ t ∧ t ≤ 7))

/-- The PUBLISH region's constraints (R280). -/
def After.publish (x : After) : Nat :=
  let d := x.tab 8 (.pub x.lane) .pubDescSh .pubDescAct
  let ps := (x.st.entries d 0x20000 64).map (fun n => d + 64 * n) |>.filter (fun a => decide (x.st.ent a E.T12_2_VALID = 1))
  if ps.all x.pubOk then stOK else stFORMAT

/-! RECORDER and FIELDBUS. -/

/-- The bank of the graph after the commit. -/
def After.graphBank (x : After) : Nat :=
  x.st.stagedPair (.qul x.lane) .QUL_GRAPH_BASE_LO .QUL_GRAPH_BASE_HI +
    (if x.types.contains 6 then 1 - x.st.gBank x.lane else x.st.gBank x.lane) * 0x1000000

/-- Is a node a grid input node that a valid filter slot feeds? -/
def After.fedNode (x : After) (n : Nat) : Bool :=
  decide (x.st.recF x.lane (x.graphBank + 16 * n) E.T8_3_KIND = 1) &&
    (List.range 16).any (fun e => (x.slots e).any (fun k =>
      let a := x.slot e k
      decide (x.st.ent a E.T7_1_NODE ≤ n ∧ n ≤ x.st.ent a E.T7_1_NODE + x.st.ent a E.T7_1_CH_CNT_M1)))

/-- Is GRID_RATE divided by a binary32 frequency an integer from 1 to 1,024? -/
def phaseOk (g fnom : Nat) : Bool :=
  (List.range 1024).any (fun m => decide (fMul f64 (fOfInt f64 (m + 1)) (fConv f32 f64 fnom) = fOfInt f64 g))

/-- The RECORDER region's constraints (R322, Table 14.2, Table 14.5). -/
def After.recorder (x : After) : Nat :=
  let l := x.lane
  let st := winAddr (.drc l) .drcSetSh 0
  let f := fun (e : EFld) => x.st.ent st e
  let na := f E.T14_1_N_ANA
  let nb := f E.T14_1_N_BIN
  let ana := fun a => winAddr (.drc l) .drcAnaSh (16 * a)
  let anaBad := (List.range na).any (fun a =>
    let k := x.st.ent (ana a) E.T14_2_KIND
    decide (k = 0 ∨ k = 3) || (decide (k = 1) && !x.fedNode (x.st.ent (ana a) E.T14_2_SOURCE)))
  let binBad := (List.range nb).any (fun b => decide (x.st.ent (winAddr (.drc l) .drcBinSh (8 * b)) E.T14_3_VALID = 0))
  let trigBad := (List.range 64).any (fun c => decide (7 < x.st.ent (winAddr (.drc l) .drcTrigSh (32 * c)) E.T14_5_KIND))
  let row := 8 + 4 * na + 2 * ((nb + 15) / 16)
  let need := (0x100 + 32 * na + 7) / 8 * 8 + (f E.T14_1_PRE + f E.T14_1_MAX_POST) * row
  if 1024 < na ∨ 4096 < nb then stCAPACITY
  else if anaBad || binBad || trigBad || decide (f E.T14_1_MASK_ACT = 3) ||
      (decide (f E.T14_1_PHASE_EN = 1) && !phaseOk (x.st.gridG l) (f E.T14_1_F_NOM)) ||
      (decide (f E.T14_1_MASK_ACT ≠ 0) && decide (f E.T14_1_MEAS_EN = 0)) then stFORMAT
  else if x.st.fld (.drc l) F.DRC_MEM_CFG_SIZE_MIB ≠ 0 ∧ x.st.drcBufSize l < need then stCAPACITY
  else stOK

/-- A bit timing is supported (R365): a rate, the quanta of a bit, and SJW within TSEG2. -/
def timingOk (v sjw t1 t2 minQ maxRate : Nat) : Bool :=
  let q := 1 + (t1 + 1) + (t2 + 1)
  let brp := v % 32 + 1
  decide (minQ ≤ q) && decide (80000000 ≤ maxRate * brp * q) && decide (sjw ≤ t2)

/-- The data lengths of CAN frames (Table 16.1). -/
def canLens (fd : Bool) : List Nat := [0, 1, 2, 3, 4, 5, 6, 7, 8] ++ (if fd then [12, 16, 20, 24, 32, 48, 64] else [])

/-- A valid message object meets the constraints of R366. -/
def After.fboOk (x : After) (a : Nat) : Bool :=
  let f := fun (e : EFld) => x.st.ent a e
  let npt := f E.T16_2_HDR_EN + (f E.T16_2_DLEN + 15) / 16
  (canLens (decide (f E.T16_2_FD = 1))).contains (f E.T16_2_DLEN) &&
    !(decide (f E.T16_2_MAP_EN = 1) && decide (npt = 0 ∨ 8388608 < f E.T16_2_POINT + npt)) &&
    decide (f E.T16_2_TX_MODE ≠ 3) &&
    !(decide (f E.T16_2_DIR = 1 ∧ f E.T16_2_TX_MODE = 1) &&
      decide (f E.T16_2_PERIOD < 1000 ∨ 60000000 < f E.T16_2_PERIOD ∨ f E.T16_2_PERIOD ≤ f E.T16_2_OFFSET)) &&
    !(decide (f E.T16_2_DIR = 0 ∧ f E.T16_2_IDE = 0) && decide (2048 ≤ f E.T16_2_MASK))

/-- The FIELDBUS region's constraints (R365, R366): a controller of which the region loads a timing register is judged on both. -/
def After.fieldbus (x : After) : Nat :=
  let l := x.lane
  let d := winAddr (.fbs l) .fbsDescSh 0
  let os := (x.st.entries d 0x8000 32).map (fun n => d + 32 * n) |>.filter (fun a => decide (x.st.ent a E.T16_2_VALID = 1))
  let tim := (List.range 2).all (fun c =>
    let n := x.st.stagedReg (.fbsCtl l c) .FBS_NBT
    let b := x.st.stagedReg (.fbsCtl l c) .FBS_DBT
    let given := fun (r : RegId) => (assocGet x.st.shreg (regAddr (.fbsCtl l c) r 0)).isSome
    !(given .FBS_NBT || given .FBS_DBT) || timingOk n (bitsOf n 31 25) (bitsOf n 24 16) (bitsOf n 14 8) 8 1000000 &&
      timingOk b (bitsOf b 28 25) (bitsOf b 20 16) (bitsOf b 11 8) 5 8000000)
  if os.all x.fboOk && tim then stOK else stFORMAT

/-- The constraints of a lane region of a type. -/
def After.check (x : After) (type : Nat) (engines : List Nat) : Nat :=
  match type with
  | 0 => x.partition
  | 1 => x.mapLayout
  | 3 => x.subscribe
  | 4 => x.filter
  | 5 => x.operator
  | 6 => x.graph
  | 7 => if engines.all x.scribeFits then stOK else stCAPACITY
  | 8 => x.publish
  | 9 => x.recorder
  | 10 => x.fieldbus
  | _ => stOK

end Sys2Proof.Machine
end

