-- ==== Sys2Proof/Machine/Image.lean ====
section
/-!
DEFINITION. Checking a structure image in the order of Table 2.7, and staging it: steps 1 to 7 over the header, manifest,
signature and digests, step 8 with the writing of the shadow banks (R43 to R49, R54).
-/

namespace Sys2Proof.Machine
open Sys2Proof

/-- Read a range of an image (R50). -/
def State.imgRead (s : State) (src : ImgSrc) (a n : Nat) (good : List Byte → Bool) : Option (List Byte) × State :=
  match src with
  | .mem b => (some ((b.drop a).take n), s)
  | .bank k => s.flashRead (bankBase 1 k + a) n good
  | .flash1 k =>
    match s.flashRd 1 (bankBase 1 k + a) n with
    | (some b, s) => (some b, s)
    | (none, s) => (none, s.countUnc .common)

/-! Steps 1 to 5. -/

/-- Step 1 on the header: its constants, counts and zeros. -/
def headOk (h : List Byte) (len : Nat) : Bool :=
  decide (octF h E.T2_2_MAGIC = 0x49534C42 ∧ octF h E.T2_2_FORMAT = 1 ∧ octF h E.T2_2_HDR_LEN = 256 ∧
    1 ≤ octF h E.T2_2_ENTRY_COUNT ∧ octF h E.T2_2_ENTRY_COUNT ≤ 24 ∧ octF h E.T2_2_IMAGE_LEN ≤ 503316480 ∧
    octF h E.T2_2_IMAGE_LEN ≤ len ∧ octF h ⟨0xD, 7, 1⟩ = 0) && octZero h 0x40 0x100 &&
    (decide (octF h E.T2_2_PARTIAL = 1) || decide (octF h E.T2_2_BASE_IMAGE_CRC = 0))

/-- The reserved fields of the signature block (Table 2.4) are zero. -/
def sigZero (blk : List Byte) : Bool := octZero blk 2 4 && octZero blk 0x8C 0x90

/-- Step 1 on the layout: the manifest's entries, the signature block's zeros, the order of the sections and the image's end; the
gaps it leaves. -/
def layoutGaps (h : List Byte) (ms : List ManEnt) (raw : List (List Byte)) (blk : List Byte) : Option (List (Nat × Nat)) :=
  if (ms.zip raw).all (fun e => manOk e.2 e.1) && sigZero blk then
    match imageGaps (signedLen h + 144) ms, ms.getLast? with
    | some g, some m => if m.off + m.len = octF h E.T2_2_IMAGE_LEN then some g else none
    | _, _ => none
  else none

/-- The roots whose signature a lifecycle state accepts on images (Table 18.1). -/
def imageRoots (lc : Nat) : List Nat := if lc ≤ 1 then [0] else if lc = 2 then [1] else if lc = 3 then [1, 2] else []

/-- Step 5: a full image holds every mandatory region; no region twice on a target. -/
def manifestFull (isPartial : Bool) (ms : List ManEnt) : Bool :=
  let l := ms.map (fun m => (m.type, m.target))
  decide l.Nodup && (isPartial || mandatory.all (fun e => l.contains e))

/-- Steps 1 to 5 of Table 2.7: a status, and the header and manifest. -/
def State.imageHead (s : State) (src : ImgSrc) (len : Nat) : (Nat × List Byte × List ManEnt) × State :=
  match s.imgRead src 0 256 (fun _ => true) with
  | (none, s) => ((stFLASH, [], []), s)
  | (some h, s) =>
    if !headOk h len then ((stFORMAT, h, []), s)
    else
      match s.imgRead src 0x100 (signedLen h - 0x100 + 144) (fun _ => true) with
      | (none, s) => ((stFLASH, h, []), s)
      | (some b, s) =>
        let raw := (List.range (octF h E.T2_2_ENTRY_COUNT)).map (fun i => (b.drop (192 * i)).take 192)
        let ms := raw.map manEnt
        let signed := h ++ b.take (signedLen h - 0x100)
        let blk := b.drop (signedLen h - 0x100)
        match layoutGaps h ms raw blk with
        | none => ((stFORMAT, h, ms), s)
        | some gaps =>
          let r := gaps.foldl (fun (x : Nat × State) g =>
            if x.1 ≠ 0 then x
            else
              match x.2.imgRead src g.1 (g.2 - g.1) (fun _ => true) with
              | (none, s) => (stFLASH, s)
              | (some z, s) => (if z.all (fun v => decide (v = 0)) then 0 else stFORMAT, s)) (0, s)
          let s := r.2
          let code :=
            if r.1 ≠ 0 then r.1
            else if octF h E.T2_2_PART ≠ 0x9680 ∨ s.fld .cfg F.CFG_DEVICE_ID_STEPPING < octF h E.T2_2_MIN_STEPPING then stPART
            else if !((imageRoots s.lifecycle).contains (octF h E.T2_2_SIGNER) && verifyBlock s.ink (octF h E.T2_2_SIGNER) blk signed) then
              stSIGNATURE
            else if octF h E.T2_2_SEC_VERSION < s.mcount 0 then stROLLBACK
            else if !manifestFull (decide (octF h E.T2_2_PARTIAL = 1)) ms then stFORMAT
            else stOK
          ((code, h, ms), s)

/-! Step 6. -/

/-- Step 6 on the sections, in manifest order: a status and the regions. -/
def State.imageSecs (s : State) (src : ImgSrc) (secVer : Nat) : List ManEnt → (Nat × List Region) × State
  | [] => ((stOK, []), s)
  | m :: t =>
    let good := fun b => decide (sha512 b = m.digest) && secHeadOk m b
    match s.imgRead src m.off m.len good with
    | (none, s) => ((stFLASH, []), s)
    | (some b, s) =>
      if !good b then ((stDIGEST, []), s)
      else
        let r := s.imageSecs src secVer t
        ((r.1.1, ⟨m.type, m.target, m.tag, m.deps, m.req, m.digest, b, secVer⟩ :: r.1.2), r.2)

/-! Step 7. -/

/-- The regions active on a commit target. -/
def State.activeOn (s : State) (t : Nat) : List ActiveRegion := s.com.active.filter (fun a => decide (a.target = t))

/-- The regions active on a target that is UP; a target that is not UP comes UP with none. -/
def State.activeUp (s : State) (t : Nat) : List ActiveRegion := if s.up (targetDom t) then s.activeOn t else []

/-- R44 on one target: every region's recorded tags equal those of the regions active after the commit, and a region whose tag
changes has every active dependant replaced with it. -/
def State.dependOk (s : State) (t : Nat) (rs : List Region) : Bool :=
  let act := s.activeUp t
  let after := fun (y : Nat) =>
    match rs.find? (fun r => decide (r.type = y)) with
    | some r => some r.tag
    | none => (act.find? (fun a => decide (a.type = y))).map (fun a => a.tag)
  rs.all (fun r => (List.range 16).all (fun y => !bitAt r.deps y || decide (after y = some (r.req.getD y 0)))) &&
    rs.all (fun r =>
      match act.find? (fun a => decide (a.type = r.type)) with
      | none => true
      | some a => decide (a.tag = r.tag) ||
        act.all (fun d => !bitAt d.deps r.type || rs.any (fun x => decide (x.type = d.type))))

/-! Step 8. -/

/-- Would a record give a locked base register another value (R48)? -/
def State.baseConflict (s : State) (r : Region) (t : Nat) : Bool :=
  decide (r.type = 0) && ((Region.recs r).getD []).any (fun x =>
    decide (x.space = 1) && (List.range (x.len / 4)).any (fun i =>
      match regionRegAt 0 t (targetBase t + x.dest + 4 * i) with
      | some e => s.regLocked e.1 e.2.1 && decide (s.rd e.1 e.2.1 e.2.2 ≠ x.word i)
      | none => false))

/-- Would a record write a coefficient bank that a slot uses (R179)? -/
def State.coefConflict (s : State) (r : Region) (t : Nat) : Bool :=
  decide (r.type = 4) && ((Region.recs r).getD []).any (fun x =>
    (coefBanks (targetLane t) (targetBase t + x.dest) x.len).any (fun e => s.bankBusy (targetLane t) e.1 e.2))

/-- Step 8 on the records of one region. A verification of a bank writes nothing, so only its form is tested. -/
def State.regionCode (s : State) (staging : Bool) (t : Nat) (r : Region) : Nat :=
  match Region.recs r with
  | none => stFORMAT
  | some l =>
    if l.any (fun x => !s.recOwned r.type t x) then stFORMAT
    else if staging && (s.coefConflict r t || s.baseConflict r t) then stSTATE
    else stOK

/-- Write a target's regions into its shadow banks, each after its records are tested. -/
def State.buildRecs (s : State) (staging : Bool) (t : Nat) : List Region → Nat × State
  | [] => (stOK, s)
  | r :: rest =>
    let c := s.regionCode staging t r
    if c ≠ stOK then (c, s) else (s.loadRegion t r).buildRecs staging t rest

/-- The constraints of the owning chapters on a target's tables as they will stand. -/
def State.afterCode (s : State) (t : Nat) (rs : List Region) : Nat :=
  if t < 2 then
    let x : After := ⟨s, targetLane t, rs.map (fun r => r.type)⟩
    (rs.map (fun r => x.check r.type (scrBuilt ((Region.recs r).getD [])))).foldl (fun a c => if a ≠ stOK then a else c) stOK
  else if rs.any (fun r => decide (r.type = 2)) then switchCheck s (targetPlane t)
  else stOK

/-- Step 8 on one target: a status, and the state with its shadow banks written. -/
def State.buildTarget (s : State) (staging : Bool) (t : Nat) (rs : List Region) : Nat × State :=
  let x := regionsOf rs t
  let r := s.buildRecs staging t x
  if r.1 ≠ stOK then r else (r.2.afterCode t x, r.2)

/-- A target as it comes UP: its registers at reset, and a lane's memory holding nothing. -/
def State.bare (s : State) (t : Nat) : State :=
  let s := s.clearRange (targetBase t) (if t < 2 then 0x6000000 else 0xE00000)
  if t = 0 then { s with mem0 := [], bg0 := none } else if t = 1 then { s with mem1 := [], bg1 := none } else s

/-- Step 8 over targets. For a target that is not UP nothing is written: the records are tested on the target as it comes UP. -/
def State.buildAll (s : State) (staging : Bool) (rs : List Region) : List Nat → Nat × State
  | [] => (stOK, s)
  | t :: rest =>
    if s.up (targetDom t) then
      let r := s.buildTarget staging t rs
      if r.1 ≠ stOK then r else r.2.buildAll staging rs rest
    else
      let c := ((s.bare t).buildTarget false t rs).1
      if c ≠ stOK then (c, s) else s.buildAll staging rs rest

/-- A failed build leaves the coefficient banks it has written; every shadow bank is discarded (R49). -/
def State.keepCoef (s built : State) : State :=
  [Lane.l0, Lane.l1].foldl (fun s l =>
    let a := winAddr (.flt l) .fltCoef 0
    (s.clearRange a Win.fltCoef.info.size).putRange a (built.range a Win.fltCoef.info.size)) s

/-- The targets of regions that are UP. -/
def State.upTargets (s : State) (rs : List Region) : List Nat :=
  [0, 1, 2, 3].filter (fun t => s.up (targetDom t) && !(regionsOf rs t).isEmpty)

/-- The targets of regions whose content steps 7 and 8 can judge at the staging: those UP, the planes, whose regions depend on
none, and every target of a full image, which brings all that its regions depend on. What a partial image finds on a lane that
is not UP is known at its commit there, which tests it again (log entry 71). -/
def State.judged (s : State) (isPartial : Bool) (rs : List Region) : List Nat :=
  [0, 1, 2, 3].filter (fun t => (s.up (targetDom t) || !isPartial || decide (2 ≤ t)) && !(regionsOf rs t).isEmpty)

/-! The whole check. -/

/-- What steps 1 to 7 answer: a status, the image, and the state, which has read flash. -/
structure ImgOut where
  code : Nat
  img : Staged
  st : State

/-- Steps 1 to 7 of Table 2.7, step 7 on those of the given targets that can be judged. -/
def State.imageCheck (s : State) (src : ImgSrc) (len : Nat) (on : List Nat) : ImgOut :=
  let (h, s) := s.imageHead src len
  let head := h.2.1
  let img : Staged := ⟨[], octF head E.T2_2_IMAGE_ID, decide (octF head E.T2_2_PARTIAL = 1), octF head E.T2_2_SEC_VERSION⟩
  if h.1 ≠ stOK then ⟨h.1, img, s⟩
  else
    let (r, s) := s.imageSecs src img.secVer h.2.2
    if r.1 ≠ stOK then ⟨r.1, img, s⟩
    else
      let img := { img with regions := r.2 }
      if ((s.judged img.isPartial r.2).filter on.contains).all (fun t => s.dependOk t (regionsOf r.2 t)) then ⟨stOK, img, s⟩ else ⟨stDEPEND, img, s⟩

/-- The check of a flash bank that writes nothing (FLASH_VERIFY_BANK): every step, its step 8 on a copy of the tables. -/
def State.imageVerify (s : State) (src : ImgSrc) (len : Nat) : Nat × Nat × State :=
  let r := s.imageCheck src len [0, 1, 2, 3]
  if r.code ≠ stOK then (r.code, r.img.imageId, r.st)
  else ((r.st.buildAll false r.img.regions (r.st.judged r.img.isPartial r.img.regions)).1, r.img.imageId, r.st)

/-! The loader. -/

/-- The loader's state and the status of its last step (Table 2.10). -/
def State.loader (s : State) (st code : Nat) : State :=
  (s.setFld .stwLoad F.STW_LOAD_STATUS_STATE st).setFld .stwLoad F.STW_LOAD_STATUS_LAST_CODE code

/-- The loader's present state. -/
def State.loaderState (s : State) : Nat := s.fld .stwLoad F.STW_LOAD_STATUS_STATE

/-- A set of numbers as a mask. -/
def maskOf (n : Nat) (f : Nat → Bool) : Nat := ((List.range n).map (fun i => b2n (f i) * 2 ^ i)).sum

/-- The region types of an image, and its targets, as masks. -/
def Staged.typeMask (x : Staged) : Nat := maskOf 12 (fun t => x.regions.any (fun r => decide (r.type = t)))
def Staged.targetMask (x : Staged) : Nat := maskOf 4 (fun t => !(regionsOf x.regions t).isEmpty)

/-- Is a shadow bank that a build on a target would write still in use: an old bank (R203, R213, R273, R335), or a commit that
waits for its boundary? -/
def State.oldBusy (s : State) (t : Nat) (rs : List Region) : Bool :=
  s.com.switches.any (fun w => decide (w.target = t)) || decide (t < 2) &&
    (let l := targetLane t
     (regionsOf rs t).any (fun r =>
      match r.type with
      | 5 | 6 => s.bit (.qul l) F.QUL_STATUS_OLD_BUSY
      | 7 => (scrBuilt ((Region.recs r).getD [])).any (fun k => s.bit (.scr l k) F.SCR_STATUS_OLD_BUSY)
      | 9 => s.bit (.drc l) F.DRC_STATUS_OLD_BUSY
      | _ => false))

/-- The staged image goes: every shadow bank written from it is discarded. -/
def State.stageDrop (s : State) : State :=
  let s := match s.com.staged with
    | some x => s.com.built.foldl (fun (s : State) t => s.unbuild t x.regions) s
    | none => s
  let s := { s with com := { s.com with staged := none, fetch := none, stageWait := none, built := [] } }
  (s.setFld .stwLoad F.STW_LOAD_STATUS_STAGED_MASK 0).wr .stwLoad .STW_LOAD_TARGETS 0 0

/-- Step 8 of a staging and its end: STAGED, or FAILED with every shadow bank discarded (R49, R54). -/
def State.stageBuild (s : State) (x : Staged) : CmdOut :=
  let ts := s.upTargets x.regions
  let r := s.buildAll true x.regions (s.judged x.isPartial x.regions)
  if r.1 ≠ stOK then cmdCode ((s.keepCoef r.2).loader 5 r.1) r.1
  else
    let s := r.2
    let s := { s with com := { s.com with staged := some x, fetch := none, stageWait := none, built := ts } }
    let s := (s.loader 3 stOK).setFld .stwLoad F.STW_LOAD_STATUS_STAGED_MASK x.typeMask
    cmdOk (s.wr .stwLoad .STW_LOAD_TARGETS 0 0) [x.typeMask, x.targetMask]

/-- IMAGE_STAGE is accepted (R54, R61, Table 2.11): the loader is in FETCH. Lane copies that differ change nothing (R61). -/
def cmdImageStage (a : List Nat) (s : State) : CmdOut :=
  let from_ := a.getD 0 0
  let addr := argAddr a 1
  let len := a.getD 3 0
  if (s.loaderState ≠ 0 ∧ s.loaderState ≠ 5) ∨ 2 < from_ ∨ (from_ = 2 ∧ !inLaneMem addr len) then cmdCode s stSTATE
  else
    let src : Except Nat ImgSrc :=
      if from_ < 2 then .ok (.bank from_)
      else
        match readLanes s addr len with
        | .error e => .error e
        | .ok b => .ok (.mem b)
    match src with
    | .error e => cmdCode s e
    | .ok src =>
      let s := s.stageDrop.loader 1 stOK
      ⟨{ s with com := { s.com with fetch := some (src, if from_ < 2 then bankSize 1 else len) } }, stOK, [], true⟩

/-- The loader in VERIFY (R54): steps 1 to 8 of Table 2.7. The build waits while an old bank it would write is in use. -/
def State.stageVerify (s : State) (ch : Nat) (src : ImgSrc) (len : Nat) : CmdOut :=
  let r := s.imageCheck src len [0, 1, 2, 3]
  let st := { r.st with com := { r.st.com with fetch := none } }
  if r.code ≠ stOK then cmdCode (st.loader 5 r.code) r.code
  else
    let n := match src with
      | .mem b => b.length
      | .bank k | .flash1 k => octF (st.flash 0 (bankBase 1 k) 256) E.T2_2_IMAGE_LEN
    let s := st.progress ch n
    if (s.upTargets r.img.regions).any (fun t => s.oldBusy t r.img.regions) then
      ⟨{ s with com := { s.com with stageWait := some r.img } }, stOK, [], true⟩
    else s.stageBuild r.img

/-- A staging goes on: FETCH becomes VERIFY when the signed span has been read, and VERIFY ends with the checks (R54). -/
def State.stageStep (s : State) (ch : Nat) : CmdOut :=
  match s.com.fetch, s.com.stageWait with
  | some (src, len), _ => if s.loaderState = 1 then ⟨s.loader 2 stOK, stOK, [], true⟩ else s.stageVerify ch src len
  | none, some x =>
    if (s.upTargets x.regions).any (fun t => s.oldBusy t x.regions) then ⟨s, stOK, [], true⟩ else s.stageBuild x
  | none, none => cmdCode s stSTATE

/-- STAGE_DISCARD's effect: the staged image is discarded and the loader is IDLE (Table 2.10). -/
def cmdStageDiscard (_ : List Nat) (s : State) : CmdOut := cmdOk (s.stageDrop.loader 0 stOK) []

end Sys2Proof.Machine
end

