-- ==== Sys2Proof/Machine/BootTable.lean ====
section
/-!
DEFINITION. The boot table of the early protection service: its two copies in MRAM (R419, Table 19.2) and its rebuilding from a
structure image (R420).
-/

namespace Sys2Proof.Machine
open Sys2Proof

/-- The size of a copy. -/
def bootLen : Nat := 7680

/-- Is a boot table copy valid: MAGIC and CRC (R419)? -/
def bootOk (b : List Byte) : Bool :=
  decide (b.length = bootLen ∧ octF b E.T19_2_MAGIC = 0x54425045 ∧
    octF b E.T19_2_CRC = crcOf crc32c (octPut b E.T19_2_CRC 0))

/-- The copy in use: the valid one with the higher SEQ; its number and octets (R419). -/
def bootPick (ink : InkSt) : Option (Nat × List Byte) :=
  match bootOk ink.boot0, bootOk ink.boot1 with
  | true, true => if octF ink.boot0 E.T19_2_SEQ < octF ink.boot1 E.T19_2_SEQ then some (1, ink.boot1) else some (0, ink.boot0)
  | true, false => some (0, ink.boot0)
  | false, true => some (1, ink.boot1)
  | false, false => none

/-! Rebuilding. -/

/-- The regions of the image in a flash bank: each section from the device that holds it with its digest (R50). -/
def State.bankRegions (s : State) (b : Nat) : List Region :=
  let d := if headOk (s.flash 0 (bankBase 1 b) 256) (bankSize 1) then 0 else 1
  let h := s.flash d (bankBase 1 b) 256
  let ms := (List.range (octF h E.T2_2_ENTRY_COUNT)).map (fun i => manEnt (s.flash d (bankBase 1 b + 0x100 + 192 * i) 192))
  ms.map (fun m =>
    let c := s.flash 0 (bankBase 1 b + m.off) m.len
    let c := if sha512 c = m.digest then c else s.flash 1 (bankBase 1 b + m.off) m.len
    ⟨m.type, m.target, m.tag, m.deps, m.req, m.digest, c, octF h E.T2_2_SEC_VERSION⟩)

/-- The tables that an image loads, in the shadow banks of a block that held nothing. -/
def imageTables (rs : List Region) : State := ((State.reset.build 0 rs).build 2 rs).build 3 rs

/-- An EPS element found in an image: its Speedwell entry, instance descriptor and pins, as addresses and a mask. -/
structure EpsElem where
  sw : Nat
  desc : Nat
  pins : Nat
  stream : Nat
  deriving DecidableEq, Repr

/-- The pins that an INST instance drives (R420): trip entries with its map point, WORD 3 and BIT 1. -/
def epsPins (z : State) (desc : Nat) : Nat :=
  maskOf 16 (fun n =>
    let a := winAddr (.pub .l0) .pubTripSh (16 * n)
    decide (z.ent a E.T12_6_VALID = 1 ∧ z.ent a E.T12_6_POINT = z.recF .l0 desc E.T9_1_MAP_PT ∧
      z.ent a E.T12_6_WORD = 3 ∧ z.ent a E.T12_6_BIT = 1))

/-- The EPS elements of an image in ascending order of instance (R420). -/
def epsElems (z : State) : List EpsElem :=
  let x : After := ⟨z, .l0, List.range 12⟩
  let nodes := z.memEntries .l0 x.graphBank 0x400000 16
  let f := fun (n : Nat) (e : EFld) => z.recF .l0 (x.graphBank + 16 * n) e
  let sw := winAddr (.flt .l0) .fltSwSh 0
  let entries := (z.entries sw 0x20000 16).filter (fun w => decide (z.ent (sw + 16 * w) E.T7_5_VALID = 1))
  let feeds := fun (n m : Nat) => decide (f n E.T8_3_KIND = 2) &&
    (List.range (f n E.T8_3_SUCC_CNT)).any (fun i =>
      let a := x.graphBank + 0x400000 + 4 * (f n E.T8_3_SUCC_BASE + i)
      decide (z.recF .l0 a E.T8_4_NODE = m ∧ z.recF .l0 a E.T8_4_PORT = 0))
  x.opList.filterMap (fun i =>
    let d := x.ops + 128 * i
    let pins := epsPins z d
    if z.recF .l0 d E.T9_1_OPCODE ≠ 0x0A ∨ z.recF .l0 d E.T9_1_MAP_EN ≠ 1 ∨ pins = 0 then none
    else
      match nodes.find? (fun m => decide (f m E.T8_3_KIND = 3 ∧ f m E.T8_3_OP = i)) with
      | none => none
      | some m =>
        if f m E.T8_3_SW ≠ 1 then none
        else
          match entries.find? (fun w => feeds (z.ent (sw + 16 * w) E.T7_5_NODE) m) with
          | none => none
          | some w => some ⟨sw + 16 * w, d, pins, z.ent (sw + 16 * w) E.T7_5_STREAM⟩)

/-- Take elements in order, at most 64 on at most 64 streams: streams, elements, and whether any was left out (R420). -/
def epsTake : List Nat → List EpsElem → Bool → List EpsElem → List Nat × List EpsElem × Bool
  | str, els, tr, [] => (str, els, tr)
  | str, els, tr, e :: rest =>
    if 64 ≤ els.length ∨ (64 ≤ str.length ∧ !str.contains e.stream) then epsTake str els true rest
    else epsTake (if str.contains e.stream then str else str ++ [e.stream]) (els ++ [e]) tr rest

/-- Pad octets with zeros to a length. -/
def padTo (n : Nat) (b : List Byte) : List Byte := (b ++ List.replicate (n - b.length) 0).take n

/-- The octets of a boot table built from an image (Table 19.2). -/
def bootTable (rs : List Region) (imageId seq : Nat) : List Byte :=
  let z := imageTables rs
  let (str, els, tr) := epsTake [] [] false (epsElems z)
  let ports := (List.range 22).flatMap (fun j =>
    let pg : Page := .prt (Plane.ofIdx (j / 11)) (j % 11)
    natLe 4 (z.stagedReg pg .PRT_CFG) ++ natLe 4 (z.stagedReg pg .PRT_MAXLEN))
  let pins := (List.range 16).flatMap (fun n =>
    let a := winAddr (.pub .l0) .pubTripSh (16 * n)
    let v := els.any (fun e => bitAt e.pins n)
    natLe 4 (b2n v * 2 ^ 30) ++ natLe 4 (z.win (a + 4)).toNat ++ natLe 4 (z.win (a + 8)).toNat ++ natLe 4 (z.win (a + 12)).toNat)
  let strs := str.flatMap (fun n => natLe 64 (z.winWords (winAddr (.ing .l0) .ingSubSh (64 * n)) 16))
  let recs := els.flatMap (fun e =>
    let sw := octPut (octPut (natLe 16 (z.winWords e.sw 4)) E.T7_5_STREAM (str.idxOf e.stream)) E.T7_5_NODE 0
    sw ++ z.mem .l0 (e.desc + 0x10) 16 ++ natLe 16 (e.pins + 65536 * z.recF .l0 e.desc E.T9_1_QUEST_OK))
  let head := natLe 4 0x54425045 ++ natLe 2 1 ++ natLe 1 str.length ++ natLe 1 els.length ++ natLe 16 imageId ++ natLe 4 seq ++
    natLe 4 (b2n tr)
  let b := padTo 0x40 head ++ padTo 0xC0 ports ++ padTo 0x100 pins ++ padTo 0x1000 strs ++ padTo (bootLen - 0x1200) recs
  octPut b E.T19_2_CRC (crcOf crc32c b)

/-- Rebuild the boot table from the image in a bank: the copy with the lower SEQ or the invalid one is written, and the named
event BOOT_TABLE is recorded (R420, R433). -/
def State.bootRebuild (s : State) (b : Nat) : State :=
  let seq := match bootPick s.ink with
    | some e => (octF e.2 E.T19_2_SEQ + 1) % 2 ^ 32
    | none => 1
  let t := bootTable (s.bankRegions b) (octF (s.flash 0 (bankBase 1 b) 256) E.T2_2_IMAGE_ID) seq
  let ink := match bootPick s.ink with
    | some (0, _) => { s.ink with boot1 := t }
    | _ => { s.ink with boot0 := t }
  ({ s with ink := ink }).event .common (evCode bkCFG 2 2) (octF t E.T19_2_N_ELEM) seq

end Sys2Proof.Machine
end

