-- ==== Sys2Proof/Machine/Steward.lean ====
section
/-!
DEFINITION. The steward's own mailbox commands (Table 2.11) other than those of the roll and the Blotter: PING, GET_INFO, the
flash banks, IMAGE_STAGE and STAGE_DISCARD.
-/

namespace Sys2Proof.Machine
open Sys2Proof

/-- PING's effect. -/
def cmdPing (_ : List Nat) (s : State) : CmdOut := cmdOk s [s.com.fwVer]

/-- The four words of a 128-bit identifier. -/
def idWords (v : Nat) : List Nat := (List.range 4).map (fun i => bitsOf v (32 * i + 31) (32 * i))

/-- GET_INFO's effect. -/
def cmdGetInfo (_ : List Nat) (s : State) : CmdOut :=
  cmdOk s (idWords s.com.imageId ++ [s.com.imageSec, s.com.fwVer, (s.rd .stwLoad .STW_BANK).toNat])

/-- FLASH_ERASE_BANK's effect (R52). -/
def cmdFlashErase (ch : Nat) (a : List Nat) (s : State) : CmdOut :=
  let w := a.getD 0 0
  let b := a.getD 1 0
  if 1 < w ∨ 1 < b then cmdCode s stBADARG
  else if !s.bankFree w b then cmdCode s stSTATE
  else
    let (good, s) := s.flashWipe (bankBase w b) (bankSize w)
    let s := (s.bankChanged w b 0).progress ch (bankSize w)
    cmdCode s (if good then stOK else stFLASH)

/-- FLASH_WRITE's effect (R50, R52, R61). -/
def cmdFlashWrite (ch : Nat) (a : List Nat) (s : State) : CmdOut :=
  let w := a.getD 0 0
  let b := a.getD 1 0
  let off := a.getD 2 0
  let addr := argAddr a 3
  let len := a.getD 5 0
  if 1 < w ∨ 1 < b ∨ off % 256 ≠ 0 ∨ len % 256 ≠ 0 ∨ len < 256 ∨ 16777216 < len ∨ bankSize w < off + len ∨ !inLaneMem addr len then
    cmdCode s stBADARG
  else if !s.bankFree w b then cmdCode s stSTATE
  else
    match readLanes s addr len with
    | .error e => cmdCode s e
    | .ok v =>
      let (good, s) := s.flashPut (bankBase w b + off) v
      let s := (s.bankChanged w b (s.heldBy w b)).progress ch len
      if good then cmdOk s [len] else cmdCode s stFLASH

/-- Verification of a firmware bank (R398, R399): a status and its version. The layout of its header is not given. -/
def State.fwVerify (s : State) (b : Nat) : (Nat × Nat) × State :=
  let good := fun (o : List Byte) => Config.firmwareVerifies (leNat o)
  match s.flashRead (bankBase 0 b) (bankSize 0) good with
  | (none, s) => ((stFLASH, 0), s)
  | (some o, s) =>
    let v := Config.firmwareVersion (leNat o)
    ((if !good o then stSIGNATURE else if Config.firmwareSecVersion (leNat o) < s.mcount 1 then stROLLBACK else stOK, v), s)

/-- FLASH_VERIFY_BANK's effect: the image checks, or the verification of firmware (Table 2.11). -/
def cmdFlashVerify (ch : Nat) (a : List Nat) (s : State) : CmdOut :=
  let w := a.getD 0 0
  let b := a.getD 1 0
  if 1 < w ∨ 1 < b then cmdCode s stFORMAT
  else
    let pass := fun (s : State) (c : Nat) (res : List Nat) =>
      let s := s.progress ch (bankSize w)
      if c ≠ stOK then cmdCode s c
      else cmdOk { s with com := { s.com with verified := s.com.verified ++ [(w, b)] } } res
    if w = 0 then
      let (r, s) := s.fwVerify b
      pass s r.1 [r.2]
    else
      let r := s.imageVerify (.bank b) (bankSize 1)
      pass r.2.2 r.1 (idWords r.2.1)

/-- BANK_SELECT's effect: a verified bank goes on trial (R52). DESIGN CHOICE: with its trial counter at 0 (log entry 72). -/
def cmdBankSelect (a : List Nat) (s : State) : CmdOut :=
  let w := a.getD 0 0
  let b := a.getD 1 0
  if 1 < w ∨ 1 < b ∨ !s.com.verified.contains (w, b) then cmdCode s stSTATE
  else cmdOk (s.descWrite (octPut (octPut (octPut s.desc (bankFld w) b) (trialFld w) 1) (trialsFld w) 0)) []

/-- BANK_CONFIRM's effect: the trial ends; the anti-rollback counter rises (R400); an image bank's boot table is rebuilt before
the command completes (R420). -/
def cmdBankConfirm (a : List Nat) (s : State) : CmdOut :=
  let w := a.getD 0 0
  if 1 < w ∨ !s.onTrial w ∨ !s.up .inkwell then cmdCode s stSTATE
  else
    let b := s.bankOf w
    let s := s.descWrite (octPut (octPut s.desc (trialFld w) 0) (trialsFld w) 0)
    if w = 0 then cmdOk (s.mcountTo 1 (Config.firmwareSecVersion (s.fwOct 0 b))) []
    else cmdOk ((s.mcountTo 0 (octF (s.flash 0 (bankBase 1 b) 256) E.T2_2_SEC_VERSION)).bootRebuild b) []

/-- PING: the steward firmware version. -/
def execPing (ch : Fin 2) (tag : BitVec 16) (s : State) : Host.Outcome State Fault Refusal := ok (mboxIssue ch 0x01 tag [] cmdPing s)

/-- GET_INFO: the active image and firmware. -/
def execGetInfo (ch : Fin 2) (tag : BitVec 16) (s : State) : Host.Outcome State Fault Refusal := ok (mboxIssue ch 0x02 tag [] cmdGetInfo s)

/-- FLASH_ERASE_BANK: erases a bank on both devices unless active or fallback (R52). -/
def execFlashEraseBank (ch : Fin 2) (tag : BitVec 16) (w b : Word) (s : State) : Host.Outcome State Fault Refusal :=
  ok (mboxIssue ch 0x10 tag [w.toNat, b.toNat] (cmdFlashErase ch) s)

/-- FLASH_WRITE: lane memory into a bank on both devices. -/
def execFlashWrite (ch : Fin 2) (tag : BitVec 16) (w b off : Word) (addr : BitVec 64) (len : Word) (s : State) : Host.Outcome State Fault Refusal :=
  ok (mboxIssue ch 0x11 tag ([w.toNat, b.toNat, off.toNat] ++ addrArgs addr ++ [len.toNat]) (cmdFlashWrite ch) s)

/-- FLASH_VERIFY_BANK: verifies a bank. -/
def execFlashVerifyBank (ch : Fin 2) (tag : BitVec 16) (w b : Word) (s : State) : Host.Outcome State Fault Refusal :=
  ok (mboxIssue ch 0x12 tag [w.toNat, b.toNat] (cmdFlashVerify ch) s)

/-- BANK_SELECT: a verified bank goes on trial (R52). -/
def execBankSelect (ch : Fin 2) (tag : BitVec 16) (w b : Word) (s : State) : Host.Outcome State Fault Refusal :=
  ok (mboxIssue ch 0x13 tag [w.toNat, b.toNat] cmdBankSelect s)

/-- BANK_CONFIRM: the trial of the active bank ends (R52). -/
def execBankConfirm (ch : Fin 2) (tag : BitVec 16) (w : Word) (s : State) : Host.Outcome State Fault Refusal :=
  ok (mboxIssue ch 0x14 tag [w.toNat] cmdBankConfirm s)

/-- IMAGE_STAGE: an image is fetched, checked and streamed into shadow banks (R49, R54). -/
def execImageStage (ch : Fin 2) (tag : BitVec 16) (from_ : Word) (addr : BitVec 64) (len : Word) (s : State) : Host.Outcome State Fault Refusal :=
  ok (mboxIssue ch 0x20 tag ([from_.toNat] ++ addrArgs addr ++ [len.toNat]) cmdImageStage s)

/-- STAGE_DISCARD: the staged image is discarded. -/
def execStageDiscard (ch : Fin 2) (tag : BitVec 16) (s : State) : Host.Outcome State Fault Refusal :=
  ok (mboxIssue ch 0x25 tag [] cmdStageDiscard s)

/-- An opcode without a command. -/
def cmdBad (_ : List Nat) (s : State) : CmdOut := cmdCode s stBADCMD

end Sys2Proof.Machine
end

