-- ==== Sys2Proof/Machine/Check.lean ====
section
/-!
DEFINITION. The check-value units ("Outputs, publications and seals", R303 to R305).
-/

namespace Sys2Proof.Machine
open Sys2Proof

/-- The algorithms of Table 12.8 by POLY. -/
def chkAlg : Nat → Option CrcParam
  | 0 => some crc32c
  | 1 => some crc32
  | 2 => some ⟨16, 0x1021, 0xFFFF, false, 0⟩
  | 3 => some ⟨64, 0x42F0E1EBA9EA3693, 0, false, 0⟩
  | 4 => some ⟨8, 0x2F, 0xFF, false, 0xFF⟩
  | _ => none

/-- VALUE as it stands in the registers (R305). -/
def State.chkValue (s : State) (l : Lane) (u : Nat) : Nat := s.pairReg (.chk l u) .CHK_VALUE_LO .CHK_VALUE_HI

/-- Store VALUE. -/
def State.setChkValue (s : State) (l : Lane) (u v : Nat) : State :=
  (s.wr (.chk l u) .CHK_VALUE_LO 0 (BitVec.ofNat 32 v)).wr (.chk l u) .CHK_VALUE_HI 0 (BitVec.ofNat 32 (v / 2 ^ 32))

/-- The running register from VALUE, and back: VALUE holds it in the algorithm's reflected or unreflected form (R305). -/
def chkForm (p : CrcParam) (v : Nat) : Nat := if p.refl then reflectBits p.width v else v

/-- A write of 1 to CHK_GO (R304): WBUSY while BUSY, BADCFG for POLY 5 to 7; otherwise the operation starts over the bytes that the
registers name now, with INIT loading VALUE. -/
def State.chkGo (s : State) (l : Lane) (u : Nat) : State :=
  let pg : Page := .chk l u
  if s.bit pg F.CHK_STATUS_BUSY then s.setBit pg F.CHK_STATUS_WBUSY
  else
    match chkAlg (s.fld pg F.CHK_CFG_POLY) with
    | none => s.setBit pg F.CHK_STATUS_BADCFG
    | some p =>
      let s := if s.bit pg F.CHK_CFG_INIT then s.setChkValue l u (chkForm p p.init) else s
      let run : ChkRun := ⟨s.fld pg F.CHK_CFG_POLY, s.bit pg F.CHK_CFG_ALIVE_IN, s.bit pg F.CHK_CFG_ALIVE_INC,
        s.fld pg F.CHK_SRC_LO_ADDR + 2 ^ 32 * s.fld pg F.CHK_SRC_HI_ADDR, s.fld pg F.CHK_LEN_LEN, s.real⟩
      let s := s.setBit pg F.CHK_STATUS_BUSY
      s.setLane l { s.lane l with chk := assocPut (s.lane l).chk u run }

/-- An operation that runs is over, ended or cut short. -/
def State.chkStop (s : State) (l : Lane) (u : Nat) : State :=
  let s := s.setFld (.chk l u) F.CHK_STATUS_BUSY 0
  s.setLane l { s.lane l with chk := assocDel (s.lane l).chk u }

/-- The bytes of an operation that its owner may reach, up to the first one it may not (R304, R341). -/
def State.chkBytes (s : State) (l : Lane) (o a : Nat) : Nat → List Byte × Bool
  | 0 => ([], true)
  | n + 1 =>
    if s.mayReach l o false a then
      let r := s.chkBytes l o (a + 1) n
      ((s.mem l a 1) ++ r.1, r.2)
    else ([], false)

/-- The operation that a unit runs, with its algorithm. -/
def State.chkRun? (s : State) (l : Lane) (u : Nat) : Option (ChkRun × CrcParam) :=
  match assocGet (s.lane l).chk u with
  | none => none
  | some x => (chkAlg x.poly).map (fun p => (x, p))

/-- VALUE as a read finds it: while BUSY, after the last complete 64-byte block fed (R305); how many have been fed is free. -/
def State.chkShown (s : State) (l : Lane) (u : Nat) : Nat :=
  match s.chkRun? l u with
  | none => s.chkValue l u
  | some (x, p) =>
    let n := 64 * min (x.len / 64) (Config.chkBlocks (s.real - x.start))
    chkForm p (crcRun p (chkForm p (s.chkValue l u) % 2 ^ p.width) (s.chkBytes l (s.ownerChk l u) x.src n).1)

/-- The operation ends (R304): the bytes and the alive counter are fed, RESULT, ALIVE and DONE are written, and the owner's
vector is raised with IE = 1; a byte out of reach stops it with ADDR_ERR. -/
def State.chkDone (s : State) (l : Lane) (u : Nat) : State :=
  let pg : Page := .chk l u
  match s.chkRun? l u with
  | none => s
  | some (x, p) =>
    let own := s.ownerChk l u
    let (bs, whole) := s.chkBytes l own x.src x.len
    let r := crcRun p (chkForm p (s.chkValue l u) % 2 ^ p.width) bs
    let fin := fun (s : State) =>
      let s := (s.chkStop l u).setBit pg F.CHK_STATUS_DONE
      if s.bit pg F.CHK_CFG_IE then s.vector l own u else s
    if !whole then fin ((s.setChkValue l u (chkForm p r)).setBit pg F.CHK_STATUS_ADDR_ERR)
    else
      let alive := s.fld pg F.CHK_ALIVE_ALIVE
      let r := if x.aliveIn then crcRun p r (natBe 4 alive) else r
      let v := chkForm p r
      let s := s.setChkValue l u v
      let res := v.xor p.xout
      let s := (s.wr pg .CHK_RESULT_LO 0 (BitVec.ofNat 32 res)).wr pg .CHK_RESULT_HI 0 (BitVec.ofNat 32 (res / 2 ^ 32))
      let s := if x.aliveInc then s.setFld pg F.CHK_ALIVE_ALIVE (alive + 1) else s
      fin s

/-- CHECK_VALUE_START (R304): CHK_GO of unit u is written 1. -/
def execCheckValueStart (l : Lane) (u : Fin 8) (s : State) : Host.Outcome State Fault Refusal :=
  if !s.laneUp l then ok s else ok (s.chkGo l u)

/-- CHECK_VALUE_DONE (R304): the operation that unit u runs ends. -/
def execCheckValueDone (l : Lane) (u : Fin 8) (s : State) : Host.Outcome State Fault Refusal :=
  if !s.laneUp l || !s.bit (.chk l u) F.CHK_STATUS_BUSY then ok s else ok (s.chkDone l u)

end Sys2Proof.Machine
end

