-- ==== Sys2Proof/Machine/ScribeWord.lean ====
section
/-!
DEFINITION. Scribe instruction words (R263): the opcodes, formats and costs of Table 11.5, and decoding and encoding of a
word. A word with a reserved opcode, or with a non-zero bit in a field that Table 11.3 shows as 0, decodes to nothing.
-/

namespace Sys2Proof.Machine
open Sys2Proof

/-- Opcode, format and cost in engine cycles (Table 11.5); a jump taken costs 3 and one not taken 1. -/
def sopInfo : SOp → Nat × SFmt × Nat
  | .nop_ => (0x00, .z, 1)
  | .ld_ => (0x01, .b, 1)
  | .ldn_ => (0x02, .b, 1)
  | .and_ => (0x03, .b, 1)
  | .andn_ => (0x04, .b, 1)
  | .or_ => (0x05, .b, 1)
  | .orn_ => (0x06, .b, 1)
  | .xor_ => (0x07, .b, 1)
  | .xorn_ => (0x08, .b, 1)
  | .push_ => (0x09, .z, 1)
  | .popand_ => (0x0A, .z, 1)
  | .popor_ => (0x0B, .z, 1)
  | .popxor_ => (0x0C, .z, 1)
  | .not_ => (0x0D, .z, 1)
  | .st_ => (0x10, .b, 1)
  | .stn_ => (0x11, .b, 1)
  | .s_ => (0x12, .b, 1)
  | .rst_ => (0x13, .b, 1)
  | .edger_ => (0x14, .m, 2)
  | .edgef_ => (0x15, .m, 2)
  | .ton_ => (0x18, .n, 3)
  | .tof_ => (0x19, .n, 3)
  | .tp_ => (0x1A, .n, 3)
  | .ctu_ => (0x1C, .n, 2)
  | .ctd_ => (0x1D, .n, 2)
  | .crst_ => (0x1E, .n, 2)
  | .cld_ => (0x1F, .n, 2)
  | .ldw_ => (0x20, .w, 2)
  | .stw_ => (0x21, .w, 2)
  | .ldi_ => (0x22, .i26, 1)
  | .lui_ => (0x23, .i16, 1)
  | .add_ => (0x24, .w, 2)
  | .sub_ => (0x25, .w, 2)
  | .andw_ => (0x26, .w, 2)
  | .orw_ => (0x27, .w, 2)
  | .xorw_ => (0x28, .w, 2)
  | .cmpeq_ => (0x2A, .w, 2)
  | .cmpgt_ => (0x2B, .w, 2)
  | .cmplt_ => (0x2C, .w, 2)
  | .fcmpgt_ => (0x2D, .w, 3)
  | .fcmplt_ => (0x2E, .w, 3)
  | .setq_ => (0x30, .e, 2)
  | .qmax_ => (0x31, .e, 2)
  | .jmp_ => (0x38, .j, 3)
  | .jmpc_ => (0x39, .j, 3)
  | .jmpcn_ => (0x3A, .j, 3)
  | .end_ => (0x3F, .z, 1)

/-- Every operation. -/
def sopAll : List SOp :=
  [.nop_, .ld_, .ldn_, .and_, .andn_, .or_, .orn_, .xor_, .xorn_, .push_, .popand_, .popor_, .popxor_,
   .not_, .st_, .stn_, .s_, .rst_, .edger_, .edgef_, .ton_, .tof_, .tp_, .ctu_, .ctd_, .crst_, .cld_,
   .ldw_, .stw_, .ldi_, .lui_, .add_, .sub_, .andw_, .orw_, .xorw_, .cmpeq_, .cmpgt_, .cmplt_,
   .fcmpgt_, .fcmplt_, .setq_, .qmax_, .jmp_, .jmpc_, .jmpcn_, .end_]

/-- The operation of an opcode. -/
def sopOf (c : Nat) : Option SOp := sopAll.find? (fun o => decide ((sopInfo o).1 = c))

/-- The number of bits a format's operand has: the address of formats B and W, the field of the others. -/
def sfmtBits : SFmt → Nat
  | .z => 0 | .b => 23 | .w => 23 | .m => 16 | .n => 10 | .e => 12 | .j => 16 | .i26 => 26 | .i16 => 16

/-- Has a format an area field? -/
def sfmtArea : SFmt → Bool
  | .b | .w => true
  | _ => false

/-- Is a Scribe instruction one that a word can hold: its operand within its field, and an area only where there is one? -/
def scribeWf (i : SIns) : Bool :=
  let f := (sopInfo i.op).2.1
  decide (i.arg < 2 ^ sfmtBits f) && (if sfmtArea f then decide (i.area < 8) else decide (i.area = 0))

/-- The word of a Scribe instruction. -/
def scribeEncode (i : SIns) : Nat := (sopInfo i.op).1 * 2 ^ 26 + i.area * 2 ^ 23 + i.arg

/-- The instruction of a 32-bit word. -/
def scribeDecode (w : Nat) : Option SIns :=
  match sopOf (w / 2 ^ 26) with
  | none => none
  | some o =>
    let f := (sopInfo o).2.1
    let x := w % 2 ^ 26
    if sfmtArea f then some ⟨o, x / 2 ^ 23, x % 2 ^ 23⟩
    else if x < 2 ^ sfmtBits f then some ⟨o, 0, x⟩
    else none

end Sys2Proof.Machine
end

