-- ==== Sys2Proof/Machine/Scribe.lean ====
section
/-!
DEFINITION. The Scribe engines: lattice, cycles and commands (R256 to R260), images (R261, R262), instructions (R263 to
R266), the watchdog and trips (R267 to R269), forcing (R270 to R272), and program change (R273, R274).
-/

namespace Sys2Proof.Machine
open Sys2Proof

/-! An engine's parts. -/

/-- What an engine holds beside its windows and registers. -/
def State.scr (s : State) (l : Lane) (k : Nat) : ScrSt := assocGetD (s.lane l).scr k .empty

/-- Store it. -/
def State.setScr (s : State) (l : Lane) (k : Nat) (x : ScrSt) : State :=
  s.setLane l { s.lane l with scr := assocPut (s.lane l).scr k x }

/-- SCR_STATUS.STATE of an engine: 0 STOPPED, 1 RUNNING, 2 TRIPPED. -/
def State.scrState (s : State) (l : Lane) (k : Nat) : Nat := s.fld (.scr l k) F.SCR_STATUS_STATE

/-- A configuration field of the bank the engine runs: after a switch it runs the old bank, which stands in the shadow
windows, until its program change (R273). -/
def State.scrCfg (s : State) (l : Lane) (k : Nat) (act sh : Fld) : Nat :=
  if (s.scr l k).change.isSome then s.fld (.scr l k) sh else s.fld (.scr l k) act

/-- An address in a window of the bank the engine runs. -/
def State.scrWin (s : State) (l : Lane) (k : Nat) (act sh : Win) (off : Nat) : Nat :=
  winAddr (.scr l k) (if (s.scr l k).change.isSome then sh else act) off

/-- N_IN, N_OUT, PERIOD (as a time), WD_CYC, SKIP_MAX and MODE of the bank the engine runs. -/
def State.scrNIn (s : State) (l : Lane) (k : Nat) : Nat := s.scrCfg l k F.SCR_SIZE_N_IN F.SCR_SH_SIZE_N_IN
def State.scrNOut (s : State) (l : Lane) (k : Nat) : Nat := s.scrCfg l k F.SCR_SIZE_N_OUT F.SCR_SH_SIZE_N_OUT
def State.scrPeriod (s : State) (l : Lane) (k : Nat) : Nat := s.scrCfg l k F.SCR_PERIOD_PERIOD F.SCR_SH_PERIOD_PERIOD * us
def State.scrWd (s : State) (l : Lane) (k : Nat) : Nat := s.scrCfg l k F.SCR_WDOG_WD_CYC F.SCR_SH_WDOG_WD_CYC
def State.scrSkipMax (s : State) (l : Lane) (k : Nat) : Nat := s.scrCfg l k F.SCR_MODE_SKIP_MAX F.SCR_SH_MODE_SKIP_MAX
def State.scrSkipMode (s : State) (l : Lane) (k : Nat) : Bool := decide (s.scrCfg l k F.SCR_MODE_MODE F.SCR_SH_MODE_MODE = 1)

/-- Count in SCR_CNTk. -/
def State.scrCnt (s : State) (l : Lane) (k n : Nat) : State := s.bump (.scr l k) F.SCR_CNT_COUNT n

/-- An output entry at rest: every word 0, CODE GOOD, TEST 0. -/
def OutEnt.rest : OutEnt := ⟨0, 0, false⟩

/-- The first lattice instant at or after a time, for PERIOD and OFFSET in µs (R257). -/
def latticeAt (period offset t : Nat) : Nat :=
  let p := period * us
  let o := offset * us
  if t ≤ o then o else o + (t - o + p - 1) / p * p

/-- ⌈c / WD_CYC⌉, at least 1: the periods over which a cycle with count c extends (R268). -/
def scrPeriods (c wd : Nat) : Nat := max 1 ((c + max wd 1 - 1) / max wd 1)

/-! Forces. -/

/-- The address of entry i of a force table. -/
def frcAct (l : Lane) (k i : Nat) : Nat := winAddr (.scr l k) .scrFrcAct (16 * i)
def frcSh (l : Lane) (k i : Nat) : Nat := winAddr (.scr l k) .scrFrcSh (16 * i)

/-- The entries a force table lists, rising. -/
def State.frcList (s : State) (a : Nat) : List Nat := ((s.range a 0x4000).map (fun e => e.1 / 16)).dedup

/-- The enabled entries of the active table, by address. -/
def State.forces (s : State) (l : Lane) (k : Nat) : List Nat :=
  ((s.frcList (frcAct l k 0)).map (frcAct l k)).filter (fun a => decide (s.ent a E.T11_6_EN = 1))

/-- A word under a mask. -/
def maskWord (w mask value : Nat) : Nat := w - w.land mask + value.land mask

/-- The value words of a point with a force entry applied. -/
def State.forceW (s : State) (a w : Nat) : Nat :=
  let i := s.ent a E.T11_6_WORD
  bitsPut w (32 * i + 31) (32 * i) (maskWord (bitsOf w (32 * i + 31) (32 * i)) (s.ent a E.T11_6_MASK) (s.ent a E.T11_6_VALUE))

/-- A record of a point with the engine's forces (R270). -/
def State.forceRec (s : State) (fs : List Nat) (p r : Nat) : Nat :=
  (fs.filter (fun a => decide (s.ent a E.T11_6_POINT = p))).foldl (fun r a =>
    let r := s.forceW a r
    if s.ent a E.T11_6_SET_CODE = 1 then bitsPut r 225 224 (s.ent a E.T11_6_FCODE) else r) r

/-- A posted record with the engine's forces (R270). -/
def State.forceOut (s : State) (fs : List Nat) (p : Nat) (o : OutEnt) : OutEnt :=
  (fs.filter (fun a => decide (s.ent a E.T11_6_POINT = p))).foldl (fun o a =>
    { o with w := s.forceW a o.w, code := if s.ent a E.T11_6_SET_CODE = 1 then s.ent a E.T11_6_FCODE else o.code }) o

/-- SCR_STATUS.FORCED follows the active table. -/
def State.forcedShow (s : State) (l : Lane) (k : Nat) : State :=
  s.setFld (.scr l k) F.SCR_STATUS_FORCED (b2n !(s.forces l k).isEmpty)

/-- The level of FORCEINDn (R272). -/
def State.forceInd (s : State) (l : Lane) : Bool :=
  s.laneUp l && (List.range 32).any (fun k => s.bit (.scr l k) F.SCR_STATUS_FORCED)

/-- FORCE_COMMIT (R271): each entry whose content changes raises one event, a set or a clear. -/
def State.forceCommit (s : State) (l : Lane) (k : Nat) : State :=
  let is := (s.frcList (frcAct l k 0) ++ s.frcList (frcSh l k 0)).dedup.mergeSort
  let s := is.foldl (fun s i =>
    let a := frcAct l k i
    let n := s.winWords (frcSh l k i) 4
    if s.winWords a 4 = n then s
    else
      let was := s.ent a E.T11_6_EN
      let p := s.ent a E.T11_6_POINT
      let s := s.setWinWords a 4 n
      if s.ent a E.T11_6_EN = 1 then
        (s.scrCnt l k 6).event (.lane l) (evCode bkSCR 2 0) (k * 65536 + i) (s.ent a E.T11_6_POINT)
      else if was = 1 then (s.scrCnt l k 6).event (.lane l) (evCode bkSCR 2 1) (k * 65536 + i) p
      else s) s
  s.forcedShow l k

/-- FORCE_RESET (R271): both tables are cleared, with one event. -/
def State.forceReset (s : State) (l : Lane) (k : Nat) : State :=
  let s := (s.clearRange (frcSh l k 0) 0x4000).clearRange (frcAct l k 0) 0x4000
  (s.event (.lane l) (evCode bkSCR 2 2) k 0).forcedShow l k

/-! Storage. -/

/-- The input entry's record. -/
def ScrSt.inRec (x : ScrSt) (e : Nat) : Nat := x.inp.getD e 0

/-- The output entry. -/
def ScrSt.out (x : ScrSt) (e : Nat) : OutEnt := assocGetD x.outp e .rest

/-- The validity bits of an input entry (R261). -/
def validBit (r k : Nat) : Bool :=
  let live := decide (recSrc r ≠ 0)
  match k with
  | 0 => live && decide (recCode r = 0)
  | 1 => live && decide (recCode r ≤ 1)
  | 2 => decide (recTest r = 1)
  | _ => decide (recLost r = 1)

/-- The causes of a fault as CAUSE shows them: ILLEGAL, ADDRESS, STACK_OVER, STACK_UNDER, PC_END. -/
def fIllegal : Nat := 3
def fAddress : Nat := 4
def fStackOver : Nat := 5
def fStackUnder : Nat := 6
def fPcEnd : Nat := 7

/-- The addresses of flag word n, and of the state of a timer and a counter. -/
def flagAddr (l : Lane) (k n : Nat) : Nat := winAddr (.scr l k) .scrFlags (4 * n)
def timAddr (l : Lane) (k n : Nat) : Nat := winAddr (.scr l k) .scrTimers (8 * n)
def cntAddr (l : Lane) (k n : Nat) : Nat := winAddr (.scr l k) .scrCounters (8 * n)

/-- Flag m. -/
def State.flag (s : State) (l : Lane) (k m : Nat) : Bool := bitAt (s.win (flagAddr l k (m / 32))).toNat (m % 32)

/-- Store flag m. -/
def State.setFlag (s : State) (l : Lane) (k m : Nat) (b : Bool) : State :=
  let a := flagAddr l k (m / 32)
  s.setWin a (BitVec.ofNat 32 (bitsPut (s.win a).toNat (m % 32) (m % 32) (b2n b)))

/-- The bit operand of formats B (Table 11.4): the bit, or the fault. -/
def State.scrBit (s : State) (l : Lane) (k area a : Nat) : Except Nat Bool :=
  let x := s.scr l k
  let chk := fun (n : Nat) (b : Bool) => if a < n then Except.ok b else .error fAddress
  match area with
  | 0 => if a / 256 < s.scrNIn l k then .ok (bitAt (x.inRec (a / 256)) (a % 256)) else .error fAddress
  | 1 => if a / 128 < s.scrNOut l k then .ok (bitAt (x.out (a / 128)).w (a % 128)) else .error fAddress
  | 2 => chk 65536 (s.flag l k a)
  | 3 => chk 1024 (bitAt (s.win (timAddr l k a + 4)).toNat 0)
  | 4 => chk 1024 (bitAt (s.win (cntAddr l k a + 4)).toNat 0)
  | 5 => if a / 4 < s.scrNIn l k then .ok (validBit (x.inRec (a / 4)) (a % 4)) else .error fAddress
  | 6 => chk 5 ([false, true, x.first, s.bit (.scr l k) F.SCR_STATUS_FORCED, x.skipped].getD a false)
  | _ => .error fIllegal

/-- Store a bit operand: areas Q and M only (R266). -/
def State.scrSetBit (s : State) (l : Lane) (k area a : Nat) (b : Bool) : Except Nat State :=
  match area with
  | 1 =>
    if a / 128 < s.scrNOut l k then
      let x := s.scr l k
      let o := x.out (a / 128)
      .ok (s.setScr l k { x with outp := assocPut x.outp (a / 128) { o with w := bitsPut o.w (a % 128) (a % 128) (b2n b) } })
    else .error fAddress
  | 2 => if a < 65536 then .ok (s.setFlag l k a b) else .error fAddress
  | _ => .error fIllegal

/-- May a bit operand be written: the fault it meets otherwise. -/
def State.scrCanSet (s : State) (l : Lane) (k area a : Nat) : Except Nat Unit :=
  match s.scrSetBit l k area a false with
  | .ok _ => .ok ()
  | .error e => .error e

/-- The word operand of format W (Table 11.4). -/
def State.scrWord (s : State) (l : Lane) (k area a : Nat) : Except Nat Nat :=
  let x := s.scr l k
  match area with
  | 0 => if a / 8 < s.scrNIn l k then .ok (bitsOf (x.inRec (a / 8)) (32 * (a % 8) + 31) (32 * (a % 8))) else .error fAddress
  | 1 => if a / 4 < s.scrNOut l k then .ok (bitsOf (x.out (a / 4)).w (32 * (a % 4) + 31) (32 * (a % 4))) else .error fAddress
  | 2 => if a < 2048 then .ok (s.win (flagAddr l k a)).toNat else .error fAddress
  | 3 => if a < 1024 then .ok (s.win (timAddr l k a)).toNat else .error fAddress
  | 4 => if a < 1024 then .ok (s.win (cntAddr l k a)).toNat else .error fAddress
  | 7 => .ok (unsignedOf 32 (signedOf 23 a))
  | _ => .error fIllegal

/-- Store a word operand: areas Q and M only (R266). -/
def State.scrSetWord (s : State) (l : Lane) (k area a v : Nat) : Except Nat State :=
  match area with
  | 1 =>
    if a / 4 < s.scrNOut l k then
      let x := s.scr l k
      let o := x.out (a / 4)
      .ok (s.setScr l k { x with outp := assocPut x.outp (a / 4) { o with w := bitsPut o.w (32 * (a % 4) + 31) (32 * (a % 4)) v } })
    else .error fAddress
  | 2 => if a < 2048 then .ok (s.setWin (flagAddr l k a) (BitVec.ofNat 32 v)) else .error fAddress
  | _ => .error fIllegal

/-! Timers and counters. -/

/-- The update of a timer (R265): kind 0 TON, 1 TOF, 2 TP; the new ELAPSED and Q. -/
def timerStep (kind : Nat) (inp prev : Bool) (elapsed : Nat) (q : Bool) (delta pt : Nat) : Nat × Bool :=
  match kind with
  | 0 =>
    if inp then
      let e := if prev then min (elapsed + delta) pt else elapsed
      (e, decide (pt ≤ e))
    else (0, false)
  | 1 =>
    if inp then (0, true)
    else if q then
      let e := if prev then elapsed else min (elapsed + delta) pt
      (e, !decide (pt ≤ e))
    else (elapsed, q)
  | _ =>
    if inp && !prev && !q then (0, decide (0 < pt))
    else if q then
      let e := min (elapsed + delta) pt
      (e, !decide (pt ≤ e))
    else (elapsed, q)

/-- The update of a counter (R265): CTU or CTD; the new CV and Q. -/
def counterStep (up inp prev : Bool) (cv pv : Int) : Int × Bool :=
  if up then
    let c := if inp && !prev then min (cv + 1) 2147483647 else cv
    (c, decide (pv ≤ c))
  else
    let c := if inp && !prev then max (cv - 1) (-2147483648) else cv
    (c, decide (c ≤ 0))

/-- Execute a timer instruction. -/
def State.scrTimer (s : State) (l : Lane) (k n kind : Nat) : State :=
  let x := s.scr l k
  let a := timAddr l k n
  let st := (s.win (a + 4)).toNat
  let pt := (s.win (s.scrWin l k .scrTpAct .scrTpSh (4 * n))).toNat
  let r := timerStep kind x.lbit (bitAt st 1) (s.win a).toNat (bitAt st 0) x.delta pt
  let s := s.setWin a (BitVec.ofNat 32 r.1)
  let s := s.setWin (a + 4) (BitVec.ofNat 32 (b2n r.2 + 2 * b2n x.lbit))
  s.setScr l k { x with lbit := r.2 }

/-- Execute CTU or CTD. -/
def State.scrCounter (s : State) (l : Lane) (k n : Nat) (up : Bool) : State :=
  let x := s.scr l k
  let a := cntAddr l k n
  let st := (s.win (a + 4)).toNat
  let pv := signedOf 32 (s.win (s.scrWin l k .scrCpAct .scrCpSh (4 * n))).toNat
  let r := counterStep up x.lbit (bitAt st 1) (signedOf 32 (s.win a).toNat) pv
  let s := s.setWin a (BitVec.ofNat 32 (unsignedOf 32 r.1))
  let s := s.setWin (a + 4) (BitVec.ofNat 32 (b2n r.2 + 2 * b2n x.lbit))
  s.setScr l k { x with lbit := r.2 }

/-! Instructions. -/

/-- LBIT after a bit instruction that reads its operand. -/
def scrBitOp (o : SOp) (lbit b : Bool) : Option Bool :=
  match o with
  | .ld_ => some b
  | .ldn_ => some !b
  | .and_ => some (lbit && b)
  | .andn_ => some (lbit && !b)
  | .or_ => some (lbit || b)
  | .orn_ => some (lbit || !b)
  | .xor_ => some (lbit ^^ b)
  | .xorn_ => some (lbit ^^ !b)
  | _ => none

/-- ACC after an arithmetic or logic word instruction. -/
def scrWordOp (o : SOp) (acc w : Nat) : Option Nat :=
  match o with
  | .ldw_ => some w
  | .add_ => some ((acc + w) % 2 ^ 32)
  | .sub_ => some ((acc + 2 ^ 32 - w) % 2 ^ 32)
  | .andw_ => some (acc.land w)
  | .orw_ => some (acc.lor w)
  | .xorw_ => some (acc.xor w)
  | _ => none

/-- LBIT after a comparison. -/
def scrCmpOp (o : SOp) (acc w : Nat) : Option Bool :=
  match o with
  | .cmpeq_ => some (decide (acc = w))
  | .cmpgt_ => some (decide (signedOf 32 w < signedOf 32 acc))
  | .cmplt_ => some (decide (signedOf 32 acc < signedOf 32 w))
  | .fcmpgt_ => some (fGt f32 acc w)
  | .fcmplt_ => some (fLt f32 acc w)
  | _ => none

/-- The bit stack: push and the three pops. -/
def scrStack (o : SOp) (x : ScrSt) : Except Nat ScrSt :=
  match o with
  | .push_ => if 32 ≤ x.stack.length then .error fStackOver else .ok { x with stack := x.lbit :: x.stack }
  | _ =>
    match x.stack with
    | [] => .error fStackUnder
    | b :: t =>
      let r := match o with
        | .popand_ => b && x.lbit
        | .popor_ => b || x.lbit
        | _ => b ^^ x.lbit
      .ok { x with lbit := r, stack := t }

/-- The effect of an instruction (R264, R266): the state after it, or the cause of its fault. Jumps and END change nothing
here. -/
def State.scrDo (s : State) (l : Lane) (k : Nat) (i : SIns) : Except Nat State :=
  let x := s.scr l k
  let put := fun (x : ScrSt) => (Except.ok (s.setScr l k x) : Except Nat State)
  let a := i.arg
  match i.op with
  | .nop_ | .jmp_ | .jmpc_ | .jmpcn_ | .end_ => .ok s
  | .ld_ | .ldn_ | .and_ | .andn_ | .or_ | .orn_ | .xor_ | .xorn_ =>
    match s.scrBit l k i.area a with
    | .error e => .error e
    | .ok b => put { x with lbit := (scrBitOp i.op x.lbit b).getD x.lbit }
  | .push_ | .popand_ | .popor_ | .popxor_ =>
    match scrStack i.op x with
    | .error e => .error e
    | .ok y => put y
  | .not_ => put { x with lbit := !x.lbit }
  | .st_ => s.scrSetBit l k i.area a x.lbit
  | .stn_ => s.scrSetBit l k i.area a !x.lbit
  | .s_ =>
    if x.lbit then s.scrSetBit l k i.area a true
    else
      match s.scrCanSet l k i.area a with
      | .error e => .error e
      | .ok _ => .ok s
  | .rst_ =>
    if x.lbit then s.scrSetBit l k i.area a false
    else
      match s.scrCanSet l k i.area a with
      | .error e => .error e
      | .ok _ => .ok s
  | .edger_ => .ok ((s.setFlag l k a x.lbit).setScr l k { x with lbit := x.lbit && !s.flag l k a })
  | .edgef_ => .ok ((s.setFlag l k a x.lbit).setScr l k { x with lbit := !x.lbit && s.flag l k a })
  | .ton_ => .ok (s.scrTimer l k a 0)
  | .tof_ => .ok (s.scrTimer l k a 1)
  | .tp_ => .ok (s.scrTimer l k a 2)
  | .ctu_ => .ok (s.scrCounter l k a true)
  | .ctd_ => .ok (s.scrCounter l k a false)
  | .crst_ => if x.lbit then .ok (s.setWin (cntAddr l k a) 0) else .ok s
  | .cld_ => if x.lbit then .ok (s.setWin (cntAddr l k a) (s.win (s.scrWin l k .scrCpAct .scrCpSh (4 * a)))) else .ok s
  | .ldw_ | .add_ | .sub_ | .andw_ | .orw_ | .xorw_ =>
    match s.scrWord l k i.area a with
    | .error e => .error e
    | .ok w => put { x with acc := (scrWordOp i.op x.acc w).getD x.acc }
  | .stw_ => s.scrSetWord l k i.area a x.acc
  | .ldi_ => put { x with acc := unsignedOf 32 (signedOf 26 a) }
  | .lui_ => put { x with acc := a * 65536 + x.acc % 65536 }
  | .cmpeq_ | .cmpgt_ | .cmplt_ | .fcmpgt_ | .fcmplt_ =>
    match s.scrWord l k i.area a with
    | .error e => .error e
    | .ok w => put { x with lbit := (scrCmpOp i.op x.acc w).getD x.lbit }
  | .setq_ =>
    if a < s.scrNOut l k then
      put { x with outp := assocPut x.outp a { x.out a with code := x.acc % 4, test := bitAt x.acc 2 } }
    else .error fAddress
  | .qmax_ =>
    if a < s.scrNIn l k then
      let r := x.inRec a
      put { x with acc := x.acc / 8 * 8 + max (x.acc % 4) (recCode r) + 4 * b2n (bitAt x.acc 2 || decide (recTest r = 1)) }
    else .error fAddress

/-- Is a jump taken? -/
def scrTaken (o : SOp) (lbit : Bool) : Bool :=
  match o with
  | .jmp_ => true
  | .jmpc_ => lbit
  | .jmpcn_ => !lbit
  | _ => false

/-- The cost of an instruction in engine cycles (Table 11.5). -/
def scrCost (o : SOp) (lbit : Bool) : Nat :=
  match o with
  | .jmpc_ | .jmpcn_ => if scrTaken o lbit then 3 else 1
  | _ => (sopInfo o).2.2

/-! Posting. -/

/-- Post an engine's waiting writes while the pending queue has room; the others wait (R243). -/
def State.scrPost (s : State) (l : Lane) (k : Nat) : Nat → State
  | 0 => s
  | fuel + 1 =>
    let x := s.scr l k
    match x.posts with
    | [] => s.mapGo l (.scribe k)
    | w :: t =>
      if !s.mapRoom l 1 then s.mapWait l (.scribe k)
      else (((s.setScr l k { x with posts := t }).mapPost l 2 w).scrCnt l k 3).scrPost l k fuel

/-- Entry e of the output list of the bank the engine runs. -/
def State.outEnt (s : State) (l : Lane) (k e : Nat) : Nat := s.scrWin l k .scrOutAct .scrOutSh (32 * e)

/-- Queue writes of output entries with an effective time, and post them. -/
def State.scrSend (s : State) (l : Lane) (k e : Nat) (outs : List (Nat × Nat × OutEnt)) : State :=
  let x := s.scr l k
  let own := s.ownerScribe l k
  let ws := outs.map (fun o => (⟨some e, none, o.2.1, mkRec o.2.2.w (toT96 e) o.2.2.code o.2.2.test false 2 false 0, own⟩ : MapW))
  let posted := outs.foldl (fun p o => assocPut p o.1 o.2.2) x.posted
  let s := s.setScr l k { x with posts := x.posts ++ ws, posted := posted }
  s.scrPost l k ((s.scr l k).posts.length + 1)

/-- A cycle ends with count c: SCR_CYC_MAX. -/
def State.scrEnds (s : State) (l : Lane) (k : Nat) : State :=
  let x := s.scr l k
  let pg : Page := .scr l k
  let s := s.setFld pg F.SCR_CYC_MAX_CYC (min (max (s.fld pg F.SCR_CYC_MAX_CYC) x.c) (2 ^ 32 - 1))
  let s := s.setFld pg F.SCR_STATUS_EXTENDING 0
  s.setScr l k { x with run := false, prev := some x.s }

/-- The outputs a completed cycle posts (R262): entry, point and posted record. -/
def State.scrOuts (s : State) (l : Lane) (k : Nat) : List (Nat × Nat × OutEnt) :=
  let x := s.scr l k
  let fs := s.forces l k
  (List.range (s.scrNOut l k)).filterMap (fun e =>
    let a := s.outEnt l k e
    if s.ent a E.T11_2_VALID = 0 then none
    else
      let p := s.ent a E.T11_2_POINT
      let o := s.forceOut fs p (x.out e)
      if s.ent a E.T11_2_ALWAYS = 1 || x.first || decide (assocGetD x.posted e .rest ≠ o) then some (e, p, o) else none)

/-- END completes (R262, R268). -/
def State.scrEnd (s : State) (l : Lane) (k : Nat) : State :=
  let x := s.scr l k
  let n := if s.scrSkipMode l k then scrPeriods x.c (s.scrWd l k) else 1
  let e := x.s + n * s.scrPeriod l k
  let outs := s.scrOuts l k
  let s := s.scrEnds l k
  let s := s.setScr l k { s.scr l k with nextAt := e, skipNext := decide (1 < n) }
  s.scrSend l k e outs

/-- A trip (R269): the safe image is posted with the given E and copied into the output image; the engine is TRIPPED, with
its event and its vector. -/
def State.scrTrip (s : State) (l : Lane) (k cause pc e : Nat) : State :=
  let pg : Page := .scr l k
  let fs := s.forces l k
  let safe := (List.range (s.scrNOut l k)).filterMap (fun i =>
    let a := s.outEnt l k i
    if s.ent a E.T11_2_VALID = 0 ∨ s.ent a E.T11_2_SAFE_EN = 0 then none
    else
      some (i, s.ent a E.T11_2_POINT,
        (⟨s.winWords (a + 8) 4, s.ent a E.T11_2_SAFE_CODE, decide (s.ent a E.T11_2_SAFE_TEST = 1)⟩ : OutEnt)))
  let s := s.scrEnds l k
  let x := s.scr l k
  let s := s.setScr l k { x with outp := safe.foldl (fun o r => assocPut o r.1 r.2.2) x.outp, nextAt := e, skipNext := false }
  let s := s.scrSend l k e (safe.map (fun r => (r.1, r.2.1, s.forceOut fs r.2.1 r.2.2)))
  let s := s.setFld pg F.SCR_STATUS_STATE 2
  let s := s.setFld pg F.SCR_STATUS_CAUSE cause
  let s := s.setFld pg F.SCR_STATUS_TRIP_PC pc
  let s := s.bumpEv (.lane l) pg F.SCR_CNT_COUNT 2 bkSCR 0 k
  s.vector l (s.ownerScribe l k) (10 + k)

/-- A fault ends the cycle at once (R266). -/
def State.scrFault (s : State) (l : Lane) (k cause pc : Nat) : State :=
  let x := s.scr l k
  let n := if s.scrSkipMode l k then scrPeriods x.c (s.scrWd l k) else 1
  s.scrTrip l k cause pc (x.s + n * s.scrPeriod l k)

/-- The boundary after an instruction: the budget of R267 or R268, then the end of program memory. -/
def State.scrBoundary (s : State) (l : Lane) (k pc next : Nat) : State :=
  let x := s.scr l k
  let wd := s.scrWd l k
  let p := s.scrPeriod l k
  let skip := s.scrSkipMode l k
  let lim := if skip then (1 + s.scrSkipMax l k) * wd else wd
  if lim ≤ x.c then
    if skip then s.scrTrip l k 2 pc (x.s + (1 + s.scrSkipMax l k) * p) else s.scrTrip l k 1 pc (x.s + p)
  else if 65535 < next then s.scrFault l k fPcEnd pc
  else
    let s := s.setScr l k { x with pc := next }
    if wd < x.c then s.setFld (.scr l k) F.SCR_STATUS_EXTENDING 1 else s

/-- The word at an engine's PC. -/
def State.scrFetch (s : State) (l : Lane) (k : Nat) : Nat :=
  (s.win (s.scrWin l k .scrPrgAct .scrPrgSh (4 * (s.scr l k).pc))).toNat

/-- A running engine executes the instruction at its PC, when it is of operation `o`; a word that is no instruction faults
under any row (R264, R266). -/
def State.scrStep (s : State) (l : Lane) (k : Nat) (o : SOp) : State :=
  let x := s.scr l k
  if !s.laneUp l || !x.run then s
  else
    match scribeDecode (s.scrFetch l k) with
    | none => s.scrFault l k fIllegal x.pc
    | some i =>
      if i.op ≠ o then s
      else
        match s.scrDo l k i with
        | .error c => s.scrFault l k c x.pc
        | .ok s' =>
          let y := s'.scr l k
          let s' := s'.setScr l k { y with c := y.c + scrCost o x.lbit }
          if o = .end_ then s'.scrEnd l k
          else s'.scrBoundary l k x.pc (if scrTaken o x.lbit then i.arg else x.pc + 1)

/-! Commands and cycles. -/

/-- RESTART at a lattice instant (Table 11.1). -/
def State.scrRestart (s : State) (l : Lane) (k : Nat) : State :=
  let pg : Page := .scr l k
  if s.scrState l k = 1 ∨ s.scrPeriod l k = 0 then s.scrCnt l k 5
  else
    let s := s.clearRange (flagAddr l k 0) 0x6000
    let x := s.scr l k
    let s := s.setScr l k { x with outp := [], posted := [], firstNext := true, prev := none }
    let s := s.setFld pg F.SCR_STATUS_CAUSE 0
    let s := s.setFld pg F.SCR_STATUS_TRIP_PC 0
    s.setFld pg F.SCR_STATUS_STATE 1

/-- Execute one command (Table 11.1). -/
def State.scrCmd (s : State) (l : Lane) (k op : Nat) : State :=
  match op with
  | 1 => s.scrRestart l k
  | 2 => s.setFld (.scr l k) F.SCR_STATUS_STATE 0
  | 3 => s.forceCommit l k
  | 4 => s.forceReset l k
  | _ => s.scrCnt l k 5

/-- CMD_DEPTH follows the queue. -/
def State.scrDepth (s : State) (l : Lane) (k : Nat) : State :=
  s.setFld (.scr l k) F.SCR_STATUS_CMD_DEPTH (s.scr l k).queue.length

/-- Execute, in queue order, every queued command whose AT is at or before an instant (R260). -/
def State.scrDue (s : State) (l : Lane) (k t : Nat) : State :=
  let x := s.scr l k
  let due := x.queue.filter (fun c => decide (c.2 ≤ t))
  let s := s.setScr l k { x with queue := x.queue.filter (fun c => decide (t < c.2)) }
  (due.foldl (fun s c => s.scrCmd l k c.1) s).scrDepth l k

/-- The program change (R273, R274): the engine takes the bank that the switch made active. -/
def State.scrChange (s : State) (l : Lane) (k : Nat) : State :=
  let pg : Page := .scr l k
  let x := s.scr l k
  if x.change.isNone then s
  else
    let oldTag := s.fld pg F.SCR_SH_RETAIN_RETAIN_TAG
    let newTag := s.fld pg F.SCR_RETAIN_RETAIN_TAG
    let s := if oldTag = newTag ∧ newTag ≠ 0 then s else s.clearRange (flagAddr l k 0) 0x6000
    let same := fun (e : Nat) =>
      let a := winAddr pg .scrOutAct (32 * e)
      let b := winAddr pg .scrOutSh (32 * e)
      decide (s.ent a E.T11_2_VALID = 1 ∧ s.ent b E.T11_2_VALID = 1 ∧ s.ent a E.T11_2_POINT = s.ent b E.T11_2_POINT)
    let s := s.setScr l k { x with change := none, outp := x.outp.filter (fun o => same o.1), posted := [], firstNext := true }
    let s := s.setFld pg F.SCR_STATUS_OLD_BUSY 0
    s.setFld pg F.SCR_STATUS_BANK (1 - s.fld pg F.SCR_STATUS_BANK)

/-- The points of the input list. -/
def State.scrInputs (s : State) (l : Lane) (k : Nat) : List Nat :=
  (List.range (s.scrNIn l k)).map (fun e => (s.win (s.scrWin l k .scrInAct .scrInSh (4 * e))).toNat % 2 ^ 23)

/-- The snapshot of a cycle that starts at s is taken and its program starts (R258 steps 2 and 3, R261, R270). -/
def State.scrImage (s : State) (l : Lane) (k : Nat) : State :=
  let x := s.scr l k
  let pts := s.scrInputs l k
  let (s, recs) := s.snapshot l (x.s - s.hold l) pts
  let own := s.ownerScribe l k
  let fs := s.forces l k
  let inp := (pts.zip recs).map (fun e => s.forceRec fs e.1 (if s.mayRead l own e.1 then e.2 else initRec))
  s.setScr l k { x with inp := inp, run := true, waiting := false, pc := 0, lbit := false, acc := 0, stack := [], c := 0 }

/-- Start a cycle at t. -/
def State.scrCycle (s : State) (l : Lane) (k t : Nat) : State :=
  let x := s.scr l k
  let first := x.firstNext
  let delta := if first then 0 else
    match x.prev with
    | some p => (t - p) / us
    | none => 0
  let s := s.setScr l k { x with s := t, first := first, skipped := x.skipNext, delta := delta, firstNext := false, skipNext := false }
  let s := s.scrCnt l k 0
  if s.bit (.map l) F.MAP_CTRL_EN then s.scrImage l k
  else
    let m := (s.lane l).map
    (s.setMap l { m with snaps := m.snaps ++ [.scribe k (t - s.hold l)] }).setScr l k { s.scr l k with waiting := true }

/-- The next lattice instant of an engine whose last cycle has ended, at or after a given time when it is not RUNNING: due
commands, the program change, and a cycle when the engine is RUNNING and its owner's work runs (R258, R260, R273, R347). -/
def State.scrLattice (s : State) (l : Lane) (k b : Nat) : State :=
  let pg : Page := .scr l k
  let x := s.scr l k
  let gc := x.change.getD 0
  if !s.laneUp l || x.run || x.waiting || !x.posts.isEmpty then s
  else if s.fld pg F.SCR_PERIOD_PERIOD = 0 then
    if x.change.isSome then (s.reachLane l gc).scrChange l k else s
  else
    let p := s.fld pg F.SCR_PERIOD_PERIOD
    let running := decide (s.scrState l k = 1)
    let lb := if running then max x.nextAt gc else max (max (s.laneNow l) b) (max (x.lastAt + 1) gc)
    let t := latticeAt p (s.fld pg F.SCR_OFFSET_OFFSET) lb
    let old := s.scrPeriod l k
    let missed := if running && x.skipNext && decide (0 < old) then (x.nextAt - x.lastAt) / old - 1 else 0
    let s := s.bump pg F.SCR_CNT_COUNT 1 missed
    let s := s.reachLane l t
    let s := s.scrChange l k
    let s := s.setScr l k { s.scr l k with lastAt := t, nextAt := t + p * us }
    let s := s.scrDue l k t
    if s.scrState l k = 1 && s.ownerRuns l (s.ownerScribe l k) then s.scrCycle l k t else s

/-- Post a command with its activation time (R260). -/
def State.scrEnqueue (s : State) (l : Lane) (k op at_ : Nat) : State :=
  let pg : Page := .scr l k
  let x := s.scr l k
  if 4 ≤ x.queue.length then s.scrCnt l k 5
  else
    let p := s.scrPeriod l k
    if p = 0 then
      if at_ < s.laneNow l then (s.scrCnt l k 4).scrCmd l k op
      else (s.setScr l k { x with queue := x.queue ++ [(op, at_)] }).scrDepth l k
    else
      let now := s.laneNow l
      let o := s.scrCfg l k F.SCR_OFFSET_OFFSET F.SCR_SH_OFFSET_OFFSET * us
      let lastLat := if now < o then none else some (o + (now - o) / p * p)
      let late := match lastLat with
        | some t => decide (at_ ≤ t)
        | none => false
      let s := if late then s.scrCnt l k 4 else s
      ((s.setScr l k { x with queue := x.queue ++ [(op, at_)] }).scrDepth l k).setFld pg F.SCR_CMD_OP op

/-- A write of 1 to SCR_CMD_GO: the command and the AT that SCR_AT_SEC and SCR_AT_US give are posted (R260, R473). -/
def State.scrGo (s : State) (l : Lane) (k : Nat) : State :=
  let pg : Page := .scr l k
  let at_ := secNear (s.laneNow l / sec) (s.fld pg F.SCR_AT_SEC_SEC) * sec + s.fld pg F.SCR_AT_US_US * us
  s.scrEnqueue l k (s.fld pg F.SCR_CMD_OP) at_

/-- An engine whose active PERIOD is 0 takes the bank of a pending change if its instant comes at or before a time: the first one
of the new lattice at or after g_c, or g_c itself while the new PERIOD is 0 too (R273). -/
def State.scrChangeBy (s : State) (l : Lane) (k at_ : Nat) : State :=
  match (s.scr l k).change with
  | none => s
  | some gc =>
    let pg : Page := .scr l k
    let p := s.fld pg F.SCR_PERIOD_PERIOD
    let t := if p = 0 then gc else latticeAt p (s.fld pg F.SCR_OFFSET_OFFSET) (max gc (s.laneNow l))
    if s.scrPeriod l k ≠ 0 ∨ at_ < t then s
    else if p = 0 then (s.reachLane l t).scrChange l k
    else s.scrLattice l k t

/-- The command at the head of the queue of an engine whose active PERIOD is 0 executes when the clock reaches its AT (R260); a
change of program that comes first gives the engine its lattice. -/
def State.scrAt (s : State) (l : Lane) (k : Nat) : State :=
  match (s.scr l k).queue with
  | (_, at_) :: _ =>
    let s := s.scrChangeBy l k at_
    match (s.scr l k).queue with
    | (op, at_) :: t =>
      if s.scrPeriod l k ≠ 0 then s
      else
        let s := s.reachLane l at_
        ((s.setScr l k { s.scr l k with queue := t }).scrCmd l k op).scrDepth l k
    | [] => s
  | [] => s

/-- An engine that is not RUNNING passes the lattice instants at which its queued commands of AT up to a time are due (R260). -/
def State.scrRunTo (s : State) (l : Lane) (k at_ : Nat) : Nat → State
  | 0 => s
  | fuel + 1 =>
    match firstKey (fun a b => decide (a < b)) ((s.scr l k).queue.map (fun c => c.2)) with
    | none => s
    | some a => if at_ < a ∨ s.scrState l k = 1 then s else (s.scrLattice l k a).scrRunTo l k at_ fuel

/-- A command is written, posted, and takes effect at its instant when the engine's next lattice instant is that instant:
an engine that runs cycles before it keeps the command queued. -/
def State.scrCommand (s : State) (l : Lane) (k op : Nat) (secs : Word) (usecs : Nat) : State :=
  let pg : Page := .scr l k
  if !s.laneUp l then s
  else
    let s := s.setFld pg F.SCR_CMD_OP op
    let s := s.wr pg .SCR_AT_SEC 0 secs
    let s := s.setFld pg F.SCR_AT_US_US usecs
    let full := decide (4 ≤ (s.scr l k).queue.length)
    let at_ := secNear (s.laneNow l / sec) secs.toNat * sec + usecs * us
    let s := s.scrGo l k
    if full then s
    else if s.scrPeriod l k = 0 then
      let s := s.scrAt l k
      if s.scrPeriod l k = 0 then s else s.scrRunTo l k at_ 5
    else if s.scrState l k = 1 then (if at_ ≤ (s.scr l k).nextAt then s.scrLattice l k 0 else s)
    else s.scrRunTo l k at_ 5

/-! The commands of the block. -/

/-- SCRIBE_CYCLE_START (R258): the followed clock reaches the engine's next lattice instant. -/
def execScribeCycleStart (l : Lane) (k : Fin 32) (s : State) : Host.Outcome State Fault Refusal := ok (s.scrLattice l k 0)

/-- SKIPPED_LATTICE_INSTANT (R268): a lattice instant within an extended cycle starts nothing and counts SKIPS. -/
def execSkippedLatticeInstant (l : Lane) (k : Fin 32) (s : State) : Host.Outcome State Fault Refusal :=
  let x := s.scr l k
  let p := s.scrPeriod l k
  let till := if x.run then x.s + scrPeriods x.c (s.scrWd l k) * p else x.nextAt
  if !s.laneUp l || decide (s.scrState l k ≠ 1) || !s.scrSkipMode l k || decide (p = 0) || decide (till ≤ x.lastAt + p) then ok s
  else
    let s := s.reachLane l (x.lastAt + p)
    ok ((s.setScr l k { s.scr l k with lastAt := x.lastAt + p }).scrCnt l k 1)

/-- NOP (Table 11.5): engine k of a lane executes the instruction at its PC, which is NOP. -/
def execScrNop (l : Lane) (k : Fin 32) (s : State) : Host.Outcome State Fault Refusal := ok (s.scrStep l k .nop_)

/-- LD (Table 11.5): engine k of a lane executes the instruction at its PC, which is LD. -/
def execScrLd (l : Lane) (k : Fin 32) (s : State) : Host.Outcome State Fault Refusal := ok (s.scrStep l k .ld_)

/-- LDN (Table 11.5): engine k of a lane executes the instruction at its PC, which is LDN. -/
def execScrLdn (l : Lane) (k : Fin 32) (s : State) : Host.Outcome State Fault Refusal := ok (s.scrStep l k .ldn_)

/-- AND (Table 11.5): engine k of a lane executes the instruction at its PC, which is AND. -/
def execScrAnd (l : Lane) (k : Fin 32) (s : State) : Host.Outcome State Fault Refusal := ok (s.scrStep l k .and_)

/-- ANDN (Table 11.5): engine k of a lane executes the instruction at its PC, which is ANDN. -/
def execScrAndn (l : Lane) (k : Fin 32) (s : State) : Host.Outcome State Fault Refusal := ok (s.scrStep l k .andn_)

/-- OR (Table 11.5): engine k of a lane executes the instruction at its PC, which is OR. -/
def execScrOr (l : Lane) (k : Fin 32) (s : State) : Host.Outcome State Fault Refusal := ok (s.scrStep l k .or_)

/-- ORN (Table 11.5): engine k of a lane executes the instruction at its PC, which is ORN. -/
def execScrOrn (l : Lane) (k : Fin 32) (s : State) : Host.Outcome State Fault Refusal := ok (s.scrStep l k .orn_)

/-- XOR (Table 11.5): engine k of a lane executes the instruction at its PC, which is XOR. -/
def execScrXor (l : Lane) (k : Fin 32) (s : State) : Host.Outcome State Fault Refusal := ok (s.scrStep l k .xor_)

/-- XORN (Table 11.5): engine k of a lane executes the instruction at its PC, which is XORN. -/
def execScrXorn (l : Lane) (k : Fin 32) (s : State) : Host.Outcome State Fault Refusal := ok (s.scrStep l k .xorn_)

/-- PUSH (Table 11.5): engine k of a lane executes the instruction at its PC, which is PUSH. -/
def execScrPush (l : Lane) (k : Fin 32) (s : State) : Host.Outcome State Fault Refusal := ok (s.scrStep l k .push_)

/-- POPAND (Table 11.5): engine k of a lane executes the instruction at its PC, which is POPAND. -/
def execScrPopand (l : Lane) (k : Fin 32) (s : State) : Host.Outcome State Fault Refusal := ok (s.scrStep l k .popand_)

/-- POPOR (Table 11.5): engine k of a lane executes the instruction at its PC, which is POPOR. -/
def execScrPopor (l : Lane) (k : Fin 32) (s : State) : Host.Outcome State Fault Refusal := ok (s.scrStep l k .popor_)

/-- POPXOR (Table 11.5): engine k of a lane executes the instruction at its PC, which is POPXOR. -/
def execScrPopxor (l : Lane) (k : Fin 32) (s : State) : Host.Outcome State Fault Refusal := ok (s.scrStep l k .popxor_)

/-- NOT (Table 11.5): engine k of a lane executes the instruction at its PC, which is NOT. -/
def execScrNot (l : Lane) (k : Fin 32) (s : State) : Host.Outcome State Fault Refusal := ok (s.scrStep l k .not_)

/-- ST (Table 11.5): engine k of a lane executes the instruction at its PC, which is ST. -/
def execScrSt (l : Lane) (k : Fin 32) (s : State) : Host.Outcome State Fault Refusal := ok (s.scrStep l k .st_)

/-- STN (Table 11.5): engine k of a lane executes the instruction at its PC, which is STN. -/
def execScrStn (l : Lane) (k : Fin 32) (s : State) : Host.Outcome State Fault Refusal := ok (s.scrStep l k .stn_)

/-- S (Table 11.5): engine k of a lane executes the instruction at its PC, which is S. -/
def execScrS (l : Lane) (k : Fin 32) (s : State) : Host.Outcome State Fault Refusal := ok (s.scrStep l k .s_)

/-- RST (Table 11.5): engine k of a lane executes the instruction at its PC, which is RST. -/
def execScrRst (l : Lane) (k : Fin 32) (s : State) : Host.Outcome State Fault Refusal := ok (s.scrStep l k .rst_)

/-- EDGER (Table 11.5): engine k of a lane executes the instruction at its PC, which is EDGER. -/
def execScrEdger (l : Lane) (k : Fin 32) (s : State) : Host.Outcome State Fault Refusal := ok (s.scrStep l k .edger_)

/-- EDGEF (Table 11.5): engine k of a lane executes the instruction at its PC, which is EDGEF. -/
def execScrEdgef (l : Lane) (k : Fin 32) (s : State) : Host.Outcome State Fault Refusal := ok (s.scrStep l k .edgef_)

/-- TON (Table 11.5): engine k of a lane executes the instruction at its PC, which is TON. -/
def execScrTon (l : Lane) (k : Fin 32) (s : State) : Host.Outcome State Fault Refusal := ok (s.scrStep l k .ton_)

/-- TOF (Table 11.5): engine k of a lane executes the instruction at its PC, which is TOF. -/
def execScrTof (l : Lane) (k : Fin 32) (s : State) : Host.Outcome State Fault Refusal := ok (s.scrStep l k .tof_)

/-- TP (Table 11.5): engine k of a lane executes the instruction at its PC, which is TP. -/
def execScrTp (l : Lane) (k : Fin 32) (s : State) : Host.Outcome State Fault Refusal := ok (s.scrStep l k .tp_)

/-- CTU (Table 11.5): engine k of a lane executes the instruction at its PC, which is CTU. -/
def execScrCtu (l : Lane) (k : Fin 32) (s : State) : Host.Outcome State Fault Refusal := ok (s.scrStep l k .ctu_)

/-- CTD (Table 11.5): engine k of a lane executes the instruction at its PC, which is CTD. -/
def execScrCtd (l : Lane) (k : Fin 32) (s : State) : Host.Outcome State Fault Refusal := ok (s.scrStep l k .ctd_)

/-- CRST (Table 11.5): engine k of a lane executes the instruction at its PC, which is CRST. -/
def execScrCrst (l : Lane) (k : Fin 32) (s : State) : Host.Outcome State Fault Refusal := ok (s.scrStep l k .crst_)

/-- CLD (Table 11.5): engine k of a lane executes the instruction at its PC, which is CLD. -/
def execScrCld (l : Lane) (k : Fin 32) (s : State) : Host.Outcome State Fault Refusal := ok (s.scrStep l k .cld_)

/-- LDW (Table 11.5): engine k of a lane executes the instruction at its PC, which is LDW. -/
def execScrLdw (l : Lane) (k : Fin 32) (s : State) : Host.Outcome State Fault Refusal := ok (s.scrStep l k .ldw_)

/-- STW (Table 11.5): engine k of a lane executes the instruction at its PC, which is STW. -/
def execScrStw (l : Lane) (k : Fin 32) (s : State) : Host.Outcome State Fault Refusal := ok (s.scrStep l k .stw_)

/-- LDI (Table 11.5): engine k of a lane executes the instruction at its PC, which is LDI. -/
def execScrLdi (l : Lane) (k : Fin 32) (s : State) : Host.Outcome State Fault Refusal := ok (s.scrStep l k .ldi_)

/-- LUI (Table 11.5): engine k of a lane executes the instruction at its PC, which is LUI. -/
def execScrLui (l : Lane) (k : Fin 32) (s : State) : Host.Outcome State Fault Refusal := ok (s.scrStep l k .lui_)

/-- ADD (Table 11.5): engine k of a lane executes the instruction at its PC, which is ADD. -/
def execScrAdd (l : Lane) (k : Fin 32) (s : State) : Host.Outcome State Fault Refusal := ok (s.scrStep l k .add_)

/-- SUB (Table 11.5): engine k of a lane executes the instruction at its PC, which is SUB. -/
def execScrSub (l : Lane) (k : Fin 32) (s : State) : Host.Outcome State Fault Refusal := ok (s.scrStep l k .sub_)

/-- ANDW (Table 11.5): engine k of a lane executes the instruction at its PC, which is ANDW. -/
def execScrAndw (l : Lane) (k : Fin 32) (s : State) : Host.Outcome State Fault Refusal := ok (s.scrStep l k .andw_)

/-- ORW (Table 11.5): engine k of a lane executes the instruction at its PC, which is ORW. -/
def execScrOrw (l : Lane) (k : Fin 32) (s : State) : Host.Outcome State Fault Refusal := ok (s.scrStep l k .orw_)

/-- XORW (Table 11.5): engine k of a lane executes the instruction at its PC, which is XORW. -/
def execScrXorw (l : Lane) (k : Fin 32) (s : State) : Host.Outcome State Fault Refusal := ok (s.scrStep l k .xorw_)

/-- CMPEQ (Table 11.5): engine k of a lane executes the instruction at its PC, which is CMPEQ. -/
def execScrCmpeq (l : Lane) (k : Fin 32) (s : State) : Host.Outcome State Fault Refusal := ok (s.scrStep l k .cmpeq_)

/-- CMPGT (Table 11.5): engine k of a lane executes the instruction at its PC, which is CMPGT. -/
def execScrCmpgt (l : Lane) (k : Fin 32) (s : State) : Host.Outcome State Fault Refusal := ok (s.scrStep l k .cmpgt_)

/-- CMPLT (Table 11.5): engine k of a lane executes the instruction at its PC, which is CMPLT. -/
def execScrCmplt (l : Lane) (k : Fin 32) (s : State) : Host.Outcome State Fault Refusal := ok (s.scrStep l k .cmplt_)

/-- FCMPGT (Table 11.5): engine k of a lane executes the instruction at its PC, which is FCMPGT. -/
def execScrFcmpgt (l : Lane) (k : Fin 32) (s : State) : Host.Outcome State Fault Refusal := ok (s.scrStep l k .fcmpgt_)

/-- FCMPLT (Table 11.5): engine k of a lane executes the instruction at its PC, which is FCMPLT. -/
def execScrFcmplt (l : Lane) (k : Fin 32) (s : State) : Host.Outcome State Fault Refusal := ok (s.scrStep l k .fcmplt_)

/-- SETQ (Table 11.5): engine k of a lane executes the instruction at its PC, which is SETQ. -/
def execScrSetq (l : Lane) (k : Fin 32) (s : State) : Host.Outcome State Fault Refusal := ok (s.scrStep l k .setq_)

/-- QMAX (Table 11.5): engine k of a lane executes the instruction at its PC, which is QMAX. -/
def execScrQmax (l : Lane) (k : Fin 32) (s : State) : Host.Outcome State Fault Refusal := ok (s.scrStep l k .qmax_)

/-- JMP (Table 11.5): engine k of a lane executes the instruction at its PC, which is JMP. -/
def execScrJmp (l : Lane) (k : Fin 32) (s : State) : Host.Outcome State Fault Refusal := ok (s.scrStep l k .jmp_)

/-- JMPC (Table 11.5): engine k of a lane executes the instruction at its PC, which is JMPC. -/
def execScrJmpc (l : Lane) (k : Fin 32) (s : State) : Host.Outcome State Fault Refusal := ok (s.scrStep l k .jmpc_)

/-- JMPCN (Table 11.5): engine k of a lane executes the instruction at its PC, which is JMPCN. -/
def execScrJmpcn (l : Lane) (k : Fin 32) (s : State) : Host.Outcome State Fault Refusal := ok (s.scrStep l k .jmpcn_)

/-- END (Table 11.5): engine k of a lane executes the instruction at its PC, which is END. -/
def execScrEnd (l : Lane) (k : Fin 32) (s : State) : Host.Outcome State Fault Refusal := ok (s.scrStep l k .end_)

/-- RESTART (R260). -/
def execScribeRestart (l : Lane) (k : Fin 32) (secs : Word) (usecs : Fin 1000000) (s : State) : Host.Outcome State Fault Refusal :=
  ok (s.scrCommand l k 1 secs usecs)

/-- STOP (R260). -/
def execScribeStop (l : Lane) (k : Fin 32) (secs : Word) (usecs : Fin 1000000) (s : State) : Host.Outcome State Fault Refusal :=
  ok (s.scrCommand l k 2 secs usecs)

/-- FORCE_COMMIT (R271). -/
def execForceCommit (l : Lane) (k : Fin 32) (secs : Word) (usecs : Fin 1000000) (s : State) : Host.Outcome State Fault Refusal :=
  ok (s.scrCommand l k 3 secs usecs)

/-- FORCE_RESET (R271). -/
def execForceReset (l : Lane) (k : Fin 32) (secs : Word) (usecs : Fin 1000000) (s : State) : Host.Outcome State Fault Refusal :=
  ok (s.scrCommand l k 4 secs usecs)

/-- SCRIBE_COMMAND_NOP (R260): a command with OP 0, 5, 6 or 7. -/
def execScribeCommandNop (l : Lane) (k : Fin 32) (op : Fin 4) (secs : Word) (usecs : Fin 1000000) (s : State) : Host.Outcome State Fault Refusal :=
  ok (s.scrCommand l k (if op.val = 0 then 0 else 4 + op.val) secs usecs)

/-- SCRIBE_COMMAND_AT (R260): on an engine with PERIOD 0 the queued command at the head executes at its AT. -/
def execScribeCommandAt (l : Lane) (k : Fin 32) (s : State) : Host.Outcome State Fault Refusal :=
  if !s.laneUp l || decide (s.scrPeriod l k ≠ 0) then ok s else ok (s.scrAt l k)

/-- SCR_CNT_CLR (R277). -/
def execScrCntClr (l : Lane) (k : Fin 32) (s : State) : Host.Outcome State Fault Refusal :=
  if !s.laneUp l then ok s else ok (s.clrRow (.scr l k) .SCR_CNT 7)

end Sys2Proof.Machine
end

