-- ==== Sys2Proof/Machine/FieldBus.lean ====
section
/-!
DEFINITION. The field bus: reception and receive records (R367, R368), timeouts (R369), transmission (R370 to R372), error
states (R373), rate detection (R375) and twin pairs (R376). Controllers are numbered 0 to 3.
-/

namespace Sys2Proof.Machine
open Sys2Proof

/-- The page of a controller. -/
def fbPg (c : Nat) : Page := .fbsCtl (fbLane c) (c % 2)

/-- The controller of an object. -/
def fbOf (d : Nat) : Nat := d / 256

/-- Is a controller on the bus: its lane UP, EN = 1 and not bus-off (R373)? -/
def State.fbOn (s : State) (c : Nat) : Bool :=
  s.laneUp (fbLane c) && s.bit (fbPg c) F.FBS_CTRL_EN && decide (s.fld (fbPg c) F.FBS_STATUS_ERR_STATE ≠ 2)

/-- Set a field of FBS_STATUS; CHANGE follows a change of it. -/
def State.fbStatus (s : State) (c : Nat) (f : Fld) (v : Nat) : State :=
  if s.fld (fbPg c) f = v then s else (s.setFld (fbPg c) f v).setFld (fbPg c) F.FBS_STATUS_CHANGE 1

/-- May a controller transmit: on the bus, in normal mode, and active (R374, R376)? -/
def State.fbMayTx (s : State) (c : Nat) : Bool :=
  s.fbOn c && decide (s.fld (fbPg c) F.FBS_CTRL_OPMODE = 0) && s.bit (fbPg c) F.FBS_STATUS_ACTIVE

/-- Does a rate detection run on a controller? -/
def State.fbDetects (s : State) (c : Nat) : Bool := s.bit (fbPg c) F.FBS_STATUS_RD_BUSY

/-- A result, timeout or frame of an object is reported: REPORT, and vector 42 when IE = 1. -/
def State.fboReport (s : State) (l : Lane) (d : Nat) : State :=
  let s := s.setBit (.fbsObj l d) F.FBS_OBJ_FLAGS_REPORT
  if s.ent (fboDesc l d) E.T16_2_IE = 1 then s.vector l (s.ownerFbo l d) 42 else s

/-- Keep the field bus of every UP lane. -/
def State.fbLanes (s : State) (f : FbsSt → FbsSt) : State :=
  s.upLanes.foldl (fun s l => s.setFbs l (f (s.lane l).fbs)) s

/-- The frame that a controller's start notices announced has completed or failed (R369). -/
def State.fbStartsEnd (s : State) (c : Nat) : State :=
  s.fbLanes (fun x => { x with starts := x.starts.filter (fun e => decide (e.1 ≠ c)) })

/-! Twin pairs. -/

/-- The pair of a controller, and the other controller of the pair. -/
def fbPair (c : Nat) : Nat := c % 2
def fbMate (c : Nat) : Nat := (c + 2) % 4

/-- Is a controller a member of a twin pair? -/
def State.fbPaired (s : State) (c : Nat) : Bool := s.bit (fbPg c) F.FBS_CTRL_PAIR_EN

/-- The active controller of a pair and its switch stamp, as a lane knows them; a lane that has been reset learns them from the
other. -/
def State.fbActive (s : State) (l : Lane) (p : Nat) : Option (Nat × Nat) :=
  match assocGet (s.lane l).fbs.sw p with
  | some a => some a
  | none => assocGet (s.lane l.other).fbs.sw p

/-- The role of a pair goes to a controller with a switch stamp: both lanes learn it, and a move is counted, with its event,
at each controller of the pair whose lane is UP (R376). -/
def State.fbRole (s : State) (c stamp : Nat) (move : Bool) : State :=
  let p := fbPair c
  let s := s.fbLanes (fun x => { x with sw := assocPut x.sw p (c, stamp) })
  [c, fbMate c].foldl (fun s d =>
    if !s.laneUp (fbLane d) then s
    else
      let s := s.fbStatus d F.FBS_STATUS_ACTIVE (b2n (decide (d = c)))
      if move then s.fbsCntEv (fbLane d) d 13 d else s) s

/-- The active controller of a pair fails at a stamp: the role passes to the standby when that one is on the bus (R376). -/
def State.fbFails (s : State) (c stamp : Nat) : State :=
  let m := fbMate c
  let act := match s.fbActive (fbLane m) (fbPair c) with
    | some a => decide (a.1 = c)
    | none => false
  if act && s.fbOn m && s.fbPaired m then s.fbRole m stamp true else s

/-- A lane leaves UP: the roles of its controllers pass with the stamp of the last record each sent (R376), and the frames its start
notices announced end. -/
def State.fbLaneLost (s : State) (l : Lane) : State :=
  [2 * l.idx, 2 * l.idx + 1].foldl (fun s c => (s.fbFails c (assocGetD (s.lane l.other).fbs.sent c 0)).fbStartsEnd c) s

/-- A controller goes on the bus: unpaired it is active; in a pair the one with PREF_ACTIVE is, unless the role is held. -/
def State.fbJoin (s : State) (c : Nat) : State :=
  if !s.fbPaired c then s.fbStatus c F.FBS_STATUS_ACTIVE 1
  else
    let held := match s.fbActive (fbLane c) (fbPair c) with
      | some a => decide (a.1 ≠ c) && s.fbOn a.1 && s.fbPaired a.1
      | none => false
    if held then s.fbStatus c F.FBS_STATUS_ACTIVE 0
    else if s.bit (fbPg c) F.FBS_CTRL_PREF_ACTIVE then
      match s.fbActive (fbLane c) (fbPair c) with
      | some a => if a.1 = c then s.fbStatus c F.FBS_STATUS_ACTIVE 1 else s.fbRole c (s.laneNow (fbLane c)) true
      | none => s.fbRole c 0 false
    else s.fbStatus c F.FBS_STATUS_ACTIVE 0

/-! Error counters. -/

/-- REC as a number. -/
def State.fbRec (s : State) (c : Nat) : Nat := s.fld (fbPg c) F.FBS_ERR_REC + 128 * s.fld (fbPg c) F.FBS_ERR_RP

/-- Store REC. -/
def State.setFbRec (s : State) (c v : Nat) : State :=
  (s.setFld (fbPg c) F.FBS_ERR_REC (min v 255)).setFld (fbPg c) F.FBS_ERR_RP (b2n (decide (128 ≤ v)))

/-- The error state follows TEC and REC; entering bus-off is counted, with its event, and ends the role in a pair (R373,
R376). -/
def State.fbErrState (s : State) (c tec : Nat) : State :=
  let pg := fbPg c
  let s := s.setFld pg F.FBS_ERR_TEC (min tec 255)
  let s := s.fbStatus c F.FBS_STATUS_ERR_STATE (if 256 ≤ tec then 2 else if 128 ≤ tec ∨ 128 ≤ s.fbRec c then 1 else 0)
  if 256 ≤ tec then
    let s := s.fbStatus c F.FBS_STATUS_SYNC 0
    (s.fbsCntEv (fbLane c) c 7 c).fbFails c (s.laneNow (fbLane c))
  else s

/-- TEC of a controller. -/
def State.fbTec (s : State) (c : Nat) : Nat := s.fld (fbPg c) F.FBS_ERR_TEC

/-! Map writes. -/

/-- Post the field bus's waiting writes while the pending queue has room (R243). -/
def State.fbPost (s : State) (l : Lane) : Nat → State
  | 0 => s
  | fuel + 1 =>
    let x := (s.lane l).fbs
    match x.out with
    | [] => s.mapGo l .fieldBus
    | w :: t =>
      if !s.mapRoom l 1 then s.mapWait l .fieldBus
      else ((s.setFbs l { x with out := t }).mapPost l 4 w).fbPost l fuel

/-- Write the points of an object from POINT on. -/
def State.fbWrite (s : State) (l : Lane) (d e : Nat) (recs : List Nat) : State :=
  let own := s.ownerFbo l d
  let p := s.ent (fboDesc l d) E.T16_2_POINT
  let ws := (List.range recs.length).map (fun i => (⟨some e, none, p + i, recs.getD i 0, own⟩ : MapW))
  let x := (s.lane l).fbs
  let s := s.setFbs l { x with out := x.out ++ ws }
  s.fbPost l ((s.lane l).fbs.out.length + 1)

/-! Reception. -/

/-- The receive object that takes a frame of controller c: 1,024 when none does, 1,025 when its length is wrong (R367). -/
def State.fbMatch (s : State) (c : Nat) (f : CanFrame) : Nat :=
  let l := fbLane c
  let hit := (List.range 256).find? (fun i =>
    let a := fboDesc l (256 * c + i)
    decide (s.ent a E.T16_2_VALID = 1 ∧ s.ent a E.T16_2_DIR = 0 ∧ s.ent a E.T16_2_IDE = b2n f.ide ∧ s.ent a E.T16_2_FD = b2n f.fd) &&
      decide ((s.ent a E.T16_2_ID).land (s.ent a E.T16_2_MASK) = f.id.land (s.ent a E.T16_2_MASK)))
  match hit with
  | none => 1024
  | some i => if s.ent (fboDesc l (256 * c + i)) E.T16_2_DLEN = f.data.length then 256 * c + i else 1025

/-- The stamp of the frame in progress on a controller, from its start notice; without one, now. -/
def State.fbStamp (s : State) (c : Nat) : Nat :=
  match ((s.lane (fbLane c)).fbs.starts.filter (fun e => decide (e.1 = c))).getLast? with
  | some e => e.2
  | none => s.laneNow (fbLane c)

/-- Apply the record of a frame that object d takes (R368); one stamped by the deadline of a timeout already decided is a settle
overrun (R27). -/
def State.fbApply (s : State) (l : Lane) (d : Nat) (r : RxRec) : State :=
  let a := fboDesc l d
  let q := fboRec l d
  let f := r.frame
  let n := f.data.length
  let dl := (ofT96 (s.ent q E.T16_4_STAMP)).getD 0 + s.ent a E.T16_2_PERIOD * us
  let s := if s.ent q E.T16_4_STATE = 2 ∧ r.stamp ≤ dl then s.settleOvr l else s
  let s := s.setEnt q E.T16_4_COUNT ((s.ent q E.T16_4_COUNT + 1) % 2 ^ 32)
  let key := toT96 r.stamp
  let s :=
    if s.ent a E.T16_2_MAP_EN = 1 then
      let w1 := n % 128 + b2n f.fd * 128 + b2n f.brs * 256 + b2n f.esi * 512
      let hdr := f.id + w1 * 2 ^ 32 + s.ent q E.T16_4_COUNT * 2 ^ 64
      let body := (List.range ((n + 15) / 16)).map (fun i => leNat ((f.data.drop (16 * i)).take 16))
      let ws := if s.ent a E.T16_2_HDR_EN = 1 then hdr :: body else body
      s.fbWrite l d r.stamp (ws.map (fun w => mkRec w key 0 false false 4 false 0))
    else s
  let isNew := decide (s.ent q E.T16_4_NEW = 1)
  let s := if isNew then s.setEnt q E.T16_4_LOST 1 else s.setEnt q E.T16_4_NEW 1
  let s :=
    if !isNew || decide (s.ent a E.T16_2_OVERWRITE = 1) then s.setWinWords (fboBuf l d) 16 (leNat f.data) else s
  let s := s.setEnt q E.T16_4_STAMP key
  let s := s.setEnt q E.T16_4_STATE 1
  (s.fbsCnt l (fbOf d) 0).fboReport l d

/-- Does a lane apply a record of a controller: of the active one of its pair, around the switch stamp (R376)? -/
def State.fbApplies (s : State) (l : Lane) (r : RxRec) : Bool :=
  if !s.bit (.fbsCtl l (r.ctl % 2)) F.FBS_CTRL_PAIR_EN then true
  else
    match s.fbActive l (fbPair r.ctl) with
    | none => false
    | some (a, sw) => if a = r.ctl then decide (sw < r.stamp) || decide (sw = 0) else decide (r.stamp ≤ sw)

/-! Rate detection. -/

/-- Rate detection begins with candidate 0 of pass 0 (R375). -/
def State.rdStart (s : State) (c : Nat) : State :=
  let l := fbLane c
  let x := (s.lane l).fbs
  let s := s.setFbs l { x with rd := assocPut x.rd c (0, 0, 0), rdAt := assocPut x.rdAt c (s.laneNow l) }
  s.setFld (fbPg c) F.FBS_STATUS_RD_BUSY 1

/-- Rate detection ends: FOUND, DONE with its event, and OPMODE 2 (R375). -/
def State.rdEnd (s : State) (c found : Nat) : State :=
  let pg := fbPg c
  let s := s.setFld pg F.FBS_RD_STATUS_FOUND found
  let s := s.setFld pg F.FBS_STATUS_RD_BUSY 0
  let s := s.setFld pg F.FBS_CTRL_OPMODE 2
  s.setBitEv (.lane (fbLane c)) pg F.FBS_RD_STATUS_DONE bkFBS 1 c

/-- A frame during rate detection: a good one lengthens the candidate's run, an error restarts it. -/
def State.rdFrame (s : State) (c : Nat) (good : Bool) : State :=
  let l := fbLane c
  let x := (s.lane l).fbs
  let (k, pass, run) := assocGetD x.rd c (0, 0, 0)
  let run := if good then run + 1 else 0
  let s := s.setFbs l { x with rd := assocPut x.rd c (k, pass, run) }
  if s.fld (fbPg c) F.FBS_RD_CFG_GOOD ≤ run then s.rdEnd c k else s

/-! Transmission. -/

/-- The rank of an object's identifier on the bus (R371). -/
def State.fboRank (s : State) (l : Lane) (d : Nat) : Nat :=
  let a := fboDesc l d
  if s.ent a E.T16_2_IDE = 1 then s.ent a E.T16_2_ID else (s.ent a E.T16_2_ID % 2 ^ 11) * 2 ^ 18

/-- Is d a valid transmit object of a controller of lane l? -/
def State.fboTx (s : State) (l : Lane) (d : Nat) : Bool :=
  decide (fbLane (fbOf d) = l) && decide (s.ent (fboDesc l d) E.T16_2_VALID = 1 ∧ s.ent (fboDesc l d) E.T16_2_DIR = 1)

/-- The pending transmit object that a controller sends next (R371); a CAN FD object waits while FD_EN = 0. -/
def State.fbFirst (s : State) (c : Nat) : Option Nat :=
  let l := fbLane c
  let ds := ((List.range 256).map (fun i => 256 * c + i)).filter (fun d => s.fboTx l d && decide (s.ent (fboRec l d) E.T16_4_STATE = 1) &&
    (decide (s.ent (fboDesc l d) E.T16_2_FD = 0) || s.bit (fbPg c) F.FBS_CTRL_FD_EN))
  ds.foldl (fun a d =>
    match a with
    | none => some d
    | some b => if s.fboRank l d < s.fboRank l b then some d else a) none

/-- The data of a transmit object: from its points, or its buffer (R370). -/
def State.fboBufData (s : State) (l : Lane) (d : Nat) : List Byte := natLe (s.ent (fboDesc l d) E.T16_2_DLEN) (s.winWords (fboBuf l d) 16)

/-- The points of an object that uses the map. -/
def State.fboPoints (s : State) (l : Lane) (d : Nat) : List Nat :=
  (List.range (s.fboPts l d)).map (fun i => s.ent (fboDesc l d) E.T16_2_POINT + i)

/-- Queue an object with data as of a cut: at once, or once its snapshot can be taken (R244, R370, R472). -/
def State.fboQueueAt (s : State) (l : Lane) (d cut : Nat) : State :=
  let a := fboDesc l d
  if s.ent a E.T16_2_MAP_EN = 0 then s.fboQueue l d (s.fboBufData l d)
  else if s.snapReady l cut then
    let (s, recs) := s.snapshot l cut (s.fboPoints l d)
    s.fboQueue l d (fboBytes (s.ent a E.T16_2_HDR_EN) (s.ent a E.T16_2_DLEN) recs)
  else
    let m := (s.lane l).map
    s.setMap l { m with snaps := m.snaps ++ [.fbo d cut] }

/-- The object on the bus leaves it: IDLE, or PENDING again with the data queued meanwhile. -/
def State.fboAfter (s : State) (l : Lane) (d : Nat) : State :=
  let x := (s.lane l).fbs
  match assocGet x.next d with
  | some b =>
    let s := s.setFbs l { x with next := assocDel x.next d, data := assocPut x.data d b }
    (s.setEnt (fboRec l d) E.T16_4_STATE 1).setEnt (fboRec l d) E.T16_4_RETRY_USED 0
  | none => s.setEnt (fboRec l d) E.T16_4_STATE 0

/-- A pending frame of an instance that ABORT cancels is dropped with result ABORTED; cancelled work raises no vector (R350, R357,
R377). -/
def State.fboCancel (s : State) (l : Lane) (d : Nat) : State :=
  let s := (s.setEnt (fboRec l d) E.T16_4_STATE 0).setEnt (fboRec l d) E.T16_4_RESULT 4
  (s.setBit (.fbsObj l d) F.FBS_OBJ_FLAGS_REPORT).aborted l (s.ownerFbo l d) 1

/-- The object stays pending for another attempt, with newer data when it was queued again meanwhile; an attempt that ABORT met on
the bus has no other. -/
def State.fboAgain (s : State) (l : Lane) (d : Nat) : State :=
  let x := (s.lane l).fbs
  if (assocGet x.loose d).isSome then s.fboCancel l d
  else
  let s := s.setEnt (fboRec l d) E.T16_4_STATE 1
  match assocGet x.next d with
  | some b => (s.setFbs l { x with next := assocDel x.next d, data := assocPut x.data d b }).fbsCnt l (fbOf d) 10
  | none => s

/-- A frame ends with a result (R371, R372). -/
def State.fboResult (s : State) (l : Lane) (d result : Nat) : State := (s.setEnt (fboRec l d) E.T16_4_RESULT result).fboReport l d

/-- One retry is used by an attempt that ended in error: another attempt, or FAILED (R371). -/
def State.fboRetry (s : State) (l : Lane) (d : Nat) : State :=
  let q := fboRec l d
  let lim := s.ent (fboDesc l d) E.T16_2_RETRY
  let used := s.ent q E.T16_4_RETRY_USED
  if lim ≠ 15 ∧ lim ≤ used then
    let s := s.fboAfter l d
    (s.fboResult l d 2).fbsCntEv l (fbOf d) 5 d
  else (s.setEnt q E.T16_4_RETRY_USED (min (used + 1) 15)).fboAgain l d

/-- The end of an attempt of an object that RESET has returned to rest meanwhile: the controller counts it, and the object stays as it
is (R377). -/
def State.fbTxLoose (s : State) (c : Nat) (r : CanTxEnd) : State :=
  let l := fbLane c
  match r with
  | .lost => s.fbsCnt l c 8
  | .sent => ((s.fbStartsEnd c).fbsCnt l c 4).fbErrState c (s.fbTec c - 1)
  | .error | .noAck | .clash =>
    let passive := decide (s.fld (fbPg c) F.FBS_STATUS_ERR_STATE = 1)
    ((s.fbStartsEnd c).fbsCnt l c 9).fbErrState c (s.fbTec c + (if decide (r = .noAck) && passive then 0 else 8))

/-- The end of an attempt (R371 to R373). -/
def State.fbTxEnd (s : State) (c d : Nat) (r : CanTxEnd) : State :=
  let l := fbLane c
  let q := fboRec l d
  let stamp := s.fbStamp c
  let x := (s.lane l).fbs
  let s := s.setFbs l { x with cur := x.cur.filter (fun e => decide (e.1 ≠ c)) }
  match r with
  | .lost => (s.fboAgain l d).fbsCnt l c 8
  | .sent =>
    let s := s.fbStartsEnd c
    let s := s.setEnt q E.T16_4_COUNT ((s.ent q E.T16_4_COUNT + 1) % 2 ^ 32)
    let s := s.setEnt q E.T16_4_STAMP (toT96 stamp)
    let s := s.setEnt q E.T16_4_CLASH_RUN 0
    let s := ((s.fboAfter l d).fboResult l d 1).fbsCnt l c 4
    s.fbErrState c (s.fbTec c - 1)
  | .error | .noAck =>
    let s := (s.fbStartsEnd c).fbsCnt l c 9
    let s := (s.setEnt q E.T16_4_CLASH_RUN 0).fboRetry l d
    let passive := decide (s.fld (fbPg c) F.FBS_STATUS_ERR_STATE = 1)
    s.fbErrState c (s.fbTec c + (if decide (r = .noAck) && passive then 0 else 8))
  | .clash =>
    let s := (s.fbStartsEnd c).fbsCnt l c 9
    let run := s.ent q E.T16_4_CLASH_RUN + 1
    let s := s.setEnt q E.T16_4_CLASH_RUN run
    let s :=
      if 3 ≤ run then
        let y := (s.lane l).fbs
        let s := match assocGet y.next d with
          | some b => s.setFbs l { y with next := assocDel y.next d, data := assocPut y.data d b }
          | none => s
        ((s.setEnt q E.T16_4_STATE 3).fboResult l d 3).fbsCntEv l c 6 d
      else s.fboRetry l d
    s.fbErrState c (s.fbTec c + 8)

/-! FBS_CTRL. -/

/-- A write of FBS_CTRL (R373, R375, R376). -/
def State.fbCtrl (s : State) (c : Nat) (v : Word) : State :=
  let l := fbLane c
  let pg := fbPg c
  let was := s.bit pg F.FBS_CTRL_EN
  let mode := s.fld pg F.FBS_CTRL_OPMODE
  let pref := s.bit pg F.FBS_CTRL_PREF_ACTIVE
  let s := s.wr pg .FBS_CTRL 0 (v.extractLsb' 0 8 |>.setWidth 32)
  let en := s.bit pg F.FBS_CTRL_EN
  if was && !en then
    let s := (s.setFld pg F.FBS_CTRL_EN 0).fbFails c (s.laneNow l)
    let x := (s.lane l).fbs
    let on := x.cur.filter (fun e => decide (e.1 = c))
    let s := on.foldl (fun s e => if assocGet x.loose e.2.1 = some true then s else s.fboAgain l e.2.1) s
    let y := (s.lane l).fbs
    let s := s.setFbs l { y with cur := y.cur.filter (fun e => decide (e.1 ≠ c)), loose := y.loose.filter (fun e => !on.any (fun o => decide (o.2.1 = e.1))) }
    let s := (s.fbStartsEnd c).wr pg .FBS_ERR 0 0
    let s := s.fbStatus c F.FBS_STATUS_ERR_STATE 0
    let s := s.fbStatus c F.FBS_STATUS_SYNC 0
    let s := s.fbStatus c F.FBS_STATUS_ACTIVE 0
    s.setFld pg F.FBS_STATUS_RD_BUSY 0
  else
    let s := if en && !was then (s.fbStatus c F.FBS_STATUS_SYNC 1).fbJoin c
      else if en && decide (s.bit pg F.FBS_CTRL_PREF_ACTIVE ≠ pref) then
        s.fbLanes (fun x => { x with pref := (x.pref.filter (fun p => decide (p ≠ fbPair c))) ++ [fbPair c] })
      else s
    let now3 := decide (s.fld pg F.FBS_CTRL_OPMODE = 3)
    if en && now3 && (!was || decide (mode ≠ 3)) then s.rdStart c
    else if !now3 then s.setFld pg F.FBS_STATUS_RD_BUSY 0
    else s

/-! The commands. -/

/-- CAN_START_OF_FRAME (R369, R371): a start of frame on a controller's bus. Both lanes get its start notice; a controller
with a pending object that may transmit takes part with it. -/
def execCanStartOfFrame (c : Fin 4) (s : State) : Host.Outcome State Fault Refusal :=
  let l := fbLane c
  if !s.fbOn c then ok s
  else
    let stamp := s.laneNow l
    let s := s.fbLanes (fun x => { x with starts := x.starts.filter (fun e => decide (e.1 ≠ c.val)) ++ [(c.val, stamp)] })
    if !s.fbMayTx c then ok s
    else
      match s.fbFirst c with
      | none => ok s
      | some d =>
        let x := (s.lane l).fbs
        ok ((s.setFbs l { x with cur := x.cur ++ [(c.val, d, stamp)] }).setEnt (fboRec l d) E.T16_4_STATE 2)

/-- A frame fails at a receiver: REC, ERR_FRAMES, the error state, and the run of a rate detection (R369, R373, R375). -/
def State.fbRxError (s : State) (c n : Nat) : State :=
  let s := (s.fbStartsEnd c).fbsCnt (fbLane c) c 9
  let s := s.setFbRec c (s.fbRec c + n)
  let s := s.fbErrState c (s.fbTec c)
  if s.fbDetects c then s.rdFrame c false else s

/-- A frame received without error lowers REC: from above 127 to a value from 119 to 127, which the standard leaves open. -/
def State.fbRxGood (s : State) (c : Nat) : State :=
  let (n, s) := s.fresh
  let rec_ := s.fbRec c
  let s := s.setFbRec c (if 127 < rec_ then 119 + Config.recAfter n % 9 else rec_ - 1)
  s.fbErrState c (s.fbTec c)

/-- CAN_FRAME_RECEIVED (R367): a frame ends without error. Its record goes to both lanes; during rate detection it counts
towards the candidate and is not applied. A CAN FD frame while FD_EN = 0 is an error. -/
def execCanFrameReceived (c : Fin 4) (f : CanFrame) (s : State) : Host.Outcome State Fault Refusal :=
  if !s.fbOn c then ok s
  else if f.fd && !s.bit (fbPg c) F.FBS_CTRL_FD_EN then ok (s.fbRxError c 1)
  else if s.fbDetects c then ok (((s.fbStartsEnd c).fbRxGood c).rdFrame c true)
  else
    let stamp := s.fbStamp c
    let obj := if f.rtr then 1026 else s.fbMatch c f
    let s := s.fbLanes (fun x =>
      { x with rx := x.rx ++ [⟨c, stamp, obj, f⟩], starts := x.starts.filter (fun e => decide (e.1 ≠ c.val)), sent := assocPut x.sent c stamp })
    ok (s.fbRxGood c)

/-- CAN_RECEIVE_ERROR (R369): a frame fails during reception, which the standard counts 1; `dominant` when the error flag is followed
by a dominant bit, which it counts 8 more (R373). -/
def execCanReceiveError (c : Fin 4) (dominant : Bool) (s : State) : Host.Outcome State Fault Refusal :=
  if !s.fbOn c then ok s else ok (s.fbRxError c (if dominant then 9 else 1))

/-- RECEIVE_RECORD_APPLY (R368): a lane applies the oldest receive record, or counts it. -/
def execReceiveRecordApply (l : Lane) (s : State) : Host.Outcome State Fault Refusal :=
  let x := (s.lane l).fbs
  match x.rx with
  | [] => ok s
  | r :: rest =>
    if !s.laneUp l then ok s
    else
      let s := s.setFbs l { x with rx := rest }
      if !s.fbApplies l r then ok (s.fbsCnt l r.ctl 12)
      else if r.obj < 1024 then ok (s.fbApply l r.obj r)
      else ok (s.fbsCnt l r.ctl (r.obj - 1023))

/-- RX_TIMEOUT (R369): the followed clock reaches D + 2.0 µs of a LIVE receive object, and no frame whose start notice or
record carries a stamp at or before D is still to be decided. -/
def execRxTimeout (l : Lane) (d : Fin 1024) (s : State) : Host.Outcome State Fault Refusal :=
  let a := fboDesc l d
  let q := fboRec l d
  let tmo := s.ent a E.T16_2_PERIOD
  if !s.laneUp l || !decide (s.ent a E.T16_2_VALID = 1 ∧ s.ent a E.T16_2_DIR = 0 ∧ tmo ≠ 0 ∧ s.ent q E.T16_4_STATE = 1) then ok s
  else
    let dl := (ofT96 (s.ent q E.T16_4_STAMP)).getD 0 + tmo * us
    let s := s.reachLane l (dl + settle)
    let x := (s.lane l).fbs
    let open_ := x.starts.any (fun e => decide (e.1 = fbOf d ∧ e.2 ≤ dl)) || x.rx.any (fun r => decide (r.obj = d ∧ r.stamp ≤ dl))
    if open_ then ok s
    else
      let s := s.setEnt q E.T16_4_STATE 2
      let s := (s.fbsCnt l (fbOf d) 11).fboReport l d
      if s.ent a E.T16_2_MAP_EN = 0 then ok s
      else
        let recs := (s.fboPoints l d).map (fun p =>
          let last := ((writeAt ((s.lane l).map.pend ++ (s.lane l).fbs.out) p dl).map (fun w => w.rec_)).getD (s.settled l p)
          mkRec (last % 2 ^ 128) (toT96 dl) 2 false false 4 false 0)
        ok (s.fbWrite l d dl recs)

/-- TX_QUEUE_CYCLIC (R370): a cyclic object is queued at its next lattice instant T with data as of T − HOLD. -/
def execTxQueueCyclic (d : Fin 1024) (s : State) : Host.Outcome State Fault Refusal :=
  let l := fbLane (fbOf d)
  let a := fboDesc l d
  let p := s.ent a E.T16_2_PERIOD
  if !s.laneUp l || !s.fboTx l d || decide (s.ent a E.T16_2_TX_MODE ≠ 1) || decide (p = 0) then ok s
  else
    let x := (s.lane l).fbs
    let from_ := match assocGet x.cyc d with
      | some t => max (s.laneNow l) (t + 1)
      | none => s.laneNow l
    let t := latticeAt p (s.ent a E.T16_2_OFFSET) from_
    let s := s.reachLane l t
    let x := (s.lane l).fbs
    ok ((s.setFbs l { x with cyc := assocPut x.cyc d t }).fboQueueAt l d (t - s.hold l))

/-- SEND of an object's control record (R370): a request-mode object is queued with data as of the horizon. -/
def State.fboSend (s : State) (l : Lane) (d : Nat) : State :=
  if !s.fboTx l d || decide (s.ent (fboDesc l d) E.T16_2_TX_MODE ≠ 0) then s else s.fboQueueAt l d (s.horizon l)

/-- RESUME of an object's control record (R372): its present data are queued, the buffer where it does not use the map (R370). -/
def State.fboResume (s : State) (l : Lane) (d : Nat) : State :=
  let q := fboRec l d
  if !s.fboTx l d || decide (s.ent q E.T16_4_STATE ≠ 3) || !s.ownerRuns l (s.ownerFbo l d) then s
  else
    let x := (s.lane l).fbs
    let s := if s.ent (fboDesc l d) E.T16_2_MAP_EN = 0 then s.setFbs l { x with data := assocPut x.data d (s.fboBufData l d) } else s
    ((s.setEnt q E.T16_4_CLASH_RUN 0).setEnt q E.T16_4_RETRY_USED 0).setEnt q E.T16_4_STATE 1

/-- ABORT_TX of an object's control record: a pending frame is dropped with result ABORTED, one that waits behind the frame on the bus
too. -/
def State.fboAbort (s : State) (l : Lane) (d : Nat) : State :=
  let q := fboRec l d
  let x := (s.lane l).fbs
  if !s.fboTx l d then s
  else if s.ent q E.T16_4_STATE = 1 then (s.setEnt q E.T16_4_STATE 0).fboResult l d 4
  else if s.ent q E.T16_4_STATE = 2 ∧ (assocGet x.next d).isSome then (s.setFbs l { x with next := assocDel x.next d }).fboResult l d 4
  else s

/-- SEND (R370): FBS_OBJ_CMD.SEND of object d in a lane is written 1. -/
def execCanSend (l : Lane) (d : Fin 1024) (s : State) : Host.Outcome State Fault Refusal := if !s.laneUp l then ok s else ok (s.fboSend l d)

/-- OBJECT_RESUME (R372): FBS_OBJ_CMD.RESUME is written 1. -/
def execCanObjectResume (l : Lane) (d : Fin 1024) (s : State) : Host.Outcome State Fault Refusal := if !s.laneUp l then ok s else ok (s.fboResume l d)

/-- ABORT_TX (R371): FBS_OBJ_CMD.ABORT_TX is written 1. -/
def execCanAbortTx (l : Lane) (d : Fin 1024) (s : State) : Host.Outcome State Fault Refusal := if !s.laneUp l then ok s else ok (s.fboAbort l d)

/-- TX_ATTEMPT_END (R371): the attempt on a controller's bus ends. -/
def execTxAttemptEnd (c : Fin 4) (r : CanTxEnd) (s : State) : Host.Outcome State Fault Refusal :=
  match (s.lane (fbLane c)).fbs.cur.find? (fun e => decide (e.1 = c.val)) with
  | some (_, d, _) =>
    if !s.fbOn c then ok s
    else
      let x := (s.lane (fbLane c)).fbs
      let s' := if assocGet x.loose d = some true then (s.setFbs (fbLane c) { x with cur := x.cur.filter (fun e => decide (e.1 ≠ c.val)) }).fbTxLoose c r
        else s.fbTxEnd c d r
      let y := (s'.lane (fbLane c)).fbs
      ok (s'.setFbs (fbLane c) { y with loose := assocDel y.loose d })
  | none => ok s

/-- BUS_OFF_RECOVERED (R373): the standard recovery of a bus-off controller with AUTO_RECOV = 1 ends, and it rejoins. -/
def execBusOffRecovered (c : Fin 4) (s : State) : Host.Outcome State Fault Refusal :=
  let pg := fbPg c
  if !s.laneUp (fbLane c) || !s.bit pg F.FBS_CTRL_EN || !s.bit pg F.FBS_CTRL_AUTO_RECOV || decide (s.fld pg F.FBS_STATUS_ERR_STATE ≠ 2) then ok s
  else
    let s := s.wr pg .FBS_ERR 0 0
    let s := s.fbStatus c F.FBS_STATUS_ERR_STATE 0
    let s := s.fbStatus c F.FBS_STATUS_SYNC 1
    ok (s.fbJoin c)

/-- FIELD_BUS_ENABLE (R373): FBS_CTRL.EN is written; the other fields stay. -/
def execFieldBusEnable (c : Fin 4) (en : Bool) (s : State) : Host.Outcome State Fault Refusal :=
  if !s.laneUp (fbLane c) then ok s
  else
    let v := (s.rd (fbPg c) .FBS_CTRL).toNat
    ok (s.fbCtrl c (BitVec.ofNat 32 (v / 2 * 2 + b2n en)))

/-- RATE_DETECT_DWELL_EXPIRE (R375): a candidate's dwell ends: the next candidate, the next pass, or the end without one. -/
def execRateDetectDwellExpire (c : Fin 4) (s : State) : Host.Outcome State Fault Refusal :=
  let l := fbLane c
  let pg := fbPg c
  if !s.fbOn c || !s.fbDetects c then ok s
  else
    let x := (s.lane l).fbs
    let (k, pass, _) := assocGetD x.rd c (0, 0, 0)
    let s := s.reachLane l (assocGetD x.rdAt c 0 + s.fld pg F.FBS_RD_CFG_DWELL * ms)
    let last := decide (s.fld pg F.FBS_RD_CFG_N_CAND ≤ k + 1)
    let k' := if last then 0 else k + 1
    let pass' := if last then pass + 1 else pass
    if s.fld pg F.FBS_RD_CFG_ROUNDS ≤ pass' then ok (s.rdEnd c 0xF)
    else
      let y := (s.lane l).fbs
      ok (s.setFbs l { y with rd := assocPut y.rd c (k', pass', 0), rdAt := assocPut y.rdAt c (s.laneNow l) })

/-- PAIR_PREF_MOVE (R376): the bus of a pair is idle after a change of PREF_ACTIVE: the role moves to the preferred
controller, with the stamp of now. -/
def execPairPrefMove (p : Fin 2) (s : State) : Host.Outcome State Fault Refusal :=
  let want := fun (c : Nat) => s.fbOn c && s.fbPaired c && s.bit (fbPg c) F.FBS_CTRL_PREF_ACTIVE && !s.bit (fbPg c) F.FBS_STATUS_ACTIVE &&
    !(s.bit (fbPg (fbMate c)) F.FBS_CTRL_PREF_ACTIVE)
  if !s.upLanes.any (fun l => (s.lane l).fbs.pref.contains p.val) then ok s
  else
    let s' := s.fbLanes (fun x => { x with pref := x.pref.filter (fun q => decide (q ≠ p.val)) })
    if want p then ok (s'.fbRole p (s.laneNow .l0) true)
    else if want (p + 2) then ok (s'.fbRole (p + 2) (s.laneNow .l1) true)
    else ok s'

/-- FBS_CNT_CLR (R379). -/
def execFbsCntClr (c : Fin 4) (s : State) : Host.Outcome State Fault Refusal :=
  if !s.laneUp (fbLane c) then ok s else ok (s.clrRow (fbPg c) .FBS_CNT 14)

end Sys2Proof.Machine
end

