-- ==== Sys2Proof/Machine/Goose.lean ====
section
/-!
DEFINITION. The GOOSE receiver of the signal map: checks of a copy (R246 to R249), pairing, timing and acceptance (R250),
member writes (R251), and expiry (R252).
-/

namespace Sys2Proof.Machine
open Sys2Proof

/-- The active entry of subscription u. -/
def gooAddr (l : Lane) (u : Nat) : Nat := winAddr (.map l) .mapGooAct (64 * u)

/-- The state entry of subscription u (Table 10.8). -/
def gooRec (l : Lane) (u : Nat) : Nat := winAddr (.map l) .mapGooState (32 * u)

/-- The active entry of member m. -/
def memEnt (l : Lane) (m : Nat) : Nat := winAddr (.map l) .mapMemAct (8 * m)

/-- The fields of a state entry: state, deadline, st_L and sq_L. -/
def gsState : EFld := ⟨0, 1, 0⟩
def gsDeadline : EFld := ⟨4, 95, 0⟩
def gsSt : EFld := ⟨16, 31, 0⟩
def gsSq : EFld := ⟨20, 31, 0⟩

/-- What a subscription holds beside its window. -/
def State.goo (s : State) (l : Lane) (u : Nat) : GooSt := assocGetD (s.lane l).map.goose u .empty

/-- Store it. -/
def State.setGoo (s : State) (l : Lane) (u : Nat) (x : GooSt) : State :=
  s.setMap l { (s.lane l).map with goose := assocPut (s.lane l).map.goose u x }

/-- The subscription's state: 0 WAITING, 1 LIVE, 2 LOST. -/
def State.gooState (s : State) (l : Lane) (u : Nat) : Nat := s.ent (gooRec l u) gsState

/-- Change it: its bit in MAP_GCHG_MAP and CHANGE are set. -/
def State.setGooState (s : State) (l : Lane) (u v : Nat) : State :=
  if s.gooState l u = v then s
  else
    let s := s.setEnt (gooRec l u) gsState v
    let a := winAddr (.map l) .mapGchgMap (u / 32 * 4)
    let s := s.setWin a (BitVec.ofNat 32 (bitsPut (s.win a).toNat (u % 32) (u % 32) 1))
    s.setBit (.map l) F.MAP_STATUS_CHANGE

/-- The owner of a subscription's writes (R240). -/
def State.gooOwner (s : State) (l : Lane) (u : Nat) : Nat := s.ent (gooAddr l u) E.T10_6_OWNER

/-! Member writes. -/

/-- The members of a subscription in order: TYPE, POINT and the element of allData. -/
def State.gooMembers (s : State) (l : Lane) (u : Nat) (elems : List BerElem) : List (Nat × Nat × BerElem) :=
  (List.range (s.ent (gooAddr l u) E.T10_6_MEMBERS)).map (fun m =>
    let a := memEnt l (s.ent (gooAddr l u) E.T10_6_MEMBER_BASE + m)
    (s.ent a E.T10_7_TYPE, s.ent a E.T10_7_POINT, elems.getD m ⟨0, []⟩))

/-- The points that members write, with value words and quality: a member of TYPE 6 sets the quality of the nearest
preceding member that writes (R248). -/
def gooPoints (ms : List (Nat × Nat × BerElem)) : List (Nat × Nat × Nat × Option Nat) :=
  (ms.foldl (fun (acc : List (Nat × Nat × Nat × Option Nat)) m =>
    let w := (gooVal m.1 m.2.2).getD (0, 0)
    if m.1 = 6 then
      match acc with
      | (p, w0, w1, _) :: t => (p, w0, w1, some w.1) :: t
      | [] => []
    else if m.1 = 0 then acc
    else (m.2.1, w.1, w.2, none) :: acc) []).reverse

/-- The quality rows of Table 6.8 on a quality's validity bits. -/
def qualCode (q : Nat) : Nat := if q % 4 = 0 then 0 else if q % 4 = 3 then 1 else 2

/-- The records an accepted message gives its member points (R248, R251). -/
def State.gooRecs (s : State) (l : Lane) (u : Nat) (m : GooMsg) (e : Nat) : List (Nat × Nat) :=
  (gooPoints (s.gooMembers l u m.elems)).map (fun p =>
    let w := p.2.1 % 2 ^ 32 + (p.2.2.1 % 2 ^ 32) * 2 ^ 32 + (m.tSec % 2 ^ 32) * 2 ^ 64 + (m.st % 2 ^ 32) * 2 ^ 96
    let code := match p.2.2.2 with
      | none => 0
      | some q => qualCode q
    let q := p.2.2.2.getD 0
    (p.1, mkRec w (toT96 e) code (m.sim || bitAt q 11) false 3 false q))

/-- The latest record given to a point: the newest write that waits for room, else the newest pending one, else the settled one. -/
def State.latest (s : State) (l : Lane) (p : Nat) : Nat :=
  match (((s.lane l).map.pend ++ (s.lane l).map.gooOut).filter (fun w => decide (w.point = p))).getLast? with
  | some w => w.rec_
  | none => s.settled l p

/-- The writes of a decided message, or of an expiry, whose E is `e` (R251, R252). -/
def State.gooWrites (s : State) (l : Lane) (u : Nat) (m : Option GooMsg) (e : Nat) : List MapW :=
  let own := s.gooOwner l u
  match m with
  | some m =>
    ((s.gooRecs l u m e).filter (fun w => m.all || decide (recCmp w.2 ≠ recCmp (s.latest l w.1)))).map
      (fun w => ⟨some e, none, w.1, w.2, own⟩)
  | none =>
    (gooPoints (s.gooMembers l u [])).map (fun p =>
      let r := s.latest l p.1
      ⟨some e, none, p.1, mkRec (r % 2 ^ 128) (toT96 e) 2 (decide (recTest r = 1)) false 3 true (recQual r), own⟩)

/-- Post the receiver's writes in order, each as the pending queue has a free place (R243). -/
def State.gooPost (s : State) (l : Lane) : Nat → State
  | 0 => s
  | fuel + 1 =>
    match (s.lane l).map.gooOut with
    | [] => s.mapGo l .goose
    | w :: rest =>
      if !s.mapRoom l 1 then s.mapWait l .goose
      else ((s.setMap l { (s.lane l).map with gooOut := rest }).mapPost l 3 w).gooPost l fuel

/-- A decided message, or an expiry, posts its writes after those that wait. -/
def State.gooSend (s : State) (l : Lane) (u : Nat) (m : Option GooMsg) (e : Nat) : State :=
  let s := s.setMap l { (s.lane l).map with gooOut := (s.lane l).map.gooOut ++ s.gooWrites l u m e }
  s.gooPost l ((s.lane l).map.gooOut.length + 1)

/-! Timing and acceptance. -/

/-- The timing copy as far as the copies decide it (R140): on the preferred copy's arrival. -/
def gooTiming (pref wait : Nat) (copies : List GooCopy) : Option GooCopy :=
  match copies.find? (fun c => decide (c.lan = pref)) with
  | none => none
  | some p =>
    match copies.find? (fun c => decide (c.lan ≠ pref)) with
    | some o => if o.stamp + wait < p.stamp then some o else some p
    | none => some p

/-- COPY_WAIT of a subscription. -/
def State.gooWait (s : State) (l : Lane) (u : Nat) : Nat := s.ent (gooAddr l u) E.T10_6_COPY_WAIT * us

/-- The deadline that a message with a timing copy sets (R252). -/
def State.gooDeadline (s : State) (l : Lane) (u : Nat) (stamp tal : Nat) : Nat :=
  let a := gooAddr l u
  stamp + (if tal = 0 then s.ent a E.T10_6_TAL_DEF else tal) * ms + s.ent a E.T10_6_TAL_EXTRA * us

/-- The deadline still to be lost once message `m` is decided: an earlier one kept, or the running one when no copy of `m` is
stamped at or before it (R252). -/
def State.gooOverdue (s : State) (l : Lane) (u : Nat) (m : GooMsg) : Option (Nat × Nat × Nat) :=
  let d := (ofT96 (s.ent (gooRec l u) gsDeadline)).getD 0
  match (s.goo l u).overdue with
  | some o => some o
  | none => if m.first || m.copies.any (fun c => decide (c.stamp ≤ d)) then none else some (d, m.st, m.sq)

/-- Decide the messages at the head of a subscription's order whose timing copy is known (R141): the deadline moves and the
writes are posted. -/
def State.gooFlush (s : State) (l : Lane) (u : Nat) : Nat → State
  | 0 => s
  | fuel + 1 =>
    let x := s.goo l u
    match x.pend with
    | [] => s
    | m :: rest =>
      match m.timing with
      | none => s
      | some c =>
        let late := s.gooOverdue l u m
        let s := s.setGoo l u { x with pend := rest, overdue := late, done := (⟨m.st, m.sq, m.oct, m.copies.map (fun d => d.lan), c.lan, c.stamp⟩ :: x.done).take 16 }
        let s := s.setEnt (gooRec l u) gsDeadline (toT96 (s.gooDeadline l u c.stamp m.tal))
        (s.gooSend l u (some m) c.stamp).gooFlush l u fuel

/-- An accepted message (R250): LIVE, st_L and sq_L, and its place in the order. -/
def State.gooAccept (s : State) (l : Lane) (u : Nat) (f : GooseMsg) (c : GooCopy) (all : Bool) : State :=
  let g := f.pdu
  let r := gooRec l u
  let first := decide (s.gooState l u ≠ 1)
  let s := s.setGooState l u 1
  let s := s.setEnt r gsSt g.st
  let s := s.setEnt r gsSq g.sq
  let x := s.goo l u
  let m : GooMsg := ⟨g.st, g.sq, f.oct, [c], gooTiming (s.ent (gooAddr l u) E.T10_6_PREF_LAN) (s.gooWait l u) [c], all, first, g.tal, g.tSec,
    f.simBit || g.sim, g.elems⟩
  (s.setGoo l u { x with pend := x.pend ++ [m], alive := some (sealAlive f.trailer) }).gooFlush l u 64

/-- COPY_DIFF of a subscription: counted, with its event (R139). -/
def State.gooDiff (s : State) (l : Lane) (u : Nat) (same : Bool) : State := if same then s else s.mapCntEv l 10 u

/-- A checked copy: the second copy of a message held or decided, or a first copy that meets R250. -/
def State.gooCopy (s : State) (l : Lane) (u lan stamp : Nat) (f : GooseMsg) : State :=
  let a := gooAddr l u
  let x := s.goo l u
  let c : GooCopy := ⟨lan, stamp⟩
  let pref := s.ent a E.T10_6_PREF_LAN
  let k := f.pdu
  match x.pend.find? (fun m => decide (m.st = k.st ∧ m.sq = k.sq)) with
  | some m =>
    let s := s.mapCnt l 8
    if m.copies.any (fun d => decide (d.lan = lan)) then s
    else
      let s := s.gooDiff l u (decide (m.oct = f.oct))
      let x := s.goo l u
      let upd := fun (g : GooMsg) =>
        if g.st = k.st ∧ g.sq = k.sq then
          { g with copies := g.copies ++ [c], timing := gooTiming pref (s.gooWait l u) (g.copies ++ [c]) }
        else g
      (s.setGoo l u { x with pend := x.pend.map upd }).gooFlush l u 64
  | none =>
    match x.done.find? (fun d => decide (d.st = k.st ∧ d.sq = k.sq)) with
    | some d =>
      let s := s.mapCnt l 8
      if d.lans.contains lan then s
      else
        let s := s.gooDiff l u (decide (d.oct = f.oct))
        let s := if lan = pref ∧ d.lan ≠ pref ∧ stamp ≤ d.stamp + s.gooWait l u then s.settleOvr l else s
        let x := s.goo l u
        let met := match x.overdue with
          | some o => decide (o.2 = (k.st, k.sq)) && decide (stamp ≤ o.1)
          | none => false
        s.setGoo l u { x with
          overdue := if met then none else x.overdue
          done := x.done.map (fun e => if e = d then { e with lans := e.lans ++ [lan] } else e) }
    | none =>
      let st := s.gooState l u
      let dst := (k.st + 2 ^ 32 - s.ent (gooRec l u) gsSt) % 2 ^ 32
      let dsq := (k.sq + 2 ^ 32 - s.ent (gooRec l u) gsSq) % 2 ^ 32
      let frozen := decide (s.ent a E.T10_6_SEAL_REQ = 1) && decide (x.alive = some (sealAlive f.trailer))
      if st ≠ 1 then
        let s := if st = 2 ∧ stamp ≤ x.lossAt then s.settleOvr l else s
        s.gooAccept l u f c true
      else if 1 ≤ dst ∧ dst ≤ 2 ^ 31 then
        if frozen then s.mapCnt l 4
        else (if 1 < dst then s.mapCnt l 11 else s).gooAccept l u f c true
      else if dst = 0 ∧ 1 ≤ dsq ∧ dsq ≤ 2 ^ 31 then
        if frozen then s.mapCnt l 4 else s.gooAccept l u f c false
      else s.mapCnt l 9

/-! The checks of a copy. -/

/-- The layout of Table 10.5 and R248 against an entry (step 3 of R249). -/
def State.gooFormat (s : State) (l : Lane) (u : Nat) (f : GooseMsg) : Bool :=
  let n := s.ent (gooAddr l u) E.T10_6_MEMBERS
  match f.pdu? with
  | none => false
  | some g =>
    !g.ndsCom && decide (g.entries = n) && decide (g.elems.length = n) &&
      (s.gooMembers l u g.elems).all (fun m => (gooVal m.1 m.2.2).isSome)

/-- A copy verified under the next key promotes it, and a running build logs the promotion (R154, R253). -/
def State.gooPromote (s : State) (l : Lane) (u : Nat) : State :=
  let a := gooAddr l u
  let slot := s.ent a E.T10_6_SLOT_NEXT
  let id := s.ent a E.T10_6_KEY_ID_NEXT
  let s := s.setEnt a E.T10_6_SLOT_CUR slot
  let s := s.setEnt a E.T10_6_KEY_ID_CUR id
  let s := s.setEnt a E.T10_6_NEXT_VALID 0
  let pg : Page := .map l
  if !s.bit pg F.MAP_TBL_STATUS_BUILDING || s.bit pg F.MAP_TBL_STATUS_OVERFLOW then s
  else
    let m := (s.lane l).map
    if 4096 ≤ m.gooLog.length then s.setBit pg F.MAP_TBL_STATUS_OVERFLOW
    else (s.setMap l { m with gooLog := m.gooLog ++ [(u, slot, id)] }).setFld pg F.MAP_TBL_STATUS_LOG_COUNT (m.gooLog.length + 1)

/-- Steps 2 to 7 of Table 6.4 on a GOOSE copy (R249): the state after them, and whether it passed. -/
def State.gooChecks (s : State) (l : Lane) (u stamp : Nat) (timeOk : Bool) (f : GooseMsg) : State × Bool :=
  let a := gooAddr l u
  let auth := s.ent a E.T10_6_AUTH
  if !timeOk then (s.mapCnt l 7, false)
  else if !s.gooFormat l u f then (s.mapCnt l 1, false)
  else if (f.simBit || f.pdu.sim) && decide (s.ent a E.T10_6_SIM_ACC = 0) then (s.mapCnt l 2, false)
  else if f.pdu.confRev ≠ s.ent a E.T10_6_CONF_REV then (s.mapCnt l 3, false)
  else if s.ent a E.T10_6_SEAL_REQ = 1 ∧ !sealOk f.body f.trailer (s.ent a E.T10_6_SEAL_SRC) then (s.mapCnt l 4, false)
  else if auth = 0 then (s, true)
  else
    match f.ext with
    | none => (s.mapCnt l 6, false)
    | some x =>
      let r := s.tagCheck l (s.ent a E.T10_6_SLOT_CUR) (s.ent a E.T10_6_SLOT_NEXT) (s.ent a E.T10_6_KEY_ID_CUR)
        (s.ent a E.T10_6_KEY_ID_NEXT) (decide (s.ent a E.T10_6_NEXT_VALID = 1)) auth stamp x
      let gone := s.keyGone l (s.ent a E.T10_6_SLOT_CUR) (s.ent a E.T10_6_SLOT_NEXT) (s.ent a E.T10_6_KEY_ID_CUR)
        (s.ent a E.T10_6_KEY_ID_NEXT) (decide (s.ent a E.T10_6_NEXT_VALID = 1)) stamp x
      if r = 2 then ((if gone then s.settleOvr l else s).mapCnt l 5, false)
      else if r = 1 then (s.gooPromote l u, true)
      else (s, true)

/-- The subscription a copy belongs to (R247). -/
def State.gooFind (s : State) (l : Lane) (f : GooseMsg) : Option Nat :=
  let crc := crcOf crc32c f.gocbRef
  (s.entries (gooAddr l 0) 0x100000 64).find? (fun u =>
    let a := gooAddr l u
    decide (s.ent a E.T10_6_VALID = 1 ∧ s.ent a E.T10_6_DMAC = f.dmac ∧ s.ent a E.T10_6_VID = f.vid ∧
      s.ent a E.T10_6_APPID = f.appid ∧ s.ent a E.T10_6_GOCB_CRC = crc))

/-- One copy through the receiver (R249, R250). -/
def State.gooFrame (s : State) (l : Lane) (lan stamp : Nat) (timeOk : Bool) (f : GooseMsg) : State :=
  match s.gooFind l f with
  | none => s.mapCnt l 0
  | some u =>
    let r := s.gooChecks l u stamp timeOk f
    if r.2 then r.1.gooCopy l u lan stamp f else r.1

/-- The receiver goes on once its writes have room: the writes that wait are posted, then the frames of the input buffer are
taken in order until it waits again (R243). -/
def State.gooResume (s : State) (l : Lane) : Nat → State
  | 0 => s
  | fuel + 1 =>
    let s := s.gooPost l ((s.lane l).map.gooOut.length + 1)
    if !(s.lane l).map.gooOut.isEmpty then s
    else
      match (s.lane l).map.gooBuf with
      | [] => s
      | (lan, stamp, ok, f) :: rest =>
        ((s.setMap l { (s.lane l).map with gooBuf := rest }).gooFrame l lan stamp ok f).gooResume l fuel

/-! The commands. -/

/-- GOOSE_COPY_RECEIVED (R249): a GOOSE copy reaches the lane port. While the receiver waits, its 256-frame input buffer
takes the copy, or the copy is discarded (R243); while MAP_CTRL.EN = 0 it is discarded uncounted (R472). -/
def execGooseCopyReceived (l : Lane) (lan : Fin 2) (stamp : Nat) (timeOk : Bool) (f : GooseMsg) (s : State) : Host.Outcome State Fault Refusal :=
  if !s.laneUp l || !s.bit (.map l) F.MAP_CTRL_EN then ok s
  else
    let m := (s.lane l).map
    if m.gooOut.isEmpty then ok (s.gooFrame l lan stamp timeOk f)
    else if m.gooBuf.length < 256 then ok (s.setMap l { m with gooBuf := m.gooBuf ++ [(lan.val, stamp, timeOk, f)] })
    else ok (s.mapCntEv l 16 0)

/-- GOOSE_TIMING_WAIT_EXPIRE (R250): the followed clock reaches S_n + COPY_WAIT + 2.0 µs for the message at the head of a
subscription's order, whose preferred copy has not arrived. -/
def execGooseTimingWaitExpire (l : Lane) (u : Fin 16384) (s : State) : Host.Outcome State Fault Refusal :=
  if !s.laneUp l then ok s
  else
    let x := s.goo l u
    match x.pend with
    | [] => ok s
    | m :: rest =>
      match m.timing, m.copies with
      | none, c :: _ =>
        let s := s.reachLane l (c.stamp + s.gooWait l u + settle)
        let x := s.goo l u
        ok ((s.setGoo l u { x with pend := { m with timing := some c } :: rest }).gooFlush l u 64)
      | _, _ => ok s

/-- A LIVE subscription's deadline + 2.0 µs, and no copy of an accepted message stamped at or before it: the subscription
is lost (R252). A deadline that an accepted message missed comes first. -/
def State.gooExpire (s : State) (l : Lane) (u : Nat) : State :=
  let o := (s.goo l u).overdue
  let d := match o with
    | some x => x.1
    | none => (ofT96 (s.ent (gooRec l u) gsDeadline)).getD 0
  let keeps := o.isNone && (s.goo l u).pend.any (fun m => m.first || m.copies.any (fun c => decide (c.stamp ≤ d)))
  if keeps || decide (s.gooState l u ≠ 1) then s
  else
    let s := s.reachLane l (d + settle)
    let s := s.mapCnt l 12
    let s := s.setGooState l u 2
    let x := s.goo l u
    let s := s.setGoo l u { x with lossAt := d, overdue := none, pend := x.pend.map (fun m => { m with first := true }) }
    s.gooSend l u none d

/-- GOOSE_DEADLINE (R252): the followed clock reaches a LIVE subscription's deadline + 2.0 µs, and no copy of an accepted
message stamped at or before it keeps it LIVE. With MAP_CTRL.EN = 0 the decision waits (R472). -/
def execGooseDeadline (l : Lane) (u : Fin 16384) (s : State) : Host.Outcome State Fault Refusal :=
  if !s.laneUp l || !s.bit (.map l) F.MAP_CTRL_EN then ok s else ok (s.gooExpire l u)

end Sys2Proof.Machine
end

