-- ==== Sys2Proof/Machine/Request.lean ====
section
/-!
DEFINITION. Map requests (R245, R341): posting, handling in posting order per requester, completion.
-/

namespace Sys2Proof.Machine
open Sys2Proof

/-- The address of request register k (0 LO, 1 HI, 2 GO, 3 FAULT) of a requester: the manager's stand in the MAP_ block, an
instance's own copies (Table 15.3) at addresses of the model's own. -/
def reqReg (l : Lane) (o k : Nat) : Nat :=
  if o = 64 then regAddr (.map l) .MAP_REQ_LO 0 + 4 * k else 2 ^ 48 + 0x400000 + 0x10000 * l.idx + 16 * o + 4 * k

/-- The record address that a requester's MAP_REQ_LO and MAP_REQ_HI name. -/
def State.reqAddr (s : State) (l : Lane) (o : Nat) : Nat :=
  bitsOf (s.win (reqReg l o 0)).toNat 31 6 * 64 + bitsOf (s.win (reqReg l o 1)).toNat 15 0 * 2 ^ 32

/-- A request completes: STATUS in its record, and vector 8 at the requester (R245, R355). -/
def State.reqDone (s : State) (l : Lane) (r : MapReq) (st : Nat) : State :=
  let m := (s.lane l).map
  let s := s.setMap l { m with reqs := m.reqs.erase r }
  (s.memWLog l 1 (r.addr + 0x38) [BitVec.ofNat 8 st]).vector l r.o 8

/-- A request whose record its requester may not reach: discarded, REFUSED set, COUNT and REFUSED of the owner counted
(R341). -/
def State.reqFault (s : State) (l : Lane) (r : MapReq) : State :=
  let m := (s.lane l).map
  let s := s.setMap l { m with reqs := m.reqs.erase r }
  let a := reqReg l r.o 3
  let n := bitsOf (s.win a).toNat 31 16
  let s := s.setWin a (BitVec.ofNat 32 (min (n + 1) 0xFFFF * 65536 + 1))
  (s.refused l r.o).vector l r.o 8

/-- The points a SNAP request lists. -/
def State.snapList (s : State) (l : Lane) (a : Nat) : List Nat :=
  let n := s.recF l a E.T10_4_COUNT
  let p := s.recF l a E.T10_4_LIST
  (List.range n).map (fun i => s.memN l (p + 4 * i) 4 % 2 ^ 23)

/-- Take a request at the head of its requester's order: the state after it, or nothing when it has to wait for room. -/
def State.reqTake (s : State) (l : Lane) (r : MapReq) : Option State :=
  let a := r.addr
  let kind := s.recF l a E.T10_4_KIND
  let time := ofT96 (s.recF l a E.T10_4_TIME)
  if !(s.mayReachRange l r.o false a 64 && s.mayReach l r.o true (a + 0x38)) then some (s.reqFault l r)
  else
    match kind, time with
    | 1, some t =>
      if t ≤ s.horizon l then some (s.reqDone l r 1)
      else if !s.mapRoom l 1 then none
      else
        let p := s.recF l a E.T10_4_POINT
        let rec_ := mkRec (s.memN l (a + 0x28) 16) (toT96 t) (s.recF l a E.T10_4_CODE) (decide (s.recF l a E.T10_4_TEST = 1)) false 5 false 0
        let bad := !s.mayWrite l 5 r.o p
        let s := s.mapPost l 5 ⟨some t, none, p, rec_, r.o⟩
        some (s.reqDone l r (if bad then 2 else 0))
    | 2, some t =>
      let n := s.recF l a E.T10_4_COUNT
      let list := s.recF l a E.T10_4_LIST
      let dest := s.recF l a E.T10_4_DEST
      if n = 0 ∨ 4096 < n then some (s.reqDone l r 3)
      else if !(s.mayReachRange l r.o false list (4 * n) && s.mayReachRange l r.o true dest (32 * n)) then
        some ((s.refused l r.o).reqDone l r 4)
      else if !(s.snapList l a).all (s.mayRead l r.o) then some (s.reqDone l r 4)
      else if t ≤ s.horizon l then some (s.reqDone l r 1)
      else
        let m := (s.lane l).map
        some (s.setMap l { m with reqs := m.reqs.map (fun q =>
          if q = r then { q with cut := some t, pts := s.snapList l a, dest := dest } else q) })
    | _, _ => some (s.reqDone l r 3)

/-- The requests that the map may take now: the first of each requester, unless it is a SNAP taken and waiting. -/
def reqHeads : List MapReq → List Nat → List MapReq
  | [], _ => []
  | r :: t, seen =>
    if seen.contains r.o then reqHeads t seen
    else if r.cut.isNone then r :: reqHeads t (r.o :: seen)
    else reqHeads t (r.o :: seen)

/-- Would a request post a write (R472)? -/
def State.reqWrites (s : State) (l : Lane) (r : MapReq) : Bool :=
  s.mayReachRange l r.o false r.addr 64 && s.mayReach l r.o true (r.addr + 0x38) && decide (s.recF l r.addr E.T10_4_KIND = 1) &&
    (match ofT96 (s.recF l r.addr E.T10_4_TIME) with
     | some t => decide (s.horizon l < t)
     | none => false)

/-- Handle requests while the map is enabled, each requester's in posting order (R245); a WRITE without room waits. While
MAP_CTRL.EN = 0 requests wait, and one that would post a write counts as a waiting writer (R472). -/
def State.reqRun (s : State) (l : Lane) : Nat → State
  | 0 => s
  | fuel + 1 =>
    if !s.bit (.map l) F.MAP_CTRL_EN then (if (reqHeads (s.lane l).map.reqs []).any (s.reqWrites l) then s.mapWait l .request else s)
    else
      match (reqHeads (s.lane l).map.reqs []).findSome? (fun r => s.reqTake l r) with
      | some s' => s'.reqRun l fuel
      | none => if (reqHeads (s.lane l).map.reqs []).isEmpty then s.mapGo l .request else s.mapWait l .request

/-- The copy of a SNAP request whose cut the horizon has reached, to the place it named when the map took it (R244, R245). What the
requester may no longer reach is not written: the request ends with DENIED, or is discarded (R341). -/
def State.reqCopy (s : State) (l : Lane) (r : MapReq) : State :=
  let (s, recs) := s.snapshot l (r.cut.getD 0) r.pts
  let s :=
    if !s.mayReach l r.o true (r.addr + 0x38) then s.reqFault l r
    else if !s.mayReachRange l r.o true r.dest (32 * recs.length) then (s.refused l r.o).reqDone l r 4
    else (s.memWLog l 1 r.dest (recs.flatMap (natLe 32))).reqDone l r 0
  s.reqRun l ((s.lane l).map.reqs.length + 1)

/-- A write of 1 to MAP_REQ_GO by a requester: the request is posted; an instance that is not RUNNING may post none (R343). -/
def State.reqGo (s : State) (l : Lane) (o : Nat) : State :=
  if !s.ownerRuns l o then s.refused l o
  else
    let m := (s.lane l).map
    let s := s.setMap l { m with reqs := m.reqs ++ [⟨o, s.reqAddr l o, none, [], 0⟩] }
    s.reqRun l ((s.lane l).map.reqs.length + 1)

/-- A requester writes the words of a record into lane memory where it may, names the record in its request registers, and
writes GO. -/
def State.reqIssue (s : State) (l : Lane) (o : Nat) (addr : Nat) (rec_ : List Byte) : State :=
  if !s.laneUp l then s
  else
    let s := if s.mayReachRange l o true addr 64 then s.memWLog l 0 addr rec_ else s
    let s := s.setWin (reqReg l o 0) (BitVec.ofNat 32 (addr % 2 ^ 32))
    let s := s.setWin (reqReg l o 1) (BitVec.ofNat 32 (addr / 2 ^ 32 % 2 ^ 16))
    s.reqGo l o

/-- A request record of Table 10.4 with STATUS 0. -/
def reqRecord (kind point code : Nat) (test : Bool) (time count list dest w : Nat) : List Byte :=
  natLe 4 (kind % 4) ++ natLe 4 (point % 2 ^ 23 + (code % 4) * 2 ^ 23 + b2n test * 2 ^ 25) ++ natLe 12 time ++
    natLe 4 (count % 2 ^ 13) ++ natLe 8 (list % 2 ^ 48) ++ natLe 8 (dest % 2 ^ 48) ++ natLe 16 w ++ natLe 8 0

/-- MAP_REQUEST_WRITE (R245): requester `o` posts a WRITE request whose 64-byte record stands at 64 × `slot`. -/
def execMapRequestWrite (l : Lane) (o : Fin 65) (slot : BitVec 42) (point : Fin 8388608) (code : Fin 4) (test : Bool) (time : BitVec 96) (w : BitVec 128) (s : State) : Host.Outcome State Fault Refusal :=
  ok (s.reqIssue l o (64 * slot.toNat) (reqRecord 1 point code test time.toNat 0 0 0 w.toNat))

/-- MAP_REQUEST_SNAP (R245): requester `o` posts a SNAP request; its copy is taken when the horizon reaches the cut. -/
def execMapRequestSnap (l : Lane) (o : Fin 65) (slot : BitVec 42) (time : BitVec 96) (count : BitVec 13) (list dest : BitVec 48) (s : State) : Host.Outcome State Fault Refusal :=
  ok (s.reqIssue l o (64 * slot.toNat) (reqRecord 2 0 0 false time.toNat count.toNat list.toNat dest.toNat 0))

/-- MAP_REQUEST_INVALID (R245): requester `o` posts a record whose KIND is neither WRITE nor SNAP. -/
def execMapRequestInvalid (l : Lane) (o : Fin 65) (slot : BitVec 42) (zero : Bool) (time : BitVec 96) (s : State) : Host.Outcome State Fault Refusal :=
  ok (s.reqIssue l o (64 * slot.toNat) (reqRecord (if zero then 0 else 3) 0 0 false time.toNat 0 0 0 0))

end Sys2Proof.Machine
end

