-- ==== Sys2Proof/Machine/MapCmd.lean ====
section
/-!
DEFINITION. The signal map's own moments ("Signal map"): room in the pending queue (R243), snapshots whose cut the horizon
reaches (R244), and MAP_CTRL.EN returning to 1 (R472).
-/

namespace Sys2Proof.Machine
open Sys2Proof

/-- A writer that waited goes on: an engine commits its firing, a Scribe engine and the field bus post their writes, the
GOOSE receiver posts and takes its buffer, requests are taken (R243). -/
def State.waiterGo (s : State) (l : Lane) : Waiter → State
  | .engine e => s.opResume l e
  | .scribe k => s.scrPost l k ((s.scr l k).posts.length + 1)
  | .goose => s.gooResume l 257
  | .fieldBus => s.fbPost l ((s.lane l).fbs.out.length + 1)
  | .request => s.reqRun l ((s.lane l).map.reqs.length + 1)

/-- PENDING_QUEUE_ROOM (R243): a place in the pending queue is free and the writer that has waited longest goes on. -/
def execPendingQueueRoom (l : Lane) (s : State) : Host.Outcome State Fault Refusal :=
  if !s.laneUp l || !s.mapRoom l 1 then ok s
  else
    match (s.lane l).map.waits with
    | [] => ok s
    | w :: _ => ok (s.waiterGo l w)

/-- The cut of a waiting snapshot. -/
def SnapReq.cut : SnapReq → Nat
  | .scribe _ c => c
  | .pub _ c => c
  | .fbo _ c => c

/-- A snapshot that the map has waiting: of a Scribe cycle, a publication or an object, or of a SNAP request. -/
inductive Waiting where
  | snap (r : SnapReq)
  | req (r : MapReq)
  deriving DecidableEq, Repr

/-- The cut of a waiting snapshot of either kind. -/
def Waiting.cut : Waiting → Nat
  | .snap r => r.cut
  | .req r => r.cut.getD 0

/-- The snapshots that wait. -/
def State.waitingSnaps (s : State) (l : Lane) : List Waiting :=
  (s.lane l).map.snaps.map .snap ++ ((s.lane l).map.reqs.filter (fun r => r.cut.isSome)).map .req

/-- The waiting snapshot with the least cut, the first in order among equals. -/
def leastCut (w : List Waiting) : Option Waiting :=
  w.foldl (fun a x =>
    match a with
    | none => some x
    | some b => if x.cut < b.cut then some x else some b) none

/-- Take one snapshot whose cut the horizon has reached, and hand its copy over (R244). -/
def State.snapServe (s : State) (l : Lane) (w : Waiting) : State :=
  match w with
  | .req r => s.reqCopy l r
  | .snap r =>
    let m := (s.lane l).map
    let s := s.setMap l { m with snaps := m.snaps.erase r }
    match r with
    | .scribe k _ => s.scrImage l k
    | .pub n _ => s.pubRun l n (2 * (s.pub l n).evals.length + 64)
    | .fbo d c => s.fboQueueAt l d c

/-- SNAPSHOT (R244): the horizon reaches the least cut that waits, and that snapshot is taken. -/
def execSnapshot (l : Lane) (s : State) : Host.Outcome State Fault Refusal :=
  if !s.laneUp l || !s.bit (.map l) F.MAP_CTRL_EN then ok s
  else
    match leastCut (s.waitingSnaps l) with
    | none => ok s
    | some w =>
      let s := s.reachLane l (w.cut + s.hold l)
      ok ((s.mapSettle l).snapServe l w)

/-- Take every waiting snapshot whose cut the horizon has passed, in order of cut. -/
def State.snapAll (s : State) (l : Lane) : Nat → State
  | 0 => s
  | fuel + 1 =>
    match leastCut (s.waitingSnaps l) with
    | none => s
    | some w => if s.snapReady l w.cut then (s.snapServe l w).snapAll l fuel else s

/-- MAP_CTRL.EN returns to 1 with a pending queue configured: pending writes in ascending E, waiting snapshots, requests
(R472), the subscription deadlines that passed meanwhile (R252), and the writers that waited. -/
def State.mapEnable (s : State) (l : Lane) : State :=
  if s.bit (.map l) F.MAP_CTRL_EN || decide (s.fld (.map l) F.MAP_PEND_CFG_SIZE_LOG2 = 0) then s
  else
    let s := s.setBit (.map l) F.MAP_CTRL_EN
    let s := s.mapSettle l
    let s := s.snapAll l ((s.waitingSnaps l).length + 1)
    let s := (s.mapGo l .request).reqRun l ((s.lane l).map.reqs.length + 1)
    let due := (s.entries (gooAddr l 0) 0x100000 64).filter (fun u =>
      decide ((ofT96 (s.ent (gooRec l u) gsDeadline)).getD 0 + settle ≤ s.laneNow l))
    let s := due.foldl (fun s u => s.gooExpire l u) s
    let ws := (s.lane l).map.waits
    ws.foldl (fun s w => s.waiterGo l w) s

/-- MAP_ENABLE (R472): MAP_CTRL.EN is written to 1. -/
def execMapEnable (l : Lane) (s : State) : Host.Outcome State Fault Refusal :=
  if !s.laneUp l then ok s else ok (s.mapEnable l)

/-- MAP_CNT_CLR: every MAP_CNT is cleared (R11). -/
def execMapCntClr (l : Lane) (s : State) : Host.Outcome State Fault Refusal :=
  if !s.laneUp l then ok s else ok (s.clrRow (.map l) .MAP_CNT 17)

end Sys2Proof.Machine
end

