-- ==== Sys2Proof/Machine/Instances.lean ====
section
/-!
DEFINITION. Instances ("Virtual instances"): commands and states (R344 to R346), quiesce and drain (R347 to R349), abort
(R350), reset (R351), start and resume (R352), vectors (R355 to R357), the dirty-page log's epochs (R360), and the grid
instants at which commands take effect.
-/

namespace Sys2Proof.Machine
open Sys2Proof

/-- An instance of a lane. -/
def State.ins (s : State) (l : Lane) (n : Nat) : InsSt := assocGetD (s.lane l).ins n .empty

/-- Store it. -/
def State.setIns (s : State) (l : Lane) (n : Nat) (x : InsSt) : State :=
  s.setLane l { s.lane l with ins := assocPut (s.lane l).ins n x }

/-- Bit n of INS_CHG_MAP and CHANGE are set. -/
def State.insChg (s : State) (l : Lane) (n : Nat) : State :=
  let r : RegId := if n < 32 then .INS_CHG_MAP_LO else .INS_CHG_MAP_HI
  let b := n % 32
  (s.wr (.ins l) r 0 (BitVec.ofNat 32 (bitsPut (s.rd (.ins l) r).toNat b b 1))).setBit (.ins l) F.INS_STATUS_CHANGE

/-- Change the state of an instance; leaving QUIESCED clears DRAINED. -/
def State.setInsState (s : State) (l : Lane) (n v : Nat) : State :=
  let pg : Page := .insPage l n
  if s.insState l n = v then s
  else
    let s := if s.insState l n = 4 then s.setFld pg F.INS_STATE_DRAINED 0 else s
    (s.setFld pg F.INS_STATE_STATE v).insChg l n

/-- A command completes (R345): CODE, DONE, INS_CHG_MAP, and vector 49 at the manager. -/
def State.insComplete (s : State) (l : Lane) (n code : Nat) : State :=
  let pg : Page := .insPage l n
  let s := s.setFld pg F.INS_CMD_STATUS_CODE code
  let s := s.setBit pg F.INS_CMD_STATUS_DONE
  (s.insChg l n).vector l 64 49

/-! What an instance owns. -/

/-- The Quill groups of an owner. -/
def State.insGroups (s : State) (l : Lane) (n : Nat) : List Nat :=
  (List.range 256).filter (fun g => decide (s.grpF l g E.T8_6_VALID = 1 ∧ s.grpF l g E.T8_6_OWNER = n))

/-- The owner of a node's group. -/
def State.nodeOwner (s : State) (l : Lane) (b n : Nat) : Nat := s.grpF l (s.grpEnt l b (s.nd l b n E.T8_3_GROUP)) E.T8_6_OWNER

/-- The element nodes of the active graph that an owner has. -/
def State.insNodes (s : State) (l : Lane) (n : Nat) : List Nat :=
  let b := s.gBank l
  (s.memEntries l (s.graphAt l b 0) 0x400000 16).filter (fun i => decide (s.nd l b i E.T8_3_KIND = 3 ∧ s.nodeOwner l b i = n))

/-- Units of an instance, by its descriptor. -/
def State.insScribes (s : State) (l : Lane) (n : Nat) : List Nat := (List.range 32).filter (fun k => decide (s.ownerScribe l k = n))
def State.insFlts (s : State) (l : Lane) (n : Nat) : List Nat := (List.range 16).filter (fun e => decide (s.ownerFlt l e = n))
def State.insChks (s : State) (l : Lane) (n : Nat) : List Nat := (List.range 8).filter (fun u => decide (s.ownerChk l u = n))

/-- The publications of an instance. -/
def State.insPubs (s : State) (l : Lane) (n : Nat) : List Nat :=
  (List.range (s.ent (insDesc l n) E.T15_1_PUB_COUNT)).map (fun i => s.ent (insDesc l n) E.T15_1_PUB_FIRST + i)

/-- The field-bus objects of an instance. -/
def State.insObjs (s : State) (l : Lane) (n : Nat) : List Nat :=
  (List.range (s.ent (insDesc l n) E.T15_1_FBO_COUNT)).map (fun i => s.ent (insDesc l n) E.T15_1_FBO_FIRST + i)

/-- The GOOSE subscriptions of an instance. -/
def State.insGoose (s : State) (l : Lane) (n : Nat) : List Nat :=
  (s.entries (gooAddr l 0) 0x100000 64).filter (fun u => decide (s.ent (gooAddr l u) E.T10_6_VALID = 1 ∧ s.gooOwner l u = n))

/-- The points in ranges of an owner (Table 10.2). -/
def State.insPoints (s : State) (l : Lane) (n : Nat) : List Nat :=
  let base := winAddr (.map l) .mapRngAct 0
  let rs := (s.entries base 0x10000 16).filter (fun i =>
    decide (s.ent (base + 16 * i) E.T10_2_VALID = 1 ∧ s.ent (base + 16 * i) E.T10_2_OWNER = n))
  rs.flatMap (fun i =>
    (List.range (s.ent (base + 16 * i) E.T10_2_COUNT_M1 + 1)).map (fun k => s.ent (base + 16 * i) E.T10_2_FIRST + k))

/-! Quiesce and drain. -/

/-- QUIESCE takes effect at instant g (R347): groups close to keys at or after g and to Speedwell tokens, whose
deferred nodes no more become ready (R202); issues with E at or after g are not sent; the owner's other units stop by its recorded
quiesce instant. -/
def State.insQuiesce (s : State) (l : Lane) (n g : Nat) : State :=
  let s := (s.insGroups l n).foldl (fun s k =>
    if s.bit (.qul l) F.QUL_GRP_CTL_INTAKE k then
      (s.setFld (.qul l) F.QUL_GRP_CTL_INTAKE 0 k).setGrpSt l k { s.grpSt l k with closeFrom := some g }
    else s) s
  let s := s.setLane l { s.lane l with insGq := assocPut (s.lane l).insGq n (s.gT l g) }
  let s := (s.insPubs l n).foldl (fun s p =>
    s.setPub l p { s.pub l p with issues := (s.pub l p).issues.filter (fun i => decide (i.e < s.gT l g)) }) s
  let q := (s.lane l).quill
  let s := s.setQuill l { q with deferred := q.deferred.filter (fun d => decide (s.nodeOwner l d.1 d.2 ≠ n ∨ s.nd l d.1 d.2 E.T8_3_SW = 0)) }
  let s := s.setInsState l n 3
  (s.setIns l n { s.ins l n with run := some (2, g, true) }).refresh l

/-- Has every filter engine of the instance passed on its tokens for keys before g? -/
def State.fltDrained (s : State) (l : Lane) (n g : Nat) : Bool :=
  !s.bit (.flt l) F.FLT_CTRL_EN ||
    ((s.insFlts l n).all (fun e => (s.tokQ l e).toks.all (fun t => decide (g ≤ t.key))) &&
      (s.validSlots l).all (fun i =>
        let st := s.ent (slotDesc l i) E.T7_1_STREAM
        let grp := s.ent (subAddr l st) E.T6_2_GROUP
        decide (s.ownerFlt l (i / 512) ≠ n) ||
          ((s.slotSt l i).ready.all (fun r => decide (g ≤ r.g)) &&
            decide (g ≤ (if grp = 255 then s.soloNext l st else s.grpNext l grp)))))

/-- Is every group of the instance DRAINED for keys before g (R202)? -/
def State.quillDrained (s : State) (l : Lane) (n : Nat) : Bool :=
  let q := (s.lane l).quill
  q.items.all (fun i => decide (s.grpF l (s.itemGrp l i) E.T8_6_OWNER ≠ n)) &&
    q.deferred.all (fun d => decide (s.nodeOwner l d.1 d.2 ≠ n)) &&
    q.eng.all (fun e => decide (s.grpF l (s.itemGrp l e.2.item) E.T8_6_OWNER ≠ n))

/-- Is the instance drained (R348)? -/
def State.insDrained (s : State) (l : Lane) (n : Nat) : Bool :=
  match (s.lane l).insGq.find? (fun e => decide (e.1 = n)) with
  | none => false
  | some (_, t) =>
    let g := gridAt (s.gridG l) t
    s.quillDrained l n && s.fltDrained l n g &&
      (s.insScribes l n).all (fun k => !(s.scr l k).run && !(s.scr l k).waiting && (s.scr l k).posts.isEmpty) &&
      (s.insPubs l n).all (fun p => (s.pub l p).issues.all (fun i => decide (t ≤ i.e)) && (s.pub l p).evals.all (fun r => decide (t ≤ r.e))) &&
      (s.insChks l n).all (fun u => !s.bit (.chk l u) F.CHK_STATUS_BUSY) &&
      (s.lane l).map.reqs.all (fun r => decide (r.o ≠ n)) && (s.lane l).fbs.out.all (fun w => decide (w.owner ≠ n)) &&
      (s.lane l).map.gooOut.all (fun w => decide (w.owner ≠ n)) &&
      (decide (s.ownerDrc l ≠ n) || decide (s.drcState l = 0))

/-! Abort. -/

/-- The instance's ready items, deferred nodes and held tokens are discarded, each counted (R350); its groups are closed to
every key. -/
def State.abortQuill (s : State) (l : Lane) (n : Nat) : State :=
  let q := (s.lane l).quill
  let own := fun (i : Item) => decide (s.grpF l (s.itemGrp l i) E.T8_6_OWNER = n)
  let gone := q.items.filter own
  let def_ := q.deferred.filter (fun d => decide (s.nodeOwner l d.1 d.2 = n))
  let mine := q.nodes.filter (fun e => decide (s.nodeOwner l (e.1 / 2 ^ 18) (e.1 % 2 ^ 18) = n))
  let running := fun (k : Nat) => q.eng.any (fun e => decide (ndKey e.2.item.bank e.2.item.node = k))
  let toks := (mine.map (fun e => if running e.1 then 0 else (e.2.ports.map (fun p => p.2.length)).sum)).sum
  let held := fun (t : Tok) => decide (s.nodeOwner l (s.tokBank l t) t.node = n)
  let src := q.src.filter (fun e => (e.2.held.isSome) && (e.2.toks.head?.map held).getD false)
  let s := s.setQuill l { q with
    items := q.items.filter (fun i => !own i)
    deferred := q.deferred.filter (fun d => decide (s.nodeOwner l d.1 d.2 ≠ n)) }
  let s := gone.foldl (fun s i => i.resv.foldl (fun s np =>
    let y := s.node l i.bank np.1
    s.setNode l i.bank np.1 (y.setResv np.2 (y.resvd np.2 - 1))) s) s
  let s := mine.foldl (fun s e =>
    let y := s.node l (e.1 / 2 ^ 18) (e.1 % 2 ^ 18)
    if running e.1 then s else s.setNode l (e.1 / 2 ^ 18) (e.1 % 2 ^ 18) { y with ports := [], firing := 0 }) s
  let s := src.foldl (fun s e => s.srcPop l e.1) s
  let s := (s.insGroups l n).foldl (fun s g => s.setGrpSt l g { s.grpSt l g with closeFrom := none }) s
  (s.aborted l n (gone.length + def_.length + toks + src.length)).refresh l

/-- A running Scribe cycle of the instance stops and posts nothing; posts that wait for the map are discarded with it (R350). -/
def State.abortScribe (s : State) (l : Lane) (n k : Nat) : State :=
  let x := s.scr l k
  let m := (s.lane l).map
  if x.run || x.waiting || !x.posts.isEmpty then
    let s := s.setMap l { m with waits := m.waits.filter (fun w => decide (w ≠ .scribe k)), snaps := m.snaps.filter (fun r =>
      match r with
      | .scribe j _ => decide (j ≠ k)
      | _ => true) }
    let s := s.setScr l k { x with run := false, waiting := false, posts := [] }
    let s := s.setFld (.scr l k) F.SCR_STATUS_EXTENDING 0
    (s.setFld (.scr l k) F.SCR_STATUS_STATE 0).aborted l n 1
  else s

/-- Unsent issues of a publication, and evaluations that wait, are discarded. -/
def State.abortPub (s : State) (l : Lane) (n p : Nat) : State :=
  let x := s.pub l p
  (s.setPub l p { x with issues := [], evals := [] }).aborted l n (x.issues.length + x.evals.length)

/-- ABORT drops a pending frame of an object, one that waits behind a frame on the bus too (R377). -/
def State.fboDrop (s : State) (l : Lane) (d : Nat) : State :=
  let x := (s.lane l).fbs
  let m := (s.lane l).map
  let s := s.setMap l { m with snaps := m.snaps.filter (fun r =>
    match r with
    | .fbo k _ => decide (k ≠ d)
    | _ => true) }
  if !s.fboTx l d then s
  else if s.ent (fboRec l d) E.T16_4_STATE = 1 then s.fboCancel l d
  else if s.ent (fboRec l d) E.T16_4_STATE = 2 then
    let s := s.setFbs l { x with next := assocDel x.next d, loose := assocPut x.loose d false }
    if (assocGet x.next d).isSome then s.aborted l (s.ownerFbo l d) 1 else s
  else s

/-- ABORT takes effect at instant g (R350). -/
def State.insAbort (s : State) (l : Lane) (n g : Nat) : State :=
  let s := s.abortQuill l n
  let s := (s.insScribes l n).foldl (fun s k => s.abortScribe l n k) s
  let s := (s.insPubs l n).foldl (fun s p => s.abortPub l n p) s
  let s := (s.insChks l n).foldl (fun s u =>
    if s.bit (.chk l u) F.CHK_STATUS_BUSY then (s.chkStop l u).aborted l n 1 else s) s
  let m := (s.lane l).map
  let gone := m.reqs.filter (fun r => decide (r.o = n))
  let s := (s.setMap l { m with reqs := m.reqs.filter (fun r => decide (r.o ≠ n)) }).aborted l n gone.length
  let s :=
    if s.ownerDrc l = n ∧ s.drcState l ≠ 0 then
      let cut := decide (s.drcState l = 2 ∨ s.drcState l = 3)
      (s.drcOff l).aborted l n (b2n cut)
    else s
  let s := (s.insObjs l n).foldl (fun s d => s.fboDrop l d) s
  (s.setInsState l n 5).setIns l n { s.ins l n with run := some (4, g, true) }

/-! Reset. -/

/-- A field-bus object is reset (R377): WAITING or IDLE, no pending frame, no result, COUNT, NEW and LOST 0, buffer zeroed. -/
def State.fboReset (s : State) (l : Lane) (d : Nat) : State :=
  let x := (s.lane l).fbs
  let r := fboRec l d
  let m := (s.lane l).map
  let s := s.setMap l { m with snaps := m.snaps.filter (fun q =>
    match q with
    | .fbo k _ => decide (k ≠ d)
    | _ => true) }
  let s := s.setFbs l { x with
    data := assocDel x.data d
    next := assocDel x.next d
    loose := if x.cur.any (fun e => decide (e.2.1 = d)) then assocPut x.loose d true else x.loose }
  let s := (s.setEnt r ⟨0, 31, 0⟩ 0).setEnt r E.T16_4_COUNT 0
  s.setWinWords (fboBuf l d) 16 0

/-- The registers of a check-value unit take their reset values. -/
def State.chkReset (s : State) (l : Lane) (u : Nat) : State := (s.chkStop l u).clearRange (regAddr (.chk l u) .CHK_CFG 0) 0x100

/-- The state records of an instance's operators are set to rest, each counted once however many operators share it (R215,
R351). -/
def State.insOpsRest (s : State) (l : Lane) (n : Nat) : State :=
  let b := s.opBank l
  let ops := ((s.insNodes l n).map (fun i => s.nd l (s.gBank l) i E.T8_3_OP)).dedup
  let rec_ := fun (i : Nat) => (s.recF l (s.opDesc l b i) E.T9_1_STATE_IDX, s.recF l (s.opDesc l b i) E.T9_1_STATE_LEN)
  let q := (s.lane l).quill
  let s := s.setQuill l { q with operated := q.operated.filter (fun i => !ops.contains i) }
  (((ops.map rec_).filter (fun r => decide (0 < r.2))).dedup).foldl (fun s r => (s.opRest l r.1 r.2).opsCnt l 4) s

/-- An owned group at rest (R351): ports, pool and deferred nodes empty, deficit 0, its flows to restart; WEIGHT is kept. -/
def State.grpReset (s : State) (l : Lane) (g : Nat) : State :=
  let q := (s.lane l).quill
  let inGrp := fun (b n : Nat) => decide (s.nd l b n E.T8_3_GROUP = g)
  let s := s.setQuill l { q with
    items := q.items.filter (fun i => decide (i.group ≠ g))
    deferred := q.deferred.filter (fun d => !inGrp d.1 d.2)
    nodes := q.nodes.filter (fun e => !inGrp (e.1 / 2 ^ 18) (e.1 % 2 ^ 18))
    active := (q.leaveActive (fun k => decide (k % 256 = g))).active
    roundLeft := (q.leaveActive (fun k => decide (k % 256 = g))).roundLeft }
  let s := s.flowsStart l (s.gBank l) none (s.flowIn l (s.gBank l) g)
  let s := s.setGrpSt l (256 + g) { s.grpSt l (256 + g) with deficit := 0, topped := false }
  s.setGrpSt l g { s.grpSt l g with deficit := 0, topped := false, closeFrom := none }

/-- A GOOSE subscription becomes WAITING, its tracker at rest. -/
def State.gooReset (s : State) (l : Lane) (u : Nat) : State :=
  let s := s.setGooState l u 0
  ((s.setEnt (gooRec l u) gsDeadline 0).setEnt (gooRec l u) gsSt 0).setEnt (gooRec l u) gsSq 0 |>.setGoo l u .empty

/-- The points of the instance's ranges take one write of the initial record with E = g, and its writers' pending writes with
E at or after g are discarded (R351). -/
def State.insPointsReset (s : State) (l : Lane) (n t : Nat) : State :=
  let m := (s.lane l).map
  let late := fun (w : MapW) => decide (w.owner = n) && (match w.e with
    | some e => decide (t ≤ e)
    | none => false)
  let s := s.setMap l { m with pend := m.pend.filter (fun w => !late w) }
  ((s.insPoints l n).foldl (fun s p => s.mapJudge l ⟨some t, none, p, initRec, 64⟩) s).pendShow l

/-- Pending and enabled words of an owner are cleared, each pending bit counted (R357). -/
def State.vintReset (s : State) (l : Lane) (n : Nat) : State :=
  let pg : Page := .insPage l n
  let pend := ((List.range 8).map (fun k => ((List.range 32).filter (fun b => bitAt (s.rd pg .INS_VINT_PEND k).toNat b)).length)).sum
  let s := s.bump pg F.INS_OCNT_COUNT 2 pend
  let s := (List.range 8).foldl (fun s k => (s.wr pg .INS_VINT_PEND k 0).wr pg .INS_VINT_EN k 0) s
  s.vintSum l n

/-- RESET takes effect at instant g (R351). -/
def State.insReset (s : State) (l : Lane) (n g : Nat) : State :=
  let s := s.insOpsRest l n
  let s := (s.insGroups l n).foldl (fun s k => s.grpReset l k) s
  let s := ((s.validSlots l).filter (fun i => decide (s.ownerFlt l (i / 512) = n))).foldl (fun s i => s.slotReset l i) s
  let s := s.insPointsReset l n (s.gT l g)
  let s := (s.insGoose l n).foldl (fun s u => s.gooReset l u) s
  let s := (s.insScribes l n).foldl (fun s k =>
    let s := s.setScr l k { s.scr l k with queue := [], run := false, waiting := false, posts := [] }
    (s.setFld (.scr l k) F.SCR_STATUS_STATE 0).scrDepth l k) s
  let s := (s.insPubs l n).foldl (fun s p =>
    let x := s.pub l p
    s.setPub l p { PubSt.empty with on := x.on, synced := x.synced }) s
  let s := if s.ownerDrc l = n then s.drcOff l else s
  let s := (s.insChks l n).foldl (fun s u => s.chkReset l u) s
  let s := (s.insObjs l n).foldl (fun s d => s.fboReset l d) s
  let s := s.vintReset l n
  (s.setInsState l n 6).setIns l n { s.ins l n with run := some (5, g, true) }

/-! Start and resume. -/

/-- START or RESUME takes effect at instant g (R352). -/
def State.insOpen (s : State) (l : Lane) (n g : Nat) (resume : Bool) : State :=
  let s := (s.insGroups l n).foldl (fun s k =>
    let s := s.setFld (.qul l) F.QUL_GRP_CTL_INTAKE 1 k
    let s := s.setGrpSt l k { s.grpSt l k with closeFrom := none, openFrom := g }
    (s.reopenNodes l k).flowsStart l (s.gBank l) (some g) (s.flowIn l (s.gBank l) k)) s
  let s := if resume then s.insOpsRest l n else s
  let s := (s.insNodes l n).foldl (fun s i =>
    let b := s.gBank l
    if s.nd l b i E.T8_3_SW = 1 then s.setNode l b i { s.node l b i with last := none } else s) s
  let s := s.setLane l { s.lane l with insGq := assocDel (s.lane l).insGq n }
  let s := (s.insPubs l n).foldl (fun s p => s.setPub l p { s.pub l p with es := some (s.gT l g), start := none }) s
  ((s.setInsState l n 2).setIns l n { s.ins l n with run := none }).refresh l

/-! Commands. -/

/-- A command takes effect at its instant (R346): accepted in its state, or completed with STATE, BUSY or BADCMD. -/
def State.insTake (s : State) (l : Lane) (n op g : Nat) : State :=
  let s := s.setIns l n { s.ins l n with wait := none }
  let s := s.setFld (.insPage l n) F.INS_CMD_STATUS_WAITING 0
  let st := s.insState l n
  match op with
  | 1 => if st = 1 then (s.insOpen l n g false).insComplete l n stOK else s.insComplete l n stSTATE
  | 2 => if st = 2 then s.insQuiesce l n g else s.insComplete l n stSTATE
  | 3 => if st = 4 then (s.insOpen l n g true).insComplete l n stOK else s.insComplete l n stSTATE
  | 4 => if st = 3 then s.insAbort l n g else s.insComplete l n stSTATE
  | 5 =>
    if st = 4 ∨ st = 1 then s.insReset l n g
    else if st = 0 then s.insComplete l n stSTATE
    else s.insComplete l n stBUSY
  | _ => s.insComplete l n stBADCMD

/-- The waiting command that takes effect first: the earliest instant, then the lowest instance (R358). -/
def State.insNext (s : State) (l : Lane) (k : Nat) : Option (Nat × Nat × Nat) :=
  ((s.lane l).ins.filterMap (fun e => e.2.wait.map (fun w => (e.1, w)))).foldl (fun a e =>
    if k < e.2.2 then a
    else
      match a with
      | none => some (e.1, e.2.1, e.2.2)
      | some b => if e.2.2 < b.2.2 then some (e.1, e.2.1, e.2.2) else some b) none

/-- Every waiting command whose instant is at or before instant k takes effect. -/
def State.insDue (s : State) (l : Lane) (k : Nat) : Nat → State
  | 0 => s
  | fuel + 1 =>
    match s.insNext l k with
    | none => s
    | some (n, op, g) => (s.insTake l n op g).insDue l k fuel

/-- A write of 1 to INS_CMD_GO (R345): the command is posted; a waiting one completes with CANCELLED, and one whose instant
has passed takes effect at the next and counts CMD_LATE. -/
def State.insGo (s : State) (l : Lane) (n : Nat) : State :=
  let pg : Page := .insPage l n
  let s := if (s.ins l n).wait.isSome then s.insComplete l n stCANCELLED else s
  let g := secNear (s.laneNow l / sec) (s.rd pg .INS_AT_SEC).toNat * s.gridG l + s.fld pg F.INS_AT_IDX_IDX
  let late := s.gridRun l && decide (g ≤ (s.lane l).grid)
  let s := if late then s.bump pg F.INS_OCNT_COUNT 3 else s
  let g := if late then (s.lane l).grid + 1 else g
  (s.setIns l n { s.ins l n with wait := some (s.fld pg F.INS_CMD_OP, g) }).setBit pg F.INS_CMD_STATUS_WAITING

/-- A write of INS_AT_IDX: at or above the grid rate it leaves the register unchanged. -/
def State.insAtIdx (s : State) (l : Lane) (n v : Nat) : State :=
  if v % 2 ^ 15 < s.gridG l then s.setFld (.insPage l n) F.INS_AT_IDX_IDX v else s

/-- The manager posts a command of instance n for instant IDX of second SEC, and the lane reaches that instant: it and every
command due before it take effect. Before the grid runs no instant comes, and the command waits. -/
def State.insPost (s : State) (l : Lane) (n op : Nat) (secs : Word) (idx : Nat) : State :=
  if !s.laneUp l then s
  else
    let pg : Page := .insPage l n
    let s := s.setFld pg F.INS_CMD_OP op
    let s := (s.wr pg .INS_AT_SEC 0 secs).insAtIdx l n idx
    let s := s.insGo l n
    if !s.gridRun l then s
    else
      let g := ((s.ins l n).wait.map (fun w => w.2)).getD 0
      (s.reachLane l (s.gT l g)).insDue l g 65

/-- START (R352): from STOPPED, instance n becomes RUNNING at instant IDX of second SEC. -/
def execInsStart (l : Lane) (n : Fin 64) (secs : Word) (idx : Fin 32768) (s : State) : Host.Outcome State Fault Refusal :=
  ok (s.insPost l n 1 secs idx)

/-- QUIESCE (R347): from RUNNING, instance n becomes QUIESCING. -/
def execInsQuiesce (l : Lane) (n : Fin 64) (secs : Word) (idx : Fin 32768) (s : State) : Host.Outcome State Fault Refusal :=
  ok (s.insPost l n 2 secs idx)

/-- RESUME (R352): from QUIESCED, instance n becomes RUNNING, its operators' states at rest. -/
def execInsResume (l : Lane) (n : Fin 64) (secs : Word) (idx : Fin 32768) (s : State) : Host.Outcome State Fault Refusal :=
  ok (s.insPost l n 3 secs idx)

/-- ABORT (R350): from QUIESCING, the remaining work of instance n is cancelled. -/
def execInsAbort (l : Lane) (n : Fin 64) (secs : Word) (idx : Fin 32768) (s : State) : Host.Outcome State Fault Refusal :=
  ok (s.insPost l n 4 secs idx)

/-- RESET (R351): from QUIESCED or STOPPED, every resource of instance n returns to rest. -/
def execInsReset (l : Lane) (n : Fin 64) (secs : Word) (idx : Fin 32768) (s : State) : Host.Outcome State Fault Refusal :=
  ok (s.insPost l n 5 secs idx)

/-- INSTANCE_BADCMD (R346): OP 0, 6 or 7 completes with BADCMD. -/
def execInstanceBadcmd (l : Lane) (n : Fin 64) (op : Fin 3) (secs : Word) (idx : Fin 32768) (s : State) : Host.Outcome State Fault Refusal :=
  ok (s.insPost l n (if op.val = 0 then 0 else op.val + 5) secs idx)

/-- GRID_INSTANT (R144): the followed clock reaches the next grid instant, and instance commands for it take effect (R345). -/
def execGridInstant (l : Lane) (s : State) : Host.Outcome State Fault Refusal :=
  if !s.laneUp l || !s.gridRun l then ok s
  else
    let k := (s.lane l).grid + 1
    ok (((s.gridPass l k).slotsGone l).insDue l k 65)

/-! The moments that end a command. -/

/-- The lanes decided a quiesce differently: an event in the lane that was drained; the other has its own (R348). -/
def State.drainDiverge (s : State) (l : Lane) (n : Nat) : State :=
  match (s.ins l n).dec, (s.ins l.other n).dec with
  | some (g, d), some (g', d') =>
    if s.laneUp l.other && decide (g = g') && d != d' then
      let x := if d then l else l.other
      s.evStatus (.lane x) bkINS 1 17 n (s.rd (.insPage x n) .INS_STATE).toNat
    else s
  | _, _ => s

/-- DRAIN_DECISION (R348): the followed clock reaches g_q + INS_DRAIN_LIMIT + 2.0 µs of a QUIESCE that is undecided. -/
def execDrainDecision (l : Lane) (n : Fin 64) (s : State) : Host.Outcome State Fault Refusal :=
  let pg : Page := .insPage l n
  match (s.ins l n).run with
  | some (2, g, true) =>
    if !s.laneUp l || decide (s.insState l n ≠ 3) then ok s
    else
      let s := s.reachLane l (s.gT l g + s.fld pg F.INS_DRAIN_LIMIT_LIMIT * us + settle)
      let d := s.insDrained l n
      let s := s.setIns l n { s.ins l n with run := some (2, g, false), dec := some (g, d) }
      if d then
        let s := (s.setBit pg F.INS_STATE_DRAINED).setInsState l n 4
        ok ((s.insComplete l n stOK).drainDiverge l n)
      else
        let s := s.setBitEv (.lane l) pg F.INS_STATE_DRAIN_TMO bkINS 1 n
        ok ((s.insComplete l n stTIMEOUT).drainDiverge l n)
  | _ => ok s

/-- INSTANCE_DRAINED (R348): a QUIESCING instance is drained; after its decision it becomes QUIESCED. -/
def execInstanceDrained (l : Lane) (n : Fin 64) (s : State) : Host.Outcome State Fault Refusal :=
  if !s.laneUp l || decide (s.insState l n ≠ 3) || !s.insDrained l n then ok s
  else
    let s := s.setBit (.insPage l n) F.INS_STATE_DRAINED
    match (s.ins l n).run with
    | some (2, _, false) => ok (s.setInsState l n 4)
    | _ => ok s

/-- ABORT_COMPLETE (R350): the followed clock reaches g_a + 50 µs, and the instance is QUIESCED. -/
def execAbortComplete (l : Lane) (n : Fin 64) (s : State) : Host.Outcome State Fault Refusal :=
  match (s.ins l n).run with
  | some (4, g, true) =>
    if !s.laneUp l then ok s
    else
      let s := s.reachLane l (s.gT l g + 50 * us)
      let s := s.setIns l n { s.ins l n with run := none }
      let s := if s.insDrained l n then s.setBit (.insPage l n) F.INS_STATE_DRAINED else s
      ok ((s.setInsState l n 4).insComplete l n stOK)
  | _ => ok s

/-- RESET_COMPLETE (R351): the followed clock reaches g_r + RESET_US, and the instance is STOPPED. -/
def execResetComplete (l : Lane) (n : Fin 64) (s : State) : Host.Outcome State Fault Refusal :=
  match (s.ins l n).run with
  | some (5, g, true) =>
    if !s.laneUp l then ok s
    else
      let s := s.reachLane l (s.gT l g + s.ent (insDesc l n) E.T15_1_RESET_US * us)
      let s := s.setIns l n { s.ins l n with run := none }
      ok ((s.setInsState l n 1).insComplete l n stOK)
  | _ => ok s

/-! Vectors, the log and counters. -/

/-- A write of INS_VINT_INJECT (R355): vectors 64 to 255 are raised; below 64 nothing happens. -/
def State.vintInject (s : State) (l : Lane) (o v : Nat) : State := if v < 64 then s else s.vector l o v

/-- VINT_INJECT (R355): a software vector is raised at an owner. -/
def execVintInject (l : Lane) (o : Fin 65) (v : Fin 256) (s : State) : Host.Outcome State Fault Refusal :=
  if !s.laneUp l then ok s else ok (s.vintInject l o v)

/-- A write of 1 to EPOCH_GO (R360): the epoch advances and the bitmap is zeroed; ignored while CLEARING. -/
def State.epochGo (s : State) (l : Lane) : State :=
  let pg : Page := .ins l
  if s.bit pg F.INS_DIRTY_CTL_CLEARING then s
  else
    let s := s.setFld pg F.INS_DIRTY_EPOCH_EPOCH (s.fld pg F.INS_DIRTY_EPOCH_EPOCH + 1)
    let a := s.pairReg pg .INS_DIRTY_MAP_LO .INS_DIRTY_MAP_HI
    let s := s.memZero l a 0x80000
    s.setBit pg F.INS_DIRTY_CTL_CLEARING

/-- EPOCH_GO (R360). -/
def execEpochGo (l : Lane) (s : State) : Host.Outcome State Fault Refusal :=
  if !s.laneUp l then ok s else ok (s.epochGo l)

/-- EPOCH_CLEAR_DONE (R360): the bitmap is clear, and CLEARING returns to 0. -/
def execEpochClearDone (l : Lane) (s : State) : Host.Outcome State Fault Refusal :=
  if !s.laneUp l then ok s else ok (s.setFld (.ins l) F.INS_DIRTY_CTL_CLEARING 0)

/-- INS_OCNT_CLR (R363): every counter of an owner's page is cleared. -/
def execInsOcntClr (l : Lane) (o : Fin 65) (s : State) : Host.Outcome State Fault Refusal :=
  if !s.laneUp l then ok s else ok (s.clrRow (.insPage l o) .INS_OCNT 5)

end Sys2Proof.Machine
end

