-- ==== Sys2Proof/Machine/Switchover.lean ====
section
/-!
DEFINITION. What a bank switch does to each unit (R47): the replay of the change logs (R117, R155, R253), the exchange of the
banks, and what each block keeps or resets (R156, R184, R203, R234, R253, R273, R298, R335, R361, R378). After the exchange the
old bank stands in the shadow windows.
-/

namespace Sys2Proof.Machine
open Sys2Proof

/-- The first grid instant after now, g_c of a switch made now. -/
def State.gcNow (s : State) (l : Lane) : Nat := gridAt (s.gridG l) (s.laneNow l + 1)

/-- Exchange the windows of a region type on a target. -/
def State.swapWins (s : State) (type t : Nat) : State := (regionWins type t).foldl (fun s w => s.swapRange w.1 w.2.1 w.2.2) s

/-- The indices that hold something in either of two tables of `size` bytes in entries of `stride`. -/
def State.bothEntries (s : State) (a b size stride : Nat) : List Nat := (s.entries a size stride ++ s.entries b size stride).dedup

/-- Keep the entries of a table in the model's own place at `old`, before a switch. -/
def State.keepTable (s : State) (old act stride : Nat) (ns : List Nat) : State :=
  ns.foldl (fun s n => s.setWinWords (old + stride * n) (stride / 4) (s.winWords (act + stride * n) (stride / 4))) s

/-! PARTITION. -/

/-- An instance's descriptor after the switch: newly valid enters STOPPED, where none of its units works (R344), no longer valid
enters ABSENT; DRAIN_LIMIT takes DRAIN_MIN when the descriptor becomes valid or DRAIN_MIN rises above it (R349, R361). -/
def State.insSwitch (s : State) (l : Lane) (n : Nat) : State :=
  let new := insDesc l n
  let old := winAddr (.ins l) .insDescSh (64 * n)
  let v := decide (s.ent new E.T15_1_VALID = 1)
  let was := decide (s.ent old E.T15_1_VALID = 1)
  let min_ := s.ent new E.T15_1_DRAIN_MIN
  let pg : Page := .insPage l n
  let s := if v && (!was || decide ((s.rd pg .INS_DRAIN_LIMIT).toNat < min_)) then s.wr pg .INS_DRAIN_LIMIT 0 (BitVec.ofNat 32 min_) else s
  let x := s.lane l
  if v && !was then (s.setLane l { x with insGq := assocPut x.insGq n 0 }).setInsState l n 1
  else if was && !v then (s.setLane l { x with insGq := assocDel x.insGq n }).setInsState l n 0
  else s

/-- The groups of the lane's STOPPED instances are closed to new work (Table 15.4), those that a commit has just given them too. -/
def State.stoppedClosed (s : State) (l : Lane) : State :=
  ((List.range 64).filter (fun n => decide (s.insState l n = 1))).foldl (fun s n =>
    (s.insGroups l n).foldl (fun s g =>
      (s.setFld (.qul l) F.QUL_GRP_CTL_INTAKE 0 g).setGrpSt l g { s.grpSt l g with closeFrom := none }) s) s

/-- The staged values of a region's single registers are written, those of R48 only when `base` allows it, and are staged no
more. -/
def State.applyRegs (s : State) (type t : Nat) (base : Bool) : State :=
  (regionRegs type t).foldl (fun s x =>
    let a := regAddr x.1 x.2.1 x.2.2
    match assocGet s.shreg a with
    | none => s
    | some v =>
      let s := { s with shreg := assocDel s.shreg a }
      if decide (type = 0) && !base then s else s.regCommit x.1 x.2.1 x.2.2 v) s

/-- The first commit of a full image into a lane: its base registers are locked (R48), its state areas zeroed (R235) and its
map set to the initial record (R239). -/
def State.firstCommit (s : State) (l : Lane) : State :=
  let s := ((s.setBit (.qul l) F.QUL_CTRL_LOCK).setBit (.ops l) F.OPS_CTRL_LOCK).setBit (.map l) F.MAP_CTRL_LOCK
  let s := s.memInit l (s.ptAddr l 0)
  s.memZero l (s.opStateAt l 0) ((s.rd (.ops l) .OPS_STATE_SIZE).toNat * 0x100000)

/-- The PARTITION region switches (R48, R361). DESIGN CHOICE: the first commit of a full image since the lane's reset is the one
that finds QUL_CTRL.LOCK clear, and whether grid instants have passed is not asked (log entry 72). -/
def State.swPartition (s : State) (l : Lane) (full : Bool) : State :=
  let first := full && !s.bit (.qul l) F.QUL_CTRL_LOCK
  let s := s.swapWins 0 l.idx
  let s := s.applyRegs 0 l.idx first
  let s := (List.range 64).foldl (fun s n => s.insSwitch l n) s
  if first then s.firstCommit l else s

/-! MAPLAYOUT. -/

/-- The valid range descriptor of a table that holds a point: its class and owner. -/
def State.rngIn (s : State) (base p : Nat) : Option (Nat × Nat) :=
  (((s.entries base 0x10000 16).map (fun k => base + 16 * k)).find? (fun a =>
    decide (s.ent a E.T10_2_VALID = 1) && decide (s.ent a E.T10_2_FIRST ≤ p ∧ p ≤ s.ent a E.T10_2_FIRST + s.ent a E.T10_2_COUNT_M1))).map
    (fun a => (s.ent a E.T10_2_CLASS, s.ent a E.T10_2_OWNER))

/-- Is a point kept by a switch of the ranges (R253)? -/
def State.ptKept (s : State) (l : Lane) (p : Nat) : Bool :=
  match s.rngIn (winAddr (.map l) .mapRngAct 0) p, s.rngIn (winAddr (.map l) .mapRngSh 0) p with
  | some a, some b => decide (a = b)
  | _, _ => false

/-- The MAPLAYOUT region switches (R253): the points not kept are set to the initial record at g_c, at once while no instants run;
their pending writes are discarded. -/
def State.swMapLayout (s : State) (l : Lane) : State :=
  let s := s.swapWins 1 l.idx
  let m := (s.lane l).map
  let gone := (s.memEntries l (s.ptAddr l 0) 0x10000000 32).filter (fun p => !s.ptKept l p)
  let s := (s.setMap l { m with pend := m.pend.filter (fun w => s.ptKept l w.point), rests := some (s.gcNow l, gone) }).pendShow l
  if s.gridRun l then s else s.ptsRest l (s.gcNow l)

/-! SUBSCRIBE. -/

/-- The subscription entries with the same key as an entry: DMAC, VID, APPID and SVID_CRC (R155). -/
def State.subKey (s : State) (a : Nat) : Nat × Nat × Nat × Nat :=
  (s.ent a E.T6_2_DMAC, s.ent a E.T6_2_VID, s.ent a E.T6_2_APPID, s.ent a E.T6_2_SVID_CRC)

/-- The key of a GOOSE subscription (R253). -/
def State.gooKey (s : State) (a : Nat) : Nat × Nat × Nat × Nat :=
  (s.ent a E.T10_6_DMAC, s.ent a E.T10_6_VID, s.ent a E.T10_6_APPID, s.ent a E.T10_6_GOCB_CRC)

/-- Replay one promotion into the shadow entries with its key (R155). -/
def State.replaySub (s : State) (l : Lane) (e : Nat × Nat × Nat) : State :=
  let sh := winAddr (.ing l) .ingSubSh 0
  let key := s.subKey (subAddr l e.1)
  ((s.entries sh 0x40000 64).map (fun n => sh + 64 * n)).foldl (fun s a =>
    if s.subKey a = key then
      ((s.setEnt a E.T6_2_SLOT_CUR e.2.1).setEnt a E.T6_2_KEY_ID_CUR e.2.2).setEnt a E.T6_2_NEXT_VALID 0
    else s) s

/-- Replay one GOOSE promotion (R253). -/
def State.replayGoo (s : State) (l : Lane) (e : Nat × Nat × Nat) : State :=
  let sh := winAddr (.map l) .mapGooSh 0
  let key := s.gooKey (gooAddr l e.1)
  ((s.entries sh 0x100000 64).map (fun n => sh + 64 * n)).foldl (fun s a =>
    if s.gooKey a = key then
      ((s.setEnt a E.T10_6_SLOT_CUR e.2.1).setEnt a E.T10_6_KEY_ID_CUR e.2.2).setEnt a E.T10_6_NEXT_VALID 0
    else s) s

/-- A stream keeps its tracker, state and counters or is reset (R156); a change of its delays restarts the tracker (R431). -/
def State.strSwitch (s : State) (l : Lane) (n : Nat) : State :=
  let new := subAddr l n
  let old := winAddr (.ing l) .ingSubSh (64 * n)
  let f := fun (e : EFld) => decide (s.ent new e = s.ent old e)
  let keep := decide (s.ent new E.T6_2_VALID = 1) && decide (s.subKey new = s.subKey old) && f E.T6_2_RATE && f E.T6_2_NASDU
  let r := strRec l n
  if keep then
    if f E.T6_2_FIBRE_A && f E.T6_2_FIBRE_B && f E.T6_2_MU_DELAY then s else s.setEnt r E.T6_10_TRK_VALID 0
  else
    let s := (s.setStrState l n 0).setWinWords r 16 0
    s.setStr l n { s.str l n with phase := 0, pend := [], done := [], alive := none, lossAt := 0, overdue := none }

/-- A GOOSE subscription keeps its tracker and state or is reset (R253). -/
def State.gooSwitch (s : State) (l : Lane) (u : Nat) : State :=
  let new := gooAddr l u
  let old := winAddr (.map l) .mapGooSh (64 * u)
  if s.ent new E.T10_6_VALID = 1 ∧ s.gooKey new = s.gooKey old then s else s.gooReset l u

/-- The alignment group of each valid stream. -/
def State.strGroups (s : State) (l : Lane) : List (Nat × Nat) :=
  (s.streams l).map (fun n => (n, s.ent (subAddr l n) E.T6_2_GROUP))

/-- Where releases go on after a SUBSCRIBE switch, `old` being the streams and groups before it and `gc` the first instant
after it: released instants stay released, instants before `gc` go by the tables of before (R156), and a stream that
becomes solo, or a group that had no member, starts at `gc`. -/
def State.relSwitch (s : State) (l : Lane) (old : List (Nat × Nat)) (gc : Nat) : State :=
  let new := s.strGroups l
  let s := (new.filter (fun e => decide (e.2 = 255 ∧ assocGet old e.1 ≠ some 255))).foldl (fun s e =>
    s.setStr l e.1 { s.str l e.1 with rel := some gc }) s
  let fresh := ((new.map (fun e => e.2)).dedup).filter (fun g => decide (g ≠ 255) && old.all (fun e => decide (e.2 ≠ g)))
  let x := s.lane l
  s.setLane l { x with grpRel := fresh.foldl (fun m g => assocPut m g gc) x.grpRel, subGc := if s.gridRun l then gc else 0 }

/-- The SUBSCRIBE region switches (R155, R156, R253). -/
def State.swSubscribe (s : State) (l : Lane) : State :=
  let old := s.strGroups l
  let gc := s.gcNow l
  let tab := oldTables l
  let subs := (s.entries tab 0x40000 64 ++ s.entries (subAddr l 0) 0x40000 64).dedup
  let grps := (s.entries (tab + 0x40000) 0x800 8 ++ s.entries (ingGrpAddr l 0) 0x800 8).dedup
  let s := (s.keepTable tab (subAddr l 0) 64 subs).keepTable (tab + 0x40000) (ingGrpAddr l 0) 8 grps
  let s := (s.lane l).ingLog.foldl (fun s e => s.replaySub l e) s
  let s := (s.lane l).map.gooLog.foldl (fun s e => s.replayGoo l e) s
  let s := (s.swapWins 3 l.idx).logStart 3 l.idx false
  let s := (s.bothEntries (subAddr l 0) (winAddr (.ing l) .ingSubSh 0) 0x40000 64).foldl (fun s n => s.strSwitch l n) s
  let s := s.relSwitch l old gc
  (s.bothEntries (gooAddr l 0) (winAddr (.map l) .mapGooSh 0) 0x100000 64).foldl (fun s u => s.gooSwitch l u) s

/-! FILTER. -/

/-- The FILTER region switches (R184): while instants run, every slot meets its new descriptor at its first instant at or after
g_c, and works on with the old one, kept beside the tables, till then. -/
def State.swFilter (s : State) (l : Lane) : State :=
  let old := oldTables l + 0x80000
  let sh := winAddr (.flt l) .fltSlotSh 0
  let due := (s.lane l).slots.filter (fun e => e.2.due)
  let s := due.foldl (fun s e => s.slotSwitch l (s.lane l).fltGc e.1) s
  let slots := (s.entries old 0x80000 64 ++ s.bothEntries (slotDesc l 0) sh 0x80000 64).dedup
  let s := s.keepTable old (slotDesc l 0) 64 slots
  let s := (s.swapWins 4 l.idx).applyRegs 4 l.idx true
  if s.gridRun l && s.bit (.flt l) F.FLT_CTRL_EN then
    let s := s.setLane l { s.lane l with fltGc := s.gcNow l }
    slots.foldl (fun s i => s.setSlotSt l i { s.slotSt l i with due := true }) s
  else
    let s := s.setLane l { s.lane l with fltGc := 0 }
    slots.foldl (fun s i => s.slotSwitch l (s.gcNow l) i) s

/-! OPERATOR and GRAPH. -/

/-- Is the state record of an instance kept (R234)? -/
def State.opKept (s : State) (l : Lane) (i : Nat) : Bool :=
  let new := s.opDesc l (s.opBank l) i
  let old := s.opDesc l (1 - s.opBank l) i
  let same := fun (f : EFld) => decide (s.recF l new f = s.recF l old f)
  let win := match s.recF l new E.T9_1_OPCODE with
    | 0x01 => same ⟨0x10, 9, 0⟩
    | 0x08 => same E.T9_10_AVG
    | 0x09 => same E.T9_11_N && same E.T9_11_NH
    | _ => true
  decide (s.recF l old E.T9_1_VALID = 1) && same E.T9_1_OPCODE && same E.T9_1_STATE_IDX && same E.T9_1_STATE_LEN && win

/-- The OPERATOR region switches at g_c (R234). -/
def State.swOperator (s : State) (l : Lane) : State :=
  let s := s.setFld (.ops l) F.OPS_STATUS_BANK (1 - s.opBank l)
  let base := s.opDesc l (s.opBank l) 0
  let is := (s.memEntries l base 0x2000000 128).filter (fun i => decide (s.recF l (base + 128 * i) E.T9_1_VALID = 1))
  let rest := is.filter (fun i => decide (0 < s.recF l (base + 128 * i) E.T9_1_STATE_LEN) && !s.opKept l i)
  let q := (s.lane l).quill
  s.setQuill l { q with
    opsGc := s.gcNow l
    opsReset := (q.opsReset.filter (fun i => is.contains i) ++ rest).dedup
    operated := q.operated.filter (fun i => is.contains i && !rest.contains i) }

/-- The GRAPH region switches at g_c: the new bank starts empty, its flows at their first firing key at or after g_c, and each
group's weight is that of its new descriptor (R203). What a group still holds under the old bank is arbitrated by its old
descriptor, beside what it holds under the new one. -/
def State.swGraph (s : State) (l : Lane) : State :=
  let s := s.swapWins 6 l.idx
  let b := 1 - s.gBank l
  let s := s.setFld (.qul l) F.QUL_STATUS_BANK b
  let q := (s.lane l).quill.leaveActive (fun g => decide (256 ≤ g))
  let s := s.setQuill l { q with
    gc := s.gcNow l
    nodes := q.nodes.filter (fun e => decide (e.1 / 2 ^ 18 ≠ b))
    active := q.active.map (fun a => (a.1, a.2.map (fun g => 256 + g)))
    groups := ((q.groups.filter (fun e => decide (e.1 < 256))).map (fun e => (256 + e.1, e.2))) ++
      (q.groups.filter (fun e => decide (e.1 < 256))).map (fun e => (e.1, { e.2 with deficit := 0, quantum := 0, topped := false }))
    flows := q.flows.filter (fun e => decide (e.1 / 2 ^ 16 ≠ b)) }
  let s := if s.gridRun l then s.flowsStart l b (some (s.gcNow l)) (fun _ => true) else s
  let s := (List.range 256).foldl (fun s g => s.setFld (.qul l) F.QUL_GRP_CTL_WEIGHT (s.grpF l g E.T8_6_WEIGHT) g) s
  s.quillShow l

/-! SCRIBE, PUBLISH, RECORDER, FIELDBUS. -/

/-- The engines of a SCRIBE region take their new bank at their first lattice instant at or after g_c (R273). -/
def State.swScribe (s : State) (l : Lane) (engines : List Nat) : State :=
  engines.foldl (fun s k =>
    let s := (scrPairs l k).foldl (fun s w => s.swapRange w.1 w.2.1 w.2.2) s
    (s.setScr l k { s.scr l k with change := some (s.gT l (s.gcNow l)) }).setFld (.scr l k) F.SCR_STATUS_OLD_BUSY 1) s

/-- A publication keeps its running values, starts as at EN, or ends (R298). -/
def State.pubSwitch (s : State) (l : Lane) (n : Nat) : State :=
  let new := decide (s.ent (pubDesc l n) E.T12_2_VALID = 1)
  let old := decide (s.ent (winAddr (.pub l) .pubDescSh (64 * n)) E.T12_2_VALID = 1)
  if new && !old && s.bit (.pub l) F.PUB_CTRL_EN then s.pubBegin l n (s.bit (.pub l) F.PUB_CTRL_COLD)
  else if old && !new then s.setPub l n .empty
  else s

/-- A trip entry that names another bit starts from 0 (R299). -/
def State.tripSwitch (s : State) (l : Lane) (n : Nat) : State :=
  let new := s.winWords (tripAct l n) 1
  let old := s.winWords (winAddr (.pub l) .pubTripSh (16 * n)) 1
  if new = old then s else s.setTrip l n .empty

/-- The PUBLISH region switches (R298). -/
def State.swPublish (s : State) (l : Lane) : State :=
  let s := s.swapWins 8 l.idx
  let s := (s.bothEntries (pubDesc l 0) (winAddr (.pub l) .pubDescSh 0) 0x20000 64).foldl (fun s n => s.pubSwitch l n) s
  let s := tripPins.foldl (fun s n => s.tripSwitch l n) (s.adoptShow l)
  s.tripShow

/-- The FIELDBUS region switches: an object whose descriptor changed is reset (R378). -/
def State.swFieldbus (s : State) (l : Lane) : State :=
  let s := (s.swapWins 10 l.idx).applyRegs 10 l.idx true
  let sh := winAddr (.fbs l) .fbsDescSh 0
  (s.bothEntries (fboDesc l 0) sh 0x8000 32).foldl (fun s d =>
    if s.winWords (fboDesc l d) 8 = s.winWords (sh + 32 * d) 8 then s else s.fboReset l d) s

/-! SWITCH and TIME. -/

/-- The dynamic entry of a shadow FDB with a key. -/
def State.fdbShFind (s : State) (p : Plane) (key : Nat) : Option Nat :=
  let sh := winAddr (.psw p) .pswFdbSh 0
  (s.entries sh 0x100000 16).find? (fun k => decide (s.winWords (sh + 16 * k) 2 = key ∧ s.ent (sh + 16 * k) E.T5_1_STATIC = 0))

/-- Replay one change into the shadow FDB (R117). -/
def State.replayFdb (s : State) (p : Plane) (e : LogEnt) : State :=
  let sh := winAddr (.psw p) .pswFdbSh 0
  let static_ := (s.entries sh 0x100000 16).any (fun k => decide (s.winWords (sh + 16 * k) 2 = e.w0 ∧ s.ent (sh + 16 * k) E.T5_1_STATIC = 1))
  let put := fun (s : State) (k : Nat) => (s.setWinWords (sh + 16 * k) 2 e.w0).setWinWords (sh + 16 * k + 8) 2 e.w1
  match s.fdbShFind p e.w0 with
  | some k => if e.removed then s.setWinWords (sh + 16 * k) 4 0 else put s k
  | none =>
    if e.removed || static_ then s
    else
      let used := (s.entries sh 0x100000 16).filter (fun k => decide (s.ent (sh + 16 * k) E.T5_1_VALID = 1))
      let k := firstFree used 0
      if k < 65536 then put s k else s

/-- The ages of the dynamic entries follow them to the new bank; an entry that was not in the old one counts from now. -/
def State.fdbAges (s : State) (p : Plane) : State :=
  let old := winAddr (.psw p) .pswFdbSh 0
  let seen := (s.plane p).fdbSeen
  let ages := (s.fdbValid p).filterMap (fun k =>
    let a := fdbAddr p k
    if s.ent a E.T5_1_STATIC = 1 then none
    else
      match (s.entries old 0x100000 16).find? (fun j => decide (s.winWords (old + 16 * j) 2 = s.winWords a 2)) with
      | some j => some (k, assocGetD seen j (s.planeSec p))
      | none => some (k, s.planeSec p))
  s.setPlane p { s.plane p with fdbSeen := ages.foldl (fun m e => assocPut m e.1 e.2) [] }

/-- The SWITCH region switches between two frames (R117); the plane leaves its boot table (R421). -/
def State.swSwitch (s : State) (p : Plane) : State :=
  let t := 2 + p.idx
  let s := (s.plane p).log.foldl (fun s e => s.replayFdb p e) s
  let was := s.cfgOwner p
  let s := (((s.swapWins 2 t).logStart 2 t false).fdbAges p).applyRegs 2 t true
  let s := if s.cfgOwner p = was then s else s.ownerNamed
  s.setPlane p { s.plane p with switched := true }

/-- The TIME region switches; its slots are judged by the new limits and the planes select their sources again (R68, R77). -/
def State.swTime (s : State) (p : Plane) : State := ((s.applyRegs 11 (2 + p.idx) true).slotAgain p 0).slotAgain p 1

/-- The active bank that a block's status register shows changes with the switch of its region; those of Quill, the element
engines and the Scribe engines change where they switch. -/
def State.flipBank (s : State) (type t : Nat) : State :=
  let l := targetLane t
  let flip := fun (pg : Page) (f : Fld) => s.setFld pg f (1 - s.fld pg f)
  match type with
  | 0 => flip (.ins l) F.INS_STATUS_BANK
  | 1 => flip (.map l) F.MAP_STATUS_BANK
  | 2 => flip (.psw (targetPlane t)) F.PSW_STATUS_BANK
  | 3 => flip (.ing l) F.ING_STATUS_BANK
  | 4 => flip (.flt l) F.FLT_STATUS_BANK
  | 8 => flip (.pub l) F.PUB_STATUS_BANK
  | 9 => flip (.drc l) F.DRC_STATUS_BANK
  | _ => s

/-- The switch of one region on a target. -/
def State.swRegion (s : State) (t : Nat) (full : Bool) (r : Region) : State :=
  let s := s.flipBank r.type t
  let l := targetLane t
  match r.type with
  | 0 => s.swPartition l full
  | 1 => s.swMapLayout l
  | 2 => s.swSwitch (targetPlane t)
  | 3 => s.swSubscribe l
  | 4 => s.swFilter l
  | 5 => s.swOperator l
  | 6 => s.swGraph l
  | 7 => s.swScribe l (scrBuilt ((Region.recs r).getD []))
  | 8 => s.swPublish l
  | 9 => (s.swapWins 9 t).drcSwitch l
  | 10 => s.swFieldbus l
  | 11 => s.swTime (targetPlane t)
  | _ => s

end Sys2Proof.Machine
end

