-- ==== Sys2Proof/Machine/Commit.lean ====
section
/-!
DEFINITION. Committing staged regions (R55, R56), the switch at the target's boundary (R47), and rolling a lane out and in
(R63, R425 to R427, R437).
-/

namespace Sys2Proof.Machine
open Sys2Proof

/-- A named BLT event; while Common is lost the steward owes it. -/
def State.bltEvent (s : State) (cause unit value : Nat) : State :=
  if s.up .common then s.event .common (evCode bkBLT 2 cause) unit value
  else { s with com := { s.com with owed := s.com.owed ++ [(cause, unit, value)] } }

/-! Before a commit. -/

/-- Did a change log of a region of a target overflow during the build (R55)? -/
def State.logOverflow (s : State) (t : Nat) (rs : List Region) : Bool :=
  let l := targetLane t
  rs.any (fun r =>
    (decide (r.type = 2) && s.bit (.psw (targetPlane t)) F.PSW_TBL_STATUS_OVERFLOW) ||
    (decide (r.type = 3) && (s.bit (.ing l) F.ING_TBL_STATUS_OVERFLOW || s.bit (.map l) F.MAP_TBL_STATUS_OVERFLOW)))

/-- The entries of a table that an owner has, with what they hold. -/
def State.ownedIn (s : State) (base size stride : Nat) (valid owner : EFld) (n : Nat) : List (Nat × Nat) :=
  ((s.entries base size stride).filter (fun i => decide (s.ent (base + stride * i) valid = 1 ∧ s.ent (base + stride * i) owner = n))).map
    (fun i => (i, 0))

/-- The memory windows an instance's descriptor names. -/
def State.descWins (s : State) (desc mw : Nat) : List Nat :=
  (List.range (s.ent desc E.T15_1_MW_COUNT)).map (fun i => s.winWords (mw + 16 * (s.ent desc E.T15_1_MW_FIRST + i)) 4)

/-- Is an instance concerned by a commit of PARTITION: its descriptor or its memory windows change, or it gains or loses a
group, range or subscription (R361)? -/
def State.insConcerned (s : State) (l : Lane) (types : List Nat) (n : Nat) : Bool :=
  let act := insDesc l n
  let sh := winAddr (.ins l) .insDescSh (64 * n)
  let differs := fun (type : Nat) (a b size stride : Nat) (valid owner : EFld) =>
    types.contains type && decide (s.ownedIn a size stride valid owner n ≠ s.ownedIn b size stride valid owner n)
  decide (s.winWords act 16 ≠ s.winWords sh 16) ||
    decide (s.descWins act (winAddr (.ins l) .insMwAct 0) ≠ s.descWins sh (winAddr (.ins l) .insMwSh 0)) ||
    differs 6 (winAddr (.qul l) .qulGrpAct 0) (winAddr (.qul l) .qulGrpSh 0) Win.qulGrpAct.info.size 16 E.T8_6_VALID E.T8_6_OWNER ||
    differs 1 (winAddr (.map l) .mapRngAct 0) (winAddr (.map l) .mapRngSh 0) 0x10000 16 E.T10_2_VALID E.T10_2_OWNER ||
    differs 3 (winAddr (.map l) .mapGooAct 0) (winAddr (.map l) .mapGooSh 0) 0x100000 64 E.T10_6_VALID E.T10_6_OWNER

/-- Would a commit of PARTITION find an instance concerned that is neither ABSENT nor STOPPED (R361)? -/
def State.insBlocks (s : State) (t : Nat) (rs : List Region) : Bool :=
  decide (t < 2) && rs.any (fun r => decide (r.type = 0)) &&
    (List.range 64).any (fun n => decide (1 < s.insState (targetLane t) n) && s.insConcerned (targetLane t) (rs.map (fun r => r.type)) n)

/-- The target's DONE bit. -/
def doneFld (t : Nat) : Fld :=
  match t with
  | 0 => F.STW_LOAD_TARGETS_LANE0_DONE
  | 1 => F.STW_LOAD_TARGETS_LANE1_DONE
  | 2 => F.STW_LOAD_TARGETS_PLANEA_DONE
  | _ => F.STW_LOAD_TARGETS_PLANEB_DONE

/-- Is a commit of the staged image on a target refused by the loader's or the lane's state (R54, R56)? -/
def State.commitBlocked (s : State) (t : Nat) (x : Staged) : Bool :=
  decide (3 < t ∨ s.loaderState ≠ 3) || (regionsOf x.regions t).isEmpty || s.bit .stwLoad (doneFld t) || !s.up (targetDom t) ||
    (decide (t < 2) && x.isPartial && !s.rolledOut (targetLane t) && s.laneUp (targetLane t).other)

/-- The staged regions of a target go to its boundary (R47, R55). -/
def State.commitStart (s : State) (ch t : Nat) (x : Staged) : CmdOut :=
  let w : Switch := ⟨t, x.regions, !x.isPartial, x.imageId, x.secVer, some ch⟩
  let s := { s with com := { s.com with switches := s.com.switches ++ [w] } }
  ⟨s.loader 4 stOK, stOK, [maskOf 12 (fun y => (regionsOf x.regions t).any (fun r => decide (r.type = y)))], true⟩

/-- A commit is refused with STALE: the target's shadow content is discarded and the loader returns to STAGED (R55). -/
def State.commitStale (s : State) (t : Nat) (rs : List Region) : State :=
  let s := s.unbuild t rs
  ({ s with com := { s.com with built := s.com.built.filter (fun k => decide (k ≠ t)) } }).loader 3 stSTALE

/-- REGION_COMMIT's effect (R44, R55, R56, R361). A target whose shadow bank holds nothing is built first. -/
def cmdRegionCommit (ch : Nat) (a : List Nat) (s : State) : CmdOut :=
  let t := a.getD 0 0
  match s.com.staged with
  | none => cmdCode s stSTATE
  | some x =>
    let rs := regionsOf x.regions t
    let has := s.com.built.contains t
    if s.commitBlocked t x then cmdCode s stSTATE
    else if has && s.logOverflow t rs then
      cmdCode (s.commitStale t x.regions) stSTALE
    else if !s.dependOk t rs then cmdCode s stDEPEND
    else if !has && s.oldBusy t x.regions then ⟨s, stOK, [], true⟩
    else
      let r := if has then (stOK, s) else s.buildTarget true t x.regions
      if r.1 ≠ stOK then cmdCode (s.keepCoef r.2) stSTATE
      else
        let s := { r.2 with com := { r.2.com with built := if has then s.com.built else s.com.built ++ [t] } }
        if s.insBlocks t rs then cmdCode s stSTATE else s.commitStart ch t x

/-! At the boundary. -/

/-- What is active on a target after regions have been committed there. -/
def activeAfter (act : List ActiveRegion) (t : Nat) (rs : List Region) : List ActiveRegion :=
  act.filter (fun a => decide (a.target ≠ t) || !rs.any (fun r => decide (r.type = a.type))) ++
    rs.map (fun r => ⟨t, r.type, r.tag, r.deps, r.req, r.digest, r.secVer⟩)

/-- A commit on a target is done: STAGED while a target of the image is uncommitted, else IDLE (Table 2.10). -/
def State.commitDone (s : State) (ch t : Nat) : State :=
  let s := s.setBit .stwLoad (doneFld t)
  let s := { s with com := { s.com with built := s.com.built.filter (fun k => decide (k ≠ t)) } }
  let open_ := match s.com.staged with
    | some x => [0, 1, 2, 3].any (fun k => !(regionsOf x.regions k).isEmpty && !s.bit .stwLoad (doneFld k))
    | none => false
  let s :=
    if open_ then s.loader 3 stOK
    else ({ s with com := { s.com with staged := none, built := [] } }.loader 0 stOK).setFld .stwLoad F.STW_LOAD_STATUS_STAGED_MASK 0
  match s.mbox ch with
  | some m => s.setMbox ch (some { m with wait := false })
  | none => s

/-- A target switches to its committed banks, all regions together (R47, R56). -/
def State.bankSwitch (s : State) (w : Switch) : State :=
  let rs := regionsOf w.regions w.target
  let s := { s with com := { s.com with switches := s.com.switches.erase w } }
  let s := rs.foldl (fun (s : State) r => s.swRegion w.target w.full r) s
  let s := if w.target < 2 ∧ rs.any (fun r => decide (r.type = 0 ∨ r.type = 6)) then s.stoppedClosed (targetLane w.target) else s
  let s := { s with com := { s.com with active := activeAfter s.com.active w.target rs } }
  let s := if w.full then { s with com := { s.com with imageId := w.imageId, imageSec := w.secVer } } else s
  match w.chan with
  | some ch => s.commitDone ch w.target
  | none => s

/-- The change log of a target has overflowed when it reaches its boundary (R55): the commit ends with STALE. The steward's own
load, which no command asked for, is built again and switches. -/
def State.bankStale (s : State) (w : Switch) : State :=
  let s := { s with com := { s.com with switches := s.com.switches.erase w } }
  match w.chan with
  | some ch =>
    let s := s.commitStale w.target w.regions
    match s.mbox ch with
    | some m => s.setMbox ch (some { m with code := stSTALE, res := [], wait := false })
    | none => s
  | none =>
    let r := (s.unbuild w.target w.regions).buildTarget true w.target w.regions
    if r.1 = stOK then r.2.bankSwitch w else r.2.loader 5 r.1

/-! Rolling a lane. -/

/-- The digests of what is active on a lane, by type. -/
def State.digests (s : State) (l : Lane) : List (Nat × List Byte) :=
  (List.range 12).filterMap (fun y => ((s.activeOn l.idx).find? (fun a => decide (a.type = y))).map (fun a => (y, a.digest)))

/-- A lane leaves the merge and the voters (R63, R293, R300). -/
def State.leaveMerge (s : State) (l : Lane) : State :=
  (((s.setOut l true).mergePartnerAbsent .a l).mergePartnerAbsent .b l).tripShow

/-- A lane becomes present; when its digests differ from those of a present lane the two swap (R63, R427). -/
def State.enterMerge (s : State) (l : Lane) : State :=
  let s := s.setOut l false
  let o := l.other
  if s.laneUp o && !s.rolledOut o && decide (s.digests l ≠ s.digests o) then s.leaveMerge o else s.tripShow

/-- The timers and accumulators of an operator's state record (Table 9.4). -/
def opTimers (op : Nat) : List EFld :=
  match op with
  | 0x03 => [⟨0x0C, 15, 0⟩]
  | 0x04 => [⟨0x10, 63, 0⟩]
  | 0x06 => [E.T9_4_ACC]
  | 0x07 => [⟨0x10, 31, 0⟩]
  | 0x08 => [⟨0x10, 31, 0⟩]
  | 0x09 => [E.T9_4_HCNT]
  | 0x0A => [⟨0x10, 31, 0⟩]
  | _ => []

/-- Does a timer or accumulator of an active element run in a lane (R235)? -/
def State.elementRuns (s : State) (l : Lane) : Bool :=
  let base := s.opDesc l (s.opBank l) 0
  (s.memEntries l base 0x2000000 128).any (fun i =>
    let f := fun (e : EFld) => s.recF l (base + 128 * i) e
    decide (f E.T9_1_VALID = 1) && (opTimers (f E.T9_1_OPCODE)).any (fun e => s.recF l (s.opStateAt l (f E.T9_1_STATE_IDX)) e != 0))

/-- The followed clock of a lane reaches its next grid instant. -/
def State.toNextInstant (s : State) (l : Lane) : State := if s.gridRun l then s.reachLane l (s.gT l (s.gcNow l)) else s

/-- LANE_ROLL_OUT's effect (Table 2.11). -/
def cmdRollOut (a : List Nat) (s : State) : CmdOut :=
  let k := a.getD 0 0
  let l := Lane.ofIdx k
  if 1 < k ∨ !s.laneUp l ∨ !s.laneUp l.other ∨ s.rolledOut l ∨ s.rolledOut l.other then cmdCode s stSTATE else cmdOk (s.leaveMerge l) []

/-- LANE_CONVERGE's effect: the comparison starts (R63). -/
def cmdConverge (ch : Nat) (a : List Nat) (s : State) : CmdOut :=
  let k := a.getD 0 0
  let l := Lane.ofIdx k
  let n := a.getD 1 0
  let lim := a.getD 2 0
  if 1 < k ∨ !s.laneUp l ∨ !s.laneUp l.other ∨ !s.rolledOut l ∨ n < 1 ∨ 65535 < n ∨ lim < 1 ∨ 60000 < lim then cmdCode s stSTATE
  else ⟨{ s with com := { s.com with converge := some ⟨l, n, s.real + lim * ms, 0, 0, 0, ch, false⟩ } }, stOK, [], true⟩

/-- LANE_ROLL_IN's effect: the lane waits for the next grid instant (R63). -/
def cmdRollIn (a : List Nat) (s : State) : CmdOut :=
  let k := a.getD 0 0
  let l := Lane.ofIdx k
  if 1 < k ∨ !s.laneUp l ∨ !s.rolledOut l then cmdCode s stSTATE else ⟨{ s with com := { s.com with rollIn := some l } }, stOK, [], true⟩

/-- A running command of an opcode has what it waited for. -/
def State.mboxReady (s : State) (op : Nat) : State :=
  [0, 1].foldl (fun (s : State) ch =>
    match s.mbox ch with
    | some m => if m.op = op ∧ m.wait then s.setMbox ch (some { m with wait := false }) else s
    | none => s) s

/-- REGION_COMMIT: the staged regions of a target are committed (R55). -/
def execRegionCommit (ch : Fin 2) (tag : BitVec 16) (target : Word) (s : State) : Host.Outcome State Fault Refusal :=
  ok (mboxIssue ch 0x21 tag [target.toNat] (cmdRegionCommit ch) s)

/-- REGION_BANK_SWITCH: the target reaches its boundary with a commit waiting (R47, R55, R56). -/
def execRegionBankSwitch (target : Fin 4) (s : State) : Host.Outcome State Fault Refusal :=
  match s.com.switches.find? (fun w => decide (w.target = target.val)) with
  | none => ok s
  | some w =>
    if !s.up (targetDom target) then ok s
    else if s.logOverflow w.target (regionsOf w.regions w.target) then ok (s.bankStale w)
    else ok (s.bankSwitch w)

/-- LANE_ROLL_OUT: a lane rolls out of the merge and the voters (R63). -/
def execLaneRollOut (ch : Fin 2) (tag : BitVec 16) (lane : Word) (s : State) : Host.Outcome State Fault Refusal :=
  ok (mboxIssue ch 0x22 tag [lane.toNat] cmdRollOut s)

/-- LANE_CONVERGE: a rolled-out lane is compared with the running lane (R63). -/
def execLaneConverge (ch : Fin 2) (tag : BitVec 16) (lane instants limit : Word) (s : State) : Host.Outcome State Fault Refusal :=
  ok (mboxIssue ch 0x23 tag [lane.toNat, instants.toNat, limit.toNat] (cmdConverge ch) s)

/-- LANE_ROLL_IN: a rolled-out lane asks to rejoin (R63). -/
def execLaneRollIn (ch : Fin 2) (tag : BitVec 16) (lane : Word) (s : State) : Host.Outcome State Fault Refusal :=
  ok (mboxIssue ch 0x24 tag [lane.toNat] cmdRollIn s)

/-- LANE_ROLL_IN_EFFECT: the next grid instant after LANE_ROLL_IN (R63, R427). While a timer or accumulator of an element runs in
the other lane the roll-in waits (R235). -/
def execLaneRollInEffect (l : Lane) (s : State) : Host.Outcome State Fault Refusal :=
  if s.com.rollIn ≠ some l ∨ !s.laneUp l then ok s
  else
    let s := s.toNextInstant l
    if s.laneUp l.other && s.elementRuns l.other then ok s
    else ok (({ s with com := { s.com with rollIn := none } }.enterMerge l).mboxReady 0x24)

/-- EMERGENCY_ROLL_IN: the only present lane is lost and this lane, UP and rolled out, becomes present at the next grid instant
of its followed clock (R437). -/
def execEmergencyRollIn (l : Lane) (s : State) : Host.Outcome State Fault Refusal :=
  if !s.laneUp l ∨ !s.rolledOut l ∨ s.laneUp l.other then ok s
  else
    let s := (s.toNextInstant l).setOut l false
    ok (s.tripShow.bltEvent 3 l.idx 0)

end Sys2Proof.Machine
end

