-- ==== Sys2Proof/Machine/View.lean ====
section
/-!
DEFINITION. What a register or a word of a table window reads as: the values the model computes instead of storing (the state
windows of Quill and the publications, ages, clocks, the vault's view), and the address decoder (R32 to R35).
-/

namespace Sys2Proof.Machine
open Sys2Proof

/-! State windows. -/

/-- Word m of the state record of group g (Table 8.8). -/
def State.grpStateWord (s : State) (l : Lane) (g m : Nat) : Nat :=
  let q := (s.lane l).quill
  let x := s.grpSt l g
  let items := (q.items.filter (fun i => decide (i.group = g))).length
  let deferred := (q.deferred.filter (fun d => decide (s.nd l d.1 d.2 E.T8_3_GROUP = g))).length
  let running := q.eng.any (fun e => decide (e.2.item.group = g))
  match m with
  | 0 => min items 0xFFFF + 2 ^ 16 * min deferred 0xFFFF
  | 1 => if s.grpF l g E.T8_6_LEVEL = 0 then 0 else x.deficit
  | 2 => x.fired % 2 ^ 32
  | _ => min x.waitMax (2 ^ 31 - 1) + 2 ^ 31 * b2n (decide (items = 0 ∧ deferred = 0) && !running)

/-- Word m of the state record of flow f (Table 8.9): F laid out as a token's KEY, 0 while a Speedwell flow holds no key. -/
def State.flowStateWord (s : State) (l : Lane) (f m : Nat) : Nat :=
  let b := s.gBank l
  let q := (s.lane l).quill
  let key :=
    match s.flowHeld l b f, s.flowKey l b f with
    | t :: _, some k => s.keyOf l t.sw k t.src
    | [], some k => s.keyOf l false k 0
    | _, none => 0
  if m < 3 then key / 2 ^ (32 * m) % 2 ^ 32
  else s.flowF l b f E.T8_5_VALID + 2 * b2n (q.eng.any (fun e => decide (e.2.item.bank = b ∧ s.flowOf l b e.2.item.node = some f)))

/-- Word m of the state record of publication n (Table 12.9). -/
def State.pubStateWord (s : State) (l : Lane) (n m : Nat) : Nat :=
  let x := s.pub l n
  match m with
  | 0 => b2n x.synced
  | 1 => x.num % 2 ^ 32
  | 2 => x.st % 2 ^ 32
  | 3 => x.sq % 2 ^ 32
  | _ => if m < 7 then toT96 (x.es.getD 0) / 2 ^ (32 * (m - 4)) % 2 ^ 32 else 0

/-- A word of a table window as it reads: state windows that the model computes, ages of dynamic FDB entries (Table 5.1), else as
stored. -/
def State.winView (s : State) (pg : Page) (w : Win) (off : Nat) : Word :=
  let raw := s.win (winAddr pg w off)
  match w, pg with
  | .qulGrpState, .qul l => BitVec.ofNat 32 (s.grpStateWord l (off / 16) (off % 16 / 4))
  | .qulFlowState, .qul l => BitVec.ofNat 32 (s.flowStateWord l (off / 16) (off % 16 / 4))
  | .pubState, .pub l => BitVec.ofNat 32 (s.pubStateWord l (off / 32) (off % 32 / 4))
  | .pswFdbAct, .psw p =>
    let k := off / 16
    if off % 16 = 8 ∧ s.ent (fdbAddr p k) E.T5_1_VALID = 1 ∧ s.ent (fdbAddr p k) E.T5_1_STATIC = 0 then
      BitVec.ofNat 32 (bitsPut raw.toNat 31 16 (min (s.planeSec p - assocGetD (s.plane p).fdbSeen k (s.planeSec p)) 0xFFFF))
    else raw
  | _, _ => raw

/-! Registers. -/

/-- The vault's time as INK_VTIME shows it: seconds and ticks of 1/32,768 s (R382). -/
def State.vtSec (s : State) : Nat := s.vtTicks / 32768
def State.vtTick (s : State) : Nat := s.vtTicks % 32768

/-- The domains ISOLATED among the planes and lanes: held, and awaiting capture or RESTART. -/
def State.heldMask (s : State) : Nat :=
  ([Dom.plane .a, .plane .b, .lane .l0, .lane .l1].map (fun d => b2n (decide (s.domSt d = .isolated)) * 2 ^ domBltBit d)).sum

/-- The value a register reads, without what the read does. -/
def State.regView (s : State) (pg : Page) (r : RegId) (k : Nat) : Word :=
  let raw := s.rd pg r k
  let put := fun (f : Fld) (v : Nat) => BitVec.ofNat 32 (bitsPut raw.toNat f.hi f.lo v)
  match r, pg with
  | .CFG_DOMAIN_STATUS, _ => BitVec.ofNat 32 (raw.toNat / 2 ^ 16 * 2 ^ 16 + s.domWord)
  | .KEY_SLOT_W, _ => BitVec.ofNat 32 (s.keyWord (k / 4) (k % 4))
  | .KEY_ROOT_STATUS, _ => BitVec.ofNat 32 s.rootStatus
  | .KEY_PENDING, _ => put F.KEY_PENDING_STALE s.staleCount
  | .INK_DIEID, _ => BitVec.ofNat 32 (leNat ((s.dieId.drop (4 * k)).take 4))
  | .INK_VTIME_LO, _ => BitVec.ofNat 32 s.vtSec
  | .INK_VTIME_HI, _ => BitVec.ofNat 32 s.ink.latHi
  | .INK_VTIME_TICK, _ => BitVec.ofNat 32 s.ink.latTick
  | .TIM_DOM_OFFSET, .tim p => BitVec.ofNat 32 (s.domOffset p k)
  | .TIM_NOW_W0, .tim p => BitVec.ofNat 32 (toT96 (s.plane p).now)
  | .TIM_TXQ_ENT, .timPort p i =>
    match ((s.plane p).pt i).txq.head? with
    | some e => BitVec.ofNat 32 (txqWord e k)
    | none => 0
  | .PRT_CFG, _ => if s.fld pg F.PRT_CFG_MODE = 6 then put F.PRT_CFG_RS_FEC 1 else raw
  | .INS_STATE, .insPage l n => if n < 64 ∧ s.insState l n = 3 then put F.INS_STATE_DRAINED (b2n (s.insDrained l n)) else raw
  | .FBS_OBJ_FLAGS, .fbsObj l d =>
    BitVec.ofNat 32 (bitsPut (bitsPut raw.toNat 0 0 (s.ent (fboRec l d) E.T16_4_NEW)) 1 1 (s.ent (fboRec l d) E.T16_4_LOST))
  | .CHK_VALUE_LO, .chk l u => BitVec.ofNat 32 (s.chkShown l u)
  | .CHK_VALUE_HI, .chk l u => BitVec.ofNat 32 (s.chkShown l u / 2 ^ 32)
  | .BLT_STATUS, _ => put F.BLT_STATUS_HELD s.heldMask
  | .PWR_BANK_STATUS, _ =>
    BitVec.ofNat 32 (bitsPut (bitsPut raw.toNat 13 8 (maskOf 6 (fun b => !s.com.lowBanks.contains b))) 16 16
      (b2n (Config.vioELow && !s.com.lowBanks.contains 4)))
  | _, _ => raw

/-! The address decoder. -/

/-- What stands at an address: a register, a word of a window, a byte of a lane's memory, or an instance window. -/
inductive Tgt where
  | reg (pg : Page) (r : RegId) (k : Nat)
  | win (pg : Page) (w : Win) (off : Nat)
  | none
  deriving DecidableEq, Repr

/-- The register or window word at an offset of a page. -/
def pageAt (pg : Page) (o : Nat) : Tgt :=
  let fits := fun (r : RegId) => decide (r.geom.off ≤ o ∧ (o - r.geom.off) % r.geom.stride = 0 ∧ (o - r.geom.off) / r.geom.stride < r.geom.count)
  match pg.kind.regs.find? fits with
  | some r => .reg pg r ((o - r.geom.off) / r.geom.stride)
  | none =>
    match pg.kind.wins.find? (fun w => decide (w.info.off ≤ o ∧ o < w.info.off + w.info.size)) with
    | some w => .win pg w (o - w.info.off)
    | none => .none

/-- Is a register of the management ports only (R106 to R109)? -/
def mgOnly : RegId → Bool
  | .PRT_MG_CTL | .PRT_MG_FILT_LO | .PRT_MG_FILT_HI | .PRT_MG_RXBASE_LO | .PRT_MG_TXBASE_LO | .PRT_MG_RXBASE_HI
  | .PRT_MG_TXBASE_HI | .PRT_MG_TX_KICK => true
  | _ => false

/-- The Common register block (Table 1.7). -/
def commonAt (o : Nat) : Tgt :=
  let b := o % 0x100000
  match o / 0x100000 with
  | 0 => pageAt .cfg b
  | 1 => if b < 0x1000 then pageAt (.stw 0) b else if b < 0x2000 then pageAt (.stw 1) (b - 0x1000) else pageAt .stwLoad b
  | 2 => pageAt .pwr b
  | 3 => pageAt .ink b
  | 4 => pageAt .evr b
  | 5 => pageAt .key b
  | 6 => pageAt .blt b
  | 7 => if b < 0x40000 then pageAt (.mg 0) b else if b < 0x80000 then pageAt (.mg 1) (b - 0x40000) else .none
  | _ => .none

/-- A plane's space (Table 1.8). -/
def planeAt (p : Plane) (o : Nat) : Tgt :=
  if o < 0x400000 then
    if o / 0x40000 < 15 then
      match pageAt (.prt p (o / 0x40000)) (o % 0x40000) with
      | .reg pg r k => if mgOnly r then .none else .reg pg r k
      | t => t
    else .none
  else if o < 0xC00000 then
    let b := o - 0x400000
    if 0x1000 ≤ b ∧ b < 0x1000 + 15 * 0x100 then pageAt (.pswPort p ((b - 0x1000) / 0x100)) (b % 0x100) else pageAt (.psw p) b
  else if o < 0xE00000 then
    let b := o - 0xC00000
    if b < 0x100000 then pageAt (.tim p) b
    else if (b - 0x100000) / 0x1000 < 11 then pageAt (.timPort p ((b - 0x100000) / 0x1000)) (b % 0x1000)
    else .none
  else .none

/-- A lane's register space (Table 1.9). -/
def laneAt (l : Lane) (o : Nat) : Tgt :=
  let b := o % 0x400000
  if 0x4000000 ≤ o then (if o < 0x6000000 then pageAt (.scr l ((o - 0x4000000) / 0x100000)) (o % 0x100000) else .none)
  else
    match o / 0x400000 with
    | 0 => pageAt (.lcfg l) b
    | 1 => pageAt (.ing l) b
    | 2 => if 0x1000 ≤ b ∧ b < 0x2000 then pageAt (.fltEng l ((b - 0x1000) / 0x100)) (b % 0x100) else pageAt (.flt l) b
    | 3 => pageAt (.qul l) b
    | 4 => pageAt (.ops l) b
    | 5 => pageAt (.map l) b
    | 6 => pageAt (.pub l) b
    | 7 => if 0x1000 ≤ b ∧ b < 0x1800 then pageAt (.chk l ((b - 0x1000) / 0x100)) (b % 0x100) else .none
    | 8 => pageAt (.drc l) b
    | 9 => if 0x30000 ≤ b ∧ b < 0x30000 + 65 * 0x100 then pageAt (.insPage l ((b - 0x30000) / 0x100)) (b % 0x100) else pageAt (.ins l) b
    | 10 =>
      if 0x1000 ≤ b ∧ b < 0x1800 then pageAt (.fbsCtl l ((b - 0x1000) / 0x400)) (b % 0x400)
      else if 0x40000 ≤ b ∧ b < 0x44000 then pageAt (.fbsObj l ((b - 0x40000) / 16)) (b % 16)
      else pageAt (.fbs l) b
    | _ => .none

/-- What an instance window shows at an offset (Table 15.3): whether the instance owns it, and what it is. -/
inductive GuestTgt where
  | self
  | req (k : Nat)
  | at_ (owned : Bool) (t : Tgt)
  deriving DecidableEq, Repr

/-- An offset of the window of instance n in a lane (Table 15.3, Table 16.3). -/
def State.guestAt (s : State) (l : Lane) (n o : Nat) : GuestTgt :=
  if o < 4 then .self
  else if 0x100 ≤ o ∧ o < 0x120 then .at_ true (.reg (.insPage l n) .INS_VINT_PEND ((o - 0x100) / 4))
  else if 0x120 ≤ o ∧ o < 0x140 then .at_ true (.reg (.insPage l n) .INS_VINT_EN ((o - 0x120) / 4))
  else if 0x200 ≤ o ∧ o < 0x210 then .req ((o - 0x200) / 4)
  else if 0x1000 ≤ o ∧ o < 0x1800 then
    let u := (o - 0x1000) / 0x100
    .at_ (decide (s.ownerChk l u = n)) (pageAt (.chk l u) (o % 0x100))
  else if 0x2000 ≤ o ∧ o < 0x2100 then .at_ (decide (s.ownerDrc l = n)) (pageAt (.drc l) (o - 0x2000))
  else if 0x4000 ≤ o ∧ o < 0x6000 then
    let k := (o - 0x4000) / 0x100
    .at_ (decide (s.ownerScribe l k = n)) (pageAt (.scr l k) (0x200 + o % 0x100))
  else if 0x8000 ≤ o ∧ o < 0xC000 then
    let j := (o - 0x8000) / 16
    let d := s.ent (insDesc l n) E.T15_1_FBO_FIRST + j
    .at_ (decide (j < s.ent (insDesc l n) E.T15_1_FBO_COUNT ∧ s.ownerFbo l d = n)) (pageAt (.fbsObj l d) (o % 16))
  else .at_ false .none

end Sys2Proof.Machine
end

