-- ==== Sys2Proof/Machine/Blotter.lean ====
section
/-!
DEFINITION. The Blotter (R438, R441, R442): what a capture takes, dumps in flash, and the commands that read and clear them.
-/

namespace Sys2Proof.Machine
open Sys2Proof

/-! Sections (Table 20.4). -/

/-- The pages of a domain's register space, with their base in the domain space. -/
def domPages : Dom → List Page
  | .plane p =>
    (List.range 15).map (.prt p) ++ [.psw p] ++ (List.range 15).map (.pswPort p) ++ [.tim p] ++ (List.range 11).map (.timPort p)
  | .lane l =>
    [.lcfg l, .ing l, .flt l] ++ (List.range 16).map (.fltEng l) ++ [.qul l, .ops l, .map l, .pub l] ++ (List.range 8).map (.chk l) ++
      [.drc l, .ins l] ++ (List.range 65).map (.insPage l) ++ (List.range 2).map (.fbsCtl l) ++ (List.range 1024).map (.fbsObj l) ++
      (List.range 32).map (.scr l)
  | .common => [.cfg, .stw 0, .stw 1, .stwLoad, .pwr, .ink, .evr, .key, .blt, .mg 0, .mg 1]
  | .inkwell => []

/-- The base of a domain space. -/
def domBase : Dom → Nat
  | .plane p => planeBase p
  | .lane l => laneBase l
  | _ => commonBase

/-- Does a page hold a register? -/
def pageHas (pg : Page) (r : RegId) : Bool :=
  match pg with
  | .prt _ _ => !mgOnly r
  | _ => true

/-- Section REGISTERS: offset and value of every register. -/
def State.dumpRegs (s : State) (d : Dom) : List Byte :=
  (domPages d).flatMap (fun pg => (pg.kind.regs.filter (pageHas pg)).flatMap (fun r => (List.range r.geom.count).flatMap (fun k =>
    natLe 4 (regAddr pg r k - domBase d) ++ natLe 4 (s.regView pg r k).toNat)))

/-- The islands of a domain (Table 1.2). -/
def islands : Dom → Nat
  | .plane _ => 17
  | .lane _ => 15
  | .common => 5
  | .inkwell => 1

/-- Free words of a dump from a free value on. -/
def dumpWords (k n : Nat) : List Byte := (List.range n).flatMap (fun i => natLe 4 (Config.dumpWord (k * 65536 + i)))

/-- Section ISLANDS: index, state and heartbeat count, which is a free value. An island is stopped, and hung when HANG names it. -/
def dumpIslands (x : Isolation) (k : Nat) : List Byte :=
  (List.range (islands x.dom)).flatMap (fun i =>
    natLe 2 i ++ natLe 2 (if x.cause = 5 ∧ x.detail = i then 2 else 1) ++ natLe 4 (Config.dumpWord (k * 65536 + i)))

/-- A queued event as a record of Table 17.1. -/
def evBytes (r : EvRec) : List Byte :=
  let p := r.payload.flatMap (natLe 4)
  let units := 1 + (p.length + 15) / 16
  [0xA6, BitVec.ofNat 8 (r.src * 32 + (units - 1))] ++ natLe 2 r.code ++ natLe 12 r.time ++ p ++ List.replicate (16 * (units - 1) - p.length) 0

/-- Section MEMERR: time, address, syndrome and storage code; the last two are free values. -/
def State.dumpMemErr (s : State) (d : Dom) (k : Nat) : List Byte :=
  (s.com.memErr.filter (fun e => decide (e.1 = d))).flatMap (fun e => natLe 12 (toT96 e.2.1) ++ natLe 8 e.2.2 ++ dumpWords k 3)

/-- Section ENGINES: node, firing key, elapsed cycles at 1.5 GHz and out flag of every element engine. -/
def State.dumpEngines (s : State) (l : Lane) : List Byte :=
  (List.range 48).flatMap (fun e =>
    let r := assocGet (s.lane l).quill.eng e
    let (node, key, cyc) := match r with
      | some r => (r.item.node, s.keyOf l r.item.sw r.item.key 0, (s.real - r.start) * 3 / 2 / ns)
      | none => (0, 0, 0)
    natLe 4 node ++ natLe 12 key ++ natLe 8 cyc ++ natLe 8 (b2n (s.engOut l e)))

/-- The sections of a capture. The state of the steward cores is a free value (Table 20.4). -/
def State.dumpSects (s : State) (x : Isolation) (k : Nat) : List (Nat × List Byte) :=
  let d := x.dom
  [(1, s.dumpRegs d), (2, dumpIslands x k)] ++
    (match d with
      | .plane _ => [(3, (s.evq d).recs.flatMap evBytes), (4, s.dumpMemErr d k)]
      | .lane l => [(3, (s.evq d).recs.flatMap evBytes), (4, s.dumpMemErr d k), (5, s.dumpEngines l)]
      | _ => [(4, s.dumpMemErr d k), (6, dumpWords k 256)])

/-! Dumps in flash (R441). -/

/-- Where slot n begins. -/
def bltSlot (n : Nat) : Nat := 0x3E000000 + n * 0x800000

/-- Round up to 4,096. -/
def pageUp (n : Nat) : Nat := (n + 4095) / 4096 * 4096

/-- The directory and the sections from slot offset 0x1000 on, with their total end. -/
def dumpLayout : Nat → List (Nat × List Byte) → List Byte × List Byte × Nat
  | at_, [] => ([], [], at_)
  | at_, (kind, b) :: rest =>
    let next := pageUp (at_ + b.length)
    let r := dumpLayout next rest
    (natLe 4 kind ++ natLe 4 at_ ++ natLe 4 b.length ++ natLe 4 (crcOf crc32c b) ++ r.1,
      b ++ (if rest.isEmpty then [] else List.replicate (next - at_ - b.length) 0xFF) ++ r.2.1,
      if rest.isEmpty then at_ + b.length else r.2.2)

/-- The header's length with its directory. -/
def dumpHeadLen (h : List Byte) : Nat := 0x100 + 16 * octF h E.T20_3_N_SECT

/-- Do the header and directory of a dump have a correct MAGIC and CRC? -/
def dumpHeadOk (h : List Byte) : Bool :=
  decide (octF h E.T20_3_MAGIC = 0x54544C42 ∧
    octF h E.T20_3_CRC = crcOf crc32c (h.take 0x5C ++ (h.drop 0x100).take (16 * octF h E.T20_3_N_SECT)))

/-- The valid header and directory of a slot on a device. -/
def State.dumpHead (s : State) (d n : Nat) : Option (List Byte) :=
  let h := s.flash d (bltSlot n) 0x300
  if dumpHeadOk h then some h else none

/-- The header of a slot that holds a valid dump on either device. -/
def State.slotHead (s : State) (n : Nat) : Option (List Byte) :=
  match s.dumpHead 0 n with
  | some h => some h
  | none => s.dumpHead 1 n

/-- The slots that hold dumps, with SEQ and LEN. -/
def State.dumps (s : State) : List (Nat × Nat × Nat) :=
  (List.range 4).filterMap (fun n => (s.slotHead n).map (fun h => (n, octF h E.T20_3_SEQ, octF h E.T20_3_LEN)))

/-- The dump with the lowest SEQ. -/
def State.firstDump (s : State) : Option (Nat × Nat × Nat) :=
  s.dumps.foldl (fun a e =>
    match a with
    | none => some e
    | some b => if e.2.1 < b.2.1 then some e else a) none

/-- The slot the next dump takes, and whether it overwrites one: the lowest empty slot, or the one with the highest SEQ. -/
def State.dumpSlot (s : State) : Nat × Bool :=
  match (List.range 4).find? (fun n => (s.slotHead n).isNone) with
  | some n => (n, false)
  | none => ((s.dumps.foldl (fun a e => if a.2 < e.2.1 then (e.1, e.2.1) else a) (0, 0)).1, true)

/-- The octets of a dump's slot (Table 20.3). -/
def State.dumpOctets (s : State) (x : Dump) (seq : Nat) (over_ : Bool) : List Byte :=
  let i := x.iso
  let (dir, body, len) := dumpLayout 0x1000 x.sects
  let h := natLe 4 0x54544C42 ++ natLe 2 1 ++ natLe 2 x.sects.length ++ natLe 4 seq ++ natLe 1 (domSrc i.dom) ++ natLe 1 i.cause ++
    natLe 2 (b2n x.retained + 2 * b2n x.cut + 4 * b2n over_ + 8 * b2n i.others) ++ natLe 12 i.time ++ natLe 4 i.detail ++ natLe 8 i.addr ++
    natLe 4 s.com.fwVer ++ natLe 4 i.status ++ natLe 16 s.com.imageId ++ s.dieId ++ natLe 4 (s.rd .ink .INK_PCYC).toNat ++
    natLe 4 (s.rd .ink .INK_OPH).toNat ++ natLe 4 len
  let h := h.take 0x5C
  let h := h ++ natLe 4 (crcOf crc32c (h ++ dir)) ++ List.replicate 0xA0 0
  let head := h ++ dir
  head ++ List.replicate (0x1000 - head.length) 0xFF ++ body

/-! BLT_STATUS. -/

/-- BLT_STATUS follows the isolated domains, the slots and the buffer; CHANGE is set when it changes. -/
def State.bltShow (s : State) : State :=
  let pg : Page := .blt
  let old := (s.rd pg .BLT_STATUS).toNat
  let s := s.setFld pg F.BLT_STATUS_HELD s.heldMask
  let s := s.setFld pg F.BLT_STATUS_SLOTS s.dumps.length
  let run := match s.com.dumpBuf with
    | some x => some x.running
    | none => none
  let s := s.setFld pg F.BLT_STATUS_WRITING (b2n (decide (run = some false)))
  let s := s.setFld pg F.BLT_STATUS_CAPTURING (b2n (decide (run = some true)))
  if (s.rd pg .BLT_STATUS).toNat = old then s else s.setBit pg F.BLT_STATUS_CHANGE

/-! Capture and the write to flash. -/

/-- The next isolated domain, in the order of isolation, is captured when the steward runs and the buffer is free (R438). -/
def State.captureNext (s : State) : State :=
  if !s.up .common || !s.com.steward || s.com.dumpBuf.isSome then s
  else
    match s.com.isos.find? (fun x => !x.captured) with
    | none => s
    | some x =>
      let (k, s) := s.fresh
      { s with com := { s.com with dumpBuf := some ⟨x, s.dumpSects x k, true, false, false⟩ } }

/-- The buffer is written to its slot (R441): erased, written, and the named event DUMP_WRITTEN recorded. -/
def State.dumpWrite (s : State) : State :=
  match s.com.dumpBuf with
  | none => s
  | some x =>
    let (n, over_) := s.dumpSlot
    let seq := s.dumps.foldl (fun a e => max a e.2.1) 0 + 1
    let o := s.dumpOctets x seq over_
    let s := (s.flashWipe (bltSlot n) 0x800000).2
    let s := (s.flashPut (bltSlot n) o).2
    { s with com := { s.com with dumpBuf := none } }.bltEvent 1 n seq

/-! The commands. -/

/-- DUMP_READ's effect (R442). -/
def cmdDumpRead (ch : Nat) (a : List Nat) (s : State) : CmdOut :=
  match s.firstDump with
  | none => if s.upLanes.isEmpty then cmdCode s stNOLANE else cmdOk s [0]
  | some (n, _, len) =>
    let addr := argAddr a 0
    if s.upLanes.isEmpty then cmdCode s stNOLANE
    else if a.getD 2 0 < len ∨ !inLaneMem addr len then ⟨s, stBADARG, [len], false⟩
    else
      match s.flashRead (bltSlot n) len (fun b => dumpHeadOk b) with
      | (none, s) => cmdCode s stFLASH
      | (some b, s) => cmdOk ((s.writeLanes addr b).progress ch len) [len]

/-- DUMP_CLEAR's effect (R442). -/
def cmdDumpClear (_ : List Nat) (s : State) : CmdOut :=
  match s.firstDump with
  | none => cmdOk s []
  | some (n, seq, _) =>
    let (good, s) := s.flashWipe (bltSlot n) 0x800000
    if good then cmdOk (s.bltShow.bltEvent 5 n seq) [] else cmdCode s.bltShow stFLASH

/-- DUMP_READ: the dump with the lowest SEQ is copied to lane memory (R442). -/
def execDumpRead (ch : Fin 2) (tag : BitVec 16) (addr : BitVec 64) (max : Word) (s : State) : Host.Outcome State Fault Refusal :=
  ok (mboxIssue ch 0x30 tag (addrArgs addr ++ [max.toNat]) (cmdDumpRead ch) s)

/-- DUMP_CLEAR: the slot with the lowest SEQ is erased on both devices (R442). -/
def execDumpClear (ch : Fin 2) (tag : BitVec 16) (s : State) : Host.Outcome State Fault Refusal :=
  ok (mboxIssue ch 0x31 tag [] cmdDumpClear s)

end Sys2Proof.Machine
end

