-- ==== Sys2Proof/Machine/Commands.lean ====
section
/-!
DEFINITION. The mailbox as a whole: the commands by opcode (R62, R64), an unknown opcode, CANCEL (R59), and completion (R58).
-/

namespace Sys2Proof.Machine
open Sys2Proof

/-- The command of an opcode. -/
def mboxCmd (ch op : Nat) : List Nat → State → CmdOut :=
  match op with
  | 0x01 => cmdPing
  | 0x02 => cmdGetInfo
  | 0x10 => cmdFlashErase ch
  | 0x11 => cmdFlashWrite ch
  | 0x12 => cmdFlashVerify ch
  | 0x13 => cmdBankSelect
  | 0x14 => cmdBankConfirm
  | 0x20 => cmdImageStage
  | 0x21 => cmdRegionCommit ch
  | 0x22 => cmdRollOut
  | 0x23 => cmdConverge ch
  | 0x24 => cmdRollIn
  | 0x25 => cmdStageDiscard
  | 0x30 => cmdDumpRead ch
  | 0x31 => cmdDumpClear
  | 0x40 => cmdLcStatus
  | 0x41 => cmdLcAdvance ch
  | 0x44 => cmdRootKeySet
  | 0x48 => cmdKeyWrite
  | 0x49 => cmdKeyDerive
  | 0x4A => cmdKeyInvalidate ch
  | 0x4B => cmdKeyStatus
  | 0x50 => cmdMcountRead
  | 0x51 => cmdMcountInc
  | 0x52 => cmdRollbackAdvance
  | 0x58 => cmdAttest
  | 0x5C => cmdTamperCfg
  | 0x60 => cmdEvrRead []
  | 0x61 => cmdEvrClear
  | 0x62 => cmdEvrRlSet
  | 0x63 => cmdEvrRlGet
  | 0x68 => cmdTagRead
  | 0x69 => cmdTagWrite
  | 0x6C => cmdIdRead
  | _ => cmdBad

/-- GO on a channel with whatever STW_CMD holds. -/
def State.mboxSubmit (s : State) (ch : Nat) : State := mboxGo ch (mboxCmd ch (s.fld (.stw ch) F.STW_CMD_OPCODE)) s

/-- The commands that CANCEL stops (R59). -/
def cancelOps : List Nat := [0x20, 0x10, 0x11, 0x12, 0x23, 0x30]

/-- What a cancelled command leaves (R59): IMAGE_STAGE its loader FAILED with nothing staged, a flash erase or write its bank marked
empty, a verification nothing verified, LANE_CONVERGE no comparison. -/
def State.cancelEffect (s : State) (m : MbRun) : State :=
  let w := m.args.getD 0 0
  let b := m.args.getD 1 0
  match m.op with
  | 0x20 => s.stageDrop.loader 5 stCANCELLED
  | 0x10 | 0x11 => s.bankChanged w b 0
  | 0x12 => { s with com := { s.com with verified := s.com.verified.filter (fun e => decide (e ≠ (w, b))) } }
  | 0x23 => { s with com := { s.com with converge := none } }
  | _ => s

/-- CANCEL on a channel: the running command, if it is one that CANCEL stops and has not already failed, ends with CANCELLED. -/
def State.mboxCancel (s : State) (ch : Nat) : State :=
  if !s.up .common || !s.com.steward then s
  else
    match s.mbox ch with
    | some m =>
      if m.op ∈ cancelOps ∧ m.code = stOK then (s.cancelEffect m).setMbox ch (some { m with code := stCANCELLED, res := [], wait := false })
      else s
    | none => s

/-- How a LANE_CONVERGE that still compares ends at its limit (R63): DIVERGE when a mismatch fell in the last instants, else
TIMEOUT, with the instants compared and the mismatches. -/
def State.convergeEnd (s : State) (ch : Nat) (m : MbRun) : State :=
  match s.com.converge with
  | none => s.setMbox ch (some { m with code := stSTATE, wait := false })
  | some c =>
    let s := s.reachReal c.limit
    let code := if c.run < c.total ∨ c.lastBad then stDIVERGE else stTIMEOUT
    ({ s with com := { s.com with converge := none } }).setMbox ch (some { m with code := code, res := [c.total, c.mism], wait := false })

/-- Take up a command that waits, once more: a staging that fetches, verifies or waits for an old bank, a commit whose build had to wait, a roll-in
whose lane is gone. -/
def State.mboxRetry (s : State) (ch : Nat) (m : MbRun) : State :=
  let put := fun (r : CmdOut) => r.st.setMbox ch (some { m with code := r.code, res := r.res, wait := r.wait })
  match m.op with
  | 0x23 => s.convergeEnd ch m
  | 0x20 => put (s.stageStep ch)
  | 0x21 =>
    if s.com.switches.any (fun w => decide (w.chan = some ch)) then s else put (cmdRegionCommit ch m.args s)
  | 0x24 => if s.com.rollIn.isSome then s else s.setMbox ch (some { m with code := stSTATE, wait := false })
  | _ => s

/-- The running command of a channel reaches its end, if it has one to reach now (R58). -/
def State.mboxEnd (s : State) (ch : Nat) : State :=
  if !s.up .common || !s.com.steward then s
  else
    match s.mbox ch with
    | none => s
    | some m =>
      let s := if m.wait then s.mboxRetry ch m else s
      match s.mbox ch with
      | some m =>
        if m.wait then s
        else (if m.op = 0x61 ∧ m.code = stOK then s.evrClearEnd else s).mboxFinish ch
      | none => s

/-- MAILBOX_BADCMD: a submission whose opcode no chapter defines ends with BADCMD (R62). -/
def execMailboxBadcmd (ch : Fin 2) (tag : BitVec 16) (op : BitVec 8) (s : State) : Host.Outcome State Fault Refusal :=
  ok (mboxIssue ch op.toNat tag [] (mboxCmd ch op.toNat) s)

/-- CANCEL: STW_CANCEL of a channel is written (R59). -/
def execMailboxCancel (ch : Fin 2) (s : State) : Host.Outcome State Fault Refusal := ok (s.mboxCancel ch)

/-- MAILBOX_COMPLETE: the running command of a channel completes (R58). -/
def execMailboxComplete (ch : Fin 2) (s : State) : Host.Outcome State Fault Refusal := ok (s.mboxEnd ch)

end Sys2Proof.Machine
end

