-- ==== Sys2Proof/Machine/Faults.lean ====
section
/-!
DEFINITION. The loss, reset and return of domains: isolation (R436, R440), what the rest of the device does when a domain is lost
(R29, R57, R131, R293, R300, R376), capture and release (R438), restart (R439), and the loading of the active image into a
target that comes UP (R53, R425, R439).
-/

namespace Sys2Proof.Machine
open Sys2Proof

/-! Reset of a domain. -/

/-- The commit target of a plane or lane. -/
def domTarget : Dom → Option Nat
  | .lane l => some l.idx
  | .plane p => some (2 + p.idx)
  | _ => none

/-- Nothing counts as active on a target any more. -/
def State.dropActive (s : State) (t : Nat) : State :=
  { s with com := { s.com with active := s.com.active.filter (fun a => decide (a.target ≠ t)) } }

/-- Set the registers, windows and staged registers of an address range to reset. -/
def State.resetRange (s : State) (a n : Nat) : State :=
  let s := s.clearRange a n
  { s with shreg := s.shreg.filter (fun e => !decide (a ≤ e.1 ∧ e.1 < a + n)) }

/-- A plane is reset. DESIGN CHOICE: its event queue and lost-event counter are emptied with it (log entry 74). -/
def State.resetPlane (s : State) (p : Plane) : State :=
  ((s.resetRange (planeBase p) 0x1000000).setPlane p .empty).dropActive (2 + p.idx)

/-- Where a lane keeps its copies of the instances' requests: an address of the model's own (log entry 12). -/
def insReqArea (l : Lane) : Nat := 2 ^ 48 + 0x400000 + 0x10000 * l.idx

/-- A lane is reset; the octets of its memory stay as they are (log entry 61). DESIGN CHOICE: its event
queue and lost-event counter are emptied with it (log entry 74). -/
def State.resetLane (s : State) (l : Lane) : State :=
  let s := s.resetRange (laneBase l) 0x10000000
  let s := (s.resetRange (epsBase l) 0x100000).resetRange (insReqArea l) 0x10000
  (s.setLane l .empty).dropActive l.idx

/-- Common's registers are reset, but for the vault's, CFG_BOOT_STATUS, the out bits (R57), LIMITED (R440), and what the rails
and banks themselves show. -/
def State.resetCommon (s : State) : State :=
  let boot := s.rd .cfg .CFG_BOOT_STATUS
  let out0 := s.fld .stwLoad F.STW_LOAD_STATUS_L0_OUT
  let out1 := s.fld .stwLoad F.STW_LOAD_STATUS_L1_OUT
  let lim := s.fld .blt F.BLT_STATUS_LIMITED
  let s := (s.resetRange commonBase 0x300000).resetRange (commonBase + 0x600000) 0xA00000
  let s := s.wr .cfg .CFG_BOOT_STATUS 0 boot
  let s := (s.setFld .stwLoad F.STW_LOAD_STATUS_L0_OUT out0).setFld .stwLoad F.STW_LOAD_STATUS_L1_OUT out1
  let s := s.setFld .blt F.BLT_STATUS_LIMITED lim
  { s with com := { s.com with mg := [] } }

/-! Losses. -/

/-- A target's waiting commit and what was built for it are dropped; a REGION_COMMIT that waited finds the loader STAGED. -/
def State.dropTarget (s : State) (t : Nat) : State :=
  let mine := s.com.switches.filter (fun w => decide (w.target = t))
  let s := { s with com := { s.com with
    switches := s.com.switches.filter (fun w => decide (w.target ≠ t))
    built := s.com.built.filter (fun k => decide (k ≠ t)) } }
  if mine.any (fun w => w.chan.isSome) then s.loader 3 stSTATE else s

/-- The pairing queues of a target, or those that a lane fills, hold nothing. -/
def State.dropPairs (s : State) (gone : Nat → Bool) : State := { s with pairQ := s.pairQ.filter (fun e => !gone e.1) }

/-- Clear one field of CFG_BOOT_STATUS; CHANGE is set when it was 1. -/
def State.clearBoot (s : State) (f : Fld) : State :=
  if s.bit .cfg f then (s.setFld .cfg f 0).setBit .cfg F.CFG_BOOT_STATUS_CHANGE else s

/-- A lost lane holds its cross-trigger lines no more (R334). -/
def State.xtLost (s : State) (l : Lane) : State :=
  [0, 1].foldl (fun (s : State) line =>
    if (assocGet (s.drc l).xt line).isSome && (s.xtDriven line).isNone && s.xtOutside line then s.trigEdge (4 + line) true false else s) s

/-- A lane has left UP (R29): its armed and handed bits go, the merges and voters count it absent, its field-bus roles and trigger
lines pass, and what waited for it is dropped. -/
def State.laneLost (s : State) (l : Lane) : State :=
  let s := match l with
    | .l0 => (s.clearBoot F.CFG_BOOT_STATUS_ARMED0).clearBoot F.CFG_BOOT_STATUS_HANDED0
    | .l1 => (s.clearBoot F.CFG_BOOT_STATUS_ARMED1).clearBoot F.CFG_BOOT_STATUS_HANDED1
  let s := if s.rolledOut l then s else (s.mergePartnerAbsent .a l).mergePartnerAbsent .b l
  let s := ((s.fbLaneLost l).xtLost l).tripShow
  let s := { s with com := { s.com with converge := none, rollIn := if s.com.rollIn = some l then none else s.com.rollIn } }
  (s.dropTarget l.idx).dropPairs (fun k => decide (k % 2 = l.idx))

/-- A plane has left UP (R29): the other plane becomes acting owner (R131), the PPS outputs and the lanes leave it (R74, R86), and the
other plane's clock loses it as a source (R68). -/
def State.planeLost (s : State) (p : Plane) : State :=
  let o := p.other
  let s := if s.planeUp o && decide (s.actOwner o = p) then s.takeOver o else s
  let s := (s.setPlane p { s.plane p with pps0 := none, pps1 := none }).ppsSettle
  let s := ((s.setIpDown false).lanesFollow).selectSources
  (s.dropTarget (2 + p.idx)).dropPairs (fun k => decide (k / 2 = p.idx))

/-- A domain that AUTO and LIMITED let restart after its capture (R438, R440). -/
def State.mayRestart (s : State) (d : Dom) : Bool :=
  bitAt (s.fld .blt F.BLT_CFG_AUTO) (domBltBit d) && !bitAt (s.fld .blt F.BLT_STATUS_LIMITED) (domBltBit d)

/-- A plane or lane leaves its isolation: it is reset and RESTARTING (R438, R439). -/
def State.release (s : State) (d : Dom) : State :=
  let s := { s with com := { s.com with isos := s.com.isos.filter (fun x => decide (x.dom ≠ d)) } }
  let s := match d with
    | .plane p => s.resetPlane p
    | .lane l => s.resetLane l
    | _ => s
  (s.setDom d .restarting).bltShow

/-- The wait of a domain for its capture is over: it is released, or held until RESTART (R438). -/
def State.captured (s : State) (d : Dom) : State :=
  if s.mayRestart d then s.release d
  else
    { s with com := { s.com with isos := s.com.isos.map (fun (x : Isolation) => if x.dom = d then { x with captured := true } else x) } }.bltShow

/-- A capture that runs is cut short: some of its sections, at least the first, stand in the buffer (PARTIAL). How many is a free
value. -/
def State.cutCapture (s : State) : State :=
  match s.com.dumpBuf with
  | some x =>
    if !x.running then s
    else
      let (k, s) := s.fresh
      let n := 1 + Config.dumpWord k % x.sects.length
      ({ s with com := { s.com with dumpBuf := some { x with sects := x.sects.take n, running := false, cut := true } } }).captured x.iso.dom
  | none => s

/-- Common has left UP (R29, R57): the steward and its commands stop, every uncommitted shadow bank is discarded, and a running
capture is cut short. -/
def State.commonLost (s : State) : State :=
  let s := s.com.switches.foldl (fun (s : State) w => s.unbuild w.target w.regions) s
  let s := { s with com := { s.com with switches := [] } }
  let s := s.stageDrop
  let s := { s with com := { s.com with steward := false, fwOk := false, mb0 := none, mb1 := none, converge := none, rollIn := none, verified := [] } }
  (s.cutCapture).dropPairs (fun k => decide (k / 2 = 2))

/-- What the loss of a domain does to the rest. -/
def State.domLost (s : State) (d : Dom) : State :=
  match d with
  | .lane l => s.laneLost l
  | .plane p => s.planeLost p
  | .common => s.commonLost
  | .inkwell => s

/-! Isolation. -/

/-- Can a cause of Table 20.2 isolate a domain? -/
def causeOf (cause : Nat) (d : Dom) : Bool :=
  match d with
  | .lane _ => decide (cause ∈ [1, 2, 3, 4, 5, 7, 8, 9])
  | .plane _ => decide (cause ∈ [4, 5, 7, 8, 9])
  | .common => decide (cause ∈ [5, 6, 7, 8])
  | .inkwell => false

/-- The isolations of a domain within the 600 s up to now. -/
def State.isolatedOften (s : State) (d : Dom) : Nat := (s.com.history.filter (fun e => decide (e.1 = d))).length

/-- The fourth isolation within 600 s: the domain is LIMITED and RESTART_HELD is recorded; Common stays OFF (R440). -/
def State.limit (s : State) (d : Dom) : State :=
  let n := s.isolatedOften d
  if n < 4 then s
  else
    match d with
    | .common => s.setDom .common .off
    | _ =>
      let b := domBltBit d
      (s.setFld .blt F.BLT_STATUS_LIMITED (bitsPut (s.fld .blt F.BLT_STATUS_LIMITED) b b 1)).bltEvent 4 (domSrc d) n

/-- A memory error found in a domain, the last 256 of which a dump holds (Table 20.4). -/
def State.memError (s : State) (d : Dom) (addr : Nat) : State :=
  let own := s.com.memErr.filter (fun e => decide (e.1 = d))
  let drop := if own.length < 256 then s.com.memErr else (s.com.memErr.erase (own.headD (d, 0, 0)))
  { s with com := { s.com with memErr := drop ++ [(d, s.evTime d, addr)] } }

/-- What an isolated Common leaves for its new steward to write (R439). -/
def State.retain (s : State) (x : Isolation) : State :=
  let (k, s) := s.fresh
  { s with com := { s.com with retained := some ⟨x, s.dumpSects x k, false, true, false⟩ } }

/-- A domain is isolated (R436): its state, DOMAIN_FATAL, what its loss does, the count of R440, and its place in the order of
capture. -/
def State.isolate (s : State) (d : Dom) (cause detail addr : Nat) : State :=
  if !s.up d || !causeOf cause d then s
  else
    let others := [Dom.plane .a, .plane .b, .lane .l0, .lane .l1, .common].any (fun x => decide (s.domSt x = .isolated))
    let status := (s.rd .cfg .CFG_DOMAIN_STATUS).toNat / 2 ^ 16 * 2 ^ 16 + s.domWord
    let x : Isolation := ⟨d, cause, detail, addr, s.evTime d, status, others, s.real, false⟩
    let s := if cause ∈ [1, 2, 4] then s.memError d addr else s
    let s := s.setDom d .isolated
    let s := s.bltEvent 0 (domSrc d) (cause * 2 ^ 24 + detail % 2 ^ 24)
    let recent := s.com.history.filter (fun e => decide (s.real ≤ e.2 + 600 * sec))
    let s := { s with com := { s.com with history := recent ++ [(d, s.real)] } }
    let s := (s.limit d).domLost d
    let s :=
      if d = .common then s.retain x
      else { s with com := { s.com with isos := s.com.isos ++ [x] } }
    s.captureNext.bltShow

/-- The domains of a BLT_CTRL mask, in the order of its bits. -/
def maskDoms (m : Nat) : List Dom := [Dom.plane .a, .plane .b, .lane .l0, .lane .l1].filter (fun d => bitAt m (domBltBit d))

/-- BLT_CTRL.ISOLATE (R436, R449): refused when it would leave no lane or no plane UP. -/
def State.isolateCmd (s : State) (m : Nat) : State :=
  let ds := (maskDoms m).filter s.up
  let leaves := fun (a b : Dom) => (ds.contains a || ds.contains b) && !((s.up a && !ds.contains a) || (s.up b && !ds.contains b))
  if leaves (.plane .a) (.plane .b) || leaves (.lane .l0) (.lane .l1) then s
  else ds.foldl (fun (s : State) d => s.isolate d 9 0 0) s

/-- BLT_CTRL.RESTART (R438, R440): releases the domains that are ISOLATED and captured, and clears their LIMITED bit. -/
def State.restartCmd (s : State) (m : Nat) : State :=
  (maskDoms m).foldl (fun (s : State) d =>
    if s.domSt d = .isolated && s.com.isos.any (fun x => decide (x.dom = d) && x.captured) then
      let b := domBltBit d
      (s.setFld .blt F.BLT_STATUS_LIMITED (bitsPut (s.fld .blt F.BLT_STATUS_LIMITED) b b 0)).release d
    else s) s

/-! Restart of Common. -/

/-- Common restarts (R418, R439): its registers are reset; the dump buffer and the state kept of an isolated Common stay. -/
def State.commonRestarts (s : State) : State := (s.resetCommon).setDom .common .restarting

/-- The new steward writes what was kept of an isolated Common, with RETAINED, before it serves any command; a dump that is still
in the buffer goes first (R439). -/
def State.retainedWrite (s : State) : State :=
  match s.com.retained with
  | none => s
  | some x =>
    let s := s.dumpWrite
    ({ s with com := { s.com with dumpBuf := some x, retained := none } }).dumpWrite

/-! The active image. -/

/-- Check an image bank and write the shadow banks of the given targets: a status, and the state with their commits waiting
for the boundary. -/
def State.bootFrom (s : State) (src : ImgSrc) (on : List Nat) : Nat × State :=
  let r := s.imageCheck src (bankSize 1) on
  if r.code ≠ stOK then (r.code, r.st)
  else
    let x := r.img
    let ts := (r.st.upTargets x.regions).filter on.contains
    let q := r.st.buildAll true x.regions ((r.st.judged x.isPartial x.regions).filter on.contains)
    if q.1 ≠ stOK then (q.1, r.st.keepCoef q.2)
    else
      let w := ts.map (fun t => (⟨t, x.regions, !x.isPartial, x.imageId, x.secVer, none⟩ : Switch))
      (stOK, { q.2 with com := { q.2.com with switches := q.2.com.switches ++ w } })

/-- A bank fails when the checks fail on both devices (R53): what FLASH0 gives by R50 is tried first, then FLASH1 alone. -/
def State.bootBank (s : State) (b : Nat) (on : List Nat) : Nat × State :=
  let r := s.bootFrom (.bank b) on
  if r.1 = stOK then r else r.2.bootFrom (.flash1 b) on

/-- The steward loads the active image into targets, from the other bank when the active one fails; when both fail the loader
is FAILED (R53, R425, R439). -/
def State.bootLoad (s : State) (on : List Nat) : State :=
  if !s.up .common || !s.com.steward || on.isEmpty then s
  else
    let idle := fun (s : State) => if s.com.staged.isNone && s.com.fetch.isNone && s.com.stageWait.isNone then s.loader 0 stOK else s
    let r := s.bootBank (s.bankOf 1) on
    if r.1 = stOK then idle r.2
    else
      let q := r.2.bootBank (1 - s.bankOf 1) on
      if q.1 = stOK then idle q.2 else q.2.loader 5 q.1

/-! Coming UP. -/

/-- A plane comes UP (R131, R439). -/
def State.planeComesUp (s : State) (p : Plane) : State :=
  let o := p.other
  let s := s.setDom (.plane p) .up
  let s :=
    if s.planeUp o then
      let s := s.setOwner (s.actOwner o)
      if s.pins.ipUp then s else s.setIpDown true
    else if s.cfgOwner p = p then s.setOwner p
    else s.takeOver p
  (((s.lanesFollow).selectSources).ppsSettle).bootLoad [2 + p.idx]

/-- A lane comes UP: rolled out when the other lane is UP and has handed over, else present (R425); its key store is loaded
(R404), its copy follows a plane from now on (R74), each engine records FORCE_LANE_RESET (R271), and the steward loads the active image. -/
def State.laneComesUp (s : State) (l : Lane) : State :=
  let o := l.other
  let s := s.setDom (.lane l) .up
  let s := s.setOut l (s.laneUp o && s.handed o)
  let s := s.setFld (.lcfg l) F.CFG_TIME_FOLLOW_HOLDOVER 1
  let s := if s.com.steward then s.keyLoad l else s
  let s := (List.range 32).foldl (fun (s : State) k => s.event (.lane l) (evCode bkSCR 2 3) k 0) s
  ((s.laneFollow l).tripShow).bootLoad [l.idx]

/-- Common comes UP: what the steward owes is recorded (R439). -/
def State.commonComesUp (s : State) : State :=
  let s := s.setDom .common .up
  let owed := s.com.owed
  let s := { s with com := { s.com with owed := [], upAt := s.real } }
  (owed.foldl (fun (s : State) e => s.bltEvent e.1 e.2.1 e.2.2) s).bltShow

end Sys2Proof.Machine
end

