-- ==== Sys2Proof/Machine/Boot.lean ====
section
/-!
DEFINITION. Power-on, reset pins and the start of the steward ("Bring-up and live update": R415, R418, R419; R31, R51 to R53,
R398), and the early protection service: arming, an element's firing, and handover (R421, R422, R424).
-/

namespace Sys2Proof.Machine
open Sys2Proof

/-! Reset pins. -/

/-- Is an address in the register pages of the vault (INK_, EVR_, KEY_)? -/
def vaultAddr (a : Nat) : Bool := decide (commonBase + 0x300000 ≤ a ∧ a < commonBase + 0x600000)

/-- PORST_N goes low: every domain but Inkwell is OFF and in reset (R31). The octets of lane memory and flash stay, and so do the
levels of the I/O banks' supplies. -/
def State.porst (s : State) : State :=
  { s with
    regs := s.regs.filter (fun e => vaultAddr e.1)
    shreg := []
    dom := ⟨.off, .off, .off, .off, .off, s.dom.inkwell⟩
    pairQ := []
    pa := .empty, pb := .empty, l0 := .empty, l1 := .empty
    com := { CommonSt.empty with lowBanks := s.com.lowBanks, memErr := [] }
    pins := { s.pins with porst := false, trip := [] } }

/-- The Common boot logic reads the boot table (R419). -/
def State.bootRead (s : State) : State :=
  let pick := if s.up .inkwell then bootPick s.ink else none
  let old := (s.rd .cfg .CFG_BOOT_STATUS).toNat
  let s :=
    match pick with
    | some (k, b) =>
      let s := (s.setFld .cfg F.CFG_BOOT_STATUS_N_ELEM (octF b E.T19_2_N_ELEM)).setFld .cfg F.CFG_BOOT_STATUS_N_STREAM (octF b E.T19_2_N_STREAM)
      let s := (s.setFld .cfg F.CFG_BOOT_STATUS_TRUNC (octF b E.T19_2_TRUNC)).setFld .cfg F.CFG_BOOT_STATUS_COPY k
      { s with com := { s.com with eps := some b } }
    | none => s.setBitEv .common .cfg F.CFG_BOOT_STATUS_NOTABLE bkCFG 3 0
  if (s.rd .cfg .CFG_BOOT_STATUS).toNat = old then s else s.setBit .cfg F.CFG_BOOT_STATUS_CHANGE

/-- Boot table copies that meet an uncorrectable error are invalid from then on, and counted (R419, R434). -/
def State.bootLost (s : State) (ue : Nat) : State :=
  if !s.up .inkwell then s
  else
    let s := if bitAt ue 0 then ({ s with ink := { s.ink with boot0 := [] } }).countUnc .inkwell else s
    if bitAt ue 1 then ({ s with ink := { s.ink with boot1 := [] } }).countUnc .inkwell else s

/-- PORST_N_ASSERT: PORST_N goes low (R31). -/
def execPorstNAssert (s : State) : Host.Outcome State Fault Refusal := ok s.porst

/-- PORST_N_RELEASE: every domain but Inkwell leaves reset, INK_PCYC counts (R383), and the boot table is read (R415, R419). Common
is UP with its boot logic; the planes and lanes come UP by DOMAIN_UP. Bit c of `ue` says that copy c of the boot table meets an
uncorrectable error: it is lost, and counted (R434). With bank VIO_F low the ball reads 0 and stays asserted (R453). -/
def execPorstNRelease (ue : Fin 4) (s : State) : Host.Outcome State Fault Refusal :=
  if s.pins.porst || s.com.lowBanks.contains 5 then ok s
  else
    let s := { s with pins := { s.pins with porst := true } }
    let s := if s.up .inkwell then s.bump .ink F.INK_PCYC_COUNT else s
    let s := s.setDoms ⟨.restarting, .restarting, .restarting, .restarting, .up, s.dom.inkwell⟩
    let s := { s with com := { s.com with upAt := s.real } }
    ok (s.bootLost ue).bootRead.bltShow

/-- WARMRST_N: low for `n` ns; for at least 1 µs it restarts Common and nothing else (R418); at most 0.2 µs is ignored, and what lies
between may act or be ignored, by a free value (R456). -/
def execWarmrstN (n : Nat) (s : State) : Host.Outcome State Fault Refusal :=
  let s := s.elapse (n * ns)
  let (k, s) := if n ≤ 200 ∨ 1000 ≤ n then (0, s) else s.fresh
  if n ≤ 200 ∨ (n < 1000 ∧ !Config.pulseActs k) ∨ s.domSt .common = .off then ok s
  else
    let was := s.up .common
    let s := s.setDom .common .restarting
    ok (if was then s.commonLost.resetCommon else s.commonRestarts)

/-! The steward. -/

/-- FIRMWARE_VERIFY: the boot logic verifies the active firmware bank before it starts the steward; a bank that fails is handled as
a failed trial; when both fail Common is lost (R52, R398). -/
def execFirmwareVerify (s : State) : Host.Outcome State Fault Refusal :=
  if !s.up .common || s.com.fwOk then ok s
  else
    let run := fun (s : State) (v : Nat) => { s with com := { s.com with fwOk := true, fwVer := v } }
    let s := s.trialStart 0
    let r := s.fwVerify (s.bankOf 0)
    if r.1.1 = stOK then ok (run r.2 r.1.2)
    else
      let s := r.2.fallBack 0
      let q := s.fwVerify (s.bankOf 0)
      if q.1.1 = stOK then ok (run q.2 q.1.2) else ok ((q.2.setDom .common .off).commonLost)

/-- STEWARD_START: the steward runs: what was kept of an isolated Common is written (R439), an interrupted zeroisation or clear is
finished (R410, R392), the descriptors are read (R51), an image bank on trial counts its start (R52), the lanes' key stores are loaded, and the active image is loaded into every target
that is UP and has no active region (R53, R415). -/
def execStewardStart (corr : Option Dom) (s : State) : Host.Outcome State Fault Refusal :=
  if !s.up .common || !s.com.fwOk || s.com.steward then ok s
  else
    let s := { s with com := { s.com with steward := true, verified := [] } }
    let s := match corr with
      | some d => s.eccCorr d true
      | none => s
    let s := ((s.retainedWrite).keyStart.evrClearEnd).showBank
    let s := s.trialStart 1
    let s := s.upLanes.foldl (fun (s : State) l => s.keyLoad l) s
    let bare := [0, 1, 2, 3].filter (fun t => s.up (targetDom t) && !s.com.active.any (fun a => decide (a.target = t)))
    ok ((s.bootLoad bare).captureNext).bltShow

/-! The early protection service. -/

/-- A plane sets its ports from the boot table and installs its stream entries (R421). -/
def State.epsPlane (s : State) (p : Plane) (b : List Byte) : State :=
  if !s.planeUp p || (s.plane p).switched || !(s.plane p).eps.isEmpty then s
  else
    let s := s.setPlane p { s.plane p with eps := b }
    let s := (List.range 11).foldl (fun (s : State) i =>
      let a := 0x40 + 8 * (11 * p.idx + i)
      let s := s.writePrtCfg p i (BitVec.ofNat 32 (octF b ⟨a, 31, 0⟩))
      s.regStore (.prt p i) .PRT_MAXLEN 0 (BitVec.ofNat 32 (octF b ⟨a + 4, 31, 0⟩))) s
    (List.range (octF b E.T19_2_N_STREAM)).foldl (fun (s : State) n =>
      let f := fun (e : EFld) => octF b ⟨0x200 + 64 * n + e.off, e.hi, e.lo⟩
      let a := strAddr p n
      let s := ((s.setEnt a E.T5_2_DMAC (f E.T6_2_DMAC)).setEnt a E.T5_2_VID (f E.T6_2_VID)).setEnt a E.T5_2_VALID 1
      (s.setEnt a E.T5_2_EGRESS 0x1800).setEnt a E.T5_2_CUT_OK 0) s

/-- A lane takes its copy of the boot table. -/
def State.epsLane (s : State) (l : Lane) (b : List Byte) : State :=
  let s := s.clearRange (epsBase l) 0x100000
  let s := s.putRange (epsBase l) ((List.range 1920).map (fun i => (4 * i, BitVec.ofNat 32 (leNat ((b.drop (4 * i)).take 4)))))
  s.setLane l { s.lane l with epsQ := [], epsPin := [], epsLeft := none }

/-- EPS_ARM: the EPS of a lane arms (R421, R425, R433): the planes that do not run yet take the table, and the lane's elements. -/
def execEpsArm (l : Lane) (s : State) : Host.Outcome State Fault Refusal :=
  match s.com.eps with
  | none => ok s
  | some b =>
    if !s.up .common || !s.laneUp l || s.armed l || s.rolledOut l then ok s
    else
      let s := ((s.epsPlane .a b).epsPlane .b b).epsLane l b
      let f := match l with
        | .l0 => F.CFG_BOOT_STATUS_ARMED0
        | .l1 => F.CFG_BOOT_STATUS_ARMED1
      ok (((s.setBit .cfg F.CFG_BOOT_STATUS_CHANGE).setBitEv .common .cfg f bkCFG 3 0).tripShow)

/-- One EPS firing: INST on the oldest token of an element (R233, R422). -/
def State.epsFire (s : State) (l : Lane) (e : Nat) (t : Tok) : State :=
  let r := epsElemRec l e
  let prm := epsBase l + 0x1200 + 48 * e
  let last := s.ent r ⟨0, 15, 0⟩
  let x : OpIn := {
    p := fun f => s.ent prm f
    st := fun f => s.ent r f
    ext := fun _ _ => 0
    questOk := decide (s.ent (epsBase l + 48 * e) E.T19_2_QUEST_OK = 1)
    isLast := false
    ins := [t]
    dist := fwdDist (s.cntMod l t.stream) last t.key }
  let o := opInstF x
  let s := o.st.foldl (fun (s : State) fv => s.setEnt r fv.1 fv.2) (s.setEnt r ⟨0, 95, 0⟩ (s.keyOf l true t.key t.src))
  (s.setWin (r + 0xFC) (BitVec.ofNat 32 (b2n (bitAt o.w3 1)))).epsDrives l

/-- EPS_ELEMENT_FIRING: an EPS element runs on the oldest Speedwell value that waits for it, and the drives follow (R422). -/
def execEpsElementFiring (l : Lane) (e : Fin 64) (s : State) : Host.Outcome State Fault Refusal :=
  match (s.lane l).epsQ.find? (fun q => decide (q.1 = e.val)) with
  | none => ok s
  | some q =>
    if !s.epsRuns l then ok s
    else ok ((s.setLane l { s.lane l with epsQ := (s.lane l).epsQ.erase q }).epsFire l e.val q.2)

/-- HANDOVER: at the first grid instant at which the grid, the publications and the trip drives run and a PUBLISH region is active,
the lane begins to take its pins from the EPS (R424). -/
def execHandover (l : Lane) (s : State) : Host.Outcome State Fault Refusal :=
  if !s.epsRuns l || (s.lane l).epsLeft.isSome || !s.gridRun l || !s.bit (.pub l) F.PUB_CTRL_EN || !s.bit (.pub l) F.PUB_CTRL_TRIP_EN ||
      !s.com.active.any (fun a => decide (a.target = l.idx ∧ a.type = 8)) then ok s
  else
    let s := s.toNextInstant l
    ok ((s.setLane l { s.lane l with epsLeft := some [] }).epsLeave l)

end Sys2Proof.Machine
end

