-- ==== Sys2Proof/Machine/Bus.lean ====
section
/-!
DEFINITION. Register accesses: the address map as each initiator sees it (R32 to R36), refused accesses and their capture (R7,
R435), the instance windows (R342, R343), what a write of a register starts and what a read clears, paired writes (R37 to R40),
the broadcast window (R41, R42), and the fences (R13).
-/

namespace Sys2Proof.Machine
open Sys2Proof

/-- The next state of an outcome, or the state before it. -/
def runCmd (o : Host.Outcome State Fault Refusal) (s : State) : State :=
  match o with
  | .next t => t
  | _ => s

/-! Writes. -/

/-- The registers of page 64 that the manager does not have. -/
def mgrHole (pg : Page) (r : RegId) : Bool :=
  match pg with
  | .insPage _ o => decide (o = 64) && decide (r ∈ [.INS_CMD, .INS_AT_SEC, .INS_AT_IDX, .INS_CMD_GO, .INS_CMD_STATUS, .INS_STATE, .INS_DRAIN_LIMIT])
  | _ => false

/-- A write of a Common register: the mailbox, BLT_CTRL and the management MACs act at once (R58, R59, R109, R436, R438). -/
def State.writeCommon (s : State) (pg : Page) (r : RegId) (k : Nat) (data : Word) : State :=
  let v := data.toNat
  match pg with
  | .stw c =>
    match r with
    | .STW_GO => if bitAt v 0 then s.mboxSubmit c else s
    | .STW_CANCEL => if bitAt v 0 then s.mboxCancel c else s
    | _ => s.regStore pg r k data
  | .blt =>
    match r with
    | .BLT_CTRL => (s.restartCmd (bitsOf v 7 4)).isolateCmd (bitsOf v 3 0)
    | .BLT_STATUS => (s.regStore pg r k data)
    | _ => s.regStore pg r k data
  | .mg i =>
    match r with
    | .PRT_MG_TXBASE_HI => s.writeMgBase i true true data
    | .PRT_MG_TXBASE_LO => s.writeMgBase i true false data
    | .PRT_MG_RXBASE_HI => s.writeMgBase i false true data
    | .PRT_MG_RXBASE_LO => s.writeMgBase i false false data
    | .PRT_MG_TX_KICK => if bitAt v 0 then runCmd (execMgTxKick (Fin.ofNat 2 i) s) s else s
    | .PRT_CNT_CLR => if bitAt v 0 then s.prtClr .a (11 + i) else s
    | _ => s.regStore pg r k data
  | _ => s.regStore pg r k data

/-- A write of a plane register. -/
def State.writePlane (s : State) (p : Plane) (pg : Page) (r : RegId) (k : Nat) (data : Word) : State :=
  let v := data.toNat
  match r with
  | .TIM_CTRL => (s.regStore pg r k data).selectSources
  | .PSW_CTRL =>
    let was := s.cfgOwner p
    let s := s.regStore pg r k data
    if s.cfgOwner p = was then s else s.ownerNamed
  | .TIM_DOM_CFG => (s.regStore pg r k data).slotAgain p k
  | .PRT_CNT_CLR =>
    match pg with
    | .prt _ i => if bitAt v 0 then (if i < 11 then s.prtClr p i else s.clrRow pg .PRT_CNT 26) else s
    | _ => s
  | .PSW_CNT_CLR => if bitAt v 0 then s.pswClr p else s
  | .PSW_HCAP_CTRL =>
    let was := s.bit pg F.PSW_HCAP_CTRL_EN
    let s := s.regStore pg r k data
    if !was && s.bit pg F.PSW_HCAP_CTRL_EN then s.hcapEnable p else s
  | _ => s.regStore pg r k data

/-- The EN bit of a control register kept as it is in the data of a write. -/
def State.keepFld (s : State) (pg : Page) (f : Fld) (data : Word) : Word :=
  BitVec.ofNat 32 (bitsPut data.toNat f.hi f.lo (s.fld pg f))

/-- A write of an owner control page (R345, R349, R355, R356). -/
def State.writeIns (s : State) (l : Lane) (o : Nat) (pg : Page) (r : RegId) (k : Nat) (data : Word) : State :=
  let v := data.toNat
  match r with
  | .INS_CMD_GO => if bitAt v 0 then s.insGo l o else s
  | .INS_AT_IDX => s.insAtIdx l o v
  | .INS_DRAIN_LIMIT =>
    if v < s.ent (insDesc l o) E.T15_1_DRAIN_MIN ∨ 10000000 < v then s else s.regStore pg r k data
  | .INS_VINT_INJECT => s.vintInject l o (v % 256)
  | .INS_VINT_PEND | .INS_VINT_EN | .INS_VINT_ROUTE => (s.regStore pg r k data).vintSum l o
  | .INS_OCNT_CLR => if bitAt v 0 then s.clrRow pg .INS_OCNT 5 else s
  | _ => s.regStore pg r k data

/-- A write of Quill's registers (R201, R202, R206). -/
def State.writeQuill (s : State) (l : Lane) (pg : Page) (r : RegId) (k : Nat) (data : Word) : State :=
  let v := data.toNat
  match r with
  | .QUL_CTRL => (s.regStore pg r k data).refresh l
  | .QUL_HIST_SEL => runCmd (execHistSelect l (bitAt v 31) (Fin.ofNat 256 v) s) s
  | .QUL_GRP_CTL =>
    let g := Fin.ofNat 256 k
    let s := runCmd (execGroupWeightWrite l g (BitVec.ofNat 8 v) s) s
    if bitAt v 8 then runCmd (execGroupIntakeOpen l g s) s
    else if s.bit pg F.QUL_GRP_CTL_INTAKE k then runCmd (execGroupIntakeClose l g s) s
    else s
  | .QUL_CNT_CLR => if bitAt v 0 then runCmd (execQulCntClr l s) s else s
  | _ => s.regStore pg r k data

/-- A write of the field-bus registers (R370, R372, R373). -/
def State.writeFbs (s : State) (l : Lane) (pg : Page) (r : RegId) (k : Nat) (data : Word) : State :=
  let v := data.toNat
  match pg with
  | .fbsObj _ d =>
    match r with
    | .FBS_OBJ_CMD =>
      let s := if bitAt v 0 then s.fboSend l d else s
      let s := if bitAt v 1 then s.fboResume l d else s
      if bitAt v 2 then s.fboAbort l d else s
    | .FBS_OBJ_FLAGS =>
      let s := s.regStore pg r k data
      let s := if bitAt v 0 then s.setEnt (fboRec l d) E.T16_4_NEW 0 else s
      if bitAt v 1 then s.setEnt (fboRec l d) E.T16_4_LOST 0 else s
    | _ => s.regStore pg r k data
  | .fbsCtl _ i =>
    match r with
    | .FBS_CTRL => s.fbCtrl (2 * l.idx + i) data
    | .FBS_NBT | .FBS_DBT => if s.bit pg F.FBS_CTRL_EN then s else s.regStore pg r k data
    | .FBS_CNT_CLR => if bitAt v 0 then s.clrRow pg .FBS_CNT 14 else s
    | _ => s.regStore pg r k data
  | _ => s.regStore pg r k data

/-- A write of a check-value unit's registers (R304, R305). -/
def State.writeChk (s : State) (l : Lane) (u : Nat) (pg : Page) (r : RegId) (k : Nat) (data : Word) : State :=
  match r with
  | .CHK_GO => if bitAt data.toNat 0 then s.chkGo l u else s
  | .CHK_VALUE_LO | .CHK_VALUE_HI | .CHK_ALIVE =>
    if s.bit pg F.CHK_STATUS_BUSY then s.setBit pg F.CHK_STATUS_WBUSY else s.regStore pg r k data
  | _ => s.regStore pg r k data

/-- A write of the recorder's registers (R327 to R332). -/
def State.writeDrc (s : State) (l : Lane) (pg : Page) (r : RegId) (k : Nat) (data : Word) : State :=
  let v := data.toNat
  match r with
  | .DRC_CTRL =>
    let s := s.regStore pg r k (s.keepFld pg F.DRC_CTRL_EN data)
    if bitAt v 0 = s.bit pg F.DRC_CTRL_EN then s else s.drcEn l (bitAt v 0)
  | .DRC_RELEASE => s.drcRelease l (v % 256)
  | .DRC_RESUME => if bitAt v 0 then s.drcResume l else s
  | .DRC_MAN_GO => if bitAt v 0 then s.drcManGo l else s
  | .DRC_CNT_CLR => if bitAt v 0 then s.clrRow pg .DRC_CNT 8 else s
  | _ => s.regStore pg r k data

/-- A write of the map's registers (R245, R341, R472). -/
def State.writeMap (s : State) (l : Lane) (pg : Page) (r : RegId) (k : Nat) (data : Word) : State :=
  let v := data.toNat
  match r with
  | .MAP_CTRL =>
    let s := s.regStore pg r k (s.keepFld pg F.MAP_CTRL_EN data)
    if bitAt v 24 then s.mapEnable l else s.setFld pg F.MAP_CTRL_EN 0
  | .MAP_REQ_GO => if bitAt v 0 then s.reqGo l 64 else s
  | .MAP_REQ_FAULT => if bitAt v 0 then s.wr pg r k 0 else s
  | .MAP_CNT_CLR => if bitAt v 0 then s.clrRow pg .MAP_CNT 17 else s
  | _ => s.regStore pg r k data

/-- A write of the registers of a lane's other blocks. -/
def State.writeLane (s : State) (l : Lane) (pg : Page) (r : RegId) (k : Nat) (data : Word) : State :=
  let v := data.toNat
  match pg with
  | .lcfg _ => if r = .CFG_TIME_FOLLOW then (s.regStore pg r k data).laneFollow l else s.regStore pg r k data
  | .ing _ =>
    match r with
    | .ING_CTRL =>
      let s := s.regStore pg r k data
      if s.bit pg F.ING_CTRL_EN then s else s.setFld pg F.ING_STATUS_GRID_RUN 0
    | .ING_CNT_CLR => if bitAt v 0 then runCmd (execIngCntClr l s) s else s
    | _ => s.regStore pg r k data
  | .flt _ =>
    match r with
    | .FLT_CTRL =>
      let s := s.regStore pg r k (s.keepFld pg F.FLT_CTRL_EN data)
      if bitAt v 0 then runCmd (execFilterEnable l s) s else s.setFld pg F.FLT_CTRL_EN 0
    | .FLT_CNT_CLR => if bitAt v 0 then runCmd (execFltCntClr l s) s else s
    | _ => s.regStore pg r k data
  | .fltEng _ e => if r = .FLT_SWAP_GO then (if bitAt v 0 then runCmd (execSwapPost l (Fin.ofNat 16 e) s) s else s) else s.regStore pg r k data
  | .qul _ => s.writeQuill l pg r k data
  | .ops _ => if r = .OPS_CNT_CLR then (if bitAt v 0 then s.clrRow pg .OPS_CNT 6 else s) else s.regStore pg r k data
  | .map _ => s.writeMap l pg r k data
  | .pub _ =>
    match r with
    | .PUB_CTRL => s.pubCtrl l (bitAt v 0) (bitAt v 1) (bitAt v 2)
    | .PUB_CNT_CLR => if bitAt v 0 then s.clrRow pg .PUB_CNT 7 else s
    | _ => s.regStore pg r k data
  | .chk _ u => s.writeChk l u pg r k data
  | .drc _ => s.writeDrc l pg r k data
  | .ins _ =>
    let s := s.regStore pg r k data
    if r = .INS_DIRTY_CTL && bitAt v 1 then s.epochGo l else s
  | .insPage _ o => s.writeIns l o pg r k data
  | .fbs _ | .fbsCtl _ _ | .fbsObj _ _ => s.writeFbs l pg r k data
  | .scr _ e =>
    match r with
    | .SCR_CMD_GO => if bitAt v 0 then s.scrGo l e else s
    | .SCR_CNT_CLR => if bitAt v 0 then s.clrRow pg .SCR_CNT 7 else s
    | _ => s.regStore pg r k data
  | _ => s.regStore pg r k data

/-- The domain that holds a page. -/
def Page.dom : Page → Dom
  | .prt p _ | .psw p | .pswPort p _ | .tim p | .timPort p _ => .plane p
  | .lcfg l | .ing l | .flt l | .fltEng l _ | .qul l | .ops l | .map l | .pub l | .chk l _ | .drc l | .ins l | .insPage l _
  | .fbs l | .fbsCtl l _ | .fbsObj l _ | .scr l _ => .lane l
  | _ => .common

/-- A write reaches a register (R8): it is stored by the access codes, and starts what the register starts. -/
def State.regWrite (s : State) (pg : Page) (r : RegId) (k : Nat) (data : Word) : State :=
  if mgrHole pg r then s
  else
    match pg.dom with
    | .plane p => s.writePlane p pg r k data
    | .lane l => s.writeLane l pg r k data
    | _ => s.writeCommon pg r k data

/-- A write reaches a word of a table window: active windows ignore it. -/
def State.winWrite (s : State) (pg : Page) (w : Win) (off : Nat) (data : Word) : State :=
  match w, pg with
  | .fltCoef, .flt l =>
    runCmd (execCoefficientWrite l (Fin.ofNat 16 (off / 0x20000)) (Fin.ofNat 8 (off / 0x4000)) (Fin.ofNat 4096 (off % 0x4000 / 4)) data s) s
  | _, _ =>
    let a := winAddr pg w off
    match w.info.acc with
    | .rw => s.setWin a data
    | .w1c => s.setWin a (s.win a &&& ~~~data)
    | _ => s

/-- A write reaches what stands at an address. -/
def State.tgtWrite (s : State) (t : Tgt) (data : Word) : State :=
  match t with
  | .reg pg r k => s.regWrite pg r k data
  | .win pg w off => s.winWrite pg w off data
  | .none => s

/-! Reads. -/

/-- Clear the RC fields of a register that a read returned (R10); PSW_BUF_LOW takes the cells free now. -/
def State.regClear (s : State) (pg : Page) (r : RegId) (k : Nat) : State :=
  match r with
  | .PSW_BUF_LOW => s.wr pg r k (s.rd pg .PSW_BUF_FREE)
  | _ => (r.fields.filter (fun f => decide (f.acc = .rc))).foldl (fun (s : State) f => s.setFld pg f 0 k) s

/-- The HI word of a byte counter as latched, and its latching (R111). -/
def State.cntHi (s : State) (pg : Page) (tx : Bool) : Nat :=
  let m := match pg with
    | .prt p i => (s.plane p).port i
    | .mg i => s.mac .a (11 + i)
    | _ => .empty
  if tx then m.txHi else m.rxHi
def State.latchHi (s : State) (pg : Page) (tx : Bool) (v : Nat) : State :=
  let put := fun (m : PortMac) => if tx then { m with txHi := v } else { m with rxHi := v }
  match pg with
  | .prt p i => s.setPlane p ((s.plane p).setPort i (put ((s.plane p).port i)))
  | .mg i => s.setMac .a (11 + i) (put (s.mac .a (11 + i)))
  | _ => s

/-- A read of a register: its value in `rdata`, with what reading it does; `clear` is false for the unpaired reads of R40. -/
def State.regRead (s : State) (pg : Page) (r : RegId) (k : Nat) (clear : Bool) : State :=
  let plain :=
    let t := if clear then s.regClear pg r k else s
    { t with rdata := s.regView pg r k }
  if mgrHole pg r then { s with rdata := 0 }
  else
    match r, pg with
    | .TIM_NOW_W0, .tim p => runCmd (execTimNowRead p s) s
    | .TIM_TXQ_ENT, .timPort p i => if k = 3 then runCmd (execTxqEntryRead p (Fin.ofNat 11 i) s) s else plain
    | .INK_VTIME_LO, _ =>
      { s with ink := { s.ink with latHi := s.vtSec / 2 ^ 32, latTick := s.vtTick }, rdata := s.regView pg r k }
    | .PRT_CNT, _ =>
      if k = 1 then { s.latchHi pg false (s.rd pg r 2).toNat with rdata := s.rd pg r 1 }
      else if k = 13 then { s.latchHi pg true (s.rd pg r 14).toNat with rdata := s.rd pg r 13 }
      else if k = 2 then { s with rdata := BitVec.ofNat 32 (s.cntHi pg false) }
      else if k = 14 then { s with rdata := BitVec.ofNat 32 (s.cntHi pg true) }
      else plain
    | _, _ => plain

/-- A read of what stands at an address. -/
def State.tgtRead (s : State) (t : Tgt) (clear : Bool) : State :=
  match t with
  | .reg pg r k => s.regRead pg r k clear
  | .win pg w off => { s with rdata := s.winView pg w off }
  | .none => { s with rdata := 0 }

/-! The address map. -/

/-- What an address names on the absolute map (Table 1.6). -/
inductive Place where
  | mem (l : Lane) (a : Nat)
  | common (o : Nat)
  | plane (p : Plane) (o : Nat)
  | laneReg (l : Lane) (o : Nat)
  | bcast (o : Nat)
  | iwin (n o : Nat)
  | reserved
  deriving DecidableEq, Repr

/-- Table 1.6. -/
def placeAt (a : Nat) : Place :=
  let within := fun (b n : Nat) => decide (b ≤ a ∧ a < b + n)
  if a < laneMemSize then .mem .l0 a
  else if within laneMemSize laneMemSize then .mem .l1 (a - laneMemSize)
  else if within commonBase 0x1000000 then .common (a - commonBase)
  else if within (planeBase .a) 0x1000000 then .plane .a (a - planeBase .a)
  else if within (planeBase .b) 0x1000000 then .plane .b (a - planeBase .b)
  else if within (laneBase .l0) 0x10000000 then .laneReg .l0 (a - laneBase .l0)
  else if within (laneBase .l1) 0x10000000 then .laneReg .l1 (a - laneBase .l1)
  else if within 0x001030000000 0x10000000 then .bcast (a - 0x001030000000)
  else if within 0x001100000000 0x400000 then .iwin ((a - 0x001100000000) / 0x10000) ((a - 0x001100000000) % 0x10000)
  else .reserved

/-- REASON of a refused access. -/
inductive Why where
  | range | size | view
  deriving DecidableEq, Repr

/-- Its code in BLT_ACC_STATUS and CFG_ACC_STATUS. -/
def Why.code : Why → Nat
  | .range => 0
  | .size => 1
  | .view => 2

/-- The number of an initiator in BLT_ACC_STATUS. -/
def initCode : Initiator → Nat
  | .steward => 0
  | .jtag => 1
  | .manager l => 2 + l.idx
  | .guest l _ => 2 + l.idx

/-- A refused access to Common or a plane is captured while VALID = 0 (R435). -/
def State.captureBlt (s : State) (i : Initiator) (wr : Bool) (y : Why) (a : Nat) : State :=
  if !s.up .common || s.bit .blt F.BLT_ACC_STATUS_VALID then s
  else
    let s := s.wr .blt .BLT_ACC_STATUS 0 (BitVec.ofNat 32 (2 ^ 31 + initCode i * 2 ^ 28 + b2n wr * 2 ^ 27 + y.code * 2 ^ 25))
    let s := s.wr .blt .BLT_ACC_ADDR_LO 0 (BitVec.ofNat 32 a)
    s.wr .blt .BLT_ACC_ADDR_HI 0 (BitVec.ofNat 32 (a / 2 ^ 32 % 2 ^ 16))

/-- A refused access of a core to its lane's own view is captured while VALID = 0 (R435). -/
def State.captureLane (s : State) (l : Lane) (wr : Bool) (y : Why) (off : Nat) : State :=
  if s.bit (.lcfg l) F.CFG_ACC_STATUS_VALID then s
  else s.wr (.lcfg l) .CFG_ACC_STATUS 0 (BitVec.ofNat 32 (2 ^ 31 + b2n wr * 2 ^ 30 + y.code * 2 ^ 28 + off % 2 ^ 28))

/-- Bits [39:12] of an address, as CFG_ACC_STATUS.OFFSET shows them. -/
def accOff (a : Nat) : Nat := bitsOf a 39 12

/-- Is an access naturally aligned and 32 bits wide (R7)? -/
def aligned (a size : Nat) : Bool := decide (size = 4 ∧ a % 4 = 0)

/-- Channel 1 of the mailbox is reached from JTAG only. -/
def hidden (i : Initiator) (t : Tgt) : Bool :=
  match t with
  | .reg (.stw 1) _ _ => decide (i ≠ .jtag)
  | _ => false

/-! Instance windows. -/

/-- Does a write through an instance window start work (R343)? -/
def State.startsWork (s : State) (pg : Page) (r : RegId) (v : Nat) : Bool :=
  match r with
  | .CHK_GO | .DRC_MAN_GO | .SCR_CMD_GO => bitAt v 0
  | .DRC_CTRL => bitAt v 0 && !s.bit pg F.DRC_CTRL_EN
  | .FBS_OBJ_CMD => bitAt v 0 || bitAt v 1 || bitAt v 2
  | _ => false

/-- A write at an offset of the window of instance n, in one lane (R342, R343, Table 15.3). -/
def State.iwinWrite (s : State) (l : Lane) (n o : Nat) (data : Word) : State :=
  let v := data.toNat
  match s.guestAt l n o with
  | .self => s
  | .req 0 => s.setWin (reqReg l n 0) (BitVec.ofNat 32 (v / 64 * 64))
  | .req 1 => s.setWin (reqReg l n 1) (BitVec.ofNat 32 (v % 2 ^ 16))
  | .req 2 => if bitAt v 0 then s.reqGo l n else s
  | .req _ => if bitAt v 0 then s.setWin (reqReg l n 3) 0 else s
  | .at_ true (.reg pg r k) => if s.startsWork pg r v && !s.ownerRuns l n then s.refused l n else s.regWrite pg r k data
  | .at_ _ _ => s.refused l n

/-- A read at an offset of the window of instance n, in one lane. -/
def State.iwinRead (s : State) (l : Lane) (n o : Nat) : State :=
  match s.guestAt l n o with
  | .self => { s with rdata := BitVec.ofNat 32 (n + 256 * s.insState l n) }
  | .req k => { s with rdata := if k = 2 then 0 else s.win (reqReg l n k) }
  | .at_ true (.reg pg r k) => s.regRead pg r k true
  | .at_ _ _ => { s.refused l n with rdata := 0 }

/-! Accesses of the steward and of JTAG. -/

/-- An access of the steward or JTAG that R7 or R32 refuses, if any. -/
def fabricWhy (a size : Nat) : Option Why :=
  let of_ := fun (o : Nat) (t : Tgt) => if !aligned o size then some Why.size else if t = .none then some Why.range else none
  match placeAt a with
  | .mem _ _ => none
  | .common o => of_ o (commonAt o)
  | .plane p o => of_ o (planeAt p o)
  | .laneReg l o => of_ o (laneAt l o)
  | .bcast o => of_ o (laneAt .l0 o)
  | .iwin _ o => if aligned o size then none else some .size
  | .reserved => some .range

/-- A write by the steward or JTAG (R41); a domain that is not UP takes none. -/
def State.fabricWrite (s : State) (i : Initiator) (a size : Nat) (data : Word) : State :=
  if !s.up .common then s
  else
    match fabricWhy a size with
    | some y => s.captureBlt i true y a
    | none =>
      match placeAt a with
      | .mem l o => if s.laneUp l && decide (o + size ≤ laneMemSize) then s.memWLog l 3 o (natLe size data.toNat) else s
      | .common o => if hidden i (commonAt o) then s else s.tgtWrite (commonAt o) data
      | .plane p o => if s.planeUp p then s.tgtWrite (planeAt p o) data else s
      | .laneReg l o => if s.laneUp l then s.tgtWrite (laneAt l o) data else s
      | .bcast o => s.upLanes.foldl (fun (s : State) l => s.tgtWrite (laneAt l o) data) s
      | .iwin n o => s.upLanes.foldl (fun (s : State) l => s.iwinWrite l n o data) s
      | .reserved => s

/-- A read of a window in every lane that is UP (R41, R42). -/
def State.windowRead (s : State) (iw : Bool) (off : Nat) (f : State → Lane → State) : State :=
  match s.upLanes with
  | [] => { s.setBit .cfg F.CFG_BCAST_STATUS_NOLANE with rdata := 0 }
  | [l] => f s l
  | _ =>
    let s := f s .l0
    let v0 := s.rdata
    let s := f s .l1
    let v1 := s.rdata
    let s := { s with rdata := v0 }
    if v0 = v1 then s
    else if s.bit .cfg F.CFG_BCAST_STATUS_MISMATCH then s
    else
      let s := s.setBit .cfg F.CFG_BCAST_STATUS_MISMATCH
      let s := s.wr .cfg .CFG_BCAST_ADDR 0 (BitVec.ofNat 32 (b2n iw * 2 ^ 28 + off % 2 ^ 28))
      (s.wr .cfg .CFG_BCAST_DATA0 0 v0).wr .cfg .CFG_BCAST_DATA1 0 v1

/-- A read by the steward or JTAG. -/
def State.fabricRead (s : State) (i : Initiator) (a size : Nat) : State :=
  let zero := fun (s : State) => { s with rdata := 0 }
  if !s.up .common then zero s
  else
    match fabricWhy a size with
    | some y => zero (s.captureBlt i false y a)
    | none =>
      match placeAt a with
      | .mem l o => { s with rdata := if s.laneUp l then BitVec.ofNat 32 (leNat (s.mem l o (min size 4))) else 0 }
      | .common o => if hidden i (commonAt o) then zero s else s.tgtRead (commonAt o) true
      | .plane p o => if s.planeUp p then s.tgtRead (planeAt p o) true else zero s
      | .laneReg l o => if s.laneUp l then s.tgtRead (laneAt l o) true else zero s
      | .bcast o => s.windowRead false o (fun s l => s.tgtRead (laneAt l o) true)
      | .iwin n o => s.windowRead true (0x10000 * n + o) (fun s l => s.iwinRead l n o)
      | .reserved => zero s

/-! Paired writes. -/

/-- The domain of a pairing target, and its number: 0 Plane A, 1 Plane B, 2 Common. -/
def pairDom : PairTarget → Dom
  | .planeA => .plane .a
  | .planeB => .plane .b
  | .common => .common
def pairIdx : PairTarget → Nat
  | .planeA => 0
  | .planeB => 1
  | .common => 2

/-- The pairing queue of a target and lane: its first 16 entries; what stands behind them is what stalled cores hold (R39). -/
def State.pairQ_ (s : State) (t : PairTarget) (l : Lane) : List PairEntry := assocGetD s.pairQ (2 * pairIdx t + l.idx) []

/-- Store a queue; a write that becomes its head waits from now. -/
def State.setPairQ (s : State) (t : PairTarget) (l : Lane) (q : List PairEntry) (newHead : Bool) : State :=
  let q := match q with
    | [] => []
    | e :: r => (if newHead then { e with at_ := s.real } else e) :: r
  { s with pairQ := assocPut s.pairQ (2 * pairIdx t + l.idx) q }

/-- The target performs a write (R37). -/
def State.pairPerform (s : State) (t : PairTarget) (e : PairEntry) : State :=
  if !s.up (pairDom t) then s
  else
    match placeAt e.addr with
    | .common o => if hidden (.manager .l0) (commonAt o) then s else s.tgtWrite (commonAt o) e.data
    | .plane p o => s.tgtWrite (planeAt p o) e.data
    | _ => s

/-- MISMATCH or TIMEOUT of a target in both lanes: one event, and vector 54 at the manager (R38, R355). -/
def State.pairFlag (s : State) (t : PairTarget) (timeout : Bool) : State :=
  let b := pairIdx t + 3 * b2n timeout
  let set := fun (s : State) l =>
    let w := (s.rd (.lcfg l) .CFG_PAIR_STATUS).toNat
    s.wr (.lcfg l) .CFG_PAIR_STATUS 0 (BitVec.ofNat 32 (bitsPut w b b 1))
  let s := set (set s .l0) .l1
  let s := s.evStatus (.lane .l0) bkCFG 2 b 0 (s.rd (.lcfg .l0) .CFG_PAIR_STATUS).toNat
  s.mgrVector 54

/-- The heads of the two queues of a target meet: equal ones are performed, different ones discard both queues (R37, R38). -/
def State.pairMatch (s : State) (t : PairTarget) : Nat → State
  | 0 => s
  | fuel + 1 =>
    match s.pairQ_ t .l0, s.pairQ_ t .l1 with
    | a :: p, b :: q =>
      if a.addr = b.addr ∧ a.data = b.data then
        (((s.setPairQ t .l0 p true).setPairQ t .l1 q true).pairPerform t a).pairMatch t fuel
      else
        (((s.setPairQ t .l0 ((a :: p).drop 16) true).setPairQ t .l1 ((b :: q).drop 16) true).pairFlag t false).pairMatch t fuel
    | _, _ => s

/-- A core's write enters its lane's queue, or takes effect at once while the other lane is not UP (R37, R39). -/
def State.pairEnter (s : State) (t : PairTarget) (l : Lane) (a : Nat) (data : Word) : State :=
  if !s.up (pairDom t) then s
  else if !s.laneUp l.other then s.pairPerform t ⟨a, data, 0⟩
  else
    let q := s.pairQ_ t l
    (s.setPairQ t l (q ++ [⟨a, data, s.real⟩]) q.isEmpty).pairMatch t (q.length + 1)

/-- The queues of a lane whose partner is not UP take effect in order (R39). -/
def State.settlePairs (s : State) : State :=
  let drain := fun (s : State) (t : PairTarget) (l : Lane) =>
    if s.laneUp l && !s.laneUp l.other && !(s.pairQ_ t l).isEmpty then
      (s.pairQ_ t l).foldl (fun (s : State) e => s.pairPerform t e) (s.setPairQ t l [] false)
    else s
  [PairTarget.planeA, .planeB, .common].foldl (fun (s : State) t => drain (drain s t .l0) t .l1) s

/-! Accesses of the application cores. -/

/-- What a core's access to an address of Lane l's view is: its place (R36), or why it is refused and the OFFSET captured in
the lane; refusals of Common and the planes are captured in the BLT_ block. -/
inductive CoreAcc where
  | to_ (p : Place)
  | refuseLane (y : Why) (off : Nat)
  | refuseBlt (y : Why)
  deriving DecidableEq, Repr

/-- The core's view (R36). -/
def coreAt (l : Lane) (a size : Nat) : CoreAcc :=
  match placeAt a with
  | .mem .l0 o => .to_ (.mem l o)
  | .mem .l1 _ => .refuseLane .view (accOff a)
  | .laneReg _ o => .refuseLane .view o
  | .bcast o =>
    if !aligned o size then .refuseLane .size o
    else if laneAt l o = .none then .refuseLane .range o
    else .to_ (.laneReg l o)
  | .iwin n o => if aligned o size then .to_ (.iwin n o) else .refuseLane .size (accOff a)
  | .common o => if !aligned o size then .refuseBlt .size else if commonAt o = .none then .refuseBlt .range else .to_ (.common o)
  | .plane p o => if !aligned o size then .refuseBlt .size else if planeAt p o = .none then .refuseBlt .range else .to_ (.plane p o)
  | .reserved => .refuseLane .range (accOff a)

/-- May an instance's core reach an address of its lane's view: its own window, and its memory windows? -/
def State.guestMay (s : State) (l : Lane) (n size : Nat) (p : Place) : Bool :=
  match p with
  | .mem _ o => s.mayReachRange l n false o size
  | .iwin m _ => decide (m = n)
  | _ => false

/-- The pairing target of a place. -/
def pairTgt : Place → PairTarget
  | .plane .a _ => .planeA
  | .plane .b _ => .planeB
  | _ => .common

/-- A write by a core of Lane l: by the manager, or by instance n. -/
def State.coreWrite (s : State) (l : Lane) (n : Option Nat) (a size : Nat) (data : Word) : State :=
  if !s.laneUp l then s
  else
    match coreAt l a size with
    | .refuseLane y off => s.captureLane l true y off
    | .refuseBlt y => s.captureBlt (.manager l) true y a
    | .to_ p =>
      match n with
      | some m =>
        if !s.guestMay l m size p then s.captureLane l true .view (accOff a)
        else
          match p with
          | .mem _ o => s.memWLog l 0 o (natLe size data.toNat)
          | .iwin m o => s.iwinWrite l m o data
          | _ => s
      | none =>
        match p with
        | .mem _ o => if o + size ≤ laneMemSize then s.memWLog l 0 o (natLe size data.toNat) else s
        | .laneReg _ o => s.tgtWrite (laneAt l o) data
        | .iwin m o => s.iwinWrite l m o data
        | .common _ | .plane _ _ => s.pairEnter (pairTgt p) l a data
        | _ => s

/-- A read by a core of Lane l; reads of Common and the planes are not paired and clear nothing (R40). -/
def State.coreRead (s : State) (l : Lane) (n : Option Nat) (a size : Nat) : State :=
  let zero := fun (s : State) => { s with rdata := 0 }
  if !s.laneUp l then zero s
  else
    match coreAt l a size with
    | .refuseLane y off => zero (s.captureLane l false y off)
    | .refuseBlt y => zero (s.captureBlt (.manager l) false y a)
    | .to_ p =>
      let open_ := match n with
        | some m => s.guestMay l m size p
        | none => true
      if !open_ then zero (s.captureLane l false .view (accOff a))
      else
        match p with
        | .mem _ o => { s with rdata := BitVec.ofNat 32 (leNat (s.mem l o (min size 4))) }
        | .laneReg _ o => s.tgtRead (laneAt l o) true
        | .iwin m o => s.iwinRead l m o
        | .common o => if s.up .common && !hidden (.manager l) (commonAt o) then s.tgtRead (commonAt o) false else zero s
        | .plane q o => if s.planeUp q then s.tgtRead (planeAt q o) false else zero s
        | _ => zero s

/-! The commands. -/

/-- REGISTER_WRITE (R8): a write of `size` bytes at an address, as the initiator sees the map. -/
def execRegisterWrite (init : Initiator) (addr size : Nat) (data : Word) (s : State) : Host.Outcome State Fault Refusal :=
  match init with
  | .steward | .jtag => ok (s.fabricWrite init addr size data).settlePairs
  | .manager l => ok (s.coreWrite l none addr size data).settlePairs
  | .guest l n => ok (s.coreWrite l (some n) addr size data).settlePairs

/-- RC_FIELD_READ (R8, R10): a read; `rdata` takes its value, and an RC field is cleared. -/
def execRcFieldRead (init : Initiator) (addr size : Nat) (s : State) : Host.Outcome State Fault Refusal :=
  match init with
  | .steward | .jtag => ok (s.fabricRead init addr size)
  | .manager l => ok (s.coreRead l none addr size)
  | .guest l n => ok (s.coreRead l (some n) addr size)

/-- PAIRED_WRITE (R37): the manager on a core of Lane l writes a 32-bit word of Common or a plane. -/
def execPairedWrite (l : Lane) (addr : Nat) (data : Word) (s : State) : Host.Outcome State Fault Refusal :=
  if !s.laneUp l then ok s
  else
    match coreAt l addr 4 with
    | .refuseBlt y => ok (s.captureBlt (.manager l) true y addr)
    | .to_ (.common o) => ok (s.pairEnter (pairTgt (.common o)) l addr data).settlePairs
    | .to_ (.plane p o) => ok (s.pairEnter (pairTgt (.plane p o)) l addr data).settlePairs
    | _ => ok s

/-- PAIR_TIMEOUT (R38): a head waits 1.0 ms with no partner while the other lane is UP; it is discarded. -/
def execPairTimeout (t : PairTarget) (l : Lane) (s : State) : Host.Outcome State Fault Refusal :=
  match s.pairQ_ t l, s.pairQ_ t l.other with
  | e :: q, [] =>
    if !s.laneUp l || !s.laneUp l.other then ok s
    else
      let s := s.reachReal (e.at_ + ms)
      ok ((s.setPairQ t l q true).pairFlag t true)
  | _, _ => ok s

/-- BROADCAST_WRITE (R41): the steward or JTAG writes a 32-bit word of the lane broadcast window or of an instance window. -/
def execBroadcastWrite (jtag : Bool) (addr : Nat) (data : Word) (s : State) : Host.Outcome State Fault Refusal :=
  match placeAt addr with
  | .bcast _ | .iwin _ _ => ok (s.fabricWrite (if jtag then .jtag else .steward) addr 4 data)
  | _ => ok s

/-- BROADCAST_READ (R41): the steward or JTAG reads a 32-bit word of a window. -/
def execBroadcastRead (jtag : Bool) (addr : Nat) (s : State) : Host.Outcome State Fault Refusal :=
  match placeAt addr with
  | .bcast _ | .iwin _ _ => ok (s.fabricRead (if jtag then .jtag else .steward) addr 4)
  | _ => ok s

/-- FENCE_WORD_CROSSING (R13): a word that fails parity is discarded and counted by the receiving domain, with an event; a good one
passes. `corr` says that the receiving side's storage met a single-bit error, which is corrected (R434). -/
def execFenceWordCrossing (tx rx : Dom) (parityOk corr : Bool) (s : State) : Host.Outcome State Fault Refusal :=
  if !s.up tx || !s.up rx then ok s
  else
    let s := s.eccCorr rx corr
    if parityOk then ok s else ok (s.countUnc rx)

end Sys2Proof.Machine
end

