-- ==== Sys2Proof/Machine/Containment.lean ====
section
/-!
DEFINITION. The commands of "Faults and the Blotter dump" and of the supplies: isolation, capture, release and restart (R436 to
R441), an uncorrectable read of a core (R434), the I/O banks (R453) and the temperature alarms (R460).
-/

namespace Sys2Proof.Machine
open Sys2Proof

/-- DOMAIN_ISOLATE (R436): a fatal cause of Table 20.2 other than COMMAND is found in a domain. What the other lane's cores still
waited to pair takes effect (R39). -/
def execDomainIsolate (d : Dom) (cause : Fin 10) (detail addr : Nat) (s : State) : Host.Outcome State Fault Refusal :=
  if cause.val = 9 then ok s else ok (s.isolate d cause.val detail addr).settlePairs

/-- ISOLATE (R436, R449): BLT_CTRL.ISOLATE is written. -/
def execIsolate (mask : Fin 16) (s : State) : Host.Outcome State Fault Refusal :=
  if !s.up .common then ok s else ok (s.isolateCmd mask.val).settlePairs

/-- BLT_RESTART (R438, R440): BLT_CTRL.RESTART is written. -/
def execBltRestart (mask : Fin 16) (s : State) : Host.Outcome State Fault Refusal :=
  if !s.up .common then ok s else ok (s.restartCmd mask.val)

/-- DUMP_CAPTURE_END (R438): the running capture ends; its domain is released, or held until RESTART. -/
def execDumpCaptureEnd (s : State) : Host.Outcome State Fault Refusal :=
  match s.com.dumpBuf with
  | some x =>
    if !x.running || !s.up .common then ok s
    else ok (({ s with com := { s.com with dumpBuf := some { x with running := false } } }).captured x.iso.dom).bltShow
  | none => ok s

/-- The isolation of a domain that waits for its capture, if it does and is not the one being captured. -/
def State.waiting (s : State) (d : Dom) : Option Isolation :=
  let now := match s.com.dumpBuf with
    | some x => x.running && decide (x.iso.dom = d)
    | none => false
  if now then none else s.com.isos.find? (fun x => decide (x.dom = d) && !x.captured)

/-- HOLD_MAX_EXPIRE (R438): a domain has waited HOLD_MAX ms from the later of its isolation and Common's last return; it is released
without a dump and DUMP_SKIPPED is recorded. -/
def execHoldMaxExpire (d : Dom) (s : State) : Host.Outcome State Fault Refusal :=
  match s.waiting d with
  | none => ok s
  | some x =>
    let s := s.reachReal (max x.since s.com.upAt + s.fld .blt F.BLT_CFG_HOLD_MAX * ms)
    ok ((s.bltEvent 2 (domSrc d) x.cause).captured d)

/-- DUMP_WRITTEN (R441): the steward's write of the buffer to flash ends, and the next isolated domain is captured. -/
def execDumpWritten (s : State) : Host.Outcome State Fault Refusal :=
  match s.com.dumpBuf with
  | some x => if x.running || !s.up .common || !s.com.steward then ok s else ok (s.dumpWrite).captureNext.bltShow
  | none => ok s

/-- COMMON_RESTART (R439): the boot logic restarts Common 1 ms after it was isolated. -/
def execCommonRestart (s : State) : Host.Outcome State Fault Refusal :=
  match s.com.retained with
  | some x => if s.domSt .common = .isolated then ok (s.reachReal (x.iso.since + ms)).commonRestarts else ok s
  | none => ok s

/-- DOMAIN_UP (R439): a restarting domain becomes UP. -/
def execDomainUp (d : Dom) (s : State) : Host.Outcome State Fault Refusal :=
  if s.domSt d ≠ .restarting then ok s
  else
    match d with
    | .plane p => ok (s.planeComesUp p)
    | .lane l => ok (s.laneComesUp l)
    | .common => ok s.commonComesUp
    | .inkwell => ok s

/-- CORE_READ_UNCORRECTABLE (R434): a core's read of lane memory meets an uncorrectable error: it aborts, nothing is written, and the
lane counts it. `corr` says that another word of the same read met a single-bit error, which is corrected and counted. -/
def execCoreReadUncorrectable (l : Lane) (addr : Nat) (corr : Bool) (s : State) : Host.Outcome State Fault Refusal :=
  if !s.laneUp l then ok s else ok (((s.eccCorr (.lane l) corr).countUnc (.lane l)).memError (.lane l) addr)

/-! Supplies and temperature. -/

/-- The trigger inputs of bank VIO_C change with the bank: those that stand high outside fall, or rise again (R325, R453). -/
def State.trigBank (s : State) (rise : Bool) : State :=
  let s := (List.range 4).foldl (fun (s : State) i => if s.pins.trig.getLsbD i then s.trigEdge i rise false else s) s
  [0, 1].foldl (fun (s : State) i =>
    if s.pins.trig.getLsbD (4 + i) && (s.xtDriven i).isNone then s.trigEdge (4 + i) rise false else s) s

/-- VIO_BANK_LOW (R453): bank b falls below 1.7 V: its inputs read 0, its outputs float, LOW is set and an event recorded. VIO_F takes
PORST_N low with it. -/
def execVioBankLow (b : Fin 6) (s : State) : Host.Outcome State Fault Refusal :=
  if s.com.lowBanks.contains b.val then ok s
  else
    let s := if b.val = 2 then s.trigBank false else s
    let s := { s with com := { s.com with lowBanks := s.com.lowBanks ++ [b.val] } }
    let s := if s.up .common then
        let w := bitsPut (s.rd .pwr .PWR_BANK_STATUS).toNat b.val b.val 1
        let s := s.wr .pwr .PWR_BANK_STATUS 0 (BitVec.ofNat 32 w)
        s.evStatus .common bkPWR 1 b.val 0 (s.regView .pwr .PWR_BANK_STATUS 0).toNat
      else s
    if b.val = 0 then ok s.tripShow
    else if b.val = 5 then ok s.porst
    else ok s

/-- VIO_BANK_RESTORE (R453): bank b returns within range and its balls take their driven values again. -/
def execVioBankRestore (b : Fin 6) (s : State) : Host.Outcome State Fault Refusal :=
  if !s.com.lowBanks.contains b.val then ok s
  else
    let s := { s with com := { s.com with lowBanks := s.com.lowBanks.erase b.val } }
    if b.val = 0 then ok s.tripShow
    else if b.val = 2 then ok (s.trigBank true)
    else ok s

/-- TEMP_ALARM (R460): sensor k reads `temp`; one that reaches LIMIT sets ALARM and records the event. -/
def execTempAlarm (k : Fin 5) (temp : BitVec 16) (s : State) : Host.Outcome State Fault Refusal :=
  if !s.up .common then ok s
  else
    let max_ := s.fld .pwr F.PWR_TEMP_MAX k.val
    let hot := if signedOf 16 max_ < temp.toInt then temp.toNat else max_
    let s := (s.setFld .pwr F.PWR_TEMP_TEMP temp.toNat k.val).setFld .pwr F.PWR_TEMP_MAX hot k.val
    if temp.toInt < signedOf 16 (s.fld .pwr F.PWR_TEMP_ALARM_LIMIT) then ok s
    else
      let w := bitsPut (s.rd .pwr .PWR_TEMP_ALARM).toNat (16 + k.val) (16 + k.val) 1
      ok ((s.wr .pwr .PWR_TEMP_ALARM 0 (BitVec.ofNat 32 w)).evStatus .common bkPWR 0 (16 + k.val) 0 w)

end Sys2Proof.Machine
end

