-- ==== Sys2Proof/Machine/Dispatch.lean ====
section
/-!
DEFINITION. One arm per command: each calls the one meaning of its row.
-/

namespace Sys2Proof.Machine
open Sys2Proof

def exec (i : Instr) (s : State) : Host.Outcome State Fault Refusal :=
  match i with
  | .registerWrite init addr size data => Sys2Proof.Machine.execRegisterWrite init addr size data s
  | .rcFieldRead init addr size => Sys2Proof.Machine.execRcFieldRead init addr size s
  | .timNowRead p => Sys2Proof.Machine.execTimNowRead p s
  | .fenceWordCrossing tx rx parityOk corr => Sys2Proof.Machine.execFenceWordCrossing tx rx parityOk corr s
  | .pairedWrite l addr data => Sys2Proof.Machine.execPairedWrite l addr data s
  | .pairTimeout t l => Sys2Proof.Machine.execPairTimeout t l s
  | .broadcastWrite jtag addr data => Sys2Proof.Machine.execBroadcastWrite jtag addr data s
  | .broadcastRead jtag addr => Sys2Proof.Machine.execBroadcastRead jtag addr s
  | .eventRecordWrite src code time payload => Sys2Proof.Machine.execEventRecordWrite src code time payload s
  | .eventQueueDrain d => Sys2Proof.Machine.execEventQueueDrain d s
  | .porstNAssert => Sys2Proof.Machine.execPorstNAssert s
  | .porstNRelease ue => Sys2Proof.Machine.execPorstNRelease ue s
  | .warmrstN n => Sys2Proof.Machine.execWarmrstN n s
  | .firmwareVerify => Sys2Proof.Machine.execFirmwareVerify s
  | .stewardStart corr => Sys2Proof.Machine.execStewardStart corr s
  | .epsArm l => Sys2Proof.Machine.execEpsArm l s
  | .epsElementFiring l e => Sys2Proof.Machine.execEpsElementFiring l e s
  | .handover l => Sys2Proof.Machine.execHandover l s
  | .emergencyRollIn l => Sys2Proof.Machine.execEmergencyRollIn l s
  | .domainIsolate d cause detail addr => Sys2Proof.Machine.execDomainIsolate d cause detail addr s
  | .isolate mask => Sys2Proof.Machine.execIsolate mask s
  | .bltRestart mask => Sys2Proof.Machine.execBltRestart mask s
  | .dumpCaptureEnd => Sys2Proof.Machine.execDumpCaptureEnd s
  | .holdMaxExpire d => Sys2Proof.Machine.execHoldMaxExpire d s
  | .dumpWritten => Sys2Proof.Machine.execDumpWritten s
  | .commonRestart => Sys2Proof.Machine.execCommonRestart s
  | .domainUp d => Sys2Proof.Machine.execDomainUp d s
  | .coreReadUncorrectable l addr corr => Sys2Proof.Machine.execCoreReadUncorrectable l addr corr s
  | .vioBankLow b => Sys2Proof.Machine.execVioBankLow b s
  | .vioBankRestore b => Sys2Proof.Machine.execVioBankRestore b s
  | .tempAlarm k temp => Sys2Proof.Machine.execTempAlarm k temp s
  | .ping ch tag => Sys2Proof.Machine.execPing ch tag s
  | .getInfo ch tag => Sys2Proof.Machine.execGetInfo ch tag s
  | .flashEraseBank ch tag w b => Sys2Proof.Machine.execFlashEraseBank ch tag w b s
  | .flashWrite ch tag w b off addr len => Sys2Proof.Machine.execFlashWrite ch tag w b off addr len s
  | .flashVerifyBank ch tag w b => Sys2Proof.Machine.execFlashVerifyBank ch tag w b s
  | .bankSelect ch tag w b => Sys2Proof.Machine.execBankSelect ch tag w b s
  | .bankConfirm ch tag w => Sys2Proof.Machine.execBankConfirm ch tag w s
  | .imageStage ch tag from_ addr len => Sys2Proof.Machine.execImageStage ch tag from_ addr len s
  | .regionCommit ch tag target => Sys2Proof.Machine.execRegionCommit ch tag target s
  | .regionBankSwitch target => Sys2Proof.Machine.execRegionBankSwitch target s
  | .laneRollOut ch tag lane => Sys2Proof.Machine.execLaneRollOut ch tag lane s
  | .laneConverge ch tag lane instants limit => Sys2Proof.Machine.execLaneConverge ch tag lane instants limit s
  | .laneRollIn ch tag lane => Sys2Proof.Machine.execLaneRollIn ch tag lane s
  | .laneRollInEffect l => Sys2Proof.Machine.execLaneRollInEffect l s
  | .stageDiscard ch tag => Sys2Proof.Machine.execStageDiscard ch tag s
  | .dumpRead ch tag addr max => Sys2Proof.Machine.execDumpRead ch tag addr max s
  | .dumpClear ch tag => Sys2Proof.Machine.execDumpClear ch tag s
  | .mailboxBadcmd ch tag op => Sys2Proof.Machine.execMailboxBadcmd ch tag op s
  | .mailboxCancel ch => Sys2Proof.Machine.execMailboxCancel ch s
  | .mailboxComplete ch => Sys2Proof.Machine.execMailboxComplete ch s
  | .announceReceived p port stamp m => Sys2Proof.Machine.execAnnounceReceived p port stamp m s
  | .syncReceived p port stamp m => Sys2Proof.Machine.execSyncReceived p port stamp m s
  | .followUpReceived p port m => Sys2Proof.Machine.execFollowUpReceived p port m s
  | .pdelayReqReceived p port stamp m => Sys2Proof.Machine.execPdelayReqReceived p port stamp m s
  | .pdelayReqSend p port => Sys2Proof.Machine.execPdelayReqSend p port s
  | .pdelayRespReceived p port stamp m => Sys2Proof.Machine.execPdelayRespReceived p port stamp m s
  | .pdelayRespFollowUpReceived p port stamp m => Sys2Proof.Machine.execPdelayRespFollowUpReceived p port stamp m s
  | .pdelayRespTimeout p port => Sys2Proof.Machine.execPdelayRespTimeout p port s
  | .announceTimeout p slot => Sys2Proof.Machine.execAnnounceTimeout p slot s
  | .syncTimeout p slot => Sys2Proof.Machine.execSyncTimeout p slot s
  | .slewEnd p => Sys2Proof.Machine.execSlewEnd p s
  | .slotStateExchange => Sys2Proof.Machine.execSlotStateExchange s
  | .xplaneMeasure p => Sys2Proof.Machine.execXplaneMeasure p s
  | .revertHoldExpire => Sys2Proof.Machine.execRevertHoldExpire s
  | .laneDefaultReturn l => Sys2Proof.Machine.execLaneDefaultReturn l s
  | .laneTimeSample l => Sys2Proof.Machine.execLaneTimeSample l s
  | .residenceEntryExpire p => Sys2Proof.Machine.execResidenceEntryExpire p s
  | .txqEntryRead p port => Sys2Proof.Machine.execTxqEntryRead p port s
  | .ppsOutEdge p n => Sys2Proof.Machine.execPpsOutEdge p n s
  | .ppsDriveChange => Sys2Proof.Machine.execPpsDriveChange s
  | .ppsInEdge => Sys2Proof.Machine.execPpsInEdge s
  | .linkUp p port locks => Sys2Proof.Machine.execLinkUp p port locks s
  | .linkDown p port locks localFault remoteFault => Sys2Proof.Machine.execLinkDown p port locks localFault remoteFault s
  | .prtCfgWrite p port data => Sys2Proof.Machine.execPrtCfgWrite p port data s
  | .forwardingDecision p port stamp f => Sys2Proof.Machine.execForwardingDecision p port stamp f s
  | .frameReceiveEnd p port stamp f e => Sys2Proof.Machine.execFrameReceiveEnd p port stamp f e s
  | .macControlFrameReceived p port dst src body e => Sys2Proof.Machine.execMacControlFrameReceived p port dst src body e s
  | .pauseExpire p port cls => Sys2Proof.Machine.execPauseExpire p port cls s
  | .pauseFrameSend p port => Sys2Proof.Machine.execPauseFrameSend p port s
  | .pauseRefresh p port => Sys2Proof.Machine.execPauseRefresh p port s
  | .egressDequeue p port ecc => Sys2Proof.Machine.execEgressDequeue p port ecc s
  | .frameTransmitEnd p port => Sys2Proof.Machine.execFrameTransmitEnd p port s
  | .linkHoldExpire p port => Sys2Proof.Machine.execLinkHoldExpire p port s
  | .fdbAgeOut p k => Sys2Proof.Machine.execFdbAgeOut p k s
  | .hsrDupExpire p => Sys2Proof.Machine.execHsrDupExpire p s
  | .supervisionFrameSend p => Sys2Proof.Machine.execSupervisionFrameSend p s
  | .ipLinkDown => Sys2Proof.Machine.execIpLinkDown s
  | .ownerHandback => Sys2Proof.Machine.execOwnerHandback s
  | .mgFrameReceived i_ f e => Sys2Proof.Machine.execMgFrameReceived i_ f e s
  | .mgTxKick i_ => Sys2Proof.Machine.execMgTxKick i_ s
  | .mgRingBaseWrite i_ tx hi data => Sys2Proof.Machine.execMgRingBaseWrite i_ tx hi data s
  | .hcapEnable p => Sys2Proof.Machine.execHcapEnable p s
  | .prtCntClr p port => Sys2Proof.Machine.execPrtCntClr p port s
  | .pswCntClr p => Sys2Proof.Machine.execPswCntClr p s
  | .mergeCopyReceived p l => Sys2Proof.Machine.execMergeCopyReceived p l s
  | .mergeDeadline p pub issue => Sys2Proof.Machine.execMergeDeadline p pub issue s
  | .seqAssignmentReceived p => Sys2Proof.Machine.execSeqAssignmentReceived p s
  | .seqCacheExpire p => Sys2Proof.Machine.execSeqCacheExpire p s
  | .seqWaitExpire p pub issue => Sys2Proof.Machine.execSeqWaitExpire p pub issue s
  | .svCopyReceived l lan stamp timeOk m => Sys2Proof.Machine.execSvCopyReceived l lan stamp timeOk m s
  | .timingCopyWaitExpire l n => Sys2Proof.Machine.execTimingCopyWaitExpire l n s
  | .gridStart l => Sys2Proof.Machine.execGridStart l s
  | .gridInstant l => Sys2Proof.Machine.execGridInstant l s
  | .alignmentDeadline l g => Sys2Proof.Machine.execAlignmentDeadline l g s
  | .soloMissingRelease l n => Sys2Proof.Machine.execSoloMissingRelease l n s
  | .lossDeadline l n => Sys2Proof.Machine.execLossDeadline l n s
  | .ingCntClr l => Sys2Proof.Machine.execIngCntClr l s
  | .slotServe l e => Sys2Proof.Machine.execSlotServe l e s
  | .filterEnable l => Sys2Proof.Machine.execFilterEnable l s
  | .coefficientWrite l e b w data => Sys2Proof.Machine.execCoefficientWrite l e b w data s
  | .swapPost l e => Sys2Proof.Machine.execSwapPost l e s
  | .fltCntClr l => Sys2Proof.Machine.execFltCntClr l s
  | .tokenAccept l src => Sys2Proof.Machine.execTokenAccept l src s
  | .overload l src => Sys2Proof.Machine.execOverload l src s
  | .engineSelect l e => Sys2Proof.Machine.execEngineSelect l e s
  | .groupWeightWrite l g w => Sys2Proof.Machine.execGroupWeightWrite l g w s
  | .groupIntakeClose l g => Sys2Proof.Machine.execGroupIntakeClose l g s
  | .groupIntakeOpen l g => Sys2Proof.Machine.execGroupIntakeOpen l g s
  | .histSelect l grp sel => Sys2Proof.Machine.execHistSelect l grp sel s
  | .loadWindowEnd l => Sys2Proof.Machine.execLoadWindowEnd l s
  | .qulCntClr l => Sys2Proof.Machine.execQulCntClr l s
  | .opPhasor l e ecc => Sys2Proof.Machine.execOpPhasor l e ecc s
  | .opSeq l e ecc => Sys2Proof.Machine.execOpSeq l e ecc s
  | .opDiff l e ecc => Sys2Proof.Machine.execOpDiff l e ecc s
  | .opDist l e ecc => Sys2Proof.Machine.execOpDist l e ecc s
  | .opDir l e ecc => Sys2Proof.Machine.execOpDir l e ecc s
  | .opIdmt l e ecc => Sys2Proof.Machine.execOpIdmt l e ecc s
  | .opDeft l e ecc => Sys2Proof.Machine.execOpDeft l e ecc s
  | .opFreq l e ecc => Sys2Proof.Machine.execOpFreq l e ecc s
  | .opHarm l e ecc => Sys2Proof.Machine.execOpHarm l e ecc s
  | .opInst l e ecc => Sys2Proof.Machine.execOpInst l e ecc s
  | .opsCntClr l => Sys2Proof.Machine.execOpsCntClr l s
  | .horizonApply l corr => Sys2Proof.Machine.execHorizonApply l corr s
  | .pendingQueueRoom l => Sys2Proof.Machine.execPendingQueueRoom l s
  | .snapshot l => Sys2Proof.Machine.execSnapshot l s
  | .mapRequestWrite l o slot point code test time w => Sys2Proof.Machine.execMapRequestWrite l o slot point code test time w s
  | .mapRequestSnap l o slot time count list dest => Sys2Proof.Machine.execMapRequestSnap l o slot time count list dest s
  | .mapRequestInvalid l o slot zero time => Sys2Proof.Machine.execMapRequestInvalid l o slot zero time s
  | .mapEnable l => Sys2Proof.Machine.execMapEnable l s
  | .mapCntClr l => Sys2Proof.Machine.execMapCntClr l s
  | .gooseCopyReceived l lan stamp timeOk f => Sys2Proof.Machine.execGooseCopyReceived l lan stamp timeOk f s
  | .gooseTimingWaitExpire l u => Sys2Proof.Machine.execGooseTimingWaitExpire l u s
  | .gooseDeadline l u => Sys2Proof.Machine.execGooseDeadline l u s
  | .scribeCycleStart l k => Sys2Proof.Machine.execScribeCycleStart l k s
  | .skippedLatticeInstant l k => Sys2Proof.Machine.execSkippedLatticeInstant l k s
  | .scrNop l k => Sys2Proof.Machine.execScrNop l k s
  | .scrLd l k => Sys2Proof.Machine.execScrLd l k s
  | .scrLdn l k => Sys2Proof.Machine.execScrLdn l k s
  | .scrAnd l k => Sys2Proof.Machine.execScrAnd l k s
  | .scrAndn l k => Sys2Proof.Machine.execScrAndn l k s
  | .scrOr l k => Sys2Proof.Machine.execScrOr l k s
  | .scrOrn l k => Sys2Proof.Machine.execScrOrn l k s
  | .scrXor l k => Sys2Proof.Machine.execScrXor l k s
  | .scrXorn l k => Sys2Proof.Machine.execScrXorn l k s
  | .scrPush l k => Sys2Proof.Machine.execScrPush l k s
  | .scrPopand l k => Sys2Proof.Machine.execScrPopand l k s
  | .scrPopor l k => Sys2Proof.Machine.execScrPopor l k s
  | .scrPopxor l k => Sys2Proof.Machine.execScrPopxor l k s
  | .scrNot l k => Sys2Proof.Machine.execScrNot l k s
  | .scrSt l k => Sys2Proof.Machine.execScrSt l k s
  | .scrStn l k => Sys2Proof.Machine.execScrStn l k s
  | .scrS l k => Sys2Proof.Machine.execScrS l k s
  | .scrRst l k => Sys2Proof.Machine.execScrRst l k s
  | .scrEdger l k => Sys2Proof.Machine.execScrEdger l k s
  | .scrEdgef l k => Sys2Proof.Machine.execScrEdgef l k s
  | .scrTon l k => Sys2Proof.Machine.execScrTon l k s
  | .scrTof l k => Sys2Proof.Machine.execScrTof l k s
  | .scrTp l k => Sys2Proof.Machine.execScrTp l k s
  | .scrCtu l k => Sys2Proof.Machine.execScrCtu l k s
  | .scrCtd l k => Sys2Proof.Machine.execScrCtd l k s
  | .scrCrst l k => Sys2Proof.Machine.execScrCrst l k s
  | .scrCld l k => Sys2Proof.Machine.execScrCld l k s
  | .scrLdw l k => Sys2Proof.Machine.execScrLdw l k s
  | .scrStw l k => Sys2Proof.Machine.execScrStw l k s
  | .scrLdi l k => Sys2Proof.Machine.execScrLdi l k s
  | .scrLui l k => Sys2Proof.Machine.execScrLui l k s
  | .scrAdd l k => Sys2Proof.Machine.execScrAdd l k s
  | .scrSub l k => Sys2Proof.Machine.execScrSub l k s
  | .scrAndw l k => Sys2Proof.Machine.execScrAndw l k s
  | .scrOrw l k => Sys2Proof.Machine.execScrOrw l k s
  | .scrXorw l k => Sys2Proof.Machine.execScrXorw l k s
  | .scrCmpeq l k => Sys2Proof.Machine.execScrCmpeq l k s
  | .scrCmpgt l k => Sys2Proof.Machine.execScrCmpgt l k s
  | .scrCmplt l k => Sys2Proof.Machine.execScrCmplt l k s
  | .scrFcmpgt l k => Sys2Proof.Machine.execScrFcmpgt l k s
  | .scrFcmplt l k => Sys2Proof.Machine.execScrFcmplt l k s
  | .scrSetq l k => Sys2Proof.Machine.execScrSetq l k s
  | .scrQmax l k => Sys2Proof.Machine.execScrQmax l k s
  | .scrJmp l k => Sys2Proof.Machine.execScrJmp l k s
  | .scrJmpc l k => Sys2Proof.Machine.execScrJmpc l k s
  | .scrJmpcn l k => Sys2Proof.Machine.execScrJmpcn l k s
  | .scrEnd l k => Sys2Proof.Machine.execScrEnd l k s
  | .scribeRestart l k secs usecs => Sys2Proof.Machine.execScribeRestart l k secs usecs s
  | .scribeStop l k secs usecs => Sys2Proof.Machine.execScribeStop l k secs usecs s
  | .forceCommit l k secs usecs => Sys2Proof.Machine.execForceCommit l k secs usecs s
  | .forceReset l k secs usecs => Sys2Proof.Machine.execForceReset l k secs usecs s
  | .scribeCommandNop l k op secs usecs => Sys2Proof.Machine.execScribeCommandNop l k op secs usecs s
  | .scribeCommandAt l k => Sys2Proof.Machine.execScribeCommandAt l k s
  | .scrCntClr l k => Sys2Proof.Machine.execScrCntClr l k s
  | .noticeReceived l => Sys2Proof.Machine.execNoticeReceived l s
  | .scheduledEvaluation l n => Sys2Proof.Machine.execScheduledEvaluation l n s
  | .issueSend l n => Sys2Proof.Machine.execIssueSend l n s
  | .pubEnable l cold => Sys2Proof.Machine.execPubEnable l cold s
  | .echoReceived l => Sys2Proof.Machine.execEchoReceived l s
  | .tripNoticeDue l n => Sys2Proof.Machine.execTripNoticeDue l n s
  | .tripMinOnExpire l n => Sys2Proof.Machine.execTripMinOnExpire l n s
  | .tripDisagree l n => Sys2Proof.Machine.execTripDisagree l n s
  | .pubCntClr l => Sys2Proof.Machine.execPubCntClr l s
  | .checkValueStart l u => Sys2Proof.Machine.execCheckValueStart l u s
  | .checkValueDone l u => Sys2Proof.Machine.execCheckValueDone l u s
  | .rowDecision l => Sys2Proof.Machine.execRowDecision l s
  | .xtrigDriveRelease l line => Sys2Proof.Machine.execXtrigDriveRelease l line s
  | .triggerPinEdge pin rise => Sys2Proof.Machine.execTriggerPinEdge pin rise s
  | .recordClose l => Sys2Proof.Machine.execRecordClose l s
  | .drcRelease l buf => Sys2Proof.Machine.execDrcRelease l buf s
  | .drcResume l => Sys2Proof.Machine.execDrcResume l s
  | .manualTriggerPost l secs usecs => Sys2Proof.Machine.execManualTriggerPost l secs usecs s
  | .recorderEnable l en => Sys2Proof.Machine.execRecorderEnable l en s
  | .drcCntClr l => Sys2Proof.Machine.execDrcCntClr l s
  | .insStart l n secs idx => Sys2Proof.Machine.execInsStart l n secs idx s
  | .insQuiesce l n secs idx => Sys2Proof.Machine.execInsQuiesce l n secs idx s
  | .insResume l n secs idx => Sys2Proof.Machine.execInsResume l n secs idx s
  | .insAbort l n secs idx => Sys2Proof.Machine.execInsAbort l n secs idx s
  | .insReset l n secs idx => Sys2Proof.Machine.execInsReset l n secs idx s
  | .instanceBadcmd l n op secs idx => Sys2Proof.Machine.execInstanceBadcmd l n op secs idx s
  | .drainDecision l n => Sys2Proof.Machine.execDrainDecision l n s
  | .instanceDrained l n => Sys2Proof.Machine.execInstanceDrained l n s
  | .abortComplete l n => Sys2Proof.Machine.execAbortComplete l n s
  | .resetComplete l n => Sys2Proof.Machine.execResetComplete l n s
  | .vintInject l o v => Sys2Proof.Machine.execVintInject l o v s
  | .epochGo l => Sys2Proof.Machine.execEpochGo l s
  | .epochClearDone l => Sys2Proof.Machine.execEpochClearDone l s
  | .insOcntClr l o => Sys2Proof.Machine.execInsOcntClr l o s
  | .canStartOfFrame c => Sys2Proof.Machine.execCanStartOfFrame c s
  | .canFrameReceived c f => Sys2Proof.Machine.execCanFrameReceived c f s
  | .receiveRecordApply l => Sys2Proof.Machine.execReceiveRecordApply l s
  | .rxTimeout l d => Sys2Proof.Machine.execRxTimeout l d s
  | .txQueueCyclic d => Sys2Proof.Machine.execTxQueueCyclic d s
  | .canSend l d => Sys2Proof.Machine.execCanSend l d s
  | .canObjectResume l d => Sys2Proof.Machine.execCanObjectResume l d s
  | .canAbortTx l d => Sys2Proof.Machine.execCanAbortTx l d s
  | .txAttemptEnd c r => Sys2Proof.Machine.execTxAttemptEnd c r s
  | .busOffRecovered c => Sys2Proof.Machine.execBusOffRecovered c s
  | .fieldBusEnable c en => Sys2Proof.Machine.execFieldBusEnable c en s
  | .rateDetectDwellExpire c => Sys2Proof.Machine.execRateDetectDwellExpire c s
  | .pairPrefMove p => Sys2Proof.Machine.execPairPrefMove p s
  | .fbsCntClr c => Sys2Proof.Machine.execFbsCntClr c s
  | .standbyEntry => Sys2Proof.Machine.execStandbyEntry s
  | .standbyExit => Sys2Proof.Machine.execStandbyExit s
  | .vinkLoss => Sys2Proof.Machine.execVinkLoss s
  | .vinkRestored => Sys2Proof.Machine.execVinkRestored s
  | .vaultTimeSave => Sys2Proof.Machine.execVaultTimeSave s
  | .oscFail => Sys2Proof.Machine.execOscFail s
  | .ophTick => Sys2Proof.Machine.execOphTick s
  | .tamperAssert n => Sys2Proof.Machine.execTamperAssert n s
  | .evrRead ch tag addr max start bad corr => Sys2Proof.Machine.execEvrRead ch tag addr max start bad corr s
  | .evrClear ch tag addr => Sys2Proof.Machine.execEvrClear ch tag addr s
  | .evrRlSet ch tag entry code lim => Sys2Proof.Machine.execEvrRlSet ch tag entry code lim s
  | .evrRlGet ch tag entry => Sys2Proof.Machine.execEvrRlGet ch tag entry s
  | .tagRead ch tag type addr max ue => Sys2Proof.Machine.execTagRead ch tag type addr max ue s
  | .tagWrite ch tag type addr len ue => Sys2Proof.Machine.execTagWrite ch tag type addr len ue s
  | .idRead ch tag addr max => Sys2Proof.Machine.execIdRead ch tag addr max s
  | .lcStatus ch tag => Sys2Proof.Machine.execLcStatus ch tag s
  | .lcAdvance ch tag target addr => Sys2Proof.Machine.execLcAdvance ch tag target addr s
  | .rootKeySet ch tag root entry op keyId keyAddr sigAddr => Sys2Proof.Machine.execRootKeySet ch tag root entry op keyId keyAddr sigAddr s
  | .keyWrite ch tag slot flags keyId addr => Sys2Proof.Machine.execKeyWrite ch tag slot flags keyId addr s
  | .keyDerive ch tag child parent flags keyId addr saltLen infoLen => Sys2Proof.Machine.execKeyDerive ch tag child parent flags keyId addr saltLen infoLen s
  | .keyInvalidate ch tag slot => Sys2Proof.Machine.execKeyInvalidate ch tag slot s
  | .keyStatus ch tag slot => Sys2Proof.Machine.execKeyStatus ch tag slot s
  | .mcountRead ch tag => Sys2Proof.Machine.execMcountRead ch tag s
  | .mcountInc ch tag k => Sys2Proof.Machine.execMcountInc ch tag k s
  | .rollbackAdvance ch tag => Sys2Proof.Machine.execRollbackAdvance ch tag s
  | .attest ch tag nonceAddr repAddr => Sys2Proof.Machine.execAttest ch tag nonceAddr repAddr s
  | .tamperCfg ch tag cfg => Sys2Proof.Machine.execTamperCfg ch tag cfg s
  | .keyStale => Sys2Proof.Machine.execKeyStale s
  | .keyZeroised => Sys2Proof.Machine.execKeyZeroised s
  | .ppsWidthExpire p n => Sys2Proof.Machine.execPpsWidthExpire p n s
  | .ipLinkRestored => Sys2Proof.Machine.execIpLinkRestored s
  | .oscillatorRestart => Sys2Proof.Machine.execOscillatorRestart s
  | .canReceiveError c dominant => Sys2Proof.Machine.execCanReceiveError c dominant s

end Sys2Proof.Machine
end

