-- ==== Sys2Proof/Safety.lean ====
section
/-!
DEFINITION. The terms claims use: what a completed command is, which registers a command may have stored to, and the parts of the
State that recording an event touches.
-/

namespace Sys2Proof.Machine
open Sys2Proof

/-- An outcome that is a next state of which `P` holds. -/
def Answers (o : Host.Outcome State Fault Refusal) (P : State → Prop) : Prop := ∃ t, o = .next t ∧ P t

/-- A step that answers a next state. -/
def Completes (o : Host.Outcome State Fault Refusal) : Prop := ∃ t, o = .next t

/-- A run is safe for `n` steps when no step of it faults or is refused. -/
def SafeFor : Nat → State → Prop
  | 0, _ => True
  | n + 1, s => ∃ t, step s = .next t ∧ SafeFor n t

/-- The words stored outside the given address ranges (start, length) are the same in two states. -/
def RegsOutside (rs : List (Nat × Nat)) (s t : State) : Prop :=
  ∀ a, (∀ e ∈ rs, a < e.1 ∨ e.1 + e.2 ≤ a) → assocGet t.regs a = assocGet s.regs a

/-- The address range of one register. -/
def regAt (p : Page) (r : RegId) (k : Nat := 0) : Nat × Nat := (regAddr p r k, 1)

/-- The address range of the first `n` registers of a row. -/
def rowAt (p : Page) (r : RegId) (n : Nat) : Nat × Nat := (regAddr p r 0, (n - 1) * r.geom.stride + 1)

/-- The registers of the event recorder, which writing a record moves (R386). -/
def evrAt : Nat × Nat := (Page.evr.base, 0x100000)

/-- The register blocks of a plane and of a lane (Table 1.6). -/
def planeAt_ (p : Plane) : Nat × Nat := (planeBase p, 0x1000000)
def laneAt_ (l : Lane) : Nat × Nat := (laneBase l, 0x10000000)

/-- The Common register block. -/
def commonAt_ : Nat × Nat := (commonBase, 0x1000000)

/-- What the time rows may store to: the time units' registers, the lanes' CFG_TIME_FOLLOW and EPS records, the event recorder. -/
def timeAt : List (Nat × Nat) :=
  [(Page.base (.tim .a), 0x200000), (Page.base (.tim .b), 0x200000), regAt (.lcfg .l0) .CFG_TIME_FOLLOW,
    regAt (.lcfg .l1) .CFG_TIME_FOLLOW, (epsBase .l0, 0x100000), (epsBase .l1, 0x100000), evrAt]

/-- Memory, flash, domains, Common, the pairing queues, staged registers and the command queue are the same. -/
def Beside (s t : State) : Prop :=
  t.mem0 = s.mem0 ∧ t.mem1 = s.mem1 ∧ t.flash0 = s.flash0 ∧ t.flash1 = s.flash1 ∧ t.dom = s.dom ∧ t.com = s.com ∧ t.pairQ = s.pairQ ∧
    t.shreg = s.shreg ∧ t.pending = s.pending

/-- The state with everything but its registers. -/
def State.body (s : State) : State := { s with regs := [] }

/-- The state without its registers and without what recording an event touches: the ring, the rate limits, and the event queues
of the planes and lanes (R30, R386, R390). -/
def State.quiet (s : State) : State :=
  { s with
    regs := []
    ink := { s.ink with ring := [], rl := [], rlDef := InkSt.first.rlDef }
    pa := { s.pa with evq := ⟨[], 0⟩ }
    pb := { s.pb with evq := ⟨[], 0⟩ }
    l0 := { s.l0 with evq := ⟨[], 0⟩ }
    l1 := { s.l1 with evq := ⟨[], 0⟩ } }

/-- A plane without its clock, what carries its clock on, and what it has measured against its clock. -/
def PlaneSt.untimed (x : PlaneSt) : PlaneSt :=
  { x with
    now := 0, resid := 0, hist := [], rateFrac := 0, slewFrac := 0, ppsPhase := 0, hcapRun := 0
    slot0 := { x.slot0 with off := none, prev := none }
    slot1 := { x.slot1 with off := none, prev := none } }

/-- A lane without its copy of a clock, and without what its recorder has learned of that clock's slews. -/
def LaneSt.untimed (x : LaneSt) : LaneSt :=
  { x with now := 0, off := 0, rate := 0, rateFrac := 0, slewFrac := 0, drc := { x.drc with slews := [] } }

/-- The state without its registers and clocks: elapsed and vault time, and the plane clocks and the lanes' copies. -/
def State.untimed (s : State) : State :=
  { s with
    regs := []
    real := 0
    ink := { s.ink with vt := 0 }
    pa := s.pa.untimed
    pb := s.pb.untimed
    l0 := s.l0.untimed
    l1 := s.l1.untimed }

/-- The state without its registers, its clocks and what one plane holds. -/
def State.besidePlane (s : State) (p : Plane) : State := s.untimed.setPlane p .empty

/-- The state without its registers, its clocks and what one lane holds beside its memory. -/
def State.besideLane (s : State) (l : Lane) : State := s.untimed.setLane l .empty

/-- The registers that passing time may write: the lanes' CFG_TIME_FOLLOW (R74) and the planes' TIM_STATUS (R71). -/
def followsAt : List (Nat × Nat) :=
  [regAt (.lcfg .l0) .CFG_TIME_FOLLOW, regAt (.lcfg .l1) .CFG_TIME_FOLLOW, regAt (.tim .a) .TIM_STATUS, regAt (.tim .b) .TIM_STATUS]

/-- The vault without what recording an event touches. -/
def InkSt.still (x : InkSt) : InkSt := { x with ring := [], rl := [], rlDef := InkSt.first.rlDef }

/-! Mailbox rows. -/

/-- The channel, tag, opcode and argument words of a command that is submitted through the mailbox (Tables 2.11, 17.5, 18.5). -/
def mboxRow : Instr → Option (Fin 2 × BitVec 16 × Nat × List Nat)
  | .ping ch tag => some (ch, tag, 0x01, [])
  | .getInfo ch tag => some (ch, tag, 0x02, [])
  | .flashEraseBank ch tag w b => some (ch, tag, 0x10, [w.toNat, b.toNat])
  | .flashWrite ch tag w b off addr len => some (ch, tag, 0x11, [w.toNat, b.toNat, off.toNat] ++ addrArgs addr ++ [len.toNat])
  | .flashVerifyBank ch tag w b => some (ch, tag, 0x12, [w.toNat, b.toNat])
  | .bankSelect ch tag w b => some (ch, tag, 0x13, [w.toNat, b.toNat])
  | .bankConfirm ch tag w => some (ch, tag, 0x14, [w.toNat])
  | .imageStage ch tag from_ addr len => some (ch, tag, 0x20, [from_.toNat] ++ addrArgs addr ++ [len.toNat])
  | .regionCommit ch tag target => some (ch, tag, 0x21, [target.toNat])
  | .laneRollOut ch tag lane => some (ch, tag, 0x22, [lane.toNat])
  | .laneConverge ch tag lane n lim => some (ch, tag, 0x23, [lane.toNat, n.toNat, lim.toNat])
  | .laneRollIn ch tag lane => some (ch, tag, 0x24, [lane.toNat])
  | .stageDiscard ch tag => some (ch, tag, 0x25, [])
  | .dumpRead ch tag addr max => some (ch, tag, 0x30, addrArgs addr ++ [max.toNat])
  | .dumpClear ch tag => some (ch, tag, 0x31, [])
  | .lcStatus ch tag => some (ch, tag, 0x40, [])
  | .lcAdvance ch tag target addr => some (ch, tag, 0x41, [target.toNat] ++ addrArgs addr)
  | .rootKeySet ch tag root e op keyId ka sa => some (ch, tag, 0x44, [root.toNat, e.toNat, op.toNat, keyId.toNat] ++ addrArgs ka ++ addrArgs sa)
  | .keyWrite ch tag slot flags keyId addr => some (ch, tag, 0x48, [slot.toNat, flags.toNat, keyId.toNat] ++ addrArgs addr)
  | .keyDerive ch tag c p flags keyId addr sl il =>
    some (ch, tag, 0x49, [c.toNat, p.toNat, flags.toNat, keyId.toNat] ++ addrArgs addr ++ [sl.toNat, il.toNat])
  | .keyInvalidate ch tag slot => some (ch, tag, 0x4A, [slot.toNat])
  | .keyStatus ch tag slot => some (ch, tag, 0x4B, [slot.toNat])
  | .mcountRead ch tag => some (ch, tag, 0x50, [])
  | .mcountInc ch tag k => some (ch, tag, 0x51, [k.toNat])
  | .rollbackAdvance ch tag => some (ch, tag, 0x52, [])
  | .attest ch tag na ra => some (ch, tag, 0x58, addrArgs na ++ addrArgs ra)
  | .tamperCfg ch tag cfg => some (ch, tag, 0x5C, [cfg.toNat])
  | .evrRead ch tag addr max start _ _ => some (ch, tag, 0x60, addrArgs addr ++ [max.toNat, start.toNat])
  | .evrClear ch tag addr => some (ch, tag, 0x61, addrArgs addr)
  | .evrRlSet ch tag entry code lim => some (ch, tag, 0x62, [entry.toNat, code.toNat, lim.toNat])
  | .evrRlGet ch tag entry => some (ch, tag, 0x63, [entry.toNat])
  | .tagRead ch tag type addr max _ => some (ch, tag, 0x68, [type.toNat] ++ addrArgs addr ++ [max.toNat])
  | .tagWrite ch tag type addr len _ => some (ch, tag, 0x69, [type.toNat] ++ addrArgs addr ++ [len.toNat])
  | .idRead ch tag addr max => some (ch, tag, 0x6C, addrArgs addr ++ [max.toNat])
  | _ => none

/-- The opcodes that a chapter defines (Tables 2.11, 17.5 and 18.5). -/
def definedOps : List Nat :=
  [0x01, 0x02, 0x10, 0x11, 0x12, 0x13, 0x14, 0x20, 0x21, 0x22, 0x23, 0x24, 0x25, 0x30, 0x31, 0x40, 0x41, 0x44, 0x48, 0x49, 0x4A, 0x4B,
    0x50, 0x51, 0x52, 0x58, 0x5C, 0x60, 0x61, 0x62, 0x63, 0x68, 0x69, 0x6C]

/-- The registers of a mailbox channel. -/
def stwAt (ch : Nat) : Nat × Nat := (Page.base (.stw ch), 0x1000)

/-- A command of an opcode is admitted on a channel (R58, R60): Common UP with the steward running, the channel not BUSY, the other
channel idle, and the opcode one that the channel accepts in the present lifecycle state. -/
def MboxReady (s : State) (ch : Fin 2) (op : Nat) : Prop :=
  s.up .common = true ∧ s.com.steward = true ∧ s.bit (.stw ch) F.STW_STATUS_BUSY = false ∧ s.mbox (1 - ch.val) = none ∧
    (ch = 0 ∨ s.lifecycle ≠ 2 ∨ op ∈ readOps)

/-- A channel runs a command that will complete with a status and results, at once or after what it waits for. -/
def MboxRuns (t : State) (ch : Fin 2) (op : Nat) (tag : BitVec 16) (args : List Nat) (code : Nat) (res : List Nat) (wait : Bool) : Prop :=
  t.mbox ch = some ⟨op, tag.toNat, (List.range 16).map (fun i => args.getD i 0), code, res, wait⟩ ∧ t.fld (.stw ch) F.STW_STATUS_BUSY = 1

/-- Nothing but a mailbox channel differs between two states. -/
def MboxOnly (ch : Fin 2) (s t : State) : Prop :=
  RegsOutside [stwAt ch] s t ∧ { t.body with com := { t.com with mb0 := s.com.mb0, mb1 := s.com.mb1 } } = s.body ∧
    t.mbox (1 - ch.val) = s.mbox (1 - ch.val)

/-- Of what a mailbox command of the vault leaves, everything but its channel, the vault and the event recorder is as before, and the
vault's own part is `ink`. -/
def VaultNow (ch : Fin 2) (s t : State) (ink : InkSt) : Prop :=
  t.mbox (1 - ch.val) = s.mbox (1 - ch.val) ∧ t.quiet.ink = ink.still ∧
    { t.quiet with com := { t.com with mb0 := s.com.mb0, mb1 := s.com.mb1 }, ink := s.quiet.ink } = s.quiet

/-- The command of an opcode runs with its latched arguments on a state that differs from `s` in the channel's registers alone, and
`P` says what it leaves: the state it acted on, its outcome, and the next state. -/
def MboxDoes (ch : Fin 2) (op : Nat) (tag : BitVec 16) (args : List Nat) (s t : State) (P : State → CmdOut → Prop) : Prop :=
  ∃ u : State, RegsOutside [stwAt ch] s u ∧ u.body = s.body ∧
    let r := mboxCmd ch op ((List.range 16).map (fun i => args.getD i 0)) u
    t = r.st.setMbox ch (some ⟨op, tag.toNat, (List.range 16).map (fun i => args.getD i 0), r.code, r.res, r.wait⟩) ∧ P u r

/-- The register file lists its addresses in rising order. -/
def RegsWf (s : State) : Prop := assocSorted s.regs = true

/-- Every memory is in its canonical form. -/
def MemsWf (s : State) : Prop :=
  memWf 0 s.mem0 = true ∧ memWf 0 s.mem1 = true ∧ memWf 0xFF s.flash0 = true ∧ memWf 0xFF s.flash1 = true ∧
    memWf 0 s.ink.ring = true

end Sys2Proof.Machine
end

