-- ==== Sys2Proof/WellFormed.lean ====
section
/-!
DEFINITION. Which commands are well formed: operands inside the ranges that the spec gives the thing they carry. Operands
whose type is their range need no check.
-/

namespace Sys2Proof

/-- An instance number is 0 to 63. -/
def initOk : Initiator → Bool
  | .guest _ n => decide (n < 64)
  | _ => true

/-- The sizes of an access in bytes. -/
def sizeOk (n : Nat) : Bool := decide (n = 1 ∨ n = 2 ∨ n = 4 ∨ n = 8)

/-- An address of Common or of a plane (Table 1.6). -/
def sharedOk (a : Nat) : Bool := decide (0x001000000000 ≤ a ∧ a < 0x001003000000)

/-- An address of the lane broadcast window or of the instance windows (Table 1.6). -/
def windowOk (a : Nat) : Bool :=
  decide ((0x001030000000 ≤ a ∧ a < 0x001040000000) ∨ (0x001100000000 ≤ a ∧ a < 0x001100400000))

/-- A plane or a lane. -/
def planeOrLane : Dom → Bool
  | .plane _ => true
  | .lane _ => true
  | _ => false

/-- The opcodes of Table 2.11 and of the tables it names; every other one completes with BADCMD (R62). -/
def knownOps : List Nat :=
  [0x01, 0x02, 0x10, 0x11, 0x12, 0x13, 0x14, 0x20, 0x21, 0x22, 0x23, 0x24, 0x25, 0x30, 0x31, 0x40, 0x41, 0x44, 0x48, 0x49, 0x4A,
    0x4B, 0x50, 0x51, 0x52, 0x58, 0x5C, 0x60, 0x61, 0x62, 0x63, 0x68, 0x69, 0x6C]

/-- A medium-boundary stamp: a multiple of 0.25 ns (R6). -/
def stampOk (t : Nat) : Bool := decide (t % 0x4000 = 0)

/-- An Announce message's fields in their widths. -/
def announceOk (m : Announce) : Bool :=
  decide (m.domain < 256 ∧ m.srcPort < 2 ^ 80 ∧ m.prio1 < 256 ∧ m.clockClass < 256 ∧ m.accuracy < 256 ∧ m.variance < 65536 ∧
    m.prio2 < 256 ∧ m.gm < 2 ^ 64 ∧ m.stepsRemoved < 65536 ∧ m.utcOffset < 65536)

/-- A PTP event or general message's fields in their widths. -/
def ptpOk (m : PtpMsg) : Bool :=
  decide (m.domain < 256 ∧ m.srcPort < 2 ^ 80 ∧ m.reqPort < 2 ^ 80 ∧ m.seqId < 65536)

/-- What a port may receive as a frame: a runt, or one longer than every limit, too (R98). The length field of Table 5.5 has 14 bits. -/
def lineOk (f : Frame) : Bool := decide (1 ≤ f.octets.length ∧ f.octets.length ≤ 16379)

/-- A sampled-value frame's fields in their widths. -/
def svOk (m : SvMsg) : Bool :=
  decide (m.etype < 65536 ∧ m.dmac < 2 ^ 48 ∧ m.vid < 4096 ∧ m.appid < 65536) &&
    m.asdus.all (fun a => decide (a.smpCnt < 65536 ∧ a.confRev < 2 ^ 32 ∧ a.smpSynch < 256) &&
      a.data.all (fun c => decide (c.1 < 2 ^ 32 ∧ c.2 < 2 ^ 32)))

/-- A GOOSE frame's fields in their widths. -/
def gooseOk (m : GooseMsg) : Bool :=
  decide (m.dmac < 2 ^ 48 ∧ m.vid < 4096)

/-- A CAN frame: its identifier and data length (ISO 11898-1). -/
def canOk (f : CanFrame) : Bool :=
  decide (f.id < 2 ^ (if f.ide then 29 else 11)) &&
    (if f.fd then decide (f.data.length ∈ [0, 1, 2, 3, 4, 5, 6, 7, 8, 12, 16, 20, 24, 32, 48, 64]) && !f.rtr else decide (f.data.length ≤ 8))

/-- Is a command well formed? -/
def Instr.wellFormed : Instr → Bool
  | .registerWrite init addr size _ => initOk init && decide (addr < 2 ^ 48) && sizeOk size
  | .rcFieldRead init addr size => initOk init && decide (addr < 2 ^ 48) && sizeOk size
  | .timNowRead _ => true
  | .fenceWordCrossing tx rx _ _ => decide (tx ≠ rx)
  | .pairedWrite _ addr _ => sharedOk addr
  | .pairTimeout _ _ => true
  | .broadcastWrite _ addr _ => windowOk addr
  | .broadcastRead _ addr => windowOk addr
  | .eventRecordWrite src code time payload => decide (src < 8 ∧ code < 2 ^ 16 ∧ time < 2 ^ 96 ∧ payload.length ≤ 124) && payload.all (fun w => decide (w < 2 ^ 32))
  | .eventQueueDrain d => planeOrLane d
  | .porstNAssert => true
  | .porstNRelease _ => true
  | .warmrstN _ => true
  | .firmwareVerify => true
  | .stewardStart _ => true
  | .epsArm _ => true
  | .epsElementFiring _ _ => true
  | .handover _ => true
  | .emergencyRollIn _ => true
  | .domainIsolate d cause detail addr => decide (d ≠ .inkwell ∧ 1 ≤ cause.val ∧ cause.val ≤ 8 ∧ detail < 2 ^ 32 ∧ addr < 2 ^ 64)
  | .isolate _ => true
  | .bltRestart _ => true
  | .dumpCaptureEnd => true
  | .holdMaxExpire d => planeOrLane d
  | .dumpWritten => true
  | .commonRestart => true
  | .domainUp d => decide (d ≠ .inkwell)
  | .coreReadUncorrectable _ addr _ => decide (addr < 2 ^ 34)
  | .vioBankLow _ => true
  | .vioBankRestore _ => true
  | .tempAlarm _ _ => true
  | .ping _ _ => true
  | .getInfo _ _ => true
  | .flashEraseBank _ _ _ _ => true
  | .flashWrite _ _ _ _ _ _ _ => true
  | .flashVerifyBank _ _ _ _ => true
  | .bankSelect _ _ _ _ => true
  | .bankConfirm _ _ _ => true
  | .imageStage _ _ _ _ _ => true
  | .regionCommit _ _ _ => true
  | .regionBankSwitch _ => true
  | .laneRollOut _ _ _ => true
  | .laneConverge _ _ _ _ _ => true
  | .laneRollIn _ _ _ => true
  | .laneRollInEffect _ => true
  | .stageDiscard _ _ => true
  | .dumpRead _ _ _ _ => true
  | .dumpClear _ _ => true
  | .mailboxBadcmd _ _ op => decide (op.toNat ∉ knownOps)
  | .mailboxCancel _ => true
  | .mailboxComplete _ => true
  | .announceReceived _ _ stamp m => stampOk stamp && announceOk m
  | .syncReceived _ _ stamp m => stampOk stamp && ptpOk m
  | .followUpReceived _ _ m => ptpOk m
  | .pdelayReqReceived _ _ stamp m => stampOk stamp && ptpOk m
  | .pdelayReqSend _ _ => true
  | .pdelayRespReceived _ _ stamp m => stampOk stamp && ptpOk m
  | .pdelayRespFollowUpReceived _ _ stamp m => stampOk stamp && ptpOk m
  | .pdelayRespTimeout _ _ => true
  | .announceTimeout _ _ => true
  | .syncTimeout _ _ => true
  | .slewEnd _ => true
  | .slotStateExchange => true
  | .xplaneMeasure _ => true
  | .revertHoldExpire => true
  | .laneDefaultReturn _ => true
  | .laneTimeSample _ => true
  | .residenceEntryExpire _ => true
  | .txqEntryRead _ _ => true
  | .ppsOutEdge _ _ => true
  | .ppsDriveChange => true
  | .ppsInEdge => true
  | .linkUp _ _ _ => true
  | .linkDown _ _ _ _ _ => true
  | .prtCfgWrite _ _ _ => true
  | .forwardingDecision _ _ stamp f => stampOk stamp && lineOk f
  | .frameReceiveEnd _ _ stamp f _ => stampOk stamp && lineOk f
  | .macControlFrameReceived _ _ _ _ body _ => decide (body.length + 14 ≤ 16379)
  | .pauseExpire _ _ _ => true
  | .pauseFrameSend _ _ => true
  | .pauseRefresh _ _ => true
  | .egressDequeue _ _ _ => true
  | .frameTransmitEnd _ _ => true
  | .linkHoldExpire _ _ => true
  | .fdbAgeOut _ _ => true
  | .hsrDupExpire _ => true
  | .supervisionFrameSend _ => true
  | .ipLinkDown => true
  | .ownerHandback => true
  | .mgFrameReceived _ f _ => lineOk f
  | .mgTxKick _ => true
  | .mgRingBaseWrite _ _ _ _ => true
  | .hcapEnable _ => true
  | .prtCntClr _ _ => true
  | .pswCntClr _ => true
  | .mergeCopyReceived _ _ => true
  | .mergeDeadline _ _ _ => true
  | .seqAssignmentReceived _ => true
  | .seqCacheExpire _ => true
  | .seqWaitExpire _ _ _ => true
  | .svCopyReceived _ _ stamp _ m => stampOk stamp && svOk m
  | .timingCopyWaitExpire _ _ => true
  | .gridStart _ => true
  | .gridInstant _ => true
  | .alignmentDeadline _ _ => true
  | .soloMissingRelease _ _ => true
  | .lossDeadline _ _ => true
  | .ingCntClr _ => true
  | .slotServe _ _ => true
  | .filterEnable _ => true
  | .coefficientWrite _ _ _ _ _ => true
  | .swapPost _ _ => true
  | .fltCntClr _ => true
  | .tokenAccept _ _ => true
  | .overload _ _ => true
  | .engineSelect _ _ => true
  | .groupWeightWrite _ _ _ => true
  | .groupIntakeClose _ _ => true
  | .groupIntakeOpen _ _ => true
  | .histSelect _ _ _ => true
  | .loadWindowEnd _ => true
  | .qulCntClr _ => true
  | .opPhasor _ _ _ => true
  | .opSeq _ _ _ => true
  | .opDiff _ _ _ => true
  | .opDist _ _ _ => true
  | .opDir _ _ _ => true
  | .opIdmt _ _ _ => true
  | .opDeft _ _ _ => true
  | .opFreq _ _ _ => true
  | .opHarm _ _ _ => true
  | .opInst _ _ _ => true
  | .opsCntClr _ => true
  | .horizonApply _ _ => true
  | .pendingQueueRoom _ => true
  | .snapshot _ => true
  | .mapRequestWrite _ _ _ _ _ _ _ _ => true
  | .mapRequestSnap _ _ _ _ _ _ _ => true
  | .mapRequestInvalid _ _ _ _ _ => true
  | .mapEnable _ => true
  | .mapCntClr _ => true
  | .gooseCopyReceived _ _ stamp _ f => stampOk stamp && gooseOk f
  | .gooseTimingWaitExpire _ _ => true
  | .gooseDeadline _ _ => true
  | .scribeCycleStart _ _ => true
  | .skippedLatticeInstant _ _ => true
  | .scrNop _ _ => true
  | .scrLd _ _ => true
  | .scrLdn _ _ => true
  | .scrAnd _ _ => true
  | .scrAndn _ _ => true
  | .scrOr _ _ => true
  | .scrOrn _ _ => true
  | .scrXor _ _ => true
  | .scrXorn _ _ => true
  | .scrPush _ _ => true
  | .scrPopand _ _ => true
  | .scrPopor _ _ => true
  | .scrPopxor _ _ => true
  | .scrNot _ _ => true
  | .scrSt _ _ => true
  | .scrStn _ _ => true
  | .scrS _ _ => true
  | .scrRst _ _ => true
  | .scrEdger _ _ => true
  | .scrEdgef _ _ => true
  | .scrTon _ _ => true
  | .scrTof _ _ => true
  | .scrTp _ _ => true
  | .scrCtu _ _ => true
  | .scrCtd _ _ => true
  | .scrCrst _ _ => true
  | .scrCld _ _ => true
  | .scrLdw _ _ => true
  | .scrStw _ _ => true
  | .scrLdi _ _ => true
  | .scrLui _ _ => true
  | .scrAdd _ _ => true
  | .scrSub _ _ => true
  | .scrAndw _ _ => true
  | .scrOrw _ _ => true
  | .scrXorw _ _ => true
  | .scrCmpeq _ _ => true
  | .scrCmpgt _ _ => true
  | .scrCmplt _ _ => true
  | .scrFcmpgt _ _ => true
  | .scrFcmplt _ _ => true
  | .scrSetq _ _ => true
  | .scrQmax _ _ => true
  | .scrJmp _ _ => true
  | .scrJmpc _ _ => true
  | .scrJmpcn _ _ => true
  | .scrEnd _ _ => true
  | .scribeRestart _ _ _ _ => true
  | .scribeStop _ _ _ _ => true
  | .forceCommit _ _ _ _ => true
  | .forceReset _ _ _ _ => true
  | .scribeCommandNop _ _ _ _ _ => true
  | .scribeCommandAt _ _ => true
  | .scrCntClr _ _ => true
  | .noticeReceived _ => true
  | .scheduledEvaluation _ _ => true
  | .issueSend _ _ => true
  | .pubEnable _ _ => true
  | .echoReceived _ => true
  | .tripNoticeDue _ _ => true
  | .tripMinOnExpire _ _ => true
  | .tripDisagree _ _ => true
  | .pubCntClr _ => true
  | .checkValueStart _ _ => true
  | .checkValueDone _ _ => true
  | .rowDecision _ => true
  | .xtrigDriveRelease _ _ => true
  | .triggerPinEdge _ _ => true
  | .recordClose _ => true
  | .drcRelease _ _ => true
  | .drcResume _ => true
  | .manualTriggerPost _ _ _ => true
  | .recorderEnable _ _ => true
  | .drcCntClr _ => true
  | .insStart _ _ _ _ => true
  | .insQuiesce _ _ _ _ => true
  | .insResume _ _ _ _ => true
  | .insAbort _ _ _ _ => true
  | .insReset _ _ _ _ => true
  | .instanceBadcmd _ _ _ _ _ => true
  | .drainDecision _ _ => true
  | .instanceDrained _ _ => true
  | .abortComplete _ _ => true
  | .resetComplete _ _ => true
  | .vintInject _ _ _ => true
  | .epochGo _ => true
  | .epochClearDone _ => true
  | .insOcntClr _ _ => true
  | .canStartOfFrame _ => true
  | .canFrameReceived _ f => canOk f
  | .receiveRecordApply _ => true
  | .rxTimeout _ _ => true
  | .txQueueCyclic _ => true
  | .canSend _ _ => true
  | .canObjectResume _ _ => true
  | .canAbortTx _ _ => true
  | .txAttemptEnd _ _ => true
  | .busOffRecovered _ => true
  | .fieldBusEnable _ _ => true
  | .rateDetectDwellExpire _ => true
  | .pairPrefMove _ => true
  | .fbsCntClr _ => true
  | .standbyEntry => true
  | .standbyExit => true
  | .vinkLoss => true
  | .vinkRestored => true
  | .vaultTimeSave => true
  | .oscFail => true
  | .ophTick => true
  | .tamperAssert _ => true
  | .evrRead _ _ _ _ _ bad _ => bad.all (fun n => decide (n < 262144))
  | .evrClear _ _ _ => true
  | .evrRlSet _ _ _ _ _ => true
  | .evrRlGet _ _ _ => true
  | .tagRead _ _ _ _ _ _ => true
  | .tagWrite _ _ _ _ _ _ => true
  | .idRead _ _ _ _ => true
  | .lcStatus _ _ => true
  | .lcAdvance _ _ _ _ => true
  | .rootKeySet _ _ _ _ _ _ _ _ => true
  | .keyWrite _ _ _ _ _ _ => true
  | .keyDerive _ _ _ _ _ _ _ _ _ => true
  | .keyInvalidate _ _ _ => true
  | .keyStatus _ _ _ => true
  | .mcountRead _ _ => true
  | .mcountInc _ _ _ => true
  | .rollbackAdvance _ _ => true
  | .attest _ _ _ _ => true
  | .tamperCfg _ _ _ => true
  | .keyStale => true
  | .keyZeroised => true
  | .ppsWidthExpire _ _ => true
  | .ipLinkRestored => true
  | .oscillatorRestart => true
  | .canReceiveError _ _ => true

end Sys2Proof
end

