-- ==== Sys2Proof/Certificates/Slice0/Obligations.lean ====
section
/-!
DEFINITION. The statements for the provers: what the commands and the machine do, by the spec's numbered rules.
-/

open Sys2Proof Sys2Proof.Machine


/-- A step runs the command at the front of the queue on the state with the queue's rest (00_scope.md,
01_device_architecture.md). For every command c and state s whose queue is c followed by rest, step s is exec of c on s with
the queue rest. The queue is the model's own; first in, first out. -/
def Obligations.StepRunsFront : Prop :=
  ∀ (c : Instr) (rest : List Instr) (s : State), s.pending = c :: rest →
    step s = exec c { s with pending := rest }

/-- With no command waiting a step lets 2 ns pass and stores to no memory (the model's choice, log entry 2)
(01_device_architecture.md, Table 1.2, 03_time_base.md). On an empty queue, step answers a next state whose elapsed time is
2 ns (131,072 units of 2^-16 ns) later, with the queue still empty, with the lane memories, the flash, the domain states,
the pairing queues, the pins and Common's state as before, and every register but CFG_TIME_FOLLOW of the two lanes and
TIM_STATUS of the two planes, which show a slew's end, as before. That an empty queue is a tick is the model's choice. -/
def Obligations.EmptyQueueLetsTimePass : Prop :=
  ∀ s : State, s.pending = [] →
    Answers (step s) fun t =>
      t.real = s.real + 131072 ∧ t.pending = [] ∧ t.mem0 = s.mem0 ∧ t.mem1 = s.mem1 ∧ t.flash0 = s.flash0 ∧
      t.flash1 = s.flash1 ∧ t.dom = s.dom ∧ t.pairQ = s.pairQ ∧ t.pins = s.pins ∧ t.com = s.com ∧ t.shreg = s.shreg ∧
      RegsOutside followsAt s t

/-- After reset every register reads its reset value, only Common and Inkwell are UP, and nothing waits
(01_device_architecture.md, Common CFG_ registers, R34, R35). In State.reset each register of each page reads the value its
register line gives (log entry 3 names those the spec leaves to the vault, a descriptor or the banks), CFG_DOMAIN_STATUS
reads 0x0000_0500 and CFG_DEVICE_ID 0x9680_0B01, CFG_LANE_ID reads the lane's number, every table-window word reads 0, no
paired write, event record or command waits, no lane memory byte is listed, and every store is in its canonical form. -/
def Obligations.ResetState : Prop :=
  (∀ (p : Page) (r : RegId) (k : Nat), State.reset.rd p r k = r.resetAt p k) ∧
  State.reset.regView .cfg .CFG_DOMAIN_STATUS 0 = 0x00000500 ∧
  State.reset.regView .cfg .CFG_DEVICE_ID 0 = 0x96800B01 ∧
  (∀ l : Lane, State.reset.rd (.lcfg l) .CFG_LANE_ID = BitVec.ofNat 32 l.idx) ∧
  (∀ a : Nat, State.reset.win a = 0) ∧
  (∀ (t : PairTarget) (l : Lane), State.reset.pairQ_ t l = []) ∧
  (∀ d : Dom, State.reset.evq d = ⟨[], 0⟩) ∧
  State.reset.pending = [] ∧ State.reset.mem0 = [] ∧ State.reset.mem1 = [] ∧ MemsWf State.reset ∧ RegsWf State.reset

/-- Every command answers a next state in every state: none faults and none is refused (R7, 95_what_each_step_holds.md). For
every command and every state, well-formed or not, exec answers a next state: what the spec refuses (an access of R7, a
mailbox command with an error status) is a next state in which the refusal is reported. -/
def Obligations.EveryCommandAnswers : Prop :=
  ∀ (c : Instr) (s : State), Completes (exec c s)

/-- A steward write to a plane register that has no row of its own stores each field by its access code and touches nothing else
(R7, R8, R9, R12). With Common and the plane UP and no paired write waiting, an aligned 32-bit steward write to a plane
register other than those whose write starts something answers a state in which each RW or RWL field holds the written bits
(the old ones where its table says the value leaves it unchanged or the lock is set), RO and RC fields are as before, W1C
fields lose the bits written 1, W1S fields gain them, WO fields and every bit outside the fields read 0, and every other
register and the rest of the State are as before. exec is concluded to answer a next state, with this effect, for:
registerWrite. -/
def Obligations.StoreByAccessCode : Prop :=
  ∀ (p : Plane) (o : Nat) (pg : Page) (r : RegId) (k : Nat) (data : Word) (s : State),
    s.up .common = true → s.planeUp p = true → (∀ u m, s.pairQ_ u m = []) → o < 0x1000000 → o % 4 = 0 → planeAt p o = .reg pg r k →
    r ∉ [RegId.TIM_CTRL, .TIM_DOM_CFG, .PSW_CTRL, .PRT_CNT_CLR, .PSW_CNT_CLR, .PSW_HCAP_CTRL, .PRT_CFG, .PRT_MAXLEN, .PSW_IN_LIM] →
    Answers (exec (.registerWrite .steward (planeBase p + o) 4 data) s) fun t =>
      (∀ f ∈ r.fields,
        let old := s.fld pg f k
        let new := bitsOf data.toNat f.hi f.lo
        t.fld pg f k =
          match f.acc with
          | .rw => if s.fldTakes pg k f new then fldClamp f new else old
          | .rwl => if s.regLocked pg r || !s.fldTakes pg k f new then old else new
          | .ro | .rc => old
          | .wo => 0
          | .w1c => old - Nat.land old new
          | .w1s => Nat.lor old new) ∧
      (∀ b < 32, (∀ f ∈ r.fields, b < f.lo ∨ f.hi < b) → bitsOf (t.rd pg r k).toNat b b = 0) ∧
      RegsOutside [regAt pg r k] s t ∧ t.body = s.body

/-- A steward read clears RC fields and a core's read clears nothing; a refused access writes nothing, reads 0 and is captured
once (R8, R10, R40, R7, R32, R36, R435). With Common and the plane UP, an aligned 32-bit read of a plane register other than
the four whose read latches or removes something else answers a state whose read data is the register's value. Read by the
steward or JTAG, the register's RC fields read 0 afterwards, its other fields, every other register and the rest of the
State are as before. Read by a core of a lane that is UP, every register keeps its value. With Common UP, an access by the
steward that is not an aligned 32-bit one to a plane register block, or that names a reserved range of Table 1.6, changes no
register but the BLT_ACC ones and nothing else of the State but the read data; a read returns 0; with VALID clear before,
VALID is set with the direction, the reason and the address. A core's access to the other lane's memory range or to an
absolute lane register range is refused with REASON 2 and captured in its lane's CFG_ACC_STATUS. Which reason wins where
several hold is the model's choice (log entry 14). exec is concluded to answer a next state, with this effect, for:
registerWrite, rcFieldRead. -/
def Obligations.RegisterReadsAndRefusals : Prop :=
  (∀ (p : Plane) (o : Nat) (pg : Page) (r : RegId) (k : Nat) (jtag : Bool) (l : Lane) (s : State),
    s.up .common = true → s.planeUp p = true → o < 0x1000000 → o % 4 = 0 → planeAt p o = .reg pg r k →
    r ∉ [RegId.TIM_NOW_W0, .TIM_TXQ_ENT, .PRT_CNT, .PSW_BUF_LOW] →
    (Answers (exec (.rcFieldRead (if jtag then .jtag else .steward) (planeBase p + o) 4) s) fun t =>
      t.rdata = s.regView pg r k ∧
      (∀ f ∈ r.fields, t.fld pg f k = if f.acc = .rc then 0 else s.fld pg f k) ∧
      RegsOutside [regAt pg r k] s t ∧ { t.body with rdata := s.rdata } = s.body) ∧
    (s.laneUp l = true →
      exec (.rcFieldRead (.manager l) (planeBase p + o) 4) s = .next { s with rdata := s.regView pg r k })) ∧
  (∀ (a size : Nat) (data : Word) (l : Lane) (s : State), s.up .common = true → (∀ u m, s.pairQ_ u m = []) → a < 2 ^ 48 →
    ((placeAt a = .reserved ∨ (∃ p o, placeAt a = .plane p o ∧ ¬(size = 4 ∧ o % 4 = 0))) →
      let why : Why := if placeAt a = .reserved then .range else .size
      let acc := [regAt .blt .BLT_ACC_STATUS, regAt .blt .BLT_ACC_ADDR_LO, regAt .blt .BLT_ACC_ADDR_HI]
      let captured := fun (wr : Bool) (t : State) =>
        s.bit .blt F.BLT_ACC_STATUS_VALID = false →
          t.fld .blt F.BLT_ACC_STATUS_VALID = 1 ∧ t.fld .blt F.BLT_ACC_STATUS_WRITE = b2n wr ∧
          t.fld .blt F.BLT_ACC_STATUS_REASON = why.code ∧ t.fld .blt F.BLT_ACC_STATUS_INIT = 0 ∧
          (t.rd .blt .BLT_ACC_ADDR_LO).toNat + 2 ^ 32 * (t.rd .blt .BLT_ACC_ADDR_HI).toNat = a;
      (Answers (exec (.registerWrite .steward a size data) s) fun t =>
        captured true t ∧ RegsOutside acc s t ∧ t.body = s.body) ∧
      (Answers (exec (.rcFieldRead .steward a size) s) fun t =>
        t.rdata = 0 ∧ captured false t ∧ RegsOutside acc s t ∧ { t.body with rdata := s.rdata } = s.body)) ∧
    (s.laneUp l = true → ((∃ o, placeAt a = .mem .l1 o) ∨ (∃ m o, placeAt a = .laneReg m o)) →
      Answers (exec (.registerWrite (.manager l) a size data) s) fun t =>
        (s.bit (.lcfg l) F.CFG_ACC_STATUS_VALID = false →
          t.fld (.lcfg l) F.CFG_ACC_STATUS_VALID = 1 ∧ t.fld (.lcfg l) F.CFG_ACC_STATUS_REASON = 2) ∧
        RegsOutside [regAt (.lcfg l) .CFG_ACC_STATUS] s t ∧ t.body = s.body))

/-- A paired write is performed once when the heads agree, discarded on a mismatch, and a head with no partner for 1.0 ms times
out in both lanes (R37, R38, R39). For a register of a plane that is UP: while the other lane is not UP and nothing waits,
the write takes effect at once. With both lanes UP and the partner's queue empty, it joins the end of its lane's queue and
nothing else changes. With its own queue empty and one partner waiting with the same address and data, both leave and the
target performs the write once. With a partner that differs, both queues are discarded, the target's MISMATCH bit is set in
CFG_PAIR_STATUS of both lanes, every other status bit stays, and only the event recorder's and the vector registers change
beside. With both lanes UP, a head in the lane's queue and an empty partner queue, PAIR_TIMEOUT answers a state in which
that head alone has left the queue, at least 1.0 ms after it began to wait, the target's TIMEOUT bit is set in
CFG_PAIR_STATUS of both lanes and the other pair status bits are as before; beside them only the registers that passing
time, the event and the vectors write change. That the wait counts from when the write became the head is the model's
reading (log entry 15). exec is concluded to answer a next state, with this effect, for: pairedWrite, pairTimeout. -/
def Obligations.PairedWrites : Prop :=
  (∀ (p : Plane) (l : Lane) (addr o : Nat) (data : Word) (pg : Page) (r : RegId) (k : Nat) (s : State),
    s.planeUp p = true → s.laneUp l = true → placeAt addr = .plane p o → o % 4 = 0 → planeAt p o = .reg pg r k →
    let tg : PairTarget := pairTgt (.plane p o);
    (s.laneUp l.other = false → (∀ u m, s.pairQ_ u m = []) →
      exec (.pairedWrite l addr data) s = .next (s.regWrite pg r k data).settlePairs) ∧
    (s.laneUp l.other = true → s.pairQ_ tg l.other = [] →
      Answers (exec (.pairedWrite l addr data) s) fun t =>
        (t.pairQ_ tg l).map (fun e => (e.addr, e.data)) = (s.pairQ_ tg l).map (fun e => (e.addr, e.data)) ++ [(addr, data)] ∧
        (∀ u m, (u, m) ≠ (tg, l) → t.pairQ_ u m = s.pairQ_ u m) ∧ { t with pairQ := s.pairQ } = s) ∧
    (∀ e : PairEntry, s.laneUp l.other = true → s.pairQ_ tg l = [] → s.pairQ_ tg l.other = [e] →
      let gone := fun (t : State) => ∀ u m, t.pairQ_ u m = if u = tg then [] else s.pairQ_ u m;
      (e.addr = addr ∧ e.data = data →
        ∃ u : State, gone u ∧ { u with pairQ := s.pairQ } = s ∧
          exec (.pairedWrite l addr data) s = .next (u.regWrite pg r k data).settlePairs) ∧
      (¬(e.addr = addr ∧ e.data = data) →
        Answers (exec (.pairedWrite l addr data) s) fun t =>
          gone t ∧
          (∀ m b, b < 6 → bitsOf (t.rd (.lcfg m) .CFG_PAIR_STATUS).toNat b b =
            if b = pairIdx tg then 1 else bitsOf (s.rd (.lcfg m) .CFG_PAIR_STATUS).toNat b b) ∧
          RegsOutside [regAt (.lcfg .l0) .CFG_PAIR_STATUS, regAt (.lcfg .l1) .CFG_PAIR_STATUS, evrAt,
            (Page.base (.ins .l0), 0x400000), (Page.base (.ins .l1), 0x400000)] s t ∧
          { t.quiet with pairQ := s.pairQ } = s.quiet))) ∧
  (∀ (tg : PairTarget) (l : Lane) (e : PairEntry) (q : List PairEntry) (s : State),
    s.laneUp l = true → s.laneUp l.other = true → s.pairQ_ tg l = e :: q → s.pairQ_ tg l.other = [] →
    Answers (exec (.pairTimeout tg l) s) fun t =>
      (t.pairQ_ tg l).map (fun e => (e.addr, e.data)) = q.map (fun e => (e.addr, e.data)) ∧
      (∀ u m, (u, m) ≠ (tg, l) → t.pairQ_ u m = s.pairQ_ u m) ∧
      e.at_ + 1000000 * 65536 ≤ t.real ∧
      (∀ m b, b < 6 → bitsOf (t.rd (.lcfg m) .CFG_PAIR_STATUS).toNat b b =
        if b = pairIdx tg + 3 then 1 else bitsOf (s.rd (.lcfg m) .CFG_PAIR_STATUS).toNat b b) ∧
      RegsOutside (followsAt ++ [regAt (.lcfg .l0) .CFG_PAIR_STATUS, regAt (.lcfg .l1) .CFG_PAIR_STATUS, evrAt,
        (Page.base (.ins .l0), 0x400000), (Page.base (.ins .l1), 0x400000)]) s t ∧
      t.mem0 = s.mem0 ∧ t.mem1 = s.mem1 ∧ t.flash0 = s.flash0 ∧ t.flash1 = s.flash1 ∧ t.dom = s.dom ∧ t.pending = s.pending)

/-- Window writes reach every UP lane and reads compare the lanes; a word failing parity at a fence is counted with an event
(R41, R42, R13, R30, R434). For an aligned word of the lane broadcast window that names a register: a steward or JTAG write
acts in each lane that is UP, Lane 0 first, and in no other. A read with one lane UP is that lane's read; with none UP it
returns 0 and sets NOLANE and nothing else; with both UP it returns Lane 0's value after reading both, and a difference sets
CFG_BCAST_STATUS.MISMATCH, with CFG_BCAST_ADDR, DATA0 and DATA1 taking the offset and the two values only where MISMATCH was
0. Between two domains that are UP, a word that fails its parity check adds 1 to the receiving domain's BLT_UNC count,
saturating; only the event recorder's registers change beside, and beyond the registers only what recording an event
touches. While the recorder cannot take records, a plane's or lane's event joins its queue of 64 with the code of the
counter. A word that passes the check changes nothing, but for a single-bit error met by the receiving side, which counts in
BLT_CORR of its domain, and so it does beside a failed check. exec is concluded to answer a next state, with this effect,
for: fenceWordCrossing, broadcastWrite, broadcastRead. -/
def Obligations.WindowsAndFences : Prop :=
  (∀ (o : Nat) (jtag : Bool) (data : Word) (s : State), s.up .common = true → o < 0x10000000 → o % 4 = 0 → laneAt .l0 o ≠ .none →
    let a := 0x001030000000 + o;
    (s.laneUp .l0 = true → s.laneUp .l1 = true →
      exec (.broadcastWrite jtag a data) s = .next ((s.tgtWrite (laneAt .l0 o) data).tgtWrite (laneAt .l1 o) data)) ∧
    (∀ l : Lane, s.laneUp l = true → s.laneUp l.other = false →
      exec (.broadcastWrite jtag a data) s = .next (s.tgtWrite (laneAt l o) data) ∧
      exec (.broadcastRead jtag a) s = .next (s.tgtRead (laneAt l o) true)) ∧
    (s.laneUp .l0 = false → s.laneUp .l1 = false →
      exec (.broadcastWrite jtag a data) s = .next s ∧
      Answers (exec (.broadcastRead jtag a) s) fun t =>
        t.rdata = 0 ∧ t.fld .cfg F.CFG_BCAST_STATUS_NOLANE = 1 ∧
        t.fld .cfg F.CFG_BCAST_STATUS_MISMATCH = s.fld .cfg F.CFG_BCAST_STATUS_MISMATCH ∧
        RegsOutside [regAt .cfg .CFG_BCAST_STATUS] s t ∧ { t.body with rdata := s.rdata } = s.body) ∧
    (s.laneUp .l0 = true → s.laneUp .l1 = true →
      let u := s.tgtRead (laneAt .l0 o) true
      let w := u.tgtRead (laneAt .l1 o) true
      Answers (exec (.broadcastRead jtag a) s) fun t =>
        t.rdata = u.rdata ∧ { t.body with rdata := w.rdata } = w.body ∧
        (u.rdata = w.rdata ∨ w.bit .cfg F.CFG_BCAST_STATUS_MISMATCH = true → t.regs = w.regs) ∧
        (u.rdata ≠ w.rdata → w.bit .cfg F.CFG_BCAST_STATUS_MISMATCH = false →
          t.fld .cfg F.CFG_BCAST_STATUS_MISMATCH = 1 ∧
          t.fld .cfg F.CFG_BCAST_STATUS_NOLANE = w.fld .cfg F.CFG_BCAST_STATUS_NOLANE ∧
          t.fld .cfg F.CFG_BCAST_ADDR_IWIN = 0 ∧ t.fld .cfg F.CFG_BCAST_ADDR_OFFSET = o ∧
          t.rd .cfg .CFG_BCAST_DATA0 = u.rdata ∧ t.rd .cfg .CFG_BCAST_DATA1 = w.rdata ∧
          RegsOutside [regAt .cfg .CFG_BCAST_STATUS, regAt .cfg .CFG_BCAST_ADDR, regAt .cfg .CFG_BCAST_DATA0,
            regAt .cfg .CFG_BCAST_DATA1] w t))) ∧
  (∀ (tx rx : Dom) (s : State),
    exec (.fenceWordCrossing tx rx true false) s = .next s ∧
    (s.up tx = true → s.up rx = true →
      Answers (exec (.fenceWordCrossing tx rx true true) s) fun t =>
        t.fld .blt F.BLT_CORR_COUNT (domBltIdx rx) = min (s.fld .blt F.BLT_CORR_COUNT (domBltIdx rx) + 1) (2 ^ 32 - 1) ∧
        RegsOutside [regAt .blt .BLT_CORR (domBltIdx rx), evrAt] s t ∧ t.quiet = s.quiet) ∧
    (s.up tx = true → s.up rx = true → exec (.fenceWordCrossing tx rx false true) s = exec (.fenceWordCrossing tx rx false false) (s.countCorr rx)) ∧
    (s.up tx = true → s.up rx = true →
      Answers (exec (.fenceWordCrossing tx rx false false) s) fun t =>
        t.fld .blt F.BLT_UNC_COUNT (domBltIdx rx) = min (s.fld .blt F.BLT_UNC_COUNT (domBltIdx rx) + 1) (2 ^ 32 - 1) ∧
        RegsOutside [regAt .blt .BLT_UNC (domBltIdx rx), evrAt] s t ∧ t.quiet = s.quiet ∧
        (s.evrReady = false → (∃ p, rx = .plane p) ∨ (∃ l, rx = .lane l) → (s.evq rx).recs.length < 64 →
          (t.evq rx).recs.map (fun r => (r.src, r.code)) =
            (s.evq rx).recs.map (fun r => (r.src, r.code)) ++ [(domSrc rx, 19 * 1024 + 32 + domBltIdx rx)])))

/-- GO runs the opcode on latched words or ends in DENIED or BUSY; the reading opcodes end OK with their results and change
nothing else (R58, R60, R62, R64, R395, R404, R413). For every row submitted through the mailbox: while Common is not UP
nothing happens. With the steward running: GO while BUSY sets OVERRUN, leaves the running command and changes only the
channel's registers; on channel 1 in OPERATIONAL an opcode outside the read commands will complete with DENIED and has no
other effect; while the other channel runs a command of the same resource the command completes at once with BUSY, its tag
and zero results; otherwise the opcode's command runs with its opcode, tag and sixteen argument words latched, and BUSY is
set. Submitted on a channel that admits it, each command holds its results for completion and changes nothing but the
channel: PING the firmware version; GET_INFO the active IMAGE_ID's four words, SEC_VERSION, firmware version and STW_BANK;
LC_STATUS the lifecycle state, MCOUNT2 and KEY_ROOT_STATUS; KEY_STATUS of a slot 0 to 63 its four descriptor words;
MCOUNT_READ the eight counters; EVR_RL_GET, with Inkwell UP, an entry's CODE and VALID, BURST and INTERVAL, tokens and
suppressed count. exec is concluded to answer a next state, with this effect, for: ping, getInfo, evrRlGet, lcStatus,
keyStatus, mcountRead. -/
def Obligations.MailboxGatesAndReads : Prop :=
  (∀ (c : Instr) (ch : Fin 2) (tag : BitVec 16) (op : Nat) (args : List Nat) (s : State), mboxRow c = some (ch, tag, op, args) →
    (s.up .common = false → exec c s = .next s) ∧
    (s.up .common = true → s.com.steward = true →
      (s.bit (.stw ch) F.STW_STATUS_BUSY = true →
        Answers (exec c s) fun t =>
          t.fld (.stw ch) F.STW_STATUS_OVERRUN = 1 ∧ RegsOutside [stwAt ch] s t ∧ t.body = s.body) ∧
      (s.bit (.stw ch) F.STW_STATUS_BUSY = false → ch = 1 → s.lifecycle = 2 → op ∉ readOps →
        Answers (exec c s) fun t => MboxRuns t ch op tag args 0x11 [] false ∧ MboxOnly ch s t) ∧
      (∀ m : MbRun, s.bit (.stw ch) F.STW_STATUS_BUSY = false → (ch = 0 ∨ s.lifecycle ≠ 2 ∨ op ∈ readOps) →
        s.mbox (1 - ch.val) = some m → opResource op ≠ 0 → opResource m.op = opResource op →
        Answers (exec c s) fun t =>
          t.mbox ch = none ∧ t.mbox (1 - ch.val) = some m ∧ t.fld (.stw ch) F.STW_STATUS_CODE = 3 ∧
          t.fld (.stw ch) F.STW_STATUS_TAG = tag.toNat ∧ t.fld (.stw ch) F.STW_STATUS_DONE = 1 ∧
          t.fld (.stw ch) F.STW_STATUS_BUSY = 0 ∧ (∀ i < 16, t.rd (.stw ch) .STW_RES i = 0) ∧
          t.mem0 = s.mem0 ∧ t.mem1 = s.mem1 ∧ t.flash0 = s.flash0 ∧ t.flash1 = s.flash1 ∧ t.ink = s.ink) ∧
      (MboxReady s ch op → Answers (exec c s) fun t => MboxDoes ch op tag args s t fun _ _ => True))) ∧
  (∀ (ch : Fin 2) (tag : BitVec 16) (n : Word) (s : State),
    (MboxReady s ch 0x01 → Answers (exec (.ping ch tag) s) fun t =>
      MboxRuns t ch 0x01 tag [] 0 [s.com.fwVer] false ∧ MboxOnly ch s t) ∧
    (MboxReady s ch 0x02 → Answers (exec (.getInfo ch tag) s) fun t =>
      MboxRuns t ch 0x02 tag [] 0
        [s.com.imageId % 2 ^ 32, s.com.imageId / 2 ^ 32 % 2 ^ 32, s.com.imageId / 2 ^ 64 % 2 ^ 32, s.com.imageId / 2 ^ 96 % 2 ^ 32,
          s.com.imageSec, s.com.fwVer, (s.rd .stwLoad .STW_BANK).toNat] false ∧ MboxOnly ch s t) ∧
    (MboxReady s ch 0x40 → Answers (exec (.lcStatus ch tag) s) fun t =>
      MboxRuns t ch 0x40 tag [] 0 [s.fld .ink F.INK_STATUS_LIFECYCLE, s.fld .key F.KEY_MCOUNT_COUNT 2,
        (s.regView .key .KEY_ROOT_STATUS 0).toNat] false ∧ MboxOnly ch s t) ∧
    (MboxReady s ch 0x4B → n.toNat < 64 → Answers (exec (.keyStatus ch tag n) s) fun t =>
      MboxRuns t ch 0x4B tag [n.toNat] 0 [s.keyWord n.toNat 0, s.keyWord n.toNat 1, s.keyWord n.toNat 2, s.keyWord n.toNat 3] false ∧
      MboxOnly ch s t) ∧
    (MboxReady s ch 0x50 → Answers (exec (.mcountRead ch tag) s) fun t =>
      MboxRuns t ch 0x50 tag [] 0 ((List.range 8).map (fun k => s.fld .key F.KEY_MCOUNT_COUNT k)) false ∧ MboxOnly ch s t) ∧
    (∀ e : RlEntry, MboxReady s ch 0x63 → s.up .inkwell = true →
      (n.toNat = 0xFFFF ∧ e = s.ink.rlDef ∨ n.toNat < 1024 ∧ e = assocGetD s.ink.rl n.toNat ⟨0, false, 255, 1, 0, 0, 0⟩) →
      Answers (exec (.evrRlGet ch tag n) s) fun t =>
        MboxRuns t ch 0x63 tag [n.toNat] 0 [e.code + b2n e.valid * 2 ^ 31, e.burst + e.interval * 65536, e.tokens, e.suppressed] false ∧
        MboxOnly ch s t))

/-- Completion writes results, TAG and CODE and clears BUSY; CANCEL ends only the commands R59 names; an undefined opcode is
BADCMD (R58, R59, R62). A running command that waits for nothing completes: STW_RES0 to 15 take its results, 0 where it has
none, STW_STATUS takes its TAG and CODE, DONE is 1 and BUSY 0, OVERRUN is as before, and the channel is free; with DONE_IE
set, vector 48 is pending at the manager of each lane that is UP; only the channel's registers and, with DONE_IE, the vector
registers change. The submission rules that R58 also gives are stated with it: GO while BUSY is 0 runs the command on words
latched at that write, GO while BUSY is 1 sets OVERRUN and is ignored. EVR_CLEAR's clearing, which ends at completion, is
stated in VaultCommands. CANCEL leaves the state as it is on an idle channel, and on one whose running command R59 does not
name; a running IMAGE_STAGE, FLASH_ERASE_BANK, FLASH_WRITE, FLASH_VERIFY_BANK, LANE_CONVERGE or DUMP_READ that has not
failed will complete with CANCELLED and without results; a cancelled LANE_CONVERGE compares no more. An opcode that no
chapter defines will complete with BADCMD, and nothing but the channel changes. exec is concluded to answer a next state,
with this effect, for: mailboxBadcmd, mailboxCancel, mailboxComplete. -/
def Obligations.MailboxEnds : Prop :=
  ((∀ (ch : Fin 2) (m : MbRun) (s : State), s.up .common = true → s.com.steward = true → s.mbox ch = some m → m.wait = false →
    m.op ≠ 0x61 → m.tag < 2 ^ 16 → m.code < 256 →
    Answers (exec (.mailboxComplete ch) s) fun t =>
      t.mbox ch = none ∧ (∀ i < 16, t.rd (.stw ch) .STW_RES i = BitVec.ofNat 32 (m.res.getD i 0)) ∧
      t.fld (.stw ch) F.STW_STATUS_TAG = m.tag ∧ t.fld (.stw ch) F.STW_STATUS_CODE = m.code ∧
      t.fld (.stw ch) F.STW_STATUS_DONE = 1 ∧ t.fld (.stw ch) F.STW_STATUS_BUSY = 0 ∧
      t.fld (.stw ch) F.STW_STATUS_OVERRUN = s.fld (.stw ch) F.STW_STATUS_OVERRUN ∧
      (s.bit (.stw ch) F.STW_INT_EN_DONE_IE = false → RegsOutside [stwAt ch] s t) ∧
      (s.bit (.stw ch) F.STW_INT_EN_DONE_IE = true → ∀ l, s.laneUp l = true →
        bitsOf (t.rd (.insPage l 64) .INS_VINT_PEND 1).toNat 16 16 = 1) ∧
      RegsOutside [stwAt ch, (Page.base (.ins .l0), 0x400000), (Page.base (.ins .l1), 0x400000)] s t ∧
      { t.body with com := { t.com with mb0 := s.com.mb0, mb1 := s.com.mb1 } } = s.body ∧ t.mbox (1 - ch.val) = s.mbox (1 - ch.val)) ∧
  (∀ (c : Instr) (ch : Fin 2) (tag : BitVec 16) (op : Nat) (args : List Nat) (s : State), mboxRow c = some (ch, tag, op, args) →
    s.up .common = true → s.com.steward = true →
    (s.bit (.stw ch) F.STW_STATUS_BUSY = true →
      Answers (exec c s) fun t => t.mbox ch = s.mbox ch ∧ t.fld (.stw ch) F.STW_STATUS_OVERRUN = 1) ∧
    (MboxReady s ch op → Answers (exec c s) fun t => ∃ code res wait,
      t.mbox ch = some ⟨op, tag.toNat, (List.range 16).map (fun i => args.getD i 0), code, res, wait⟩))) ∧
  (∀ (ch : Fin 2) (tag : BitVec 16) (op : BitVec 8) (m : MbRun) (s : State),
    (s.mbox ch = none ∨ (s.mbox ch = some m ∧ m.op ∉ [0x20, 0x10, 0x11, 0x12, 0x23, 0x30]) → exec (.mailboxCancel ch) s = .next s) ∧
    (s.up .common = true → s.com.steward = true → s.mbox ch = some m → m.op ∈ [0x20, 0x10, 0x11, 0x12, 0x23, 0x30] → m.code = 0 →
      Answers (exec (.mailboxCancel ch) s) fun t =>
        t.mbox ch = some { m with code := 0x0F, res := [], wait := false } ∧ t.mbox (1 - ch.val) = s.mbox (1 - ch.val) ∧
        t.mem0 = s.mem0 ∧ t.mem1 = s.mem1 ∧ t.dom = s.dom ∧
        (m.op = 0x23 → t.com.converge = none ∧ t.regs = s.regs) ∧
        (m.op = 0x20 → t.com.staged = none ∧ t.fld .stwLoad F.STW_LOAD_STATUS_STATE = 5 ∧
          t.fld .stwLoad F.STW_LOAD_STATUS_LAST_CODE = 0x0F)) ∧
    (MboxReady s ch op.toNat → op.toNat ∉ definedOps →
      Answers (exec (.mailboxBadcmd ch tag op) s) fun t =>
        MboxRuns t ch op.toNat tag [] 1 [] false ∧ MboxOnly ch s t))

/-- Erasing and writing a free flash bank act on that bank alone; selecting tries a verified bank, and confirming ends the trial
(R50, R52, R59, R61, R62, R51, R400, R49). FLASH_ERASE_BANK of a bank that is neither active nor fallback leaves every byte
of the bank 0xFF on each device whose access meets no error, FLASH_WRITE of a bank leaves there the bytes read from lane
memory; every byte outside the bank and the descriptors is as before, the bank counts as verified no more, and the command
ends OK, or FLASH when both devices met errors. A bank that is active or on trial's fallback ends in STATE with nothing
changed; differing lane copies end in MISMATCH with nothing changed. Whether a device errs is a free value. With a
descriptor whose SEQ has not reached its largest value: BANK_SELECT of a bank that FLASH_VERIFY_BANK passed leaves a
descriptor in use whose active bank is that bank, on trial with trial counter 0, with SEQ one higher; of a bank not verified
it ends in STATE with nothing changed. BANK_CONFIRM with a firmware bank on trial ends the trial and zeroes its counter, and
MCOUNT1 becomes the larger of its value and the firmware's security version; without a trial it ends in STATE.
FLASH_VERIFY_BANK of an image bank ends with the status of the checks of Table 2.7, of a firmware bank with that of its
verification (a free value), and counts the bank as verified only when they pass. exec is concluded to answer a next state,
with this effect, for: flashEraseBank, flashWrite, flashVerifyBank, bankSelect, bankConfirm. -/
def Obligations.FlashBanks : Prop :=
  (∀ (ch : Fin 2) (tag : BitVec 16) (w b off len : Word) (addr : BitVec 64) (v : List Byte) (s : State),
    MemsWf s → w.toNat ≤ 1 → b.toNat ≤ 1 →
    let base := bankBase w.toNat b.toNat
    let e0 := Config.flashError s.freeCtr
    let e1 := Config.flashError (s.freeCtr + 1)
    let code := if s.flashOff || (e0 && e1) then 0x0B else 0
    let rest := fun (t : State) =>
      (∀ a, 0x10000 ≤ a → a < base ∨ base + bankSize w.toNat ≤ a →
        memGet 0xFF t.flash0 a = memGet 0xFF s.flash0 a ∧ memGet 0xFF t.flash1 a = memGet 0xFF s.flash1 a) ∧
      (w.toNat, b.toNat) ∉ t.com.verified ∧ t.mem0 = s.mem0 ∧ t.mem1 = s.mem1 ∧
      RegsOutside [stwAt ch, regAt .stwLoad .STW_BANK] s t;
    (MboxReady s ch 0x10 → s.bankFree w.toNat b.toNat = true →
      Answers (exec (.flashEraseBank ch tag w b) s) fun t =>
        MboxRuns t ch 0x10 tag [w.toNat, b.toNat] code [] false ∧ rest t ∧
        (s.flashOff = false → e0 = false → ∀ a, base ≤ a → a < base + bankSize w.toNat → memGet 0xFF t.flash0 a = 0xFF) ∧
        (s.flashOff = false → e1 = false → ∀ a, base ≤ a → a < base + bankSize w.toNat → memGet 0xFF t.flash1 a = 0xFF)) ∧
    (MboxReady s ch 0x10 → s.bankFree w.toNat b.toNat = false →
      Answers (exec (.flashEraseBank ch tag w b) s) fun t =>
        MboxRuns t ch 0x10 tag [w.toNat, b.toNat] 4 [] false ∧ MboxOnly ch s t) ∧
    (MboxReady s ch 0x11 → off.toNat % 256 = 0 → len.toNat % 256 = 0 → 256 ≤ len.toNat → len.toNat ≤ 16777216 →
      off.toNat + len.toNat ≤ bankSize w.toNat → addr.toNat + len.toNat ≤ 0x400000000 → s.bankFree w.toNat b.toNat = true →
      (readLanes s addr.toNat len.toNat = .ok v →
        Answers (exec (.flashWrite ch tag w b off addr len) s) fun t =>
          (∃ res, MboxRuns t ch 0x11 tag ([w.toNat, b.toNat, off.toNat] ++ addrArgs addr ++ [len.toNat]) code res false ∧
            (code = 0 → res = [len.toNat])) ∧ rest t ∧
          (s.flashOff = false → e0 = false → memRead 0xFF t.flash0 (base + off.toNat) len.toNat = v) ∧
          (s.flashOff = false → e1 = false → memRead 0xFF t.flash1 (base + off.toNat) len.toNat = v)) ∧
      (readLanes s addr.toNat len.toNat = .error 0x0C →
        Answers (exec (.flashWrite ch tag w b off addr len) s) fun t =>
          MboxRuns t ch 0x11 tag ([w.toNat, b.toNat, off.toNat] ++ addrArgs addr ++ [len.toNat]) 0x0C [] false ∧ MboxOnly ch s t))) ∧
  (∀ (ch : Fin 2) (tag : BitVec 16) (w b : Word) (s : State),
    MemsWf s → octF s.desc E.T2_9_SEQ + 1 < 2 ^ 32 → w.toNat ≤ 1 → b.toNat ≤ 1 →
    (MboxReady s ch 0x13 → (w.toNat, b.toNat) ∈ s.com.verified →
      Answers (exec (.bankSelect ch tag w b) s) fun t =>
        MboxRuns t ch 0x13 tag [w.toNat, b.toNat] 0 [] false ∧
        octF t.desc (bankFld w.toNat) = b.toNat ∧ octF t.desc (trialFld w.toNat) = 1 ∧ octF t.desc (trialsFld w.toNat) = 0 ∧
        octF t.desc E.T2_9_SEQ = octF s.desc E.T2_9_SEQ + 1 ∧
        (∀ a, 0x10000 ≤ a → memGet 0xFF t.flash0 a = memGet 0xFF s.flash0 a ∧ memGet 0xFF t.flash1 a = memGet 0xFF s.flash1 a) ∧
        RegsOutside [stwAt ch, regAt .stwLoad .STW_BANK] s t ∧ t.mem0 = s.mem0 ∧ t.mem1 = s.mem1) ∧
    (MboxReady s ch 0x13 → (w.toNat, b.toNat) ∉ s.com.verified →
      Answers (exec (.bankSelect ch tag w b) s) fun t => MboxRuns t ch 0x13 tag [w.toNat, b.toNat] 4 [] false ∧ MboxOnly ch s t) ∧
    (MboxReady s ch 0x14 → s.onTrial w.toNat = false →
      Answers (exec (.bankConfirm ch tag w) s) fun t => MboxRuns t ch 0x14 tag [w.toNat] 4 [] false ∧ MboxOnly ch s t) ∧
    (MboxReady s ch 0x14 → w.toNat = 0 → s.onTrial 0 = true → s.up .inkwell = true →
      Answers (exec (.bankConfirm ch tag w) s) fun t =>
        MboxRuns t ch 0x14 tag [0] 0 [] false ∧ octF t.desc (trialFld 0) = 0 ∧ octF t.desc (trialsFld 0) = 0 ∧
        octF t.desc (bankFld 0) = octF s.desc (bankFld 0) ∧
        t.mcount 1 = max (s.mcount 1) (min (Config.firmwareSecVersion (s.fwOct 0 (s.bankOf 0))) 0xFFFFFFFF) ∧
        RegsOutside [stwAt ch, regAt .stwLoad .STW_BANK, regAt .key .KEY_MCOUNT 1, evrAt] s t ∧ t.mem0 = s.mem0 ∧ t.mem1 = s.mem1) ∧
    (MboxReady s ch 0x14 → w.toNat = 1 → s.onTrial 1 = true → s.up .inkwell = true →
      Answers (exec (.bankConfirm ch tag w) s) fun t =>
        MboxRuns t ch 0x14 tag [1] 0 [] false ∧ octF t.desc (trialFld 1) = 0 ∧ octF t.desc (trialsFld 1) = 0 ∧
        t.mcount 0 = max (s.mcount 0) (octF (s.flash 0 (bankBase 1 (s.bankOf 1)) 256) E.T2_2_SEC_VERSION)) ∧
    (MboxReady s ch 0x12 → w.toNat = 1 →
      Answers (exec (.flashVerifyBank ch tag w b) s) fun t =>
        MboxDoes ch 0x12 tag [w.toNat, b.toNat] s t fun u r =>
          r.code = (u.imageVerify (.bank b.toNat) (bankSize 1)).1 ∧
          (r.code ≠ 0 → t.com.verified = s.com.verified) ∧ (r.code = 0 → (1, b.toNat) ∈ t.com.verified) ∧
          t.flash0 = s.flash0 ∧ t.flash1 = s.flash1 ∧ t.mem0 = s.mem0 ∧ t.mem1 = s.mem1 ∧
          RegsOutside [stwAt ch, rowAt .blt .BLT_UNC 6, evrAt] s t) ∧
    (MboxReady s ch 0x12 → w.toNat = 0 →
      Answers (exec (.flashVerifyBank ch tag w b) s) fun t =>
        MboxDoes ch 0x12 tag [w.toNat, b.toNat] s t fun u r =>
          r.code = (u.fwVerify b.toNat).1.1 ∧ (r.code ≠ 0 → r.res = [] ∧ t.com.verified = s.com.verified) ∧
          (r.code = 0 → r.res = [(u.fwVerify b.toNat).1.2] ∧ (0, b.toNat) ∈ t.com.verified) ∧
          t.flash0 = s.flash0 ∧ t.flash1 = s.flash1 ∧ t.mem0 = s.mem0 ∧ t.mem1 = s.mem1))

/-- IMAGE_STAGE ends STAGED only when every check passes; REGION_COMMIT switches its regions together at the boundary (R49, R54,
R61, R47, R55, R56). In IDLE or FAILED, IMAGE_STAGE of a flash bank, or of lane memory whose copies agree, is accepted into
FETCH with nothing staged and waits; differing copies or no lane end it with their status and change nothing else. Its first
completion leaves FETCH for VERIFY. In VERIFY an image whose checks of Table 2.7 fail ends with that status; a failure of
any step leaves the loader FAILED with the status as LAST_CODE and nothing staged; one that passes ends OK with STAGED_MASK
and the target mask as results, the loader STAGED, the image staged, no target done. In any other loader state the command
ends in STATE and changes nothing but the channel. STAGE_DISCARD ends OK, the loader IDLE, nothing staged, STAGED_MASK and
every DONE bit 0. Without a staged image REGION_COMMIT ends in STATE and changes nothing but the channel. A partial image on
a lane that is neither rolled out nor alone ends in STATE. When its change log overflowed it ends in STALE with the loader
STAGED and the target's shadow bank discarded. When it is accepted the loader is COMMITTING, RES0 is the mask of the region
types and the command waits. At the boundary, with no overflow, the one waiting commit leaves and its regions are the active
ones of the target, a full image's name with them; for a command's commit the target's DONE bit is set, the command may
complete, and the loader is STAGED or IDLE, IDLE with nothing staged when the image has no other target. With an overflow a
command's commit ends in STALE, the active regions as before and the loader STAGED. exec is concluded to answer a next
state, with this effect, for: imageStage, regionCommit, regionBankSwitch, stageDiscard, mailboxComplete. -/
def Obligations.ImageAndRegions : Prop :=
  (∀ (ch : Fin 2) (tag : BitVec 16) (b len : Word) (addr : BitVec 64) (s : State),
    (MboxReady s ch 0x20 → s.loaderState ≠ 0 → s.loaderState ≠ 5 →
      Answers (exec (.imageStage ch tag b addr len) s) fun t =>
        MboxRuns t ch 0x20 tag ([b.toNat] ++ addrArgs addr ++ [len.toNat]) 4 [] false ∧ MboxOnly ch s t) ∧
    (MboxReady s ch 0x20 → s.loaderState = 0 ∨ s.loaderState = 5 →
      let args := [b.toNat] ++ addrArgs addr ++ [len.toNat]
      let accepted := fun (src : ImgSrc) (n : Nat) =>
        Answers (exec (.imageStage ch tag b addr len) s) fun t =>
          MboxRuns t ch 0x20 tag args 0 [] true ∧ t.loaderState = 1 ∧ t.com.fetch = some (src, n) ∧ t.com.staged = none ∧ t.com.built = [] ∧
          t.fld .stwLoad F.STW_LOAD_STATUS_STAGED_MASK = 0 ∧ t.rd .stwLoad .STW_LOAD_TARGETS = 0;
      (b.toNat < 2 → accepted (.bank b.toNat) (bankSize 1)) ∧
      (b.toNat = 2 → addr.toNat + len.toNat ≤ 0x400000000 →
        (∀ v, readLanes s addr.toNat len.toNat = .ok v → accepted (.mem v) len.toNat) ∧
        (∀ e, readLanes s addr.toNat len.toNat = .error e →
          Answers (exec (.imageStage ch tag b addr len) s) fun t => MboxRuns t ch 0x20 tag args e [] false ∧ MboxOnly ch s t))) ∧
    (∀ (m : MbRun) (src : ImgSrc) (n : Nat), s.up .common = true → s.com.steward = true → s.mbox ch = some m → m.op = 0x20 → m.wait = true →
      s.com.fetch = some (src, n) → s.com.staged = none → s.com.built = [] →
      (s.loaderState = 1 →
        Answers (exec (.mailboxComplete ch) s) fun t =>
          t.loaderState = 2 ∧ t.mbox ch = some { m with code := 0, res := [] } ∧ t.com.fetch = s.com.fetch ∧ t.com.staged = none) ∧
      (s.loaderState = 2 →
        let x := s.imageCheck src n [0, 1, 2, 3]
        let r := s.stageVerify ch src n;
        (x.code ≠ 0 → r.code = x.code ∧ r.res = [] ∧ r.wait = false) ∧
        (r.wait = false →
          Answers (exec (.mailboxComplete ch) s) fun t =>
            t.mbox ch = none ∧ t.fld (.stw ch) F.STW_STATUS_CODE = r.code % 256 ∧ t.com.fetch = none ∧
            (r.code = 0 → x.code = 0 ∧ r.res = [x.img.typeMask, x.img.targetMask] ∧ t.loaderState = 3 ∧ t.com.staged = some x.img ∧
              t.fld .stwLoad F.STW_LOAD_STATUS_STAGED_MASK = x.img.typeMask ∧ t.rd .stwLoad .STW_LOAD_TARGETS = 0) ∧
            (r.code ≠ 0 → t.loaderState = 5 ∧ t.fld .stwLoad F.STW_LOAD_STATUS_LAST_CODE = r.code % 256 ∧ t.com.staged = none ∧
              t.com.built = [])))) ∧
    (MboxReady s ch 0x25 →
      Answers (exec (.stageDiscard ch tag) s) fun t =>
        MboxRuns t ch 0x25 tag [] 0 [] false ∧ t.loaderState = 0 ∧ t.com.staged = none ∧ t.com.built = [] ∧
        t.fld .stwLoad F.STW_LOAD_STATUS_STAGED_MASK = 0 ∧ t.rd .stwLoad .STW_LOAD_TARGETS = 0 ∧
        t.mem0 = s.mem0 ∧ t.mem1 = s.mem1 ∧ t.flash0 = s.flash0 ∧ t.flash1 = s.flash1 ∧ t.ink = s.ink)) ∧
  ((∀ (ch : Fin 2) (tag : BitVec 16) (k : Word) (s : State), MboxReady s ch 0x21 →
    (s.com.staged = none →
      Answers (exec (.regionCommit ch tag k) s) fun t => MboxRuns t ch 0x21 tag [k.toNat] 4 [] false ∧ MboxOnly ch s t) ∧
    (∀ x : Staged, s.com.staged = some x → k.toNat < 2 → x.isPartial = true → s.rolledOut (targetLane k.toNat) = false →
      s.laneUp (targetLane k.toNat).other = true →
      Answers (exec (.regionCommit ch tag k) s) fun t => MboxRuns t ch 0x21 tag [k.toNat] 4 [] false ∧ MboxOnly ch s t) ∧
    (∀ x : Staged, s.com.staged = some x → k.toNat ∈ s.com.built → s.commitBlocked k.toNat x = false →
      let rs := regionsOf x.regions k.toNat;
      (s.logOverflow k.toNat rs = true →
        Answers (exec (.regionCommit ch tag k) s) fun t =>
          MboxRuns t ch 0x21 tag [k.toNat] 0x10 [] false ∧ t.loaderState = 3 ∧ k.toNat ∉ t.com.built ∧
          t.com.staged = s.com.staged ∧ t.com.active = s.com.active) ∧
      (s.logOverflow k.toNat rs = false → s.dependOk k.toNat rs = true → s.insBlocks k.toNat rs = false →
        Answers (exec (.regionCommit ch tag k) s) fun t =>
          (∃ mask, MboxRuns t ch 0x21 tag [k.toNat] 0 [mask] true ∧
            ∀ y < 12, bitAt mask y = rs.any (fun r => decide (r.type = y))) ∧
          t.loaderState = 4 ∧ t.com.active = s.com.active ∧
          t.com.switches = s.com.switches ++ [⟨k.toNat, x.regions, !x.isPartial, x.imageId, x.secVer, some ch.val⟩] ∧
          RegsOutside [stwAt ch, regAt .stwLoad .STW_LOAD_STATUS] s t ∧ t.mem0 = s.mem0 ∧ t.mem1 = s.mem1))) ∧
  (∀ (k : Fin 4) (w : Switch) (s : State), s.com.switches = [w] → w.target = k.val → s.up (targetDom k) = true →
    (s.logOverflow k (regionsOf w.regions k) = false →
      Answers (exec (.regionBankSwitch k) s) fun t =>
        t.com.switches = [] ∧ t.com.active = activeAfter s.com.active k (regionsOf w.regions k) ∧
        (w.full = true → t.com.imageId = w.imageId ∧ t.com.imageSec = w.secVer) ∧
        (w.full = false → t.com.imageId = s.com.imageId ∧ t.com.imageSec = s.com.imageSec) ∧
        (∀ (ch : Fin 2) (m : MbRun), w.chan = some ch.val → s.mbox ch = some m →
          t.bit .stwLoad (doneFld k) = true ∧ t.mbox ch = some { m with wait := false } ∧ (t.loaderState = 3 ∨ t.loaderState = 0) ∧
          (∀ x : Staged, s.com.staged = some x → (∀ j < 4, j ≠ k.val → regionsOf x.regions j = []) → t.loaderState = 0 ∧ t.com.staged = none))) ∧
    (∀ (ch : Fin 2) (m : MbRun), s.logOverflow k (regionsOf w.regions k) = true → w.chan = some ch.val → s.mbox ch = some m →
      Answers (exec (.regionBankSwitch k) s) fun t =>
        t.com.switches = [] ∧ t.com.active = s.com.active ∧ k.val ∉ t.com.built ∧ t.loaderState = 3 ∧
        t.mbox ch = some { m with code := 0x10, res := [], wait := false })))

/-- A lane rolls out only when the other is UP and present, starts comparing on command, and rejoins at the next grid instant
(R63, R235, R427, R437). LANE_ROLL_OUT of a lane sets its out bit when both lanes are UP and neither is out, and ends OK;
otherwise it ends in STATE and changes nothing but the channel. LANE_CONVERGE of a rolled-out lane with arguments in range
starts a comparison of that many instants with its limit and waits. LANE_ROLL_IN of a rolled-out lane waits; at the next
grid instant, when no timer or accumulator of an element runs in the other lane if that is UP, the lane's out bit is clear,
the command may complete, and the other lane is rolled out exactly where it was present with other active digests or was out
before; else the roll-in waits on. When the only present lane is lost, the rolled-out lane's out bit is cleared without a
command. exec is concluded to answer a next state, with this effect, for: emergencyRollIn, laneRollOut, laneConverge,
laneRollIn, laneRollInEffect. -/
def Obligations.LaneRolling : Prop :=
  (∀ (ch : Fin 2) (tag : BitVec 16) (l : Lane) (s : State), MboxReady s ch 0x22 →
    let k : Word := BitVec.ofNat 32 l.idx
    (s.laneUp l = true → s.laneUp l.other = true → s.rolledOut l = false → s.rolledOut l.other = false →
      Answers (exec (.laneRollOut ch tag k) s) fun t =>
        MboxRuns t ch 0x22 tag [l.idx] 0 [] false ∧ t.rolledOut l = true ∧ t.rolledOut l.other = false ∧ t.mem0 = s.mem0 ∧
        t.mem1 = s.mem1 ∧ t.dom = s.dom) ∧
    (s.laneUp l = false ∨ s.laneUp l.other = false ∨ s.rolledOut l = true ∨ s.rolledOut l.other = true →
      Answers (exec (.laneRollOut ch tag k) s) fun t => MboxRuns t ch 0x22 tag [l.idx] 4 [] false ∧ MboxOnly ch s t)) ∧
  (∀ (ch : Fin 2) (tag : BitVec 16) (l : Lane) (n lim : Word) (s : State), MboxReady s ch 0x23 → s.laneUp l = true →
    s.laneUp l.other = true → s.rolledOut l = true → 1 ≤ n.toNat → n.toNat ≤ 65535 → 1 ≤ lim.toNat → lim.toNat ≤ 60000 →
    Answers (exec (.laneConverge ch tag (BitVec.ofNat 32 l.idx) n lim) s) fun t =>
      MboxRuns t ch 0x23 tag [l.idx, n.toNat, lim.toNat] 0 [] true ∧
      t.com.converge = some ⟨l, n.toNat, s.real + lim.toNat * 1000000 * 65536, 0, 0, 0, ch.val, false⟩ ∧ RegsOutside [stwAt ch] s t) ∧
  (∀ (ch : Fin 2) (tag : BitVec 16) (l : Lane) (s : State), MboxReady s ch 0x24 → s.laneUp l = true → s.rolledOut l = true →
    Answers (exec (.laneRollIn ch tag (BitVec.ofNat 32 l.idx)) s) fun t =>
      MboxRuns t ch 0x24 tag [l.idx] 0 [] true ∧ t.com.rollIn = some l ∧ t.rolledOut l = true ∧ RegsOutside [stwAt ch] s t) ∧
  (∀ (l : Lane) (s : State), s.com.rollIn = some l → s.laneUp l = true →
    let u := s.toNextInstant l
    let swap := u.laneUp l.other && !u.rolledOut l.other && decide (u.digests l ≠ u.digests l.other)
    (s.laneUp l.other = false ∨ u.elementRuns l.other = false →
      Answers (exec (.laneRollInEffect l) s) fun t =>
        t.rolledOut l = false ∧ t.com.rollIn = none ∧ t.rolledOut l.other = (u.rolledOut l.other || swap)) ∧
    (s.laneUp l.other = true → u.elementRuns l.other = true →
      Answers (exec (.laneRollInEffect l) s) fun t =>
        t.rolledOut l = s.rolledOut l ∧ t.rolledOut l.other = s.rolledOut l.other ∧ t.com.rollIn = some l)) ∧
  (∀ (l : Lane) (s : State), s.laneUp l = true → s.rolledOut l = true → s.laneUp l.other = false →
    Answers (exec (.emergencyRollIn l) s) fun t => t.rolledOut l = false ∧ t.mem0 = s.mem0 ∧ t.mem1 = s.mem1 ∧ t.dom = s.dom)

/-- Announce, Sync and Follow_Up set their slot, peer-delay exchanges set the link delay, and late or missing ones end in
TIMEOUT or a missed exchange (R76, R77, R78, R79, R80). On a PTP-enabled port of an UP plane: an accepted Announce becomes
the slot's dataset with its stamp, GM_CLASS and identity; a one-step Sync of that grandmaster, with a valid link delay,
gives the slot the offset origin + correction + delay - stamp, shown saturated (a plane still FREE may then step by it); a
two-step Sync waits, restarting the receipt deadline, and its Follow_Up gives the offset with both corrections. Pdelay_Req
is answered by two own frames, or by one, which counts ONESTEP in two-step mode. Pdelay_Req is queued with the next
sequenceId, or counts SKIP; an exchange open before is missed. An on-time response gives the mean link delay; three misses
make it 0xFFFF_FFFF. A passed receipt deadline of Announce or Sync makes the slot TIMEOUT. A Follow_Up without a residence
entry sets FU_ORPHAN; entries older than 1 s go. Only time units, lanes' copies and EPS records, and the recorder change.
exec is concluded to answer a next state, with this effect, for: announceReceived, syncReceived, followUpReceived,
pdelayReqReceived, pdelayReqSend, pdelayRespReceived, pdelayRespFollowUpReceived, pdelayRespTimeout, announceTimeout,
syncTimeout, residenceEntryExpire. -/
def Obligations.PtpMessages : Prop :=
  ∀ (p : Plane) (port : Fin 11) (k : Fin 2) (n x d : Nat) (a : Announce) (m : PtpMsg) (s : State),
    s.planeUp p = true →
    let x' := s.rxStamp p port x
    let slot := (s.plane p).slot n
    let pt := (s.plane p).pt port
    let ctl := fun (u : State) => ((u.plane p).port port).ctl
    let frame := fun (t : State) => Beside s t ∧ RegsOutside timeAt s t
    let sel := slot.best.any (fun b => decide (b.srcPort = m.srcPort)) && decide (slot.port = port.val)
    let shown := fun (t : State) (o : Int) =>
      (s.timState p ≠ 0 → ((t.plane p).slot n).off = some o) ∧ ((t.plane p).slot n).off.isSome = true ∧
        (t.rd (.tim p) .TIM_DOM_OFFSET n).toNat = sat025 o ∧ frame t
    let delay := fun (t : State) (e : Int) =>
      (t.rd (.timPort p port) .TIM_PDELAY).toNat = min ((max e 0).toNat / 16384) 0xFFFFFFFE ∧ ((t.plane p).pt port).missed = 0 ∧
        ((t.plane p).pt port).reqStamp = none ∧ frame t
    (s.ptpOn p port = true → s.slotOf p a.domain = some n → 0 ≤ a.logInterval → a.logInterval ≤ 2 →
      (slot.best = none → Answers (exec (.announceReceived p port x a) s) fun t =>
        ((t.plane p).slot n).best = some a ∧ ((t.plane p).slot n).annStamp = some x' ∧ ((t.plane p).slot n).port = port.val ∧
        ((t.plane p).slot n).annLate = false ∧ t.fld (.tim p) F.TIM_DOM_STATUS_GM_CLASS n = a.clockClass % 256 ∧
        t.rd (.tim p) .TIM_DOM_GM0 n = BitVec.ofNat 32 a.gm ∧ t.rd (.tim p) .TIM_DOM_GM1 n = BitVec.ofNat 32 (a.gm / 2 ^ 32) ∧
        t.fld (.tim p) F.TIM_DOM_STATUS_STATE n = slotCode ((t.plane p).slot n) (s.fld (.tim p) F.TIM_DOM_CFG_CLASS_MAX n) ∧ frame t) ∧
      (∀ b, slot.best = some b → slot.annLate = false → ¬(b.srcPort = a.srcPort ∧ slot.port = port.val) →
        lexLt (annKey a port.val) (annKey b slot.port) = false →
        exec (.announceReceived p port x a) s = .next s)) ∧
    (s.ptpOn p port = true → s.slotOf p m.domain = some n → sel = true → s.linkDelay p port = some d → -4 ≤ m.logInterval → m.logInterval ≤ 0 →
      (m.twoStep = false → Answers (exec (.syncReceived p port x m) s) fun t => shown t ((m.time : Int) + m.corr + d - x')) ∧
      (m.twoStep = true → Answers (exec (.syncReceived p port x m) s) fun t =>
        ((t.plane p).slot n).pend = some ⟨m.srcPort, m.seqId, x', m.corr, port.val⟩ ∧
        ((t.plane p).slot n).syncStamp = some x' ∧ frame t ∧
        (ptpLate slot.syncStamp (s.fld (.tim p) F.TIM_DOM_CFG_SYNC_TMO n) slot.syncIval x' = false → t.regs = s.regs))) ∧
    (∀ q, s.ptpOn p port = true → s.slotOf p m.domain = some n → slot.pend = some q → s.linkDelay p port = some d →
      q.srcPort = m.srcPort → q.seqId = m.seqId → q.port = port.val → -4 ≤ m.logInterval → m.logInterval ≤ 0 →
      Answers (exec (.followUpReceived p port m) s) fun t => shown t ((m.time : Int) + m.corr + q.corr + d - q.rx)) ∧
    (s.ptpOn p port = true → Answers (exec (.followUpReceived p port m) s) fun t =>
      let kept := (s.plane p).res.any (fun e => decide (e.srcPort = m.srcPort ∧ e.seqId = m.seqId))
      t.bit (.tim p) F.TIM_STATUS_FU_ORPHAN = (s.bit (.tim p) F.TIM_STATUS_FU_ORPHAN || !kept) ∧ (t.plane p).res = (s.plane p).res ∧
      frame t) ∧
    (s.ptpOn p port = true →
      let two := s.bit (.timPort p port) F.TIM_PTP_PORT_TWO_STEP
      Answers (exec (.pdelayReqReceived p port x m) s) fun t =>
        (∃ f, ctl t = ctl s ++ f ∧ f.length = if two && s.txqFree p port then 2 else 1) ∧
        t.fld (.timPort p port) F.TIM_TXQ_FALLBACK_ONESTEP = (if two && !s.txqFree p port
          then min (s.fld (.timPort p port) F.TIM_TXQ_FALLBACK_ONESTEP + 1) 65535 else s.fld (.timPort p port) F.TIM_TXQ_FALLBACK_ONESTEP) ∧
        frame t) ∧
    (s.ptpOn p port = true → s.link p port = true →
      let open_ := if pt.reqStamp.isSome then 1 else 0
      Answers (exec (.pdelayReqSend p port) s) fun t =>
        (s.txqFree p port = true → ((t.plane p).pt port).seqId = (pt.seqId + 1) % 65536 ∧ (ctl t).length = (ctl s).length + 1 ∧
          ((t.plane p).pt port).reqStamp = none ∧ ((t.plane p).pt port).missed = pt.missed + open_) ∧
        (s.txqFree p port = false → ((t.plane p).pt port).missed = pt.missed + open_ + 1 ∧ ctl t = ctl s ∧
          t.fld (.timPort p port) F.TIM_TXQ_FALLBACK_SKIP = min (s.fld (.timPort p port) F.TIM_TXQ_FALLBACK_SKIP + 1) 65535) ∧ frame t) ∧
    (∀ t1, s.ptpOn p port = true → pt.reqStamp = some t1 → m.reqPort = s.portIdentity p port → m.seqId = pt.seqId →
      (t1 + 10 * 1000000 * 65536 < x' → exec (.pdelayRespReceived p port x m) s = .next s) ∧
      (x' ≤ t1 + 10 * 1000000 * 65536 → m.twoStep = false →
        Answers (exec (.pdelayRespReceived p port x m) s) fun t => delay t (((x' : Int) - t1 - m.corr) / 2)) ∧
      (x' ≤ t1 + 10 * 1000000 * 65536 → m.twoStep = true →
        Answers (exec (.pdelayRespReceived p port x m) s) fun t =>
          ((t.plane p).pt port).resp = some ⟨m.srcPort, m.seqId, x', m.corr - m.time, port.val⟩ ∧ t.regs = s.regs ∧ Beside s t) ∧
      (∀ r, pt.resp = some r → r.seqId = m.seqId → r.srcPort = m.srcPort → x' ≤ t1 + 10 * 1000000 * 65536 →
        Answers (exec (.pdelayRespFollowUpReceived p port x m) s) fun t =>
          delay t (((r.rx : Int) - t1 - ((m.time : Int) + m.corr + r.corr)) / 2))) ∧
    (∀ t1, pt.reqStamp = some t1 → Answers (exec (.pdelayRespTimeout p port) s) fun t =>
      ((t.plane p).pt port).missed = pt.missed + 1 ∧ (3 ≤ pt.missed + 1 → t.rd (.timPort p port) .TIM_PDELAY = 0xFFFFFFFF) ∧ frame t) ∧
    (∀ b, ((s.plane p).slot k).best = some b →
      (∀ u, ((s.plane p).slot k).annStamp = some u → Answers (exec (.announceTimeout p k) s) fun t =>
        t.fld (.tim p) F.TIM_DOM_STATUS_STATE k = 3 ∧ ((t.plane p).slot k).annLate = true ∧ frame t) ∧
      (∀ u, ((s.plane p).slot k).syncStamp = some u → Answers (exec (.syncTimeout p k) s) fun t =>
        t.fld (.tim p) F.TIM_DOM_STATUS_STATE k = 3 ∧ ((t.plane p).slot k).syncLate = true ∧ frame t)) ∧
    (∀ e r, (s.plane p).res = e :: r → Answers (exec (.residenceEntryExpire p) s) fun t =>
      (∀ q ∈ (t.plane p).res, q ∈ (s.plane p).res ∧ (t.plane p).now ≤ q.at_ + 1000000000 * 65536) ∧ frame t)

/-- Reads latch the clock, the planes keep one common domain, lanes return to their default plane, and the PPS pins follow the
boundaries (R69, R70, R71, R73, R74, R75, R82, R83, R85, R86, R87). TIM_NOW_W0 returns the low word and latches W1 and W2.
Reading ENT3 returns the oldest entry's last word and removes it; 0 when empty. SLEW_END leaves no residual and SLEWING 0.
At the exchange planes that know each other take one common slot, a plane alone its own: the preferred one while usable or
the other is not, else the other; a plane that left it keeps the other until REVERT_HOLD gives it back, but while FREE
begins at the preferred one. XPLANE measures show the saturated difference, with the alarm above the limit, in planes and
lanes. A lane whose default plane stays LOCKED takes it no sooner than 10 s after it became so. An enabled output whose slot
is USABLE or followed in LOCKED rises, dated at the next second boundary of its slot's time shifted by TIM_PPS_ADJ, a
positive value later (the model's choice, log entry 75), and PPS_WIDTH_EXPIRE leaves it low; the pads change plane only
while both are low. An edge of PPS_IN stamps both time units and sets PPSIN_NEW; with bank VIO_C low it does nothing. exec
is concluded to answer a next state, with this effect, for: timNowRead, slewEnd, slotStateExchange, xplaneMeasure,
revertHoldExpire, laneDefaultReturn, laneTimeSample, txqEntryRead, ppsOutEdge, ppsDriveChange, ppsInEdge, ppsWidthExpire. -/
def Obligations.ClocksAndPps : Prop :=
  ∀ (p : Plane) (l : Lane) (port : Fin 11) (n : Fin 2) (s : State),
    let frame := fun (t : State) => Beside s t ∧ RegsOutside timeAt s t
    (s.planeUp p = true → Answers (exec (.timNowRead p) s) fun t =>
      let w := toT96 (s.plane p).now
      t.rdata = BitVec.ofNat 32 w ∧ t.rd (.tim p) .TIM_NOW_W1 = BitVec.ofNat 32 (w / 2 ^ 32) ∧
      t.rd (.tim p) .TIM_NOW_W2 = BitVec.ofNat 32 (w / 2 ^ 64) ∧ RegsOutside timeAt s t ∧ { t.body with rdata := s.rdata } = s.body) ∧
    (s.planeUp p = true → ((s.plane p).pt port).txq = [] → exec (.txqEntryRead p port) s = .next { s with rdata := 0 }) ∧
    (∀ e r, s.planeUp p = true → ((s.plane p).pt port).txq = e :: r → Answers (exec (.txqEntryRead p port) s) fun t =>
      ((t.plane p).pt port).txq = r ∧ t.rdata = BitVec.ofNat 32 (txqWord e 3) ∧
      t.fld (.timPort p port) F.TIM_TXQ_STATUS_COUNT = r.length % 128 ∧ frame t) ∧
    (s.planeUp p = true → s.bit (.tim p) F.TIM_STATUS_SLEWING = true → Answers (exec (.slewEnd p) s) fun t =>
      (t.plane p).resid = 0 ∧ t.fld (.tim p) F.TIM_STATUS_SLEWING = 0 ∧ frame t) ∧
    (let pref := s.prefSlot p
      let cur := (s.plane p).common
      let other := s.usableAny p pref = false ∧ s.usableAny p (1 - pref) = true
      let free := s.timState p = 0 ∧ (s.paired = false ∨ s.timState p.other = 0)
      (s.deciders = [p] →
        (Answers (exec .slotStateExchange s) fun t =>
          (cur = pref → other → (t.plane p).common = 1 - pref) ∧ (cur = pref → ¬other → (t.plane p).common = pref) ∧
          (cur ≠ pref → free → (t.plane p).common = pref) ∧ (cur ≠ pref → ¬free → (t.plane p).common = cur) ∧
          (s.paired = true → (t.plane p.other).common = (t.plane p).common) ∧ frame t) ∧
        (∀ u, cur ≠ pref → s.fld (.tim p) F.TIM_CTRL_REVERT_HOLD ≠ 0 → s.usableSince p pref = some u →
          Answers (exec .revertHoldExpire s) fun t =>
            (t.plane p).common = pref ∧ (s.paired = true → (t.plane p.other).common = pref) ∧
            u + s.fld (.tim p) F.TIM_CTRL_REVERT_HOLD * (1000000000 * 65536) ≤ t.real ∧ frame t)) ∧
      (s.paired = false → s.planeUp p = true →
        Answers (exec .slotStateExchange s) fun t =>
          (cur = pref → other → (t.plane p).common = 1 - pref) ∧ (cur = pref → ¬other → (t.plane p).common = pref) ∧
          (cur ≠ pref → s.timState p ≠ 0 → (t.plane p).common = cur) ∧ frame t)) ∧
    (s.paired = false → exec (.xplaneMeasure p) s = .next s) ∧
    (s.planeUp .a = true → s.planeUp .b = true →
      (s.pins.ipUp = true → Answers (exec (.xplaneMeasure p) s) fun t =>
        let d : Int := ((s.plane p.other).now : Int) - (s.plane p).now
        (t.rd (.tim p) .TIM_OFFSET_XPLANE).toNat = sat025 d ∧
        (s.fld (.tim p) F.TIM_LIMITS_XPLANE * 65536 < d.natAbs → t.bit (.tim p) F.TIM_STATUS_XPLANE = true) ∧
        (d.natAbs ≤ s.fld (.tim p) F.TIM_LIMITS_XPLANE * 65536 →
          t.bit (.tim p) F.TIM_STATUS_XPLANE = s.bit (.tim p) F.TIM_STATUS_XPLANE) ∧
        (s.fld (.tim p) F.TIM_STATUS_SOURCE = 3 → s.timState p = 1 → 65536 ≤ d.natAbs →
          (t.plane p).resid = d ∧ t.bit (.tim p) F.TIM_STATUS_SLEWING = true) ∧ frame t) ∧
      (s.laneUp l = true → Answers (exec (.laneTimeSample l) s) fun t =>
        let d : Int := (s.pb.now : Int) - s.pa.now
        (t.rd (.lcfg l) .CFG_TIME_DIFF).toNat = sat025 d ∧
        (s.fld (.lcfg l) F.CFG_TIME_FOLLOW_XLIMIT * 65536 < d.natAbs → t.bit (.lcfg l) F.CFG_TIME_FOLLOW_XPLANE = true) ∧
        RegsOutside [regAt (.lcfg l) .CFG_TIME_DIFF, regAt (.lcfg l) .CFG_TIME_FOLLOW, evrAt] s t ∧ Beside s t)) ∧
    (∀ u, (s.plane (s.defPlane l)).lockedSince = some u → s.laneUp l = true → s.planeLocked (s.defPlane l) = true →
      s.followed l ≠ s.defPlane l ∨ s.laneHold l = true → Answers (exec (.laneDefaultReturn l) s) fun t =>
        t.followed l = s.defPlane l ∧ t.laneHold l = false ∧ u + 10 * (1000000000 * 65536) ≤ t.real ∧ frame t) ∧
    (s.planeUp p = true →
      (if n.val = 0 then s.bit (.tim p) F.TIM_PPS_CTRL_OUT0_EN else s.bit (.tim p) F.TIM_PPS_CTRL_OUT1_EN) = true →
      s.fld (.tim p) F.TIM_DOM_STATUS_STATE n = 1 ∨ (s.planeLocked p = true ∧ s.fld (.tim p) F.TIM_STATUS_SOURCE = n.val + 1) →
      Answers (exec (.ppsOutEdge p n) s) fun t =>
        let off : Int := if s.planeLocked p = true ∧ s.fld (.tim p) F.TIM_STATUS_SOURCE = n.val + 1 then 0 else of025 (s.domOffset p n)
        let adj : Int := max (-4000) (min 4000 (signedOf 32 (if n.val = 0 then s.rd (.tim p) .TIM_PPS_ADJ0 else s.rd (.tim p) .TIM_PPS_ADJ1).toNat)) * 16384
        (t.plane p).pps n = some (((((((s.plane p).now : Int) + off - adj).toNat / sec + 1) * sec : Nat) : Int) - off + adj).toNat ∧
        t.pins = s.pins ∧ frame t) ∧
    (∀ u, s.planeUp p = true → (s.plane p).pps n = some u → Answers (exec (.ppsWidthExpire p n) s) fun t =>
      (t.plane p).pps n = none ∧ frame t) ∧
    (s.ppsLow = false → exec .ppsDriveChange s = .next s) ∧
    (s.ppsLow = true → Answers (exec .ppsDriveChange s) fun t =>
      t.pins.ppsDriver = s.ppsWanted ∧ t.fld (.tim s.ppsWanted) F.TIM_STATUS_PPS_DRIVE = 1 ∧
      t.fld (.tim s.ppsWanted.other) F.TIM_STATUS_PPS_DRIVE = 0 ∧ frame t) ∧
    (2 ∈ s.com.lowBanks → exec .ppsInEdge s = .next s) ∧
    (2 ∉ s.com.lowBanks → Answers (exec .ppsInEdge s) fun t =>
      (s.planeUp p = true → t.rd (.tim p) .TIM_PPS_IN_W0 = BitVec.ofNat 32 (toT96 (quant (s.plane p).now)) ∧
        t.bit (.tim p) F.TIM_STATUS_PPSIN_NEW = true ∧
        (s.timState p ≠ 0 → (t.plane p).lastPps = some (quant (s.plane p).now))) ∧ frame t)

/-- PRT_CFG takes the modes Table 4.1 lists for the port (and 0, disabled) and leaves MODE unchanged on any other; the mode sets
the data rate (R88). On an UP plane PRT_CFG_WRITE of a port leaves in MODE the written value if Table 4.1 lists it for the
port (PB: 1 to 4; SB: 2 to 5; TK: 4 to 6) or it is 0, which disables the port, and otherwise the value it had. With Common
UP and no paired write waiting a steward write of a management port's PRT_CFG leaves its MODE, 7 being the only mode listed,
whatever is written. In mode 1 to 6 a plane port's data rate is 100, 1,000, 2,500, 10,000, 25,000 or 100,000 Mbit/s; a
management port's is 10, 100 or 1,000 by its PHY speed. exec is concluded to answer a next state, with this effect, for:
registerWrite, prtCfgWrite. -/
def Obligations.PortModes : Prop :=
  (∀ (p : Plane) (port : Fin 11) (data : Word) (s : State), s.planeUp p = true →
    let new := bitsOf data.toNat 3 0
    let listed := if port.val ≤ 7 then [1, 2, 3, 4] else if port.val ≤ 9 then [2, 3, 4, 5] else [4, 5, 6]
    Answers (exec (.prtCfgWrite p port data) s) fun t =>
      t.fld (.prt p port) F.PRT_CFG_MODE = if new = 0 ∨ new ∈ listed then new else s.fld (.prt p port) F.PRT_CFG_MODE) ∧
  (∀ (i : Fin 2) (data : Word) (s : State), s.up .common = true → (∀ u m, s.pairQ_ u m = []) → s.fld (.mg i) F.PRT_CFG_MODE = 7 →
    Answers (exec (.registerWrite .steward (regAddr (.mg i) .PRT_CFG 0) 4 data) s) fun t =>
      t.fld (.mg i) F.PRT_CFG_MODE = 7) ∧
  ∀ (p : Plane) (port : Fin 13) (m rate : Nat) (s : State),
    (port.val < 11 → (m, rate) ∈ [(1, 100), (2, 1000), (3, 2500), (4, 10000), (5, 25000), (6, 100000)] → s.fld (.prt p port) F.PRT_CFG_MODE = m →
      s.macRate p port = rate) ∧
    (11 ≤ port.val → s.macRate p port ∈ [10, 100, 1000])

/-- A port's link rises with its lanes locked, its loss ends both frames and starts the hold, PRT_CFG_WRITE keeps unsupported
fields and may take it down (R88, R90, R91, R92, R126). On an UP plane. LINK_UP of a port that is down, in a mode whose
lanes are locked (all four in mode 6): LINK and CHANGE are set, the lock, alignment and auto-negotiation bits follow and no
queued copy stays frozen. LINK_DOWN of a port that is up: LINK clears, CHANGE is set, LINK_DOWN counts, nothing is being
received or sent any more (a receive counts RX_BAD and RX_CODE, a transmit TX_ABORT), and the queues are frozen for
PSW_LINK_HOLD, or emptied when it is 0. PRT_CFG_WRITE stores the word but for a MODE that Table 4.1 does not list for the
port and a LINK_DEB above 1,000; changed mode, RS-FEC, auto-negotiation or polarity takes a link that is up down, and clears
the lock, alignment and negotiation bits (for a link that is down too: log entry 75); otherwise PRT_CFG alone changes.
LINK_HOLD_EXPIRE ends the hold; with LINK still 0 no frozen copy stays. With header capture off no register outside the
plane's block but the lanes' CFG_TIME_FOLLOW changes, and nothing outside the plane but the clocks. Who lets LINK_DEB pass
on the plane clock is log entry 5. exec is concluded to answer a next state, with this effect, for: linkUp, linkDown,
prtCfgWrite, linkHoldExpire. -/
def Obligations.LinkStateAndHold : Prop :=
  ∀ (p : Plane) (port : Fin 11) (locks : Fin 16) (lf rf : Bool) (data : Word) (s : State), s.planeUp p = true →
    assocSorted (s.plane p).queues = true →
    let pg : Page := .prt p port
    let mode := s.fld pg F.PRT_CFG_MODE
    let cnt := fun (u : State) (k : Nat) => u.fld pg F.PRT_CNT_COUNT k
    let more := fun (b : Bool) (t : State) (k : Nat) => cnt t k = if b then min (cnt s k + 1) (2 ^ 32 - 1) else cnt s k
    let queue := fun (t : State) (c : Nat) => (t.plane p).queue port c
    let frame := fun (t : State) => s.bit (.psw p) F.PSW_HCAP_CTRL_EN = false →
      RegsOutside (planeAt_ p :: followsAt) s t ∧ t.besidePlane p = s.besidePlane p
    let lost := fun (t : State) =>
      let hold := s.fld (.psw p) F.PSW_LINK_HOLD_HOLD
      let m := (s.plane p).port port
      t.link p port = false ∧ t.bit pg F.PRT_STATUS_CHANGE = true ∧ more true t 20 ∧ more m.rx.isSome t 3 ∧ more m.rx.isSome t 8 ∧
      more m.tx.isSome t 17 ∧ ((t.plane p).port port).rx = none ∧ ((t.plane p).port port).tx = none ∧
      (hold = 0 → ∀ c < 8, queue t c = []) ∧
      (hold ≠ 0 → ((t.plane p).port port).holdEnd = some ((t.plane p).now + hold * (1000000 * 65536)) ∧
        ∀ c < 8, queue t c = (queue s c).map (fun q => { q with frozen := true })) ∧ frame t
    let listed := bitsOf data.toNat 3 0 = 0 ∨ bitsOf data.toNat 3 0 ∈
      (if port.val ≤ 7 then [1, 2, 3, 4] else if port.val ≤ 9 then [2, 3, 4, 5] else [4, 5, 6])
    (s.link p port = false → mode ≠ 0 → (mode = 6 → locks.val = 15) → (mode ≠ 6 → locks.val % 2 = 1) →
      Answers (exec (.linkUp p port locks) s) fun t =>
        t.link p port = true ∧ t.bit pg F.PRT_STATUS_CHANGE = true ∧ t.fld pg F.PRT_STATUS_LANE_LOCK = locks.val ∧
        (t.bit pg F.PRT_STATUS_ALIGNED = true ↔ mode = 6) ∧
        (t.bit pg F.PRT_STATUS_AN_DONE = true ↔ mode = 2 ∧ s.bit pg F.PRT_CFG_AN_EN = true) ∧
        t.fld pg F.PRT_STATUS_LOCAL_FAULT = 0 ∧ t.fld pg F.PRT_STATUS_REMOTE_FAULT = 0 ∧
        (∀ c < 8, ∀ q ∈ queue t c, q.frozen = false) ∧ frame t) ∧
    (s.link p port = true →
      Answers (exec (.linkDown p port locks lf rf) s) fun t =>
        lost t ∧ t.fld pg F.PRT_STATUS_LANE_LOCK = locks.val ∧ t.bit pg F.PRT_STATUS_LOCAL_FAULT = lf ∧
        t.bit pg F.PRT_STATUS_REMOTE_FAULT = rf) ∧
    (Answers (exec (.prtCfgWrite p port data) s) fun t =>
      let old := s.rd pg .PRT_CFG
      let new := t.rd pg .PRT_CFG
      (listed → bitsOf new.toNat 3 0 = bitsOf data.toNat 3 0) ∧ (¬listed → bitsOf new.toNat 3 0 = bitsOf old.toNat 3 0) ∧
      (bitsOf data.toNat 31 16 ≤ 1000 → bitsOf new.toNat 31 16 = bitsOf data.toNat 31 16) ∧
      (1000 < bitsOf data.toNat 31 16 → bitsOf new.toNat 31 16 = bitsOf old.toNat 31 16) ∧
      bitsOf new.toNat 15 4 = bitsOf data.toNat 15 4 ∧
      let moved := bitsOf new.toNat 15 6 ≠ bitsOf old.toNat 15 6 ∨ bitsOf new.toNat 3 0 ≠ bitsOf old.toNat 3 0
      (moved → t.fld pg F.PRT_STATUS_LANE_LOCK = 0 ∧ t.bit pg F.PRT_STATUS_ALIGNED = false ∧ t.bit pg F.PRT_STATUS_AN_DONE = false) ∧
      (moved → s.link p port = true → lost t) ∧
      (moved → s.link p port = false → RegsOutside [regAt pg .PRT_CFG, regAt pg .PRT_STATUS] s t ∧ t.body = s.body) ∧
      (¬moved → RegsOutside [regAt pg .PRT_CFG] s t ∧ t.body = s.body)) ∧
    (∀ h, ((s.plane p).port port).holdEnd = some h →
      Answers (exec (.linkHoldExpire p port) s) fun t =>
        ((t.plane p).port port).holdEnd = none ∧ (s.link p port = false → ∀ c < 8, ∀ q ∈ queue t c, q.frozen = false) ∧
        (s.link p port = true → ∀ c < 8, queue t c = queue s c) ∧ frame t)

/-- A received PAUSE or PFC frame stops what is enabled for its quanta, and a due pause frame is sent ahead of every queued
frame (R94, R96, R99, R103, R104, R105, R106). In an UP domain with reception enabled, for a frame of EtherType 0x8808: with
a fault (a code error, a length outside 64 to the PRT_MAXLEN of its first byte, or an FCS that differs) it counts RX_BAD and
one cause and stops nothing. PAUSE counts RX_PAUSE and, with RX_PAUSE set and RX_PFC 0, replaces the port's pause time by
its quanta of 512 bit times, 0 ending it; PFC counts RX_PFC and on a plane port does so for each class enabled in the frame
and in RX_PFC, leaving the others; another opcode counts RX_MACCTL_UNSUP; none counts anything else but the RS-FEC codewords
that came. PAUSE_EXPIRE ends the pause and its bit of PRT_PAUSE_STATE. PAUSE_FRAME_SEND with a frame due, transmission
enabled, the link up and nothing being sent starts the 60 octets of a frame to 01-80-C2-00-00-01 from the port's address
with XOFF quanta for what is requested and 0 for the rest, the classes whose request has ended since the last PFC frame
enabled with 0 (log entry 30), PFC before PAUSE. PAUSE_REFRESH makes the frames of what is requested due again. exec is
concluded to answer a next state, with this effect, for: macControlFrameReceived, pauseExpire, pauseFrameSend, pauseRefresh. -/
def Obligations.PauseFrames : Prop :=
  ∀ (p : Plane) (port : Fin 13) (i : Fin 11) (dst src : BitVec 48) (body : List Byte) (e : RxEnd) (k : Fin 9) (t0 : Nat) (s : State),
    let pg := macPage p port
    let cnt := fun (u : State) (n : Nat) => u.fld pg F.PRT_CNT_COUNT n
    let up := fun (t : State) (n : Nat) => cnt t n = min (cnt s n + 1) (2 ^ 32 - 1)
    let o := macControlOct dst src body
    let len := frameLen o
    let max := s.rxLimit p port (s.macNow p port - wireTime len (s.macRate p port))
    let kind := rxKind o e
    let op := oct2 body 0
    let word := fun (k : Nat) => oct2 body (2 + 2 * k)
    let span := fun (q : Nat) => q * 512 * (1000 * 65536) / s.macRate p port
    let ends := fun (q : Nat) => if q = 0 then none
      else some (s.macNow p port + if s.macRate p port = 0 then 0 else span q)
    let m := s.mac p port
    let x := (s.plane p).port i
    let only := fun (t : State) => RegsOutside [regAt pg .PRT_CNT 9, regAt pg .PRT_CNT 10, regAt pg .PRT_CNT 21, regAt pg .PRT_CNT 22, regAt pg .PRT_PAUSE_STATE] s t ∧
      (t.body = s.body ∨
        ∃ m', t.body = (s.setMac p port m').body ∧ m' = { m with pauseEnd := m'.pauseEnd, clsPauseEnd := m'.clsPauseEnd })
    let pfcOk := fun (c : Nat) => bitAt (word 0) c && bitAt (s.fld pg F.PRT_PAUSE_CFG_RX_PFC) c && decide (port.val < 11)
    let fec := [regAt pg .PRT_CNT 21, regAt pg .PRT_CNT 22]
    (s.macRx p port = true → kind ≠ .good ∨ len < 64 ∨ max < len →
      Answers (exec (.macControlFrameReceived p port dst src body e) s) fun t =>
        up t 3 ∧ (if kind = .code then up t 8 else if len < 64 then up t 6 else if max < len then up t 7
          else if kind = .stomped then up t 5 else up t 4) ∧ RegsOutside (rowAt pg .PRT_CNT 9 :: fec) s t ∧ t.body = s.body) ∧
    (s.macRx p port = true → kind = .good → 64 ≤ len → len ≤ max → m.mgKick = false →
      (Answers (exec (.macControlFrameReceived p port dst src body e) s) fun t =>
        port.val < 11 → s.fecOn p port = true → cnt t 21 = min (cnt s 21 + e.fecCorr) (2 ^ 32 - 1) ∧
          cnt t 22 = min (cnt s 22 + e.fecUncorr + e.fecIdle) (2 ^ 32 - 1)) ∧
      (op ≠ 1 → op ≠ 0x101 → Answers (exec (.macControlFrameReceived p port dst src body e) s) fun t =>
        up t 11 ∧ RegsOutside (regAt pg .PRT_CNT 11 :: fec) s t ∧ t.body = s.body) ∧
      (op = 1 → s.bit pg F.PRT_PAUSE_CFG_RX_PAUSE = true → s.fld pg F.PRT_PAUSE_CFG_RX_PFC = 0 →
        Answers (exec (.macControlFrameReceived p port dst src body e) s) fun t =>
          up t 9 ∧ (t.mac p port).pauseEnd = ends (word 0) ∧ (t.bit pg F.PRT_PAUSE_STATE_PAUSED = true ↔ word 0 ≠ 0) ∧ only t) ∧
      (op = 1 → s.bit pg F.PRT_PAUSE_CFG_RX_PAUSE = false ∨ s.fld pg F.PRT_PAUSE_CFG_RX_PFC ≠ 0 →
        Answers (exec (.macControlFrameReceived p port dst src body e) s) fun t =>
          up t 9 ∧ RegsOutside (regAt pg .PRT_CNT 9 :: fec) s t ∧ t.body = s.body) ∧
      (op = 0x101 → assocSorted m.clsPauseEnd = true →
        Answers (exec (.macControlFrameReceived p port dst src body e) s) fun t =>
          up t 10 ∧ (∀ c < 8, assocGet (t.mac p port).clsPauseEnd c = if pfcOk c then ends (word (c + 1)) else assocGet m.clsPauseEnd c) ∧
          (∀ c < 8, bitAt (t.fld pg F.PRT_PAUSE_STATE_CLASS_PAUSED) c = (assocGet (t.mac p port).clsPauseEnd c).isSome) ∧ only t)) ∧
    (s.macUp p port = true → m.mgKick = false → assocSorted m.clsPauseEnd = true →
      (if k.val = 8 then m.pauseEnd else assocGet m.clsPauseEnd k.val) = some t0 →
      Answers (exec (.pauseExpire p port k) s) fun t =>
        (k.val = 8 → (t.mac p port).pauseEnd = none ∧ t.bit pg F.PRT_PAUSE_STATE_PAUSED = false) ∧
        (k.val ≠ 8 → assocGet (t.mac p port).clsPauseEnd k.val = none ∧ bitAt (t.fld pg F.PRT_PAUSE_STATE_CLASS_PAUSED) k.val = false) ∧
        RegsOutside (regAt pg .PRT_PAUSE_STATE :: followsAt) s t ∧
        ∃ m', t.untimed = (s.setMac p port m').untimed ∧ m' = { m with pauseEnd := m'.pauseEnd, clsPauseEnd := m'.clsPauseEnd }) ∧
    (s.planeUp p = true → s.bit (.prt p i) F.PRT_CFG_TX_EN = true → x.tx = none → s.link p i = true → x.pfcDue = true ∨ x.pauseDue = true →
      Answers (exec (.pauseFrameSend p i) s) fun t =>
        let xoff := s.fld (.prt p i) F.PRT_PAUSE_QUANTA_XOFF
        ∃ f m', t = s.setPlane p ((s.plane p).setPort i m') ∧ m'.tx = some f ∧ f.ctl = (if x.pfcDue then 2 else 1) ∧
          f.octets.length = 60 ∧ f.octets.take 12 = [0x01, 0x80, 0xC2, 0x00, 0x00, 0x01] ++ natBe 6 (s.macAddr p i) ∧ oct2 f.octets 12 = 0x8808 ∧
          (x.pfcDue = true → oct2 f.octets 14 = 0x0101 ∧ m'.pfcDue = false ∧ m'.pauseDue = x.pauseDue ∧
            m'.pfcEnded = [] ∧ ∀ c < 8, oct2 f.octets (18 + 2 * c) = (if c ∈ x.xoff then xoff else 0) ∧
              (bitAt (oct2 f.octets 16) c = true ↔ c ∈ x.xoff ∨ c ∈ x.pfcEnded)) ∧
          (x.pfcDue = false → oct2 f.octets 14 = 1 ∧ m'.pauseDue = false ∧ m'.pfcDue = false ∧ m'.pfcEnded = x.pfcEnded ∧
            oct2 f.octets 16 = if x.xoff.any (fun k => decide (16 ≤ k)) then xoff else 0) ∧
          (m'.refreshAt = none ↔ x.xoff = []) ∧
          m' = { x with tx := m'.tx, pauseSent := m'.pauseSent, refreshAt := m'.refreshAt, pfcDue := m'.pfcDue, pauseDue := m'.pauseDue,
                        pfcEnded := m'.pfcEnded }) ∧
    (s.planeUp p = true → x.refreshAt = some t0 →
      Answers (exec (.pauseRefresh p i) s) fun t =>
        RegsOutside followsAt s t ∧ t.untimed = (s.setPlane p ((s.plane p).setPort i
          { x with refreshAt := none, pfcDue := x.pfcDue || x.xoff.any (fun k => decide (k < 16)),
                   pauseDue := x.pauseDue || x.xoff.any (fun k => decide (16 ≤ k)) })).untimed)

/-- A management MAC writes an accepted frame to its next descriptor in every UP lane, sends descriptors whose lane copies
agree, and restarts a written ring (R106, R107, R108, R109). With Common UP. A received frame, the receiver enabled and no
half duplex: a faulty one counts its cause; one the filter refuses counts MG_RX_FILTERED; one without an owned, large enough
descriptor counts MG_RX_NOBUF; none of these touches memory. Else, page logging off and the buffer clear of the descriptor,
in every UP lane the octets stand at BUF_ADDR, LEN is the length less 4, OWN is 0 and every other byte stays. The kick
without an owned descriptor, does nothing, while paused it waits for the end of the pause; with one owned descriptor it
clears OWN in every UP lane and counts TX_OK when the lanes' descriptors and frames are equal and LEN is in range, else sets
ERR and counts MG_TX_MISMATCH. A ring base write stores the word, an unsupported SIZE_LOG2 keeping that field, and restarts
that ring alone at descriptor 0. exec is concluded to answer a next state, with this effect, for: pauseExpire,
mgFrameReceived, mgTxKick, mgRingBaseWrite. -/
def Obligations.ManagementMacs : Prop :=
  ∀ (i : Fin 2) (f : Frame) (e : RxEnd) (lf : Lane) (ls : List Lane) (tx hi : Bool) (data : Word) (s : State),
    s.up .common = true → MemsWf s → (∀ l, s.bit (.ins l) F.INS_DIRTY_CTL_EN = false) →
    let pg : Page := .mg i
    let len := frameLen f.octets
    let max := s.fld pg F.PRT_MAXLEN_MAXLEN
    let good := rxGood len (s.rxLimit .a (11 + i) (s.real - wireTime len (s.macRate .a (11 + i)))) (rxKind f.octets e)
    let takes := s.mgAccepts i (dmacOf f.octets)
    let cnt := fun (u : State) (n : Nat) => u.fld pg F.PRT_CNT_COUNT n
    let up := fun (t : State) (n : Nat) => cnt t n = min (cnt s n + 1) (2 ^ 32 - 1)
    let mac := fun (u : State) => u.mac .a (11 + i.val)
    let rx := (s.mgRing i false)
    let d := rx.1 + 16 * (mac s).mgRx
    let buf := s.recF lf d E.T4_3_BUF_ADDR
    let fits := rx.2 ≠ 0 ∧ s.recF lf d E.T4_3_OWN = 1 ∧ len - 4 ≤ s.recF lf d E.T4_3_BUF_LEN
    let counts := fun (t : State) => RegsOutside [rowAt pg .PRT_CNT 26] s t ∧ t.body = s.body
    let elsewhere := fun (t : State) => t.body = { s.body with mem0 := t.mem0, mem1 := t.mem1, com := { s.com with mg := t.com.mg } }
    let vects := [rowAt pg .PRT_CNT 26, laneAt_ .l0, laneAt_ .l1]
    let txr := (s.mgRing i true)
    let g := txr.1 + 16 * (mac s).mgTx
    let g' := txr.1 + 16 * (((mac s).mgTx + 1) % txr.2)
    let flen := s.recF lf g E.T4_3_LEN
    let same := (∀ k ∈ s.upLanes, s.mem k g 16 = s.mem lf g 16 ∧
      s.mem k (s.recF k g E.T4_3_BUF_ADDR) flen = s.mem lf (s.recF lf g E.T4_3_BUF_ADDR) flen) ∧ 60 ≤ flen ∧ flen ≤ max - 4
    let sent := fun (t : State) => (∀ k ∈ s.upLanes, t.recF k g E.T4_3_OWN = 0 ∧
        ∀ a, a < g + 8 ∨ g + 16 ≤ a → t.mem k a 1 = s.mem k a 1) ∧ (mac t).mgTx = ((mac s).mgTx + 1) % txr.2 ∧
      (∀ k, s.laneUp k = false → ∀ a n, t.mem k a n = s.mem k a n) ∧ elsewhere t ∧ RegsOutside vects s t
    (s.bit pg F.PRT_CFG_RX_EN = true → s.bit pg F.PRT_STATUS_HDX = false → etypeOf f.octets ≠ 0x8808 →
      (good = false → Answers (exec (.mgFrameReceived i f e) s) fun t => up t 3 ∧ cnt t 0 = cnt s 0 ∧ counts t) ∧
      (good = true → takes = false → Answers (exec (.mgFrameReceived i f e) s) fun t => up t 0 ∧ up t 23 ∧ counts t) ∧
      (good = true → takes = true → s.upLanes = lf :: ls →
        (¬fits → Answers (exec (.mgFrameReceived i f e) s) fun t => up t 0 ∧ up t 24 ∧ counts t) ∧
        (fits → buf + f.octets.length ≤ d ∨ d + 16 ≤ buf → Answers (exec (.mgFrameReceived i f e) s) fun t =>
          up t 0 ∧ cnt t 23 = cnt s 23 ∧ cnt t 24 = cnt s 24 ∧ (mac t).mgRx = ((mac s).mgRx + 1) % rx.2 ∧
          (∀ k ∈ s.upLanes, t.mem k buf f.octets.length = f.octets ∧ t.recF k d E.T4_3_LEN = (len - 4) % 65536 ∧ t.recF k d E.T4_3_OWN = 0 ∧
            t.recF k d E.T4_3_BUF_LEN = s.recF k d E.T4_3_BUF_LEN ∧
            ∀ a, (a < d ∨ d + 16 ≤ a) → (a < buf ∨ buf + f.octets.length ≤ a) → t.mem k a 1 = s.mem k a 1) ∧
          (∀ k, s.laneUp k = false → ∀ a n, t.mem k a n = s.mem k a n) ∧ elsewhere t ∧ RegsOutside vects s t))) ∧
    (s.bit pg F.PRT_CFG_TX_EN = true → (mac s).pauseEnd = none → s.upLanes = lf :: ls →
      (txr.2 = 0 ∨ s.recF lf g E.T4_3_OWN = 0 → exec (.mgTxKick i) s = .next s) ∧
      (1 < txr.2 → s.recF lf g E.T4_3_OWN = 1 → s.recF lf g' E.T4_3_OWN = 0 → (mac s).mgTx < txr.2 →
        Answers (exec (.mgTxKick i) s) fun t => sent t ∧
          (same → up t 12 ∧ cnt t 25 = cnt s 25 ∧ ∀ k ∈ s.upLanes, t.recF k g E.T4_3_ERR = s.recF k g E.T4_3_ERR) ∧
          (¬same → up t 25 ∧ cnt t 12 = cnt s 12 ∧ ∀ k ∈ s.upLanes, t.recF k g E.T4_3_ERR = 1))) ∧
    ((mac s).pauseEnd ≠ none → s.bit pg F.PRT_CFG_TX_EN = true →
      exec (.mgTxKick i) s = .next (s.setMac .a (11 + i.val) { mac s with mgKick := true })) ∧
    ((mac s).mgKick = true → s.bit pg F.PRT_CFG_TX_EN = true → (mac s).pauseEnd = some 0 → (txr.2 = 0 ∨ s.recF lf g E.T4_3_OWN = 0) →
      s.upLanes = lf :: ls → Answers (exec (.pauseExpire .a ⟨11 + i.val, by omega⟩ 8) s) fun t =>
        (mac t).pauseEnd = none ∧ (mac t).mgKick = false ∧ RegsOutside [regAt pg .PRT_PAUSE_STATE] s t) ∧
    (Answers (exec (.mgRingBaseWrite i tx hi data) s) fun t =>
      let r : RegId := match tx, hi with
        | true, true => .PRT_MG_TXBASE_HI
        | true, false => .PRT_MG_TXBASE_LO
        | false, true => .PRT_MG_RXBASE_HI
        | false, false => .PRT_MG_RXBASE_LO
      let w := (t.rd pg r).toNat
      let size := data.toNat / 2 ^ 28
      (hi = false → w = data.toNat / 64 * 64) ∧
      (hi = true → w % 2 ^ 28 = data.toNat % 65536 ∧
        w / 2 ^ 28 = if size = 0 ∨ (4 ≤ size ∧ size ≤ 12) then size else (s.rd pg r).toNat / 2 ^ 28) ∧
      (mac t).mgTx = (if tx then 0 else (mac s).mgTx) ∧ (mac t).mgRx = (if tx then (mac s).mgRx else 0) ∧
      RegsOutside [regAt pg r] s t ∧ t.body = { s.body with com := { s.com with mg := t.com.mg } })

/-- A lookup finds its entry and ageing removes dynamic ones; at byte 64 the egress set is given and each copy is cut through on
its conditions (R113, R114, R115, R116, R112, R118, R119, R122, R126). In a register file in rising order: the FDB answers
entry k for an address and VID exactly when k is valid and matches and no lower entry does, and answers none exactly when no
entry does; the stream table answers the lowest exact match, or, with no exact match, the lowest range entry whose bits from
IGN on equal the address's. FDB_AGE_OUT of a valid dynamic entry with MAC_AGE not 0 clears its 16 bytes and no other
register but the build's status and the lanes' CFG_TIME_FOLLOW; while a build runs without overflow the removal enters the
change log, and a change after 4,096 sets OVERFLOW instead. A static entry, or MAC_AGE 0, changes nothing. On an enabled
port outside HSR mode, with no boot table in use and header capture off: forwarding off, an unusable VLAN or an ingress port
outside it makes the frame FILTERED with no copy. Else the egress set is that of the stream entry without the ingress port
for a group address (counting HITS), of the FDB entry's PORT for an individual one, or on a miss the external members
without the ingress port, for a group address only if broadcast or MC_FLOOD; an empty set is FILTERED. The class is
PCP_MAP's or DEF_CLASS, or the stream entry's override. A copy for a port whose LINK is 0 counts DOWN_DROP there. The
decided frame holds exactly the other copies, each cut through exactly when the conditions of R118 and R119 hold, from IP
only what the other plane cuts through into the link, with the tag left off as UNTAG says, and the limit and stamp of the
ingress; or, when the cells of a cut-through frame find no room, none, counted as one tail drop. Nothing outside the plane
changes. exec is concluded to answer a next state, with this effect, for: forwardingDecision, fdbAgeOut. -/
def Obligations.Forwarding : Prop :=
  (∀ (p : Plane) (mac vid k : Nat) (n : Fin 65536) (s : State), RegsWf s →
    let hit := fun (j : Nat) => s.ent (fdbAddr p j) E.T5_1_VALID = 1 ∧ s.ent (fdbAddr p j) E.T5_1_MAC = mac ∧ s.ent (fdbAddr p j) E.T5_1_VID = vid
    let str := fun (j : Nat) => j < 16384 ∧ s.ent (strAddr p j) E.T5_2_VALID = 1 ∧ s.ent (strAddr p j) E.T5_2_VID = vid
    let ign := fun (j : Nat) => s.ent (strAddr p j) E.T5_2_IGN
    let exact := fun (j : Nat) => str j ∧ ign j = 0 ∧ s.ent (strAddr p j) E.T5_2_DMAC = mac
    let ranged := fun (j : Nat) => str j ∧ ign j ≠ 0 ∧ s.ent (strAddr p j) E.T5_2_DMAC / 2 ^ ign j = mac / 2 ^ ign j
    let a := fdbAddr p n
    let pg : Page := .psw p;
    (s.fdbFind p mac vid = some k ↔ k < 65536 ∧ hit k ∧ ∀ j < k, ¬hit j) ∧
    (s.fdbFind p mac vid = none ↔ ∀ j < 65536, ¬hit j) ∧
    (s.strFind p mac vid = some k ↔ (exact k ∧ ∀ j < k, ¬exact j) ∨ ((∀ j, ¬exact j) ∧ ranged k ∧ ∀ j < k, ¬ranged j)) ∧
    (s.strFind p mac vid = none ↔ ∀ j, ¬exact j ∧ ¬ranged j) ∧
    (s.planeUp p = true → s.fld pg F.PSW_CTRL_MAC_AGE ≠ 0 → s.ent a E.T5_1_VALID = 1 → s.ent a E.T5_1_STATIC = 0 →
      Answers (exec (.fdbAgeOut p n) s) fun t =>
        let log := (s.plane p).log
        t.winWords a 4 = 0 ∧ RegsOutside ((a, 16) :: regAt pg .PSW_TBL_STATUS :: followsAt) s t ∧ t.besidePlane p = s.besidePlane p ∧
        (s.bit pg F.PSW_TBL_STATUS_BUILDING = false ∨ s.bit pg F.PSW_TBL_STATUS_OVERFLOW = true → (t.plane p).log = log ∧
          t.rd pg .PSW_TBL_STATUS = s.rd pg .PSW_TBL_STATUS) ∧
        (s.bit pg F.PSW_TBL_STATUS_BUILDING = true → s.bit pg F.PSW_TBL_STATUS_OVERFLOW = false →
          (log.length < 4096 → (t.plane p).log = log ++ [⟨true, s.winWords a 2, 0⟩] ∧
            t.fld pg F.PSW_TBL_STATUS_LOG_COUNT = log.length + 1 ∧ t.bit pg F.PSW_TBL_STATUS_OVERFLOW = false) ∧
          (4096 ≤ log.length → (t.plane p).log = log ∧ t.bit pg F.PSW_TBL_STATUS_OVERFLOW = true))) ∧
    (s.fld pg F.PSW_CTRL_MAC_AGE = 0 ∨ s.ent a E.T5_1_STATIC = 1 → exec (.fdbAgeOut p n) s = .next s)) ∧
  (∀ (p : Plane) (port : Fin 14) (x k : Nat) (f : Frame) (s : State), RegsWf s →
    let i := port.val
    let o := f.octets
    s.receives p i = true → i ≠ 11 → i ≠ 12 → 64 ≤ frameLen o → etypeOf o ≠ 0x8808 → ((s.plane p).port i).rx = none →
    s.epsSwitching p = false → s.fld (.psw p) F.PSW_CTRL_RED_MODE ≠ 2 → s.bit (.psw p) F.PSW_HCAP_CTRL_EN = false →
    let tagVid := if tagged o then oct2 o 14 % 4096 else 0
    let vid := if tagVid = 0 then s.fld (.pswPort p i) F.PSW_PORT_CFG_PVID else tagVid
    let pcp := oct2 o 14 / 2 ^ 13
    let cls := if tagged o then s.fld (.psw p) F.PSW_PCP_MAP_MAP / 2 ^ (3 * pcp) % 8 else s.fld (.pswPort p i) F.PSW_PORT_CFG_DEF_CLASS
    let v := vlanAddr p vid
    let member := fun (e : Nat) => bitAt (s.ent v E.T5_3_MEMBER) e
    let passes := s.bit (.psw p) F.PSW_CTRL_EN = true ∧ s.bit (.pswPort p i) F.PSW_PORT_CFG_FWD_EN = true ∧
      s.ent v E.T5_3_VALID = 1 ∧ member i = true
    let more := fun (t : State) (n : Nat) => t.fld (.pswPort p i) F.PSW_CNT_COUNT n = min (s.fld (.pswPort p i) F.PSW_CNT_COUNT n + 1) (2 ^ 32 - 1)
    let decided := fun (P : RxFrame → State → Prop) => Answers (exec (.forwardingDecision p port x f) s) fun t =>
      ∃ r, ((t.plane p).port i).rx = some r ∧ r.octets = o ∧ r.stamp = s.rxStamp p i x ∧ r.maxlen = s.rxLimit p i r.stamp ∧
        r.vid = vid ∧ P r t ∧ t.besidePlane p = s.besidePlane p ∧ RegsOutside [planeAt_ p] s t
    let filtered := decided fun r t => r.verdict = 1 ∧ r.cutTo = [] ∧ r.storeTo = [] ∧ more t 2
    let cuts := fun (c : Nat) (ok : Bool) (e : Nat) =>
      (i ≤ 10 ∨ (i = 13 ∧ s.ipCutting p = true)) ∧ (e ≤ 10 ∨ (e = 13 ∧ s.bit (.psw p) F.PSW_CTRL_IP_CUT = true)) ∧
      s.bit (.pswPort p i) F.PSW_PORT_CFG_CUT_EN = true ∧ s.bit (.pswPort p e) F.PSW_PORT_CFG_CUT_EN = true ∧
      (i ≤ 10 → e ≤ 10 → s.portRate p e ≤ s.portRate p i) ∧
      s.fld (.prt p i) F.PRT_MAXLEN_MAXLEN ≤ s.fld (.prt p e) F.PRT_MAXLEN_MAXLEN ∧ ok = true ∧
      s.link p e = true ∧ (e ≤ 10 → s.bit (.prt p e) F.PRT_CFG_TX_EN = true) ∧ ((s.plane p).port e).pauseEnd = none ∧
      assocGet ((s.plane p).port e).clsPauseEnd c = none ∧ ((s.plane p).port e).tx = none ∧ ∀ d < 8, (s.plane p).queue e d = []
    let untag := fun (e : Nat) => decide (e ≤ 10) && bitAt (s.ent v E.T5_3_UNTAG) e
    let goes := fun (set : Nat → Prop) (c : Nat) (ok : Bool) => (∃ e, set e) → decided fun r t => r.cls = c ∧
      (∀ e, set e → s.link p e = false →
        t.fld (.pswPort p e) F.PSW_CNT_COUNT 7 = min (s.fld (.pswPort p e) F.PSW_CNT_COUNT 7 + 1) (2 ^ 32 - 1)) ∧
      ((r.verdict = 0 ∧ (∀ e u, (e, u) ∈ r.cutTo ↔ set e ∧ cuts c ok e ∧ u = untag e) ∧
        (∀ e u, (e, u) ∈ r.storeTo ↔ set e ∧ ¬cuts c ok e ∧ s.link p e = true ∧ u = untag e) ∧
        (r.cutTo ≠ [] → r.buf.isSome = true) ∧
        ∀ e u, (e, u) ∈ r.cutTo → ∃ y, ((t.plane p).port e).tx = some y ∧ y.cut = true ∧ y.done = false ∧ y.inPort = i ∧ y.buf = r.buf) ∨
       ((∃ e, set e ∧ cuts c ok e) ∧ r.cutTo = [] ∧ r.storeTo = [] ∧ ((r.verdict = 2 ∧ more t 3) ∨ (r.verdict = 3 ∧ more t 4))))
    let flood := fun (e : Nat) => member e = true ∧ e ≠ i ∧ e < 11
    let d := dmacOf o;
    (¬passes → filtered) ∧
    (passes →
      (isGroup d = true → s.strFind p d vid = some k →
        let a := strAddr p k
        let set := fun (e : Nat) => e < 15 ∧ bitAt (s.ent a E.T5_2_EGRESS) e = true ∧ e ≠ i;
        (goes set (if s.ent a E.T5_2_CLASS_OVR = 1 then s.ent a E.T5_2_CLASS else cls) (decide (s.ent a E.T5_2_CUT_OK = 1))) ∧
        ((∀ e, ¬set e) → filtered) ∧ decided fun _ t => t.ent a E.T5_2_HITS = (s.ent a E.T5_2_HITS + 1) % 2 ^ 32) ∧
      (isGroup d = true → s.strFind p d vid = none →
        (d = 2 ^ 48 - 1 ∨ s.ent v E.T5_3_MC_FLOOD = 1 → goes flood cls true ∧ ((∀ e, ¬flood e) → filtered)) ∧
        (d ≠ 2 ^ 48 - 1 → s.ent v E.T5_3_MC_FLOOD = 0 → filtered)) ∧
      (isGroup d = false → s.fdbFind p d vid = some k →
        (s.ent (fdbAddr p k) E.T5_1_PORT ≠ i → goes (fun e => e = s.ent (fdbAddr p k) E.T5_1_PORT) cls true) ∧
        (s.ent (fdbAddr p k) E.T5_1_PORT = i → filtered)) ∧
      (isGroup d = false → s.fdbFind p d vid = none → goes flood cls true ∧ ((∀ e, ¬flood e) → filtered))))

/-- A received frame's end counts it, stomps or finishes its cut-through copies and queues its stored one; dequeue ages; a
transmitted frame is counted and stamped (R95, R96, R97, R98, R105, R110, R115, R120, R122, R123, R125, R126). With header
capture off on an UP plane: a runt counts RX_BAD and RX_RUNT or RX_CODE alone (beside RS-FEC codewords). A decided frame
that ends bad counts RX_BAD and one cause in the order of R96, and each of its cut-through copies ends stomped, cut to the
limit when oversize; one that ends good counts RX_OK and its bytes, its copies end whole, and with LEARN its source is found
at the ingress port unless a static entry of its key or a full table bars it. A single stored copy, whose cells fit MIN,
joins its queue, frozen if the port lost its link since, and counts FORWARDED, or EGRESS_DROP, FLUSHED (the hold being over)
or NOLANE when refused; beyond MIN and DROP the frame is tail-dropped. Dequeue starts a due pause frame first, then an own
frame (a Pdelay_Req opens its exchange, a one-step Pdelay_Resp takes its turnaround time), else the head of some ready
class, padded and untagged as due, and discards a head past its age or the port's limit; a single-bit error in the buffer is
corrected and counted, and an uncorrectable one loses the frame in every queue, counted by the plane and the ingress port.
Transmission's end counts by what was sent, puts it on the line with the FCS it keeps, or a new or an inverted one, and
queues the timestamp requested. exec is concluded to answer a next state, with this effect, for: frameReceiveEnd,
egressDequeue, frameTransmitEnd. -/
def Obligations.FrameEnds : Prop :=
  ∀ (p : Plane) (port : Fin 14) (e : Fin 15) (x : Nat) (f : Frame) (w : RxEnd) (r : RxFrame) (y : TxFrame) (ys : List TxFrame) (s : State),
    RegsWf s → s.bit (.psw p) F.PSW_HCAP_CTRL_EN = false → assocSorted (s.plane p).queues = true → assocSorted (s.plane p).bufs = true →
    let i := port.val
    let o := f.octets
    let len := frameLen o
    let pg : Page := .prt p i
    let cnt := fun (u : State) (q : Page) (n : Nat) => u.fld q F.PRT_CNT_COUNT n
    let more := fun (t : State) (q : Page) (n : Nat) => cnt t q n = min (cnt s q n + 1) (2 ^ 32 - 1)
    let sw := fun (t : State) (j n : Nat) => t.fld (.pswPort p j) F.PSW_CNT_COUNT n = min (s.fld (.pswPort p j) F.PSW_CNT_COUNT n + 1) (2 ^ 32 - 1)
    let bytes := fun (u : State) (q : Page) (n : Nat) => (u.rd q .PRT_CNT n).toNat + 2 ^ 32 * (u.rd q .PRT_CNT (n + 1)).toNat
    let mac := fun (u : State) (j : Nat) => (u.plane p).port j
    let frame := fun (t : State) => { t.besidePlane p with freeCtr := s.freeCtr } = s.besidePlane p ∧ RegsOutside [planeAt_ p] s t
    let ends := exec (.frameReceiveEnd p port x f w) s
    let opens := s.receives p i = true ∧ i ≠ 11 ∧ i ≠ 12 ∧ etypeOf o ≠ 0x8808
    let kind := rxKind o w
    let cutEnds := fun (t : State) (oct : List Byte) (stomp : Bool) => (r.cutTo.map Prod.fst).Nodup → ∀ c u, (c, u) ∈ r.cutTo → ∀ z, c ≠ i →
      (mac s c).tx = some z → ∃ z', (mac t c).tx = some z' ∧ z' = { z with octets := sendOct oct u, done := true, stomp := stomp || z.stomp, fcs := z'.fcs } ∧
        (stomp = false → z'.fcs = if sendOct oct u = oct then some w.fcs.toNat else none)
    let room := fun (c : Nat) => s.occ p i c + cellsOf len ≤ s.occMin p i c
    let noRoom := fun (c : Nat) => s.occMin p i c < s.occ p i c + cellsOf len ∧
      s.fld (.pswPort p i) F.PSW_IN_LIM_DROP c < s.occ p i c + cellsOf len
    let full := fun (j c : Nat) => s.fld (.pswPort p j) F.PSW_EQ_EQ_MAX c < s.fld (.pswPort p j) F.PSW_EQ_EQ_OCC c + cellsOf len
    let laneDown := fun (j : Nat) => (j = 11 ∧ s.laneUp .l0 = false) ∨ (j = 12 ∧ s.laneUp .l1 = false)
    (opens → i ≠ 13 → (mac s i).rx = none → len < 64 → Answers ends fun t =>
      more t pg 3 ∧ (kind = .code → more t pg 8) ∧ (kind ≠ .code → more t pg 6) ∧ t.body = s.body ∧ RegsOutside [rowAt pg .PRT_CNT 26] s t) ∧
    (opens → (mac s i).rx = some r →
      (i ≠ 13 → rxGood len r.maxlen kind = false → 64 ≤ len → Answers ends fun t =>
        more t pg 3 ∧ (if kind = .code then more t pg 8 else if r.maxlen < len then more t pg 7 else if kind = .stomped then more t pg 5 else more t pg 4) ∧
        (mac t i).rx = none ∧ cutEnds t (if r.maxlen < len then (o ++ fcsOct o).take r.maxlen else o) true ∧
        (t.plane p).queues = (s.plane p).queues ∧ frame t) ∧
      (rxGood len r.maxlen kind = true → Answers ends fun t =>
        (i ≠ 13 → more t pg 0 ∧ bytes t pg 1 = (bytes s pg 1 + len) % 2 ^ 64) ∧ (mac t i).rx = none ∧ cutEnds t o false ∧ frame t ∧
        (i ≤ 10 → s.bit (.pswPort p i) F.PSW_PORT_CFG_LEARN = true → r.vid < 4096 →
          (∀ k < 65536, s.ent (fdbAddr p k) E.T5_1_VALID = 1 → s.ent (fdbAddr p k) E.T5_1_MAC = smacOf o →
            s.ent (fdbAddr p k) E.T5_1_VID = r.vid → s.ent (fdbAddr p k) E.T5_1_STATIC = 0) →
          (s.fdbFind p (smacOf o) r.vid = none → ∃ k < 65536, s.ent (fdbAddr p k) E.T5_1_VALID = 0) →
          ∃ k, t.fdbFind p (smacOf o) r.vid = some k ∧ t.ent (fdbAddr p k) E.T5_1_PORT = i ∧ t.ent (fdbAddr p k) E.T5_1_STATIC = 0) ∧
        (∀ j u, r.cutTo = [] → r.buf = none → r.cls < 8 → j < 15 → r.storeTo = [(j, u)] →
          (noRoom r.cls → (sw t i 3 ∨ sw t i 4) ∧ (t.plane p).queues = (s.plane p).queues) ∧
          (room r.cls → laneDown j → sw t j 6 ∧ (t.plane p).queue j r.cls = (s.plane p).queue j r.cls) ∧
          (room r.cls → ¬laneDown j → s.link p j = false → (mac s j).holdEnd = none → sw t j 9 ∧ (t.plane p).queue j r.cls = (s.plane p).queue j r.cls) ∧
          (room r.cls → ¬laneDown j → s.link p j = true ∨ (mac s j).holdEnd ≠ none → full j r.cls → sw t j 5 ∧ (t.plane p).queue j r.cls = (s.plane p).queue j r.cls) ∧
          (room r.cls → ¬laneDown j → s.link p j = true ∨ (mac s j).holdEnd ≠ none → ¬full j r.cls → sw t i 0 ∧
            ∃ b g, (t.plane p).queue j r.cls = (s.plane p).queue j r.cls ++ [⟨b, u, !s.link p j, none⟩] ∧ assocGet (t.plane p).bufs b = some g ∧
              g.octets = o ∧ g.inPort = i ∧ g.cls = r.cls ∧ g.stamp = r.stamp ∧ g.cells = cellsOf len ∧ g.copies = 1 ∧ g.fcs = some w.fcs.toNat)))) ∧
    (s.planeUp p = true → ∀ h : e.val < 11, s.pauseReady p e = true → exec (.egressDequeue p e .clean) s = exec (.pauseFrameSend p ⟨e.val, h⟩) s) ∧
    (s.planeUp p = true → s.link p e = true → (e.val ≤ 10 → s.bit (.prt p e) F.PRT_CFG_TX_EN = true) → (mac s e).tx = none →
      (mac s e).pauseEnd = none → (e.val ≤ 10 → s.pauseReady p e = false) →
      ((mac s e).ctl = y :: ys → Answers (exec (.egressDequeue p e .clean) s) fun t =>
        let tx := s.txStamp p e
        ∃ z, (mac t e).tx = some { y with octets := z, started := tx } ∧ (y.ctl ≠ 6 → z = y.octets) ∧ (y.ctl ≠ 5 → (mac t e).ctl = ys) ∧
          (y.ctl = 4 → beNat ((y.octets.drop 44).take 2) = ((s.plane p).pt e).seqId → ((t.plane p).pt e).reqStamp = some tx) ∧
          (y.ctl = 6 → z = y.octets.take 22 ++
            natBe 8 (unsignedOf 64 (signedOf 64 (beNat ((y.octets.drop 22).take 8)) + (tx : Int) - y.stamp)) ++ y.octets.drop 30) ∧
          t.regs = s.regs ∧ frame t) ∧
      ((mac s e).ctl = [] → s.readyClasses p e = [] → exec (.egressDequeue p e .clean) s = .next s) ∧
      (∀ c q rest g, (mac s e).ctl = [] → s.readyClasses p e = [c] → (s.plane p).queue e c = q :: rest → assocGet (s.plane p).bufs q.buf = some g →
        let old := s.fld (.psw p) F.PSW_AGE_MAX_AGE_MAX c ≠ 0 ∧ (g.stamp : Int) + (s.fld (.psw p) F.PSW_AGE_MAX_AGE_MAX c * (1000 * 65536) : Nat) < (s.plane p).now
        let oct := match q.hsr with
          | some n => hsrOct p n g.octets
          | none => g.octets
        let long := e.val ≤ 10 ∧ s.fld (.prt p e) F.PRT_MAXLEN_MAXLEN < frameLen (sendOct oct q.untag)
        (¬old → ¬long → Answers (exec (.egressDequeue p e .clean) s) fun t => (t.plane p).queue e c = rest ∧ frame t ∧
          ∃ z, (mac t e).tx = some z ∧ z.octets = sendOct oct q.untag ∧ 60 ≤ z.octets.length ∧ z.buf = some q.buf ∧ z.tsReq = g.tsReq ∧
            z.tsTag = g.tsTag ∧ z.done = true ∧ z.stomp = false ∧ z.stamp = g.stamp ∧ z.fcs = if z.octets = g.octets then g.fcs else none) ∧
        (rest = [] → old → Answers (exec (.egressDequeue p e .clean) s) fun t =>
          (t.plane p).queue e c = [] ∧ (mac t e).tx = none ∧ sw t e 8 ∧ frame t) ∧
        (rest = [] → ¬old → long → Answers (exec (.egressDequeue p e .clean) s) fun t =>
          (t.plane p).queue e c = [] ∧ (mac t e).tx = none ∧ more t (.prt p e) 16 ∧ frame t) ∧
        exec (.egressDequeue p e .corrected) s = exec (.egressDequeue p e .clean) (s.countCorr (.plane p)) ∧
        Answers (exec (.egressDequeue p e .uncorrectable) s) (fun t => (mac t e).tx = none ∧
          (∀ j < 15, ∀ d < 8, ∀ z ∈ (t.plane p).queue j d, z.buf ≠ q.buf) ∧ (g.inPort ≠ 13 → g.inPort < 15 → more t (.prt p g.inPort) 3) ∧
          t.fld .blt F.BLT_UNC_COUNT (domBltIdx (.plane p)) = min (s.fld .blt F.BLT_UNC_COUNT (domBltIdx (.plane p)) + 1) (2 ^ 32 - 1)))) ∧
    (s.planeUp p = true → (mac s e).tx = some y → y.done = true → etypeOf y.octets ≠ 0x88F7 →
      Answers (exec (.frameTransmitEnd p e) s) fun t =>
        let q : Page := .prt p e
        (mac t e).tx = none ∧ (e.val ≤ 10 → (mac t e).sent = lineOct y.octets y.fcs y.stomp) ∧ (y.ctl = 1 → more t q 18) ∧ (y.ctl = 2 → more t q 19) ∧
        (y.ctl ≠ 1 → y.ctl ≠ 2 → e.val ≤ 10 → y.stomp = true → more t q 15) ∧
        (y.ctl ≠ 1 → y.ctl ≠ 2 → e.val ≤ 10 → y.stomp = false →
          more t q 12 ∧ bytes t q 13 = (bytes s q 13 + frameLen y.octets) % 2 ^ 64) ∧
        (e.val ≤ 10 → y.tsReq = true → y.ctl = 0 → ((s.plane p).pt e).txq.length < 64 - s.fld (.timPort p e) F.TIM_PTP_PORT_TXQ_RESERVE →
          ((t.plane p).pt e).txq = ((s.plane p).pt e).txq ++ [⟨y.started, y.tsTag, frameLen y.octets, ((s.plane p).pt e).lostNext⟩]) ∧
        (∀ b g, y.buf = some b → assocGet (s.plane p).bufs b = some g →
          assocGet (t.plane p).bufs b = if g.copies ≤ 1 then none else some { g with copies := g.copies - 1 }) ∧
        (t.plane p).queues = (s.plane p).queues ∧ frame t)

/-- Ring frames are removed, delivered or passed on, sequence assignments meet their copies or expire, and owner and inter-plane
link are shown in both planes (R127, R128, R129, R130, R131, R133). On a ring port of an enabled plane in HSR mode: a frame
from the port's own address is removed and counted HSR_OWN; another enters the duplicate table and, addressed to the port,
goes to both lane ports; else it goes to the lanes its stream entry names, and over the inter-plane link unless the other
plane's table holds it, which counts HSR_DUP. The oldest table entry goes at its expiry. An assignment sends the copy that
waits for it, under PRP with an RCT of its number, the plane's LanId and 0x88FB, or is cached, the oldest of 256 giving way
as SEQ_UNUSED; an expired one counts SEQ_UNUSED, an expired copy SEQ_MISS. Supervision frames go to 01-15-4E-00-01-xx on
each linked external port of VLAN 0. Link loss with both planes UP sets IPDOWN in both and loses the assignments on the link
(log entry 75), its return clears IPDOWN; hand-back gives the configured owner the acting owner's counters. HCAP_ENABLE
zeroes HEAD and SEQ. exec is concluded to answer a next state, with this effect, for: hsrDupExpire, supervisionFrameSend,
ipLinkDown, ownerHandback, hcapEnable, seqAssignmentReceived, seqCacheExpire, seqWaitExpire, ipLinkRestored. -/
def Obligations.RingAndSequence : Prop :=
  ∀ (p : Plane) (port : Fin 14) (x : Nat) (f : Frame) (a : SeqAssign) (rest : List SeqAssign) (w : SeqWait) (pub : Fin 2048) (issue : Word)
    (s : State), s.planeUp p = true → s.bit (.psw p) F.PSW_HCAP_CTRL_EN = false →
    let i := port.val
    let o := f.octets
    let pg : Page := .psw p
    let more := fun (t : State) (n : Nat) => t.fld pg F.PSW_PCNT_COUNT n = min (s.fld pg F.PSW_PCNT_COUNT n + 1) (2 ^ 32 - 1)
    let pl := fun (u : State) => u.plane p
    let tagVid := if tagged o then oct2 o 14 % 4096 else 0
    let vid := if tagVid = 0 then s.fld (.pswPort p i) F.PSW_PORT_CFG_PVID else tagVid
    let own := s.macAddr p i
    let seq := oct2 o (etypeAt o + 4)
    let dec := exec (.forwardingDecision p port x f) s
    let copies := fun (t : State) (e : Nat) => ∃ r, ((pl t).port i).rx = some r ∧ ∃ u, (e, u) ∈ r.cutTo ∨ (e, u) ∈ r.storeTo
    let verdict := fun (t : State) (n : Nat) => ∃ r, ((pl t).port i).rx = some r ∧ r.verdict = n
    let named := fun (e : Nat) => (e = 11 ∨ e = 12) ∧ ∃ k, s.strFind p (dmacOf o) vid = some k ∧ bitAt (s.ent (strAddr p k) E.T5_2_EGRESS) e = true
    let frame := fun (t : State) => t.besidePlane p = s.besidePlane p ∧ RegsOutside (planeAt_ p :: followsAt) s t
    let sends := fun (t : State) (c : MergeCopy) (n e : Nat) =>
      let cls := s.classOf p (11 + c.lane.idx) (rctOct p n c.octets)
      let len := max 54 c.octets.length + 6
      s.fld pg F.PSW_CTRL_RED_MODE = 1 → c.ports = [e] → s.link p e = true → n < 65536 →
      s.occ p (11 + c.lane.idx) cls + cellsOf (len + 4) ≤ s.occMin p (11 + c.lane.idx) cls →
      s.fld (.pswPort p e) F.PSW_EQ_EQ_OCC cls + cellsOf (len + 4) ≤ s.fld (.pswPort p e) F.PSW_EQ_EQ_MAX cls →
      ∃ b g u, (pl t).queue e cls = (pl s).queue e cls ++ [⟨b, u, false, none⟩] ∧ assocGet (pl t).bufs b = some g ∧ g.octets.length = len ∧
        g.octets.take c.octets.length = c.octets ∧ oct2 g.octets (len - 6) = n ∧ oct2 g.octets (len - 4) / 4096 = 0xA + p.idx ∧
        oct2 g.octets (len - 2) = 0x88FB ∧ g.tsReq = c.tsReq ∧ g.tsTag = c.tsTag
    (s.receives p i = true → i = s.ringPort p → s.fld pg F.PSW_CTRL_RED_MODE = 2 → s.bit pg F.PSW_CTRL_EN = true →
      s.bit (.pswPort p i) F.PSW_PORT_CFG_FWD_EN = true → s.ent (vlanAddr p vid) E.T5_3_VALID = 1 →
      bitAt (s.ent (vlanAddr p vid) E.T5_3_MEMBER) i = true → s.epsSwitching p = false → 64 ≤ frameLen o → etypeOf o ≠ 0x8808 →
      ((pl s).port i).rx = none → i < 11 →
      (smacOf o = own → Answers dec fun t => more t 4 ∧ verdict t 5 ∧ (∀ e, ¬copies t e) ∧ (pl t).hsr = (pl s).hsr ∧ frame t) ∧
      (smacOf o ≠ own → Answers dec fun t => (pl t).hsrHas (smacOf o) seq = true ∧ (pl t).hsr.length ≤ max (pl s).hsr.length 4096 ∧ frame t ∧
        (isGroup (dmacOf o) = false → dmacOf o = own → verdict t 0 ∧ ∀ e, copies t e ↔ e = 11 ∨ e = 12) ∧
        (isGroup (dmacOf o) = true ∨ dmacOf o ≠ own →
          ((s.plane p.other).hsrHas (smacOf o) seq = true → more t 3 ∧ verdict t 5 ∧ ∀ e, copies t e ↔ named e) ∧
          ((s.plane p.other).hsrHas (smacOf o) seq = false → verdict t 2 ∨ verdict t 3 ∨
            (verdict t 0 ∧ ∀ e, copies t e ↔ named e ∨ e = 13))))) ∧
    (∀ h r, (pl s).hsr = h :: r → Answers (exec (.hsrDupExpire p) s) fun t => (pl t).hsr = r ∧ RegsOutside followsAt s t ∧
      t.besidePlane p = s.besidePlane p) ∧
    ((pl s).ipIn = a :: rest → Answers (exec (.seqAssignmentReceived p) s) fun t =>
      (pl t).ipIn = rest ∧ assocGet (pl t).seqLast a.src = some a.seq ∧
      ((pl s).seqWait.find? (fun v => decide (v.copy.pub = a.pub ∧ v.copy.issue = a.issue)) = some w →
        (pl t).seqWait = (pl s).seqWait.filter (fun v => decide (v ≠ w)) ∧ (pl t).seqCache = (pl s).seqCache ∧ more t 5 ∧
        ∀ e ≤ 10, sends t w.copy a.seq e) ∧
      ((∀ v ∈ (pl s).seqWait, ¬(v.copy.pub = a.pub ∧ v.copy.issue = a.issue)) →
        (pl t).seqCache = (pl s).seqCache.drop (if 256 ≤ (pl s).seqCache.length then 1 else 0) ++ [{ a with at_ := (pl s).now }] ∧
        (256 ≤ (pl s).seqCache.length → more t 1) ∧ (pl t).seqWait = (pl s).seqWait ∧ frame t)) ∧
    (∀ b r, (pl s).seqCache = b :: r → Answers (exec (.seqCacheExpire p) s) fun t => (pl t).seqCache = r ∧ more t 1 ∧ frame t) ∧
    ((pl s).seqWait.find? (fun v => decide (v.copy.pub = pub.val ∧ v.copy.issue = issue.toNat)) = some w →
      Answers (exec (.seqWaitExpire p pub issue) s) fun t =>
        (pl t).seqWait = (pl s).seqWait.filter (fun v => decide (v ≠ w)) ∧ more t 0 ∧ (pl t).queues = (pl s).queues ∧ frame t) ∧
    (s.bit pg F.PSW_RED_CFG_SUPV_EN = true → Answers (exec (.supervisionFrameSend p) s) fun t =>
      let ctl := fun (u : State) (e : Nat) => ((pl u).port e).ctl
      (pl t).supvAt = some (pl t).now ∧ (pl t).supvSeq = ((pl s).supvSeq + 1) % 65536 ∧ frame t ∧
      (∀ e ≤ 10, bitAt (s.ent (vlanAddr p 0) E.T5_3_MEMBER) e = true → s.link p e = true →
        ∃ y, ctl t e = ctl s e ++ [y] ∧ y.octets.take 6 = [0x01, 0x15, 0x4E, 0x00, 0x01, BitVec.ofNat 8 (s.fld pg F.PSW_RED_CFG_SUPV_LAST)] ∧
          (y.octets.drop 6).take 6 = natBe 6 (s.macAddr p e) ∧ y.octets.length = 60) ∧
      (∀ e, (10 < e ∨ bitAt (s.ent (vlanAddr p 0) E.T5_3_MEMBER) e = false ∨ s.link p e = false) → ctl t e = ctl s e)) ∧
    (s.planeUp p.other = true →
      let shown := fun (t : State) (b : Bool) => (∀ q, t.bit (.psw q) F.PSW_STATUS_IPDOWN = b) ∧ t.pins = { s.pins with ipUp := !b } ∧
        (∀ q, s.bit (.psw q) F.PSW_STATUS_IPDOWN ≠ b → t.bit (.psw q) F.PSW_STATUS_CHANGE = true) ∧
        RegsOutside (timeAt ++ [regAt (.psw .a) .PSW_STATUS, regAt (.psw .b) .PSW_STATUS]) s t ∧ Beside s t
      Answers (exec .ipLinkDown s) (fun t => shown t true ∧ t.pa.ipIn = [] ∧ t.pb.ipIn = []) ∧ Answers (exec .ipLinkRestored s) (fun t => shown t false) ∧
      (s.pins.ipUp = true → p = s.cfgOwner .a → s.actOwner p.other ≠ p → Answers (exec .ownerHandback s) fun t =>
        (pl t).seqCtr = (s.plane p.other).seqCtr ∧ t.actOwner .a = p ∧ t.actOwner .b = p ∧
        RegsOutside [regAt (.psw .a) .PSW_STATUS, regAt (.psw .b) .PSW_STATUS] s t ∧
        t.body = (s.setPlane p { pl s with seqCtr := (s.plane p.other).seqCtr }).body)) ∧
    (Answers (exec (.hcapEnable p) s) fun t =>
      t.bit pg F.PSW_HCAP_CTRL_EN = true ∧ t.fld pg F.PSW_HCAP_HEAD_INDEX = 0 ∧
      t.body = (s.setPlane p { pl s with hcapSeq := 0 }).body ∧ RegsOutside [regAt pg .PSW_HCAP_CTRL, regAt pg .PSW_HCAP_HEAD] s t)

/-- The merge forwards the first FIRST copy and an agreed AGREE copy, counts what differs, is late, lone or unmatched, and the
owner numbers what it forwards (R130, R290, R291, R292, R293, R294, R296). Of the copies at the plane's lane ports let the
oldest of a lane have no earlier partner there, capture off. With the plane's EN or the port's FWD_EN 0 it is FILTERED;
else: without an entry, both lanes present and room: FIRST is forwarded and AGREE held, each with an entry to stamp +
AGREE_WINDOW; with the table full of open entries NOCMP counts and only FIRST is forwarded; a closed entry makes the copy
late. With the other lane absent (not UP, or rolled out, the table full or not), FIRST, or AGREE with AGREE_SOLO, is
forwarded, else AGREE_TMO. A second copy in time closes the entry: equal, an AGREE copy is forwarded; unequal, DIVERGE
counts and is captured if nothing is. A later one counts LATE_COPY, closing a FIRST entry and leaving an AGREE one. A copy
of a rolled-out lane is never forwarded. At the deadline an entry closes, FIRST counting SOLO, AGREE AGREE_TMO. Forwarding
by the acting owner takes the number of SRC's counter, advances it, sends the assignment to the other plane and counts
MERGED. exec is concluded to answer a next state, with this effect, for: mergeCopyReceived, mergeDeadline. -/
def Obligations.TwinMerge : Prop :=
  ∀ (p : Plane) (l : Lane) (c : MergeCopy) (e : MergeEnt) (pub : Fin 2048) (issue : Word) (s : State), s.planeUp p = true →
    s.bit (.psw p) F.PSW_HCAP_CTRL_EN = false →
    let pg : Page := .psw p
    let pl := fun (u : State) => u.plane p
    let more := fun (t : State) (n : Nat) => t.fld pg F.PSW_PCNT_COUNT n = min (s.fld pg F.PSW_PCNT_COUNT n + 1) (2 ^ 32 - 1)
    let same := fun (t : State) (n : Nat) => t.fld pg F.PSW_PCNT_COUNT n = s.fld pg F.PSW_PCNT_COUNT n
    let agree := fun (d : MergeCopy) => d.policy = 1
    let span := fun (d : MergeCopy) => d.hdr.flatMap (natLe 4) ++ d.octets
    let equal := if agree e.first then span e.first = span c
      else crcOf crc32c (span e.first) = crcOf crc32c (span c) ∧ crcOf crc32 (span e.first) = crcOf crc32 (span c)
    let win := s.fld pg F.PSW_MERGE_CFG_AGREE_WINDOW * (1000 * 65536)
    let n := fun (d : MergeCopy) => assocGetD (pl s).seqCtr d.src 0
    let forwarded := fun (t : State) (d : MergeCopy) => s.actOwner p = p →
      assocGet (pl t).seqCtr d.src = some ((n d + 1) % 65536) ∧ more t 5 ∧
      (s.pins.ipUp = true → s.planeUp p.other = true →
        (t.plane p.other).ipIn = (s.plane p.other).ipIn ++ [⟨d.pub, d.issue, d.src, n d, 0⟩])
    let dropped := fun (t : State) => (pl t).seqCtr = (pl s).seqCtr ∧ same t 5 ∧ (pl t).queues = (pl s).queues ∧
      (t.plane p.other).ipIn = (s.plane p.other).ipIn
    let frame := fun (t : State) => t.mem0 = s.mem0 ∧ t.mem1 = s.mem1 ∧ t.dom = s.dom ∧ t.flash0 = s.flash0 ∧ t.flash1 = s.flash1 ∧
      RegsOutside (planeAt_ p :: evrAt :: followsAt) s t
    let closed := fun (t : State) (d : MergeEnt) => (pl t).merge = (pl s).merge.filter (fun f => decide (f ≠ d)) ∧
      (pl t).mergeClosed = (pl s).mergeClosed ++ [(d.first.pub, d.first.issue)]
    let captured := fun (t : State) (kind : Nat) (d : MergeCopy) => s.bit pg F.PSW_DIV_CAPT0_VALID = false →
      t.bit pg F.PSW_DIV_CAPT0_VALID = true ∧ t.fld pg F.PSW_DIV_CAPT0_KIND = kind ∧ t.fld pg F.PSW_DIV_CAPT0_PUB = d.pub % 2048 ∧
      t.rd pg .PSW_DIV_CAPT1 = BitVec.ofNat 32 d.issue
    let meets := fun (P : State → Prop) => Answers (exec (.mergeCopyReceived p l) s) fun t =>
      (pl t).laneIn = (pl s).laneIn.erase c ∧ frame t ∧ P t
    let portOn := s.bit pg F.PSW_CTRL_EN = true ∧ s.bit (.pswPort p (11 + l.idx)) F.PSW_PORT_CFG_FWD_EN = true
    ((pl s).laneIn.find? (fun d => decide (d.lane = l)) = some c →
      (∀ d ∈ (pl s).laneIn, ¬(d.lane = l.other ∧ d.pub = c.pub ∧ d.issue = c.issue)) → ¬portOn → meets fun t => dropped t ∧
      t.fld (.pswPort p (11 + l.idx)) F.PSW_CNT_COUNT 2 = min (s.fld (.pswPort p (11 + l.idx)) F.PSW_CNT_COUNT 2 + 1) (2 ^ 32 - 1)) ∧
    ((pl s).laneIn.find? (fun d => decide (d.lane = l)) = some c → portOn →
      (∀ d ∈ (pl s).laneIn, ¬(d.lane = l.other ∧ d.pub = c.pub ∧ d.issue = c.issue)) →
      ((∀ d ∈ (pl s).merge, ¬(d.first.pub = c.pub ∧ d.first.issue = c.issue)) →
        ((c.pub, c.issue) ∈ (pl s).mergeClosed → meets fun t => more t 9 ∧ dropped t ∧ (pl t).merge = (pl s).merge) ∧
        ((c.pub, c.issue) ∉ (pl s).mergeClosed → s.laneUp l.other = false ∨ s.rolledOut l.other = true → s.rolledOut l = false →
          (¬agree c ∨ s.bit pg F.PSW_MERGE_CFG_AGREE_SOLO = true → meets fun t => forwarded t c ∧
            (s.laneUp l.other = false → (pl t).merge = (pl s).merge)) ∧
          (agree c → s.bit pg F.PSW_MERGE_CFG_AGREE_SOLO = false → meets fun t => more t 8 ∧ dropped t ∧ captured t 1 c ∧
            (s.laneUp l.other = false → (pl t).merge = (pl s).merge))) ∧
        ((c.pub, c.issue) ∉ (pl s).mergeClosed → s.laneUp l.other = true → s.rolledOut l = false → s.rolledOut l.other = false →
          ((pl s).merge.length < 4096 → meets fun t => (pl t).merge = (pl s).merge ++ [⟨c, c.stamp + win, false⟩] ∧
            (¬agree c → forwarded t c) ∧ (agree c → dropped t)) ∧
          (4096 ≤ (pl s).merge.length → meets fun t => more t 10 ∧ (pl t).merge = (pl s).merge ∧
            (¬agree c → forwarded t c) ∧ (agree c → dropped t)))) ∧
      ((pl s).merge.find? (fun d => decide (d.first.pub = c.pub ∧ d.first.issue = c.issue)) = some e → e.rolled = false →
        e.first.lane = l.other → s.rolledOut l = false → s.rolledOut l.other = false →
        e.first.stamp < c.stamp ∨ (e.first.stamp = c.stamp ∧ l = .l1) →
        (c.stamp ≤ e.first.stamp + win → equal → meets fun t => closed t e ∧ same t 7 ∧ (agree e.first → forwarded t e.first) ∧
          (¬agree e.first → dropped t)) ∧
        (c.stamp ≤ e.first.stamp + win → ¬equal → meets fun t => closed t e ∧ more t 7 ∧ dropped t ∧ captured t 0 c) ∧
        (e.first.stamp + win < c.stamp → meets fun t => more t 9 ∧ dropped t ∧ (¬agree e.first → closed t e) ∧
          (agree e.first → (pl t).merge = (pl s).merge))) ∧
      (s.rolledOut l = true → meets fun t => dropped t)) ∧
    ((pl s).merge.find? (fun d => decide (d.first.pub = pub.val ∧ d.first.issue = issue.toNat)) = some e →
      Answers (exec (.mergeDeadline p pub issue) s) fun t => closed t e ∧ dropped t ∧ frame t ∧
        (e.rolled = false → ¬agree e.first → more t 6) ∧ (e.rolled = false → agree e.first → more t 8 ∧ captured t 1 e.first) ∧
        (e.rolled = true → same t 6 ∧ same t 8))

/-- A sampled-value copy is counted at the first check of Table 6.4 it fails, and a tag under the next key promotes that key
(R137, R138, R154, R158, R289, R409). In an UP lane whose EPS does not run. With EN = 0 a copy changes nothing. With EN = 1
a frame of another EtherType or a copy of no subscription counts NOSUB. A copy of stream n that fails the time, layout,
simulate, confRev or seal check, lacks a required tag or carries one that does not verify counts in the counter of the first
check that fails, and for the last three in the stream's AUTH_FAIL, saturating; nothing but those counters changes, except
that a tag whose slot was zeroised after the copy's stamp also counts a settle overrun. A tag that verifies under the next
key makes it the current key, NEXT_VALID 0. exec is concluded to answer a next state, with this effect, for: svCopyReceived. -/
def Obligations.CopyChecks : Prop :=
  ∀ (l : Lane) (lan : Fin 2) (x n : Nat) (timeOk : Bool) (m : SvMsg) (s : State), s.laneUp l = true → s.epsRuns l = false → n < 4096 →
    let cmd := exec (.svCopyReceived l lan x timeOk m) s
    let a := subAddr l n
    let r := strRec l n
    let cnt := fun (k : Nat) (t : State) =>
      t.fld (.ing l) F.ING_CNT_COUNT k = min (s.fld (.ing l) F.ING_CNT_COUNT k + 1) (2 ^ 32 - 1)
    let counts := fun (k : Nat) => Answers cmd fun t => cnt k t ∧ RegsOutside [regAt (.ing l) .ING_CNT k] s t ∧ t.body = s.body
    let fails := fun (k : Nat) => Answers cmd fun t => cnt k t ∧
      t.ent r E.T6_10_AUTH_FAIL = min (s.ent r E.T6_10_AUTH_FAIL + 1) (2 ^ 32 - 1) ∧
      RegsOutside [regAt (.ing l) .ING_CNT k, (r, 64)] s t ∧ t.body = s.body
    let fnom := if s.ent a E.T6_2_F60 = 1 then 60 else 50
    let layout := svFormat (s.ent a E.T6_2_NASDU) (s.ent a E.T6_2_NCH) (s.ent a E.T6_2_CNT_MOD_M1 + 1) (svRates.getD (s.ent a E.T6_2_RATE) 0) fnom m = true
    let simOk := m.sim = false ∨ s.ent a E.T6_2_SIM_ACC = 1
    let sealed := s.ent a E.T6_2_SEAL_REQ = 0 ∨ sealOk m.body m.trailer (s.ent a E.T6_2_SEAL_SRC) = true
    let tag := fun (y : AuthExt) => s.tagCheck l (s.ent a E.T6_2_SLOT_CUR) (s.ent a E.T6_2_SLOT_NEXT) (s.ent a E.T6_2_KEY_ID_CUR)
      (s.ent a E.T6_2_KEY_ID_NEXT) (decide (s.ent a E.T6_2_NEXT_VALID = 1)) (s.ent a E.T6_2_AUTH) x y
    let gone := fun (y : AuthExt) => s.keyGone l (s.ent a E.T6_2_SLOT_CUR) (s.ent a E.T6_2_SLOT_NEXT) (s.ent a E.T6_2_KEY_ID_CUR)
      (s.ent a E.T6_2_KEY_ID_NEXT) (decide (s.ent a E.T6_2_NEXT_VALID = 1)) x y
    m.etype ≠ 0x88B8 →
    (s.bit (.ing l) F.ING_CTRL_EN = false → cmd = .next s) ∧
    (s.bit (.ing l) F.ING_CTRL_EN = true →
      (m.etype ≠ 0x88BA ∨ s.subFind l (s.streams l) m = none → counts 0) ∧
      (m.etype = 0x88BA → s.subFind l (s.streams l) m = some n →
        (timeOk = false → counts 7) ∧
        (timeOk = true →
          (¬layout → counts 1) ∧ (layout →
            (¬simOk → counts 2) ∧ (simOk →
              ((∃ d ∈ m.asdus, d.confRev ≠ s.ent a E.T6_2_CONF_REV) → counts 3) ∧ ((∀ d ∈ m.asdus, d.confRev = s.ent a E.T6_2_CONF_REV) →
                (¬sealed → fails 4) ∧ (sealed → s.ent a E.T6_2_AUTH ≠ 0 →
                  (m.auth = none → fails 6) ∧
                  (∀ y, m.auth = some y → tag y = 2 → gone y = false → fails 5) ∧
                  (∀ y, m.auth = some y → tag y = 2 → gone y = true → Answers cmd fun t => cnt 5 t ∧ t.fld (.lcfg l) F.CFG_SETTLE_OVR_COUNT =
                    min (s.fld (.lcfg l) F.CFG_SETTLE_OVR_COUNT + 1) (2 ^ 32 - 1)) ∧
                  (∀ y, m.auth = some y → tag y = 1 → Answers cmd fun t =>
                    t.ent a E.T6_2_SLOT_CUR = s.ent a E.T6_2_SLOT_NEXT ∧ t.ent a E.T6_2_KEY_ID_CUR = s.ent a E.T6_2_KEY_ID_NEXT ∧
                    t.ent a E.T6_2_NEXT_VALID = 0))))))))

/-- Continuity decides what a first copy does, the timing copy drives the tracker, and pairs of copies are counted and compared
(R139, R140, R141, R142, R143, R149, R152). For a checked copy of stream n whose key no frame held has: WAITING or LOST
accepts it and enters REVIVING, or LIVE when one frame suffices; otherwise by the sample-count difference it is in sequence,
a gap that adds to MISSED, STALE, or a discontinuity that counts DISCONT and starts REVIVING; an accepted one sets LAST_KEY
and counts FRAMES; a frozen ALIVE counts SEAL_ERR. With none held back, a preferred copy is timed at once: an in-sequence
LIVE frame moves the phase by the prediction and the shifted error, or holds it under the gate and re-anchors at the fourth,
its samples are delivered at the tracker's instants with code and TEST, its stamp is the last, and stamped after the loss
deadline it leaves that deadline missed; the other LAN's copy waits. The second copy of a waiting frame counts DUP and, when
unlike, COPY_DIFF, and the preferred times it unless later by more than COPY_WAIT; without it the other does, counting
NONPREF. exec is concluded to answer a next state, with this effect, for: svCopyReceived, timingCopyWaitExpire. -/
def Obligations.SampleFrames : Prop :=
  ∀ (l : Lane) (lan : Fin 2) (x n : Nat) (m : SvMsg) (f : SvFrame) (c : SvCopy) (d : SvDone) (s : State), s.laneUp l = true → s.epsRuns l = false →
    (h : n < 4160) → n < 4096 → s.bit (.ing l) F.ING_CTRL_EN = true → s.ent (subAddr l n) E.T6_2_VALID = 1 →
    let a := subAddr l n
    let r := strRec l n
    let cmd := exec (.svCopyReceived l lan x true m) s
    let fnom := if s.ent a E.T6_2_F60 = 1 then 60 else 50
    let checked := m.etype = 0x88BA ∧ s.subFind l (s.streams l) m = some n ∧
      svFormat (s.ent a E.T6_2_NASDU) (s.ent a E.T6_2_NCH) (s.ent a E.T6_2_CNT_MOD_M1 + 1) (svRates.getD (s.ent a E.T6_2_RATE) 0) fnom m = true ∧
      (m.sim = false ∨ s.ent a E.T6_2_SIM_ACC = 1) ∧ (∀ d ∈ m.asdus, d.confRev = s.ent a E.T6_2_CONF_REV) ∧
      (s.ent a E.T6_2_SEAL_REQ = 0 ∨ sealOk m.body m.trailer (s.ent a E.T6_2_SEAL_SRC) = true) ∧ s.ent a E.T6_2_AUTH = 0
    let key := (m.asdus.head?.map (fun d => d.smpCnt)).getD 0
    let md := s.ent a E.T6_2_CNT_MOD_M1 + 1
    let nas := s.ent a E.T6_2_NASDU
    let delta := (((key : Int) - s.ent r E.T6_10_LAST_KEY - nas) % (md : Int)).toNat
    let st := s.ent r E.T6_10_STATE
    let fresh := s.ent a E.T6_2_SEAL_REQ = 0 ∨ (s.str l n).alive ≠ some (sealAlive m.trailer)
    let pref := s.ent a E.T6_2_PREF_LAN
    let wait := s.ent a E.T6_2_COPY_WAIT * (1000 * 65536)
    let held := (s.str l n).pend
    let unheld := held = [] ∧ ∀ e ∈ (s.str l n).done, e.key ≠ key
    let cnt := fun (t : State) (k : Nat) => t.fld (.ing l) F.ING_CNT_COUNT k = min (s.fld (.ing l) F.ING_CNT_COUNT k + 1) (2 ^ 32 - 1)
    let more := fun (t : State) (g : EFld) (k : Nat) => t.ent r g = min (s.ent r g + k) g.maxVal
    let frame := fun (t : State) => RegsOutside (laneAt_ l :: evrAt :: followsAt) s t ∧ t.quiet.besideLane l = s.quiet.besideLane l
    let accepted := fun (t : State) => t.ent r E.T6_10_LAST_KEY = key % 65536 ∧ more t E.T6_10_FRAMES 1 ∧ frame t ∧
      (lan.val ≠ pref → (t.str l n).done = (s.str l n).done ∧ ∃ g, (t.str l n).pend = [g] ∧ g.key = key ∧ g.timing = none ∧
        g.copies = [⟨lan, x, svSamples (decide (s.ent a E.T6_2_SYNC_REQ = 1)) m⟩]) ∧
      (lan.val = pref → (t.str l n).pend = [] ∧ t.ent r E.T6_10_LAST_STAMP = toT96 x % 2 ^ 96 ∧
        ∃ g, (t.str l n).done.head? = some g ∧ g.key = key ∧ g.lans = [lan.val] ∧ g.stamp = x)
    let revives := fun (t : State) => t.ent r E.T6_10_STATE = if s.ent a E.T6_2_REVIVE ≤ 1 then 2 else 1
    let ts := s.strT l n
    let fibre := if lan.val = 0 then s.ent a E.T6_2_FIBRE_A else s.ent a E.T6_2_FIBRE_B
    let e : Int := (x : Int) - 16384 * fibre - 16384 * s.ent a E.T6_2_MU_DELAY
    let pred : Int := (s.str l n).phase + (ts * nas : Nat)
    let gated := s.ent a E.T6_2_TRK_GATE ≠ 0 ∧ s.ent a E.T6_2_TRK_GATE * (1000 * 65536) < (e - pred).natAbs
    let third := s.ent r E.T6_10_GATE_RUN = 3
    (checked → unheld →
      ((st = 0 ∨ st = 3) → Answers cmd fun t => accepted t ∧ revives t) ∧
      (st ≠ 0 → st ≠ 3 →
        (delta ≤ s.ent a E.T6_2_GAP_MAX → ¬fresh → Answers cmd fun t => cnt t 4 ∧ more t E.T6_10_AUTH_FAIL 1 ∧
          t.ent r E.T6_10_LAST_KEY = s.ent r E.T6_10_LAST_KEY ∧ frame t) ∧
        (delta = 0 → fresh → Answers cmd fun t => accepted t ∧ t.ent r E.T6_10_MISSED = s.ent r E.T6_10_MISSED ∧ (st = 2 → t.ent r E.T6_10_STATE = 2) ∧
          (st = 1 → t.ent r E.T6_10_STATE = if s.ent a E.T6_2_REVIVE ≤ s.ent r E.T6_10_REVIVE_CNT + 1 then 2 else 1)) ∧
        (0 < delta → delta ≤ s.ent a E.T6_2_GAP_MAX → fresh → Answers cmd fun t => accepted t ∧ more t E.T6_10_MISSED delta) ∧
        (s.ent a E.T6_2_GAP_MAX < delta → md - 16 * nas ≤ delta → Answers cmd fun t => cnt t 9 ∧ t.winWords r 16 = s.winWords r 16 ∧ frame t) ∧
        (s.ent a E.T6_2_GAP_MAX < delta → delta < md - 16 * nas → Answers cmd fun t => accepted t ∧ revives t ∧ more t E.T6_10_DISCONT 1)) ∧
      (st = 2 → delta = 0 → fresh → lan.val = pref → s.ent r E.T6_10_TRK_VALID = 1 → Answers cmd fun t =>
        let phase := if gated then (if third then e else pred) else pred + asr (e - pred) (s.ent a E.T6_2_TRK_SHIFT)
        (t.str l n).phase = phase ∧ t.ent r E.T6_10_PHASE = toT96 phase.toNat % 2 ^ 96 ∧
        (gated → third → more t E.T6_10_REANCHOR 1) ∧ t.ent r E.T6_10_GATE_RUN = (if gated ∧ ¬third then (s.ent r E.T6_10_GATE_RUN + 1) % 8 else 0) ∧
        (let dl := (ofT96 (s.ent r E.T6_10_LAST_STAMP)).getD 0 + s.ent a E.T6_2_LOSS_TMO * (1000 * 65536);
          (s.str l n).overdue = none → (t.str l n).overdue = if x ≤ dl then none else some (dl, key)) ∧
        ((t.str l n).fine.take nas).map (fun y => (y.t, y.stamp)) = (List.range nas).map (fun j : Nat => (phase - (ts * j : Nat), x)))) ∧
    (checked → held = [f] → f.key = key → f.copies = [c] → c.lan ≠ lan.val → Answers cmd fun t =>
      cnt t 8 ∧ (m.asduOct ≠ f.oct → cnt t 10) ∧ (m.asduOct = f.oct → t.fld (.ing l) F.ING_CNT_COUNT 10 = s.fld (.ing l) F.ING_CNT_COUNT 10) ∧ frame t ∧
      (lan.val = pref → (t.str l n).pend = [] ∧
        (c.stamp + wait < x → t.ent r E.T6_10_LAST_STAMP = toT96 c.stamp % 2 ^ 96 ∧ more t E.T6_10_NONPREF 1) ∧
        (x ≤ c.stamp + wait → t.ent r E.T6_10_LAST_STAMP = toT96 x % 2 ^ 96 ∧ t.ent r E.T6_10_NONPREF = s.ent r E.T6_10_NONPREF))) ∧
    (checked → (∀ g ∈ held, g.key ≠ key) → (s.str l n).done.find? (fun g => decide (g.key = key)) = some d → d.lans.contains lan.val = true →
      Answers cmd fun t => cnt t 8 ∧ t.winWords r 16 = s.winWords r 16 ∧ frame t) ∧
    (held = [f] → f.timing = none → f.copies = [c] → c.lan ≠ pref → Answers (exec (.timingCopyWaitExpire l ⟨n, h⟩) s) fun t =>
      (t.str l n).pend = [] ∧ t.ent r E.T6_10_LAST_STAMP = toT96 c.stamp % 2 ^ 96 ∧ more t E.T6_10_NONPREF 1 ∧ frame t)

/-- The grid starts at the next instant, groups release at their deadline counting late members, solo streams release missing,
and silence makes a stream LOST (R144, R145, R146, R147, R148, R150). With ingest enabled, the followed plane LOCKED and no
lane holdover, the grid starts at the number of the first instant later than the lane's clock. Each GRID_INSTANT advances
the number by one. ALIGNMENT_DEADLINE of a group with members releases its next instant: a LIVE member with no covering
stamp at or before the deadline counts LATE, the others do not. A solo stream that is not LIVE releases its next instant to
each of its filter slots as not live. LOSS_DEADLINE of a LIVE or REVIVING stream with a deadline missed before, or without a
held copy stamped in time, makes it LOST, counts LOSSES, clears TRK_VALID and sets its ING_CHG_MAP bit; with one, only time
passes. exec is concluded to answer a next state, with this effect, for: gridStart, gridInstant, alignmentDeadline,
soloMissingRelease, lossDeadline. -/
def Obligations.GridAndRelease : Prop :=
  ∀ (l : Lane) (g : Fin 255) (q : Fin 4096) (n : Fin 4160) (s : State), s.laneUp l = true → s.bit (.ing l) F.ING_CTRL_EN = true →
    let frame := fun (t : State) => RegsOutside (laneAt_ l :: evrAt :: followsAt) s t ∧ t.quiet.besideLane l = s.quiet.besideLane l
    (s.gridRun l = false → s.laneHold l = false → s.planeLocked (s.followed l) = true → Answers (exec (.gridStart l) s) fun t =>
      let k := (t.lane l).gridFirst
      t.gridRun l = true ∧ (t.lane l).grid = k ∧ s.laneNow l < s.gT l k ∧ (∀ j < k, s.gT l j ≤ s.laneNow l) ∧ frame t) ∧
    (s.gridRun l = true → Answers (exec (.gridInstant l) s) fun t => (t.lane l).grid = (s.lane l).grid + 1) ∧
    (s.gridRun l = true → s.members l g (s.grpNext l g) ≠ [] → RegsWf s → Answers (exec (.alignmentDeadline l g) s) fun t =>
      let k := s.grpNext l g
      let d := s.gT l k + ((s.members l g k).map (fun j => s.strLead l j k)).foldl max 0 + s.ent (s.grpAt l g k) E.T6_3_WINDOW * (1000 * 65536)
      k < t.grpNext l g ∧ frame t ∧ ∀ j ∈ s.members l g k,
        let late := s.strState l j = 2 ∧ ∀ y, s.coverStamp l j k = some y → d < y
        t.ent (strRec l j) E.T6_10_LATE = if late then min (s.ent (strRec l j) E.T6_10_LATE + 1) (2 ^ 32 - 1) else s.ent (strRec l j) E.T6_10_LATE) ∧
    (s.gridRun l = true → s.ent (s.subAt l q (s.soloNext l q)) E.T6_2_VALID = 1 → s.ent (s.subAt l q (s.soloNext l q)) E.T6_2_GROUP = 255 → s.strState l q ≠ 2 → RegsWf s →
      Answers (exec (.soloMissingRelease l q) s) fun t =>
        let k := s.soloNext l q
        (t.str l q).rel = some (k + 1) ∧ frame t ∧ ∀ i < 8192,
          let at_ := s.slotAt l i k
          let ready := fun (u : State) => (assocGetD (u.lane l).slots i SlotSt.empty).ready
          if s.bit (.flt l) F.FLT_CTRL_EN = true ∧ s.ent at_ E.T7_1_VALID = 1 ∧ s.ent at_ E.T7_1_STREAM = q.val then
            ∃ e, ready t = ready s ++ [e] ∧ e.g = k ∧ e.live = false
          else ready t = ready s) ∧
    (n.val < 4096 → s.ent (subAddr l n) E.T6_2_VALID = 1 → (s.strState l n = 1 ∨ s.strState l n = 2) →
      let dl := match (s.str l n).overdue with
        | some o => o.1
        | none => (ofT96 (s.ent (strRec l n) E.T6_10_LAST_STAMP)).getD 0 + s.ent (subAddr l n) E.T6_2_LOSS_TMO * (1000 * 65536)
      let kept := (s.str l n).overdue = none ∧ ∃ f ∈ (s.str l n).pend, f.first = true ∨ ∃ c ∈ f.copies, c.stamp ≤ dl
      (kept → Answers (exec (.lossDeadline l n) s) fun t => RegsOutside followsAt s t ∧ t.untimed = s.untimed) ∧
      (¬kept → Answers (exec (.lossDeadline l n) s) fun t =>
        t.strState l n = 3 ∧ t.ent (strRec l n) E.T6_10_LOSSES = min (s.ent (strRec l n) E.T6_10_LOSSES + 1) 65535 ∧
        t.ent (strRec l n) E.T6_10_TRK_VALID = 0 ∧ (t.str l n).lossAt = dl ∧
        bitAt (t.win (winAddr (.ing l) .ingChgMap (n.val / 32 * 4))).toNat (n.val % 32) = true ∧ t.bit (.ing l) F.ING_STATUS_CHANGE = true ∧ frame t))

/-- An engine serves the lowest ready slot's oldest instant and passes its tokens, washes blend to the target bank, busy banks
refuse writes, and posts wait or end (R167, R172, R174, R175, R179, R180, R181, R182, R183, R184). With the filters enabled
and room in its queue, an engine whose lowest ready position has a released instant takes it, counts OUTPUTS, and appends
one token per channel to node NODE + j: outside a wash the chain's output on the active bank, converted and scaled; in a
wash the blend with the target bank's output, which at k = LEN makes the target active and counts WASH_DONE. A waiting
request whose start has come starts a wash on a slot with WASH_OK, switches one without, and on the active bank counts
SWAP_NOP. A slot that still has to meet its new descriptor serves as it does after meeting it; after its last instant before
g_c one whose new descriptor is not VALID is reset. With 64 tokens queued it only counts a stall once. Enabling resets every
valid slot. A coefficient write to a bank in use counts BANK_BUSY; another stores the sign-extended word alone. A post to a
bad slot, instant or busy bank counts SWAP_NOP; another waits for its start, replacing and counting one that waits, and
counting a passed start late. Nothing outside the lane changes. exec is concluded to answer a next state, with this effect,
for: slotServe, filterEnable, coefficientWrite, swapPost. -/
def Obligations.FilterSlots : Prop :=
  ∀ (l : Lane) (e : Fin 16) (b : Fin 8) (w : Fin 4096) (data : Word) (k : Nat) (rel : RelEnt) (rest : List RelEnt) (s : State),
    s.laneUp l = true → RegsWf s →
    let i := 512 * e.val + k
    let a := s.slotAt l i rel.g
    let r := slotRec l i
    let pg : Page := .fltEng l e
    let x := s.slotSt l i
    let toks := fun (u : State) => (u.tokQ l e).toks
    let cnt := fun (t : State) (n : Nat) => t.fld (.flt l) F.FLT_CNT_COUNT n = min (s.fld (.flt l) F.FLT_CNT_COUNT n + 1) (2 ^ 32 - 1)
    let frame := fun (t : State) => RegsOutside [laneAt_ l] s t ∧ t.besideLane l = s.besideLane l
    let isReady := fun (j : Nat) => ∃ h ∈ (s.slotSt l (512 * e.val + j)).ready.head?, s.ent (s.slotAt l (512 * e.val + j) h.g) E.T7_1_VALID = 1
    let n := s.ent a E.T7_1_CH_CNT_M1 + 1
    let out := fun (bank : Nat) (p : Pipe) => (pipeRun (s.coef l e bank) (s.chainCfg a) p (s.slotResample l a (s.coef l e bank) x.resetN rel).1).2.1
    let tokens := fun (outs : List Smp) => (List.range n).map fun j => (⟨rel.g, false, 0, s.ent a E.T7_1_NODE + j, 0, (outs.getD j .missing).code,
      (outs.getD j .missing).test, fMul f32 (fOfInt f32 (outs.getD j .missing).val) (s.ent (a + 4 * j) E.T7_1_SCALE), false, 0⟩ : Tok)
    let due := s.ent r E.T7_8_WASHING = 0 ∧ s.ent r E.T7_8_PENDING = 1 ∧ x.pendAt ≤ rel.g
    let act := s.ent r E.T7_8_ACT_BANK
    let target := s.ent r E.T7_8_PEND_BANK
    let serves := fun (P : State → Prop) => Answers (exec (.slotServe l e) s) fun t =>
      (t.slotSt l i).ready = rest ∧ (t.slotSt l i).last = some rel.g ∧ t.ent r E.T7_8_OUTPUTS = (s.ent r E.T7_8_OUTPUTS + 1) % 2 ^ 32 ∧
      (∀ j, j ≠ i → (s.slotSt l j).due = false → t.slotSt l j = s.slotSt l j) ∧ frame t ∧ P t
    (s.bit (.flt l) F.FLT_CTRL_EN = true → k < s.fld pg F.FLT_ENG_CFG_N_SLOTS → k < 512 → isReady k → (∀ j < k, ¬isReady j) → x.ready = rel :: rest →
      (64 ≤ (toks s).length → Answers (exec (.slotServe l e) s) fun t => toks t = toks s ∧ (∀ j, t.slotSt l j = s.slotSt l j) ∧
        ((s.tokQ l e).stall = false → cnt t 1) ∧ ((s.tokQ l e).stall = true → t = s) ∧ frame t) ∧
      ((toks s).length < 64 → x.due = true → (s.lane l).fltGc ≤ rel.g → exec (.slotServe l e) s = exec (.slotServe l e) (s.slotSwitch l (s.lane l).fltGc i)) ∧
      ((toks s).length < 64 → x.due = true → rel.g < (s.lane l).fltGc → ¬due → x.pipe2 = none →
        Answers (exec (.slotServe l e) s) fun t => toks t = toks s ++ tokens (out act x.pipe) ∧ frame t) ∧
      ((toks s).length < 64 →
        x.due = false ∨ (rel.g < (s.lane l).fltGc ∧ (s.ent (slotDesc l i) E.T7_1_VALID = 1 ∨ (s.lane l).grid < (s.lane l).fltGc)) →
        (¬due → x.pipe2 = none → serves fun t => toks t = toks s ++ tokens (out act x.pipe) ∧ t.ent r E.T7_8_ACT_BANK = act ∧ (t.slotSt l i).pipe2 = none) ∧
        (∀ p2, ¬due → x.pipe2 = some p2 → 0 < x.washLen → s.ent r E.T7_8_WASH_K < 4096 → serves fun t =>
          let d := s.ent r E.T7_8_WASH_K + 1
          let bank2 := s.ent r E.T7_8_WASH_BANK
          toks t = toks s ++ tokens ((List.range n).map fun j =>
            let y := (out act x.pipe).getD j .missing
            let z := (out bank2 p2).getD j .missing
            ⟨y.val + (2 * ((z.val - y.val) * d) + x.washLen) / (2 * x.washLen : Nat), max y.code z.code, y.test || z.test, 0⟩) ∧
          t.ent r E.T7_8_WASH_K = d ∧
          (d < x.washLen → t.ent r E.T7_8_ACT_BANK = act ∧ (t.slotSt l i).pipe2.isSome = true) ∧
          (x.washLen ≤ d → t.ent r E.T7_8_ACT_BANK = bank2 ∧ t.ent r E.T7_8_WASHING = 0 ∧ (t.slotSt l i).pipe2 = none ∧ cnt t 2)) ∧
        (due → x.pipe2 = none → act = target → serves fun t => cnt t 6 ∧ t.ent r E.T7_8_PENDING = 0 ∧ t.ent r E.T7_8_ACT_BANK = act) ∧
        (due → x.pipe2 = none → act ≠ target → s.ent a E.T7_1_WASH_OK = 0 → serves fun t =>
          toks t = toks s ++ tokens (out target x.pipe) ∧ t.ent r E.T7_8_PENDING = 0 ∧ t.ent r E.T7_8_ACT_BANK = target ∧ t.ent r E.T7_8_WASHING = 0) ∧
        (due → x.pipe2 = none → act ≠ target → s.ent a E.T7_1_WASH_OK = 1 → 1 < s.fld pg F.FLT_WASH_LEN_LEN → serves fun t =>
          t.ent r E.T7_8_PENDING = 0 ∧ t.ent r E.T7_8_ACT_BANK = act ∧ t.ent r E.T7_8_WASHING = 1 ∧ t.ent r E.T7_8_WASH_BANK = target ∧
          t.ent r E.T7_8_WASH_K = 1 ∧ (t.slotSt l i).washLen = s.fld pg F.FLT_WASH_LEN_LEN ∧ (t.slotSt l i).pipe2.isSome = true))) ∧
    (s.bit (.flt l) F.FLT_CTRL_EN = false → Answers (exec (.filterEnable l) s) fun t =>
      t.bit (.flt l) F.FLT_CTRL_EN = true ∧ frame t ∧ (i < 8192 → s.ent (slotDesc l i) E.T7_1_VALID = 1 →
        t.ent r E.T7_8_ACT_BANK = s.ent (slotDesc l i) E.T7_1_BANK ∧ t.ent r E.T7_8_WASHING = 0 ∧ t.ent r E.T7_8_PENDING = 0 ∧ t.ent r E.T7_8_OUTPUTS = 0 ∧
        (t.slotSt l i).pipe = .empty ∧ (t.slotSt l i).pipe2 = none ∧ (t.slotSt l i).ready = [] ∧
        (t.slotSt l i).resetN = (s.str l (s.ent (slotDesc l i) E.T7_1_STREAM)).nextN)) ∧
    (let word := winAddr (.flt l) .fltCoef ((8 * e.val + b.val) * 0x4000 + 4 * w.val)
      let uses := fun (j : Nat) => j < 512 ∧ s.ent (slotDesc l (512 * e.val + j)) E.T7_1_VALID = 1 ∧
        let q := slotRec l (512 * e.val + j)
        (s.ent q E.T7_8_ACT_BANK = b.val ∨ (s.ent q E.T7_8_WASHING = 1 ∧ s.ent q E.T7_8_WASH_BANK = b.val) ∨
          (s.ent q E.T7_8_PENDING = 1 ∧ s.ent q E.T7_8_PEND_BANK = b.val))
      ((∃ j, uses j) → Answers (exec (.coefficientWrite l e b w data) s) fun t => cnt t 5 ∧ RegsOutside [regAt (.flt l) .FLT_CNT 5] s t ∧ t.body = s.body) ∧
      ((∀ j, ¬uses j) → Answers (exec (.coefficientWrite l e b w data) s) fun t =>
        (t.win word).toNat = (if bitAt data.toNat 23 then 0xFF000000 else 0) + data.toNat % 2 ^ 24 ∧ RegsOutside [(word, 1)] s t ∧ t.body = s.body)) ∧
    (let slot := s.fld pg F.FLT_SWAP_REQ_SLOT
      let bank := s.fld pg F.FLT_SWAP_REQ_BANK
      let idx := s.fld pg F.FLT_SWAP_IDX_IDX
      let j := 512 * e.val + slot
      let q := slotRec l j
      let bad := s.fld pg F.FLT_ENG_CFG_N_SLOTS ≤ slot ∨ s.ent (slotDesc l j) E.T7_1_VALID = 0 ∨ s.gridG l ≤ idx ∨
        (s.bankBusy l e bank = true ∧ ¬(s.ent q E.T7_8_PENDING = 1 ∧ s.ent q E.T7_8_PEND_BANK = bank))
      let start := secNear (s.laneNow l / sec) (s.fld pg F.FLT_SWAP_SEC_SEC) * s.gridG l + idx
      (bad → Answers (exec (.swapPost l e) s) fun t => cnt t 6 ∧ RegsOutside [regAt (.flt l) .FLT_CNT 6] s t ∧ t.body = s.body) ∧
      (¬bad → Answers (exec (.swapPost l e) s) fun t =>
        t.ent q E.T7_8_PENDING = 1 ∧ t.ent q E.T7_8_PEND_BANK = bank ∧ (s.ent q E.T7_8_PENDING = 1 → cnt t 3) ∧ frame t ∧
        ((∀ g, (s.slotSt l j).last = some g → g < start) → (t.slotSt l j).pendAt = start ∧ t.ent q E.T7_8_PEND_IDX = idx ∧
          t.ent q E.T7_8_PEND_SEC = start / s.gridG l % 2 ^ 32) ∧
        (∀ g, (s.slotSt l j).last = some g → start ≤ g → cnt t 4 ∧ (t.slotSt l j).pendAt = g + 1)))

/-- Quill copies a head token to the ports that take it, holds a grid token that has no room, and drops only Speedwell, foreign-
key and closed-group tokens (R190, R191, R192, R193, R194, R195, R202). With EN = 0 a grid head token is held, SRC_STALL
counted once, and a Speedwell one discarded with no register changed. With EN = 1 a head token whose node is no input node
of its kind, or whose key is not a firing key, leaves uncounted; at a closed group it leaves and INTAKE_DROP counts. A grid
token for which every port that will take it has room leaves and lies last on each of them; other ports stay, closed ones
counted; without room it is held. A Speedwell token behind its node counts SW_BEHIND, one without a place SW_DROP, both
leaving the ports; one of a later key drops the oldest key's tokens when a port other than its own lacks that key, and else
stays beside them. A port that awaits its first token after a reopening is emptied of older ones first. A one-port operator
node without successors becomes ready, dispatchable when it has no flow, or is deferred when its group's pool is full.
OVERLOAD of a held source counts once, sets QUL_STATUS.OVERLOAD and keeps the token. exec is concluded to answer a next
state, with this effect, for: tokenAccept, overload. -/
def Obligations.TokenArrival : Prop :=
  ∀ (l : Lane) (src : Fin 17) (x : Tok) (rest : List Tok) (s : State), s.laneUp l = true → (s.tokQ l src).toks = x :: rest →
    let cmd := exec (.tokenAccept l src) s
    let q := s.tokQ l src
    let b := s.tokBank l x
    let n := x.node
    let dsts := s.succs l b n
    let cnt := fun (t : State) (k by_ : Nat) => t.fld (.qul l) F.QUL_CNT_COUNT k = min (s.fld (.qul l) F.QUL_CNT_COUNT k + by_) (2 ^ 32 - 1)
    let frame := fun (t : State) => RegsOutside [laneAt_ l, evrAt] s t ∧ t.quiet.besideLane l = s.quiet.besideLane l
    let leaves := fun (P : State → Prop) => Answers cmd fun t =>
      (t.tokQ l src).toks = rest ∧ (t.tokQ l src).held = none ∧ (∀ j, j ≠ src.val → t.tokQ l j = s.tokQ l j) ∧ frame t ∧ P t
    let heldBack :=
      (q.held = none → Answers cmd fun t => t.tokQ l src = { q with held := some s.real } ∧ cnt t 2 1 ∧
        RegsOutside [regAt (.qul l) .QUL_CNT 2] s t ∧ t.setTokQ l src q = { s with regs := t.regs }.setTokQ l src q) ∧
      (q.held ≠ none → cmd = .next s)
    let kindOk := s.nd l b n E.T8_3_KIND = if x.sw then 2 else 1
    let firing := fun (m : Nat) => x.sw = true ∨ x.key % s.gridG l % (s.nd l b m E.T8_3_DIV_M1 + 1) = s.nd l b m E.T8_3_PHASE
    let closed := fun (m : Nat) => s.grpClosed l (s.nd l b m E.T8_3_GROUP) x.key x.sw = true
    let takes := fun (m : Nat) => firing m ∧ ¬closed m
    let older := s.tokOlder l x
    let kept := fun (m p : Nat) =>
      let y := s.node l b m
      let own := if y.firing = 0 then 0 else 1
      if y.reopen.contains p then (y.port p).take own ++ ((y.port p).drop own).filter (fun w => !older w.key x.key) else y.port p
    let room := fun (m p : Nat) => (kept m p).length + (s.node l b m).resvd p < 2
    let copy := fun (m p : Nat) => { x with node := m, port := p, opb := s.opBank l }
    (s.bit (.qul l) F.QUL_CTRL_EN = false →
      (x.sw = false → heldBack) ∧
      (x.sw = true → Answers cmd fun t => (t.tokQ l src).toks = rest ∧ RegsOutside [] s t)) ∧
    (s.bit (.qul l) F.QUL_CTRL_EN = true →
      (¬kindOk ∨ ¬firing n → leaves fun t => cnt t 2 0 ∧ cnt t 5 0) ∧
      (kindOk → firing n → closed n → leaves fun t => cnt t 5 1 ∧ ∀ m p, (t.node l b m).port p = (s.node l b m).port p) ∧
      (kindOk → firing n → ¬closed n →
        (x.sw = false → (∃ d ∈ dsts, takes d.1 ∧ ¬room d.1 d.2) → heldBack) ∧
        (x.sw = false → dsts.Nodup → (∀ d ∈ dsts, takes d.1 → room d.1 d.2) →
          leaves fun t => cnt t 2 0 ∧ cnt t 5 (dsts.filter (fun d => s.firingKey l b d.1 x.key false && s.grpClosed l (s.nd l b d.1 E.T8_3_GROUP) x.key false)).length ∧
            ∀ d ∈ dsts, (takes d.1 → (t.node l b d.1).port d.2 = kept d.1 d.2 ++ [copy d.1 d.2]) ∧
              (¬takes d.1 → (t.node l b d.1).port d.2 = (s.node l b d.1).port d.2)) ∧
        (∀ m p : Nat, x.sw = true → dsts = [(m, p)] → takes m → x.fresh = false → (s.node l b m).reopen.contains p = false →
          let y := s.node l b m
          let md := s.cntMod l x.stream
          let behind := ∃ k, y.last = some k ∧
            let d := (((x.key : Int) - k) % (md : Int)).toNat
            (d = 0 ∨ md ≤ 2 * d)
          (behind → leaves fun t => cnt t 4 1 ∧ cnt t 3 0 ∧ (t.node l b m).ports = y.ports) ∧
          (¬behind → ¬room m p → leaves fun t => cnt t 3 1 ∧ cnt t 4 0 ∧ (t.node l b m).ports = y.ports) ∧
          (∀ a : Tok, ¬behind → p = 1 → s.nd l b m E.T8_3_N_IN_M1 = 1 → y.resv = [] → y.firing = 0 → swOlder md a.key x.key = true →
            (y.ports = [(1, [a])] → leaves fun t => cnt t 3 1 ∧ (t.node l b m).ports = [(1, [copy m 1])]) ∧
            (y.ports = [(0, [a])] → leaves fun t => cnt t 3 0 ∧ (t.node l b m).ports = [(0, [a]), (1, [copy m 1])]))) ∧
        (∀ m : Nat, x.sw = false → dsts = [(m, 0)] → takes m → m < 2 ^ 18 → (s.lane l).quill.nodes = [] → (s.lane l).quill.deferred = [] →
          s.nd l b m E.T8_3_KIND = 3 → s.nd l b m E.T8_3_SW = 0 → s.nd l b m E.T8_3_N_IN_M1 = 0 → s.succs l b m = [] →
          let g := s.grpEnt l b (s.nd l b m E.T8_3_GROUP)
          ((s.pool l g).length < s.grpF l g E.T8_6_READY_MAX → leaves fun t => (t.node l b m).firing = 1 ∧ cnt t 1 0 ∧
            ∃ i, (t.pool l g).getLast? = some i ∧ i.bank = b ∧ i.node = m ∧ i.key = x.key ∧ i.resv = [] ∧
              (s.nd l b m E.T8_3_FLOW_EN = 0 → i.disp.isSome = true)) ∧
          (s.grpF l g E.T8_6_READY_MAX ≤ (s.pool l g).length → leaves fun t => (t.node l b m).firing = 0 ∧ cnt t 1 1 ∧
            (t.lane l).quill.deferred = [(b, m)] ∧ (t.pool l g).length = (s.pool l g).length)))) ∧
    (∀ r, q.held = some r → q.overLim = false → Answers (exec (.overload l src) s) fun t =>
      t.tokQ l src = { q with overLim := true } ∧ cnt t 6 1 ∧ t.bit (.qul l) F.QUL_STATUS_OVERLOAD = true ∧
      r + s.fld (.qul l) F.QUL_CTRL_STALL_LIM * us < t.real ∧ RegsOutside (laneAt_ l :: evrAt :: followsAt) s t ∧ t.quiet.besideLane l = s.quiet.besideLane l)

/-- A free engine takes level 0 first come first served, then the levels by deficit round robin; shares, intake, histogram and
load follow their commands (R196, R197, R198, R200, R201, R202, R206, R207, R212, R234, R422). A free engine of an enabled
lane that may dispatch takes the dispatchable level-0 item that became dispatchable first; with none, a reserved engine
stays idle and another one takes, with one active group on the lowest active level, its first dispatchable item when its
topped-up deficit covers the cost, the deficit falling by the cost; of two groups in a running round a head group whose item
costs more moves to the tail and the next group's item is taken. Dispatching counts FIRED, the group's FIRED, and the bin of
its wait when selected. A busy, faulty or EPS engine takes nothing. A weight write stores WEIGHT and drops nothing; 0
changes nothing. Closing intake clears INTAKE, keeps every ready item and defers no node; opening sets it and has every port
of a node that holds something await a first token. HIST_SELECT zeroes the bins; a level above 7 leaves QUL_HIST_SEL. The
load window's end takes each engine's busy share in 2^-16 and its peak. exec is concluded to answer a next state, with this
effect, for: engineSelect, groupWeightWrite, groupIntakeClose, groupIntakeOpen, histSelect, loadWindowEnd. -/
def Obligations.EngineSelection : Prop :=
  ∀ (l : Lane) (e : Fin 48) (s : State), s.laneUp l = true →
    let q := (s.lane l).quill
    let fld := fun (t : State) (f : Fld) (k : Nat) => t.fld (.qul l) f k
    let up1 := fun (t : State) (f : Fld) (k : Nat) => fld t f k = min (fld s f k + 1) (2 ^ 32 - 1)
    let frame := fun (t : State) => RegsOutside [laneAt_ l] s t ∧ t.besideLane l = s.besideLane l
    let free := s.bit (.qul l) F.QUL_CTRL_EN = true ∧ s.bit (.ops l) F.OPS_CTRL_EN = true ∧ s.engOut l e = false ∧ assocGet q.eng e.val = none
    let takes := fun (i : Item) (t : State) =>
      assocGet (t.lane l).quill.eng e.val = some ⟨i, s.real, 0⟩ ∧ (t.node l i.bank i.node).firing = 2 ∧
      (∀ j ∈ (t.lane l).quill.items, ¬(j.bank = i.bank ∧ j.node = i.node)) ∧ up1 t F.QUL_CNT_COUNT 0 ∧
      (t.grpSt l i.group).fired = ((s.grpSt l i.group).fired + 1) % 2 ^ 32 ∧ frame t ∧
      (∀ w, i.disp = some w →
        let ns_ := (s.real - w.1) / ns
        let sel := if s.bit (.qul l) F.QUL_HIST_SEL_GRP then decide (fld s F.QUL_HIST_SEL_SEL 0 = i.group) else decide (fld s F.QUL_HIST_SEL_SEL 0 = s.level l (s.itemGrp l i))
        ∀ k < 16, if sel = true ∧ (if k = 0 then ns_ < 20 else 20 * 2 ^ (k - 1) ≤ ns_ ∧ (k = 15 ∨ ns_ < 20 * 2 ^ k)) then up1 t F.QUL_HIST_COUNT k
          else fld t F.QUL_HIST_COUNT k = fld s F.QUL_HIST_COUNT k)
    let none0 := ∀ i ∈ q.items, s.level l (s.itemGrp l i) = 0 → s.canGo l i = false
    (¬free → exec (.engineSelect l e) s = .next s) ∧
    (∀ i ∈ q.items, free → i.node < 2 ^ 18 → s.level l (s.itemGrp l i) = 0 → s.canGo l i = true →
      (∀ j ∈ q.items, s.level l (s.itemGrp l j) = 0 → s.canGo l j = true → j = i ∨ (i.disp.getD (0, 0)).2 < (j.disp.getD (0, 0)).2) →
      Answers (exec (.engineSelect l e) s) (takes i)) ∧
    (free → none0 → e.val < fld s F.QUL_CTRL_RES0 0 → exec (.engineSelect l e) s = .next s) ∧
    (∀ (lv g : Nat) (i : Item), free → none0 → fld s F.QUL_CTRL_RES0 0 ≤ e.val → i.node < 2 ^ 18 → 1 ≤ lv → lv ≤ 7 → (∀ k, 1 ≤ k → k < lv → assocGetD q.active k [] = []) →
      assocGetD q.active lv [] = [g] → assocGetD q.roundLeft lv 0 = 0 → (s.pool l g).find? (s.canGo l) = some i →
      let quantum := max (fld s F.QUL_GRP_CTL_WEIGHT (g % 256) * fld s F.QUL_LVL_CFG_QBASE lv) (s.grpF l g E.T8_6_CMAX)
      let deficit := min (s.grpSt l g).deficit quantum + (if (s.grpSt l g).topped then 0 else quantum)
      s.itemCost l i ≤ deficit → Answers (exec (.engineSelect l e) s) fun t =>
        takes i t ∧ (t.grpSt l g).quantum = quantum ∧ (s.level l g = lv → (t.grpSt l g).deficit = deficit - s.itemCost l i)) ∧
    (∀ (lv g h : Nat) (i j : Item), free → none0 → fld s F.QUL_CTRL_RES0 0 ≤ e.val → j.node < 2 ^ 18 → 1 ≤ lv → lv ≤ 7 → g ≠ h → s.level l g = lv → s.level l h = lv →
      (∀ k, 1 ≤ k → k < lv → assocGetD q.active k [] = []) →
      assocGetD q.active lv [] = [g, h] → assocGetD q.roundLeft lv 0 = 2 → (s.pool l g).find? (s.canGo l) = some i → (s.pool l h).find? (s.canGo l) = some j →
      (s.grpSt l g).topped = true → (s.grpSt l g).deficit < s.itemCost l i → (s.grpSt l h).topped = false → s.itemCost l j ≤ (s.grpSt l h).deficit + (s.grpSt l h).quantum →
      Answers (exec (.engineSelect l e) s) fun t => takes j t ∧ (t.grpSt l g).topped = false ∧
        (t.grpSt l h).deficit = (s.grpSt l h).deficit + (s.grpSt l h).quantum - s.itemCost l j ∧ ∃ more, assocGetD (t.lane l).quill.active lv [] = h :: g :: more) ∧
    (∀ (g : Fin 256) (w : BitVec 8), (w = 0 → exec (.groupWeightWrite l g w) s = .next s) ∧
      (w ≠ 0 → Answers (exec (.groupWeightWrite l g w) s) fun t => fld t F.QUL_GRP_CTL_WEIGHT g = w.toNat ∧ fld t F.QUL_GRP_CTL_INTAKE g = fld s F.QUL_GRP_CTL_INTAKE g ∧
        RegsOutside [regAt (.qul l) .QUL_GRP_CTL g] s t ∧ t.body = s.body)) ∧
    (∀ g : Fin 256, Answers (exec (.groupIntakeClose l g) s) fun t => fld t F.QUL_GRP_CTL_INTAKE g = 0 ∧ fld t F.QUL_GRP_CTL_WEIGHT g = fld s F.QUL_GRP_CTL_WEIGHT g ∧
      ((t.pool l g).map fun i => (i.bank, i.node, i.key)) = ((s.pool l g).map fun i => (i.bank, i.node, i.key)) ∧
      (∀ d ∈ (t.lane l).quill.deferred, s.nd l d.1 d.2 E.T8_3_GROUP ≠ g) ∧ (∀ k sw, t.grpClosed l g k sw = true) ∧ frame t) ∧
    (∀ g : Fin 256, (s.bit (.qul l) F.QUL_GRP_CTL_INTAKE g = true → exec (.groupIntakeOpen l g) s = .next s) ∧
      (s.bit (.qul l) F.QUL_GRP_CTL_INTAKE g = false → assocSorted q.nodes = true → Answers (exec (.groupIntakeOpen l g) s) fun t =>
        fld t F.QUL_GRP_CTL_INTAKE g = 1 ∧ (∀ k sw, t.grpClosed l g k sw = false) ∧ frame t ∧
        ∀ y ∈ q.nodes,
          let b := y.1 / 2 ^ 18
          let n := y.1 % 2 ^ 18
          s.nd l b n E.T8_3_GROUP = g.val → (t.node l b n).reopen = List.range (s.nd l b n E.T8_3_N_IN_M1 + 1))) ∧
    (∀ (grp : Bool) (sel : Fin 256), Answers (exec (.histSelect l grp sel) s) fun t => (∀ k < 16, fld t F.QUL_HIST_COUNT k = 0) ∧
      (let kept := grp = false ∧ 7 < sel.val;
        (kept → t.rd (.qul l) .QUL_HIST_SEL = s.rd (.qul l) .QUL_HIST_SEL) ∧
        (¬kept → t.bit (.qul l) F.QUL_HIST_SEL_GRP = grp ∧ fld t F.QUL_HIST_SEL_SEL 0 = sel)) ∧
      RegsOutside [rowAt (.qul l) .QUL_HIST 16, regAt (.qul l) .QUL_HIST_SEL] s t ∧ t.body = s.body) ∧
    Answers (exec (.loadWindowEnd l) s) fun t =>
      (t.lane l).quill.winStart = t.real ∧ q.winStart + fld s F.QUL_LOAD_WIN_WIN 0 * us ≤ t.real ∧ s.real ≤ t.real ∧ (t.lane l).quill.busy = [] ∧
      (∀ k < 48,
        let run := match assocGet q.eng k with
          | some r => t.real - max r.start q.winStart
          | none => 0
        let load := min ((assocGetD q.busy k 0 + run) * 65536 / (t.real - q.winStart)) 0xFFFF
        fld t F.QUL_ENG_LOAD_LOAD k = load ∧ fld t F.QUL_ENG_LOAD_PEAK k = max (fld s F.QUL_ENG_LOAD_PEAK k) load) ∧
      RegsOutside (rowAt (.qul l) .QUL_ENG_LOAD 48 :: followsAt) s t ∧ t.besideLane l = s.besideLane l

/-- A firing of any operator commits its state record, output token and counts together, waits for the map, or goes back to
Quill on an engine error (R210, R211, R212, R215, R217, R219, R221, R234, R240, R243). With every memory in canonical form
(kept by each step, StoresStayCanonical): for each of the ten operators whose firing runs on an engine. The commit frees the
engine, counts FIRINGS, BLOCKED when W3.BLOCKED, NAN_OUT when a value word is a NaN (CODE then at least INVALID) and OPERATE
when the instance's last firing did not operate; with a state record it stores LAST_KEY and the operator's state words, with
STATE_LEN 0 nothing, and changes no other byte of memory; it takes the key's tokens from the node's ports and delivers W0 to
W3, CODE and TEST to each reserved grid successor. A state record of an instance listed for rest by an operator commit is
set to rest first, once for all that share it, and counted. With MAP_EN = 1 a full or disabled map keeps the firing on its
engine, counted once; with room a write of the wrong owner or class counts WRONG_WRITER and any other waits for its instant
with W0 to W3, key, CODE and TEST. An engine error before the commit puts the item back, counts ENG_RETRY, shows the engine
in OPS_ENG_OUT and writes no memory. An idle engine, or one running another operator, stays. exec is concluded to answer a
next state, with this effect, for: opPhasor, opSeq, opDiff, opDist, opDir, opIdmt, opDeft, opFreq, opHarm, opInst. -/
def Obligations.OperatorFirings : Prop :=
  ∀ (l : Lane) (e : Fin 48) (err : Ecc) (s : State), s.laneUp l = true → MemsWf s →
    let ops : List ((Lane → Fin 48 → Ecc → Instr) × Nat × (OpIn → OpOut)) :=
      [(.opPhasor, 1, opPhasorF), (.opSeq, 2, opSeqF), (.opDiff, 3, opDiffF), (.opDist, 4, opDistF), (.opDir, 5, opDirF),
        (.opIdmt, 6, opIdmtF), (.opDeft, 7, opDeftF), (.opFreq, 8, opFreqF), (.opHarm, 9, opHarmF), (.opInst, 10, opInstF)]
    ∀ op ∈ ops,
      let cmd := exec (op.1 l e err) s
      let q := (s.lane l).quill
      (assocGet q.eng e.val = none → cmd = .next s) ∧
      ∀ r, assocGet q.eng e.val = some r →
        let i := r.item
        let inst := s.nd l i.bank i.node E.T8_3_OP
        let ob := s.itemOpBank l i
        let a := s.opDesc l ob inst
        (s.recF l a E.T9_1_OPCODE ≠ op.2.1 → cmd = .next s) ∧
        (s.recF l a E.T9_1_OPCODE = op.2.1 → assocSorted q.eng = true → assocSorted q.nodes = true →
          let len := s.recF l a E.T9_1_STATE_LEN
          let base := s.opStateAt l (s.recF l a E.T9_1_STATE_IDX)
          let shares := fun (n : Nat) => s.recF l (s.opDesc l ob n) E.T9_1_STATE_IDX = s.recF l a E.T9_1_STATE_IDX
          let resets := ob = s.opBank l ∧ len ≠ 0 ∧ ∃ n ∈ q.opsReset, shares n
          let mapEn := s.recF l a E.T9_1_MAP_EN = 1
          let ins := s.opInputs l i
          let first := ins.headD .none_
          let area := s.pairReg (.ops l) .OPS_AREA_BASE_LO .OPS_AREA_BASE_HI + ob * 0x4000000
          let x : OpIn := ⟨fun f => s.recF l a f, fun f => if len = 0 then 0 else s.recF l base f,
            fun o n => s.memN l (area + 0x2000000 + s.recF l a E.T9_1_XPARAM + o) n, decide (s.recF l a E.T9_1_QUEST_OK = 1),
            decide (s.recF l a E.T9_1_LAST = 1), ins,
            if i.sw then fwdDist (s.cntMod l first.stream) (s.recF l base ⟨0, 15, 0⟩) i.key else 1⟩
          let y := op.2.2 x
          let nan := fIsNan f32 y.w0 = true ∨ fIsNan f32 y.w1 = true ∨ fIsNan f32 y.w2 = true
          let code := if nan then max y.code 2 else y.code
          let payload := y.w0 + 2 ^ 32 * y.w1 + 2 ^ 64 * y.w2 + 2 ^ 96 * y.w3
          let out : Tok := ⟨i.key, i.sw, first.src, 0, 0, code, y.test, payload, ins.any (fun t => t.fresh), i.opb⟩
          let stored := fun (ad : Nat) => len ≠ 0 ∧ ((base ≤ ad ∧ ad < base + 12) ∨ ∃ fv ∈ y.st, base + fv.1.off ≤ ad ∧ ad < base + fv.1.off + fv.1.hi / 8 + 1)
          let apart := ∀ ad, stored ad → ¬(a ≤ ad ∧ ad < a + 128) ∧ ¬(s.graphAt l i.bank 0 ≤ ad ∧ ad < s.graphAt l i.bank 0 + 0x1000000)
          let cnt := fun (t : State) (k by_ : Nat) => t.fld (.ops l) F.OPS_CNT_COUNT k = min (s.fld (.ops l) F.OPS_CNT_COUNT k + by_) (2 ^ 32 - 1)
          let regs := fun (t : State) => RegsOutside (laneAt_ l :: evrAt :: regAt .blt .BLT_UNC (domBltIdx (.lane l)) :: followsAt) s t
          let rest := fun (t : State) => { t.quiet.besideLane l with mem0 := s.mem0, mem1 := s.mem1 } = s.quiet.besideLane l
          let commits := fun (t : State) => assocGet (t.lane l).quill.eng e.val = none ∧ cnt t 0 1 ∧ cnt t 1 (b2n (bitAt y.w3 2)) ∧
            cnt t 2 (if nan then 1 else 0) ∧ cnt t 3 (b2n (bitAt y.w3 1 && !q.operated.contains inst)) ∧ r.start + s.itemCost l i * ns * 2 / 3 ≤ t.real ∧ regs t ∧ rest t
          (err = .clean → ¬resets → apart → ¬mapEn → Answers cmd fun t =>
            commits t ∧ cnt t 4 0 ∧
            (len ≠ 0 → t.recF l base ⟨0, 95, 0⟩ = s.keyOf l i.sw i.key first.src % 2 ^ 96 ∧
              ∀ fv ∈ y.st, t.recF l base fv.1 = fv.2 % 2 ^ (fv.1.hi + 1 - fv.1.lo)) ∧
            (∀ m ad, ¬(m = l ∧ stored ad) → t.mem m ad 1 = s.mem m ad 1) ∧
            (let dsts := s.succs l i.bank i.node;
              dsts.Nodup → (∀ d ∈ dsts, d.1 ≠ i.node) →
              (t.node l i.bank i.node).last = some i.key ∧ (∀ p ∈ (t.node l i.bank i.node).ports, ∀ k ∈ p.2, k.key ≠ i.key) ∧
              (i.sw = false → ∀ d ∈ dsts, d ∈ i.resv → s.willTake l i.bank d.1 i.key false = true → (s.node l i.bank d.1).reopen.contains d.2 = false →
                (t.node l i.bank d.1).port d.2 = (s.node l i.bank d.1).port d.2 ++ [{ out with node := d.1, port := d.2 }]))) ∧
          (err = .clean → resets → ¬mapEn → Answers cmd fun t => cnt t 4 1 ∧ cnt t 0 1 ∧
            (t.lane l).quill.opsReset = q.opsReset.filter (fun n => decide (s.recF l (s.opDesc l ob n) E.T9_1_STATE_IDX ≠ s.recF l a E.T9_1_STATE_IDX)) ∧ regs t ∧ rest t) ∧
          (err = .clean → mapEn → s.mapRoom l 1 = false → Answers cmd fun t =>
            assocGet (t.lane l).quill.eng e.val = some r ∧ cnt t 0 0 ∧ (.engine e ∈ (t.lane l).map.waits) ∧ t.mem0 = s.mem0 ∧ t.mem1 = s.mem1 ∧ rest t ∧
            t.fld (.map l) F.MAP_CNT_COUNT 15 = min (s.fld (.map l) F.MAP_CNT_COUNT 15 + (if (s.lane l).map.waits.contains (.engine e) then 0 else 1)) (2 ^ 32 - 1) ∧
            RegsOutside (regAt (.map l) .MAP_CNT 15 :: followsAt) s t) ∧
          (err = .clean → ¬resets → apart → mapEn → s.mapRoom l 1 = true →
            let own := s.grpF l (s.itemGrp l i) E.T8_6_OWNER
            let pt := s.recF l a E.T9_1_MAP_PT
            (s.mayWrite l 1 own pt = false → Answers cmd fun t => commits t ∧ (t.lane l).map.pend = (s.lane l).map.pend ∧
              t.fld (.map l) F.MAP_CNT_COUNT 13 = min (s.fld (.map l) F.MAP_CNT_COUNT 13 + 1) (2 ^ 32 - 1)) ∧
            (s.mayWrite l 1 own pt = true → i.sw = false → Answers cmd fun t => commits t ∧ (.engine e ∉ (t.lane l).map.waits) ∧
              (t.horizon l < s.gT l i.key → (t.lane l).map.pend = (s.lane l).map.pend ++
                [⟨some (s.gT l i.key), none, pt, mkRec payload (s.keyOf l false i.key first.src) code y.test false 1 false 0, own⟩]))) ∧
          (err = .uncorrectable → Answers cmd fun t =>
            assocGet (t.lane l).quill.eng e.val = none ∧ (t.lane l).quill.items = i :: q.items ∧ (t.node l i.bank i.node).firing = 1 ∧
            cnt t 5 1 ∧ cnt t 0 0 ∧ bitAt (if e.val < 32 then t.rd (.ops l) .OPS_ENG_OUT_LO else t.rd (.ops l) .OPS_ENG_OUT_HI).toNat (e.val % 32) = true ∧
            t.mem0 = s.mem0 ∧ t.mem1 = s.mem1 ∧ regs t ∧ rest t))

/-- Pickup counts, windows, zones, memory, integration and harmonic block: what each operator makes of its tokens, parameters
and state (R218, R222, R224, R225, R226, R227, R228, R229, R230, R231, R232, R233). pdc operates after PU_CNT consecutive
picked-up firings from rest, drops out at the DO_CNT-th firing without pickup, and is cleared when blocked. PHASOR gives
MISSING until its window is full, then the highest code in the window, and sums the window oldest first. SEQ 0 is a third of
the sum. DIFF, DEFT and INST with an unusable input give W3 = BLOCKED and clear their counts. DIST adds its zones to ZACC;
the LAST member times them, operates at T and clears ZACC; a blocked loop or one below I_MIN gives z = 0 and no zone. DIR
with a usable V at or above V_MIN stores it; otherwise it polarises by memory for MEM_CNT firings, then not at all. IDMT
freezes ACC when unusable, clears OP at or below M = 1, and resets ACC at once in mode 0. DEFT keeps PICK between RESET and
SET. FREQ is blocked and MISSING until AVG estimates are held and empties on an unusable input. HARM blocks while its window
fills and for HOLD firings after. INST restarts its count on a skipped sample. -/
def Obligations.OperatorResults : Prop :=
  (∀ cmax pu dc n : Nat, 0 < pu → pu ≤ cmax → 0 < dc →
    let up := fun (a : Nat × Nat × Bool) => pdc cmax pu dc true false a.1 a.2.1 a.2.2
    let down := fun (a : Nat × Nat × Bool) => pdc cmax pu dc false false a.1 a.2.1 a.2.2
    (up^[n] (0, 0, false)).2.2 = decide (pu ≤ n) ∧ (pu ≤ n → ∀ k, (down^[k] (up^[n] (0, 0, false))).2.2 = decide (k < dc)) ∧
    ∀ (pick : Bool) (a : Nat × Nat × Bool), pdc cmax pu dc pick true a.1 a.2.1 a.2.2 = (0, 0, false)) ∧
  ∀ x : OpIn,
    let t := x.port 0
    let put := fun (y : OpOut) (f : EFld) => (y.st.find? (fun e => decide (e.1 = f))).map (fun e => e.2)
    (let n := x.p ⟨0x10, 9, 0⟩
      let pos := x.st stPos
      let y := opPhasorF x
      let val := fun (k : Nat) => if (pos + 1 + k) % n = pos then t.w 0 else x.st (stVal ((pos + 1 + k) % n))
      let sum := fun (off : Nat) => (List.range n).foldl (fun a k => fAdd f64 a (fMul f64 (fConv f32 f64 (x.ext (8 * k + off) 4)) (fConv f32 f64 (val k)))) 0
      pos < n →
      y.w0 = fConv f64 f32 (sum 0) ∧ y.w1 = fConv f64 f32 (sum 4) ∧ y.w2 = cabs (y.w0, y.w1) ∧ y.w3 = 0 ∧
      (x.st stFill + 1 < n → y.code = 3) ∧
      (n ≤ x.st stFill + 1 → t.code < 4 → y.code = max t.code (((List.range n).filter (fun k => decide (k ≠ pos))).foldl (fun m k => max m (x.st (stQ k) % 4)) 0)) ∧
      put y stPos = some ((pos + 1) % n) ∧ put y stFill = some (min (x.st stFill + 1) n) ∧ put y (stVal pos) = some (t.w 0)) ∧
    (let y := opSeqF x
      let w := fun (j : Nat) => (fAdd f32 (fAdd f32 ((x.port 0).w j) ((x.port 1).w j)) ((x.port 2).w j))
      (x.p ⟨0x10, 1, 0⟩ = 0 → y.w0 = fMul f32 (w 0) 0x3EAAAAAB ∧ y.w1 = fMul f32 (w 1) 0x3EAAAAAB) ∧
      y.w2 = cabs (y.w0, y.w1) ∧ y.w3 = 0 ∧ (x.ins.length = 3 → y.code = max (max (x.port 0).code (x.port 1).code) (x.port 2).code)) ∧
    (let y := opDiffF x
      let n := x.p E.T9_5_N_END
      let unus := ∃ k < n, x.usable (x.port k) = false
      let held := x.p E.T9_5_BLK_EN = 1 ∧ bitAt ((x.port n).w 3) 16 = true
      (unus ∨ held → y.w3 = 4 ∧ put y stDiffP = some 0 ∧ put y stDiffD = some 0 ∧ put y stDiffOp = some 0) ∧
      (¬unus → ¬held → fGt f32 y.w0 y.w2 = true → bitAt y.w3 0 = true ∧ put y stDiffP = some (min (x.st stDiffP + 1) 255) ∧
        (x.st stDiffOp = 1 ∨ x.p E.T9_5_PU_CNT ≤ min (x.st stDiffP + 1) 255 → bitAt y.w3 1 = true)) ∧
      (¬unus → ¬held → fGt f32 y.w0 y.w2 = false → bitAt y.w3 0 = false ∧ put y stDiffP = some 0)) ∧
    (let y := opDistF x
      let zpu := y.w3 / 2 ^ 8 % 16
      let req := if x.p E.T9_6_RES_EN = 1 then 3 else 2
      let gathered := fun (z : Nat) => bitAt zpu z = true ∨ bitAt (x.st stZacc) z = true
      ((∃ k < req, x.usable (x.port k) = false) → bitAt y.w3 2 = true ∧ zpu = 0 ∧ y.w0 = 0 ∧ y.w1 = 0) ∧
      (fGe f32 y.w2 (x.p E.T9_6_I_MIN) = false → zpu = 0 ∧ y.w0 = 0 ∧ y.w1 = 0) ∧
      (∀ z < 4, bitAt zpu z = true → bitAt (x.p E.T9_6_ZEN) z = true) ∧ (bitAt y.w3 0 = true ↔ zpu ≠ 0) ∧
      (x.isLast = false → y.w3 / 2 ^ 12 = 0 ∧ ∃ za, put y stZacc = some za ∧ ∀ z < 4, (bitAt za z = true ↔ gathered z)) ∧
      (x.isLast = true → put y stZacc = some 0 ∧ ∀ z < 4, ∃ c, put y (stZcnt z) = some c ∧ (gathered z → c = min (x.st (stZcnt z) + 1) 65535) ∧
        (¬gathered z → c = 0) ∧ (bitAt (y.w3 / 2 ^ 12) z = true ↔ x.p ⟨0x4C + 2 * z, 15, 0⟩ ≤ c))) ∧
    (let y := opDirF x
      let byV := x.usable t = true ∧ fGe f32 (cabs (t.w 0, t.w 1)) (x.p E.T9_7_V_MIN) = true
      let left := x.st stMemOk = 1 ∧ x.st stAge < x.p E.T9_7_MEM_CNT
      (byV → put y stMemRe = some (t.w 0) ∧ put y stMemIm = some (t.w 1) ∧ put y stMemOk = some 1 ∧ put y stAge = some 0 ∧ bitAt y.w3 5 = false ∧
        y.code = max (x.port 1).code t.code) ∧
      (¬byV → left → put y stAge = some (x.st stAge + 1) ∧ put y stMemRe = none ∧ bitAt y.w3 5 = true ∧ y.code = (x.port 1).code) ∧
      (¬byV → ¬left → put y stMemOk = some 0 ∧ y.w0 = 0 ∧ y.w1 = 0 ∧ y.w3 = (if x.usable (x.port 1) then 0 else 4)) ∧
      (bitAt y.w3 3 = true → x.usable (x.port 1) = true ∧ fGt f32 y.w0 y.w1 = true) ∧
      (bitAt y.w3 4 = true → fLt f32 y.w0 (fNegate f32 y.w1) = true)) ∧
    (let y := opIdmtF x
      let m := fDiv f64 (fConv f32 f64 (t.w 2)) (fConv f32 f64 (x.p E.T9_8_I_PU))
      (x.usable t = false → put y stAcc = some (x.st stAcc) ∧ put y stIdmtOp = some 0 ∧ y.w3 = 4) ∧
      (x.usable t = true → fGt f64 m 0x3FF0000000000000 = false → y.w3 = 0 ∧ (x.p E.T9_8_RST_MODE = 0 → put y stAcc = some 0)) ∧
      (x.usable t = true → fGt f64 m 0x3FF0000000000000 = true → bitAt y.w3 0 = true ∧ ∃ acc, put y stAcc = some acc ∧ y.w1 = fConv f64 f32 acc ∧
        (x.st stIdmtOp = 1 ∨ fGe f64 acc 0x3FF0000000000000 = true ↔ bitAt y.w3 1 = true)) ∧ y.w0 = fConv f64 f32 m) ∧
    (let y := opDeftF x
      let v := if x.p E.T9_9_SRC = 1 then t.w 2 else t.w 0
      let set := x.p E.T9_9_SET
      let rst := x.p E.T9_9_RESET
      (x.usable t = false → y.w3 = 4 ∧ put y stPick = some 0 ∧ put y stPcnt = some 0 ∧ put y stDcnt = some 0) ∧
      (x.usable t = true → x.p E.T9_9_UNDER = 0 → fGt f32 v set = true → put y stPick = some 1 ∧ put y stPcnt = some (min (x.st stPcnt + 1) 65535)) ∧
      (x.usable t = true → x.p E.T9_9_UNDER = 0 → fGt f32 v set = false → fLt f32 v rst = false → put y stPick = some (b2n (x.st stPick = 1))) ∧
      (x.usable t = true → x.p E.T9_9_UNDER = 1 → fLt f32 v set = false → fGt f32 v rst = true → put y stPick = some 0 ∧ put y stPcnt = some 0) ∧ y.w0 = v) ∧
    (let y := opFreqF x
      let avg := x.p E.T9_10_AVG
      let okIn := x.usable t = true ∧ fGe f32 (t.w 2) (x.p E.T9_10_V_MIN) = true
      ∃ fill, put y stFFill = some fill ∧ (¬okIn → fill = 0) ∧ (fill ≠ 0 → okIn) ∧
        (fill ≠ avg → bitAt y.w3 2 = true ∧ bitAt y.w3 1 = false ∧ y.code = 3 ∧ y.w0 = 0 ∧ put y stPcnt = some 0) ∧
        (fill = avg → bitAt y.w3 2 = false ∧ (t.code = 1 → y.code = 1) ∧ y.code < 2) ∧
        put y stPrevOk = some (if okIn then 1 else 0) ∧ put y stPrevRe = some (t.w 0) ∧ put y stPrevIm = some (t.w 1)) ∧
    (let y := opHarmF x
      let n := x.p E.T9_11_N
      (x.st stFill + 1 < n → bitAt y.w3 16 = true ∧ bitAt y.w3 2 = true ∧ y.code = 3 ∧ put y stHcnt = some (x.p E.T9_11_HOLD)) ∧
      (bitAt y.w3 16 = false → put y stHcnt = some 0 ∧ x.st stHcnt = 0) ∧
      (fLt f32 y.w0 (x.p E.T9_11_I_MIN) = true → bitAt y.w3 2 = false → put y stHcnt = some (x.st stHcnt - 1) ∧ (bitAt y.w3 16 = true ↔ 0 < x.st stHcnt))) ∧
    (let y := opInstF x
      let hit := fGt f32 (t.w 1) (x.p E.T9_12_I_SET) = true ∨ (fGt f32 (x.p E.T9_12_PK_SET) 0 = true ∧ fGt f32 (fAbs f32 (t.w 0)) (x.p E.T9_12_PK_SET) = true)
      let before := if x.dist = 1 then x.st stPcnt else 0
      (x.usable t = false → y.w3 = 4 ∧ put y stPcnt = some 0) ∧
      (x.usable t = true → hit → put y stPcnt = some (min (before + 1) 65535) ∧ bitAt y.w3 0 = true ∧ (x.p E.T9_12_PU_CNT ≤ 1 → bitAt y.w3 1 = true)) ∧
      (x.usable t = true → ¬hit → x.st stPick = 0 → put y stPick = some 0 ∧ bitAt y.w3 0 = false) ∧ y.w0 = t.w 1 ∧ y.w1 = t.w 0)

/-- The map applies due writes in order of effective time, rebuilds records as of a cut, and resumes what waited when it is
enabled (R238, R239, R241, R242, R243, R244, R472). With every memory in canonical form (kept by each step,
StoresStayCanonical): While MAP_CTRL.EN = 0 the horizon and snapshots do nothing. HORIZON_APPLY whose horizon has reached
one pending write's E applies it alone: its point holds the record with UPD one more modulo 2,048, every other byte of
memory stays, the other writes stay pending and DEPTH shows them; of two due writes to one point the later E, or the later
issued, stands and UPD counts both; a single-bit error met by the read is counted first. As of a cut a point never written
since reads its settled record; between two writes it reads the earlier one's, before the first what that one replaced.
SNAPSHOT of a manager's request whose cut is reached copies the points that were listed when the map took it, as of its cut,
to the place named then, and completes with OK; one older than HOLD behind the horizon is taken there and counts MAP_LATE.
PENDING_QUEUE_ROOM lets an engine held by a full queue commit as its operator row does, and does nothing without room or
waiter. MAP_ENABLE with a queue configured sets EN and applies what is due. exec is concluded to answer a next state, with
this effect, for: horizonApply, pendingQueueRoom, snapshot, mapEnable. -/
def Obligations.MapTime : Prop :=
  ∀ (l : Lane) (s : State), s.laneUp l = true → MemsWf s →
    let m := (s.lane l).map
    let en := s.bit (.map l) F.MAP_CTRL_EN
    let h := s.horizon l
    let cnt := fun (t : State) (k : Nat) => t.fld (.map l) F.MAP_CNT_COUNT k = min (s.fld (.map l) F.MAP_CNT_COUNT k + 1) (2 ^ 32 - 1)
    let frame := fun (t : State) => RegsOutside [laneAt_ l, evrAt] s t ∧ { t.quiet.besideLane l with mem0 := s.mem0, mem1 := s.mem1 } = s.quiet.besideLane l
    let due := fun (w : MapW) => ∃ e, w.e = some e ∧ e + s.hold l ≤ s.laneNow l
    let memBut := fun (t : State) (a n : Nat) => ∀ k ad, ¬(k = l ∧ a ≤ ad ∧ ad < a + n) → t.mem k ad 1 = s.mem k ad 1
    let applied := fun (t : State) (p rec_ by_ : Nat) => t.settled l p = rec_ % 2 ^ 245 + ((recUpd (s.settled l p) + by_) % 2048) * 2 ^ 245 ∧ memBut t (s.ptAddr l p) 32
    (en = false → exec (.horizonApply l false) s = .next s ∧ exec (.snapshot l) s = .next s ∧ exec (.pendingQueueRoom l) s = .next s) ∧
    (∀ (u v : List MapW) (w : MapW), en = true → m.pend = u ++ w :: v → due w → (∀ x ∈ u ++ v, ∀ e, x.e = some e → h < e) → s.rngOf l w.point ≠ none → recSrc w.rec_ ≠ 0 →
      Answers (exec (.horizonApply l false) s) fun t => applied t w.point w.rec_ 1 ∧ (t.lane l).map.pend = u ++ v ∧
        t.fld (.map l) F.MAP_PEND_DEPTH_COUNT = (u ++ v).length % 2 ^ 21 ∧ frame t) ∧
    (en = true → m.pend ≠ [] → (∀ w ∈ m.pend, w.e.isSome = true) → exec (.horizonApply l true) s = exec (.horizonApply l false) (s.countCorr (.lane l))) ∧
    (∀ w x : MapW, en = true → m.pend = [w, x] → due w → due x → w.point = x.point → s.rngOf l w.point ≠ none → recSrc w.rec_ ≠ 0 → recSrc x.rec_ ≠ 0 →
      Answers (exec (.horizonApply l false) s) fun t => applied t w.point (if x.e.getD 0 < w.e.getD 0 then w.rec_ else x.rec_) 2 ∧ (t.lane l).map.pend = [] ∧ frame t) ∧
    (∀ c p, let hs := m.hist.filter fun y => decide (y.point = p)
      (hs = [] → s.recAt l c p = s.settled l p) ∧
      (∀ y more, hs = y :: more → (∀ z ∈ hs, c < z.e) → s.recAt l c p = y.old) ∧
      (∀ y z, hs = [y, z] → y.e ≤ c → c < z.e → s.recAt l c p = y.new)) ∧
    (∀ (r : MapReq) (c : Nat), en = true → m.reqs = [r] → r.cut = some c → m.snaps = [] → m.pend = [] → c ≤ h → c + s.hold l ≤ s.laneNow l →
      s.bit (.ins l) F.INS_DIRTY_CTL_EN = false →
      let n := r.pts.length
      let dest := r.dest
      r.o = 64 → r.addr + 64 ≤ laneMemSize → dest + 32 * n ≤ laneMemSize →
      (dest + 32 * n ≤ r.addr ∨ r.addr + 64 ≤ dest) →
      let copies := fun (t : State) (cut : Nat) =>
        t.mem l dest (32 * n) = r.pts.flatMap (fun p => natLe 32 (s.recAt l cut p)) ∧ t.mem l (r.addr + 0x38) 1 = [0] ∧ (t.lane l).map.reqs = [] ∧ frame t
      (h - s.hold l ≤ c → Answers (exec (.snapshot l) s) fun t => copies t c) ∧
      (c < h - s.hold l → Answers (exec (.snapshot l) s) fun t => copies t (h - s.hold l) ∧ cnt t 14)) ∧
    ((s.mapRoom l 1 = false ∨ m.waits = []) → exec (.pendingQueueRoom l) s = .next s) ∧
    (∀ (e : Fin 48) (r : EngRun) (more : List Waiter), s.mapRoom l 1 = true → m.waits = .engine e :: more → assocGet (s.lane l).quill.eng e.val = some r →
      s.recF l (s.opDesc l (s.itemOpBank l r.item) (s.nd l r.item.bank r.item.node E.T8_3_OP)) E.T9_1_OPCODE = 3 →
      exec (.pendingQueueRoom l) s = exec (.opDiff l e .clean) s ∧ Answers (exec (.pendingQueueRoom l) s) fun t => .engine e ∉ (t.lane l).map.waits ∧
        t.fld (.ops l) F.OPS_CNT_COUNT 0 = min (s.fld (.ops l) F.OPS_CNT_COUNT 0 + 1) (2 ^ 32 - 1)) ∧
    ((en = true ∨ s.fld (.map l) F.MAP_PEND_CFG_SIZE_LOG2 = 0) → exec (.mapEnable l) s = .next s) ∧
    (∀ w : MapW, en = false → s.fld (.map l) F.MAP_PEND_CFG_SIZE_LOG2 ≠ 0 → m.pend = [w] → due w → s.rngOf l w.point ≠ none → recSrc w.rec_ ≠ 0 →
      m.snaps = [] → m.reqs = [] → m.waits = [] → s.entries (gooAddr l 0) 0x100000 64 = [] →
      Answers (exec (.mapEnable l) s) fun t => t.bit (.map l) F.MAP_CTRL_EN = true ∧ applied t w.point w.rec_ 1 ∧ (t.lane l).map.pend = [] ∧ frame t)

/-- Map requests: a write ahead of the horizon waits for its time, others complete with LATE, WRONG_WRITER or BADARG, a snapshot
waits for its cut (R6, R240, R243, R245, R341, R355, R472). With every memory in canonical form (kept by each step,
StoresStayCanonical): a request of the manager whose 64-byte record lies in lane memory, with none waiting and the dirty log
off. Its record is stored; with MAP_CTRL.EN = 0 it waits, STATUS 0, counted PEND_FULL only when it would post a write. A
WRITE or SNAP whose TIME has too large a nanoseconds field completes with BADARG (3), as do a SNAP of 0 or more than 4,096
points and every other KIND; one at or below the horizon completes with LATE (1). A WRITE ahead of it without room waits,
counted PEND_FULL; to a point not the manager's it completes with WRONG_WRITER (2), counted; otherwise one write with its
time, value words, CODE, TEST and SRC 5 waits and STATUS is OK (0). A SNAP whose LIST or DEST lies outside lane memory
completes with DENIED (4); one ahead of the horizon waits for its cut. Completion raises manager vector 8. Nothing else of
memory changes. A request of an instance that may not start work is counted REFUSED and posts nothing; with EN = 1 one whose
record the instance may not reach is discarded, counted REFUSED, shown in its MAP_REQ_FAULT, and no memory changes. exec is
concluded to answer a next state, with this effect, for: mapRequestWrite, mapRequestSnap, mapRequestInvalid. -/
def Obligations.MapRequests : Prop :=
  ∀ (l : Lane) (slot : BitVec 42) (time : BitVec 96) (s : State), s.laneUp l = true → MemsWf s → s.bit (.ins l) F.INS_DIRTY_CTL_EN = false → (s.lane l).map.reqs = [] →
    64 * slot.toNat + 64 ≤ laneMemSize →
    let m := (s.lane l).map
    let a := 64 * slot.toNat
    let en := s.bit (.map l) F.MAP_CTRL_EN = true
    let h := s.horizon l
    let frame := fun (t : State) => RegsOutside [laneAt_ l, evrAt, (reqReg l 64 0, 8)] s t ∧
      { t.quiet.besideLane l with mem0 := s.mem0, mem1 := s.mem1 } = s.quiet.besideLane l ∧
      ∀ k ad, ¬(k = l ∧ a ≤ ad ∧ ad < a + 64) → t.mem k ad 1 = s.mem k ad 1
    let stored := fun (t : State) (r : List Byte) => t.mem l a 56 = r.take 56 ∧ frame t
    let done := fun (r : List Byte) (st : Nat) (t : State) => stored t r ∧ t.mem l (a + 0x38) 1 = [BitVec.ofNat 8 st] ∧ (t.lane l).map.reqs = [] ∧
      bitAt (t.rd (.insPage l 64) .INS_VINT_PEND 0).toNat 8 = true
    let waits := fun (r : List Byte) (cut : Option Nat) (t : State) => stored t r ∧ t.mem l (a + 0x38) 1 = [0] ∧ (t.lane l).map.pend = m.pend ∧
      (cut = none → (t.lane l).map.reqs = [⟨64, a, none, [], 0⟩]) ∧
      (cut ≠ none → (t.lane l).map.reqs = [⟨64, a, cut, t.snapList l a, t.recF l a E.T10_4_DEST⟩])
    let idle := fun (r : List Byte) (t : State) => waits r none t ∧ (t.lane l).map.waits = m.waits ∧
      t.fld (.map l) F.MAP_CNT_COUNT 15 = s.fld (.map l) F.MAP_CNT_COUNT 15
    let held := fun (r : List Byte) (t : State) => waits r none t ∧ .request ∈ (t.lane l).map.waits ∧
      (m.waits.contains .request = false → t.fld (.map l) F.MAP_CNT_COUNT 15 = min (s.fld (.map l) F.MAP_CNT_COUNT 15 + 1) (2 ^ 32 - 1))
    let bad := 1000000000 ≤ bitsOf time.toNat 47 16
    let tm := bitsOf time.toNat 95 48 * sec + time.toNat % 2 ^ 48
    (∀ (p : Fin 8388608) (code : Fin 4) (test : Bool) (w : BitVec 128),
      let cmd := exec (.mapRequestWrite l 64 slot p code test time w) s
      let r := reqRecord 1 p code test time.toNat 0 0 0 w.toNat
      (¬en → ¬bad → h < tm → Answers cmd (held r)) ∧ (¬en → bad ∨ tm ≤ h → Answers cmd (idle r)) ∧
      (en → bad → Answers cmd (done r 3)) ∧
      (en → ¬bad → tm ≤ h → Answers cmd fun t => done r 1 t ∧ (t.lane l).map.pend = m.pend) ∧
      (en → ¬bad → h < tm → s.mapRoom l 1 = false → Answers cmd (held r)) ∧
      (en → ¬bad → h < tm → s.mapRoom l 1 = true → s.mayWrite l 5 64 p = false → Answers cmd fun t => done r 2 t ∧ (t.lane l).map.pend = m.pend ∧
        t.fld (.map l) F.MAP_CNT_COUNT 13 = min (s.fld (.map l) F.MAP_CNT_COUNT 13 + 1) (2 ^ 32 - 1)) ∧
      (en → ¬bad → h < tm → s.mapRoom l 1 = true → s.mayWrite l 5 64 p = true → Answers cmd fun t => done r 0 t ∧
        (t.lane l).map.pend = m.pend ++ [⟨some tm, none, p, mkRec w.toNat (toT96 tm) code test false 5 false 0, 64⟩])) ∧
    (∀ (count : BitVec 13) (list dest : BitVec 48),
      let cmd := exec (.mapRequestSnap l 64 slot time count list dest) s
      let n := count.toNat
      let r := reqRecord 2 0 0 false time.toNat n list.toNat dest.toNat 0
      let inside := list.toNat + 4 * n ≤ laneMemSize ∧ dest.toNat + 32 * n ≤ laneMemSize
      (¬en → Answers cmd (idle r)) ∧
      (en → (bad ∨ n = 0 ∨ 4096 < n) → Answers cmd (done r 3)) ∧
      (en → ¬bad → 0 < n → n ≤ 4096 → ¬inside → Answers cmd (done r 4)) ∧
      (en → ¬bad → 0 < n → n ≤ 4096 → inside → tm ≤ h → Answers cmd (done r 1)) ∧
      (en → ¬bad → 0 < n → n ≤ 4096 → inside → h < tm → Answers cmd (waits r (some tm)))) ∧
    (∀ zero : Bool,
      let cmd := exec (.mapRequestInvalid l 64 slot zero time) s
      let r := reqRecord (if zero then 0 else 3) 0 0 false time.toNat 0 0 0 0
      (¬en → Answers cmd (idle r)) ∧ (en → Answers cmd (done r 3))) ∧
    (∀ (o : Fin 65) (p : Fin 8388608) (code : Fin 4) (test zero : Bool) (w : BitVec 128) (count : BitVec 13) (list dest : BitVec 48), o ≠ 64 →
      ∀ i ∈ [Instr.mapRequestWrite l o slot p code test time w, .mapRequestSnap l o slot time count list dest, .mapRequestInvalid l o slot zero time],
        let refused := fun (t : State) =>
          t.fld (.insPage l o) F.INS_OCNT_COUNT 0 = min (s.fld (.insPage l o) F.INS_OCNT_COUNT 0 + 1) (2 ^ 32 - 1) ∧ (t.lane l).map.reqs = [] ∧ (t.lane l).map.pend = m.pend
        (s.ownerRuns l o = false → Answers (exec i s) refused) ∧
        (s.ownerRuns l o = true → en → s.mayReachRange l o true a 64 = false → s.mayReach l o true (a + 0x38) = false →
          Answers (exec i s) fun t => refused t ∧ t.mem0 = s.mem0 ∧ t.mem1 = s.mem1 ∧
            t.win (reqReg l o 3) = BitVec.ofNat 32 (min (bitsOf (s.win (reqReg l o 3)).toNat 31 16 + 1) 0xFFFF * 65536 + 1)))

/-- A GOOSE copy is counted at the first check it fails, accepted by (stNum, sqNum), timed by its preferred copy, written to its
points, and missed at its deadline (R243, R246, R247, R248, R249, R250, R251, R252, R472). With EN = 0 a copy changes
nothing. While writes wait for room the receiver's buffer takes up to 256 frames, the next is discarded and counts
GOOSE_OVF. Otherwise a copy of no subscription counts NOSUB, one that fails a check the counter of the first. A checked
untagged copy with no message held is accepted when the subscription is WAITING or LOST, by a newer stNum (a jump counts
ST_GAP) or by the same and a newer sqNum; else it is DUP among the last 16 decided and STALE if not. Acceptance sets LIVE,
st_L and sq_L; the preferred copy decides at once: the deadline is its stamp, the time allowed to live and TAL_EXTRA, and a
member with quality gets one write at that stamp with the words its octets decode to, t seconds, stNum, CODE and TEST,
unless no field but KEY and UPD would change on a same-stNum message. The other LAN's copy waits; when its wait expires it
decides. At a LIVE deadline with no copy in time the subscription is LOST, EXPIRED counts, and the point is written INVALID
and LOST with E the deadline. exec is concluded to answer a next state, with this effect, for: gooseCopyReceived,
gooseTimingWaitExpire, gooseDeadline. -/
def Obligations.GooseSubscriptions : Prop :=
  ∀ (l : Lane) (lan : Fin 2) (u : Nat) (hu : u < 16384) (x : Nat) (timeOk : Bool) (f : GooseMsg) (s : State), s.laneUp l = true →
    let cmd := exec (.gooseCopyReceived l lan x timeOk f) s
    let m := (s.lane l).map
    let en := s.bit (.map l) F.MAP_CTRL_EN
    let a := gooAddr l u
    let g := gooRec l u
    let y := s.goo l u
    let cnt := fun (t : State) (k by_ : Nat) => t.fld (.map l) F.MAP_CNT_COUNT k = min (s.fld (.map l) F.MAP_CNT_COUNT k + by_) (2 ^ 32 - 1)
    let frame := fun (t : State) => RegsOutside (laneAt_ l :: evrAt :: followsAt) s t ∧
      { t.quiet.besideLane l with mem0 := s.mem0, mem1 := s.mem1 } = s.quiet.besideLane l
    let counts := fun (k : Nat) => Answers cmd fun t => cnt t k 1 ∧ RegsOutside [regAt (.map l) .MAP_CNT k] s t ∧ t.body = s.body
    let own := s.ent a E.T10_6_OWNER
    let kind := s.ent (memEnt l (s.ent a E.T10_6_MEMBER_BASE)) E.T10_7_TYPE
    let pt := s.ent (memEnt l (s.ent a E.T10_6_MEMBER_BASE)) E.T10_7_POINT
    let twoMembers := s.ent a E.T10_6_MEMBERS = 2 ∧ kind ≠ 0 ∧ kind ≠ 6 ∧ s.ent (memEnt l (s.ent a E.T10_6_MEMBER_BASE + 1)) E.T10_7_TYPE = 6
    let latest := s.latest l pt
    let pref := s.ent a E.T10_6_PREF_LAN
    let k := f.pdu
    let simulated := f.simBit = true ∨ k.sim = true
    let layout := f.pdu? = some k ∧ k.ndsCom = false ∧ k.entries = s.ent a E.T10_6_MEMBERS ∧ k.elems.length = s.ent a E.T10_6_MEMBERS ∧
      ∀ z ∈ s.gooMembers l u k.elems, gooVal z.1 z.2.2 ≠ none
    let sealed := s.ent a E.T10_6_SEAL_REQ = 0 ∨ sealOk f.body f.trailer (s.ent a E.T10_6_SEAL_SRC) = true
    let tag := fun (v : AuthExt) => s.tagCheck l (s.ent a E.T10_6_SLOT_CUR) (s.ent a E.T10_6_SLOT_NEXT) (s.ent a E.T10_6_KEY_ID_CUR)
      (s.ent a E.T10_6_KEY_ID_NEXT) (decide (s.ent a E.T10_6_NEXT_VALID = 1)) (s.ent a E.T10_6_AUTH) x v
    let gone := fun (v : AuthExt) => s.keyGone l (s.ent a E.T10_6_SLOT_CUR) (s.ent a E.T10_6_SLOT_NEXT) (s.ent a E.T10_6_KEY_ID_CUR)
      (s.ent a E.T10_6_KEY_ID_NEXT) (decide (s.ent a E.T10_6_NEXT_VALID = 1)) x v
    let deadline := fun (stamp tal : Nat) => stamp + (if tal = 0 then s.ent a E.T10_6_TAL_DEF else tal) * ms + s.ent a E.T10_6_TAL_EXTRA * us
    let st := s.ent g gsState
    let dst := (((k.st : Int) - s.ent g gsSt) % 2 ^ 32).toNat
    let dsq := (((k.sq : Int) - s.ent g gsSq) % 2 ^ 32).toNat
    let shows := fun (t : State) (v : Nat) => t.ent g gsState = v ∧
      (st ≠ v → bitAt (t.win (winAddr (.map l) .mapGchgMap (u / 32 * 4))).toNat (u % 32) = true ∧ t.bit (.map l) F.MAP_STATUS_CHANGE = true)
    let live := fun (t : State) => shows t 1 ∧ t.ent g gsSt = k.st % 2 ^ 32 ∧ t.ent g gsSq = k.sq % 2 ^ 32
    let writesOk := s.mapRoom l 1 = true ∧ s.mayWrite l 3 own pt = true
    let fullRec := fun (z q : BerElem) (stNum tSec : Nat) (sim : Bool) (stamp : Nat) =>
      let v := (gooVal kind z).getD (0, 0)
      let ql := ((gooVal 6 q).getD (0, 0)).1
      mkRec (v.1 % 2 ^ 32 + (v.2 % 2 ^ 32) * 2 ^ 32 + (tSec % 2 ^ 32) * 2 ^ 64 + (stNum % 2 ^ 32) * 2 ^ 96) (toT96 stamp)
        (if ql % 4 = 0 then 0 else if ql % 4 = 3 then 1 else 2) (sim || bitAt ql 11) false 3 false ql
    let decides := fun (t : State) (stamp tal : Nat) => (t.goo l u).pend = [] ∧ t.ent g gsDeadline = toT96 (deadline stamp tal) % 2 ^ 96 ∧
      ((t.goo l u).done.head?).map (fun d => d.stamp) = some stamp
    (en = false → cmd = .next s) ∧
    (en = true → m.gooOut ≠ [] →
      (m.gooBuf.length < 256 → Answers cmd fun t => (t.lane l).map.gooBuf = m.gooBuf ++ [(lan.val, x, timeOk, f)] ∧ RegsOutside [] s t) ∧
      (256 ≤ m.gooBuf.length → Answers cmd fun t => cnt t 16 1 ∧ (t.lane l).map = m ∧ frame t)) ∧
    (en = true → m.gooOut = [] →
      (s.gooFind l f = none → counts 0) ∧
      (s.gooFind l f = some u →
        (timeOk = false → counts 7) ∧
        (timeOk = true →
          (¬layout → counts 1) ∧ (layout →
            (simulated → s.ent a E.T10_6_SIM_ACC = 0 → counts 2) ∧ (¬simulated ∨ s.ent a E.T10_6_SIM_ACC = 1 →
              (k.confRev ≠ s.ent a E.T10_6_CONF_REV → counts 3) ∧ (k.confRev = s.ent a E.T10_6_CONF_REV →
                (¬sealed → counts 4) ∧ (sealed → s.ent a E.T10_6_AUTH ≠ 0 →
                  (f.ext = none → counts 6) ∧
                  (∀ v, f.ext = some v → tag v = 2 → gone v = false → counts 5) ∧
                  (∀ v, f.ext = some v → tag v = 2 → gone v = true → Answers cmd fun t => cnt t 5 1 ∧ t.fld (.lcfg l) F.CFG_SETTLE_OVR_COUNT =
                    min (s.fld (.lcfg l) F.CFG_SETTLE_OVR_COUNT + 1) (2 ^ 32 - 1)) ∧
                  (∀ v, f.ext = some v → tag v = 1 → Answers cmd fun t => t.ent a E.T10_6_SLOT_CUR = s.ent a E.T10_6_SLOT_NEXT ∧
                    t.ent a E.T10_6_KEY_ID_CUR = s.ent a E.T10_6_KEY_ID_NEXT ∧ t.ent a E.T10_6_NEXT_VALID = 0)) ∧
                (s.ent a E.T10_6_SEAL_REQ = 0 → s.ent a E.T10_6_AUTH = 0 → y.pend = [] → (∀ d ∈ y.done, ¬(d.st = k.st ∧ d.sq = k.sq)) →
                  let newer := st = 1 ∧ 1 ≤ dst ∧ dst ≤ 2 ^ 31
                  let next := st = 1 ∧ dst = 0 ∧ 1 ≤ dsq ∧ dsq ≤ 2 ^ 31
                  (st = 1 → ¬newer → ¬next → counts 9) ∧
                  (st ≠ 1 ∨ newer ∨ next → lan.val ≠ pref → Answers cmd fun t => live t ∧ frame t ∧ (newer → cnt t 11 (if 1 < dst then 1 else 0)) ∧
                    t.mem0 = s.mem0 ∧ t.mem1 = s.mem1 ∧ (t.lane l).map.pend = m.pend ∧
                    ∃ w, (t.goo l u).pend = [w] ∧ w.st = k.st ∧ w.sq = k.sq ∧ w.copies = [⟨lan, x⟩] ∧ w.timing = none ∧ (w.all = true ↔ st ≠ 1 ∨ newer)) ∧
                  (st ≠ 1 ∨ newer ∨ next → lan.val = pref → Answers cmd fun t => live t ∧ frame t ∧ (newer → cnt t 11 (if 1 < dst then 1 else 0)) ∧ decides t x k.tal ∧
                    (twoMembers → writesOk → s.horizon l < x → ∀ z q, k.elems = [z, q] →
                      let r := fullRec z q k.st k.tSec (f.simBit || k.sim) x
                      (t.lane l).map.pend = m.pend ++ (if (st ≠ 1 ∨ newer) ∨ recCmp r ≠ recCmp latest then [⟨some x, none, pt, r, own⟩] else [])))) ∧
                (s.ent a E.T10_6_SEAL_REQ = 0 → s.ent a E.T10_6_AUTH = 0 → y.pend = [] → ∀ d,
                  y.done.find? (fun d => decide (d.st = k.st ∧ d.sq = k.sq)) = some d → d.lans.contains lan.val = true → counts 8))))))) ∧
    (∀ (w : GooMsg) (c : GooCopy), y.pend = [w] → w.timing = none → w.copies = [c] → m.gooOut = [] → Answers (exec (.gooseTimingWaitExpire l ⟨u, hu⟩) s) fun t =>
      decides t c.stamp w.tal ∧ frame t ∧
      (twoMembers → writesOk → t.horizon l < c.stamp → w.all = true → ∀ z q, w.elems = [z, q] →
        (t.lane l).map.pend = m.pend ++ [⟨some c.stamp, none, pt, fullRec z q w.st w.tSec w.sim c.stamp, own⟩])) ∧
    (let dl := match y.overdue with
        | some o => o.1
        | none => (ofT96 (s.ent g gsDeadline)).getD 0
      let exp := exec (.gooseDeadline l ⟨u, hu⟩) s
      ((en = false ∨ st ≠ 1 ∨ y.overdue = none ∧ ∃ w ∈ y.pend, w.first = true ∨ ∃ c ∈ w.copies, c.stamp ≤ dl) → exp = .next s) ∧
      (en = true → st = 1 → y.pend = [] → m.gooOut = [] → Answers exp fun t => shows t 2 ∧ cnt t 12 1 ∧ (t.goo l u).lossAt = dl ∧ frame t ∧
        (twoMembers → writesOk → t.horizon l < dl → (t.lane l).map.pend = m.pend ++
          [⟨some dl, none, pt, mkRec (latest % 2 ^ 128) (toT96 dl) 2 (decide (recTest latest = 1)) false 3 true (recQual latest), own⟩])))

/-- A Scribe word decodes to the instruction it encodes, and every word that decodes is the word of its instruction (R263,
R264). For every Scribe instruction whose operand fits its format's field and whose area is below 8 (formats B and W) or 0,
the word of the instruction is below 2^32 and decodes to it; and a word below 2^32 that decodes to an instruction is that
instruction's word, the instruction fitting its format. So no bit of an operand is dropped and no two words mean one
instruction. The encoder is the model's own. -/
def Obligations.ScribeRoundTrip : Prop :=
  (∀ i : SIns, scribeWf i = true → scribeEncode i < 2 ^ 32 ∧ scribeDecode (scribeEncode i) = some i) ∧
  (∀ (w : Nat) (i : SIns), w < 2 ^ 32 → scribeDecode w = some i → scribeWf i = true ∧ scribeEncode i = w)

/-- Every Scribe instruction but END, executed within its budget, has its effect of Table 11.5 and no other, and goes on at the
next word or the jump's address (R256, R261, R263, R264, R265, R266). For a running engine of an UP lane whose word at PC
decodes to the row's instruction and whose count stays below the watchdog limit. Bit and word operands are read from the
area and address of Table 11.4. Each bit, stack, edge, timer, counter, word, comparison, output-code and jump instruction
leaves LBIT, ACC, stack, output image, flags, timers and counters as Table 11.5 and R265 say, adds its cycles to c, sets PC
to the next word or to the address of a jump taken, and changes no other part of the engine, no other engine and no memory;
of the registers only the flag, timer or counter word it stores and SCR_STATUS. A row whose operation is not the one at PC,
or whose engine does not run, changes nothing. exec is concluded to answer a next state, with this effect, for: scrNop,
scrLd, scrLdn, scrAnd, scrAndn, scrOr, scrOrn, scrXor, scrXorn, scrPush, scrPopand, scrPopor, scrPopxor, scrNot, scrSt,
scrStn, scrS, scrRst, scrEdger, scrEdgef, scrTon, scrTof, scrTp, scrCtu, scrCtd, scrCrst, scrCld, scrLdw, scrStw, scrLdi,
scrLui, scrAdd, scrSub, scrAndw, scrOrw, scrXorw, scrCmpeq, scrCmpgt, scrCmplt, scrFcmpgt, scrFcmplt, scrSetq, scrQmax,
scrJmp, scrJmpc, scrJmpcn. -/
def Obligations.ScribeInstructions : Prop :=
  ∀ (l : Lane) (k : Fin 32) (i : SIns) (s : State),
    let x := s.scr l k
    let nIn := s.scrNIn l k
    let nOut := s.scrNOut l k
    let a := i.arg
    let acc := BitVec.ofNat 32 x.acc
    let limit := if s.scrSkipMode l k then (1 + s.scrSkipMax l k) * s.scrWd l k else s.scrWd l k
    let ready := fun (o : SOp) (cost : Nat) => s.laneUp l = true ∧ x.run = true ∧ scribeDecode (s.scrFetch l k) = some i ∧ i.op = o ∧ x.c + cost < limit ∧
      x.pc < 65535 ∧ x.acc < 2 ^ 32
    let goes := fun (op : Lane → Fin 32 → Instr) (y : ScrSt) (npc cost : Nat) (rs : List (Nat × Nat)) (P : State → Prop) =>
      Answers (exec (op l k) s) fun t => t.scr l k = { y with pc := npc, c := x.c + cost } ∧
        RegsOutside (regAt (.scr l k) .SCR_STATUS :: rs) s t ∧ t.setScr l k x = { s with regs := t.regs }.setScr l k x ∧ P t
    let next := fun (op : Lane → Fin 32 → Instr) (y : ScrSt) (cost : Nat) => goes op y (x.pc + 1) cost [] fun _ => True
    let word := fun (ad : Nat) => (s.win ad).toNat
    let bitIs := fun (b : Bool) =>
      (i.area = 0 ∧ a / 256 < nIn ∧ b = bitAt (x.inp.getD (a / 256) 0) (a % 256)) ∨ (i.area = 1 ∧ a / 128 < nOut ∧ b = bitAt (x.out (a / 128)).w (a % 128)) ∨
      (i.area = 2 ∧ a < 65536 ∧ b = bitAt (word (flagAddr l k (a / 32))) (a % 32)) ∨ (i.area = 3 ∧ a < 1024 ∧ b = bitAt (word (timAddr l k a + 4)) 0) ∨
      (i.area = 4 ∧ a < 1024 ∧ b = bitAt (word (cntAddr l k a + 4)) 0) ∨
      (i.area = 5 ∧ a / 4 < nIn ∧
        let r := x.inp.getD (a / 4) 0
        (a % 4 = 0 ∧ b = decide (recSrc r ≠ 0 ∧ recCode r = 0)) ∨ (a % 4 = 1 ∧ b = decide (recSrc r ≠ 0 ∧ recCode r ≤ 1)) ∨
        (a % 4 = 2 ∧ b = decide (recTest r = 1)) ∨ (a % 4 = 3 ∧ b = decide (recLost r = 1))) ∨
      (i.area = 6 ∧ ((a = 0 ∧ b = false) ∨ (a = 1 ∧ b = true) ∨ (a = 2 ∧ b = x.first) ∨ (a = 3 ∧ b = s.bit (.scr l k) F.SCR_STATUS_FORCED) ∨ (a = 4 ∧ b = x.skipped)))
    let wordIs := fun (w : Nat) =>
      (i.area = 0 ∧ a / 8 < nIn ∧ w = x.inp.getD (a / 8) 0 / 2 ^ (32 * (a % 8)) % 2 ^ 32) ∨ (i.area = 1 ∧ a / 4 < nOut ∧ w = (x.out (a / 4)).w / 2 ^ (32 * (a % 4)) % 2 ^ 32) ∨
      (i.area = 2 ∧ a < 2048 ∧ w = word (flagAddr l k a)) ∨ (i.area = 3 ∧ a < 1024 ∧ w = word (timAddr l k a)) ∨ (i.area = 4 ∧ a < 1024 ∧ w = word (cntAddr l k a)) ∨
      (i.area = 7 ∧ w = ((BitVec.ofNat 23 a).signExtend 32).toNat)
    let bitOps : List ((Lane → Fin 32 → Instr) × SOp × (Bool → Bool → Bool)) :=
      [(.scrLd, .ld_, fun _ b => b), (.scrLdn, .ldn_, fun _ b => !b), (.scrAnd, .and_, fun p b => p && b), (.scrAndn, .andn_, fun p b => p && !b),
        (.scrOr, .or_, fun p b => p || b), (.scrOrn, .orn_, fun p b => p || !b), (.scrXor, .xor_, fun p b => p != b), (.scrXorn, .xorn_, fun p b => p == b)]
    let popOps : List ((Lane → Fin 32 → Instr) × SOp × (Bool → Bool → Bool)) :=
      [(.scrPopand, .popand_, fun p b => p && b), (.scrPopor, .popor_, fun p b => p || b), (.scrPopxor, .popxor_, fun p b => p != b)]
    let wordOps : List ((Lane → Fin 32 → Instr) × SOp × (BitVec 32 → BitVec 32 → BitVec 32)) :=
      [(.scrLdw, .ldw_, fun _ w => w), (.scrAdd, .add_, fun p w => p + w), (.scrSub, .sub_, fun p w => p - w), (.scrAndw, .andw_, fun p w => p &&& w),
        (.scrOrw, .orw_, fun p w => p ||| w), (.scrXorw, .xorw_, fun p w => p ^^^ w)]
    let cmpOps : List ((Lane → Fin 32 → Instr) × SOp × Nat × (BitVec 32 → BitVec 32 → Bool)) :=
      [(.scrCmpeq, .cmpeq_, 2, fun p w => p == w), (.scrCmpgt, .cmpgt_, 2, fun p w => decide (w.toInt < p.toInt)), (.scrCmplt, .cmplt_, 2, fun p w => decide (p.toInt < w.toInt)),
        (.scrFcmpgt, .fcmpgt_, 3, fun p w => fGt f32 p.toNat w.toNat), (.scrFcmplt, .fcmplt_, 3, fun p w => fLt f32 p.toNat w.toNat)]
    let stores := fun (op : Lane → Fin 32 → Instr) (v : Bool) =>
      (i.area = 1 → a / 128 < nOut → ∃ w, (∀ b, bitAt w b = if b = a % 128 then v else bitAt (x.out (a / 128)).w b) ∧
        next op { x with outp := assocPut x.outp (a / 128) { x.out (a / 128) with w := w } } 1) ∧
      (i.area = 2 → a < 65536 → goes op x (x.pc + 1) 1 [(flagAddr l k (a / 32), 1)] fun t => ∀ m, t.flag l k m = if m = a then v else s.flag l k m)
    let stays := fun (op : Lane → Fin 32 → Instr) => ((i.area = 1 ∧ a / 128 < nOut) ∨ (i.area = 2 ∧ a < 65536)) → next op x 1
    let timer := fun (op : Lane → Fin 32 → Instr) (r : Nat × Bool) => goes op { x with lbit := r.2 } (x.pc + 1) 3 [(timAddr l k a, 8)] fun t =>
      t.win (timAddr l k a) = BitVec.ofNat 32 r.1 ∧ t.win (timAddr l k a + 4) = BitVec.ofNat 32 (b2n r.2 + 2 * b2n x.lbit)
    let counter := fun (op : Lane → Fin 32 → Instr) (cv : Int) (q : Bool) => goes op { x with lbit := q } (x.pc + 1) 2 [(cntAddr l k a, 8)] fun t =>
      t.win (cntAddr l k a) = BitVec.ofInt 32 cv ∧ t.win (cntAddr l k a + 4) = BitVec.ofNat 32 (b2n q + 2 * b2n x.lbit)
    let el := word (timAddr l k a)
    let q := bitAt (word (timAddr l k a + 4)) 0
    let was := bitAt (word (timAddr l k a + 4)) 1
    let pt := word (s.scrWin l k .scrTpAct .scrTpSh (4 * a))
    let ran := min (el + x.delta) pt
    let cv := (s.win (cntAddr l k a)).toInt
    let rose := x.lbit = true ∧ bitAt (word (cntAddr l k a + 4)) 1 = false
    let preset := s.win (s.scrWin l k .scrCpAct .scrCpSh (4 * a))
    (∀ op : Lane → Fin 32 → Instr, op ∈ [Instr.scrNop, .scrLd, .scrSt, .scrTon, .scrCtu, .scrLdw, .scrStw, .scrSetq, .scrJmp, .scrEnd] → x.run = false → exec (op l k) s = .next s) ∧
    (ready .nop_ 1 → next .scrNop x 1) ∧
    (∀ op ∈ bitOps, ∀ b, ready op.2.1 1 → bitIs b → next op.1 { x with lbit := op.2.2 x.lbit b } 1) ∧
    (ready .push_ 1 → x.stack.length < 32 → next .scrPush { x with stack := x.lbit :: x.stack } 1) ∧
    (∀ op ∈ popOps, ∀ b rest, ready op.2.1 1 → x.stack = b :: rest → next op.1 { x with lbit := op.2.2 b x.lbit, stack := rest } 1) ∧
    (ready .not_ 1 → next .scrNot { x with lbit := !x.lbit } 1) ∧
    (ready .st_ 1 → stores .scrSt x.lbit) ∧ (ready .stn_ 1 → stores .scrStn !x.lbit) ∧
    (ready .s_ 1 → (x.lbit = true → stores .scrS true) ∧ (x.lbit = false → stays .scrS)) ∧
    (ready .rst_ 1 → (x.lbit = true → stores .scrRst false) ∧ (x.lbit = false → stays .scrRst)) ∧
    (ready .edger_ 2 → goes .scrEdger { x with lbit := x.lbit && !s.flag l k a } (x.pc + 1) 2 [(flagAddr l k (a / 32), 1)] fun t => ∀ m, t.flag l k m = if m = a then x.lbit else s.flag l k m) ∧
    (ready .edgef_ 2 → goes .scrEdgef { x with lbit := !x.lbit && s.flag l k a } (x.pc + 1) 2 [(flagAddr l k (a / 32), 1)] fun t => ∀ m, t.flag l k m = if m = a then x.lbit else s.flag l k m) ∧
    (ready .ton_ 3 → timer .scrTon (if x.lbit then (let e := if was then ran else el; (e, decide (pt ≤ e))) else (0, false))) ∧
    (ready .tof_ 3 → timer .scrTof (if x.lbit then (0, true) else if q then (let e := if was then el else ran; (e, decide (e < pt))) else (el, false))) ∧
    (ready .tp_ 3 → timer .scrTp (if x.lbit && !was && !q then (0, decide (0 < pt)) else if q then (ran, decide (ran < pt)) else (el, false))) ∧
    (ready .ctu_ 2 → (rose → counter .scrCtu (min (cv + 1) 2147483647) (decide (preset.toInt ≤ min (cv + 1) 2147483647))) ∧ (¬rose → counter .scrCtu cv (decide (preset.toInt ≤ cv)))) ∧
    (ready .ctd_ 2 → (rose → counter .scrCtd (max (cv - 1) (-2147483648)) (decide (max (cv - 1) (-2147483648) ≤ 0))) ∧ (¬rose → counter .scrCtd cv (decide (cv ≤ 0)))) ∧
    (ready .crst_ 2 → (x.lbit = true → goes .scrCrst x (x.pc + 1) 2 [(cntAddr l k a, 1)] fun t => t.win (cntAddr l k a) = 0) ∧ (x.lbit = false → next .scrCrst x 2)) ∧
    (ready .cld_ 2 → (x.lbit = true → goes .scrCld x (x.pc + 1) 2 [(cntAddr l k a, 1)] fun t => t.win (cntAddr l k a) = preset) ∧ (x.lbit = false → next .scrCld x 2)) ∧
    (∀ op ∈ wordOps, ∀ w, ready op.2.1 2 → wordIs w → next op.1 { x with acc := (op.2.2 acc (BitVec.ofNat 32 w)).toNat } 2) ∧
    (ready .stw_ 2 →
      (i.area = 1 → a / 4 < nOut → ∃ w, (∀ j < 4, w / 2 ^ (32 * j) % 2 ^ 32 = if j = a % 4 then x.acc else (x.out (a / 4)).w / 2 ^ (32 * j) % 2 ^ 32) ∧
        next .scrStw { x with outp := assocPut x.outp (a / 4) { x.out (a / 4) with w := w } } 2) ∧
      (i.area = 2 → a < 2048 → goes .scrStw x (x.pc + 1) 2 [(flagAddr l k a, 1)] fun t => t.win (flagAddr l k a) = acc)) ∧
    (ready .ldi_ 1 → next .scrLdi { x with acc := ((BitVec.ofNat 26 a).signExtend 32).toNat } 1) ∧
    (ready .lui_ 1 → next .scrLui { x with acc := a * 65536 + x.acc % 65536 } 1) ∧
    (∀ op ∈ cmpOps, ∀ w, ready op.2.1 op.2.2.1 → wordIs w → next op.1 { x with lbit := op.2.2.2 acc (BitVec.ofNat 32 w) } op.2.2.1) ∧
    (ready .setq_ 2 → a < nOut → next .scrSetq { x with outp := assocPut x.outp a { x.out a with code := x.acc % 4, test := bitAt x.acc 2 } } 2) ∧
    (ready .qmax_ 2 → a < nIn → ∃ v, v % 4 = max (x.acc % 4) (recCode (x.inp.getD a 0)) ∧ (bitAt v 2 = (bitAt x.acc 2 || decide (recTest (x.inp.getD a 0) = 1))) ∧ v / 8 = x.acc / 8 ∧
      next .scrQmax { x with acc := v } 2) ∧
    (ready .jmp_ 3 → goes .scrJmp x a 3 [] fun _ => True) ∧
    (ready .jmpc_ 3 → (x.lbit = true → goes .scrJmpc x a 3 [] fun _ => True) ∧ (x.lbit = false → next .scrJmpc x 1)) ∧
    (ready .jmpcn_ 3 → (x.lbit = false → goes .scrJmpcn x a 3 [] fun _ => True) ∧ (x.lbit = true → next .scrJmpcn x 1))

/-- Scribe cycles start on the lattice, end by posting, trip on a fault or the budget, and commands act at their lattice instant
(R257, R258, R260, R262, R266, R267, R268, R269, R270, R271, R272, R473). latticeAt gives the first lattice instant at or
after a time. A RUNNING engine whose next instant has come starts a cycle: PC, LBIT, ACC and stack cleared, Δ since the
previous start or 0 in a first cycle, CYCLES counted, its input read at the cut with forces, or waiting while the map is
disabled; another engine starts none. END ends the cycle at s + k periods, k from c in skip mode, and posts an entry that is
ALWAYS, in a first cycle, or changed. A word that is no instruction, an illegal or out-of-range operand, PUSH at 32 and POP
at 0 trip the engine: TRIPPED, CAUSE, TRIP_PC, TRIPS counted, the safe record posted at the cycle's end; so does reaching
the budget. A skipped instant counts SKIPS. RESTART clears storage and starts a first cycle, STOP stops, FORCE_COMMIT copies
the shadow table, FORCE_RESET clears both, other OPs and a full queue count CMD_NOP; a command before whose AT the engine
has cycles waits; at PERIOD 0 the head executes at its AT, if no change of program comes first. exec is concluded to answer
a next state, with this effect, for: scribeCycleStart, skippedLatticeInstant, scrEnd, scribeRestart, scribeStop,
forceCommit, forceReset, scribeCommandNop, scribeCommandAt. -/
def Obligations.ScribeCycles : Prop :=
  ∀ (l : Lane) (k : Fin 32) (s : State), s.laneUp l = true →
    let pg : Page := .scr l k
    let x := s.scr l k
    let st := s.scrState l k
    let own := s.ownerScribe l k
    let period := s.fld pg F.SCR_PERIOD_PERIOD
    let cnt := fun (t : State) (n : Nat) => t.fld pg F.SCR_CNT_COUNT n = min (s.fld pg F.SCR_CNT_COUNT n + 1) (2 ^ 32 - 1)
    let frame := fun (t : State) => RegsOutside (laneAt_ l :: evrAt :: followsAt) s t ∧ { t.quiet.besideLane l with mem0 := s.mem0, mem1 := s.mem1 } = s.quiet.besideLane l
    let en := s.bit (.map l) F.MAP_CTRL_EN = true
    let idle := x.run = false ∧ x.waiting = false ∧ x.posts = [] ∧ x.change = none
    let out0 := s.outEnt l k 0
    let pt := s.ent out0 E.T11_2_POINT
    let fs := s.forces l k
    let oneOut := s.scrNOut l k = 1 ∧ s.ent out0 E.T11_2_VALID = 1
    let mapOk := fun (e : Nat) => s.mapRoom l 1 = true ∧ s.mayWrite l 2 own pt = true ∧ s.horizon l < e
    let posts := fun (t : State) (e : Nat) (o : OutEnt) => (t.lane l).map.pend = (s.lane l).map.pend ++ [⟨some e, none, pt, mkRec o.w (toT96 e) o.code o.test false 2 false 0, own⟩]
    let wd := s.scrWd l k
    let len := fun (c : Nat) => if s.scrSkipMode l k then max 1 ((c + max wd 1 - 1) / max wd 1) else 1
    let ends := fun (t : State) (e : Nat) => (t.scr l k).run = false ∧ (t.scr l k).prev = some x.s ∧ (t.scr l k).nextAt = e ∧ frame t
    (∀ per off t0 : Nat, 0 < per →
      let t := latticeAt per off t0
      t0 ≤ t ∧ off * us ≤ t ∧ (t - off * us) % (per * us) = 0 ∧ ∀ u, t0 ≤ u → off * us ≤ u → (u - off * us) % (per * us) = 0 → t ≤ u) ∧
    (idle → 0 < period → st = 1 → s.ownerRuns l own = true → x.queue = [] →
      let t0 := latticeAt period (s.fld pg F.SCR_OFFSET_OFFSET) x.nextAt
      t0 ≤ s.laneNow l → Answers (exec (.scribeCycleStart l k) s) fun t =>
        (t.scr l k).s = t0 ∧ (t.scr l k).first = x.firstNext ∧ (t.scr l k).skipped = x.skipNext ∧ (t.scr l k).lastAt = t0 ∧ cnt t 0 ∧ frame t ∧
        (t.scr l k).delta = (if x.firstNext then 0 else
          match x.prev with
          | some b => (t0 - b) / us
          | none => 0) ∧
        (en → (t.scr l k).run = true ∧ (t.scr l k).pc = 0 ∧ (t.scr l k).lbit = false ∧ (t.scr l k).acc = 0 ∧ (t.scr l k).stack = [] ∧ (t.scr l k).c = 0 ∧
          ((s.lane l).map.pend = [] → s.laneNow l ≤ t0 + s.hold l → fs = [] → (t.scr l k).inp =
            (s.scrInputs l k).map fun q => if s.mayRead l own q then s.recAt l (t0 - s.hold l) q else initRec)) ∧
        (¬en → (t.scr l k).waiting = true ∧ (t.scr l k).run = false ∧ (t.lane l).map.snaps = (s.lane l).map.snaps ++ [.scribe k (t0 - s.hold l)])) ∧
    (idle → st ≠ 1 → x.queue = [] → Answers (exec (.scribeCycleStart l k) s) fun t => (t.scr l k).run = false ∧ t.scrState l k = st ∧ frame t) ∧
    (∀ i, x.run = true → x.posts = [] → scribeDecode (s.scrFetch l k) = some i → i.op = .end_ →
      let n := len (x.c + 1)
      let e := x.s + n * s.scrPeriod l k
      let o := s.forceOut fs pt (x.out 0)
      let posted := s.ent out0 E.T11_2_ALWAYS = 1 ∨ x.first = true ∨ assocGetD x.posted 0 .rest ≠ o
      Answers (exec (.scrEnd l k) s) fun t => ends t e ∧ t.scrState l k = st ∧ ((t.scr l k).skipNext = true ↔ 1 < n) ∧
        t.fld pg F.SCR_CYC_MAX_CYC = min (max (s.fld pg F.SCR_CYC_MAX_CYC) (x.c + 1)) (2 ^ 32 - 1) ∧
        (s.scrNOut l k = 0 → (t.lane l).map.pend = (s.lane l).map.pend ∧ t.fld pg F.SCR_CNT_COUNT 3 = s.fld pg F.SCR_CNT_COUNT 3) ∧
        (oneOut → posted → mapOk e → posts t e o ∧ cnt t 3) ∧ (oneOut → ¬posted → (t.lane l).map.pend = (s.lane l).map.pend)) ∧
    (∀ op : Lane → Fin 32 → Instr, x.run = true → x.posts = [] →
      let trips := fun (cause e : Nat) => Answers (exec (op l k) s) fun t => ends t e ∧ t.scrState l k = 2 ∧ t.fld pg F.SCR_STATUS_CAUSE = cause ∧
        t.fld pg F.SCR_STATUS_TRIP_PC = x.pc % 2 ^ 16 ∧ cnt t 2 ∧
        (oneOut → s.ent out0 E.T11_2_SAFE_EN = 1 → mapOk e →
          let safe : OutEnt := ⟨s.winWords (out0 + 8) 4, s.ent out0 E.T11_2_SAFE_CODE, decide (s.ent out0 E.T11_2_SAFE_TEST = 1)⟩
          posts t e (s.forceOut fs pt safe) ∧ (t.scr l k).out 0 = safe)
      let fault := fun (cause : Nat) => trips cause (x.s + len x.c * s.scrPeriod l k)
      (op ∈ [Instr.scrNop, .scrLd, .scrSt, .scrPush, .scrLdw, .scrStw, .scrEnd] → scribeDecode (s.scrFetch l k) = none → fault 3) ∧
      (∀ i, scribeDecode (s.scrFetch l k) = some i →
        (op = .scrLd → i.op = .ld_ → i.area = 7 → fault 3) ∧
        (op = .scrLd → i.op = .ld_ → i.area = 0 → s.scrNIn l k ≤ i.arg / 256 → fault 4) ∧
        (op = .scrSt → i.op = .st_ → i.area ≠ 1 → i.area ≠ 2 → fault 3) ∧
        (op = .scrSt → i.op = .st_ → i.area = 1 → s.scrNOut l k ≤ i.arg / 128 → fault 4) ∧
        (op = .scrLdw → i.op = .ldw_ → (i.area = 5 ∨ i.area = 6) → fault 3) ∧
        (op = .scrStw → i.op = .stw_ → i.area = 7 → fault 3) ∧
        (op = .scrPush → i.op = .push_ → 32 ≤ x.stack.length → fault 5) ∧
        (op = .scrPopand → i.op = .popand_ → x.stack = [] → fault 6) ∧
        (op = .scrNop → i.op = .nop_ → s.scrSkipMode l k = false → wd ≤ x.c + 1 → trips 1 (x.s + s.scrPeriod l k)) ∧
        (op = .scrNop → i.op = .nop_ → s.scrSkipMode l k = true → (1 + s.scrSkipMax l k) * wd ≤ x.c + 1 → trips 2 (x.s + (1 + s.scrSkipMax l k) * s.scrPeriod l k)) ∧
        (op = .scrNop → i.op = .nop_ → s.scrSkipMode l k = false → x.c + 1 < wd → 65535 ≤ x.pc → trips 7 (x.s + s.scrPeriod l k)))) ∧
    (let sp := s.scrPeriod l k
      let till := if x.run then x.s + len x.c * sp else x.nextAt
      let skips := st = 1 ∧ s.scrSkipMode l k = true ∧ 0 < sp ∧ x.lastAt + sp < till
      (skips → Answers (exec (.skippedLatticeInstant l k) s) fun t => cnt t 1 ∧ t.scr l k = { x with lastAt := x.lastAt + sp } ∧ frame t) ∧
      (¬skips → s.scrSkipMode l k = true → exec (.skippedLatticeInstant l k) s = .next s)) ∧
    (∀ (secs : Word) (usecs : Fin 1000000),
      let at_ := secNear (s.laneNow l / sec) secs.toNat * sec + usecs.val * us
      let cmds : List Instr := [.scribeRestart l k secs usecs, .scribeStop l k secs usecs, .forceCommit l k secs usecs, .forceReset l k secs usecs]
      let now := idle ∧ x.queue = [] ∧ 0 < period
      (∀ c ∈ cmds ++ [.scribeCommandNop l k 0 secs usecs], 4 ≤ x.queue.length → Answers (exec c s) fun t => cnt t 5 ∧ (t.scr l k).queue = x.queue ∧ frame t) ∧
      (now → st ≠ 1 → s.ownerRuns l own = true → RegsWf s → Answers (exec (.scribeRestart l k secs usecs) s) fun t =>
        t.scrState l k = 1 ∧ t.fld pg F.SCR_STATUS_CAUSE = 0 ∧ t.fld pg F.SCR_STATUS_TRIP_PC = 0 ∧ (t.scr l k).outp = [] ∧ (t.scr l k).posted = [] ∧
        (t.scr l k).first = true ∧ (t.scr l k).skipped = x.skipNext ∧ (t.scr l k).delta = 0 ∧ (t.scr l k).s = latticeAt period (s.fld pg F.SCR_OFFSET_OFFSET) (max (max (s.laneNow l) at_) (x.lastAt + 1)) ∧
        (∀ m < 65536, t.flag l k m = false) ∧ cnt t 0 ∧ (t.scr l k).run = s.bit (.map l) F.MAP_CTRL_EN ∧ frame t) ∧
      (now → st = 1 → at_ ≤ x.nextAt → Answers (exec (.scribeStop l k secs usecs) s) fun t => t.scrState l k = 0 ∧ (t.scr l k).run = false ∧ (t.scr l k).queue = [] ∧ frame t) ∧
      (now → st ≠ 1 → Answers (exec (.forceCommit l k secs usecs) s) fun t => (∀ j < 1024, ∀ w < 4, t.win (frcAct l k j + 4 * w) = s.win (frcSh l k j + 4 * w)) ∧
        (t.bit pg F.SCR_STATUS_FORCED = true ↔ ∃ j < 1024, s.ent (frcSh l k j) E.T11_6_EN = 1) ∧ t.scrState l k = st ∧ frame t) ∧
      (now → st ≠ 1 → RegsWf s → Answers (exec (.forceReset l k secs usecs) s) fun t => (∀ j < 1024, ∀ w < 4, t.win (frcAct l k j + 4 * w) = 0 ∧ t.win (frcSh l k j + 4 * w) = 0) ∧
        t.bit pg F.SCR_STATUS_FORCED = false ∧ t.scrState l k = st ∧ frame t) ∧
      (∀ op : Fin 4, now → st ≠ 1 → Answers (exec (.scribeCommandNop l k op secs usecs) s) fun t =>
        cnt t 5 ∧ t.scrState l k = st ∧ frame t) ∧
      (now → st = 1 → x.nextAt < at_ → Answers (exec (.scribeStop l k secs usecs) s) fun t => (t.scr l k).queue = [(2, at_)] ∧ t.fld pg F.SCR_STATUS_CMD_DEPTH = 1 ∧
        t.scrState l k = 1 ∧ frame t)) ∧
    ((s.scrPeriod l k ≠ 0 ∨ x.queue = []) → exec (.scribeCommandAt l k) s = .next s) ∧
    (∀ (op at_ : Nat) (more : List (Nat × Nat)), s.scrPeriod l k = 0 → x.queue = (op, at_) :: more → (∀ gc, x.change = some gc → at_ < gc) → more.length < 8 → RegsWf s → Answers (exec (.scribeCommandAt l k) s) fun t =>
      (t.scr l k).queue = more ∧ t.fld pg F.SCR_STATUS_CMD_DEPTH = more.length ∧ frame t ∧ (op = 2 → t.scrState l k = 0) ∧ (op = 0 ∨ (5 ≤ op ∧ op < 8) → cnt t 5) ∧
      (op = 1 → cnt t 5 ∧ t.scrState l k = st))

/-- Publications evaluate on triggers and scheduled times, number and send their issues, and an unsynced one adopts running
values from an echo (R278, R281, R283, R284, R285, R286, R287, R288, R297, R314, R347, R474). NOTICE_RECEIVED takes the
oldest notice; with EN = 0, with no publication triggered by its point, or before the start second, nothing else changes. A
trigger, and SCHEDULED_EVALUATION once the followed clock is at e_s + HOLD, evaluate: a change takes stNum + 1 (wrapping to
1), sqNum 0, t_chg = E, k = 0; a scheduled repeat sqNum + 1 and k + 1; a trigger without change issues nothing. e_s is E +
min(T_MIN × 2^k, T_MAX), ISSUE counts modulo 2^32; a SYNCED publication queues the issue, an UNSYNCED one counts UNSYNC and
sends nothing. FROM_TRIG = 0 members read the map at cut E − HOLD; a disabled map makes the evaluation wait. Scheduled times
at or before a trigger come first; none is evaluated at or after the owner's quiesce instant. The start second is the first
whole second at least 1 ms after enable and grid start. ISSUE_SEND first sends every issue due before, or at once from a
lower index; it counts TOOLONG or AUTH_NOKEY and sends nothing, or counts ISSUES and gives frame and merge header to each UP
plane; without AUTH and SEAL the frame is DMAC, source, tag, EtherType, header and APDU. PUB_ENABLE starts valid
publications from rest, SYNCED and FIRST if COLD; ADOPT shows one that is UNSYNCED. A matching echo gives every running
value and counts ADOPTED; another is kept, and with ADOPT 0 dropped. exec is concluded to answer a next state, with this
effect, for: noticeReceived, scheduledEvaluation, issueSend, pubEnable, echoReceived. -/
def Obligations.PublicationIssues : Prop :=
  ∀ (l : Lane) (n : Fin 2048) (s : State), s.laneUp l = true →
    let pg : Page := .pub l
    let d := pubDesc l n
    let x := s.pub l n
    let m := (s.lane l).map
    let tMin := s.ent d E.T12_2_T_MIN
    let tMax := s.ent d E.T12_2_T_MAX
    let members := s.pubMembers l n
    let points := s.pubPoints l n
    let en := s.bit pg F.PUB_CTRL_EN = true
    let next := fun (v : Nat) => if v = 2 ^ 32 - 1 then 1 else v + 1
    let cnt := fun (t : State) (k : Nat) => t.fld pg F.PUB_CNT_COUNT k = min (s.fld pg F.PUB_CNT_COUNT k + 1) (2 ^ 32 - 1)
    let frame := fun (t : State) (mp : MapSt) =>
      RegsOutside [rowAt pg .PUB_CNT 7, regAt pg .PUB_STATUS, regAt (.map l) .MAP_PEND_DEPTH] s t ∧
      t.body = (s.setLane l { s.lane l with map := mp, pub := (t.lane l).pub }).body ∧ ∀ j, j ≠ n.val → t.pub l j = s.pub l j
    let evaluated := fun (t : State) (e : Nat) (sched : Bool) (data : List Byte) (trig : Option Nat) (mp : MapSt) =>
      let y := t.pub l n
      let change := x.first = true ∨ data ≠ x.data
      let i : Issue := ⟨e, max e (s.laneNow l), y.num, y.st, y.sq, y.tChg, e + min (tMin * 2 ^ y.k) tMax * us, y.k, data, x.synced⟩
      frame t mp ∧ y.trig = trig ∧ y.start = none ∧ y.evals = [] ∧
      (change → y.st = next x.st ∧ y.sq = 0 ∧ y.tChg = e ∧ y.k = 0 ∧ cnt t 1) ∧
      (¬change → sched = true → y.st = x.st ∧ y.sq = next x.sq ∧ y.tChg = x.tChg ∧ y.k = x.k + 1) ∧
      (change ∨ sched = true → y.es = some i.es ∧ y.num = (x.num + 1) % 2 ^ 32 ∧ y.data = data ∧ y.first = false ∧
        (x.synced = true → y.issues = x.issues ++ [i]) ∧ (x.synced = false → y.issues = x.issues ∧ y.lastUnsent = some i ∧ cnt t 2)) ∧
      (¬change → sched = false → y = { x with trig := trig })
    let sound := x.on = true ∧ x.evals = [] ∧ (x.synced = true ∨ x.echo = none)
    (m.notices = [] → exec (.noticeReceived l) s = .next s) ∧
    (∀ (w : Notice) (rest : List Notice), m.notices = w :: rest →
      (∀ p < 16, s.ent (tripAct l p) E.T12_6_VALID = 0 ∨ s.ent (tripAct l p) E.T12_6_POINT ≠ w.point) →
      let ns := (s.pubs l).filter fun j => decide (s.ent (pubDesc l j) E.T12_2_TRIG_EN = 1 ∧ s.ent (pubDesc l j) E.T12_2_TRIG_PT = w.point)
      let mp := { m with notices := rest }
      let ignored := exec (.noticeReceived l) s = .next (s.setMap l mp)
      (¬en → ignored) ∧ (ns = [] → ignored) ∧
      (∀ t0, ns = [n.val] → x.start = some t0 → (∀ g, s.pubStart l t0 = some g → w.e < g) → ignored) ∧
      (en → ns = [n.val] → sound → x.start = none → s.pubLive l n w.e = true → points = [] →
        ((∀ es, x.es = some es → w.e < es) → Answers (exec (.noticeReceived l) s) fun t =>
          evaluated t w.e false (s.pubData w.rec_ members []) (some w.rec_) mp) ∧
        (∀ es, x.es = some es → es ≤ w.e → x.synced = true → 100 ≤ min tMin tMax → Answers (exec (.noticeReceived l) s) fun t =>
          ∃ i more, (t.pub l n).issues = x.issues ++ i :: more ∧ i.e = es ∧ ∀ j ∈ more, es ≤ j.e ∧ j.e ≤ w.e))) ∧
    (∀ t0 g, s.pubStart l t0 = some g → let lim := max t0 (s.gT l (s.lane l).gridFirst) + ms
      s.gridRun l = true ∧ g % sec = 0 ∧ lim ≤ g ∧ g < lim + sec) ∧
    (¬en ∨ x.on = false ∨ s.pubEs l n = none → exec (.scheduledEvaluation l n) s = .next s) ∧
    (∀ e, en → s.pubEs l n = some e →
      (x.on = true → s.pubLive l n e = false → exec (.scheduledEvaluation l n) s = .next (s.setPub l n { x with es := none, start := none })) ∧
      (sound → s.pubLive l n e = true → e + s.hold l ≤ s.laneNow l →
        let data := s.pubData (x.trig.getD initRec) members
        (points = [] → Answers (exec (.scheduledEvaluation l n) s) fun t => evaluated t e true (data []) x.trig m) ∧
        (points ≠ [] → s.bit (.map l) F.MAP_CTRL_EN = true → m.pend = [] → s.laneNow l = e + s.hold l →
          Answers (exec (.scheduledEvaluation l n) s) fun t => evaluated t e true (data (points.map (s.recAt l (e - s.hold l)))) x.trig m) ∧
        (points ≠ [] → s.bit (.map l) F.MAP_CTRL_EN = false → .pub n (e - s.hold l) ∉ m.snaps →
          Answers (exec (.scheduledEvaluation l n) s) fun t => frame t { m with snaps := m.snaps ++ [.pub n (e - s.hold l)] } ∧
            t.pub l n = { x with evals := [⟨e, true, none⟩] }))) ∧
    (¬en ∨ x.issues = [] → exec (.issueSend l n) s = .next s) ∧
    (∀ (i : Issue) (rest : List Issue), en → x.issues = i :: rest → i.due ≤ s.laneNow l → assocSorted (s.lane l).pub = true →
      let before := fun (i' : Issue) (j : Nat) => i'.due < i.due ∨ i'.due = i.due ∧ j < n
      (∀ j i' rest', j ≠ n.val → (s.pub l j).issues = i' :: rest' → before i' j → Answers (exec (.issueSend l n) s) fun t =>
        (t.pub l n).issues = rest ∧ (t.pub l j).issues.length ≤ rest'.length) ∧
      ((∀ j i' rest', j ≠ n.val → (s.pub l j).issues = i' :: rest' → ¬before i' j) →
      let sent := fun (k : Nat) (P : State → Prop) => Answers (exec (.issueSend l n) s) fun t => cnt t k ∧ t.pub l n = { x with issues := rest } ∧ P t
      (s.pubFrame l n i = none → sent 5 fun t => frame t m) ∧
      (∀ o, s.pubFrame l n i = some o →
        (s.ent d E.T12_2_AUTH = 0 → s.ent d E.T12_2_SEAL_EN = 0 → s.ent d E.T12_2_TAG = 0 →
          let apdu := s.pubApdu l n i
          o = natBe 6 (s.ent d E.T12_2_DMAC) ++ natBe 6 (s.ent (winAddr pg .pubSrcAct (8 * s.ent d E.T12_2_SRC)) ⟨0, 47, 0⟩) ++ [0x88, 0xB8] ++
            natBe 2 (s.ent d E.T12_2_APPID) ++ natBe 2 (8 + apdu.length) ++ natBe 2 (s.ent d E.T12_2_SIM * 2 ^ 15) ++ [0, 0] ++ apdu) ∧
        (s.pubTooLong l n o = true → sent 4 fun t => frame t m) ∧
        (s.pubTooLong l n o = false → sent 0 fun t => RegsOutside [rowAt pg .PUB_CNT 7] s t ∧ ∀ p : Plane,
          (s.planeUp p = false → t.plane p = s.plane p) ∧
          (s.planeUp p = true → ∃ c : MergeCopy, t.plane p = { s.plane p with laneIn := (s.plane p).laneIn ++ [c] } ∧ c.lane = l ∧ c.octets = o ∧
            c.stamp = (s.plane p).now ∧ c.pub = n ∧ (i.num < 2 ^ 32 → c.issue = i.num) ∧ c.policy = s.ent d E.T12_2_POLICY ∧ c.src = s.ent d E.T12_2_SRC ∧
            c.tsReq = decide (s.ent d E.T12_2_TS_EN = 1) ∧ (c.tsReq = true → c.tsTag = n * 32 + i.num % 32)))))) ∧
    (∀ cold : Bool, Answers (exec (.pubEnable l cold) s) fun t =>
      RegsOutside [regAt pg .PUB_CTRL, regAt pg .PUB_STATUS] s t ∧ t.body = (s.setLane l { s.lane l with pub := (t.lane l).pub }).body ∧
      t.bit pg F.PUB_CTRL_EN = true ∧ t.bit pg F.PUB_CTRL_COLD = cold ∧ t.bit pg F.PUB_CTRL_TRIP_EN = s.bit pg F.PUB_CTRL_TRIP_EN ∧
      (en → t.pub l n = x) ∧
      (¬en → n.val ∈ s.pubs l → t.pub l n = { PubSt.empty with on := true, synced := cold, first := cold, start := some (s.laneNow l) } ∧
        (t.bit pg F.PUB_STATUS_ADOPT = true ↔ cold = false))) ∧
    ((s.lane l).echoIn = [] → exec (.echoReceived l) s = .next s) ∧
    (∀ (c : Echo) (rest : List Echo), (s.lane l).echoIn = c :: rest → c.pub = n →
      let u := s.setLane l { s.lane l with echoIn := rest }
      (s.bit pg F.PUB_STATUS_ADOPT = false → exec (.echoReceived l) s = .next u) ∧
      (s.bit pg F.PUB_STATUS_ADOPT = true →
        (x.synced = true ∨ x.lastUnsent = none → exec (.echoReceived l) s = .next (u.setPub l n { x with echo := some c })) ∧
        (∀ i, x.on = true → x.synced = false → x.lastUnsent = some i → i.e = c.e → crcOf crc32c i.data = c.crc →
          Answers (exec (.echoReceived l) s) fun t => cnt t 3 ∧
            t.pub l n = { x with synced := true, num := c.issue, st := c.stNum, sq := c.sqNum, tChg := c.tChg, es := some c.eS, k := c.k, lastUnsent := none, echo := none } ∧
            RegsOutside [rowAt pg .PUB_CNT 7, regAt pg .PUB_STATUS] s t ∧ t.body = (u.setLane l { u.lane l with pub := (t.lane l).pub }).body)))

/-- The five check-value algorithms have the parameters and the published check values of Table 12.8 (R303). POLY 0 to 4 select
CRC-32C, CRC-32, CRC-16, CRC-64 and CRC-8 with the width, polynomial, initial value, reflection and final XOR of Table 12.8;
POLY 5 to 7 select none. Each algorithm's result over the nine octets "123456789" is the table's check value, and a unit
that runs an operation started over nine bytes holding them, from the algorithm's initial value and without ALIVE_IN, ends
with that value in RESULT. exec is concluded to answer a next state, with this effect, for: checkValueDone. -/
def Obligations.CheckValues : Prop :=
  let nine : List Byte := [0x31, 0x32, 0x33, 0x34, 0x35, 0x36, 0x37, 0x38, 0x39]
  let table : List (CrcParam × Nat) := [(⟨32, 0x1EDC6F41, 0xFFFFFFFF, true, 0xFFFFFFFF⟩, 0xE3069283), (⟨32, 0x04C11DB7, 0xFFFFFFFF, true, 0xFFFFFFFF⟩, 0xCBF43926),
    (⟨16, 0x1021, 0xFFFF, false, 0⟩, 0x29B1), (⟨64, 0x42F0E1EBA9EA3693, 0, false, 0⟩, 0x6C40DF5F0B497347), (⟨8, 0x2F, 0xFF, false, 0xFF⟩, 0xDF)]
  (∀ i, 5 ≤ i → chkAlg i = none) ∧
  ∀ (i : Nat) (p : CrcParam) (v : Nat), table[i]? = some (p, v) → chkAlg i = some p ∧ crcOf p nine = v ∧
    ∀ (l : Lane) (u : Fin 8) (s : State), s.laneUp l = true →
      let pc : Page := .chk l u
      ∀ (src start : Nat) (inc : Bool), assocGet (s.lane l).chk u = some ⟨i, false, inc, src, 9, start⟩ →
      s.bit pc F.CHK_STATUS_BUSY = true → s.chkValue l u = chkForm p p.init →
      s.mem l src 9 = nine → (∀ j < 9, s.mayReach l (s.ownerChk l u) false (src + j) = true) →
      Answers (exec (.checkValueDone l u) s) fun t => t.pairReg pc .CHK_RESULT_LO .CHK_RESULT_HI = v

/-- Trip drives follow notices and MIN_ON, pins follow the vote, disagreements are told, and check-value units compute their
results (R13, R299, R300, R302, R304, R305, R356, R422, R453). A notice of a pin's point takes effect on arrival, or waits
for its E and then for TRIP_NOTICE_DUE: 1 raises the drive at once, 0 lets it fall unless MIN_ON since it rose has not
passed; TRIP_MIN_ON_EXPIRE then drops it, and an EPS drive whose elements no longer operate. Without the EPS, a lane is
present while UP, not rolled out and TRIP_EN = 1, and drives a VALID pin; the pin level follows Table 12.7 and is low with
VIO_A low; the balls, LEVEL and DRIVE show it. TRIP_DISAGREE, once a difference the lane is the one to report has lasted
DISAGREE, sets DIS, counts and tells it once. CHK_GO: WBUSY while BUSY, BADCFG for POLY 5 to 7, else BUSY with VALUE loaded
when INIT, over what CFG, SRC and LEN name then. While it runs VALUE reads after complete 64-byte blocks. Its end feeds the
bytes and, with ALIVE_IN, ALIVE: VALUE is the register, RESULT it XOR the final XOR (the published check value when VALUE
held the initial one), ALIVE one more with ALIVE_INC, BUSY 0, DONE 1, and with IE the owner's vector; an unreachable byte
stops before it with ADDR_ERR. exec is concluded to answer a next state, with this effect, for: noticeReceived,
tripNoticeDue, tripMinOnExpire, tripDisagree, checkValueStart, checkValueDone. -/
def Obligations.TripPinsAndCheckUnits : Prop :=
  ∀ (l : Lane) (n : Fin 16) (u : Fin 8) (s : State), s.laneUp l = true →
    let pg : Page := .pub l
    let x := s.trip l n
    let a := tripAct l n
    let now := s.laneNow l
    let stays := x.drive = true ∧ now < x.rose + s.ent a E.T12_6_MIN_ON * us
    let shows := [regAt (.pub .l0) .PUB_TRIP_DRIVE, regAt (.pub .l0) .PUB_TRIP_STATUS, regAt (.pub .l1) .PUB_TRIP_DRIVE, regAt (.pub .l1) .PUB_TRIP_STATUS]
    let bare := fun (t : State) => { t.body with pins := { t.pins with trip := [] }, l0 := { t.l0 with trip := [] }, l1 := { t.l1 with trip := [] } }
    let shown := fun (t : State) => (∀ j < 16, ((j, true) ∈ t.pins.trip ↔ t.pinLevel j = true) ∧
        (bitAt (t.fld pg F.PUB_TRIP_STATUS_LEVEL) j = t.pinLevel j) ∧ (bitAt (t.fld pg F.PUB_TRIP_DRIVE_DRIVE) j = t.laneDrive l j)) ∧
      t.fld pg F.PUB_TRIP_STATUS_DIS = s.fld pg F.PUB_TRIP_STATUS_DIS ∧
      ∀ k j, (k, j) ≠ (l, n.val) → (t.trip k j).drive = (s.trip k j).drive ∧ (t.trip k j).due = (s.trip k j).due ∧ (t.trip k j).rose = (s.trip k j).rose
    let moved := fun (t : State) (v : Bool) => shown t ∧ (t.trip l n).want = v ∧
      (v = true → (t.trip l n).drive = true ∧ (t.trip l n).rose = if x.drive then x.rose else now) ∧
      (v = false → ((t.trip l n).drive = true ↔ stays) ∧ (t.trip l n).rose = x.rose)
    (∀ (w : Notice) (rest : List Notice), (s.lane l).map.notices = w :: rest → s.bit pg F.PUB_CTRL_EN = false → s.ent a E.T12_6_VALID = 1 →
      s.ent a E.T12_6_POINT = w.point → (∀ j < 16, j ≠ n.val → s.ent (tripAct l j) E.T12_6_VALID = 0 ∨ s.ent (tripAct l j) E.T12_6_POINT ≠ w.point) →
      let b := 32 * s.ent a E.T12_6_WORD + s.ent a E.T12_6_BIT
      let s0 := s.setMap l { (s.lane l).map with notices := rest }
      (w.e ≤ now → Answers (exec (.noticeReceived l) s) fun t => moved t (bitAt w.rec_ b) ∧ (∀ q ∈ (t.trip l n).due, w.e < q.1) ∧ RegsOutside shows s t ∧ bare t = bare s0) ∧
      (now < w.e → exec (.noticeReceived l) s = .next (s0.setTrip l n { x with due := x.due ++ [(w.e, bitAt w.rec_ b)] }))) ∧
    (x.due = [] → exec (.tripNoticeDue l n) s = .next s) ∧
    (∀ e v rest, x.due = (e, v) :: rest → e ≤ now → Answers (exec (.tripNoticeDue l n) s) fun t => moved t v ∧ (t.trip l n).due = rest ∧ RegsOutside shows s t ∧ bare t = bare s) ∧
    (s.epsHolds l n = false →
      (¬(x.drive = true ∧ x.want = false) → exec (.tripMinOnExpire l n) s = .next s) ∧
      (x.drive = true → x.want = false → ¬stays → Answers (exec (.tripMinOnExpire l n) s) fun t => moved t false ∧ RegsOutside shows s t ∧ bare t = bare s)) ∧
    (s.epsHolds l n = true → (x.drive = false ∨ x.want = true) → (s.epsPinSt l n).1 = true → s.epsWant l n = false → (s.epsPinSt l n).2 + s.epsMinOn l n ≤ now →
      Answers (exec (.tripMinOnExpire l n) s) fun t => (t.epsPinSt l n).1 = false) ∧
    (let P := fun k => s.tripPresent k n
      let D := fun k => s.laneDrive k n
      let both := fun k => s.ent (s.tripCfg k n) E.T12_6_VOTE = 1
      let mute := fun k => both k ∧ s.ent (s.tripCfg k n) E.T12_6_FALLBACK = 0
      (∀ k, s.epsHolds k n = false → (P k = true ↔ s.laneUp k = true ∧ s.rolledOut k = false ∧ s.bit (.pub k) F.PUB_CTRL_TRIP_EN = true) ∧
        s.tripCfg k n = tripAct k n ∧
        (D k = true ↔ s.bit (.pub k) F.PUB_CTRL_TRIP_EN = true ∧ s.ent (tripAct k n) E.T12_6_VALID = 1 ∧ (s.trip k n).drive = true)) ∧
      (0 ∈ s.com.lowBanks → s.pinLevel n = false) ∧
      (0 ∉ s.com.lowBanks →
        (P .l0 = false → P .l1 = false → s.pinLevel n = false) ∧
        (∀ k, P k = true → P k.other = false → (mute k → s.pinLevel n = false) ∧ (¬mute k → s.pinLevel n = D k)) ∧
        (P .l0 = true → P .l1 = true → (both .l0 → s.pinLevel n = (D .l0 && D .l1)) ∧ (¬both .l0 → s.pinLevel n = (D .l0 || D .l1))))) ∧
    (let differs := s.pinLevel n ≠ s.laneDrive l n ∧ (s.laneDrive l n = true ↔ s.ent (s.tripCfg l n) E.T12_6_VOTE = 1)
      let cnt := fun (t : State) (k : Nat) => t.fld pg F.PUB_CNT_COUNT 6 = min (s.fld pg F.PUB_CNT_COUNT 6 + k) (2 ^ 32 - 1)
      (¬differs → Answers (exec (.tripDisagree l n) s) fun t => shown t ∧ RegsOutside shows s t ∧ bare t = bare s) ∧
      (∀ t0, differs → x.diff = some t0 → t0 + s.ent (s.tripCfg l n) E.T12_6_DISAGREE * us ≤ now →
        (x.told = true → Answers (exec (.tripDisagree l n) s) fun t => shown t ∧ RegsOutside shows s t ∧ bare t = bare s) ∧
        (x.told = false → Answers (exec (.tripDisagree l n) s) fun t => cnt t 1 ∧ (t.trip l n).told = true ∧
          (∀ j < 16, bitAt (t.fld pg F.PUB_TRIP_STATUS_DIS) j = (bitAt (s.fld pg F.PUB_TRIP_STATUS_DIS) j || decide (j = n.val))) ∧
          RegsOutside (rowAt pg .PUB_CNT 7 :: evrAt :: shows) s t ∧ bare t.quiet = bare s.quiet))) ∧
    (let pc : Page := .chk l u
      let busy := s.bit pc F.CHK_STATUS_BUSY = true
      let poly := s.fld pc F.CHK_CFG_POLY
      let go : ChkRun := ⟨poly, s.bit pc F.CHK_CFG_ALIVE_IN, s.bit pc F.CHK_CFG_ALIVE_INC, s.fld pc F.CHK_SRC_LO_ADDR + 2 ^ 32 * s.fld pc F.CHK_SRC_HI_ADDR,
        s.fld pc F.CHK_LEN_LEN, s.real⟩
      let runs := fun (m : List (Nat × ChkRun)) (t : State) => t.body = (s.setLane l { s.lane l with chk := m }).body
      let chkRegs := fun (t : State) => RegsOutside [regAt pc .CHK_STATUS, regAt pc .CHK_VALUE_LO, regAt pc .CHK_VALUE_HI] s t ∧ runs (assocPut (s.lane l).chk u go) t
      (busy → exec (.checkValueStart l u) s = .next (s.setBit pc F.CHK_STATUS_WBUSY)) ∧
      (¬busy → 5 ≤ poly → exec (.checkValueStart l u) s = .next (s.setBit pc F.CHK_STATUS_BADCFG)) ∧
      (∀ p, ¬busy → chkAlg poly = some p → Answers (exec (.checkValueStart l u) s) fun t => chkRegs t ∧ t.bit pc F.CHK_STATUS_BUSY = true ∧
        t.bit pc F.CHK_STATUS_DONE = s.bit pc F.CHK_STATUS_DONE ∧
        t.chkValue l u = if s.bit pc F.CHK_CFG_INIT then chkForm p p.init else s.chkValue l u) ∧
      (¬busy → exec (.checkValueDone l u) s = .next s) ∧
      (∀ (x : ChkRun) p r k, busy → assocGet (s.lane l).chk u = some x → chkAlg x.poly = some p → r < 2 ^ p.width → s.chkValue l u = chkForm p r →
        let own := s.ownerChk l u
        let src := x.src
        let len := x.len
        let alive := s.fld pc F.CHK_ALIVE_ALIVE
        let r' := crcRun p r (s.mem l src k)
        let ends := fun (t : State) => t.bit pc F.CHK_STATUS_BUSY = false ∧ t.bit pc F.CHK_STATUS_DONE = true ∧ runs (assocDel (s.lane l).chk u) t ∧
          RegsOutside [(Page.base pc, 0x30), (Page.base (.insPage l own), 0x1000), regAt (.ins l) .INS_VINT_SUM_LO, regAt (.ins l) .INS_VINT_SUM_HI, regAt (.ins l) .INS_VINT_SUM_MGR] s t ∧
          (s.bit pc F.CHK_CFG_IE = false → ∀ j < 8, t.rd (.insPage l own) .INS_VINT_PEND j = s.rd (.insPage l own) .INS_VINT_PEND j) ∧
          (s.bit pc F.CHK_CFG_IE = true → (own = 64 ∨ s.insState l own ≠ 6) → bitAt (t.rd (.insPage l own) .INS_VINT_PEND 0).toNat u = true);
        (∀ j < k, s.mayReach l own false (src + j) = true) →
        (k < len → s.mayReach l own false (src + k) = false → Answers (exec (.checkValueDone l u) s) fun t =>
          ends t ∧ t.bit pc F.CHK_STATUS_ADDR_ERR = true ∧ t.chkValue l u = chkForm p r' ∧ t.fld pc F.CHK_ALIVE_ALIVE = alive ∧
            t.rd pc .CHK_RESULT_LO = s.rd pc .CHK_RESULT_LO ∧ t.rd pc .CHK_RESULT_HI = s.rd pc .CHK_RESULT_HI) ∧
        (k = len → let all := s.mem l src len ++ if x.aliveIn then natBe 4 alive else [];
          (∃ b ≤ len / 64, s.regView pc .CHK_VALUE_LO 0 = BitVec.ofNat 32 (chkForm p (crcRun p r (s.mem l src (64 * b))))) ∧
          Answers (exec (.checkValueDone l u) s) fun t => ends t ∧ t.bit pc F.CHK_STATUS_ADDR_ERR = s.bit pc F.CHK_STATUS_ADDR_ERR ∧
            t.chkValue l u = chkForm p (crcRun p r all) ∧ t.pairReg pc .CHK_RESULT_LO .CHK_RESULT_HI = (chkForm p (crcRun p r all)).xor p.xout ∧
            (r = p.init → t.pairReg pc .CHK_RESULT_LO .CHK_RESULT_HI = crcOf p all) ∧
            t.fld pc F.CHK_ALIVE_ALIVE = if x.aliveInc then (alive + 1) % 2 ^ 32 else alive)))

/-- A recorder decides rows and conditions, starts, extends and ends records, and drives and reads the trigger pins (R323, R324,
R325, R326, R327, R328, R334, R335, R341, R347, R358, R453). With every memory in canonical form (kept by each step,
StoresStayCanonical): ROW_DECISION does nothing while OFF, without a grid, or while a filter token is missing. A condition
fires when HOLDOFF has passed and its kind of Table 14.6 holds. ARMED: the row enters the ring of the latest PRE rows; a
condition with NO_REC = 0 or a due manual trigger makes it the trigger instant: ring and row are written as rows of Table
14.4, TRIG_MASK holds the conditions that fired, TRIG_COND the lowest (0xFF: none), PRE_SHORT tells a short ring, the end is
POST, and it captures. CAPTURING: the row is written next; a starting condition counts RETRIGS and with RETRIG extends the
end to index + POST, at most MAX_POST; the last row enters CLOSING. In other states DEAD_ROWS counts and a starting instant
counts LOST_TRIG. A row its owner may not write counts REFUSED, and an ABSENT, STOPPED or QUIESCED owner's memory is not
written. At the first instant after a switch of tables an ARMED recorder restarts its ring, the lost rows counting
DEAD_ROWS, and decides by the new tables. From the owner's quiesce instant a capturing record closes and an idle recorder
goes OFF. A firing with XT_OUT and OUT_EN holds its line for WIDTH; XTRIG_DRIVE_RELEASE lets it go. TRIGGER_PIN_EDGE sets
the outside level; with VIO_C low, or a line held beyond 100 ns, that is all; otherwise lanes UP that run take the edge with
Plane A's stamp when LOCKED, else Plane B's, marked OWN within 100 ns of the module's own assertion, and count UNTIMED when
neither is. exec is concluded to answer a next state, with this effect, for: rowDecision, xtrigDriveRelease, triggerPinEdge. -/
def Obligations.RecorderRows : Prop :=
  ∀ (l : Lane) (s : State), s.laneUp l = true → MemsWf s →
    let pg : Page := .drc l
    let x := s.drc l
    let st := s.drcState l
    let g := max x.next (s.lane l).gridFirst
    let o := s.ownerDrc l
    let lives := ¬(o < 64 ∧ (s.insState l o = 0 ∨ s.insState l o = 1 ∨ s.insState l o = 4))
    let may := fun (a n : Nat) => lives ∧ ∀ b, a ≤ b → b < a + n → s.mayReach l o true b = true
    let cond := fun (c : Nat) (f : EFld) => s.drcCond l c f
    let set := fun (f : EFld) => s.drcSet l f
    let cnt := fun (t : State) (k n : Nat) => t.fld pg F.DRC_CNT_COUNT k = min (s.fld pg F.DRC_CNT_COUNT k + n) (2 ^ 32 - 1)
    let frame := fun (t : State) => RegsOutside [regAt pg .DRC_STATUS, rowAt pg .DRC_CNT 8] s t ∧
      ({ t.besideLane l with mem0 := s.mem0, mem1 := s.mem1 } = s.besideLane l) ∧ t.lane l = { s.lane l with drc := t.drc l }
    (st = 0 ∨ s.gridRun l = false → exec (.rowDecision l) s = .next s) ∧
    (s.gridRun l = true → s.gT l g + s.hold l ≤ s.laneNow l → st ≠ 0 → s.drcQuiesced l g = true →
      (st = 2 → Answers (exec (.rowDecision l) s) fun t => t.drcState l = 3 ∧ t.drc l = x ∧ frame t) ∧
      (st = 3 → exec (.rowDecision l) s = .next s) ∧
      (st ≠ 2 → st ≠ 3 → Answers (exec (.rowDecision l) s) fun t => t.drcState l = 0 ∧ t.bit pg F.DRC_CTRL_EN = false ∧ (t.drc l).rows = [])) ∧
    (∀ gc, s.gridRun l = true → s.gT l g + s.hold l ≤ s.laneNow l → s.drcQuiesced l g = false → x.rearm = some gc → gc ≤ g → st ≠ 0 → st ≠ 2 → st ≠ 3 →
      let u := ((if st = 1 then s.drcCnt l 4 x.rows.length else s).setDrc l { x with rows := if st = 1 then [] else x.rows, rearm := none }).setFld pg F.DRC_STATUS_OLD_BUSY 0
      (u.drcRow l g = none → exec (.rowDecision l) s = .next s) ∧ (u.drcRow l g ≠ none → exec (.rowDecision l) s = exec (.rowDecision l) u)) ∧
    (s.gridRun l = true → s.gT l g + s.hold l ≤ s.laneNow l → s.drcQuiesced l g = false → (st = 2 ∨ st = 3 ∨ ∀ gc, x.rearm = some gc → g < gc) →
      (s.drcRow l g = none → exec (.rowDecision l) s = .next s) ∧
      (∀ r, s.drcRow l g = some r → st ≠ 0 → s.bit (.ins l) F.INS_DIRTY_CTL_EN = false →
        let fires := fun (c : Nat) => s.condFires l c r = true
        let fired := (List.range 64).filter fun c => s.condFires l c r
        let man := ∃ t, x.man = some t ∧ t ≤ s.gT l g
        let starts := man ∨ ∃ c ∈ fired, cond c E.T14_5_NO_REC = 0
        let rows := x.rows ++ [r]
        let sized := ∀ q ∈ x.rows, q.ana.length = set E.T14_1_N_ANA ∧ q.bin.length = s.drcBinWords l
        let at_ := fun (k : Nat) => s.drcBuf l (s.fld pg F.DRC_STATUS_BUF) + s.rowsOff l + k * s.rowBytes l
        let oct := fun (k g0 : Nat) (q : DrcRow) => natLe 4 (k + 1) ++ natLe 4 ((s.gT l q.g - s.gT l g0) / us) ++ q.ana.flatMap (fun v => natLe 4 v.1) ++ q.bin.flatMap (natLe 2)
        let goes := fun (P : State → Prop) => Answers (exec (.rowDecision l) s) fun t => (t.drc l).next = g + 1 ∧ (man → (t.drc l).man = none) ∧
          P t;
        let framed := fun (t : State) => s.fld pg F.DRC_XT_CFG_OUT_EN = 0 → frame t
        (r.g = g ∧ r.ana.length = set E.T14_1_N_ANA ∧ r.bin.length = s.drcBinWords l) ∧
        (∀ c < 64,
          let k := cond c E.T14_5_KIND
          let free := ∀ g0, (x.cond c).1 = some g0 → g0 + cond c E.T14_5_HOLDOFF < g
          let bit := fun (t : Nat) => s.drcBit l (cond c E.T14_5_SOURCE) (cond c E.T14_5_WORD) (cond c E.T14_5_BIT) t = true
          let bad := fun (t : Nat) => s.qualBad l (cond c E.T14_5_SOURCE) t = true
          let v := (r.ana.getD (cond c E.T14_5_SOURCE) (f32.nan, 3)).1
          let mine := fun (pin : Nat) (e : DrcEdge) => e ∈ x.edges ∧ e.pin = pin ∧ s.gT l (g - 1) < e.stamp ∧ e.stamp ≤ s.gT l g
          (k = 0 → ¬fires c) ∧ (k = 1 → (fires c ↔ free ∧ bit (s.gT l g) ∧ ¬bit (s.gT l (g - 1)))) ∧
          (k = 2 → (fires c ↔ free ∧ ¬bit (s.gT l g) ∧ bit (s.gT l (g - 1)))) ∧
          (k = 3 → (fires c ↔ free ∧ (x.cond c).2 = false ∧ fGt f32 v (cond c E.T14_5_LEVEL) = true)) ∧
          (k = 4 → (fires c ↔ free ∧ (x.cond c).2 = false ∧ fLt f32 v (cond c E.T14_5_LEVEL) = true)) ∧
          (k = 5 → (fires c ↔ free ∧ bad (s.gT l g) ∧ ¬bad (s.gT l (g - 1)))) ∧
          (k = 6 → (fires c ↔ free ∧ ∃ e, mine (cond c E.T14_5_PIN) e ∧ (e.rise = true ↔ cond c E.T14_5_EDGE = 0))) ∧
          (k = 7 → (fires c ↔ free ∧ ∃ e, mine (4 + cond c E.T14_5_PIN) e ∧ e.rise = false ∧ e.own = false))) ∧
        (st = 1 → ¬starts → goes fun t => (t.drc l).rows = rows.drop (rows.length - set E.T14_1_PRE) ∧ t.drcState l = 1 ∧ (∀ k a, t.mem k a 1 = s.mem k a 1) ∧ framed t) ∧
        (st = 1 → starts → goes fun t => (t.drc l).rows = rows ∧ (t.drc l).lost = 0 ∧ (t.drc l).lostHdr = x.lost ∧ (t.drc l).pre = x.rows.length ∧ (t.drc l).end_ = set E.T14_1_POST ∧
          ((t.drc l).short = true ↔ x.rows.length < set E.T14_1_PRE) ∧ t.drcState l = (if set E.T14_1_POST ≤ 1 then 3 else 2) ∧
          (∃ stamp, (t.drc l).trig = some ⟨g, stamp, (fired.map (fun c => 2 ^ c)).sum, fired.head?.getD 0xFF⟩) ∧
          (may (at_ 0) (rows.length * s.rowBytes l) → framed t) ∧
          (sized → may (at_ 0) (rows.length * s.rowBytes l) → ∀ k q, rows[k]? = some q → t.mem l (at_ k) (s.rowBytes l) = oct k ((rows.headD r).g) q) ∧
          (sized → ∀ k a, ¬(k = l ∧ lives ∧ at_ 0 ≤ a ∧ a < at_ rows.length) → t.mem k a 1 = s.mem k a 1)) ∧
        (st = 2 → let idx := x.rows.length - x.pre
          let end_ := if set E.T14_1_RETRIG = 1 then min (max x.end_ (idx + set E.T14_1_POST)) (set E.T14_1_MAX_POST) else x.end_
          let here := at_ x.rows.length
          let refused := fun (t : State) => t.fld (.insPage l o) F.INS_OCNT_COUNT 0 = min (s.fld (.insPage l o) F.INS_OCNT_COUNT 0 + 1) (2 ^ 32 - 1)
          goes fun t => (t.drc l).rows = rows ∧
            (may here (s.rowBytes l) → framed t ∧ t.mem l here (s.rowBytes l) = oct x.rows.length ((rows.headD r).g) r) ∧
            (lives → (∀ b, here ≤ b → b < here + s.rowBytes l → s.mayReach l o true b = false) → refused t ∧ ∀ k a, t.mem k a 1 = s.mem k a 1) ∧
            (∀ k a, ¬(k = l ∧ lives ∧ here ≤ a ∧ a < at_ rows.length) → t.mem k a 1 = s.mem k a 1) ∧
            (starts → cnt t 1 1 ∧ (t.drc l).end_ = end_ ∧ (t.drc l).retrigs = min (x.retrigs + 1) 0xFFFF) ∧
            (¬starts → cnt t 1 0 ∧ (t.drc l).end_ = x.end_ ∧ (t.drc l).retrigs = min x.retrigs 0xFFFF) ∧ t.drcState l = (if (t.drc l).end_ ≤ idx + 1 then 3 else 2)) ∧
        (3 ≤ st → goes fun t => t.drcState l = st ∧ (t.drc l).rows = x.rows ∧ cnt t 4 1 ∧ (∀ k a, t.mem k a 1 = s.mem k a 1) ∧
          framed t ∧
          (starts → cnt t 2 1 ∧ (t.drc l).lost = min (x.lost + 1) (2 ^ 32 - 1)) ∧ (¬starts → cnt t 2 0 ∧ (t.drc l).lost = x.lost)) ∧
        (∀ c ∈ fired, cond c E.T14_5_XT_OUT = 1 → bitAt (s.fld pg F.DRC_XT_CFG_OUT_EN) (cond c E.T14_5_XT_LINE) = true →
          goes fun t => ∃ since, assocGet (t.drc l).xt (cond c E.T14_5_XT_LINE) = some (since, s.laneNow l + s.fld pg F.DRC_XT_CFG_WIDTH * us)))) ∧
    (∀ line : Fin 2, (assocGet x.xt line.val = none → exec (.xtrigDriveRelease l line) s = .next s) ∧
      (∀ e, assocGet x.xt line.val = some e → e.2 ≤ s.laneNow l → s.xtOutside line = false →
        exec (.xtrigDriveRelease l line) s = .next (s.setDrc l { x with xt := assocDel x.xt line.val }))) ∧
    (∀ (pin : Fin 6) (rise : Bool),
      let low := s.com.lowBanks.contains 2 = true
      let held := fun (t0 : Nat) => 4 ≤ pin.val ∧ s.xtDriven (pin.val - 4) = some t0
      let levels := fun (t : State) => t.pins.trig.getLsbD pin = rise ∧ (∀ j < 6, j ≠ pin.val → t.pins.trig.getLsbD j = s.pins.trig.getLsbD j) ∧
        { t.untimed with pins := s.pins, l0 := s.untimed.l0, l1 := s.untimed.l1 } = s.untimed
      let takes := fun (own : Bool) => Answers (exec (.triggerPinEdge pin rise) s) fun t => levels t ∧
        RegsOutside [rowAt (.drc .l0) .DRC_CNT 8, rowAt (.drc .l1) .DRC_CNT 8] s t ∧
        (∀ stamp, s.edgeStamp = some stamp → t.drc l =
          { x with edges := (if st = 0 then x.edges.filter (fun e => decide (s.laneNow l ≤ e.stamp + 100 * ms)) else x.edges) ++ [⟨pin, rise, stamp, own⟩] }) ∧
        (s.edgeStamp = none → cnt t 6 1 ∧ t.drc l = x)
      (s.pins.trig.getLsbD pin = rise → exec (.triggerPinEdge pin rise) s = .next s) ∧
      (s.pins.trig.getLsbD pin = !rise →
        (low ∨ (∃ t0, held t0 ∧ (rise = true ∨ t0 + 100 * ns < s.real)) → Answers (exec (.triggerPinEdge pin rise) s) fun t => levels t ∧ t.regs = s.regs ∧ t.lane l = s.lane l) ∧
        (¬low → (pin.val < 4 ∨ s.xtDriven (pin.val - 4) = none) → takes false) ∧
        (¬low → rise = false → (∃ t0, held t0 ∧ s.real ≤ t0 + 100 * ns) → takes true))) ∧
    ((s.planeLocked .a = true → s.edgeStamp = some (quant s.pa.now)) ∧
      (s.planeLocked .a = false → s.planeLocked .b = true → s.edgeStamp = some (quant s.pb.now)) ∧
      (s.planeLocked .a = false → s.planeLocked .b = false → s.edgeStamp = none))

/-- A record closes with header and measurements and the recorder re-arms, waits or stops; buffers, manual triggers and enable
act as bound (R327, R328, R329, R330, R331, R332, R335, R341, R355, R358). With every memory in canonical form (kept by each
step, StoresStayCanonical): RECORD_CLOSE outside CLOSING does nothing; in CLOSING it writes the header of Table 14.8 with
SEQ one more, STATE COMPLETE, rows, pre-trigger rows, DEAD_ROWS (all ones for the first record after EN), the LOST_TRIG
counted before its trigger and flags (bit 14: a span of slewing within the record), shows the buffer and SEQ in DRC_LAST,
counts RECORDS, and with IE raises vector 9 of the owner. It then stops when MASK_ACT says so, else arms the lowest EMPTY
buffer, or with none and FULL_MODE = 1 waits, or with FULL_MODE = 0 overwrites the COMPLETE one of lowest SEQ and counts
OVERWRITTEN. MIN, MAX, MEAN, RMS, BAD_ROWS, the mask flags and FIRST_BAD are those of Table 14.9 over rows not INVALID or
MISSING, in binary64 sums; a failing channel counts MASK_FAIL. DRC_RELEASE makes a COMPLETE buffer EMPTY and arms a waiting
recorder; any other release does nothing. DRC_RESUME leaves STOPPED alone. A manual trigger is posted, replacing one that
waits; one at or before the last decided instant counts MAN_LATE. Enabling arms with a configured memory the owner may write
(else REFUSED) and does nothing with SIZE_MIB = 0; disabling enters OFF, clears EN and leaves memory as it stands. Bytes the
owner may not write stay, and so does all memory of an ABSENT, STOPPED or QUIESCED owner. exec is concluded to answer a next
state, with this effect, for: recordClose, drcRelease, drcResume, manualTriggerPost, recorderEnable. -/
def Obligations.RecorderRecords : Prop :=
  ∀ (l : Lane) (s : State), s.laneUp l = true → MemsWf s → s.bit (.ins l) F.INS_DIRTY_CTL_EN = false →
    let pg : Page := .drc l
    let x := s.drc l
    let st := s.drcState l
    let i := s.fld pg F.DRC_STATUS_BUF
    let o := s.ownerDrc l
    let lives := ¬(o < 64 ∧ (s.insState l o = 0 ∨ s.insState l o = 1 ∨ s.insState l o = 4))
    let may := fun (a n : Nat) => lives ∧ ∀ b, a ≤ b → b < a + n → s.mayReach l o true b = true
    let set := fun (f : EFld) => s.drcSet l f
    let cnt := fun (t : State) (k n : Nat) => t.fld pg F.DRC_CNT_COUNT k = min (s.fld pg F.DRC_CNT_COUNT k + n) (2 ^ 32 - 1)
    let frame := fun (t : State) => RegsOutside [regAt pg .DRC_CTRL, regAt pg .DRC_STATUS, regAt pg .DRC_LAST, rowAt pg .DRC_CNT 8] s t ∧
      { t.besideLane l with mem0 := s.mem0, mem1 := s.mem1 } = s.besideLane l ∧ t.lane l = { s.lane l with drc := t.drc l }
    let empty := fun (y : DrcSt) (j : Nat) => j < s.drcBufs l ∧ (y.buf j).1 = 0 ∧ ∀ k < j, (y.buf k).1 ≠ 0
    let noEmpty := fun (y : DrcSt) => ∀ k < s.drcBufs l, (y.buf k).1 ≠ 0
    let armed := fun (t : State) (j : Nat) => t.drcState l = 1 ∧ t.fld pg F.DRC_STATUS_BUF = j ∧ (t.drc l).buf j = (1, 0) ∧ (t.drc l).rows = [] ∧ (may (s.drcBuf l j + 4) 4 → t.memN l (s.drcBuf l j + 4) 4 = 1)
    let kept := fun (t : State) => t.mem0 = s.mem0 ∧ t.mem1 = s.mem1
    let sound := fun (j : Nat) => may (s.drcBuf l j + 4) 4 ∨ ¬lives
    (st ≠ 3 → exec (.recordClose l) s = .next s) ∧
    (st = 3 → s.drcQuiesced l x.next = false → s.drcBufs l ≤ 256 → 0 < s.drcBufSize l → i < s.drcBufs l → (x.buf i).1 = 1 →
      let seq := if x.seq = 2 ^ 32 - 1 then 1 else x.seq + 1
      let x' : DrcSt := { x with bufs := assocPut x.bufs i (2, seq) }
      let base := s.drcBuf l i
      let closes := fun (P : State → Prop) => Answers (exec (.recordClose l) s) fun t => (t.drc l).seq = seq ∧ (t.drc l).lost = x.lost ∧ (t.drc l).lostHdr = 0 ∧
        (t.drc l).lastRow = x.rows.getLast?.map (fun r => r.g) ∧ t.fld pg F.DRC_LAST_BUF = i ∧ t.fld pg F.DRC_LAST_SEQ = seq % 2 ^ 24 ∧ cnt t 0 1 ∧ (¬lives → kept t) ∧ P t
      (closes fun _ => True) ∧
      (set E.T14_1_MEAS_EN = 0 → s.bit pg F.DRC_CTRL_IE = false → x.seq < 2 ^ 32 → may base 0x100 →
        let header := fun (t : State) => t.memN l base 4 = 0x43455244 ∧ t.memN l (base + 4) 4 = 2 ∧ t.memN l (base + 8) 4 = seq ∧
          t.memN l (base + 0x3C) 4 = x.rows.length % 2 ^ 32 ∧ t.memN l (base + 0x40) 4 = x.pre % 2 ^ 32 ∧ t.memN l (base + 0x48) 4 = x.lostHdr % 2 ^ 32 ∧
          (x.lastRow = none → t.memN l (base + 0x44) 4 = 2 ^ 32 - 1) ∧ (t.drc l).buf i = (2, seq) ∧
          (∀ p r, x.lastRow = some p → x.rows.head? = some r → p < r.g → t.memN l (base + 0x44) 4 = (r.g - p - 1) % 2 ^ 32) ∧
          (∀ r q, x.rows.head? = some r → x.rows.getLast? = some q → (∀ y, x.trig = some y → y.cond < 256) →
            (bitAt (t.memN l (base + 0x38) 2) 14 = true ↔ ∃ e ∈ x.slews, e.1 ≤ s.gT l q.g ∧ s.gT l r.g ≤ e.2)) ∧
          (∀ r, x.rows.head? = some r → t.memN l (base + 0xC) 12 = toT96 (s.gT l r.g) % 2 ^ 96) ∧
          (∀ y, x.trig = some y → t.memN l (base + 0x30) 8 = y.mask % 2 ^ 64 ∧ t.memN l (base + 0x18) 12 = toT96 (s.gT l y.g) % 2 ^ 96 ∧
            t.memN l (base + 0x24) 12 = toT96 y.stamp % 2 ^ 96 ∧ (y.cond < 256 → t.memN l (base + 0x38) 1 = y.cond))
        let clash := fun (j : Nat) => j ≠ i
        (set E.T14_1_MASK_ACT = 2 → (∀ y, x.trig = some y → y.cond < 256) → closes fun t => header t ∧ t.drcState l = 5 ∧ bitAt (t.memN l (base + 0x38) 2) 11 = true ∧ frame t) ∧
        (set E.T14_1_MASK_ACT ≠ 2 → noEmpty x' → set E.T14_1_FULL_MODE = 1 → closes fun t => header t ∧ t.drcState l = 4 ∧ frame t) ∧
        (∀ j, set E.T14_1_MASK_ACT ≠ 2 → empty x' j → sound j → closes fun t => header t ∧ clash j ∧ armed t j ∧ cnt t 3 0 ∧ frame t ∧
          ∀ k a, ¬(k = l ∧ ((base ≤ a ∧ a < base + 0x100) ∨ (s.drcBuf l j + 4 ≤ a ∧ a < s.drcBuf l j + 8))) → t.mem k a 1 = s.mem k a 1) ∧
        (∀ j, set E.T14_1_MASK_ACT ≠ 2 → noEmpty x' → set E.T14_1_FULL_MODE = 0 → j < s.drcBufs l → (x'.buf j).1 = 2 → sound j →
          (∀ k < s.drcBufs l, k ≠ j → (x'.buf k).1 = 2 → (x'.buf j).2 < (x'.buf k).2) → closes fun t => armed t j ∧ cnt t 3 1 ∧ frame t)) ∧
      (set E.T14_1_MEAS_EN = 0 → s.bit pg F.DRC_CTRL_IE = true →
        (o = 64 ∨ s.insState l o ≠ 6) → closes fun t => bitAt (t.rd (.insPage l o) .INS_VINT_PEND 0).toNat 9 = true) ∧
      (∀ a, set E.T14_1_MEAS_EN = 1 → a < set E.T14_1_N_ANA → s.rowsOff l ≤ s.drcBufSize l → may (base + 0x100 + 32 * a) 32 → (x.meas a).n < 2 ^ 32 → (x.meas a).bad < 2 ^ 32 →
        let m := x.meas a
        let mean := if m.n = 0 then f32.nan else fConv f64 f32 (fDiv f64 m.s (fOfInt f64 m.n))
        let rms := if m.n = 0 then f32.nan else fConv f64 f32 (fSqrt f64 (fDiv f64 m.q (fOfInt f64 m.n)))
        let limP := s.drcAna l a E.T14_2_MASK_PEAK
        let limR := s.drcAna l a E.T14_2_MASK_RMS
        let peak := fIsZero f32 limP = false ∧ fGt f32 (fMax f32 (fAbs f32 m.lo) (fAbs f32 m.hi)) limP = true
        let big := fIsZero f32 limR = false ∧ fGt f32 rms limR = true
        let word := fun (t : State) (k : Nat) => t.memN l (base + 0x100 + 32 * a + 4 * k) 4
        closes fun t => word t 0 = m.lo % 2 ^ 32 ∧ word t 1 = m.hi % 2 ^ 32 ∧ word t 2 = mean % 2 ^ 32 ∧ word t 3 = rms % 2 ^ 32 ∧ word t 5 = m.bad ∧
          (bitAt (word t 6) 0 = true ↔ peak) ∧ (bitAt (word t 6) 1 = true ↔ big) ∧ word t 7 = m.first % 2 ^ 32 ∧ (m.bad ≠ 0 ∨ m.n = 0 → word t 4 = f32.nan) ∧ (peak ∨ big → cnt t 5 1))) ∧
    (∀ (m : Meas) (k v : Nat), (∀ c, 2 ≤ c → m.row k (v, c) = { m with bad := m.bad + 1, first := if m.bad = 0 then k else m.first }) ∧
      (∀ c, c < 2 → (m.row k (v, c)).n = m.n + 1 ∧ (m.row k (v, c)).bad = m.bad ∧ (m.row k (v, c)).s = fAdd f64 m.s (fConv f32 f64 v) ∧
        (m.row k (v, c)).q = fFma f64 (fConv f32 f64 v) (fConv f32 f64 v) m.q ∧
        (m.n ≠ 0 → (m.row k (v, c)).lo = fMin f32 m.lo v ∧ (m.row k (v, c)).hi = fMax f32 m.hi v) ∧ (m.n = 0 → (m.row k (v, c)).lo = v ∧ (m.row k (v, c)).hi = v))) ∧
    (∀ j : Fin 256, (s.drcBufs l ≤ j ∨ (x.buf j).1 ≠ 2 → exec (.drcRelease l j) s = .next s) ∧
      (j < s.drcBufs l → (x.buf j).1 = 2 →
        (st ≠ 4 → Answers (exec (.drcRelease l j) s) fun t => (t.drc l).buf j = (0, 0) ∧ t.drcState l = st ∧
          (∀ k, k ≠ j.val → (t.drc l).buf k = x.buf k) ∧ (may (s.drcBuf l j + 4) 4 → t.memN l (s.drcBuf l j + 4) 4 = 0 ∧ t.regs = s.regs ∧ frame t) ∧
          (¬lives → kept t ∧ t.regs = s.regs ∧ frame t)) ∧
        (st = 4 → noEmpty x → Answers (exec (.drcRelease l j) s) fun t => armed t j ∧ (sound j → frame t) ∧ (¬lives → kept t)))) ∧
    (st ≠ 5 → exec (.drcResume l) s = .next s) ∧
    (st = 5 → (∀ j, empty x j → Answers (exec (.drcResume l) s) fun t => armed t j ∧ t.bit pg F.DRC_STATUS_OLD_BUSY = false ∧ (sound j → frame t)) ∧
      (noEmpty x → set E.T14_1_FULL_MODE = 1 → Answers (exec (.drcResume l) s) fun t => t.drcState l = 4 ∧ t.drc l = x ∧ frame t)) ∧
    (∀ (secs : Word) (usecs : Fin 1000000),
      let at_ := secNear (s.laneNow l / sec) secs.toNat * sec + usecs.val * us
      let late := st ≠ 0 ∧ x.start < x.next ∧ at_ ≤ s.gT l (x.next - 1)
      Answers (exec (.manualTriggerPost l secs usecs) s) fun t => t.drc l = { x with man := some at_ } ∧ (late → cnt t 7 1) ∧ (¬late → cnt t 7 0) ∧
        RegsOutside [regAt pg .DRC_MAN_SEC, regAt pg .DRC_MAN_US, rowAt pg .DRC_CNT 8] s t ∧ t.body = (s.setDrc l { x with man := some at_ }).body) ∧
    (let size := s.fld pg F.DRC_MEM_CFG_SIZE_MIB
      let area := s.mayReachRange l o true (s.drcBuf l 0) (size * 0x100000) = true
      (s.bit pg F.DRC_CTRL_EN = true ∨ size = 0 → exec (.recorderEnable l true) s = .next s) ∧
      (s.bit pg F.DRC_CTRL_EN = false → size ≠ 0 → ¬area → exec (.recorderEnable l true) s = .next (s.refused l o)) ∧
      (s.bit pg F.DRC_CTRL_EN = false → size ≠ 0 → area → (x.buf 0).1 ≠ 2 → assocSorted x.bufs = true → Answers (exec (.recorderEnable l true) s) fun t =>
        t.bit pg F.DRC_CTRL_EN = true ∧ armed t 0 ∧ (t.drc l).seq = 0 ∧ (t.drc l).lost = 0 ∧ (t.drc l).lostHdr = 0 ∧ (t.drc l).lastRow = none ∧ (t.drc l).conds = [] ∧ (sound 0 → frame t)) ∧
      Answers (exec (.recorderEnable l false) s) fun t => t.bit pg F.DRC_CTRL_EN = false ∧ t.drcState l = 0 ∧ t.mem0 = s.mem0 ∧ t.mem1 = s.mem1 ∧ frame t ∧
        (st ≠ 0 → (t.drc l).rows = [] ∧ (t.drc l).trig = none))

/-- Instance commands act at their instant by Table 15.5, drain, abort and reset end as bound, and vectors and the dirty log's
epochs act (R344, R345, R346, R347, R348, R350, R351, R352, R355, R356, R357, R360). A command takes effect at instant IDX
of SEC (an IDX at or above the grid rate leaves the register's), or at the next instant with CMD_LATE when that one is
completed; it waits without a grid, and cancels a waiting one. START from STOPPED and RESUME from QUIESCED enter RUNNING,
open the owner's groups, give its publications an evaluation at g and complete with OK. QUIESCE from RUNNING enters
QUIESCING, closes its groups, records g and leaves no issue with E at or after g. ABORT from QUIESCING enters ABORTING: no
owned issue, map request, Scribe cycle or check-value operation is left, an owned recorder is OFF. RESET from STOPPED or
QUIESCED enters RESETTING: no vector pending or enabled, each pending one counted, owned Scribe engines STOPPED. In another
state commands complete with STATE (RESET: BUSY), OP 0, 6 and 7 with BADCMD, states unchanged. A completion writes CODE,
sets DONE and the change bits and raises vector 49 at the manager. The drain decision completes with OK and QUIESCED, or
with TIMEOUT and DRAIN_TMO, QUIESCING still; an instance drained later becomes QUIESCED. ABORT completes at g + 50 µs, RESET
at g + RESET_US. A software vector of 64 or more sets its pending bit, or counts VINT_DISCARD while RESETTING. EPOCH_GO
advances the epoch and zeroes the bitmap unless CLEARING. exec is concluded to answer a next state, with this effect, for:
insStart, insQuiesce, insResume, insAbort, insReset, instanceBadcmd, drainDecision, instanceDrained, abortComplete,
resetComplete, vintInject, epochGo, epochClearDone. -/
def Obligations.InstanceStates : Prop :=
  ∀ (l : Lane) (n : Fin 64) (s : State), s.laneUp l = true →
    let pg : Page := .insPage l n
    let x := s.ins l n
    let st := s.insState l n
    let own := s.lane l
    let bumped := fun (t : State) (k j : Nat) => t.fld pg F.INS_OCNT_COUNT k = min (s.fld pg F.INS_OCNT_COUNT k + j) (2 ^ 32 - 1)
    let told := fun (t : State) (code : Nat) => t.fld pg F.INS_CMD_STATUS_CODE = code ∧ t.bit pg F.INS_CMD_STATUS_DONE = true ∧
      bitAt (t.rd (.ins l) (if n.val < 32 then .INS_CHG_MAP_LO else .INS_CHG_MAP_HI)).toNat (n % 32) = true ∧ t.bit (.ins l) F.INS_STATUS_CHANGE = true ∧
      bitAt (t.rd (.insPage l 64) .INS_VINT_PEND 1).toNat 17 = true
    let block := [(Page.base (.ins l), 0x1000), (Page.base (.insPage l 0), 0x5000)]
    (∀ (secs : Word) (idx : Fin 32768),
      let cmd := fun (op : Nat) => match op with
        | 1 => exec (.insStart l n secs idx) s
        | 2 => exec (.insQuiesce l n secs idx) s
        | 3 => exec (.insResume l n secs idx) s
        | 4 => exec (.insAbort l n secs idx) s
        | 5 => exec (.insReset l n secs idx) s
        | 6 => exec (.instanceBadcmd l n 1 secs idx) s
        | 7 => exec (.instanceBadcmd l n 2 secs idx) s
        | _ => exec (.instanceBadcmd l n 0 secs idx) s
      let at_ := secNear (s.laneNow l / sec) secs.toNat * s.gridG l + (if idx.val < s.gridG l then idx.val else s.fld pg F.INS_AT_IDX_IDX)
      let late := at_ ≤ own.grid
      let g := if late then own.grid + 1 else at_;
      (s.gridRun l = false → x.wait = none → ∀ op < 8, Answers (cmd op) fun t => t.ins l n = { x with wait := some (op, at_) } ∧ t.bit pg F.INS_CMD_STATUS_WAITING = true ∧
        t.insState l n = st ∧ RegsOutside block s t ∧ t.body = (s.setLane l { own with ins := (t.lane l).ins }).body) ∧
      (s.gridRun l = true → s.gT l g ≤ s.laneNow l → (∀ e ∈ own.ins, e.1 ≠ n.val → e.2.wait = none) → assocSorted own.ins = true →
        let acts := fun (op : Nat) (P : State → Prop) => Answers (cmd op) fun t => (t.ins l n).wait = none ∧ t.bit pg F.INS_CMD_STATUS_WAITING = false ∧ (late → bumped t 3 1) ∧ P t
        let refused := fun (op code : Nat) => acts op fun t => t.insState l n = st ∧ told t code ∧ (∀ j, j ≠ n.val → t.ins l j = s.ins l j) ∧
          RegsOutside block s t ∧ t.body = (s.setLane l { own with ins := (t.lane l).ins }).body
        let opens := fun (op : Nat) => acts op fun t => t.insState l n = 2 ∧ told t 0 ∧ (t.ins l n).run = none ∧ (assocSorted own.insGq = true → assocGet (t.lane l).insGq n = none) ∧
          (∀ k ∈ s.insGroups l n, t.bit (.qul l) F.QUL_GRP_CTL_INTAKE k = true) ∧ (∀ p ∈ s.insPubs l n, (t.pub l p).es = some (s.gT l g) ∧ (t.pub l p).start = none);
        (st = 1 → opens 1) ∧ (st ≠ 1 → refused 1 4) ∧ (st = 4 → opens 3) ∧ (st ≠ 4 → refused 3 4) ∧ (∀ op ∈ [0, 6, 7], refused op 1) ∧
        (st = 2 → acts 2 fun t => t.insState l n = 3 ∧ (t.ins l n).run = some (2, g, true) ∧ assocGet (t.lane l).insGq n = some (s.gT l g) ∧
          (∀ k ∈ s.insGroups l n, t.bit (.qul l) F.QUL_GRP_CTL_INTAKE k = false) ∧
          (∀ p ∈ s.insPubs l n, ∀ i ∈ (t.pub l p).issues, i.e < s.gT l g) ∧ (x.wait = none → t.fld pg F.INS_CMD_STATUS_CODE = s.fld pg F.INS_CMD_STATUS_CODE) ∧ (x.wait ≠ none → told t 0xF)) ∧ (st ≠ 2 → refused 2 4) ∧
        (st = 3 → acts 4 fun t => t.insState l n = 5 ∧ (t.ins l n).run = some (4, g, true) ∧ (∀ p ∈ s.insPubs l n, (t.pub l p).issues = [] ∧ (t.pub l p).evals = []) ∧
          (∀ r ∈ (t.lane l).map.reqs, r.o ≠ n) ∧ (∀ u ∈ s.insChks l n, t.bit (.chk l u) F.CHK_STATUS_BUSY = false) ∧ (s.ownerDrc l = n → t.drcState l = 0) ∧
          (∀ k ∈ s.insScribes l n, (t.scr l k).run = false ∧ (t.scr l k).waiting = false ∧ (t.scr l k).posts = [])) ∧ (st ≠ 3 → refused 4 4) ∧
        (st = 1 ∨ st = 4 → acts 5 fun t => t.insState l n = 6 ∧ (t.ins l n).run = some (5, g, true) ∧
          (∀ k < 8, t.rd pg .INS_VINT_PEND k = 0 ∧ t.rd pg .INS_VINT_EN k = 0) ∧ (s.ownerDrc l = n → t.drcState l = 0) ∧
          (∀ k ∈ s.insScribes l n, t.scrState l k = 0 ∧ (t.scr l k).queue = [] ∧ (t.scr l k).run = false) ∧
          (∀ u ∈ s.insChks l n, t.rd (.chk l u) .CHK_CFG = 0 ∧ t.rd (.chk l u) .CHK_STATUS = 0 ∧ t.chkValue l u = 0)) ∧
        (st = 0 → refused 5 4) ∧ (st = 2 ∨ st = 3 ∨ st = 5 ∨ st = 6 → refused 5 3))) ∧
    (s.insDrained l n = true → (∀ u ∈ s.insChks l n, s.bit (.chk l u) F.CHK_STATUS_BUSY = false) ∧ (∀ r ∈ own.map.reqs, r.o ≠ n) ∧ (s.ownerDrc l = n → s.drcState l = 0) ∧
      (∀ k ∈ s.insScribes l n, (s.scr l k).run = false ∧ (s.scr l k).waiting = false ∧ (s.scr l k).posts = []) ∧
      (∀ i ∈ own.quill.items, s.grpF l (s.itemGrp l i) E.T8_6_OWNER ≠ n) ∧ (∀ d ∈ own.quill.deferred, s.nodeOwner l d.1 d.2 ≠ n) ∧
      (∀ w ∈ own.fbs.out ++ own.map.gooOut, w.owner ≠ n) ∧ ∃ t, (n.val, t) ∈ own.insGq ∧ ∀ p ∈ s.insPubs l n, ∀ i ∈ (s.pub l p).issues, t ≤ i.e) ∧
    (let owed := fun (op : Nat) => ∃ g, x.run = some (op, g, true);
      (¬owed 2 ∨ st ≠ 3 → exec (.drainDecision l n) s = .next s) ∧ (¬owed 4 → exec (.abortComplete l n) s = .next s) ∧ (¬owed 5 → exec (.resetComplete l n) s = .next s)) ∧
    (∀ g, x.run = some (2, g, true) → st = 3 → s.gT l g + s.fld pg F.INS_DRAIN_LIMIT_LIMIT * us + settle ≤ s.laneNow l →
      let frame := fun (t : State) => RegsOutside (evrAt :: block) s t ∧ t.quiet.besideLane l = s.quiet.besideLane l ∧
        t.ins l n = { x with run := some (2, g, false), dec := some (g, s.insDrained l n) };
      (s.insDrained l n = true → Answers (exec (.drainDecision l n) s) fun t => t.insState l n = 4 ∧ t.bit pg F.INS_STATE_DRAINED = true ∧ told t 0 ∧ frame t) ∧
      (s.insDrained l n = false → Answers (exec (.drainDecision l n) s) fun t => t.insState l n = 3 ∧ t.bit pg F.INS_STATE_DRAIN_TMO = true ∧ told t 0xE ∧ frame t)) ∧
    (st ≠ 3 ∨ s.insDrained l n = false → exec (.instanceDrained l n) s = .next s) ∧
    (st = 3 → s.insDrained l n = true → Answers (exec (.instanceDrained l n) s) fun t => t.bit pg F.INS_STATE_DRAINED = true ∧
      ((∃ g, x.run = some (2, g, false)) → t.insState l n = 4) ∧ ((¬∃ g, x.run = some (2, g, false)) → t.insState l n = 3) ∧ RegsOutside block s t ∧ t.body = s.body) ∧
    (∀ g, let ends := fun (o : Host.Outcome State Fault Refusal) (v : Nat) => Answers o fun t => t.insState l n = v ∧ told t 0 ∧ t.ins l n = { x with run := none } ∧
        RegsOutside block s t ∧ t.body = (s.setLane l { own with ins := (t.lane l).ins }).body;
      (x.run = some (4, g, true) → s.gT l g + 50 * us ≤ s.laneNow l → ends (exec (.abortComplete l n) s) 4) ∧
      (x.run = some (5, g, true) → s.gT l g + s.ent (insDesc l n) E.T15_1_RESET_US * us ≤ s.laneNow l → ends (exec (.resetComplete l n) s) 1)) ∧
    (∀ (o : Fin 65) (v : Fin 256),
      let po : Page := .insPage l o
      let word := s.rd po .INS_VINT_PEND (v / 32);
      (v.val < 64 → exec (.vintInject l o v) s = .next s) ∧
      (64 ≤ v.val → o.val < 64 → s.insState l o = 6 → exec (.vintInject l o v) s = .next (s.bump po F.INS_OCNT_COUNT 2)) ∧
      (64 ≤ v.val → (o.val = 64 ∨ s.insState l o ≠ 6) → Answers (exec (.vintInject l o v) s) fun t => t.rd po .INS_VINT_PEND (v / 32) = word ||| (1#32 <<< (v.val % 32)) ∧
        (∀ k < 8, k ≠ v.val / 32 → t.rd po .INS_VINT_PEND k = s.rd po .INS_VINT_PEND k) ∧
        (bitAt (t.rd (.ins l) (if o.val < 32 then .INS_VINT_SUM_LO else if o.val < 64 then .INS_VINT_SUM_HI else .INS_VINT_SUM_MGR)).toNat (o % 32) = true ↔
          s.bit po F.INS_VINT_ROUTE_MASK = false ∧ ∃ k < 8, t.rd po .INS_VINT_PEND k &&& s.rd po .INS_VINT_EN k ≠ 0) ∧
        RegsOutside [rowAt po .INS_VINT_PEND 8, regAt (.ins l) .INS_VINT_SUM_LO, regAt (.ins l) .INS_VINT_SUM_HI, regAt (.ins l) .INS_VINT_SUM_MGR] s t ∧ t.body = s.body)) ∧
    (let pi : Page := .ins l
      let a := s.pairReg pi .INS_DIRTY_MAP_LO .INS_DIRTY_MAP_HI;
      (s.bit pi F.INS_DIRTY_CTL_CLEARING = true → exec (.epochGo l) s = .next s) ∧
      (s.bit pi F.INS_DIRTY_CTL_CLEARING = false → MemsWf s → Answers (exec (.epochGo l) s) fun t => t.bit pi F.INS_DIRTY_CTL_CLEARING = true ∧
        t.fld pi F.INS_DIRTY_EPOCH_EPOCH = (s.fld pi F.INS_DIRTY_EPOCH_EPOCH + 1) % 2 ^ 32 ∧ RegsOutside [regAt pi .INS_DIRTY_CTL, regAt pi .INS_DIRTY_EPOCH] s t ∧
        { t.body with mem0 := s.mem0, mem1 := s.mem1 } = s.body ∧ ∀ k b, t.mem k b 1 = if k = l ∧ a ≤ b ∧ b < a + 0x80000 then [0] else s.mem k b 1) ∧
      Answers (exec (.epochClearDone l) s) fun t => t.bit pi F.INS_DIRTY_CTL_CLEARING = false ∧ RegsOutside [regAt pi .INS_DIRTY_CTL] s t ∧ t.body = s.body)

/-- A frame's record reaches both lanes and is applied to the object it matches, silent objects time out, and rate detection
ends as bound (R27, R367, R368, R369, R373, R375, R376, R379). Off the bus no reception row acts. A good frame gives each UP
lane a record with its start stamp and the object that takes it: the first valid receive object of the controller with its
format whose ID agrees under MASK, or unmatched, wrong length, or remote; REC falls by one, or from above 127 to a value
between 119 and 127 that the standard leaves open. An FD frame with FD_EN = 0, and a failed frame, count ERR_FRAMES and add
1 to REC (8 more with a dominant bit). RECEIVE_RECORD_APPLY takes the oldest record: not the pair's active one's counts
STANDBY_RX, a frame no object takes its own counter; else COUNT rises, the object is LIVE with the stamp, RX_OK counts, NEW
is set with the buffer, or LOST when it was set, the buffer replaced only with OVERWRITE; one stamped by the deadline of a
timeout already decided counts a settle overrun; a data point is posted with the frame's stamp as E and CODE GOOD.
RX_TIMEOUT at D + 2.0 µs: with a frame begun at or before D it waits; else TIMEOUT and RX_TIMEOUT count. During rate
detection a good frame lengthens the candidate's run, GOOD of them end it with FOUND, an error restarts it; a dwell's end
takes the next candidate, and after ROUNDS passes ends it with 0xF; either end sets DONE and OPMODE 2. exec is concluded to
answer a next state, with this effect, for: canFrameReceived, receiveRecordApply, rxTimeout, rateDetectDwellExpire,
canReceiveError. -/
def Obligations.FieldBusReception : Prop :=
  (∀ (c : Fin 4) (s : State), s.laneUp (fbLane c) = true →
    let l := fbLane c
    let pg := fbPg c
    let x := (s.lane l).fbs
    let on := s.fbOn c = true
    let cnt := fun (t : State) (k : Nat) => t.fld pg F.FBS_CNT_COUNT k = min (s.fld pg F.FBS_CNT_COUNT k + 1) (2 ^ 32 - 1)
    let detects := s.fbDetects c = true
    let run := assocGetD x.rd c.val (0, 0, 0)
    let stamp := match (x.starts.filter fun e => decide (e.1 = c.val)).getLast? with
      | some e => e.2
      | none => s.laneNow l
    let inLane := fun (t : State) => RegsOutside [laneAt_ l, evrAt] s t ∧ { t.quiet.body with l0 := s.quiet.l0, l1 := s.quiet.l1, freeCtr := s.freeCtr } = s.quiet.body
    let ends := fun (t : State) (found : Nat) => t.fld pg F.FBS_RD_STATUS_FOUND = found ∧ t.bit pg F.FBS_RD_STATUS_DONE = true ∧
      t.fld pg F.FBS_CTRL_OPMODE = 2 ∧ t.bit pg F.FBS_STATUS_RD_BUSY = false ∧ inLane t
    (¬on → (∀ f, exec (.canFrameReceived c f) s = .next s) ∧ (∀ b, exec (.canReceiveError c b) s = .next s) ∧ exec (.rateDetectDwellExpire c) s = .next s) ∧
    (¬detects → exec (.rateDetectDwellExpire c) s = .next s) ∧
    (∀ f : CanFrame,
      let obj := if f.rtr then 1026 else s.fbMatch c f
      let takes := fun (i : Nat) => s.ent (fboDesc l (256 * c + i)) E.T16_2_VALID = 1 ∧ s.ent (fboDesc l (256 * c + i)) E.T16_2_DIR = 0 ∧
        (s.ent (fboDesc l (256 * c + i)) E.T16_2_IDE = 1 ↔ f.ide = true) ∧ (s.ent (fboDesc l (256 * c + i)) E.T16_2_FD = 1 ↔ f.fd = true) ∧
        (s.ent (fboDesc l (256 * c + i)) E.T16_2_ID).land (s.ent (fboDesc l (256 * c + i)) E.T16_2_MASK) = f.id.land (s.ent (fboDesc l (256 * c + i)) E.T16_2_MASK)
      ((∀ i < 256, ¬takes i) → s.fbMatch c f = 1024) ∧
      (∀ i < 256, takes i → (∀ j < i, ¬takes j) → s.fbMatch c f = if s.ent (fboDesc l (256 * c + i)) E.T16_2_DLEN = f.data.length then 256 * c + i else 1025) ∧
      (on → f.fd = true → s.bit pg F.FBS_CTRL_FD_EN = false → ¬detects → s.fbTec c < 128 → s.fbRec c + 1 < 128 → Answers (exec (.canFrameReceived c f) s) fun t =>
        cnt t 9 ∧ t.fbRec c = s.fbRec c + 1 ∧ (∀ k, (t.lane k).fbs.rx = (s.lane k).fbs.rx) ∧ inLane t) ∧
      (on → (f.fd = false ∨ s.bit pg F.FBS_CTRL_FD_EN = true) → ¬detects → Answers (exec (.canFrameReceived c f) s) fun t =>
        (∀ k, s.laneUp k = true → (t.lane k).fbs.rx = (s.lane k).fbs.rx ++ [⟨c, stamp, obj, f⟩] ∧ (∀ e ∈ (t.lane k).fbs.starts, e.1 ≠ c.val)) ∧ inLane t ∧
        (s.fbRec c ≤ 127 → t.fbRec c = s.fbRec c - 1) ∧ (127 < s.fbRec c → 119 ≤ t.fbRec c ∧ t.fbRec c ≤ 127) ∧ t.fbTec c = s.fbTec c) ∧
      (on → (f.fd = false ∨ s.bit pg F.FBS_CTRL_FD_EN = true) → detects → Answers (exec (.canFrameReceived c f) s) fun t =>
        (s.fbRec c ≤ 127 → t.fbRec c = s.fbRec c - 1) ∧ (127 < s.fbRec c → 119 ≤ t.fbRec c ∧ t.fbRec c ≤ 127) ∧
        (∀ k, (t.lane k).fbs.rx = (s.lane k).fbs.rx) ∧ (s.fld pg F.FBS_RD_CFG_GOOD ≤ run.2.2 + 1 → ends t (run.1 % 16)) ∧
        (run.2.2 + 1 < s.fld pg F.FBS_RD_CFG_GOOD → t.fbDetects c = true ∧ assocGet (t.lane l).fbs.rd c.val = some (run.1, run.2.1, run.2.2 + 1)))) ∧
    (∀ b, on → let n := if b then 9 else 1
      s.fbTec c < 256 → Answers (exec (.canReceiveError c b) s) fun t => cnt t 9 ∧ t.fbRec c = min (s.fbRec c + n) 255 ∧ t.fbTec c = s.fbTec c ∧
        t.fld pg F.FBS_STATUS_ERR_STATE = (if 128 ≤ s.fbTec c ∨ 128 ≤ s.fbRec c + n then 1 else 0) ∧ inLane t ∧
        (detects → 0 < s.fld pg F.FBS_RD_CFG_GOOD → assocGet (t.lane l).fbs.rd c.val = some (run.1, run.2.1, 0))) ∧
    (on → detects → assocGetD x.rdAt c.val 0 + s.fld pg F.FBS_RD_CFG_DWELL * ms ≤ s.laneNow l →
      let last := s.fld pg F.FBS_RD_CFG_N_CAND ≤ run.1 + 1
      let pass := if last then run.2.1 + 1 else run.2.1
      (s.fld pg F.FBS_RD_CFG_ROUNDS ≤ pass → Answers (exec (.rateDetectDwellExpire c) s) fun t => ends t 0xF) ∧
      (pass < s.fld pg F.FBS_RD_CFG_ROUNDS → Answers (exec (.rateDetectDwellExpire c) s) fun t => t.regs = s.regs ∧
        assocGet (t.lane l).fbs.rd c.val = some (if last then 0 else run.1 + 1, pass, 0) ∧ assocGet (t.lane l).fbs.rdAt c.val = some (s.laneNow l)))) ∧
  ∀ (l : Lane) (s : State), s.laneUp l = true →
    let x := (s.lane l).fbs
    let cnt := fun (t : State) (c k : Nat) => t.fld (.fbsCtl l (c % 2)) F.FBS_CNT_COUNT k = min (s.fld (.fbsCtl l (c % 2)) F.FBS_CNT_COUNT k + 1) (2 ^ 32 - 1)
    let inLane := fun (t : State) => RegsOutside [laneAt_ l, evrAt] s t ∧ { t.quiet.besideLane l with mem0 := s.mem0, mem1 := s.mem1 } = s.quiet.besideLane l
    (x.rx = [] → exec (.receiveRecordApply l) s = .next s) ∧
    (∀ (r : RxRec) (rest : List RxRec), x.rx = r :: rest →
      let applies := s.bit (.fbsCtl l (r.ctl % 2)) F.FBS_CTRL_PAIR_EN = false ∨ ∃ a sw, s.fbActive l (r.ctl % 2) = some (a, sw) ∧
        ((a = r.ctl ∧ (sw < r.stamp ∨ sw = 0)) ∨ (a ≠ r.ctl ∧ r.stamp ≤ sw))
      let d := r.obj
      let q := fboRec l d
      let a := fboDesc l d
      let wasNew := s.ent q E.T16_4_NEW = 1
      (¬applies → Answers (exec (.receiveRecordApply l) s) fun t => cnt t r.ctl 12 ∧ t.body = (s.setFbs l { x with rx := rest }).body) ∧
      (applies → 1024 ≤ d → d ≤ 1026 → Answers (exec (.receiveRecordApply l) s) fun t => cnt t r.ctl (d - 1023) ∧ t.body = (s.setFbs l { x with rx := rest }).body) ∧
      (applies → d < 1024 → r.frame.data.length ≤ 64 → Answers (exec (.receiveRecordApply l) s) fun t =>
        t.ent q E.T16_4_COUNT = (s.ent q E.T16_4_COUNT + 1) % 2 ^ 32 ∧ t.ent q E.T16_4_STATE = 1 ∧ t.ent q E.T16_4_STAMP = toT96 r.stamp % 2 ^ 96 ∧
        t.ent q E.T16_4_NEW = 1 ∧ t.ent q E.T16_4_LOST = (if wasNew then 1 else s.ent q E.T16_4_LOST) ∧ cnt t (d / 256) 0 ∧
        t.winWords (fboBuf l d) 16 = (if wasNew ∧ s.ent a E.T16_2_OVERWRITE = 0 then s.winWords (fboBuf l d) 16 else leNat r.frame.data) ∧
        t.bit (.fbsObj l d) F.FBS_OBJ_FLAGS_REPORT = true ∧ (t.lane l).fbs.rx = rest ∧ inLane t ∧
        (let late := s.ent q E.T16_4_STATE = 2 ∧ r.stamp ≤ (ofT96 (s.ent q E.T16_4_STAMP)).getD 0 + s.ent a E.T16_2_PERIOD * us
          let ovr := F.CFG_SETTLE_OVR_COUNT
          (late → t.fld (.lcfg l) ovr = min (s.fld (.lcfg l) ovr + 1) (2 ^ 32 - 1)) ∧ (¬late → t.fld (.lcfg l) ovr = s.fld (.lcfg l) ovr)) ∧
        (s.ent a E.T16_2_MAP_EN = 0 → (t.lane l).map = (s.lane l).map) ∧
        (s.ent a E.T16_2_MAP_EN = 1 → s.ent a E.T16_2_HDR_EN = 0 → 0 < r.frame.data.length → r.frame.data.length ≤ 16 → x.out = [] → s.mapRoom l 1 = true →
          s.mayWrite l 4 (s.ownerFbo l d) (s.ent a E.T16_2_POINT) = true → s.horizon l < r.stamp → (t.lane l).map.pend = (s.lane l).map.pend ++
            [⟨some r.stamp, none, s.ent a E.T16_2_POINT, mkRec (leNat r.frame.data) (toT96 r.stamp) 0 false false 4 false 0, s.ownerFbo l d⟩]))) ∧
    (∀ d : Fin 1024,
      let a := fboDesc l d
      let q := fboRec l d
      let live := s.ent a E.T16_2_VALID = 1 ∧ s.ent a E.T16_2_DIR = 0 ∧ s.ent a E.T16_2_PERIOD ≠ 0 ∧ s.ent q E.T16_4_STATE = 1
      let dl := (ofT96 (s.ent q E.T16_4_STAMP)).getD 0 + s.ent a E.T16_2_PERIOD * us
      let waits := (∃ e ∈ x.starts, e.1 = d.val / 256 ∧ e.2 ≤ dl) ∨ ∃ r ∈ x.rx, r.obj = d ∧ r.stamp ≤ dl
      (¬live → exec (.rxTimeout l d) s = .next s) ∧ (live → dl + settle ≤ s.laneNow l → waits → exec (.rxTimeout l d) s = .next s) ∧
      (live → dl + settle ≤ s.laneNow l → ¬waits → Answers (exec (.rxTimeout l d) s) fun t => t.ent q E.T16_4_STATE = 2 ∧ cnt t (d / 256) 11 ∧
        t.bit (.fbsObj l d) F.FBS_OBJ_FLAGS_REPORT = true ∧ inLane t ∧ (s.ent a E.T16_2_MAP_EN = 0 → (t.lane l) = s.lane l)))

/-- Transmit objects queue, are sent in rank order, retry, fail, clash and resume, and controllers leave and join the bus and
their pairs (R343, R347, R370, R371, R372, R373, R376, R377). Queuing an IDLE object makes it PENDING with the data, a
PENDING one takes them and counts TX_OVERWRITE, a SUSPENDED one only takes them, one on the bus sends them next, newer ones
counting TX_OVERWRITE; while the owner does not run nothing is queued. SEND queues a request-mode object, TX_QUEUE_CYCLIC a
cyclic one at its lattice instant, others not at all; with MAP_EN = 0 the data are the buffer's. At a start of frame each UP
lane gets a notice, and a controller that may transmit sends the pending transmit object of lowest rank, then number, FD
ones only with FD_EN. An attempt that ends sent gives SENT, COUNT + 1, CLASH_RUN 0, TX_OK and TEC − 1; lost counts ARB_LOST
and no retry; an error uses a retry with TEC + 8 and ERR_FRAMES, and with RETRY used gives FAILED and TX_FAILED; a third
clash in a row gives SUSPENDED with CLASH. TEC above 255 is bus-off, counted. An attempt of an object that RESET met on the
bus leaves the object alone, one that ABORT met is not repeated. RESUME queues a suspended object again, with the buffer
where MAP_EN = 0; ABORT_TX drops a pending frame, or one behind the frame on the bus, as ABORTED. EN = 0 clears TEC and REC
and the status; EN = 1 of an unpaired controller, and recovery with AUTO_RECOV, integrate it as active. In a pair the role
passes to the standby when the active one leaves, with the stamp of then and SWITCHES, and moves to the preferred one at the
first bus idle after PREF_ACTIVE changed. exec is concluded to answer a next state, with this effect, for: canStartOfFrame,
txQueueCyclic, canSend, canObjectResume, canAbortTx, txAttemptEnd, busOffRecovered, fieldBusEnable, pairPrefMove. -/
def Obligations.FieldBusTransmission : Prop :=
  ∀ (c : Fin 4) (s : State), s.laneUp (fbLane c) = true →
    let l := fbLane c
    let pg := fbPg c
    let x := (s.lane l).fbs
    let on := s.fbOn c = true
    let cnt := fun (t : State) (k : Nat) => t.fld pg F.FBS_CNT_COUNT k = min (s.fld pg F.FBS_CNT_COUNT k + 1) (2 ^ 32 - 1)
    let st := fun (u : State) (d : Nat) => u.ent (fboRec l d) E.T16_4_STATE
    let inLanes := fun (t : State) => RegsOutside [laneAt_ .l0, laneAt_ .l1, evrAt] s t ∧ { t.quiet.body with l0 := s.quiet.l0, l1 := s.quiet.l1 } = s.quiet.body ∧
      ∀ k, t.lane k = { s.lane k with fbs := (t.lane k).fbs, evq := (t.lane k).evq }
    let joined := fun (t : State) => t.bit pg F.FBS_STATUS_ACTIVE = true ∧ t.bit pg F.FBS_STATUS_SYNC = true ∧ t.fld pg F.FBS_STATUS_ERR_STATE = 0
    let sendable := fun (e : Nat) => 256 * c.val ≤ e ∧ e < 256 * c + 256 ∧ s.ent (fboDesc l e) E.T16_2_VALID = 1 ∧ s.ent (fboDesc l e) E.T16_2_DIR = 1 ∧ st s e = 1 ∧
      (s.ent (fboDesc l e) E.T16_2_FD = 0 ∨ s.bit pg F.FBS_CTRL_FD_EN = true)
    (∀ d, s.fbFirst c = some d → sendable d ∧ ∀ e, sendable e → s.fboRank l d < s.fboRank l e ∨ (s.fboRank l d = s.fboRank l e ∧ d ≤ e)) ∧
    (s.fbFirst c = none → ∀ e, ¬sendable e) ∧
    (¬on → exec (.canStartOfFrame c) s = .next s ∧ ∀ r, exec (.txAttemptEnd c r) s = .next s) ∧
    (on → let noted := fun (t : State) => ∀ k, s.laneUp k = true → (t.lane k).fbs.starts = ((s.lane k).fbs.starts.filter fun e => decide (e.1 ≠ c.val)) ++ [(c.val, s.laneNow l)]
      ((s.fbMayTx c = false ∨ s.fbFirst c = none) → Answers (exec (.canStartOfFrame c) s) fun t => noted t ∧ (t.lane l).fbs.cur = x.cur ∧ t.regs = s.regs ∧ inLanes t) ∧
      (∀ d, s.fbMayTx c = true → s.fbFirst c = some d → Answers (exec (.canStartOfFrame c) s) fun t => noted t ∧ (t.lane l).fbs.cur = x.cur ++ [(c.val, d, s.laneNow l)] ∧ st t d = 2 ∧
        (∀ e, e ≠ d → e < 1024 → st t e = st s e) ∧ inLanes t)) ∧
    ((∀ e ∈ x.cur, e.1 ≠ c.val) → ∀ r, exec (.txAttemptEnd c r) s = .next s) ∧
    (∀ d t0, on → x.cur.find? (fun e => decide (e.1 = c.val)) = some (c.val, d, t0) → d < 1024 → s.fbTec c < 248 → s.fbRec c < 128 →
      let q := fboRec l d
      let ended := fun (r : CanTxEnd) (P : State → Prop) => Answers (exec (.txAttemptEnd c r) s) fun t => (∀ e ∈ (t.lane l).fbs.cur, e.1 ≠ c.val) ∧ inLanes t ∧ P t;
      (assocGet x.loose d = some true → ∀ r, ended r fun t => st t d = st s d ∧ t.ent q E.T16_4_RESULT = s.ent q E.T16_4_RESULT ∧ t.ent q E.T16_4_COUNT = s.ent q E.T16_4_COUNT) ∧
      (assocGet x.loose d = some false → ended .lost fun t => st t d = 0 ∧ t.ent q E.T16_4_RESULT = 4)) ∧
    (∀ d t0, on → x.cur.find? (fun e => decide (e.1 = c.val)) = some (c.val, d, t0) → 256 * c.val ≤ d → d < 256 * c + 256 → assocGet x.next d = none → assocGet x.loose d = none → s.fbTec c < 248 → s.fbRec c < 128 →
      let q := fboRec l d
      let lim := s.ent (fboDesc l d) E.T16_2_RETRY
      let used := s.ent q E.T16_4_RETRY_USED
      let clashes := s.ent q E.T16_4_CLASH_RUN
      let passive := s.fld pg F.FBS_STATUS_ERR_STATE = 1
      let ended := fun (r : CanTxEnd) (P : State → Prop) => Answers (exec (.txAttemptEnd c r) s) fun t => (∀ e ∈ (t.lane l).fbs.cur, e.1 ≠ c.val) ∧ inLanes t ∧ P t
      let retried := fun (t : State) => t.fld pg F.FBS_CNT_COUNT 9 = min (s.fld pg F.FBS_CNT_COUNT 9 + 1) (2 ^ 32 - 1) ∧
        (lim ≠ 15 → lim ≤ used → st t d = 0 ∧ t.ent q E.T16_4_RESULT = 2 ∧ cnt t 5) ∧ (lim = 15 ∨ used < lim → st t d = 1 ∧ t.ent q E.T16_4_RETRY_USED = min (used + 1) 15 ∧ t.ent q E.T16_4_RESULT = s.ent q E.T16_4_RESULT);
      (ended .sent fun t => st t d = 0 ∧ t.ent q E.T16_4_RESULT = 1 ∧ t.ent q E.T16_4_COUNT = (s.ent q E.T16_4_COUNT + 1) % 2 ^ 32 ∧ t.ent q E.T16_4_CLASH_RUN = 0 ∧ cnt t 4 ∧ t.fbTec c = s.fbTec c - 1) ∧
      (ended .lost fun t => st t d = 1 ∧ t.ent q E.T16_4_RETRY_USED = used ∧ t.ent q E.T16_4_CLASH_RUN = clashes ∧ cnt t 8 ∧ t.fbTec c = s.fbTec c) ∧
      (ended .error fun t => retried t ∧ t.ent q E.T16_4_CLASH_RUN = 0 ∧ t.fbTec c = s.fbTec c + 8) ∧
      (ended .noAck fun t => retried t ∧ t.ent q E.T16_4_CLASH_RUN = 0 ∧ t.fbTec c = s.fbTec c + (if passive then 0 else 8)) ∧
      (clashes < 2 → ended .clash fun t => retried t ∧ t.ent q E.T16_4_CLASH_RUN = clashes + 1 ∧ t.fbTec c = s.fbTec c + 8) ∧
      (clashes = 2 → ended .clash fun t => st t d = 3 ∧ t.ent q E.T16_4_RESULT = 3 ∧ cnt t 6 ∧ t.fbTec c = s.fbTec c + 8)) ∧
    (∀ d t0, on → x.cur.find? (fun e => decide (e.1 = c.val)) = some (c.val, d, t0) → d < 1024 → 248 ≤ s.fbTec c → Answers (exec (.txAttemptEnd c .error) s) fun t =>
      t.fld pg F.FBS_STATUS_ERR_STATE = 2 ∧ cnt t 7 ∧ t.bit pg F.FBS_STATUS_SYNC = false) ∧
    (∀ d : Fin 1024, fbLane (d.val / 256) = l →
      let a := fboDesc l d
      let q := fboRec l d
      let tx := s.ent a E.T16_2_VALID = 1 ∧ s.ent a E.T16_2_DIR = 1
      let mode := s.ent a E.T16_2_TX_MODE
      let own := s.ownerRuns l (s.ownerFbo l d) = true
      let data := natLe (s.ent a E.T16_2_DLEN) (s.winWords (fboBuf l d) 16)
      let queued := fun (t : State) => (¬own → st t d = st s d ∧ (t.lane l).fbs.data = x.data ∧ (t.lane l).fbs.next = x.next) ∧
        (own → (st s d = 0 → st t d = 1 ∧ t.ent q E.T16_4_RETRY_USED = 0 ∧ assocGet (t.lane l).fbs.data d.val = some data) ∧
          (st s d = 1 → st t d = 1 ∧ assocGet (t.lane l).fbs.data d.val = some data ∧ t.fld (fbPg (d.val / 256)) F.FBS_CNT_COUNT 10 = min (s.fld (fbPg (d.val / 256)) F.FBS_CNT_COUNT 10 + 1) (2 ^ 32 - 1)) ∧
          (st s d = 2 → st t d = 2 ∧ assocGet (t.lane l).fbs.next d.val = some data ∧ (t.lane l).fbs.data = x.data ∧
            t.fld (fbPg (d.val / 256)) F.FBS_CNT_COUNT 10 = min (s.fld (fbPg (d.val / 256)) F.FBS_CNT_COUNT 10 + (if assocGet x.next d.val = none then 0 else 1)) (2 ^ 32 - 1)) ∧
          (st s d = 3 → st t d = 3 ∧ assocGet (t.lane l).fbs.data d.val = some data)) ∧ inLanes t
      (¬tx ∨ mode ≠ 0 → exec (.canSend l d) s = .next s) ∧ (tx → mode = 0 → s.ent a E.T16_2_MAP_EN = 0 → Answers (exec (.canSend l d) s) queued) ∧
      (¬tx ∨ mode ≠ 1 → exec (.txQueueCyclic d) s = .next s) ∧
      (tx → mode = 1 → s.ent a E.T16_2_MAP_EN = 0 → 0 < s.ent a E.T16_2_PERIOD → assocGet x.cyc d.val = none → latticeAt (s.ent a E.T16_2_PERIOD) (s.ent a E.T16_2_OFFSET) (s.laneNow l) = s.laneNow l →
        Answers (exec (.txQueueCyclic d) s) fun t => queued t ∧ assocGet (t.lane l).fbs.cyc d.val = some (s.laneNow l)) ∧
      (¬tx ∨ st s d ≠ 3 ∨ ¬own → exec (.canObjectResume l d) s = .next s) ∧
      (tx → st s d = 3 → own → Answers (exec (.canObjectResume l d) s) fun t => st t d = 1 ∧ t.ent q E.T16_4_CLASH_RUN = 0 ∧ t.ent q E.T16_4_RETRY_USED = 0 ∧
        (s.ent a E.T16_2_MAP_EN = 0 → t.body = (s.setFbs l { x with data := assocPut x.data d.val data }).body) ∧ (s.ent a E.T16_2_MAP_EN ≠ 0 → t.body = s.body)) ∧
      (¬tx ∨ (st s d ≠ 1 ∧ (st s d ≠ 2 ∨ assocGet x.next d.val = none)) → exec (.canAbortTx l d) s = .next s) ∧
      (∀ b, tx → st s d = 2 → assocGet x.next d.val = some b → Answers (exec (.canAbortTx l d) s) fun t => st t d = 2 ∧ t.ent q E.T16_4_RESULT = 4 ∧
        t.bit (.fbsObj l d) F.FBS_OBJ_FLAGS_REPORT = true ∧ t.body = (s.setFbs l { x with next := assocDel x.next d.val }).body) ∧
      (tx → st s d = 1 → Answers (exec (.canAbortTx l d) s) fun t => st t d = 0 ∧ t.ent q E.T16_4_RESULT = 4 ∧ t.bit (.fbsObj l d) F.FBS_OBJ_FLAGS_REPORT = true ∧ t.body = s.body)) ∧
    (let off := s.fld pg F.FBS_STATUS_ERR_STATE = 2 ∧ s.bit pg F.FBS_CTRL_EN = true ∧ s.bit pg F.FBS_CTRL_AUTO_RECOV = true
      let enable := fun (b : Bool) => exec (.fieldBusEnable c b) s
      let cleared := fun (t : State) => t.fbTec c = 0 ∧ t.fbRec c = 0 ∧ inLanes t
      (¬off → exec (.busOffRecovered c) s = .next s) ∧ (off → s.fbPaired c = false → Answers (exec (.busOffRecovered c) s) fun t => joined t ∧ cleared t) ∧
      (s.bit pg F.FBS_CTRL_EN = false → s.fbPaired c = false → s.fld pg F.FBS_STATUS_ERR_STATE = 0 → s.fld pg F.FBS_CTRL_OPMODE ≠ 3 → Answers (enable true) fun t => t.bit pg F.FBS_CTRL_EN = true ∧ joined t ∧ inLanes t) ∧
      (s.bit pg F.FBS_CTRL_EN = true → (∀ e ∈ x.cur, e.2.1 < 1024) → Answers (enable false) fun t => t.bit pg F.FBS_CTRL_EN = false ∧ t.bit pg F.FBS_STATUS_ACTIVE = false ∧ t.bit pg F.FBS_STATUS_SYNC = false ∧
        t.fld pg F.FBS_STATUS_ERR_STATE = 0 ∧ cleared t ∧ (∀ e ∈ (t.lane l).fbs.cur, e.1 ≠ c.val) ∧
        (∀ sw, let m := fbMate c
          s.fbPaired m = true → s.fbOn m = true → s.fbActive (fbLane m) (fbPair c) = some (c.val, sw) →
            t.fbActive (fbLane m) (fbPair c) = some (m, s.laneNow l) ∧ t.bit (fbPg m) F.FBS_STATUS_ACTIVE = true ∧
            t.fld (fbPg m) F.FBS_CNT_COUNT 13 = min (s.fld (fbPg m) F.FBS_CNT_COUNT 13 + 1) (2 ^ 32 - 1)))) ∧
    (∀ p : Fin 2,
      let want := fun (k : Nat) => s.fbOn k = true ∧ s.fbPaired k = true ∧ s.bit (fbPg k) F.FBS_CTRL_PREF_ACTIVE = true ∧ s.bit (fbPg k) F.FBS_STATUS_ACTIVE = false ∧ s.bit (fbPg (fbMate k)) F.FBS_CTRL_PREF_ACTIVE = false
      let asked := ∃ k, s.laneUp k = true ∧ p.val ∈ (s.lane k).fbs.pref
      (¬asked → exec (.pairPrefMove p) s = .next s) ∧
      (asked → ¬want p → ¬want (p + 2) → Answers (exec (.pairPrefMove p) s) fun t => t.regs = s.regs ∧ inLanes t ∧ ∀ k, s.laneUp k = true → p.val ∉ (t.lane k).fbs.pref) ∧
      (∀ k, asked → k = p.val ∨ k = p.val + 2 → want k → Answers (exec (.pairPrefMove p) s) fun t => t.fbActive (fbLane k) p = some (k, s.laneNow (fbLane k)) ∧ t.bit (fbPg k) F.FBS_STATUS_ACTIVE = true ∧
        (s.laneUp (fbLane (fbMate k)) = true → t.bit (fbPg (fbMate k)) F.FBS_STATUS_ACTIVE = false) ∧ inLanes t))

/-- A record is written whole at HEAD and costs a token, or is suppressed and counted; queued records are written once the
recorder can take them (R6, R30, R385, R386, R390). With Common and Inkwell UP and no clear running: a record that is never
suppressed, or whose limit entry has a token and no suppressed count, and that fits before the ring's end, stands at HEAD
with MARK and the parity of EVR_WRAPS, SRC and length, CODE, TIME and payload; HEAD advances by its units, EVR_WRAPS counts
when HEAD returns to 0, and every other ring byte stays. With room TAIL and EVR_OVERWRITTEN stay; where dropping the oldest
record makes room, TAIL passes it, it is counted and OVERWRITE is set. One that does not fit before the end, with room,
follows a pad record at address 0 with the other parity. The entry loses one token; with a suppressed count a SUPPRESSED
record with CODE and count stands before the record, and the count is 0. A record without a token writes nothing: its
entry's suppressed count and EVR_SUPPRESSED rise, saturating, and SUPPR is set. A record whose TIME is malformed, and any
record while the recorder cannot take them, writes nothing. Draining a domain's queue empties it and admits its records in
order, then one with the number lost. Nothing else of the State changes. exec is concluded to answer a next state, with this
effect, for: eventRecordWrite, eventQueueDrain. -/
def Obligations.EventRecording : Prop :=
  ∀ (src code time : Nat) (payload : List Nat) (d : Dom) (s : State),
    (s.evrReady = false → exec (.eventRecordWrite src code time payload) s = .next s ∧ exec (.eventQueueDrain d) s = .next s) ∧
    (10 ^ 9 ≤ time / 2 ^ 16 % 2 ^ 32 → exec (.eventRecordWrite src code time payload) s = .next s) ∧
    (s.evrReady = true → memWf 0 s.ink.ring = true → src < 8 → code < 65536 → time < 2 ^ 96 → time / 2 ^ 16 % 2 ^ 32 < 10 ^ 9 → payload.length ≤ 124 →
    let units := 1 + (4 * payload.length + 15) / 16
    let h := s.fld .evr F.EVR_HEAD_INDEX
    let tail := s.fld .evr F.EVR_TAIL_INDEX
    let wraps := s.fld .evr F.EVR_WRAPS_COUNT
    let room := fun (tail n : Nat) => (h + evrUnits - tail) % evrUnits + n < evrUnits
    let lim := rlFind s.ink code
    let now := rlRefill lim.2 s.vtMs
    let stands := fun (t : State) (at_ par cd : Nat) (pl : List Nat) (n : Nat) =>
      (memGet 0 t.ink.ring (16 * at_)).toNat = 0b10100110 + par % 2 ∧
      memRead 0 t.ink.ring (16 * at_ + 1) 15 = [BitVec.ofNat 8 (src * 32 + (n - 1))] ++ natLe 2 cd ++ natLe 12 time ∧
      memRead 0 t.ink.ring (16 * at_ + 16) (4 * pl.length) = pl.flatMap (natLe 4)
    let took := fun (t : State) => RegsOutside [evrAt] s t ∧ t.quiet = s.quiet ∧
      (evrExempt code = false → t.ink = { rlPut s.ink lim.1 { now with tokens := now.tokens - 1, suppressed := 0 } with ring := t.ink.ring })
    (evrExempt code = true ∨ (0 < now.tokens ∧ now.suppressed = 0) →
      (h + units ≤ evrUnits → Answers (exec (.eventRecordWrite src code time payload) s) fun t =>
        stands t h wraps code payload units ∧
        (∀ a, a < 16 * h ∨ 16 * (h + units) ≤ a → memGet 0 t.ink.ring a = memGet 0 s.ink.ring a) ∧
        t.fld .evr F.EVR_HEAD_INDEX = (h + units) % evrUnits ∧
        t.fld .evr F.EVR_WRAPS_COUNT = (wraps + if h + units = evrUnits then 1 else 0) % 2 ^ 32 ∧
        (room tail units → t.fld .evr F.EVR_TAIL_INDEX = tail ∧ t.fld .evr F.EVR_OVERWRITTEN_COUNT = s.fld .evr F.EVR_OVERWRITTEN_COUNT) ∧
        (let next := (tail + (memGet 0 s.ink.ring (16 * tail + 1)).toNat % 32 + 1) % evrUnits;
          ¬room tail units → room next units → t.fld .evr F.EVR_TAIL_INDEX = next ∧ t.bit .evr F.EVR_STATUS_OVERWRITE = true ∧
            t.fld .evr F.EVR_OVERWRITTEN_COUNT = min (s.fld .evr F.EVR_OVERWRITTEN_COUNT + 1) (2 ^ 32 - 1)) ∧ took t) ∧
      (evrUnits < h + units → room tail (evrUnits - h) → (evrUnits - tail) % evrUnits + units < evrUnits →
        Answers (exec (.eventRecordWrite src code time payload) s) fun t =>
          stands t h wraps 0xFFFF [] (evrUnits - h) ∧ stands t 0 (wraps + 1) code payload units ∧
          t.fld .evr F.EVR_HEAD_INDEX = units ∧ t.fld .evr F.EVR_TAIL_INDEX = tail ∧ t.fld .evr F.EVR_WRAPS_COUNT = (wraps + 1) % 2 ^ 32 ∧ took t)) ∧
    (evrExempt code = false → 0 < now.tokens → 0 < now.suppressed → h + 2 + units ≤ evrUnits → room tail (2 + units) →
      Answers (exec (.eventRecordWrite src code time payload) s) fun t =>
        stands t h wraps (evCode bkEVR 2 1) [code, now.suppressed, 0, 0] 2 ∧ stands t (h + 2) wraps code payload units ∧
        t.fld .evr F.EVR_HEAD_INDEX = (h + 2 + units) % evrUnits ∧ t.fld .evr F.EVR_TAIL_INDEX = tail ∧ took t) ∧
    (evrExempt code = false → now.tokens = 0 →
      Answers (exec (.eventRecordWrite src code time payload) s) fun t =>
        t.ink.ring = s.ink.ring ∧ t.ink = { rlPut s.ink lim.1 { now with suppressed := min (now.suppressed + 1) (2 ^ 32 - 1) } with ring := s.ink.ring } ∧
        t.fld .evr F.EVR_SUPPRESSED_COUNT = min (s.fld .evr F.EVR_SUPPRESSED_COUNT + 1) (2 ^ 32 - 1) ∧
        t.fld .evr F.EVR_STATUS_SUPPR = 1 ∧ RegsOutside [regAt .evr .EVR_SUPPRESSED, regAt .evr .EVR_STATUS] s t ∧
        t.quiet = s.quiet) ∧
    (Answers (exec (.eventQueueDrain d) s) fun t =>
      let q := s.evq d
      let u := q.recs.foldl (fun x r => evrAdmit r x) (s.setEvq d ⟨[], 0⟩)
      t.evq d = ⟨[], 0⟩ ∧ RegsOutside [evrAt] s t ∧ t.quiet = s.quiet ∧ (q.lost = 0 → t = u) ∧
      (q.lost ≠ 0 → t = evrAdmit ⟨domSrc d, evCode bkCFG 2 1, s.evTime d, [domSrc d, q.lost % 2 ^ 32, 0, 0]⟩ u)))

/-- Standby saves the counters and VINK loss keeps MRAM; vault time is saved every 60 s and held while the oscillator stands
still (R380, R381, R384, R386, R382, R383). Entering standby, once, saves vault time, INK_OPH and INK_PCYC and changes
nothing else. Leaving it sets STANDBY_SEEN and leaves no tamper assertion unrecorded, changing beside only the event
recorder. Losing VINK puts Inkwell OFF with everything else it holds intact. Its return restores INK_OPH and INK_PCYC,
resumes vault time from its saved value, sets VTIME_GAP, counts INK_VINK_LOSS, saturating, and puts Inkwell UP, with the key
slots, the roots and the monotonic counters as they were. With Inkwell powered, active and its oscillator running:
VAULT_TIME_SAVE comes at least 60 s of vault time after the last save and saves it; OPH_TICK comes at the next whole second
and adds 1 to INK_OPH, saturating. A stopped oscillator sets OSC_FAIL after more than 4 ms and leaves vault time as it was;
its restart changes nothing but that vault time counts again. Lane memories, domains and every other register but
CFG_TIME_FOLLOW and the event recorder's are as before. exec is concluded to answer a next state, with this effect, for:
standbyEntry, standbyExit, vinkLoss, vinkRestored, vaultTimeSave, oscFail, ophTick, oscillatorRestart. -/
def Obligations.InkwellSupplyAndClock : Prop :=
  (∀ s : State,
    (s.up .inkwell = false ∨ s.up .common = true ∨ s.ink.standby = true → exec .standbyEntry s = .next s) ∧
    (s.up .inkwell = false ∨ s.up .common = false ∨ s.ink.standby = false → exec .standbyExit s = .next s) ∧
    (s.up .inkwell = true → s.up .common = false → s.ink.standby = false →
      Answers (exec .standbyEntry s) fun t =>
        t = { s with ink := { s.ink with
          standby := true
          savedVt := s.ink.vt
          savedOph := s.fld .ink F.INK_OPH_COUNT
          savedPcyc := s.fld .ink F.INK_PCYC_COUNT } }) ∧
    (s.up .inkwell = true → s.up .common = true → s.ink.standby = true →
      Answers (exec .standbyExit s) fun t =>
        t.ink.standby = false ∧
        t.fld .ink F.INK_STATUS_STANDBY_SEEN = 1 ∧ t.fld .ink F.INK_STATUS_LIFECYCLE = s.fld .ink F.INK_STATUS_LIFECYCLE ∧
        t.ink.tampLast = [] ∧ RegsOutside [regAt .ink .INK_STATUS, evrAt] s t ∧
        { t.quiet with ink := { t.quiet.ink with ophAt := s.ink.ophAt, tampLast := s.ink.tampLast, standby := true } } = s.quiet) ∧
    (s.ink.powered = true → s.up .inkwell = true →
      Answers (exec .vinkLoss s) fun t =>
        t.domSt .inkwell = .off ∧ t.ink = { s.ink with powered := false } ∧ (∀ d, d ≠ .inkwell → t.domSt d = s.domSt d) ∧
        t.fld .cfg F.CFG_DOMAIN_STATUS_CHANGE = 1 ∧ RegsOutside [regAt .cfg .CFG_DOMAIN_STATUS] s t ∧
        t.mem0 = s.mem0 ∧ t.mem1 = s.mem1 ∧ t.flash0 = s.flash0 ∧ t.flash1 = s.flash1) ∧
    (s.ink.powered = false →
      Answers (exec .vinkRestored s) fun t =>
        t.domSt .inkwell = .up ∧ t.ink.powered = true ∧ t.ink.vt = s.ink.savedVt ∧
        t.fld .ink F.INK_OPH_COUNT = s.ink.savedOph % 2 ^ 32 ∧ t.fld .ink F.INK_PCYC_COUNT = s.ink.savedPcyc % 2 ^ 32 ∧
        t.fld .ink F.INK_STATUS_VTIME_GAP = 1 ∧
        t.fld .ink F.INK_VINK_LOSS_COUNT = min (s.fld .ink F.INK_VINK_LOSS_COUNT + 1) (2 ^ 32 - 1) ∧
        t.ink.slots = s.ink.slots ∧ t.ink.roots = s.ink.roots ∧ (∀ k < 8, t.mcount k = s.mcount k) ∧
        RegsOutside [regAt .ink .INK_OPH, regAt .ink .INK_PCYC, regAt .ink .INK_VINK_LOSS, regAt .ink .INK_STATUS,
          regAt .cfg .CFG_DOMAIN_STATUS, evrAt] s t ∧ t.mem0 = s.mem0 ∧ t.mem1 = s.mem1)) ∧
  (∀ s : State, s.up .inkwell = true → s.ink.powered = true →
    let same := fun (t : State) => t.mem0 = s.mem0 ∧ t.mem1 = s.mem1 ∧ t.dom = s.dom ∧ t.com = s.com ∧ t.pending = s.pending
    let follow := followsAt;
    (s.up .common = true → s.ink.oscFail = false →
      Answers (exec .vaultTimeSave s) fun t =>
        t.ink.savedVt = t.ink.vt ∧ s.ink.savedVt + 60 * 1000000000 * 65536 ≤ t.ink.vt ∧ same t ∧ RegsOutside follow s t) ∧
    (s.up .common = true → s.ink.oscFail = false →
      Answers (exec .ophTick s) fun t =>
        t.fld .ink F.INK_OPH_COUNT = min (s.fld .ink F.INK_OPH_COUNT + 1) (2 ^ 32 - 1) ∧
        (s.ink.ophAt + 1) * 1000000000 * 65536 ≤ t.ink.vt ∧ t.ink.ophAt = s.ink.ophAt + 1 ∧ same t ∧
        RegsOutside (regAt .ink .INK_OPH :: follow) s t) ∧
    (s.ink.oscFail = false →
      Answers (exec .oscFail s) fun t =>
        t.ink.oscFail = true ∧ t.ink.vt = s.ink.vt ∧ s.real + 4 * 1000000 * 65536 < t.real ∧
        t.fld .ink F.INK_STATUS_OSC_FAIL = 1 ∧ same t ∧ RegsOutside (regAt .ink .INK_STATUS :: evrAt :: follow) s t) ∧
    exec .oscillatorRestart s = .next { s with ink := { s.ink with oscFail := false } })

/-- The vault's commands copy whole records and the identity to every UP lane, clear only with authority, and store limits and
tags (R390, R391, R392, R393, R394, R395). EVR_READ from a record boundary, and ID_READ, with arguments in range, leave at
the address in each lane that is UP (page logging off) the whole records that fit, without those that meet an uncorrectable
error, which are counted, and the identity, and end OK. EVR_CLEAR with a block that fails ends in SIGNATURE and changes
nothing but the channel; one that verifies sets CLEARING, and at its completion, unless tamper assertions wait to be
recorded, the ring holds the CLEARED record alone, TAIL is 0, HEAD follows it, EVR_CLR_COUNT, saturating, and EVR_WRAPS have
risen by 1 and OVERWRITTEN is 0. EVR_RL_SET fills an entry that becomes valid, starting full, and refuses BURST 0, INTERVAL
0 and a duplicate CODE with BADARG. TAG_WRITE leaves the other tags and the written one in use, LEN 0 deletes it; TAG_READ
leaves the tag's octets, or for type 0 the whole copy, at the address in each lane that is UP, and of an absent type returns
all ones; a copy that meets an uncorrectable error is not used any more. exec is concluded to answer a next state, with this
effect, for: mailboxComplete, evrRead, evrClear, evrRlSet, tagRead, tagWrite, idRead. -/
def Obligations.VaultCommands : Prop :=
  ∀ (ch : Fin 2) (tag : BitVec 16) (addr : BitVec 64) (x y z : Word) (s : State), MemsWf s → s.up .inkwell = true →
    (∀ l, s.bit (.ins l) F.INS_DIRTY_CTL_EN = false) →
    (MboxReady s ch 0x60 → s.upLanes ≠ [] → x.toNat % 16 = 0 → addr.toNat + x.toNat ≤ 0x400000000 →
      ∀ (bad : List Nat) (corr : Bool),
      let u := s.eccCorr .inkwell corr
      let c := evrCollect u bad evrUnits y.toNat x.toNat [] 0
      let k := domBltIdx .inkwell
      evrBoundary u y.toNat (evrUnits + 1) (u.fld .evr F.EVR_TAIL_INDEX) = true →
      Answers (exec (.evrRead ch tag addr x y bad corr) s) fun t =>
        c.1.length ≤ x.toNat ∧ c.1.length % 16 = 0 ∧
          MboxRuns t ch 0x60 tag (addrArgs addr ++ [x.toNat, y.toNat]) 0
            [c.1.length, c.2.1, u.fld .evr F.EVR_TAIL_INDEX, u.fld .evr F.EVR_WRAPS_COUNT] false ∧
          (∀ l, s.laneUp l = true → t.mem l addr.toNat c.1.length = c.1) ∧
          t.fld .blt F.BLT_UNC_COUNT k = min (s.fld .blt F.BLT_UNC_COUNT k + c.2.2) (2 ^ 32 - 1) ∧
          t.fld .blt F.BLT_CORR_COUNT k = min (s.fld .blt F.BLT_CORR_COUNT k + b2n corr) (2 ^ 32 - 1) ∧
          RegsOutside [stwAt ch, regAt .blt .BLT_UNC k, regAt .blt .BLT_CORR k, evrAt] s t ∧ t.ink.still = s.ink.still ∧
          (bad = [] → corr = false → t.ink = s.ink)) ∧
    (MboxReady s ch 0x6C → s.upLanes ≠ [] → 0x80 + leNat ((s.ink.ident.drop 4).take 2) ≤ x.toNat → addr.toNat + x.toNat ≤ 0x400000000 →
      Answers (exec (.idRead ch tag addr x) s) fun t =>
        let n := 0x80 + leNat ((s.ink.ident.drop 4).take 2)
        MboxRuns t ch 0x6C tag (addrArgs addr ++ [x.toNat]) 0 [n] false ∧
        (∀ l, s.laneUp l = true → t.mem l addr.toNat n = s.ink.ident.take n ++ List.replicate (n - s.ink.ident.length) 0) ∧
        RegsOutside [stwAt ch] s t ∧ t.ink = s.ink) ∧
    (∀ blk, MboxReady s ch 0x61 → readLanes s addr.toNat 144 = .ok blk →
      let msg := natLe 4 0x4C435645 ++ s.dieId ++ natLe 4 (s.fld .evr F.EVR_CLR_COUNT_COUNT)
      (verifyBlock s.ink (maintRoot s.lifecycle) blk msg = false →
        Answers (exec (.evrClear ch tag addr) s) fun t => MboxRuns t ch 0x61 tag (addrArgs addr) 5 [] false ∧ MboxOnly ch s t) ∧
      (verifyBlock s.ink (maintRoot s.lifecycle) blk msg = true →
        Answers (exec (.evrClear ch tag addr) s) fun t =>
          MboxRuns t ch 0x61 tag (addrArgs addr) 0 [min (s.fld .evr F.EVR_CLR_COUNT_COUNT + 1) (2 ^ 32 - 1)] false ∧
          t.ink = { s.ink with clearing := true } ∧ t.fld .evr F.EVR_STATUS_CLEARING = 1 ∧
          RegsOutside [stwAt ch, regAt .evr .EVR_STATUS] s t)) ∧
    (∀ m : MbRun, s.up .common = true → s.com.steward = true → s.mbox ch = some m → m.op = 0x61 → m.code = 0 → m.wait = false →
      s.ink.clearing = true →
      Answers (exec (.mailboxComplete ch) s) fun t =>
        t.mbox ch = none ∧ t.ink.clearing = false ∧ t.ink.tampLast = [] ∧ t.fld .evr F.EVR_STATUS_CLEARING = 0 ∧ (s.ink.tampLast = [] →
        t.fld .evr F.EVR_CLR_COUNT_COUNT = min (s.fld .evr F.EVR_CLR_COUNT_COUNT + 1) (2 ^ 32 - 1) ∧
        t.fld .evr F.EVR_WRAPS_COUNT = (s.fld .evr F.EVR_WRAPS_COUNT + 1) % 2 ^ 32 ∧ t.fld .evr F.EVR_OVERWRITTEN_COUNT = 0 ∧
        t.fld .evr F.EVR_TAIL_INDEX = 0 ∧ t.fld .evr F.EVR_HEAD_INDEX = 2 ∧
        memRead 0 t.ink.ring 2 2 = natLe 2 (17 * 1024 + 2 * 256) ∧ (∀ a, 32 ≤ a → memGet 0 t.ink.ring a = 0) ∧ t.ink.rl = s.ink.rl)) ∧
    (MboxReady s ch 0x62 → x.toNat < 1024 → assocGet s.ink.rl x.toNat = none → bitAt y.toNat 31 = true → 0 < z.toNat % 256 →
      0 < z.toNat / 65536 → s.ink.rl.all (fun e => !e.2.valid || decide (e.2.code ≠ y.toNat % 65536)) = true →
      Answers (exec (.evrRlSet ch tag x y z) s) fun t =>
        MboxRuns t ch 0x62 tag [x.toNat, y.toNat, z.toNat] 0 [] false ∧
        t.ink = { s.ink with
          rl := assocPut s.ink.rl x.toNat ⟨y.toNat % 65536, true, z.toNat % 256, z.toNat / 65536, z.toNat % 256, 0, s.vtMs⟩ } ∧
        RegsOutside [stwAt ch] s t) ∧
    (MboxReady s ch 0x62 → z.toNat % 256 = 0 ∨ z.toNat / 65536 = 0 →
      Answers (exec (.evrRlSet ch tag x y z) s) fun t =>
        MboxRuns t ch 0x62 tag [x.toNat, y.toNat, z.toNat] 2 [] false ∧ MboxOnly ch s t) ∧
    (MboxReady s ch 0x69 → s.lifecycle ≠ 4 → 0 < x.toNat → x.toNat < 0x8000 → y.toNat ≤ 1020 → addr.toNat + y.toNat ≤ 0x400000000 →
      ∀ ue : Fin 4,
      let v := s.tagLost ue
      tagSeq v.tagCopy + 1 < 2 ^ 32 →
      let keep := v.tags.filter (fun e => decide (e.1 ≠ x.toNat));
      (y.toNat = 0 → Answers (exec (.tagWrite ch tag x addr y ue) s) fun t =>
        MboxRuns t ch 0x69 tag ([x.toNat] ++ addrArgs addr ++ [y.toNat]) 0 [(tagBytes keep).length] false ∧ t.tags = keep ∧
        RegsOutside [stwAt ch, regAt .blt .BLT_UNC (domBltIdx .inkwell), evrAt] s t) ∧
      (∀ v, 0 < y.toNat → readLanes s addr.toNat y.toNat = .ok v → (tagBytes (keep ++ [(x.toNat, v)])).length ≤ 4080 →
        Answers (exec (.tagWrite ch tag x addr y ue) s) fun t =>
          MboxRuns t ch 0x69 tag ([x.toNat] ++ addrArgs addr ++ [y.toNat]) 0 [(tagBytes (keep ++ [(x.toNat, v)])).length] false ∧
          t.tags = keep ++ [(x.toNat, v)] ∧ RegsOutside [stwAt ch, regAt .blt .BLT_UNC (domBltIdx .inkwell), evrAt] s t)) ∧
    (MboxReady s ch 0x68 → s.upLanes ≠ [] → ∀ ue : Fin 4,
      let v := s.tagLost ue
      let read := fun (c : List Byte) => c.length ≤ y.toNat → addr.toNat + y.toNat ≤ 0x400000000 →
        Answers (exec (.tagRead ch tag x addr y ue) s) fun t =>
          MboxRuns t ch 0x68 tag ([x.toNat] ++ addrArgs addr ++ [y.toNat]) 0 [c.length] false ∧
          (∀ l, s.laneUp l = true → t.mem l addr.toNat c.length = c) ∧ t.ink.still = v.ink.still ∧
          RegsOutside [stwAt ch, regAt .blt .BLT_UNC (domBltIdx .inkwell), evrAt] s t
      (x.toNat = 0 → read v.tagCopy) ∧
      (∀ e, x.toNat ≠ 0 → v.tags.find? (fun e => decide (e.1 = x.toNat)) = some e → read e.2) ∧
      (x.toNat ≠ 0 → v.tags.all (fun e => decide (e.1 ≠ x.toNat)) = true →
        Answers (exec (.tagRead ch tag x addr y ue) s) fun t =>
          MboxRuns t ch 0x68 tag ([x.toNat] ++ addrArgs addr ++ [y.toNat]) 0 [0xFFFFFFFF] false ∧ t.mem0 = s.mem0 ∧ t.mem1 = s.mem1 ∧
          (ue = 0 → MboxOnly ch s t)))

/-- KEY_WRITE and KEY_DERIVE fill one EMPTY slot; KEY_INVALIDATE makes a slot and its descendants stale at one instant ahead
(R404, R406, R407, R408). With Inkwell UP, not DECOMMISSIONED, arguments in range and lane copies that agree: KEY_WRITE
makes an EMPTY slot VALID with the bytes read, the flags, KEY_ID and GEN one higher, and ends OK with GEN; KEY_DERIVE does
so with HKDF-SHA-512 of a VALID parent with DERIVE, PARENT and DERIVED set. Every other slot, the roots, the lanes' memories
and everything else of the vault but the event recorder stay. A slot that is not EMPTY, or a parent that is not VALID or has
no DERIVE, ends in STATE with nothing changed. KEY_INVALIDATE of a slot that is not EMPTY records a set of the slot and its
descendants for one instant S, ends with the number of those that are VALID and waits; slots stay as they are until then; of
an EMPTY slot it ends in STATE. exec is concluded to answer a next state, with this effect, for: keyWrite, keyDerive,
keyInvalidate. -/
def Obligations.KeySlots : Prop :=
  ∀ (ch : Fin 2) (tag : BitVec 16) (n p flags keyId : Word) (addr : BitVec 64) (sl il : Word) (s : State),
    s.up .inkwell = true → n.toNat < 64 →
    let k := s.keySlot n.toNat
    let f := flags.toNat
    let len := f % 128
    let newSlot := fun (der : Bool) (par : Nat) (key : List Byte) =>
      (⟨1, der, bitAt f 8, bitAt f 9, bitAt f 10, par, key, keyId.toNat, (k.gen + 1) % 2 ^ 32⟩ : KeySlot)
    let regs := [stwAt ch, regAt .key .KEY_PENDING, evrAt]
    (MboxReady s ch 0x48 → s.lifecycle ≠ 4 → 16 ≤ len → len ≤ 64 → addr.toNat + len ≤ 0x400000000 →
      let args := [n.toNat, f, keyId.toNat] ++ addrArgs addr
      (∀ key, k.state = 0 → readLanes s addr.toNat len = .ok key →
        Answers (exec (.keyWrite ch tag n flags keyId addr) s) fun t =>
          MboxRuns t ch 0x48 tag args 0 [(k.gen + 1) % 2 ^ 32] false ∧
          VaultNow ch s t { s.ink with slots := assocPut s.ink.slots n.toNat (newSlot false 0 key) } ∧
          t.fld .key F.KEY_PENDING_CHANGE = 1 ∧ RegsOutside regs s t) ∧
      (k.state ≠ 0 → Answers (exec (.keyWrite ch tag n flags keyId addr) s) fun t =>
        MboxRuns t ch 0x48 tag args 4 [] false ∧ MboxOnly ch s t)) ∧
    (MboxReady s ch 0x49 → s.lifecycle ≠ 4 → p.toNat < 64 → 16 ≤ len → len ≤ 64 → sl.toNat ≤ 64 → il.toNat ≤ 128 →
      addr.toNat + (sl.toNat + il.toNat) ≤ 0x400000000 →
      let args := [n.toNat, p.toNat, f, keyId.toNat] ++ addrArgs addr ++ [sl.toNat, il.toNat]
      let par := s.keySlot p.toNat
      (∀ b, k.state = 0 → par.state = 1 → par.derive = true → s.keyDepth 8 p.toNat < 4 →
        readLanes s addr.toNat (sl.toNat + il.toNat) = .ok b →
        Answers (exec (.keyDerive ch tag n p flags keyId addr sl il) s) fun t =>
          MboxRuns t ch 0x49 tag args 0 [(k.gen + 1) % 2 ^ 32] false ∧
          VaultNow ch s t { s.ink with
            slots := assocPut s.ink.slots n.toNat (newSlot true p.toNat (hkdf512 par.key (b.take sl.toNat) (b.drop sl.toNat) len)) } ∧
          t.fld .key F.KEY_PENDING_CHANGE = 1 ∧ RegsOutside regs s t) ∧
      (k.state ≠ 0 ∨ par.state ≠ 1 ∨ par.derive = false → Answers (exec (.keyDerive ch tag n p flags keyId addr sl il) s) fun t =>
        MboxRuns t ch 0x49 tag args 4 [] false ∧ MboxOnly ch s t)) ∧
    (MboxReady s ch 0x4A →
      (k.state ≠ 0 → Answers (exec (.keyInvalidate ch tag n) s) fun t =>
        let set := s.keyTree 5 [n.toNat]
        let at_ := s.staleInstant
        set ≠ [] ∧ n.toNat ∈ set ∧ MboxRuns t ch 0x4A tag [n.toNat] 0 [(set.filter fun j => decide ((s.keySlot j).state = 1)).length, at_ / 65536 % 2 ^ 32] true ∧
        VaultNow ch s t { s.ink with stale := s.ink.stale ++ [⟨at_, set, false, some ch.val, none⟩] } ∧ RegsOutside [stwAt ch] s t) ∧
      (k.state = 0 → Answers (exec (.keyInvalidate ch tag n) s) fun t =>
        MboxRuns t ch 0x4A tag [n.toNat] 4 [] false ∧ MboxOnly ch s t))

/-- Slots become STALE at S and EMPTY once unused; an enabled tamper input is latched and zeroises or stales every slot (R404,
R408, R409, R384, R411). With Common and Inkwell UP and a set waiting: KEY_STALE makes every VALID slot of the earliest
waiting set STALE, its copies in UP lanes with it, marks the set and leaves every other slot, set and root as it was.
KEY_ZEROISED leaves each slot of a stale set that has neither a use in flight nor a child EMPTY without key material, and
every slot with a use in flight, or outside the set, as it was. With no use of any in flight, and children behind their
parents in the set, each is EMPTY, in MRAM and in both lanes, KEY_ID and GEN kept, the set is gone, and the command that
waited for it waits no longer; a transition that waited moves the lifecycle, or is denied when DECOMMISSIONED has overtaken
it. While a slot with a use in flight is left, the set stays. An input that is not enabled, or whose latch is set, changes
nothing of the slots and latches nothing. Enabled and unlatched, with the oscillator running: the latch is set. With Common
UP a set of every slot that is not EMPTY is recorded for one stale instant, with DECOM naming state 4 as what follows it;
slots stay until then; an assertion met while the ring is cleared is kept to be recorded. In standby every slot is EMPTY
without key material, waiting sets are gone, the assertion is kept for recording at the return, and with DECOM the lifecycle
is DECOMMISSIONED and MCOUNT2 has risen by 1. Roots, memories and domains stay. exec is concluded to answer a next state,
with this effect, for: tamperAssert, keyStale, keyZeroised. -/
def Obligations.KeyEndsAndTamper : Prop :=
  (∀ (s : State) (x : StaleSet), s.up .common = true → s.up .inkwell = true →
    let frame := fun (t : State) => t.mem0 = s.mem0 ∧ t.mem1 = s.mem1 ∧ t.dom = s.dom ∧ t.ink.roots = s.ink.roots ∧ t.pairQ = s.pairQ;
    (s.ink.stale.find? (fun y => !y.stale) = some x →
      Answers (exec .keyStale s) fun t =>
        (∀ n ∈ x.slots, (s.keySlot n).state = 1 → t.keySlot n = { s.keySlot n with state := 2 } ∧
          ∀ l c, s.laneUp l = true → assocGet (s.lane l).keys n = some c → assocGet (t.lane l).keys n = some { c with state := 2 }) ∧
        (∀ n, n ∉ x.slots ∨ (s.keySlot n).state ≠ 1 → t.keySlot n = s.keySlot n) ∧
        t.ink.stale = s.ink.stale.map (fun y => if y = x then { y with stale := true } else y) ∧
        t.com = s.com ∧ frame t ∧
        RegsOutside (followsAt ++ [regAt .key .KEY_PENDING, evrAt]) s t) ∧
    (s.ink.stale.find? (fun y => y.stale) = some x →
      (Answers (exec .keyZeroised s) fun t => frame t ∧ (∀ n, n ∉ x.slots ∨ (s.keySlot n).state = 0 ∨ s.inflight n x.s ≠ 0 → t.keySlot n = s.keySlot n) ∧
        ∀ n ∈ x.slots, (s.keySlot n).state ≠ 0 → s.inflight n x.s = 0 → s.keyKids n = [] → t.keySlot n = { s.keySlot n with state := 0, key := [] }) ∧
      ((∃ n ∈ x.slots, (s.keySlot n).state ≠ 0 ∧ s.inflight n x.s ≠ 0) → Answers (exec .keyZeroised s) fun t =>
        t.ink.stale = s.ink.stale ∧ t.lifecycle = s.lifecycle ∧ ∀ ch, t.mbox ch = s.mbox ch) ∧
      (let late := x.target ≠ none ∧ s.lifecycle = 4;
        assocSorted s.ink.slots = true → (∀ n ∈ x.slots, s.inflight n x.s = 0) →
        (∀ (i n c : Nat), x.slots[i]? = some n → c ∈ s.keyKids n → ∃ j, i < j ∧ x.slots[j]? = some c) →
        Answers (exec .keyZeroised s) fun t =>
          (∀ n ∈ x.slots, (s.keySlot n).state ≠ 0 → t.keySlot n = { s.keySlot n with state := 0, key := [] } ∧
            ∀ l, assocGet (t.lane l).keys n = none) ∧
          (∀ n, n ∉ x.slots ∨ (s.keySlot n).state = 0 → t.keySlot n = s.keySlot n) ∧
          t.ink.stale = s.ink.stale.erase x ∧ frame t ∧
          (∀ ch m, x.chan = some ch → ch < 2 → s.mbox ch = some m → ∃ c r, t.mbox ch = some { m with code := c, res := r, wait := false } ∧ (late → c = 0x11) ∧ (¬late → c = m.code)) ∧
          (x.target = none → t.lifecycle = s.lifecycle) ∧
          (late → t.lifecycle = 4 ∧ t.mcount 2 = s.mcount 2) ∧
          (∀ k, x.target = some k → k < 5 → s.lifecycle ≠ 4 → t.lifecycle = k ∧ t.mcount 2 = min (s.mcount 2 + 1) (2 ^ 32 - 1))))) ∧
  (∀ (n : Fin 2) (s : State), s.up .inkwell = true → s.ink.oscFail = false →
    let en := if n.val = 0 then F.INK_TAMPER_CFG_EN0 else F.INK_TAMPER_CFG_EN1
    let latch := if n.val = 0 then F.INK_STATUS_TAMPER0 else F.INK_STATUS_TAMPER1
    let decom := bitAt s.ink.decom n.val && decide (s.lifecycle ≠ 4)
    let frame := fun (t : State) => t.mem0 = s.mem0 ∧ t.mem1 = s.mem1 ∧ t.dom = s.dom ∧ t.ink.roots = s.ink.roots ∧ t.com = s.com;
    (s.bit .ink en = false → exec (.tamperAssert n) s = .next s) ∧
    (s.bit .ink en = true → s.bit .ink latch = true → Answers (exec (.tamperAssert n) s) fun t =>
      t.ink.slots = s.ink.slots ∧ t.ink.stale = s.ink.stale ∧ frame t ∧
      RegsOutside followsAt s t) ∧
    (s.bit .ink en = true → s.bit .ink latch = false → s.up .common = true → s.keyAll ≠ [] →
      Answers (exec (.tamperAssert n) s) fun t =>
        t.bit .ink latch = true ∧ t.ink.slots = s.ink.slots ∧ t.lifecycle = s.lifecycle ∧ frame t ∧ (s.evrReady = true → t.ink.tampLast = s.ink.tampLast) ∧
        (s.evrReady = false → ∃ ticks, t.ink.tampLast = s.ink.tampLast ++ [(n.val, ticks, s.fld .ink F.INK_PCYC_COUNT, s.keyAll.length, none)]) ∧
        ∃ at_, t.ink.stale = s.ink.stale ++ [⟨at_, s.keyAll, false, none, if decom then some 4 else none⟩]) ∧
    (s.bit .ink en = true → s.bit .ink latch = false → s.up .common = false →
      Answers (exec (.tamperAssert n) s) fun t =>
        t.bit .ink latch = true ∧ (∀ k, (t.keySlot k).state = 0) ∧ (∀ k ∈ s.keyAll, (t.keySlot k).key = []) ∧ t.ink.stale = [] ∧
        (∃ ticks, t.ink.tampLast = s.ink.tampLast ++ [(n.val, ticks, s.fld .ink F.INK_PCYC_COUNT, s.keyAll.length, if decom then some s.lifecycle else none)]) ∧
        (decom = true → t.lifecycle = 4 ∧ t.mcount 2 = min (s.mcount 2 + 1) (2 ^ 32 - 1)) ∧
        (decom = false → t.lifecycle = s.lifecycle) ∧ frame t))

/-- A transition needs its signature and moves the lifecycle once every slot is EMPTY; a root entry changes only with authority
(R394, R396, R397, R401, R402, R403). LC_ADVANCE: in DECOMMISSIONED DENIED; a transition not of Table 18.1 ends in STATE; a
block that verifies under none of the transition's roots ends in SIGNATURE; each changes nothing. Verified and with every
slot EMPTY, it sets the lifecycle, counts MCOUNT2, saturating, keeps of the tag area in DECOMMISSIONED only the factory
records, and ends OK with it; with slots that are not EMPTY it records a set of all of them that names the target, and
waits. ROOT_KEY_SET with a block that does not verify ends in SIGNATURE and changes nothing; a verified install over an
absent entry puts the key's X and Y with KEY_ID there and nothing else, a verified revoke of one of two or more valid
entries takes it away; an install over a valid entry ends in STATE. In PROVISIONED the factory root authorises, else another
valid entry of the root itself. exec is concluded to answer a next state, with this effect, for: lcAdvance, rootKeySet. -/
def Obligations.LifecycleAndRoots : Prop :=
  ∀ (ch : Fin 2) (tag : BitVec 16) (target : Word) (addr ka : BitVec 64) (root e keyId : Word) (s : State), s.up .inkwell = true →
    let lc := s.lifecycle
    let msg := natLe 4 0x56434C4C ++ s.dieId ++ natLe 4 (s.mcount 2) ++ natLe 4 target.toNat
    let args := [target.toNat] ++ addrArgs addr
    (MboxReady s ch 0x41 →
      (lc = 4 → Answers (exec (.lcAdvance ch tag target addr) s) fun t => MboxRuns t ch 0x41 tag args 0x11 [] false ∧ MboxOnly ch s t) ∧
      (lc ≠ 4 → lcRoots lc target.toNat = [] →
        Answers (exec (.lcAdvance ch tag target addr) s) fun t => MboxRuns t ch 0x41 tag args 4 [] false ∧ MboxOnly ch s t) ∧
      (∀ blk, lc ≠ 4 → lcRoots lc target.toNat ≠ [] → readLanes s addr.toNat 144 = .ok blk →
        ((∀ r ∈ lcRoots lc target.toNat, verifyBlock s.ink r blk msg = false) →
          Answers (exec (.lcAdvance ch tag target addr) s) fun t => MboxRuns t ch 0x41 tag args 5 [] false ∧ MboxOnly ch s t) ∧
        ((∃ r ∈ lcRoots lc target.toNat, verifyBlock s.ink r blk msg = true) →
          ¬(lc = 1 ∧ target.toNat = 2 ∧ (s.rootBits 1 = 0 ∨ s.rootBits 2 = 0)) →
          (s.keyAll = [] → Answers (exec (.lcAdvance ch tag target addr) s) fun t =>
            t.lifecycle = target.toNat ∧ t.mcount 2 = min (s.mcount 2 + 1) (2 ^ 32 - 1) ∧
            MboxRuns t ch 0x41 tag args 0 [t.mcount 2] false ∧ VaultNow ch s t (if target.toNat = 4 then s.tagWipe.ink else s.ink) ∧
            RegsOutside [stwAt ch, regAt .ink .INK_STATUS, regAt .key .KEY_MCOUNT 2, evrAt] s t) ∧
          (s.keyAll ≠ [] → Answers (exec (.lcAdvance ch tag target addr) s) fun t =>
            t.lifecycle = lc ∧ MboxRuns t ch 0x41 tag args 0 [] true ∧
            VaultNow ch s t { s.ink with stale := s.ink.stale ++ [⟨s.staleInstant, s.keyAll, false, some ch.val, some target.toNat⟩] } ∧
            RegsOutside [stwAt ch] s t)))) ∧
    (MboxReady s ch 0x44 → lc ≠ 4 → lc ≠ 0 → (root.toNat = 1 ∨ root.toNat = 2) → e.toNat ≤ 3 →
      let at_ := 4 * root.toNat + e.toNat
      let rmsg := fun (die : List Byte) (rev : Nat) (dig : List Byte) =>
        natLe 4 0x594B5452 ++ die ++ natLe 4 (s.mcount 2) ++ natLe 4 (e.toNat * 8 + root.toNat * 32 + rev * 128) ++ natLe 4 keyId.toNat ++ dig
      let good := fun (blk : List Byte) (rev : Nat) (dig : List Byte) =>
        if lc = 1 then verifyBlock s.ink 0 blk (rmsg s.dieId rev dig) || verifyBlock s.ink 0 blk (rmsg (List.replicate 16 0) rev dig)
        else verifyEntries s.ink root.toNat ((List.range 4).filter (fun i => decide (i ≠ e.toNat))) blk (rmsg s.dieId rev dig)
      let rargs := fun (op : Nat) => [root.toNat, e.toNat, op, keyId.toNat] ++ addrArgs ka ++ addrArgs addr
      let install := exec (.rootKeySet ch tag root e 0 keyId ka addr) s
      let revoke := exec (.rootKeySet ch tag root e 1 keyId ka addr) s
      (∀ key blk, assocGet s.ink.roots at_ = none → readLanes s ka.toNat 133 = .ok key → readLanes s addr.toNat 144 = .ok blk →
        (good blk 0 (sha512 key) = false → Answers install fun t => MboxRuns t ch 0x44 tag (rargs 0) 5 [] false ∧ MboxOnly ch s t) ∧
        (good blk 0 (sha512 key) = true → (key.headD 0).toNat = 4 → Answers install fun t =>
          MboxRuns t ch 0x44 tag (rargs 0) 0 [] false ∧ RegsOutside [stwAt ch, evrAt] s t ∧
          VaultNow ch s t { s.ink with
            roots := assocPut s.ink.roots at_ ⟨keyId.toNat, beNat ((key.drop 1).take 66), beNat ((key.drop 67).take 66)⟩ })) ∧
      (assocGet s.ink.roots at_ ≠ none → Answers install fun t => MboxRuns t ch 0x44 tag (rargs 0) 4 [] false ∧ MboxOnly ch s t) ∧
      (∀ old blk, assocGet s.ink.roots at_ = some old → (∃ i < 4, i ≠ e.toNat ∧ assocGet s.ink.roots (4 * root.toNat + i) ≠ none) →
        readLanes s addr.toNat 144 = .ok blk → good blk 1 (List.replicate 64 0) = true →
        Answers revoke fun t =>
          MboxRuns t ch 0x44 tag (rargs 1) 0 [] false ∧ RegsOutside [stwAt ch, evrAt] s t ∧
          VaultNow ch s t { s.ink with roots := assocDel s.ink.roots at_, revoked := s.ink.revoked ++ [(at_, old)] }))

/-- Counters only rise, ATTEST writes 368 bytes to every UP lane, and TAMPER_CFG stores its bits where the lifecycle allows
(R399, R400, R403, R411, R412, R413). MCOUNT_INC of counter 3 to 7 adds 1 and ends OK with the new value, at the top it ends
in CAPACITY, outside 3 to 7 in BADARG, in DECOMMISSIONED in DENIED; ROLLBACK_ADVANCE leaves MCOUNT0 at the larger of its
value and the highest active SEC_VERSION; no other register but the event recorder's and the channel's changes. ATTEST with
its addresses in range and lane copies that agree leaves at the address in each UP lane (page logging off) the 224 octets of
Table 18.4 and a signature block with ALG 1, 368 bytes in all, and ends with 368. TAMPER_CFG that clears an enabled EN or a
DECOM outside MAINTENANCE ends in DENIED and changes nothing; in MAINTENANCE, with Inkwell UP, EN and POL and DECOM take the
argument's bits. exec is concluded to answer a next state, with this effect, for: mcountInc, rollbackAdvance, attest,
tamperCfg. -/
def Obligations.CountersAndAttest : Prop :=
  ∀ (ch : Fin 2) (tag : BitVec 16) (n : Word) (na ra : BitVec 64) (s : State), s.up .inkwell = true →
    let k := n.toNat
    (MboxReady s ch 0x51 →
      (s.lifecycle = 4 → Answers (exec (.mcountInc ch tag n) s) fun t => MboxRuns t ch 0x51 tag [k] 0x11 [] false ∧ MboxOnly ch s t) ∧
      (s.lifecycle ≠ 4 → k < 3 ∨ 7 < k → Answers (exec (.mcountInc ch tag n) s) fun t =>
        MboxRuns t ch 0x51 tag [k] 2 [] false ∧ MboxOnly ch s t) ∧
      (s.lifecycle ≠ 4 → 3 ≤ k → k ≤ 7 → s.mcount k = 2 ^ 32 - 1 → Answers (exec (.mcountInc ch tag n) s) fun t =>
        MboxRuns t ch 0x51 tag [k] 0x0A [] false ∧ MboxOnly ch s t) ∧
      (s.lifecycle ≠ 4 → 3 ≤ k → k ≤ 7 → s.mcount k ≠ 2 ^ 32 - 1 → Answers (exec (.mcountInc ch tag n) s) fun t =>
        t.mcount k = s.mcount k + 1 ∧ MboxRuns t ch 0x51 tag [k] 0 [s.mcount k + 1] false ∧ VaultNow ch s t s.ink ∧
        RegsOutside [stwAt ch, regAt .key .KEY_MCOUNT k] s t)) ∧
    (MboxReady s ch 0x52 → s.lifecycle ≠ 4 → s.maxSecVer < 2 ^ 32 → Answers (exec (.rollbackAdvance ch tag) s) fun t =>
      t.mcount 0 = max (s.mcount 0) s.maxSecVer ∧ MboxRuns t ch 0x52 tag [] 0 [t.mcount 0] false ∧ VaultNow ch s t s.ink ∧
      RegsOutside [stwAt ch, regAt .key .KEY_MCOUNT 0, evrAt] s t) ∧
    (∀ nonce, MboxReady s ch 0x58 → MemsWf s → (∀ l, s.bit (.ins l) F.INS_DIRTY_CTL_EN = false) →
      na.toNat + 64 ≤ 0x400000000 → ra.toNat + 368 ≤ 0x400000000 → readLanes s na.toNat 64 = .ok nonce →
      Answers (exec (.attest ch tag na ra) s) fun t =>
        MboxRuns t ch 0x58 tag (addrArgs na ++ addrArgs ra) 0 [368] false ∧ RegsOutside [stwAt ch] s t ∧ t.ink = s.ink ∧
        t.freeCtr = s.freeCtr + 1 ∧
        (∀ l, s.laneUp l = true → t.mem l ra.toNat 224 = s.attestBody nonce ∧
          t.mem l (ra.toNat + 224) 8 = natLe 2 1 ++ List.replicate 6 0 ∧ t.mem l (ra.toNat + 364) 4 = List.replicate 4 0 ∧
          ∀ a, a < ra.toNat ∨ ra.toNat + 368 ≤ a → t.mem l a 1 = s.mem l a 1)) ∧
    (MboxReady s ch 0x5C →
      let old := (s.rd .ink .INK_TAMPER_CFG).toNat % 16 + s.ink.decom % 4 * 16
      (s.lifecycle ≠ 3 → ([0, 1, 4, 5].any (fun b => bitAt old b && !bitAt (k % 64) b)) = true →
        Answers (exec (.tamperCfg ch tag n) s) fun t => MboxRuns t ch 0x5C tag [k] 0x11 [] false ∧ MboxOnly ch s t) ∧
      (s.lifecycle = 3 → Answers (exec (.tamperCfg ch tag n) s) fun t =>
        t.rd .ink .INK_TAMPER_CFG = BitVec.ofNat 32 (k % 16) ∧ MboxRuns t ch 0x5C tag [k] 0 [] false ∧
        VaultNow ch s t { s.ink with decom := k % 64 / 16 } ∧ RegsOutside [stwAt ch, regAt .ink .INK_TAMPER_CFG, evrAt] s t))

/-- PORST_N leaves only Inkwell and reads the boot table on release; the steward starts on verified firmware and ends clears
(R31, R383, R415, R418, R419, R453, R456, R52, R392, R398, R410, R439). PORST_N low leaves every domain but Inkwell OFF with
its state as after reset, no paired write, steward or staged image, the trip pins low, no register stored outside the
vault's and the vault's as they were; lane memory, flash and the vault stay. Its release leaves Common UP and planes and
lanes RESTARTING, counts INK_PCYC once with Inkwell UP, saturating, and takes the boot table copy with MAGIC, CRC and the
higher SEQ, showing its N_ELEM, N_STREAM and COPY, or NOTABLE without one; a copy whose read meets an uncorrectable error is
lost and counted. With bank VIO_F low, or PORST_N not low, the release changes nothing. WARMRST_N low for at most 0.2 us
lets only time pass; for 1 us or more, with no dump in the buffer, an UP Common is RESTARTING without a steward or mailbox
command, every other domain, flash, lane memory and the vault but its event recorder as they were; between the two it is
RESTARTING or as it was, every other domain in its state. With Common UP and firmware not yet verified, no firmware bank on
trial and no dump in the buffer: when the active bank verifies, the firmware counts as verified with its version; when it
fails and the other bank verifies, the descriptor names the other bank and its version runs; when both fail Common is OFF
and no steward runs. What verifies, and what a flash read answers, are free values. Every other domain and lane memory stay.
STEWARD_START on verified firmware leaves the steward running, no slot STALE, no clear running, no state kept of an isolated
Common, every domain in its state and lane keys of VALID slots loaded; without it, or with a steward running, it changes
nothing. exec is concluded to answer a next state, with this effect, for: porstNAssert, porstNRelease, warmrstN,
firmwareVerify, stewardStart. -/
def Obligations.ResetAndStewardStart : Prop :=
  (∀ (n : Nat) (s : State),
    (Answers (exec .porstNAssert s) fun t =>
      t.dom = ⟨.off, .off, .off, .off, .off, s.dom.inkwell⟩ ∧ t.pa = .empty ∧ t.pb = .empty ∧ t.l0 = .empty ∧ t.l1 = .empty ∧
      t.pairQ = [] ∧ t.com.steward = false ∧ t.com.staged = none ∧ t.com.mb0 = none ∧ t.com.mb1 = none ∧ t.com.isos = [] ∧
      t.pins.trip = [] ∧ t.pins.porst = false ∧ t.mem0 = s.mem0 ∧ t.mem1 = s.mem1 ∧ t.flash0 = s.flash0 ∧ t.flash1 = s.flash1 ∧
      t.ink = s.ink ∧
      (∀ a, a < commonBase + 0x300000 ∨ commonBase + 0x600000 ≤ a → assocGet t.regs a = none) ∧
      (RegsWf s → ∀ a, commonBase + 0x300000 ≤ a → a < commonBase + 0x600000 → assocGet t.regs a = assocGet s.regs a)) ∧
    (s.pins.porst = true ∨ 5 ∈ s.com.lowBanks → ∀ ue, exec (.porstNRelease ue) s = .next s) ∧
    (∀ ue : Fin 4, s.pins.porst = false → 5 ∉ s.com.lowBanks → s.dom.inkwell = .up →
      let ink := { s.ink with boot0 := if bitAt ue 0 then [] else s.ink.boot0, boot1 := if bitAt ue 1 then [] else s.ink.boot1 }
      let unc := domBltIdx .inkwell
      Answers (exec (.porstNRelease ue) s) fun t =>
        t.dom = ⟨.restarting, .restarting, .restarting, .restarting, .up, .up⟩ ∧ t.pins.porst = true ∧
        t.fld .ink F.INK_PCYC_COUNT = min (s.fld .ink F.INK_PCYC_COUNT + 1) (2 ^ 32 - 1) ∧
        (match bootPick ink with
          | none => t.bit .cfg F.CFG_BOOT_STATUS_NOTABLE = true ∧ t.com.eps = s.com.eps
          | some (k, b) => t.com.eps = some b ∧ t.fld .cfg F.CFG_BOOT_STATUS_N_ELEM = octF b E.T19_2_N_ELEM ∧
            t.fld .cfg F.CFG_BOOT_STATUS_N_STREAM = octF b E.T19_2_N_STREAM ∧ t.fld .cfg F.CFG_BOOT_STATUS_COPY = k ∧
            t.fld .cfg F.CFG_BOOT_STATUS_TRUNC = octF b E.T19_2_TRUNC) ∧
        t.mem0 = s.mem0 ∧ t.mem1 = s.mem1 ∧ t.flash0 = s.flash0 ∧ t.flash1 = s.flash1 ∧ t.ink.still = ink.still ∧
        t.fld .blt F.BLT_UNC_COUNT unc = min (s.fld .blt F.BLT_UNC_COUNT unc + b2n (bitAt ue 0) + b2n (bitAt ue 1)) (2 ^ 32 - 1)) ∧
    (n ≤ 200 →
      Answers (exec (.warmrstN n) s) fun t =>
        t.real = s.real + n * 65536 ∧ t.dom = s.dom ∧ t.com = s.com ∧ t.mem0 = s.mem0 ∧ t.mem1 = s.mem1 ∧
        RegsOutside followsAt s t) ∧
    (200 < n → n < 1000 → s.up .common = true →
      Answers (exec (.warmrstN n) s) fun t =>
        t.real = s.real + n * 65536 ∧ (t.domSt .common = .up ∨ t.domSt .common = .restarting) ∧ (∀ e, e ≠ .common → t.domSt e = s.domSt e) ∧
        t.mem0 = s.mem0 ∧ t.mem1 = s.mem1 ∧ t.flash0 = s.flash0 ∧ t.flash1 = s.flash1) ∧
    (1000 ≤ n → s.up .common = true → s.com.dumpBuf = none →
      Answers (exec (.warmrstN n) s) fun t =>
        t.real = s.real + n * 65536 ∧ t.domSt .common = .restarting ∧ (∀ e, e ≠ .common → t.domSt e = s.domSt e) ∧
        t.com.steward = false ∧ t.com.mb0 = none ∧ t.com.mb1 = none ∧ t.com.switches = [] ∧ t.com.staged = none ∧ t.com.eps = s.com.eps ∧
        t.mem0 = s.mem0 ∧ t.mem1 = s.mem1 ∧ t.flash0 = s.flash0 ∧ t.flash1 = s.flash1 ∧ t.ink.still.slots = s.ink.slots ∧
        t.ink.roots = s.ink.roots)) ∧
  (∀ s : State,
    (s.up .common = true → s.com.fwOk = false → s.onTrial 0 = false → s.com.dumpBuf = none →
      Answers (exec .firmwareVerify s) fun t =>
        let r := s.fwVerify (s.bankOf 0)
        let u := r.2.fallBack 0
        let q := u.fwVerify (u.bankOf 0);
        (r.1.1 = 0 → t.com.fwOk = true ∧ t.com.fwVer = r.1.2 ∧ t.domSt .common = .up ∧ t.flash0 = s.flash0 ∧ t.flash1 = s.flash1) ∧
        (r.1.1 ≠ 0 → q.1.1 = 0 → t.com.fwOk = true ∧ t.com.fwVer = q.1.2 ∧ t.domSt .common = .up) ∧
        (r.1.1 ≠ 0 → q.1.1 ≠ 0 → t.domSt .common = .off ∧ t.com.steward = false ∧ t.com.fwOk = false) ∧
        (∀ e, e ≠ .common → t.domSt e = s.domSt e) ∧ t.mem0 = s.mem0 ∧ t.mem1 = s.mem1) ∧
    (s.up .common = true → s.com.fwOk = true → s.com.steward = false →
      ∀ corr, Answers (exec (.stewardStart corr) s) fun t =>
        t.com.steward = true ∧ t.com.retained = none ∧ (∀ k, (t.keySlot k).state ≠ 2) ∧ t.ink.clearing = false ∧ (∀ e, t.domSt e = s.domSt e) ∧
        (∀ k l, s.laneUp l = true → s.up .inkwell = true → (s.keySlot k).state = 1 → assocSorted s.ink.slots = true →
          ∃ x, assocGet (t.lane l).keys k = some x ∧ x.key = (s.keySlot k).key)) ∧
    (s.com.fwOk = false ∨ s.com.steward = true → ∀ corr, exec (.stewardStart corr) s = .next s))

/-- The EPS arms from the boot table, each firing sets the drives to the OR of its elements, and a pin whose drive is 0 leaves
it from handover on (R421, R422, R424, R425). With a boot table, EPS_ARM of an UP lane that is neither armed nor rolled out
sets its ARMED bit, gives the lane the table's words and each plane that runs no table and no SWITCH region the table; an
armed lane it leaves as it is. While the EPS runs, a firing takes its element's oldest token away, and then a pin's drive is
1 where an element operates and only there, or where it was 1 before. With the grid, publications, TRIP_EN and a PUBLISH
region, HANDOVER comes at the next grid instant; from then every pin the EPS still holds has its EPS drive at 1, and with no
drive at 1 the lane has handed over. Lane memory and domain states stay. exec is concluded to answer a next state, with this
effect, for: epsArm, epsElementFiring, handover. -/
def Obligations.EarlyProtection : Prop :=
  ∀ (l : Lane) (e : Fin 64) (s : State),
    (∀ b, s.com.eps = some b → s.up .common = true → s.laneUp l = true → s.armed l = false → s.rolledOut l = false →
      Answers (exec (.epsArm l) s) fun t =>
        t.armed l = true ∧ t.handed l = s.handed l ∧ t.mem0 = s.mem0 ∧ t.mem1 = s.mem1 ∧ t.dom = s.dom ∧
        (∀ i < 1920, t.win (epsBase l + 4 * i) = BitVec.ofNat 32 (leNat ((b.drop (4 * i)).take 4))) ∧
        (∀ p, s.planeUp p = true → (s.plane p).switched = false → (s.plane p).eps = [] → (t.plane p).eps = b)) ∧
    (s.armed l = true → exec (.epsArm l) s = .next s) ∧
    (∀ q, s.epsRuns l = true → (s.lane l).epsQ.find? (fun q => decide (q.1 = e.val)) = some q →
      Answers (exec (.epsElementFiring l e) s) fun t =>
        (t.handed l = false → (t.lane l).epsQ = (s.lane l).epsQ.erase q) ∧
        (∀ n < 16, t.epsWant l n = true → (t.epsPinSt l n).1 = true) ∧
        (∀ n < 16, (t.epsPinSt l n).1 = true → t.epsWant l n = true ∨ (s.epsPinSt l n).1 = true) ∧
        t.mem0 = s.mem0 ∧ t.mem1 = s.mem1 ∧ t.dom = s.dom) ∧
    (s.epsRuns l = true → (s.lane l).epsLeft = none → s.gridRun l = true → s.bit (.pub l) F.PUB_CTRL_EN = true →
      s.bit (.pub l) F.PUB_CTRL_TRIP_EN = true → s.com.active.any (fun a => decide (a.target = l.idx ∧ a.type = 8)) = true →
      Answers (exec (.handover l) s) fun t =>
        (∀ n < 16, t.epsHolds l n = true → (t.epsPinSt l n).1 = true) ∧
        ((∀ n < 16, (s.epsPinSt l n).1 = false) → t.handed l = true) ∧
        (∀ n < 16, t.epsPinSt l n = s.epsPinSt l n) ∧ t.mem0 = s.mem0 ∧ t.mem1 = s.mem1 ∧ t.dom = s.dom) ∧
    (s.gridRun l = false ∨ s.epsRuns l = false → exec (.handover l) s = .next s)

/-- A fatal cause isolates its domain alone; the fourth within 600 s limits it; Common's loss stops the steward; a COMMAND that
leaves no peer is refused (R29, R57, R436, R440). With no paired write waiting: a cause that Table 20.2 gives an UP plane or
lane leaves it ISOLATED and shown HELD, every other domain in its state, and one more isolation record with domain, cause,
detail, address and time; with three isolations of the domain in the last 600 s its LIMITED bit is set. A cause not of the
domain's, or a domain that is not UP, changes nothing. Common, with no dump in its buffer and fewer than three recent
losses, becomes ISOLATED, the steward stops, no mailbox command or commit waits, and its record is kept for the new steward.
ISOLATE of one domain whose peer is UP does the same with cause 9; one that would leave no lane or no plane UP changes
nothing. Flash and the vault but its event recorder stay. exec is concluded to answer a next state, with this effect, for:
domainIsolate, isolate. -/
def Obligations.DomainIsolation : Prop :=
  ∀ (d : Dom) (cause : Fin 10) (detail addr : Nat) (mask : Fin 16) (s : State), (∀ e ∈ s.pairQ, e.2 = []) →
    let held := fun (c x y : Nat) (t : State) =>
      t.domSt d = .isolated ∧ (∀ e, e ≠ d → t.domSt e = s.domSt e) ∧
      (∃ x_ : Isolation, t.com.isos = s.com.isos ++ [x_] ∧ x_.dom = d ∧ x_.cause = c ∧ x_.detail = x ∧ x_.addr = y ∧
        x_.time = s.evTime d ∧ x_.since = s.real ∧ x_.captured = false) ∧
      bitAt (t.fld .blt F.BLT_STATUS_HELD) (domBltBit d) = true ∧
      (3 ≤ (s.com.history.filter (fun e => decide (s.real ≤ e.2 + 600 * 1000000000 * 65536 ∧ e.1 = d))).length →
        bitAt (t.fld .blt F.BLT_STATUS_LIMITED) (domBltBit d) = true) ∧
      t.flash0 = s.flash0 ∧ t.flash1 = s.flash1 ∧ t.ink.still = s.ink.still
    (s.up d = false ∨ causeOf cause.val d = false ∨ cause.val = 9 → exec (.domainIsolate d cause detail addr) s = .next s) ∧
    (s.up d = true → causeOf cause.val d = true → cause.val ≠ 9 → d ≠ .common →
      Answers (exec (.domainIsolate d cause detail addr) s) (held cause.val detail addr)) ∧
    (d = .common → s.up d = true → causeOf cause.val d = true → s.com.dumpBuf = none → s.isolatedOften .common < 3 →
      Answers (exec (.domainIsolate d cause detail addr) s) fun t =>
        t.domSt .common = .isolated ∧ (∀ e, e ≠ .common → t.domSt e = s.domSt e) ∧ t.com.steward = false ∧ t.com.mb0 = none ∧
        t.com.mb1 = none ∧ t.com.switches = [] ∧ (∃ x, t.com.retained = some x ∧ x.retained = true ∧ x.iso.dom = .common ∧ x.iso.cause = cause.val ∧ x.iso.detail = detail ∧ x.iso.addr = addr ∧ x.iso.since = s.real) ∧
        t.flash0 = s.flash0 ∧ t.flash1 = s.flash1 ∧ t.ink.still = s.ink.still) ∧
    (s.up .common = true → s.planeUp .a = true → s.planeUp .b = true → s.laneUp .l0 = true → s.laneUp .l1 = true →
      domBltBit d < 4 → mask.val = 2 ^ domBltBit d → Answers (exec (.isolate mask) s) (held 9 0 0)) ∧
    (s.up .common = true → s.up d = true → bitAt mask.val (domBltBit d) = true →
      (∃ l : Lane, d = .lane l ∧ (s.laneUp l.other = false ∨ bitAt mask.val (domBltBit (.lane l.other)) = true)) ∨
        (∃ p : Plane, d = .plane p ∧ (s.planeUp p.other = false ∨ bitAt mask.val (domBltBit (.plane p.other)) = true)) →
      exec (.isolate mask) s = .next s)

/-- After its capture, or HOLD_MAX without one, an isolated domain is reset and RESTARTING, or held until RESTART; then the dump
goes to its slot (R438, R439, R440, R441). For an isolated plane or lane: the end of its capture stops the capture; HOLD_MAX
ms without capture, counted from the later of isolation and Common's last return, end its wait. Where AUTO is set and
LIMITED is not it is then RESTARTING, its isolation record gone, its registers and State fields as after reset, every other
domain in its state; otherwise every domain stays and its record is marked captured. RESTART of a captured domain restarts
it whatever AUTO and clears LIMITED; where no named domain is isolated and captured it changes nothing. The write of the
buffer leaves the flash below the Blotter area and the lane memories as they were, and the buffer empty or capturing an
isolated domain. exec is concluded to answer a next state, with this effect, for: bltRestart, dumpCaptureEnd, holdMaxExpire,
dumpWritten. -/
def Obligations.CaptureAndRelease : Prop :=
  ∀ (d : Dom) (mask : Fin 16) (x : Dump) (y : Isolation) (s : State), d ≠ .common → d ≠ .inkwell →
    let restarted := fun (t : State) =>
      t.domSt d = .restarting ∧ (∀ e, e ≠ d → t.domSt e = s.domSt e) ∧ t.com.isos = s.com.isos.filter (fun z => decide (z.dom ≠ d)) ∧
      (match d with
        | .plane p => t.plane p = .empty ∧ ∀ a, planeBase p ≤ a → a < planeBase p + 0x1000000 → assocGet t.regs a = none
        | .lane l => t.lane l = .empty ∧ ∀ a, laneBase l ≤ a → a < laneBase l + 0x10000000 → assocGet t.regs a = none
        | _ => False)
    let kept := fun (t : State) =>
      (∀ e, t.domSt e = s.domSt e) ∧
      t.com.isos = s.com.isos.map (fun z => if z.dom = d then { z with captured := true } else z)
    (s.com.dumpBuf = some x → x.running = true → x.iso.dom = d → s.up .common = true →
      Answers (exec .dumpCaptureEnd s) fun t =>
        t.com.dumpBuf = some { x with running := false } ∧ (s.mayRestart d = true → restarted t) ∧ (s.mayRestart d = false → kept t) ∧
        t.mem0 = s.mem0 ∧ t.mem1 = s.mem1) ∧
    (s.waiting d = some y →
      Answers (exec (.holdMaxExpire d) s) fun t =>
        max y.since s.com.upAt + s.fld .blt F.BLT_CFG_HOLD_MAX * (1000000 * 65536) ≤ t.real ∧ t.com.dumpBuf = s.com.dumpBuf ∧
        (s.mayRestart d = true → restarted t) ∧ (s.mayRestart d = false → kept t) ∧ t.mem0 = s.mem0 ∧ t.mem1 = s.mem1) ∧
    (s.up .common = true → mask.val = 2 ^ domBltBit d → s.domSt d = .isolated →
      s.com.isos.any (fun z => decide (z.dom = d) && z.captured) = true →
      Answers (exec (.bltRestart mask) s) fun t =>
        restarted t ∧ bitAt (t.fld .blt F.BLT_STATUS_LIMITED) (domBltBit d) = false ∧ t.mem0 = s.mem0 ∧ t.mem1 = s.mem1) ∧
    ((∀ e, e ≠ .common → e ≠ .inkwell → bitAt mask.val (domBltBit e) = true →
        s.domSt e ≠ .isolated ∨ s.com.isos.any (fun z => decide (z.dom = e) && z.captured) = false) →
      exec (.bltRestart mask) s = .next s) ∧
    (MemsWf s → s.com.dumpBuf = some x → x.running = false → s.up .common = true → s.com.steward = true →
      Answers (exec .dumpWritten s) fun t =>
        (t.com.dumpBuf = none ∨ ∃ z, t.com.dumpBuf = some z ∧ z.running = true ∧ z.iso ∈ s.com.isos) ∧
        (∀ a, a < 0x3E000000 → memGet 0xFF t.flash0 a = memGet 0xFF s.flash0 a ∧ memGet 0xFF t.flash1 a = memGet 0xFF s.flash1 a) ∧
        (∀ e, t.domSt e = s.domSt e) ∧ t.mem0 = s.mem0 ∧ t.mem1 = s.mem1 ∧ t.com.isos = s.com.isos)

/-- DUMP_READ copies the valid dump with the lowest SEQ and gives its LEN; DUMP_CLEAR erases that slot alone (R61, R441, R442).
With no lane UP DUMP_READ ends in NOLANE. With no valid dump it ends OK with 0 and DUMP_CLEAR ends OK, and nothing changes.
With one: DUMP_READ with ARG2 below its LEN ends in BADARG with that LEN and copies nothing; with room in lane memory, a
lane UP and page logging off it ends OK with LEN and the octets one flash device holds stand at the address in each UP lane,
or in FLASH with lane memory as it was. DUMP_CLEAR leaves every byte outside the slot of both devices and lane memory as
they were; it ends OK, with the slot erased on each device that met no error, or in FLASH when both did. Whether a device
errs is a free value. exec is concluded to answer a next state, with this effect, for: dumpRead, dumpClear. -/
def Obligations.DumpCommands : Prop :=
  ∀ (ch : Fin 2) (tag : BitVec 16) (addr : BitVec 64) (m : Word) (s : State), MemsWf s →
    let args := addrArgs addr ++ [m.toNat]
    (MboxReady s ch 0x30 → addr.toNat + m.toNat ≤ 0x400000000 → s.upLanes ≠ [] → (∀ l, s.bit (.ins l) F.INS_DIRTY_CTL_EN = false) →
      Answers (exec (.dumpRead ch tag addr m) s) fun t =>
        match s.firstDump with
        | none => MboxRuns t ch 0x30 tag args 0 [0] false ∧ MboxOnly ch s t
        | some (n, _, len) =>
          if m.toNat < len then MboxRuns t ch 0x30 tag args 2 [len] false ∧ MboxOnly ch s t
          else (MboxRuns t ch 0x30 tag args 0 [len] false ∧
              ∃ k < 2, ∀ l, s.laneUp l = true → t.mem l addr.toNat len = s.flash k (0x3E000000 + n * 0x800000) len) ∨
            (MboxRuns t ch 0x30 tag args 0x0B [] false ∧ t.mem0 = s.mem0 ∧ t.mem1 = s.mem1)) ∧
    (MboxReady s ch 0x30 → s.upLanes = [] → Answers (exec (.dumpRead ch tag addr m) s) fun t => MboxRuns t ch 0x30 tag args 0x12 [] false ∧ MboxOnly ch s t) ∧
    (MboxReady s ch 0x31 →
      Answers (exec (.dumpClear ch tag) s) fun t =>
        match s.firstDump with
        | none => MboxRuns t ch 0x31 tag [] 0 [] false ∧ MboxOnly ch s t
        | some (n, _, _) =>
          let base := 0x3E000000 + n * 0x800000
          let e0 := Config.flashError s.freeCtr
          let e1 := Config.flashError (s.freeCtr + 1)
          MboxRuns t ch 0x31 tag [] (if s.flashOff || (e0 && e1) then 0x0B else 0) [] false ∧
          (∀ a, a < base ∨ base + 0x800000 ≤ a →
            memGet 0xFF t.flash0 a = memGet 0xFF s.flash0 a ∧ memGet 0xFF t.flash1 a = memGet 0xFF s.flash1 a) ∧
          (∀ a, base ≤ a → a < base + 0x800000 → s.flashOff = false →
            (e0 = false → memGet 0xFF t.flash0 a = 0xFF) ∧ (e1 = false → memGet 0xFF t.flash1 a = 0xFF)) ∧
          t.mem0 = s.mem0 ∧ t.mem1 = s.mem1 ∧ t.dom = s.dom ∧
          RegsOutside [stwAt ch, regAt .blt .BLT_STATUS, evrAt] s t)

/-- Common restarts 1 ms after isolation and domains come UP; a bank out of range is LOW; a sensor at LIMIT sets its ALARM bit
(R425, R434, R439, R31, R453, R460). COMMON_RESTART of an isolated Common whose state is kept leaves it RESTARTING at least
1 ms after the isolation, and the state kept, the dump buffer, flash, every other domain's state, the lane memories and
every register outside Common's block but the lanes' CFG_TIME_FOLLOW as they were. DOMAIN_UP of a restarting domain leaves
it UP and every other domain in its state, and of any other domain changes nothing; a lane comes UP rolled out exactly when
the other lane is UP and has handed over, and with no steward running lane memory stays. An uncorrectable core read in an UP
lane counts one more, saturating, in that lane's BLT_UNC and lists the error with its address; nothing else but the event
recorder changes; a single-bit error met with it is counted first in BLT_CORR. A bank within range that falls is listed out
of range and, with Common UP, its LOW bit is set; domains stay, but for bank VIO_F, which puts every domain but Inkwell OFF.
A bank already out of range changes nothing. A bank that returns is listed no more. With Common UP, TEMP_ALARM's command
stores the sensor's temperature and the largest seen; at or above LIMIT it sets the sensor's ALARM bit, below it leaves the
alarm register as it was. Nothing but those registers and the event recorder changes. exec is concluded to answer a next
state, with this effect, for: commonRestart, domainUp, coreReadUncorrectable, vioBankLow, vioBankRestore, tempAlarm. -/
def Obligations.RestartAndSupplies : Prop :=
  (∀ (d : Dom) (l : Lane) (addr : Nat) (x : Dump) (s : State),
    (s.com.retained = some x → s.domSt .common = .isolated →
      Answers (exec .commonRestart s) fun t =>
        t.domSt .common = .restarting ∧ (∀ e, e ≠ .common → t.domSt e = s.domSt e) ∧ x.iso.since + 1000000 * 65536 ≤ t.real ∧
        t.com.retained = s.com.retained ∧ t.com.dumpBuf = s.com.dumpBuf ∧ t.flash0 = s.flash0 ∧ t.flash1 = s.flash1 ∧ t.mem0 = s.mem0 ∧ t.mem1 = s.mem1 ∧
        (RegsWf s → RegsOutside (commonAt_ :: followsAt) s t) ∧
        (∀ a, commonBase + 0x800000 ≤ a → a < commonBase + 0x1000000 → assocGet t.regs a = none)) ∧
    (s.domSt d = .restarting →
      Answers (exec (.domainUp d) s) fun t =>
        (d ≠ .inkwell → t.domSt d = .up) ∧ (∀ e, e ≠ d → t.domSt e = s.domSt e) ∧
        (d = .lane l → (t.rolledOut l = true ↔ s.laneUp l.other = true ∧ s.handed l.other = true)) ∧
        (s.com.steward = false → t.mem0 = s.mem0 ∧ t.mem1 = s.mem1) ∧ (d = .common → t.com.owed = [] ∧ t.com.upAt = s.real)) ∧
    (s.domSt d ≠ .restarting → exec (.domainUp d) s = .next s) ∧
    (s.laneUp l = true → exec (.coreReadUncorrectable l addr true) s = exec (.coreReadUncorrectable l addr false) (s.countCorr (.lane l))) ∧
    (s.laneUp l = true →
      Answers (exec (.coreReadUncorrectable l addr false) s) fun t =>
        t.fld .blt F.BLT_UNC_COUNT (domBltIdx (.lane l)) = min (s.fld .blt F.BLT_UNC_COUNT (domBltIdx (.lane l)) + 1) (2 ^ 32 - 1) ∧
        t.com.memErr.getLast? = some (.lane l, s.evTime (.lane l), addr) ∧ RegsOutside [regAt .blt .BLT_UNC (domBltIdx (.lane l)), evrAt] s t ∧
        { t.quiet with com := { t.com with memErr := s.com.memErr } } = s.quiet)) ∧
  (∀ (b : Fin 6) (k : Fin 5) (temp : BitVec 16) (s : State),
    (b.val ∈ s.com.lowBanks → exec (.vioBankLow b) s = .next s) ∧
    (b.val ∉ s.com.lowBanks →
      Answers (exec (.vioBankLow b) s) fun t =>
        t.com.lowBanks = s.com.lowBanks ++ [b.val] ∧ t.flash0 = s.flash0 ∧ t.flash1 = s.flash1 ∧
        (b.val ≠ 5 → (∀ e, t.domSt e = s.domSt e) ∧ (s.up .common = true → bitAt (t.fld .pwr F.PWR_BANK_STATUS_LOW) b.val = true)) ∧
        (b.val = 5 → t.dom = ⟨.off, .off, .off, .off, .off, s.dom.inkwell⟩ ∧ t.mem0 = s.mem0 ∧ t.mem1 = s.mem1)) ∧
    (b.val ∈ s.com.lowBanks →
      Answers (exec (.vioBankRestore b) s) fun t =>
        t.com.lowBanks = s.com.lowBanks.erase b.val ∧ t.dom = s.dom ∧ t.flash0 = s.flash0 ∧ t.flash1 = s.flash1) ∧
    (s.up .common = true →
      Answers (exec (.tempAlarm k temp) s) fun t =>
        t.fld .pwr F.PWR_TEMP_TEMP k.val = temp.toNat ∧
        signedOf 16 (t.fld .pwr F.PWR_TEMP_MAX k.val) = max (signedOf 16 (s.fld .pwr F.PWR_TEMP_MAX k.val)) temp.toInt ∧
        (signedOf 16 (s.fld .pwr F.PWR_TEMP_ALARM_LIMIT) ≤ temp.toInt → bitAt (t.fld .pwr F.PWR_TEMP_ALARM_ALARM) k.val = true) ∧
        (temp.toInt < signedOf 16 (s.fld .pwr F.PWR_TEMP_ALARM_LIMIT) → t.rd .pwr .PWR_TEMP_ALARM = s.rd .pwr .PWR_TEMP_ALARM) ∧
        RegsOutside [regAt .pwr .PWR_TEMP k.val, regAt .pwr .PWR_TEMP_ALARM, evrAt] s t ∧ t.quiet = s.quiet))

/-- A counter-clear command zeroes every counter of its unit and nothing else, and does nothing while the unit's domain is not
UP (R111, R135, R158, R186, R209, R237, R255, R277, R307, R337, R363, R379). With the domain UP each of the twelve commands
leaves every counter of its unit 0 (the port's 26, the plane's 12 and ten of each of 15 ports, and the lanes' rows with the
number each chapter binds), the stream trackers' counts and the slots' saturation counts 0 with the ingest's and the filter
bank's, QUL_HIST 0 and each Quill group's longest wait 0 with Quill's, the HI words latched for the byte counters 0 with an
external port's, and every other register and the rest of the state as before. With the domain not UP nothing changes. exec
is concluded to answer a next state, with this effect, for: prtCntClr, pswCntClr, ingCntClr, fltCntClr, qulCntClr,
opsCntClr, mapCntClr, scrCntClr, pubCntClr, drcCntClr, insOcntClr, fbsCntClr. -/
def Obligations.CounterClears : Prop :=
  ∀ (p : Plane) (l : Lane) (port : Fin 15) (k : Fin 32) (o : Fin 65) (c : Fin 4) (s : State),
    let zero := fun (t : State) (pg : Page) (r : RegId) (n : Nat) => ∀ j < n, t.rd pg r j = 0
    let clears := fun (i : Instr) (pg : Page) (r : RegId) (n : Nat) =>
      Answers (exec i s) fun t => zero t pg r n ∧ RegsOutside [rowAt pg r n] s t ∧ t.body = s.body
    (s.planeUp p = false → exec (.prtCntClr p port) s = .next s ∧ exec (.pswCntClr p) s = .next s) ∧
    (s.planeUp p = true → (11 ≤ port.val → clears (.prtCntClr p port) (.prt p port) .PRT_CNT 26) ∧
      (port.val < 11 → Answers (exec (.prtCntClr p port) s) fun t => zero t (.prt p port) .PRT_CNT 26 ∧ RegsOutside [rowAt (.prt p port) .PRT_CNT 26] s t ∧
        t.mac p port = { s.mac p port with rxHi := 0, txHi := 0 } ∧ t.body = (s.setMac p port (t.mac p port)).body) ∧
      Answers (exec (.pswCntClr p) s) fun t => zero t (.psw p) .PSW_PCNT 12 ∧ (∀ i < 15, zero t (.pswPort p i) .PSW_CNT 10) ∧ t.body = s.body ∧
        RegsOutside (rowAt (.psw p) .PSW_PCNT 12 :: (List.range 15).map fun i => rowAt (.pswPort p i) .PSW_CNT 10) s t) ∧
    (s.laneUp l = false → ∀ i ∈ [Instr.ingCntClr l, .fltCntClr l, .qulCntClr l, .opsCntClr l, .mapCntClr l, .scrCntClr l k, .pubCntClr l, .drcCntClr l, .insOcntClr l o],
      exec i s = .next s) ∧
    (s.laneUp (fbLane c) = false → exec (.fbsCntClr c) s = .next s) ∧ (s.laneUp (fbLane c) = true → clears (.fbsCntClr c) (fbPg c) .FBS_CNT 14) ∧
    (s.laneUp l = true → clears (.opsCntClr l) (.ops l) .OPS_CNT 6 ∧ clears (.mapCntClr l) (.map l) .MAP_CNT 17 ∧ clears (.scrCntClr l k) (.scr l k) .SCR_CNT 7 ∧
      clears (.pubCntClr l) (.pub l) .PUB_CNT 7 ∧ clears (.drcCntClr l) (.drc l) .DRC_CNT 8 ∧ clears (.insOcntClr l o) (.insPage l o) .INS_OCNT 5 ∧
      (Answers (exec (.ingCntClr l) s) fun t => zero t (.ing l) .ING_CNT 11 ∧ t.body = s.body ∧ RegsOutside [rowAt (.ing l) .ING_CNT 11, (strRec l 0, 0x40000)] s t ∧
        ∀ n < 4096, ∀ f ∈ [E.T6_10_FRAMES, E.T6_10_MISSED, E.T6_10_LATE, E.T6_10_LOSSES, E.T6_10_DISCONT, E.T6_10_AUTH_FAIL, E.T6_10_NONPREF, E.T6_10_REANCHOR], t.ent (strRec l n) f = 0) ∧
      (Answers (exec (.fltCntClr l) s) fun t => zero t (.flt l) .FLT_CNT 7 ∧ t.body = s.body ∧ RegsOutside [rowAt (.flt l) .FLT_CNT 7, (slotRec l 0, 0x20000)] s t ∧
        ∀ i < 8192, t.ent (slotRec l i) E.T7_8_SAT = 0) ∧
      Answers (exec (.qulCntClr l) s) fun t => zero t (.qul l) .QUL_CNT 7 ∧ zero t (.qul l) .QUL_HIST 16 ∧ RegsOutside [rowAt (.qul l) .QUL_CNT 7, rowAt (.qul l) .QUL_HIST 16] s t ∧
        (∀ g, (t.grpSt l g).waitMax = 0 ∧ { t.grpSt l g with waitMax := 0 } = { s.grpSt l g with waitMax := 0 }) ∧
        t.body = (s.setQuill l { (s.lane l).quill with groups := (t.lane l).quill.groups }).body)

/-- Every step keeps the memories, the flash, the event ring and the register file in their one canonical form
(01_device_architecture.md, 17_inkwell.md, 95_what_each_step_holds.md). For every state whose lane memories, flash devices
and event ring are in canonical form (addresses strictly rising, no byte listed at the value an unlisted address reads as)
and whose register file lists its addresses in rising order, whatever step answers is such a state again. The canonical form
is the model's own: it makes equal contents equal data. -/
def Obligations.StoresStayCanonical : Prop :=
  ∀ s t : State, MemsWf s → RegsWf s → step s = .next t → MemsWf t ∧ RegsWf t
end

