-- ==== Sys2Proof/Laws/Store.lean ====
section
/-!
SUPPORT. Laws of the sparse stores: what a read after a write gives, that writes keep the keys rising, and that every memory
operation keeps the canonical form.
-/

namespace Sys2Proof.Machine
open Sys2Proof

/-! Association lists. -/

/-- A read of the key just put. -/
@[simp] theorem assocGet_put_same {β : Type} (t : List (Nat × β)) (a : Nat) (b : β) : assocGet (assocPut t a b) a = some b := by
  induction t with
  | nil => simp [assocPut, assocGet]
  | cons e t ih =>
    obtain ⟨k, v⟩ := e
    unfold assocPut
    split
    · simp [assocGet]
    · split
      · simp [assocGet]
      · rename_i h1 h2
        simp [assocGet, h1, h2, ih]

/-- A read of another key than the one put. -/
theorem assocGet_put_other {β : Type} (t : List (Nat × β)) (a c : Nat) (b : β) (h : c ≠ a) :
    assocGet (assocPut t a b) c = assocGet t c := by
  induction t with
  | nil =>
    simp only [assocPut, assocGet, h, if_false]
    split <;> rfl
  | cons e t ih =>
    obtain ⟨k, v⟩ := e
    unfold assocPut
    split
    · rename_i h1
      subst h1
      simp [assocGet, h]
    · split
      · rename_i h1 h2
        rw [assocGet]
        simp only [h, if_false]
        split
        · rename_i h3
          have : ¬ c = k := by omega
          have : c < k := by omega
          simp [assocGet, *]
        · rfl
      · simp only [assocGet, ih]

/-- The default read after a put. -/
@[simp] theorem assocGetD_put_same {β : Type} (t : List (Nat × β)) (a : Nat) (b d : β) : assocGetD (assocPut t a b) a d = b := by
  simp [assocGetD]

/-- The default read of another key after a put. -/
theorem assocGetD_put_other {β : Type} (t : List (Nat × β)) (a c : Nat) (b d : β) (h : c ≠ a) :
    assocGetD (assocPut t a b) c d = assocGetD t c d := by
  simp [assocGetD, assocGet_put_other t a c b h]

/-- Rising keys, as a property of the tail and of every key in it. -/
theorem assocSorted_cons {β : Type} (k : Nat) (v : β) (t : List (Nat × β)) :
    assocSorted ((k, v) :: t) = true ↔ (∀ e ∈ t, k < e.1) ∧ assocSorted t = true := by
  induction t generalizing k v with
  | nil => simp [assocSorted]
  | cons e t ih =>
    obtain ⟨k', v'⟩ := e
    simp only [assocSorted, Bool.and_eq_true, decide_eq_true_eq, List.mem_cons, forall_eq_or_imp]
    constructor
    · rintro ⟨h1, h2⟩
      refine ⟨⟨h1, fun x hx => ?_⟩, h2⟩
      have := ((ih k' v').1 h2).1 x hx
      omega
    · rintro ⟨⟨h1, _⟩, h2⟩
      exact ⟨h1, h2⟩

/-- The entries after a put. -/
theorem mem_assocPut {β : Type} (t : List (Nat × β)) (a : Nat) (b : β) (e : Nat × β) (h : e ∈ assocPut t a b) :
    e = (a, b) ∨ e ∈ t := by
  induction t with
  | nil => simpa [assocPut] using h
  | cons x t ih =>
    obtain ⟨k, v⟩ := x
    unfold assocPut at h
    split at h
    · simp at h ⊢; tauto
    · split at h
      · simp at h ⊢; tauto
      · simp only [List.mem_cons] at h ⊢
        rcases h with h | h
        · exact Or.inr (Or.inl h)
        · rcases ih h with h | h
          · exact Or.inl h
          · exact Or.inr (Or.inr h)

/-- The entries after a removal. -/
theorem mem_assocDel {β : Type} (t : List (Nat × β)) (a : Nat) (e : Nat × β) (h : e ∈ assocDel t a) : e ∈ t := by
  induction t with
  | nil => simpa [assocDel] using h
  | cons x t ih =>
    obtain ⟨k, v⟩ := x
    unfold assocDel at h
    split at h
    · exact List.mem_cons_of_mem _ h
    · split at h
      · exact h
      · simp only [List.mem_cons] at h ⊢
        rcases h with h | h
        · exact Or.inl h
        · exact Or.inr (ih h)

/-- A put keeps the keys rising. -/
theorem assocSorted_put {β : Type} (t : List (Nat × β)) (a : Nat) (b : β) (h : assocSorted t = true) :
    assocSorted (assocPut t a b) = true := by
  induction t with
  | nil => simp [assocPut, assocSorted]
  | cons x t ih =>
    obtain ⟨k, v⟩ := x
    rw [assocSorted_cons] at h
    unfold assocPut
    split
    · rename_i h1; subst h1; rw [assocSorted_cons]; exact h
    · split
      · rename_i h1 h2
        rw [assocSorted_cons]
        refine ⟨?_, (assocSorted_cons k v t).2 h⟩
        intro e he
        rcases List.mem_cons.1 he with rfl | he
        · exact h2
        · have := h.1 e he; omega
      · rename_i h1 h2
        rw [assocSorted_cons]
        refine ⟨?_, ih h.2⟩
        intro e he
        rcases mem_assocPut t a b e he with rfl | he
        · simp; omega
        · exact h.1 e he

/-- A removal keeps the keys rising. -/
theorem assocSorted_del {β : Type} (t : List (Nat × β)) (a : Nat) (h : assocSorted t = true) : assocSorted (assocDel t a) = true := by
  induction t with
  | nil => simp [assocDel, assocSorted]
  | cons x t ih =>
    obtain ⟨k, v⟩ := x
    rw [assocSorted_cons] at h
    unfold assocDel
    split
    · exact h.2
    · split
      · exact (assocSorted_cons k v t).2 h
      · rw [assocSorted_cons]
        exact ⟨fun e he => h.1 e (mem_assocDel t a e he), ih h.2⟩

/-- A filter keeps the keys rising. -/
theorem assocSorted_filter {β : Type} (t : List (Nat × β)) (f : Nat × β → Bool) (h : assocSorted t = true) :
    assocSorted (t.filter f) = true := by
  induction t with
  | nil => simp [assocSorted]
  | cons x t ih =>
    obtain ⟨k, v⟩ := x
    rw [assocSorted_cons] at h
    rw [List.filter_cons]
    split
    · rw [assocSorted_cons]
      exact ⟨fun e he => h.1 e (List.mem_filter.1 he).1, ih h.2⟩
    · exact ih h.2

/-- A key below every key of a list reads as nothing. -/
theorem assocGet_none {β : Type} (t : List (Nat × β)) (a : Nat) (h : ∀ e ∈ t, a < e.1) : assocGet t a = none := by
  cases t with
  | nil => rfl
  | cons x t =>
    obtain ⟨k, v⟩ := x
    have := h (k, v) (by simp)
    simp at this
    simp [assocGet, this]
    omega

/-- A read of the key removed. -/
theorem assocGet_del_same {β : Type} (t : List (Nat × β)) (a : Nat) (h : assocSorted t = true) : assocGet (assocDel t a) a = none := by
  induction t with
  | nil => rfl
  | cons x t ih =>
    obtain ⟨k, v⟩ := x
    rw [assocSorted_cons] at h
    unfold assocDel
    split
    · rename_i h1; subst h1; exact assocGet_none t a h.1
    · split
      · rename_i h1 h2; simp [assocGet, h1, h2]
      · rename_i h1 h2; simp [assocGet, h1, h2, ih h.2]

/-- A read of another key than the one removed. -/
theorem assocGet_del_other {β : Type} (t : List (Nat × β)) (a c : Nat) (h : assocSorted t = true) (hc : c ≠ a) :
    assocGet (assocDel t a) c = assocGet t c := by
  induction t with
  | nil => rfl
  | cons x t ih =>
    obtain ⟨k, v⟩ := x
    rw [assocSorted_cons] at h
    unfold assocDel
    split
    · rename_i h1
      subst h1
      rw [assocGet]
      simp only [hc, if_false]
      split
      · rename_i h3
        exact assocGet_none t c (fun e he => by have := h.1 e he; omega)
      · rfl
    · split
      · rfl
      · simp only [assocGet, ih h.2]

/-! Memories. -/

/-- Rising keys of a canonical memory. -/
theorem memWf_sorted (d : Byte) (m : Mem) (h : memWf d m = true) : assocSorted m = true := by
  simp [memWf] at h; exact h.1

/-- One byte written keeps the canonical form. -/
theorem memWf_set (d : Byte) (m : Mem) (a : Nat) (b : Byte) (h : memWf d m = true) : memWf d (memSet d m a b) = true := by
  simp only [memWf, Bool.and_eq_true, List.all_eq_true, decide_eq_true_eq] at h ⊢
  unfold memSet assocSet
  split
  · exact ⟨assocSorted_del m a h.1, fun e he => h.2 e (mem_assocDel m a e he)⟩
  · refine ⟨assocSorted_put m a b h.1, fun e he => ?_⟩
    rcases mem_assocPut m a b e he with rfl | he
    · assumption
    · exact h.2 e he

/-- Bytes written keep the canonical form. -/
theorem memWf_write (d : Byte) (m : Mem) (a : Nat) (l : List Byte) (h : memWf d m = true) : memWf d (memWrite d m a l) = true := by
  induction l generalizing m a with
  | nil => exact h
  | cons b t ih => exact ih (memSet d m a b) (a + 1) (memWf_set d m a b h)

/-- Bytes removed keep the canonical form. -/
theorem memWf_filter (d : Byte) (m : Mem) (f : Nat × Byte → Bool) (h : memWf d m = true) : memWf d (m.filter f) = true := by
  simp only [memWf, Bool.and_eq_true, List.all_eq_true, decide_eq_true_eq] at h ⊢
  exact ⟨assocSorted_filter m f h.1, fun e he => h.2 e (List.mem_filter.1 he).1⟩

/-- A read of the byte just written. -/
theorem memGet_set_same (d : Byte) (m : Mem) (a : Nat) (b : Byte) (h : memWf d m = true) : memGet d (memSet d m a b) a = b := by
  unfold memGet assocGetD memSet assocSet
  split
  · rename_i hb; simp [assocGet_del_same m a (memWf_sorted d m h), hb]
  · simp

/-- A write leaves every other byte. -/
theorem memGet_set_other (d : Byte) (m : Mem) (a c : Nat) (b : Byte) (h : memWf d m = true) (hc : c ≠ a) :
    memGet d (memSet d m a b) c = memGet d m c := by
  unfold memGet assocGetD memSet assocSet
  split
  · simp [assocGet_del_other m a c (memWf_sorted d m h) hc]
  · simp [assocGet_put_other m a c b hc]

/-- Bytes written leave every byte outside them. -/
theorem memGet_write_other (d : Byte) (m : Mem) (a c : Nat) (l : List Byte) (h : memWf d m = true)
    (hc : c < a ∨ a + l.length ≤ c) : memGet d (memWrite d m a l) c = memGet d m c := by
  induction l generalizing m a with
  | nil => rfl
  | cons b t ih =>
    simp only [List.length_cons] at hc
    rw [memWrite, ih _ _ (memWf_set d m a b h) (by omega), memGet_set_other d m a c b h (by omega)]

/-- Bytes just written are read back. -/
theorem memRead_write (d : Byte) (m : Mem) (a : Nat) (l : List Byte) (h : memWf d m = true) :
    memRead d (memWrite d m a l) a l.length = l := by
  induction l generalizing m a with
  | nil => rfl
  | cons b t ih =>
    simp only [List.length_cons, memRead, memWrite]
    rw [ih _ _ (memWf_set d m a b h), memGet_write_other d _ (a + 1) a t (memWf_set d m a b h) (by omega),
      memGet_set_same d m a b h]

/-- Bytes read beside the bytes written are as before. -/
theorem memRead_write_other (d : Byte) (m : Mem) (a c n : Nat) (l : List Byte) (h : memWf d m = true)
    (hc : c + n ≤ a ∨ a + l.length ≤ c) : memRead d (memWrite d m a l) c n = memRead d m c n := by
  induction n generalizing c with
  | zero => rfl
  | succ n ih => rw [memRead, memRead, ih _ (by omega), memGet_write_other d m a c l h (by omega)]

/-! Bit fields of numbers. -/

/-- A field is below its width. -/
theorem bitsOf_lt (v hi lo : Nat) : bitsOf v hi lo < 2 ^ (hi + 1 - lo) := Nat.mod_lt _ (Nat.pos_of_ne_zero (by simp))

/-- A number splits at a field: what lies below, the field, and what lies above. -/
theorem bitsOf_split (v hi lo : Nat) :
    v = v % 2 ^ lo + bitsOf v hi lo * 2 ^ lo + (v / 2 ^ lo / 2 ^ (hi + 1 - lo)) * 2 ^ (hi + 1 - lo) * 2 ^ lo := by
  have h1 := Nat.div_add_mod v (2 ^ lo)
  have h2 := Nat.div_add_mod (v / 2 ^ lo) (2 ^ (hi + 1 - lo))
  unfold bitsOf
  calc v = 2 ^ lo * (v / 2 ^ lo) + v % 2 ^ lo := h1.symm
    _ = 2 ^ lo * (2 ^ (hi + 1 - lo) * (v / 2 ^ lo / 2 ^ (hi + 1 - lo)) + v / 2 ^ lo % 2 ^ (hi + 1 - lo)) + v % 2 ^ lo := by rw [h2]
    _ = _ := by ring

/-- The number after a field is replaced, in the same three parts. -/
theorem bitsPut_split (v hi lo x : Nat) :
    bitsPut v hi lo x =
      v % 2 ^ lo + (x % 2 ^ (hi + 1 - lo)) * 2 ^ lo + (v / 2 ^ lo / 2 ^ (hi + 1 - lo)) * 2 ^ (hi + 1 - lo) * 2 ^ lo := by
  have h := bitsOf_split v hi lo
  unfold bitsPut
  omega

/-- The field just put reads as what was put. -/
@[simp] theorem bitsOf_put_same (v hi lo x : Nat) : bitsOf (bitsPut v hi lo x) hi lo = x % 2 ^ (hi + 1 - lo) := by
  rw [bitsPut_split]
  unfold bitsOf
  have hp : 0 < 2 ^ lo := Nat.pos_of_ne_zero (by simp)
  have e : v % 2 ^ lo + x % 2 ^ (hi + 1 - lo) * 2 ^ lo + v / 2 ^ lo / 2 ^ (hi + 1 - lo) * 2 ^ (hi + 1 - lo) * 2 ^ lo =
      v % 2 ^ lo + 2 ^ lo * (x % 2 ^ (hi + 1 - lo) + 2 ^ (hi + 1 - lo) * (v / 2 ^ lo / 2 ^ (hi + 1 - lo))) := by ring
  rw [e, Nat.add_mul_div_left _ _ hp, Nat.div_eq_of_lt (Nat.mod_lt _ hp), Nat.zero_add, Nat.add_mul_mod_self_left, Nat.mod_mod]

end Sys2Proof.Machine
end

