-- ==== Sys2Proof/Laws/State.lean ====
section
/-!
SUPPORT. What each update of the State leaves of each field: one lemma per field per update.
-/

namespace Sys2Proof.Machine
open Sys2Proof

/-! wr. -/

@[simp] theorem State.wr_shreg (s : State) (p : Page) (r : RegId) (k : Nat) (v : Word) : (s.wr p r k v).shreg = s.shreg := rfl
@[simp] theorem State.wr_mem0 (s : State) (p : Page) (r : RegId) (k : Nat) (v : Word) : (s.wr p r k v).mem0 = s.mem0 := rfl
@[simp] theorem State.wr_mem1 (s : State) (p : Page) (r : RegId) (k : Nat) (v : Word) : (s.wr p r k v).mem1 = s.mem1 := rfl
@[simp] theorem State.wr_bg0 (s : State) (p : Page) (r : RegId) (k : Nat) (v : Word) : (s.wr p r k v).bg0 = s.bg0 := rfl
@[simp] theorem State.wr_bg1 (s : State) (p : Page) (r : RegId) (k : Nat) (v : Word) : (s.wr p r k v).bg1 = s.bg1 := rfl
@[simp] theorem State.wr_flash0 (s : State) (p : Page) (r : RegId) (k : Nat) (v : Word) : (s.wr p r k v).flash0 = s.flash0 := rfl
@[simp] theorem State.wr_flash1 (s : State) (p : Page) (r : RegId) (k : Nat) (v : Word) : (s.wr p r k v).flash1 = s.flash1 := rfl
@[simp] theorem State.wr_dom (s : State) (p : Page) (r : RegId) (k : Nat) (v : Word) : (s.wr p r k v).dom = s.dom := rfl
@[simp] theorem State.wr_pairQ (s : State) (p : Page) (r : RegId) (k : Nat) (v : Word) : (s.wr p r k v).pairQ = s.pairQ := rfl
@[simp] theorem State.wr_pa (s : State) (p : Page) (r : RegId) (k : Nat) (v : Word) : (s.wr p r k v).pa = s.pa := rfl
@[simp] theorem State.wr_pb (s : State) (p : Page) (r : RegId) (k : Nat) (v : Word) : (s.wr p r k v).pb = s.pb := rfl
@[simp] theorem State.wr_l0 (s : State) (p : Page) (r : RegId) (k : Nat) (v : Word) : (s.wr p r k v).l0 = s.l0 := rfl
@[simp] theorem State.wr_l1 (s : State) (p : Page) (r : RegId) (k : Nat) (v : Word) : (s.wr p r k v).l1 = s.l1 := rfl
@[simp] theorem State.wr_com (s : State) (p : Page) (r : RegId) (k : Nat) (v : Word) : (s.wr p r k v).com = s.com := rfl
@[simp] theorem State.wr_ink (s : State) (p : Page) (r : RegId) (k : Nat) (v : Word) : (s.wr p r k v).ink = s.ink := rfl
@[simp] theorem State.wr_pins (s : State) (p : Page) (r : RegId) (k : Nat) (v : Word) : (s.wr p r k v).pins = s.pins := rfl
@[simp] theorem State.wr_real (s : State) (p : Page) (r : RegId) (k : Nat) (v : Word) : (s.wr p r k v).real = s.real := rfl
@[simp] theorem State.wr_rdata (s : State) (p : Page) (r : RegId) (k : Nat) (v : Word) : (s.wr p r k v).rdata = s.rdata := rfl
@[simp] theorem State.wr_freeCtr (s : State) (p : Page) (r : RegId) (k : Nat) (v : Word) : (s.wr p r k v).freeCtr = s.freeCtr := rfl
@[simp] theorem State.wr_pending (s : State) (p : Page) (r : RegId) (k : Nat) (v : Word) : (s.wr p r k v).pending = s.pending := rfl

/-! setFld. -/

@[simp] theorem State.setFld_shreg (s : State) (p : Page) (f : Fld) (v k : Nat) : (s.setFld p f v k).shreg = s.shreg := rfl
@[simp] theorem State.setFld_mem0 (s : State) (p : Page) (f : Fld) (v k : Nat) : (s.setFld p f v k).mem0 = s.mem0 := rfl
@[simp] theorem State.setFld_mem1 (s : State) (p : Page) (f : Fld) (v k : Nat) : (s.setFld p f v k).mem1 = s.mem1 := rfl
@[simp] theorem State.setFld_bg0 (s : State) (p : Page) (f : Fld) (v k : Nat) : (s.setFld p f v k).bg0 = s.bg0 := rfl
@[simp] theorem State.setFld_bg1 (s : State) (p : Page) (f : Fld) (v k : Nat) : (s.setFld p f v k).bg1 = s.bg1 := rfl
@[simp] theorem State.setFld_flash0 (s : State) (p : Page) (f : Fld) (v k : Nat) : (s.setFld p f v k).flash0 = s.flash0 := rfl
@[simp] theorem State.setFld_flash1 (s : State) (p : Page) (f : Fld) (v k : Nat) : (s.setFld p f v k).flash1 = s.flash1 := rfl
@[simp] theorem State.setFld_dom (s : State) (p : Page) (f : Fld) (v k : Nat) : (s.setFld p f v k).dom = s.dom := rfl
@[simp] theorem State.setFld_pairQ (s : State) (p : Page) (f : Fld) (v k : Nat) : (s.setFld p f v k).pairQ = s.pairQ := rfl
@[simp] theorem State.setFld_pa (s : State) (p : Page) (f : Fld) (v k : Nat) : (s.setFld p f v k).pa = s.pa := rfl
@[simp] theorem State.setFld_pb (s : State) (p : Page) (f : Fld) (v k : Nat) : (s.setFld p f v k).pb = s.pb := rfl
@[simp] theorem State.setFld_l0 (s : State) (p : Page) (f : Fld) (v k : Nat) : (s.setFld p f v k).l0 = s.l0 := rfl
@[simp] theorem State.setFld_l1 (s : State) (p : Page) (f : Fld) (v k : Nat) : (s.setFld p f v k).l1 = s.l1 := rfl
@[simp] theorem State.setFld_com (s : State) (p : Page) (f : Fld) (v k : Nat) : (s.setFld p f v k).com = s.com := rfl
@[simp] theorem State.setFld_ink (s : State) (p : Page) (f : Fld) (v k : Nat) : (s.setFld p f v k).ink = s.ink := rfl
@[simp] theorem State.setFld_pins (s : State) (p : Page) (f : Fld) (v k : Nat) : (s.setFld p f v k).pins = s.pins := rfl
@[simp] theorem State.setFld_real (s : State) (p : Page) (f : Fld) (v k : Nat) : (s.setFld p f v k).real = s.real := rfl
@[simp] theorem State.setFld_rdata (s : State) (p : Page) (f : Fld) (v k : Nat) : (s.setFld p f v k).rdata = s.rdata := rfl
@[simp] theorem State.setFld_freeCtr (s : State) (p : Page) (f : Fld) (v k : Nat) : (s.setFld p f v k).freeCtr = s.freeCtr := rfl
@[simp] theorem State.setFld_pending (s : State) (p : Page) (f : Fld) (v k : Nat) : (s.setFld p f v k).pending = s.pending := rfl

/-! setBit. -/

@[simp] theorem State.setBit_shreg (s : State) (p : Page) (f : Fld) (k : Nat) : (s.setBit p f k).shreg = s.shreg := rfl
@[simp] theorem State.setBit_mem0 (s : State) (p : Page) (f : Fld) (k : Nat) : (s.setBit p f k).mem0 = s.mem0 := rfl
@[simp] theorem State.setBit_mem1 (s : State) (p : Page) (f : Fld) (k : Nat) : (s.setBit p f k).mem1 = s.mem1 := rfl
@[simp] theorem State.setBit_bg0 (s : State) (p : Page) (f : Fld) (k : Nat) : (s.setBit p f k).bg0 = s.bg0 := rfl
@[simp] theorem State.setBit_bg1 (s : State) (p : Page) (f : Fld) (k : Nat) : (s.setBit p f k).bg1 = s.bg1 := rfl
@[simp] theorem State.setBit_flash0 (s : State) (p : Page) (f : Fld) (k : Nat) : (s.setBit p f k).flash0 = s.flash0 := rfl
@[simp] theorem State.setBit_flash1 (s : State) (p : Page) (f : Fld) (k : Nat) : (s.setBit p f k).flash1 = s.flash1 := rfl
@[simp] theorem State.setBit_dom (s : State) (p : Page) (f : Fld) (k : Nat) : (s.setBit p f k).dom = s.dom := rfl
@[simp] theorem State.setBit_pairQ (s : State) (p : Page) (f : Fld) (k : Nat) : (s.setBit p f k).pairQ = s.pairQ := rfl
@[simp] theorem State.setBit_pa (s : State) (p : Page) (f : Fld) (k : Nat) : (s.setBit p f k).pa = s.pa := rfl
@[simp] theorem State.setBit_pb (s : State) (p : Page) (f : Fld) (k : Nat) : (s.setBit p f k).pb = s.pb := rfl
@[simp] theorem State.setBit_l0 (s : State) (p : Page) (f : Fld) (k : Nat) : (s.setBit p f k).l0 = s.l0 := rfl
@[simp] theorem State.setBit_l1 (s : State) (p : Page) (f : Fld) (k : Nat) : (s.setBit p f k).l1 = s.l1 := rfl
@[simp] theorem State.setBit_com (s : State) (p : Page) (f : Fld) (k : Nat) : (s.setBit p f k).com = s.com := rfl
@[simp] theorem State.setBit_ink (s : State) (p : Page) (f : Fld) (k : Nat) : (s.setBit p f k).ink = s.ink := rfl
@[simp] theorem State.setBit_pins (s : State) (p : Page) (f : Fld) (k : Nat) : (s.setBit p f k).pins = s.pins := rfl
@[simp] theorem State.setBit_real (s : State) (p : Page) (f : Fld) (k : Nat) : (s.setBit p f k).real = s.real := rfl
@[simp] theorem State.setBit_rdata (s : State) (p : Page) (f : Fld) (k : Nat) : (s.setBit p f k).rdata = s.rdata := rfl
@[simp] theorem State.setBit_freeCtr (s : State) (p : Page) (f : Fld) (k : Nat) : (s.setBit p f k).freeCtr = s.freeCtr := rfl
@[simp] theorem State.setBit_pending (s : State) (p : Page) (f : Fld) (k : Nat) : (s.setBit p f k).pending = s.pending := rfl

/-! bump. -/

@[simp] theorem State.bump_shreg (s : State) (p : Page) (f : Fld) (k n : Nat) : (s.bump p f k n).shreg = s.shreg := rfl
@[simp] theorem State.bump_mem0 (s : State) (p : Page) (f : Fld) (k n : Nat) : (s.bump p f k n).mem0 = s.mem0 := rfl
@[simp] theorem State.bump_mem1 (s : State) (p : Page) (f : Fld) (k n : Nat) : (s.bump p f k n).mem1 = s.mem1 := rfl
@[simp] theorem State.bump_bg0 (s : State) (p : Page) (f : Fld) (k n : Nat) : (s.bump p f k n).bg0 = s.bg0 := rfl
@[simp] theorem State.bump_bg1 (s : State) (p : Page) (f : Fld) (k n : Nat) : (s.bump p f k n).bg1 = s.bg1 := rfl
@[simp] theorem State.bump_flash0 (s : State) (p : Page) (f : Fld) (k n : Nat) : (s.bump p f k n).flash0 = s.flash0 := rfl
@[simp] theorem State.bump_flash1 (s : State) (p : Page) (f : Fld) (k n : Nat) : (s.bump p f k n).flash1 = s.flash1 := rfl
@[simp] theorem State.bump_dom (s : State) (p : Page) (f : Fld) (k n : Nat) : (s.bump p f k n).dom = s.dom := rfl
@[simp] theorem State.bump_pairQ (s : State) (p : Page) (f : Fld) (k n : Nat) : (s.bump p f k n).pairQ = s.pairQ := rfl
@[simp] theorem State.bump_pa (s : State) (p : Page) (f : Fld) (k n : Nat) : (s.bump p f k n).pa = s.pa := rfl
@[simp] theorem State.bump_pb (s : State) (p : Page) (f : Fld) (k n : Nat) : (s.bump p f k n).pb = s.pb := rfl
@[simp] theorem State.bump_l0 (s : State) (p : Page) (f : Fld) (k n : Nat) : (s.bump p f k n).l0 = s.l0 := rfl
@[simp] theorem State.bump_l1 (s : State) (p : Page) (f : Fld) (k n : Nat) : (s.bump p f k n).l1 = s.l1 := rfl
@[simp] theorem State.bump_com (s : State) (p : Page) (f : Fld) (k n : Nat) : (s.bump p f k n).com = s.com := rfl
@[simp] theorem State.bump_ink (s : State) (p : Page) (f : Fld) (k n : Nat) : (s.bump p f k n).ink = s.ink := rfl
@[simp] theorem State.bump_pins (s : State) (p : Page) (f : Fld) (k n : Nat) : (s.bump p f k n).pins = s.pins := rfl
@[simp] theorem State.bump_real (s : State) (p : Page) (f : Fld) (k n : Nat) : (s.bump p f k n).real = s.real := rfl
@[simp] theorem State.bump_rdata (s : State) (p : Page) (f : Fld) (k n : Nat) : (s.bump p f k n).rdata = s.rdata := rfl
@[simp] theorem State.bump_freeCtr (s : State) (p : Page) (f : Fld) (k n : Nat) : (s.bump p f k n).freeCtr = s.freeCtr := rfl
@[simp] theorem State.bump_pending (s : State) (p : Page) (f : Fld) (k n : Nat) : (s.bump p f k n).pending = s.pending := rfl

/-! setWin. -/

@[simp] theorem State.setWin_shreg (s : State) (a : Nat) (v : Word) : (s.setWin a v).shreg = s.shreg := rfl
@[simp] theorem State.setWin_mem0 (s : State) (a : Nat) (v : Word) : (s.setWin a v).mem0 = s.mem0 := rfl
@[simp] theorem State.setWin_mem1 (s : State) (a : Nat) (v : Word) : (s.setWin a v).mem1 = s.mem1 := rfl
@[simp] theorem State.setWin_bg0 (s : State) (a : Nat) (v : Word) : (s.setWin a v).bg0 = s.bg0 := rfl
@[simp] theorem State.setWin_bg1 (s : State) (a : Nat) (v : Word) : (s.setWin a v).bg1 = s.bg1 := rfl
@[simp] theorem State.setWin_flash0 (s : State) (a : Nat) (v : Word) : (s.setWin a v).flash0 = s.flash0 := rfl
@[simp] theorem State.setWin_flash1 (s : State) (a : Nat) (v : Word) : (s.setWin a v).flash1 = s.flash1 := rfl
@[simp] theorem State.setWin_dom (s : State) (a : Nat) (v : Word) : (s.setWin a v).dom = s.dom := rfl
@[simp] theorem State.setWin_pairQ (s : State) (a : Nat) (v : Word) : (s.setWin a v).pairQ = s.pairQ := rfl
@[simp] theorem State.setWin_pa (s : State) (a : Nat) (v : Word) : (s.setWin a v).pa = s.pa := rfl
@[simp] theorem State.setWin_pb (s : State) (a : Nat) (v : Word) : (s.setWin a v).pb = s.pb := rfl
@[simp] theorem State.setWin_l0 (s : State) (a : Nat) (v : Word) : (s.setWin a v).l0 = s.l0 := rfl
@[simp] theorem State.setWin_l1 (s : State) (a : Nat) (v : Word) : (s.setWin a v).l1 = s.l1 := rfl
@[simp] theorem State.setWin_com (s : State) (a : Nat) (v : Word) : (s.setWin a v).com = s.com := rfl
@[simp] theorem State.setWin_ink (s : State) (a : Nat) (v : Word) : (s.setWin a v).ink = s.ink := rfl
@[simp] theorem State.setWin_pins (s : State) (a : Nat) (v : Word) : (s.setWin a v).pins = s.pins := rfl
@[simp] theorem State.setWin_real (s : State) (a : Nat) (v : Word) : (s.setWin a v).real = s.real := rfl
@[simp] theorem State.setWin_rdata (s : State) (a : Nat) (v : Word) : (s.setWin a v).rdata = s.rdata := rfl
@[simp] theorem State.setWin_freeCtr (s : State) (a : Nat) (v : Word) : (s.setWin a v).freeCtr = s.freeCtr := rfl
@[simp] theorem State.setWin_pending (s : State) (a : Nat) (v : Word) : (s.setWin a v).pending = s.pending := rfl

/-! clearRange. -/

@[simp] theorem State.clearRange_shreg (s : State) (a n : Nat) : (s.clearRange a n).shreg = s.shreg := rfl
@[simp] theorem State.clearRange_mem0 (s : State) (a n : Nat) : (s.clearRange a n).mem0 = s.mem0 := rfl
@[simp] theorem State.clearRange_mem1 (s : State) (a n : Nat) : (s.clearRange a n).mem1 = s.mem1 := rfl
@[simp] theorem State.clearRange_bg0 (s : State) (a n : Nat) : (s.clearRange a n).bg0 = s.bg0 := rfl
@[simp] theorem State.clearRange_bg1 (s : State) (a n : Nat) : (s.clearRange a n).bg1 = s.bg1 := rfl
@[simp] theorem State.clearRange_flash0 (s : State) (a n : Nat) : (s.clearRange a n).flash0 = s.flash0 := rfl
@[simp] theorem State.clearRange_flash1 (s : State) (a n : Nat) : (s.clearRange a n).flash1 = s.flash1 := rfl
@[simp] theorem State.clearRange_dom (s : State) (a n : Nat) : (s.clearRange a n).dom = s.dom := rfl
@[simp] theorem State.clearRange_pairQ (s : State) (a n : Nat) : (s.clearRange a n).pairQ = s.pairQ := rfl
@[simp] theorem State.clearRange_pa (s : State) (a n : Nat) : (s.clearRange a n).pa = s.pa := rfl
@[simp] theorem State.clearRange_pb (s : State) (a n : Nat) : (s.clearRange a n).pb = s.pb := rfl
@[simp] theorem State.clearRange_l0 (s : State) (a n : Nat) : (s.clearRange a n).l0 = s.l0 := rfl
@[simp] theorem State.clearRange_l1 (s : State) (a n : Nat) : (s.clearRange a n).l1 = s.l1 := rfl
@[simp] theorem State.clearRange_com (s : State) (a n : Nat) : (s.clearRange a n).com = s.com := rfl
@[simp] theorem State.clearRange_ink (s : State) (a n : Nat) : (s.clearRange a n).ink = s.ink := rfl
@[simp] theorem State.clearRange_pins (s : State) (a n : Nat) : (s.clearRange a n).pins = s.pins := rfl
@[simp] theorem State.clearRange_real (s : State) (a n : Nat) : (s.clearRange a n).real = s.real := rfl
@[simp] theorem State.clearRange_rdata (s : State) (a n : Nat) : (s.clearRange a n).rdata = s.rdata := rfl
@[simp] theorem State.clearRange_freeCtr (s : State) (a n : Nat) : (s.clearRange a n).freeCtr = s.freeCtr := rfl
@[simp] theorem State.clearRange_pending (s : State) (a n : Nat) : (s.clearRange a n).pending = s.pending := rfl

/-! setPlane. -/

@[simp] theorem State.setPlane_regs (s : State) (p : Plane) (x : PlaneSt) : (s.setPlane p x).regs = s.regs := by cases p <;> rfl
@[simp] theorem State.setPlane_shreg (s : State) (p : Plane) (x : PlaneSt) : (s.setPlane p x).shreg = s.shreg := by cases p <;> rfl
@[simp] theorem State.setPlane_mem0 (s : State) (p : Plane) (x : PlaneSt) : (s.setPlane p x).mem0 = s.mem0 := by cases p <;> rfl
@[simp] theorem State.setPlane_mem1 (s : State) (p : Plane) (x : PlaneSt) : (s.setPlane p x).mem1 = s.mem1 := by cases p <;> rfl
@[simp] theorem State.setPlane_bg0 (s : State) (p : Plane) (x : PlaneSt) : (s.setPlane p x).bg0 = s.bg0 := by cases p <;> rfl
@[simp] theorem State.setPlane_bg1 (s : State) (p : Plane) (x : PlaneSt) : (s.setPlane p x).bg1 = s.bg1 := by cases p <;> rfl
@[simp] theorem State.setPlane_flash0 (s : State) (p : Plane) (x : PlaneSt) : (s.setPlane p x).flash0 = s.flash0 := by cases p <;> rfl
@[simp] theorem State.setPlane_flash1 (s : State) (p : Plane) (x : PlaneSt) : (s.setPlane p x).flash1 = s.flash1 := by cases p <;> rfl
@[simp] theorem State.setPlane_dom (s : State) (p : Plane) (x : PlaneSt) : (s.setPlane p x).dom = s.dom := by cases p <;> rfl
@[simp] theorem State.setPlane_pairQ (s : State) (p : Plane) (x : PlaneSt) : (s.setPlane p x).pairQ = s.pairQ := by cases p <;> rfl
@[simp] theorem State.setPlane_l0 (s : State) (p : Plane) (x : PlaneSt) : (s.setPlane p x).l0 = s.l0 := by cases p <;> rfl
@[simp] theorem State.setPlane_l1 (s : State) (p : Plane) (x : PlaneSt) : (s.setPlane p x).l1 = s.l1 := by cases p <;> rfl
@[simp] theorem State.setPlane_com (s : State) (p : Plane) (x : PlaneSt) : (s.setPlane p x).com = s.com := by cases p <;> rfl
@[simp] theorem State.setPlane_ink (s : State) (p : Plane) (x : PlaneSt) : (s.setPlane p x).ink = s.ink := by cases p <;> rfl
@[simp] theorem State.setPlane_pins (s : State) (p : Plane) (x : PlaneSt) : (s.setPlane p x).pins = s.pins := by cases p <;> rfl
@[simp] theorem State.setPlane_real (s : State) (p : Plane) (x : PlaneSt) : (s.setPlane p x).real = s.real := by cases p <;> rfl
@[simp] theorem State.setPlane_rdata (s : State) (p : Plane) (x : PlaneSt) : (s.setPlane p x).rdata = s.rdata := by cases p <;> rfl
@[simp] theorem State.setPlane_freeCtr (s : State) (p : Plane) (x : PlaneSt) : (s.setPlane p x).freeCtr = s.freeCtr := by cases p <;> rfl
@[simp] theorem State.setPlane_pending (s : State) (p : Plane) (x : PlaneSt) : (s.setPlane p x).pending = s.pending := by cases p <;> rfl

/-! setLane. -/

@[simp] theorem State.setLane_regs (s : State) (l : Lane) (x : LaneSt) : (s.setLane l x).regs = s.regs := by cases l <;> rfl
@[simp] theorem State.setLane_shreg (s : State) (l : Lane) (x : LaneSt) : (s.setLane l x).shreg = s.shreg := by cases l <;> rfl
@[simp] theorem State.setLane_mem0 (s : State) (l : Lane) (x : LaneSt) : (s.setLane l x).mem0 = s.mem0 := by cases l <;> rfl
@[simp] theorem State.setLane_mem1 (s : State) (l : Lane) (x : LaneSt) : (s.setLane l x).mem1 = s.mem1 := by cases l <;> rfl
@[simp] theorem State.setLane_bg0 (s : State) (l : Lane) (x : LaneSt) : (s.setLane l x).bg0 = s.bg0 := by cases l <;> rfl
@[simp] theorem State.setLane_bg1 (s : State) (l : Lane) (x : LaneSt) : (s.setLane l x).bg1 = s.bg1 := by cases l <;> rfl
@[simp] theorem State.setLane_flash0 (s : State) (l : Lane) (x : LaneSt) : (s.setLane l x).flash0 = s.flash0 := by cases l <;> rfl
@[simp] theorem State.setLane_flash1 (s : State) (l : Lane) (x : LaneSt) : (s.setLane l x).flash1 = s.flash1 := by cases l <;> rfl
@[simp] theorem State.setLane_dom (s : State) (l : Lane) (x : LaneSt) : (s.setLane l x).dom = s.dom := by cases l <;> rfl
@[simp] theorem State.setLane_pairQ (s : State) (l : Lane) (x : LaneSt) : (s.setLane l x).pairQ = s.pairQ := by cases l <;> rfl
@[simp] theorem State.setLane_pa (s : State) (l : Lane) (x : LaneSt) : (s.setLane l x).pa = s.pa := by cases l <;> rfl
@[simp] theorem State.setLane_pb (s : State) (l : Lane) (x : LaneSt) : (s.setLane l x).pb = s.pb := by cases l <;> rfl
@[simp] theorem State.setLane_com (s : State) (l : Lane) (x : LaneSt) : (s.setLane l x).com = s.com := by cases l <;> rfl
@[simp] theorem State.setLane_ink (s : State) (l : Lane) (x : LaneSt) : (s.setLane l x).ink = s.ink := by cases l <;> rfl
@[simp] theorem State.setLane_pins (s : State) (l : Lane) (x : LaneSt) : (s.setLane l x).pins = s.pins := by cases l <;> rfl
@[simp] theorem State.setLane_real (s : State) (l : Lane) (x : LaneSt) : (s.setLane l x).real = s.real := by cases l <;> rfl
@[simp] theorem State.setLane_rdata (s : State) (l : Lane) (x : LaneSt) : (s.setLane l x).rdata = s.rdata := by cases l <;> rfl
@[simp] theorem State.setLane_freeCtr (s : State) (l : Lane) (x : LaneSt) : (s.setLane l x).freeCtr = s.freeCtr := by cases l <;> rfl
@[simp] theorem State.setLane_pending (s : State) (l : Lane) (x : LaneSt) : (s.setLane l x).pending = s.pending := by cases l <;> rfl

/-! memW. -/

@[simp] theorem State.memW_regs (s : State) (l : Lane) (a : Nat) (b : List Byte) : (s.memW l a b).regs = s.regs := by cases l <;> rfl
@[simp] theorem State.memW_shreg (s : State) (l : Lane) (a : Nat) (b : List Byte) : (s.memW l a b).shreg = s.shreg := by cases l <;> rfl
@[simp] theorem State.memW_bg0 (s : State) (l : Lane) (a : Nat) (b : List Byte) : (s.memW l a b).bg0 = s.bg0 := by cases l <;> rfl
@[simp] theorem State.memW_bg1 (s : State) (l : Lane) (a : Nat) (b : List Byte) : (s.memW l a b).bg1 = s.bg1 := by cases l <;> rfl
@[simp] theorem State.memW_flash0 (s : State) (l : Lane) (a : Nat) (b : List Byte) : (s.memW l a b).flash0 = s.flash0 := by cases l <;> rfl
@[simp] theorem State.memW_flash1 (s : State) (l : Lane) (a : Nat) (b : List Byte) : (s.memW l a b).flash1 = s.flash1 := by cases l <;> rfl
@[simp] theorem State.memW_dom (s : State) (l : Lane) (a : Nat) (b : List Byte) : (s.memW l a b).dom = s.dom := by cases l <;> rfl
@[simp] theorem State.memW_pairQ (s : State) (l : Lane) (a : Nat) (b : List Byte) : (s.memW l a b).pairQ = s.pairQ := by cases l <;> rfl
@[simp] theorem State.memW_pa (s : State) (l : Lane) (a : Nat) (b : List Byte) : (s.memW l a b).pa = s.pa := by cases l <;> rfl
@[simp] theorem State.memW_pb (s : State) (l : Lane) (a : Nat) (b : List Byte) : (s.memW l a b).pb = s.pb := by cases l <;> rfl
@[simp] theorem State.memW_l0 (s : State) (l : Lane) (a : Nat) (b : List Byte) : (s.memW l a b).l0 = s.l0 := by cases l <;> rfl
@[simp] theorem State.memW_l1 (s : State) (l : Lane) (a : Nat) (b : List Byte) : (s.memW l a b).l1 = s.l1 := by cases l <;> rfl
@[simp] theorem State.memW_com (s : State) (l : Lane) (a : Nat) (b : List Byte) : (s.memW l a b).com = s.com := by cases l <;> rfl
@[simp] theorem State.memW_ink (s : State) (l : Lane) (a : Nat) (b : List Byte) : (s.memW l a b).ink = s.ink := by cases l <;> rfl
@[simp] theorem State.memW_pins (s : State) (l : Lane) (a : Nat) (b : List Byte) : (s.memW l a b).pins = s.pins := by cases l <;> rfl
@[simp] theorem State.memW_real (s : State) (l : Lane) (a : Nat) (b : List Byte) : (s.memW l a b).real = s.real := by cases l <;> rfl
@[simp] theorem State.memW_rdata (s : State) (l : Lane) (a : Nat) (b : List Byte) : (s.memW l a b).rdata = s.rdata := by cases l <;> rfl
@[simp] theorem State.memW_freeCtr (s : State) (l : Lane) (a : Nat) (b : List Byte) : (s.memW l a b).freeCtr = s.freeCtr := by cases l <;> rfl
@[simp] theorem State.memW_pending (s : State) (l : Lane) (a : Nat) (b : List Byte) : (s.memW l a b).pending = s.pending := by cases l <;> rfl

/-! clrRow. -/

@[simp] theorem State.clrRow_shreg (s : State) (p : Page) (r : RegId) (n : Nat) : (s.clrRow p r n).shreg = s.shreg := by
  induction n with
  | zero => rfl
  | succ n ih => simp [State.clrRow, ih]
@[simp] theorem State.clrRow_mem0 (s : State) (p : Page) (r : RegId) (n : Nat) : (s.clrRow p r n).mem0 = s.mem0 := by
  induction n with
  | zero => rfl
  | succ n ih => simp [State.clrRow, ih]
@[simp] theorem State.clrRow_mem1 (s : State) (p : Page) (r : RegId) (n : Nat) : (s.clrRow p r n).mem1 = s.mem1 := by
  induction n with
  | zero => rfl
  | succ n ih => simp [State.clrRow, ih]
@[simp] theorem State.clrRow_bg0 (s : State) (p : Page) (r : RegId) (n : Nat) : (s.clrRow p r n).bg0 = s.bg0 := by
  induction n with
  | zero => rfl
  | succ n ih => simp [State.clrRow, ih]
@[simp] theorem State.clrRow_bg1 (s : State) (p : Page) (r : RegId) (n : Nat) : (s.clrRow p r n).bg1 = s.bg1 := by
  induction n with
  | zero => rfl
  | succ n ih => simp [State.clrRow, ih]
@[simp] theorem State.clrRow_flash0 (s : State) (p : Page) (r : RegId) (n : Nat) : (s.clrRow p r n).flash0 = s.flash0 := by
  induction n with
  | zero => rfl
  | succ n ih => simp [State.clrRow, ih]
@[simp] theorem State.clrRow_flash1 (s : State) (p : Page) (r : RegId) (n : Nat) : (s.clrRow p r n).flash1 = s.flash1 := by
  induction n with
  | zero => rfl
  | succ n ih => simp [State.clrRow, ih]
@[simp] theorem State.clrRow_dom (s : State) (p : Page) (r : RegId) (n : Nat) : (s.clrRow p r n).dom = s.dom := by
  induction n with
  | zero => rfl
  | succ n ih => simp [State.clrRow, ih]
@[simp] theorem State.clrRow_pairQ (s : State) (p : Page) (r : RegId) (n : Nat) : (s.clrRow p r n).pairQ = s.pairQ := by
  induction n with
  | zero => rfl
  | succ n ih => simp [State.clrRow, ih]
@[simp] theorem State.clrRow_pa (s : State) (p : Page) (r : RegId) (n : Nat) : (s.clrRow p r n).pa = s.pa := by
  induction n with
  | zero => rfl
  | succ n ih => simp [State.clrRow, ih]
@[simp] theorem State.clrRow_pb (s : State) (p : Page) (r : RegId) (n : Nat) : (s.clrRow p r n).pb = s.pb := by
  induction n with
  | zero => rfl
  | succ n ih => simp [State.clrRow, ih]
@[simp] theorem State.clrRow_l0 (s : State) (p : Page) (r : RegId) (n : Nat) : (s.clrRow p r n).l0 = s.l0 := by
  induction n with
  | zero => rfl
  | succ n ih => simp [State.clrRow, ih]
@[simp] theorem State.clrRow_l1 (s : State) (p : Page) (r : RegId) (n : Nat) : (s.clrRow p r n).l1 = s.l1 := by
  induction n with
  | zero => rfl
  | succ n ih => simp [State.clrRow, ih]
@[simp] theorem State.clrRow_com (s : State) (p : Page) (r : RegId) (n : Nat) : (s.clrRow p r n).com = s.com := by
  induction n with
  | zero => rfl
  | succ n ih => simp [State.clrRow, ih]
@[simp] theorem State.clrRow_ink (s : State) (p : Page) (r : RegId) (n : Nat) : (s.clrRow p r n).ink = s.ink := by
  induction n with
  | zero => rfl
  | succ n ih => simp [State.clrRow, ih]
@[simp] theorem State.clrRow_pins (s : State) (p : Page) (r : RegId) (n : Nat) : (s.clrRow p r n).pins = s.pins := by
  induction n with
  | zero => rfl
  | succ n ih => simp [State.clrRow, ih]
@[simp] theorem State.clrRow_real (s : State) (p : Page) (r : RegId) (n : Nat) : (s.clrRow p r n).real = s.real := by
  induction n with
  | zero => rfl
  | succ n ih => simp [State.clrRow, ih]
@[simp] theorem State.clrRow_rdata (s : State) (p : Page) (r : RegId) (n : Nat) : (s.clrRow p r n).rdata = s.rdata := by
  induction n with
  | zero => rfl
  | succ n ih => simp [State.clrRow, ih]
@[simp] theorem State.clrRow_freeCtr (s : State) (p : Page) (r : RegId) (n : Nat) : (s.clrRow p r n).freeCtr = s.freeCtr := by
  induction n with
  | zero => rfl
  | succ n ih => simp [State.clrRow, ih]
@[simp] theorem State.clrRow_pending (s : State) (p : Page) (r : RegId) (n : Nat) : (s.clrRow p r n).pending = s.pending := by
  induction n with
  | zero => rfl
  | succ n ih => simp [State.clrRow, ih]

/-! setWinWords. -/

@[simp] theorem State.setWinWords_shreg (s : State) (a n v : Nat) : (s.setWinWords a n v).shreg = s.shreg := by
  induction n generalizing s a v with
  | zero => rfl
  | succ n ih => simp [State.setWinWords, ih]
@[simp] theorem State.setWinWords_mem0 (s : State) (a n v : Nat) : (s.setWinWords a n v).mem0 = s.mem0 := by
  induction n generalizing s a v with
  | zero => rfl
  | succ n ih => simp [State.setWinWords, ih]
@[simp] theorem State.setWinWords_mem1 (s : State) (a n v : Nat) : (s.setWinWords a n v).mem1 = s.mem1 := by
  induction n generalizing s a v with
  | zero => rfl
  | succ n ih => simp [State.setWinWords, ih]
@[simp] theorem State.setWinWords_bg0 (s : State) (a n v : Nat) : (s.setWinWords a n v).bg0 = s.bg0 := by
  induction n generalizing s a v with
  | zero => rfl
  | succ n ih => simp [State.setWinWords, ih]
@[simp] theorem State.setWinWords_bg1 (s : State) (a n v : Nat) : (s.setWinWords a n v).bg1 = s.bg1 := by
  induction n generalizing s a v with
  | zero => rfl
  | succ n ih => simp [State.setWinWords, ih]
@[simp] theorem State.setWinWords_flash0 (s : State) (a n v : Nat) : (s.setWinWords a n v).flash0 = s.flash0 := by
  induction n generalizing s a v with
  | zero => rfl
  | succ n ih => simp [State.setWinWords, ih]
@[simp] theorem State.setWinWords_flash1 (s : State) (a n v : Nat) : (s.setWinWords a n v).flash1 = s.flash1 := by
  induction n generalizing s a v with
  | zero => rfl
  | succ n ih => simp [State.setWinWords, ih]
@[simp] theorem State.setWinWords_dom (s : State) (a n v : Nat) : (s.setWinWords a n v).dom = s.dom := by
  induction n generalizing s a v with
  | zero => rfl
  | succ n ih => simp [State.setWinWords, ih]
@[simp] theorem State.setWinWords_pairQ (s : State) (a n v : Nat) : (s.setWinWords a n v).pairQ = s.pairQ := by
  induction n generalizing s a v with
  | zero => rfl
  | succ n ih => simp [State.setWinWords, ih]
@[simp] theorem State.setWinWords_pa (s : State) (a n v : Nat) : (s.setWinWords a n v).pa = s.pa := by
  induction n generalizing s a v with
  | zero => rfl
  | succ n ih => simp [State.setWinWords, ih]
@[simp] theorem State.setWinWords_pb (s : State) (a n v : Nat) : (s.setWinWords a n v).pb = s.pb := by
  induction n generalizing s a v with
  | zero => rfl
  | succ n ih => simp [State.setWinWords, ih]
@[simp] theorem State.setWinWords_l0 (s : State) (a n v : Nat) : (s.setWinWords a n v).l0 = s.l0 := by
  induction n generalizing s a v with
  | zero => rfl
  | succ n ih => simp [State.setWinWords, ih]
@[simp] theorem State.setWinWords_l1 (s : State) (a n v : Nat) : (s.setWinWords a n v).l1 = s.l1 := by
  induction n generalizing s a v with
  | zero => rfl
  | succ n ih => simp [State.setWinWords, ih]
@[simp] theorem State.setWinWords_com (s : State) (a n v : Nat) : (s.setWinWords a n v).com = s.com := by
  induction n generalizing s a v with
  | zero => rfl
  | succ n ih => simp [State.setWinWords, ih]
@[simp] theorem State.setWinWords_ink (s : State) (a n v : Nat) : (s.setWinWords a n v).ink = s.ink := by
  induction n generalizing s a v with
  | zero => rfl
  | succ n ih => simp [State.setWinWords, ih]
@[simp] theorem State.setWinWords_pins (s : State) (a n v : Nat) : (s.setWinWords a n v).pins = s.pins := by
  induction n generalizing s a v with
  | zero => rfl
  | succ n ih => simp [State.setWinWords, ih]
@[simp] theorem State.setWinWords_real (s : State) (a n v : Nat) : (s.setWinWords a n v).real = s.real := by
  induction n generalizing s a v with
  | zero => rfl
  | succ n ih => simp [State.setWinWords, ih]
@[simp] theorem State.setWinWords_rdata (s : State) (a n v : Nat) : (s.setWinWords a n v).rdata = s.rdata := by
  induction n generalizing s a v with
  | zero => rfl
  | succ n ih => simp [State.setWinWords, ih]
@[simp] theorem State.setWinWords_freeCtr (s : State) (a n v : Nat) : (s.setWinWords a n v).freeCtr = s.freeCtr := by
  induction n generalizing s a v with
  | zero => rfl
  | succ n ih => simp [State.setWinWords, ih]
@[simp] theorem State.setWinWords_pending (s : State) (a n v : Nat) : (s.setWinWords a n v).pending = s.pending := by
  induction n generalizing s a v with
  | zero => rfl
  | succ n ih => simp [State.setWinWords, ih]

/-! setEnt. -/

@[simp] theorem State.setEnt_shreg (s : State) (a : Nat) (f : EFld) (v : Nat) : (s.setEnt a f v).shreg = s.shreg := by simp [State.setEnt]
@[simp] theorem State.setEnt_mem0 (s : State) (a : Nat) (f : EFld) (v : Nat) : (s.setEnt a f v).mem0 = s.mem0 := by simp [State.setEnt]
@[simp] theorem State.setEnt_mem1 (s : State) (a : Nat) (f : EFld) (v : Nat) : (s.setEnt a f v).mem1 = s.mem1 := by simp [State.setEnt]
@[simp] theorem State.setEnt_bg0 (s : State) (a : Nat) (f : EFld) (v : Nat) : (s.setEnt a f v).bg0 = s.bg0 := by simp [State.setEnt]
@[simp] theorem State.setEnt_bg1 (s : State) (a : Nat) (f : EFld) (v : Nat) : (s.setEnt a f v).bg1 = s.bg1 := by simp [State.setEnt]
@[simp] theorem State.setEnt_flash0 (s : State) (a : Nat) (f : EFld) (v : Nat) : (s.setEnt a f v).flash0 = s.flash0 := by simp [State.setEnt]
@[simp] theorem State.setEnt_flash1 (s : State) (a : Nat) (f : EFld) (v : Nat) : (s.setEnt a f v).flash1 = s.flash1 := by simp [State.setEnt]
@[simp] theorem State.setEnt_dom (s : State) (a : Nat) (f : EFld) (v : Nat) : (s.setEnt a f v).dom = s.dom := by simp [State.setEnt]
@[simp] theorem State.setEnt_pairQ (s : State) (a : Nat) (f : EFld) (v : Nat) : (s.setEnt a f v).pairQ = s.pairQ := by simp [State.setEnt]
@[simp] theorem State.setEnt_pa (s : State) (a : Nat) (f : EFld) (v : Nat) : (s.setEnt a f v).pa = s.pa := by simp [State.setEnt]
@[simp] theorem State.setEnt_pb (s : State) (a : Nat) (f : EFld) (v : Nat) : (s.setEnt a f v).pb = s.pb := by simp [State.setEnt]
@[simp] theorem State.setEnt_l0 (s : State) (a : Nat) (f : EFld) (v : Nat) : (s.setEnt a f v).l0 = s.l0 := by simp [State.setEnt]
@[simp] theorem State.setEnt_l1 (s : State) (a : Nat) (f : EFld) (v : Nat) : (s.setEnt a f v).l1 = s.l1 := by simp [State.setEnt]
@[simp] theorem State.setEnt_com (s : State) (a : Nat) (f : EFld) (v : Nat) : (s.setEnt a f v).com = s.com := by simp [State.setEnt]
@[simp] theorem State.setEnt_ink (s : State) (a : Nat) (f : EFld) (v : Nat) : (s.setEnt a f v).ink = s.ink := by simp [State.setEnt]
@[simp] theorem State.setEnt_pins (s : State) (a : Nat) (f : EFld) (v : Nat) : (s.setEnt a f v).pins = s.pins := by simp [State.setEnt]
@[simp] theorem State.setEnt_real (s : State) (a : Nat) (f : EFld) (v : Nat) : (s.setEnt a f v).real = s.real := by simp [State.setEnt]
@[simp] theorem State.setEnt_rdata (s : State) (a : Nat) (f : EFld) (v : Nat) : (s.setEnt a f v).rdata = s.rdata := by simp [State.setEnt]
@[simp] theorem State.setEnt_freeCtr (s : State) (a : Nat) (f : EFld) (v : Nat) : (s.setEnt a f v).freeCtr = s.freeCtr := by simp [State.setEnt]
@[simp] theorem State.setEnt_pending (s : State) (a : Nat) (f : EFld) (v : Nat) : (s.setEnt a f v).pending = s.pending := by simp [State.setEnt]

/-! Planes, lanes and their states. -/

@[simp] theorem State.plane_setPlane (s : State) (p : Plane) (x : PlaneSt) : (s.setPlane p x).plane p = x := by cases p <;> rfl
@[simp] theorem State.plane_setPlane_other (s : State) (p : Plane) (x : PlaneSt) : (s.setPlane p x).plane p.other = s.plane p.other := by cases p <;> rfl
@[simp] theorem State.lane_setLane (s : State) (l : Lane) (x : LaneSt) : (s.setLane l x).lane l = x := by cases l <;> rfl
@[simp] theorem State.lane_setLane_other (s : State) (l : Lane) (x : LaneSt) : (s.setLane l x).lane l.other = s.lane l.other := by cases l <;> rfl
@[simp] theorem State.lane_setPlane (s : State) (p : Plane) (x : PlaneSt) (l : Lane) : (s.setPlane p x).lane l = s.lane l := by cases p <;> cases l <;> rfl
@[simp] theorem State.plane_setLane (s : State) (l : Lane) (x : LaneSt) (p : Plane) : (s.setLane l x).plane p = s.plane p := by cases p <;> cases l <;> rfl
@[simp] theorem State.lane_wr (s : State) (p : Page) (r : RegId) (k : Nat) (v : Word) (l : Lane) : (s.wr p r k v).lane l = s.lane l := by cases l <;> rfl
@[simp] theorem State.plane_wr (s : State) (p : Page) (r : RegId) (k : Nat) (v : Word) (q : Plane) : (s.wr p r k v).plane q = s.plane q := by cases q <;> rfl
@[simp] theorem State.domSt_of_dom (s t : State) (h : t.dom = s.dom) (d : Dom) : t.domSt d = s.domSt d := by
  unfold State.domSt; rw [h]

/-! Registers. -/

/-- A register just stored reads as stored. -/
@[simp] theorem State.rd_wr_same (s : State) (p : Page) (r : RegId) (k : Nat) (v : Word) : (s.wr p r k v).rd p r k = v := by
  simp [State.rd, State.wr]

/-- A register at another address reads as before. -/
theorem State.rd_wr_other (s : State) (p q : Page) (r u : RegId) (k j : Nat) (v : Word) (h : regAddr q u j ≠ regAddr p r k) :
    (s.wr p r k v).rd q u j = s.rd q u j := by
  simp [State.rd, State.wr, assocGetD_put_other _ _ _ _ _ h]

/-- A window word just stored reads as stored. -/
@[simp] theorem State.win_setWin_same (s : State) (a : Nat) (v : Word) : (s.setWin a v).win a = v := by simp [State.win, State.setWin]

/-- Another window word reads as before. -/
theorem State.win_setWin_other (s : State) (a b : Nat) (v : Word) (h : b ≠ a) : (s.setWin a v).win b = s.win b := by
  simp [State.win, State.setWin, assocGetD_put_other _ _ _ _ _ h]

/-- A word outside a register is kept by a store to it. -/
theorem State.get_wr_other (s : State) (p : Page) (r : RegId) (k : Nat) (v : Word) (a : Nat) (h : a ≠ regAddr p r k) :
    assocGet (s.wr p r k v).regs a = assocGet s.regs a := assocGet_put_other _ _ _ _ h

/-- A field just stored reads as its low bits. -/
theorem State.fld_setFld_same (s : State) (p : Page) (f : Fld) (v k : Nat) (h : f.hi < 32) (h2 : f.lo ≤ f.hi) :
    (s.setFld p f v k).fld p f k = v % 2 ^ (f.hi + 1 - f.lo) := by
  have hb : ∀ w : Nat, bitsOf (w % 2 ^ 32) f.hi f.lo = bitsOf w f.hi f.lo := by
    intro w
    unfold bitsOf
    obtain ⟨d, hd⟩ : ∃ d, 32 = f.hi + 1 + d := ⟨31 - f.hi, by omega⟩
    obtain ⟨e, he⟩ : ∃ e, f.hi + 1 = f.lo + e := ⟨f.hi + 1 - f.lo, by omega⟩
    have hs : f.hi + 1 - f.lo = e := by omega
    rw [hs, hd, he, Nat.pow_add, Nat.pow_add, Nat.mul_assoc, Nat.mod_mul_right_div_self, Nat.mod_mul_right_mod]
  unfold State.fld State.setFld
  rw [State.rd_wr_same, BitVec.toNat_ofNat, hb, bitsOf_put_same]

end Sys2Proof.Machine
end

