-- ==== Sys2Proof/Laws/Frame.lean ====
section
/-!
SUPPORT. Frames: what each named operation leaves of the words stored outside an address range, and of the rest of the State; the
event recorder's operations touch the recorder's registers, its ring and limits and the event queues, and nothing else.
-/

namespace Sys2Proof.Machine
open Sys2Proof

/-! Words stored outside address ranges. -/

theorem RegsOutside.refl (rs : List (Nat × Nat)) (s : State) : RegsOutside rs s s := fun _ _ => rfl

theorem RegsOutside.trans {rs : List (Nat × Nat)} {s t u : State} (h : RegsOutside rs s t) (g : RegsOutside rs t u) :
    RegsOutside rs s u := fun a ha => (g a ha).trans (h a ha)

/-- More ranges say less. -/
theorem RegsOutside.mono {rs qs : List (Nat × Nat)} {s t : State} (h : RegsOutside rs s t) (hq : ∀ e ∈ rs, e ∈ qs) :
    RegsOutside qs s t := fun a ha => h a (fun e he => ha e (hq e he))

/-- States with the same words. -/
theorem RegsOutside.of_eq {rs : List (Nat × Nat)} {s t : State} (h : t.regs = s.regs) : RegsOutside rs s t := fun a _ => by rw [h]

/-- One word stored inside a range. -/
theorem RegsOutside.put {rs : List (Nat × Nat)} {s t u : State} (x : Nat) (v : Word) (h : RegsOutside rs s t)
    (e : u.regs = assocPut t.regs x v) (hx : ∃ e ∈ rs, e.1 ≤ x ∧ x < e.1 + e.2) : RegsOutside rs s u := by
  intro a ha
  obtain ⟨r, hr, h1, h2⟩ := hx
  have := ha r hr
  rw [e, assocGet_put_other _ _ _ _ (by omega)]
  exact h a ha

/-- The same words. -/
theorem RegsOutside.same {rs : List (Nat × Nat)} {s t u : State} (h : RegsOutside rs s t) (e : u.regs = t.regs) : RegsOutside rs s u :=
  h.trans (RegsOutside.of_eq e)

/-- A register of a page inside a range. -/
def RegIn (rs : List (Nat × Nat)) (p : Page) (r : RegId) (k : Nat) : Prop :=
  ∃ e ∈ rs, e.1 ≤ regAddr p r k ∧ regAddr p r k < e.1 + e.2

theorem RegsOutside.wr {rs : List (Nat × Nat)} {s t : State} (h : RegsOutside rs s t) (p : Page) (r : RegId) (k : Nat) (v : Word)
    (hx : RegIn rs p r k) : RegsOutside rs s (t.wr p r k v) := h.put _ v rfl hx

theorem RegsOutside.setFld {rs : List (Nat × Nat)} {s t : State} (h : RegsOutside rs s t) (p : Page) (f : Fld) (v k : Nat)
    (hx : RegIn rs p f.id k) : RegsOutside rs s (t.setFld p f v k) := h.put _ _ rfl hx

theorem RegsOutside.setBit {rs : List (Nat × Nat)} {s t : State} (h : RegsOutside rs s t) (p : Page) (f : Fld) (k : Nat)
    (hx : RegIn rs p f.id k) : RegsOutside rs s (t.setBit p f k) := h.put _ _ rfl hx

theorem RegsOutside.bump {rs : List (Nat × Nat)} {s t : State} (h : RegsOutside rs s t) (p : Page) (f : Fld) (k n : Nat)
    (hx : RegIn rs p f.id k) : RegsOutside rs s (t.bump p f k n) := h.put _ _ rfl hx

theorem RegsOutside.setWin {rs : List (Nat × Nat)} {s t : State} (h : RegsOutside rs s t) (a : Nat) (v : Word)
    (hx : ∃ e ∈ rs, e.1 ≤ a ∧ a < e.1 + e.2) : RegsOutside rs s (t.setWin a v) := h.put a v rfl hx

/-- A register outside the ranges reads as before. -/
theorem RegsOutside.rd {rs : List (Nat × Nat)} {s t : State} (h : RegsOutside rs s t) (p : Page) (r : RegId) (k : Nat)
    (ha : ∀ e ∈ rs, regAddr p r k < e.1 ∨ e.1 + e.2 ≤ regAddr p r k) : t.rd p r k = s.rd p r k := by
  unfold State.rd assocGetD
  rw [h _ ha]

/-- A field outside the ranges reads as before. -/
theorem RegsOutside.fld {rs : List (Nat × Nat)} {s t : State} (h : RegsOutside rs s t) (p : Page) (f : Fld) (k : Nat)
    (ha : ∀ e ∈ rs, regAddr p f.id k < e.1 ∨ e.1 + e.2 ≤ regAddr p f.id k) : t.fld p f k = s.fld p f k := by
  unfold State.fld
  rw [RegsOutside.rd h p f.id k ha]

/-! The rest of the State. -/

@[simp] theorem State.body_wr (s : State) (p : Page) (r : RegId) (k : Nat) (v : Word) : (s.wr p r k v).body = s.body := rfl
@[simp] theorem State.body_setFld (s : State) (p : Page) (f : Fld) (v k : Nat) : (s.setFld p f v k).body = s.body := rfl
@[simp] theorem State.body_setBit (s : State) (p : Page) (f : Fld) (k : Nat) : (s.setBit p f k).body = s.body := rfl
@[simp] theorem State.body_bump (s : State) (p : Page) (f : Fld) (k n : Nat) : (s.bump p f k n).body = s.body := rfl
@[simp] theorem State.body_setWin (s : State) (a : Nat) (v : Word) : (s.setWin a v).body = s.body := rfl

@[simp] theorem State.body_clrRow (s : State) (p : Page) (r : RegId) (n : Nat) : (s.clrRow p r n).body = s.body := by
  induction n with
  | zero => rfl
  | succ n ih => simp [State.clrRow, ih]

@[simp] theorem State.body_setWinWords (s : State) (a n v : Nat) : (s.setWinWords a n v).body = s.body := by
  induction n generalizing s a v with
  | zero => rfl
  | succ n ih => simp [State.setWinWords, ih]

@[simp] theorem State.body_setEnt (s : State) (a : Nat) (f : EFld) (v : Nat) : (s.setEnt a f v).body = s.body := by
  simp [State.setEnt]

/-- Equal bodies have equal quiet parts. -/
theorem State.quiet_of_body {s t : State} (h : t.body = s.body) : t.quiet = s.quiet := by
  have e : ∀ u : State, u.quiet = u.body.quiet := fun _ => rfl
  rw [e t, e s, h]

@[simp] theorem State.quiet_wr (s : State) (p : Page) (r : RegId) (k : Nat) (v : Word) : (s.wr p r k v).quiet = s.quiet := rfl
@[simp] theorem State.quiet_setFld (s : State) (p : Page) (f : Fld) (v k : Nat) : (s.setFld p f v k).quiet = s.quiet := rfl
@[simp] theorem State.quiet_setBit (s : State) (p : Page) (f : Fld) (k : Nat) : (s.setBit p f k).quiet = s.quiet := rfl
@[simp] theorem State.quiet_bump (s : State) (p : Page) (f : Fld) (k n : Nat) : (s.bump p f k n).quiet = s.quiet := rfl
@[simp] theorem State.quiet_setWin (s : State) (a : Nat) (v : Word) : (s.setWin a v).quiet = s.quiet := rfl
@[simp] theorem State.quiet_setEnt (s : State) (a : Nat) (f : EFld) (v : Nat) : (s.setEnt a f v).quiet = s.quiet :=
  State.quiet_of_body (by simp)
@[simp] theorem State.quiet_clrRow (s : State) (p : Page) (r : RegId) (n : Nat) : (s.clrRow p r n).quiet = s.quiet :=
  State.quiet_of_body (by simp)

/-! Rows of counters. -/

/-- Clearing a row touches the row. -/
theorem RegsOutside.clrRow {rs : List (Nat × Nat)} {s t : State} (h : RegsOutside rs s t) (p : Page) (r : RegId) (n m : Nat)
    (hm : n ≤ m) (hr : rowAt p r m ∈ rs) : RegsOutside rs s (t.clrRow p r n) := by
  induction n with
  | zero => exact h
  | succ n ih =>
    refine (ih (by omega)).wr _ _ _ _ ⟨rowAt p r m, hr, ?_, ?_⟩
    · simp only [rowAt, regAddr]; omega
    · simp only [rowAt, regAddr]
      have : n * r.geom.stride ≤ (m - 1) * r.geom.stride := Nat.mul_le_mul_right _ (by omega)
      omega

/-- A cleared row reads its reset value. -/
theorem State.rd_clrRow (s : State) (p : Page) (r : RegId) (n k : Nat) (hk : k < n) (hs : 0 < r.geom.stride) :
    (s.clrRow p r n).rd p r k = r.resetAt p k := by
  induction n with
  | zero => omega
  | succ n ih =>
    rw [State.clrRow]
    by_cases e : k = n
    · subst e; simp
    · rw [State.rd_wr_other]
      · exact ih (by omega)
      · simp only [regAddr]
        intro h
        have : k * r.geom.stride = n * r.geom.stride := by omega
        exact e (Nat.eq_of_mul_eq_mul_right hs this)

/-! The event recorder. -/

theorem evr_in {rs : List (Nat × Nat)} (h : evrAt ∈ rs) (r : RegId) (k : Nat) (ho : r.geom.off + k * r.geom.stride < 0x100000) :
    RegIn rs .evr r k :=
  ⟨evrAt, h, by simp only [evrAt, regAddr]; omega, by simp only [evrAt, regAddr]; omega⟩

/-- A change of the ring or of the rate limits alone. -/
theorem State.quiet_ink (s : State) (m : Mem) (a : List (Nat × RlEntry)) (d : RlEntry) :
    State.quiet { s with ink := { s.ink with ring := m, rl := a, rlDef := d } } = s.quiet := rfl

theorem evrMakeRoom_quiet (n fuel : Nat) (s : State) : (evrMakeRoom n fuel s).quiet = s.quiet := by
  induction fuel generalizing s with
  | zero => rfl
  | succ f ih => unfold evrMakeRoom; simp only; split; · rfl
                 · rw [ih]; simp

theorem RegsOutside.evrMakeRoom {rs : List (Nat × Nat)} {s t : State} (hr : evrAt ∈ rs) (n fuel : Nat) (h : RegsOutside rs s t) :
    RegsOutside rs s (evrMakeRoom n fuel t) := by
  induction fuel generalizing t with
  | zero => exact h
  | succ f ih =>
    unfold Machine.evrMakeRoom
    simp only
    split
    · exact h
    · exact ih (((h.setFld _ _ _ _ (evr_in hr _ _ (by decide))).bump _ _ _ _ (evr_in hr _ _ (by decide))).setBit _ _ _
        (evr_in hr _ _ (by decide)))

theorem evrPut_quiet (u src code time : Nat) (l : List Byte) (s : State) : (evrPut u src code time l s).quiet = s.quiet := by
  unfold evrPut
  simp only
  split <;> simp only [State.quiet_setFld] <;> exact evrMakeRoom_quiet _ _ _

theorem RegsOutside.evrPut {rs : List (Nat × Nat)} {s t : State} (hr : evrAt ∈ rs) (u src code time : Nat) (l : List Byte)
    (h : RegsOutside rs s t) : RegsOutside rs s (evrPut u src code time l t) := by
  unfold Machine.evrPut
  simp only
  have g := h.evrMakeRoom hr u 64
  split
  · refine RegsOutside.setFld (RegsOutside.setFld (g.same ?_) _ _ _ _ (evr_in hr _ _ (by decide))) _ _ _ _ (evr_in hr _ _ (by decide))
    rfl
  · refine RegsOutside.setFld (g.same ?_) _ _ _ _ (evr_in hr _ _ (by decide))
    rfl

theorem evrWrite_quiet (r : EvRec) (s : State) : (evrWrite r s).quiet = s.quiet := by
  unfold evrWrite
  simp only
  rw [evrPut_quiet]
  split
  · rfl
  · exact evrPut_quiet _ _ _ _ _ _

theorem RegsOutside.evrWrite {rs : List (Nat × Nat)} {s t : State} (hr : evrAt ∈ rs) (r : EvRec) (h : RegsOutside rs s t) :
    RegsOutside rs s (evrWrite r t) := by
  unfold Machine.evrWrite
  simp only
  refine RegsOutside.evrPut hr _ _ _ _ _ ?_
  split
  · exact h
  · exact h.evrPut hr _ _ _ _ _

theorem rlPut_quiet (s : State) (k : Nat) (e : RlEntry) : State.quiet { s with ink := rlPut s.ink k e } = s.quiet := by
  unfold rlPut
  split <;> rfl

theorem evrAdmit_quiet (r : EvRec) (s : State) : (evrAdmit r s).quiet = s.quiet := by
  unfold evrAdmit
  split
  · exact evrWrite_quiet r s
  · simp only
    split
    · rw [rlPut_quiet, evrWrite_quiet]
      split
      · exact evrWrite_quiet _ _
      · rfl
    · simp only [State.quiet_setBit, State.quiet_bump]
      exact rlPut_quiet _ _ _

theorem RegsOutside.evrAdmit {rs : List (Nat × Nat)} {s t : State} (hr : evrAt ∈ rs) (r : EvRec) (h : RegsOutside rs s t) :
    RegsOutside rs s (evrAdmit r t) := by
  unfold Machine.evrAdmit
  split
  · exact h.evrWrite hr r
  · simp only
    split
    · refine RegsOutside.same (RegsOutside.evrWrite hr r ?_) rfl
      split
      · exact h.evrWrite hr _
      · exact h
    · refine RegsOutside.setBit (RegsOutside.bump (h.same ?_) _ _ _ _ (evr_in hr _ _ (by decide))) _ _ _ (evr_in hr _ _ (by decide))
      rfl

theorem setEvq_quiet (s : State) (d : Dom) (q : EvQueue) : (s.setEvq d q).quiet = s.quiet := by
  cases d with
  | plane p => cases p <;> rfl
  | lane l => cases l <;> rfl
  | common => rfl
  | inkwell => rfl

theorem setEvq_regs (s : State) (d : Dom) (q : EvQueue) : (s.setEvq d q).regs = s.regs := by
  cases d with
  | plane p => cases p <;> rfl
  | lane l => cases l <;> rfl
  | common => rfl
  | inkwell => rfl

@[simp] theorem evSend_quiet (d : Dom) (r : EvRec) (s : State) : (evSend d r s).quiet = s.quiet := by
  unfold evSend
  simp only
  split
  · exact evrAdmit_quiet r s
  · cases d <;> simp only
    · split <;> exact setEvq_quiet _ _ _
    · split <;> exact setEvq_quiet _ _ _

theorem RegsOutside.evSend {rs : List (Nat × Nat)} {s t : State} (hr : evrAt ∈ rs) (d : Dom) (r : EvRec) (h : RegsOutside rs s t) :
    RegsOutside rs s (evSend d r t) := by
  unfold Machine.evSend
  simp only
  split
  · exact h.evrAdmit hr r
  · cases d <;> simp only
    · split <;> exact h.same (setEvq_regs _ _ _)
    · split <;> exact h.same (setEvq_regs _ _ _)
    · exact h
    · exact h

@[simp] theorem event_quiet (s : State) (d : Dom) (c u v : Nat) : (s.event d c u v).quiet = s.quiet := evSend_quiet _ _ _
@[simp] theorem evCount_quiet (s : State) (d : Dom) (b t k u v : Nat) : (s.evCount d b t k u v).quiet = s.quiet := evSend_quiet _ _ _
@[simp] theorem evStatus_quiet (s : State) (d : Dom) (b t k u v : Nat) : (s.evStatus d b t k u v).quiet = s.quiet := evSend_quiet _ _ _
@[simp] theorem bumpEv_quiet (s : State) (d : Dom) (p : Page) (f : Fld) (k b t u : Nat) : (s.bumpEv d p f k b t u).quiet = s.quiet := by
  simp [State.bumpEv]
@[simp] theorem setBitEv_quiet (s : State) (d : Dom) (p : Page) (f : Fld) (b t u : Nat) : (s.setBitEv d p f b t u).quiet = s.quiet := by
  simp [State.setBitEv]

/-- An event leaves every word outside the recorder's registers. -/
theorem RegsOutside.event {rs : List (Nat × Nat)} {s t : State} (hr : evrAt ∈ rs) (d : Dom) (c u v : Nat) (h : RegsOutside rs s t) :
    RegsOutside rs s (t.event d c u v) := h.evSend hr _ _
theorem RegsOutside.evCount {rs : List (Nat × Nat)} {s t : State} (hr : evrAt ∈ rs) (d : Dom) (b x k u v : Nat) (h : RegsOutside rs s t) :
    RegsOutside rs s (t.evCount d b x k u v) := h.evSend hr _ _
theorem RegsOutside.evStatus {rs : List (Nat × Nat)} {s t : State} (hr : evrAt ∈ rs) (d : Dom) (b x k u v : Nat) (h : RegsOutside rs s t) :
    RegsOutside rs s (t.evStatus d b x k u v) := h.evSend hr _ _

end Sys2Proof.Machine
end

