-- ==== Sys2Proof/Laws/Regs.lean ====
section
/-!
SUPPORT. The field tables: the fields of a register name it, lie within its 32 bits and do not overlap.
-/

namespace Sys2Proof.Machine
open Sys2Proof

/-- The fields of a register do not overlap. -/
theorem fields_apart (r : RegId) : (r.fields.map (fun f => (f.hi, f.lo))).Pairwise (fun a b => a.1 < b.2 ∨ b.1 < a.2) := by
  cases r <;> decide

/-- A field of a register names it and lies within 32 bits. -/
theorem fields_fit (r : RegId) : ∀ f ∈ r.fields, f.id = r ∧ f.lo ≤ f.hi ∧ f.hi < 32 := by
  cases r <;> decide

end Sys2Proof.Machine
end

