-- ==== Sys2Proof/Tests/Slice0.lean ====
section
/-!
SUPPORT. Tests: the well-formedness smoke, one step of commands on small states, and for every statement with hypotheses a state
and operands that meet all of them together.
-/

namespace Sys2Proof.Tests

-- One proof at a time: many at once take more stack than the compile may use.
set_option Elab.async false
open Sys2Proof Sys2Proof.Machine

/-- All six domains UP. -/
def allUp : State := { State.reset with dom := ⟨.up, .up, .up, .up, .up, .up⟩ }

theorem noPairs (s : State) (h : s.pairQ = []) : ∀ u m, s.pairQ_ u m = [] := fun u m => by
  simp [State.pairQ_, h, assocGetD, assocGet]

theorem wit_StoreByAccessCode : allUp.up .common = true ∧ allUp.planeUp .a = true ∧ (∀ u m, allUp.pairQ_ u m = []) ∧
    planeAt .a 0xC00004 = .reg (.tim .a) .TIM_STATUS 0 ∧
    RegId.TIM_STATUS ∉ [RegId.TIM_CTRL, .TIM_DOM_CFG, .PSW_CTRL, .PRT_CNT_CLR, .PSW_CNT_CLR, .PSW_HCAP_CTRL, .PRT_CFG, .PRT_MAXLEN, .PSW_IN_LIM] :=
  ⟨by decide, by decide, noPairs _ rfl, by decide, by decide⟩

theorem wit_RefusedAccess : (∀ u m, allUp.pairQ_ u m = []) ∧ allUp.up .common = true ∧ placeAt 0x000800000000 = .reserved ∧
    placeAt 0xFFFFFFFFFFFF = .reserved ∧ placeAt 0x001001000006 = .plane .a 6 ∧ ¬((4 : Nat) = 4 ∧ 6 % 4 = 0) ∧
    allUp.bit .blt F.BLT_ACC_STATUS_VALID = false ∧ allUp.laneUp .l0 = true ∧ placeAt 0x000400000000 = .mem .l1 0 ∧
    placeAt 0x001020000000 = .laneReg .l1 0 ∧ allUp.bit (.lcfg .l0) F.CFG_ACC_STATUS_VALID = false :=
  ⟨noPairs _ rfl, by decide⟩

/-- Lane 1 waits with a write of 0 to TIM_STATUS of Plane A. -/
def onePair : State := { allUp with pairQ := [(1, [⟨0x001001C00004, 0, 0⟩])] }

theorem wit_PairedWrites : onePair.planeUp .a = true ∧ onePair.laneUp .l0 = true ∧ onePair.laneUp Lane.l0.other = true ∧
    placeAt 0x001001C00004 = .plane .a 0xC00004 ∧ planeAt .a 0xC00004 = .reg (.tim .a) .TIM_STATUS 0 ∧
    onePair.pairQ_ (pairTgt (.plane .a 0xC00004)) .l0 = [] ∧
    onePair.pairQ_ (pairTgt (.plane .a 0xC00004)) Lane.l0.other = [⟨0x001001C00004, 0, 0⟩] := by decide

/-- Only Lane 0 UP of the lanes. -/
def oneLane : State := { State.reset with dom := ⟨.up, .up, .up, .off, .up, .up⟩ }

theorem wit_PairedWrites_alone : oneLane.planeUp .a = true ∧ oneLane.laneUp .l0 = true ∧ oneLane.laneUp Lane.l0.other = false ∧
    (∀ u m, oneLane.pairQ_ u m = []) := ⟨by decide, by decide, by decide, noPairs _ rfl⟩

theorem wit_PairedWrites_first : allUp.laneUp Lane.l0.other = true ∧ allUp.pairQ_ .planeA Lane.l0.other = [] := by decide

theorem wit_PairTimeout : onePair.laneUp .l1 = true ∧ onePair.laneUp Lane.l1.other = true ∧
    onePair.pairQ_ .planeA .l1 = [⟨0x001001C00004, 0, 0⟩] ∧ onePair.pairQ_ .planeA Lane.l1.other = [] := by decide

theorem wit_WindowAccess : allUp.up .common = true ∧ laneAt .l0 0 = .reg (.lcfg .l0) .CFG_LANE_ID 0 ∧ allUp.laneUp .l0 = true ∧
    allUp.laneUp .l1 = true ∧ State.reset.up .common = true ∧ State.reset.laneUp .l0 = false ∧ State.reset.laneUp .l1 = false ∧
    oneLane.up .common = true ∧ oneLane.laneUp .l0 = true ∧ oneLane.laneUp Lane.l0.other = false := by decide

/-- CFG_LANE_ID differs between the lanes: the two reads of the last clause differ. -/
theorem wit_WindowAccess_differ : (allUp.tgtRead (laneAt .l0 0) true).rdata ≠
    ((allUp.tgtRead (laneAt .l0 0) true).tgtRead (laneAt .l1 0) true).rdata := by decide

/-- Everything UP but Common: the recorder cannot take records. -/
def noCommon : State := { State.reset with dom := ⟨.up, .up, .up, .up, .off, .up⟩ }

theorem wit_FenceCrossing : noCommon.up (.plane .a) = true ∧ noCommon.up (.lane .l0) = true ∧ noCommon.evrReady = false ∧
    (noCommon.evq (.lane .l0)).recs.length < 64 := by decide

/-- Everything UP and the steward running. -/
def full : State := { allUp with com := { allUp.com with steward := true } }

/-- A running PING on channel 0. -/
def pingRuns : State := (full.setFld (.stw 0) F.STW_STATUS_BUSY 1).setMbox 0 (some ⟨1, 7, [], 0, [5], false⟩)

theorem wit_MailboxGates : mboxRow (.ping 0 7) = some (0, 7, 1, []) ∧ State.up { full with dom := { full.dom with common := .off } } .common = false ∧
    pingRuns.up .common = true ∧ pingRuns.com.steward = true ∧ pingRuns.bit (.stw 0) F.STW_STATUS_BUSY = true ∧
    full.bit (.stw 0) F.STW_STATUS_BUSY = false ∧ full.mbox 1 = none := by decide

theorem wit_MailboxGates_denied : mboxRow (.dumpClear 1 7) = some (1, 7, 0x31, []) ∧
    (full.setFld .ink F.INK_STATUS_LIFECYCLE 2).bit (.stw 1) F.STW_STATUS_BUSY = false ∧
    (full.setFld .ink F.INK_STATUS_LIFECYCLE 2).lifecycle = 2 ∧ 0x31 ∉ readOps := by decide

theorem wit_MailboxGates_busy : (full.setMbox 0 (some ⟨0x31, 1, [], 0, [], false⟩)).mbox (1 - 1) = some ⟨0x31, 1, [], 0, [], false⟩ ∧
    opResource 0x30 ≠ 0 ∧ opResource 0x31 = opResource 0x30 := by decide

theorem wit_MboxReady (op : Nat) : MboxReady full 0 op := ⟨by decide, by decide, by decide, by decide, Or.inl rfl⟩

theorem wit_MailboxCompletion : pingRuns.up .common = true ∧ pingRuns.com.steward = true ∧
    pingRuns.mbox 0 = some ⟨1, 7, [], 0, [5], false⟩ := by decide

/-- PING's result reaches STW_RES0 (Table 2.11). -/
theorem test_complete : (pingRuns.mboxEnd 0).rd (.stw 0) .STW_RES 0 = 5 ∧ (pingRuns.mboxEnd 0).fld (.stw 0) F.STW_STATUS_TAG = 7 := by decide

/-- A LANE_CONVERGE runs on channel 0. -/
def convRuns : State := full.setMbox 0 (some ⟨0x23, 7, [], 0, [], true⟩)

theorem wit_MailboxCancel : full.mbox 0 = none ∧ pingRuns.mbox 0 = some ⟨1, 7, [], 0, [5], false⟩ ∧
    convRuns.up .common = true ∧ convRuns.com.steward = true ∧ convRuns.mbox 0 = some ⟨0x23, 7, [], 0, [], true⟩ ∧
    (0xFF : BitVec 8).toNat ∉ definedOps := by decide

set_option maxRecDepth 20000 in
theorem wit_FlashBankErase : memWf 0 full.mem0 = true ∧ memWf 0xFF full.flash0 = true ∧ full.bankFree 1 1 = true ∧
    full.bankFree 1 0 = false ∧ readLanes full 0 256 = .ok (List.replicate 256 0) ∧
    readLanes (full.memW .l0 5 [1]) 0 256 = .error 0x0C := by
  refine ⟨by decide, by decide, by decide, by decide, ?_, ?_⟩ <;> rfl

/-- Image bank B verified and on trial. -/
def trialB : State :=
  State.descWrite { full with com := { full.com with verified := [(1, 1)] } } (octPut (octPut (List.replicate 64 0) E.T2_9_IMG_BANK 1) E.T2_9_IMG_TRIAL 1)

set_option maxRecDepth 20000 in
theorem wit_BankSelection : trialB.onTrial 1 = true ∧ octF trialB.desc E.T2_9_SEQ = 1 ∧ trialB.com.verified = [(1, 1)] ∧
    trialB.up .inkwell = true ∧ trialB.com.steward = true ∧ trialB.bit (.stw 0) F.STW_STATUS_BUSY = false := by decide

theorem wit_ImageStaging : full.loaderState = 0 ∧ (full.loader 3 0).loaderState = 3 ∧
    (full.loader 3 0).com.steward = true ∧ (full.loader 3 0).bit (.stw 0) F.STW_STATUS_BUSY = false := by decide

/-- An IMAGE_STAGE of bank B runs, the loader in FETCH or VERIFY. -/
def fetching (st : Nat) : State :=
  ({ full with com := { full.com with fetch := some (.bank 1, 100) } }.loader st 0).setMbox 0 (some ⟨0x20, 7, [], 0, [], true⟩)

theorem wit_ImageStaging_fetch : (fetching 1).loaderState = 1 ∧ (fetching 2).loaderState = 2 ∧ (fetching 2).com.staged = none ∧
    (fetching 2).com.built = [] ∧ (fetching 2).mbox 0 = some ⟨0x20, 7, [], 0, [], true⟩ ∧ (fetching 2).com.fetch = some (.bank 1, 100) ∧
    readLanes full 0 4 = .ok [0, 0, 0, 0] ∧ readLanes State.reset 0 4 = .error 0x12 := by
  refine ⟨by decide, by decide, by decide, by decide, rfl, rfl, rfl, rfl⟩

/-- A staged image of one TIME region for Plane A, built. -/
def stagedTime : State :=
  { full with com := { full.com with staged := some ⟨[⟨11, 1, 0, 0, [], [], [], 0⟩], 0, true, 0⟩, built := [2] } }.loader 3 0

theorem wit_RegionCommit : full.com.staged = none ∧ stagedTime.loaderState = 3 ∧ stagedTime.com.built = [2] ∧
    stagedTime.commitBlocked 2 ⟨[⟨11, 1, 0, 0, [], [], [], 0⟩], 0, true, 0⟩ = false ∧
    stagedTime.logOverflow 2 (regionsOf [⟨11, 1, 0, 0, [], [], [], 0⟩] 2) = false ∧
    stagedTime.dependOk 2 (regionsOf [⟨11, 1, 0, 0, [], [], [], 0⟩] 2) = true ∧
    stagedTime.insBlocks 2 (regionsOf [⟨11, 1, 0, 0, [], [], [], 0⟩] 2) = false ∧
    full.rolledOut (targetLane 0) = false ∧ full.laneUp (targetLane 0).other = true ∧ full.up (targetDom 2) = true := by decide

theorem wit_LaneRolling : full.laneUp .l0 = true ∧ full.laneUp Lane.l0.other = true ∧ full.rolledOut .l0 = false ∧
    (full.setOut .l1 true).rolledOut .l1 = true ∧ (full.setOut .l1 true).laneUp .l1 = true ∧
    State.rolledOut { (oneLane.setOut .l0 true) with com := { oneLane.com with rollIn := some .l0 } } .l0 = true := by decide

/-- An Announce, and a PTP message of its port. -/
def ann : Announce := ⟨0, 77, 128, 6, 0x20, 100, 128, 5, 0, 0, 37, false, false, false⟩
def syn : PtpMsg := ⟨0, 77, 0, 1, 0, false, 0, 1000⟩

/-- Plane A's port 2 with a valid link delay and slot 0 acquired, an open exchange, a waiting Sync and a residence entry. -/
def ptpLive : State :=
  let s := allUp.wr (.timPort .a 2) .TIM_PDELAY 0 4
  let x := s.pa.setSlot 0 { PtpSlot.empty with best := some ann, port := 2, annStamp := some 0, syncStamp := some 0, pend := some ⟨77, 1, 5, 0, 2⟩ }
  let x := x.setPt 2 { PortTime.empty with reqStamp := some 0, resp := some ⟨77, 0, 3, 0, 2⟩ }
  s.setPlane .a { x with res := [⟨1, 1, [], 0⟩] }

set_option maxRecDepth 20000 in
theorem wit_PtpMessages : allUp.planeUp .a = true ∧ allUp.ptpOn .a 2 = true ∧ allUp.slotOf .a ann.domain = some 0 ∧
    ((allUp.plane .a).slot 0).best = none ∧ ptpLive.slotOf .a syn.domain = some 0 ∧ ptpLive.ptpOn .a 2 = true ∧
    ((ptpLive.plane .a).slot 0).best.any (fun b => decide (b.srcPort = syn.srcPort)) = true ∧ ((ptpLive.plane .a).slot 0).port = 2 ∧
    ptpLive.linkDelay .a 2 = some (4 * 16384) ∧ ((ptpLive.plane .a).slot 0).pend = some ⟨77, 1, 5, 0, 2⟩ ∧
    ((ptpLive.plane .a).pt 2).reqStamp = some 0 ∧ ((ptpLive.plane .a).pt 2).seqId = 0 ∧
    ((ptpLive.plane .a).pt 2).resp = some ⟨77, 0, 3, 0, 2⟩ ∧ ((allUp.plane .a).pt 2).lastReq = none ∧
    (allUp.setFld (.prt .a 2) F.PRT_STATUS_LINK 1).link .a 2 = true ∧ ((ptpLive.plane .a).slot 0).annStamp = some 0 ∧
    ((ptpLive.plane .a).slot 0).syncStamp = some 0 ∧ (ptpLive.plane .a).res = [⟨1, 1, [], 0⟩] := by decide

/-- Slot 1 is usable on Plane A alone, Plane A LOCKED since the start, Lane 0 on Plane B, PPS_OUT0 high. -/
def clocks : State :=
  let s := (allUp.setFld (.tim .a) F.TIM_DOM_STATUS_STATE 1 1).setFld (.tim .a) F.TIM_STATUS_STATE 1
  let s := (s.setFld (.lcfg .l0) F.CFG_TIME_FOLLOW_FOLLOWING 1).setFld (.tim .a) F.TIM_PPS_CTRL_OUT1_EN 1
  let s := s.setFld (.tim .a) F.TIM_STATUS_SLEWING 1
  s.setPlane .a (({ s.pa with lockedSince := some 0, pps0 := some 0 }).setPt 2 { PortTime.empty with txq := [⟨5, 1, 64, false⟩] })

/-- Slot 0 is usable on Plane A alone, which follows slot 1; Plane B is down. -/
def reverts : State :=
  let s : State := { allUp with dom := ⟨.up, .off, .up, .up, .up, .up⟩ }
  let s := s.setFld (.tim .a) F.TIM_DOM_STATUS_STATE 1 0
  s.setPlane .a { s.pa with common := 1, slot0 := { PtpSlot.empty with usableSince := some 0 } }

set_option maxRecDepth 20000 in
theorem wit_ClocksAndPps : clocks.planeUp .a = true ∧ clocks.planeUp .b = true ∧ ((clocks.plane .a).pt 2).txq = [⟨5, 1, 64, false⟩] ∧
    ((allUp.plane .a).pt 2).txq = [] ∧ clocks.bit (.tim .a) F.TIM_STATUS_SLEWING = true ∧ clocks.pa.common = clocks.prefSlot .a ∧
    clocks.usableAny .a 0 = false ∧ clocks.usableAny .a (1 - 0) = true ∧ clocks.prefSlot .a = 0 ∧ clocks.deciders = [.a] ∧ clocks.paired = true ∧
    clocks.timState .a ≠ 0 ∧ allUp.timState .a = 0 ∧ allUp.timState .b = 0 ∧ (allUp.setPlane .a { allUp.pa with common := 1 }).deciders = [.a] ∧
    reverts.deciders = [.a] ∧ reverts.paired = false ∧ reverts.fld (.tim .a) F.TIM_CTRL_REVERT_HOLD ≠ 0 ∧
    reverts.usableSince .a (reverts.prefSlot .a) = some 0 ∧ reverts.pa.common ≠ reverts.prefSlot .a ∧ clocks.pins.ipUp = true ∧ (clocks.plane (clocks.defPlane .l0)).lockedSince = some 0 ∧
    clocks.planeLocked (clocks.defPlane .l0) = true ∧ clocks.followed .l0 ≠ clocks.defPlane .l0 ∧
    clocks.bit (.tim .a) F.TIM_PPS_CTRL_OUT1_EN = true ∧ clocks.fld (.tim .a) F.TIM_DOM_STATUS_STATE 1 = 1 ∧
    (clocks.plane .a).pps 0 = some 0 ∧ clocks.ppsLow = false ∧ allUp.ppsLow = true ∧ (2 : Nat) ∉ allUp.com.lowBanks := by decide

theorem wit_PortModes : allUp.planeUp .a = true ∧ allUp.up .common = true ∧ (∀ u m, allUp.pairQ_ u m = []) ∧
    allUp.fld (.mg 1) F.PRT_CFG_MODE = 7 ∧ (allUp.setFld (.prt .a 10) F.PRT_CFG_MODE 6).fld (.prt .a 10) F.PRT_CFG_MODE = 6 :=
  ⟨by decide, by decide, noPairs _ rfl, by decide, by decide⟩

/-- Plane A's port 2 at 1000BASE-X with its link up and one copy frozen in its queue under a hold. -/
def linked : State :=
  let s := (allUp.setFld (.prt .a 2) F.PRT_CFG_MODE 2).setFld (.prt .a 2) F.PRT_STATUS_LINK 1
  s.setPlane .a ((s.pa.setQueue 2 0 [⟨0, false, true, none⟩]).setPort 2 { PortMac.empty with holdEnd := some 5 })

set_option maxRecDepth 20000 in
theorem wit_LinkStateAndHold : linked.planeUp .a = true ∧ assocSorted (linked.plane .a).queues = true ∧ linked.link .a 2 = true ∧ linked.fld (.prt .a 2) F.PRT_CFG_MODE ≠ 0 ∧
    (linked.setFld (.prt .a 2) F.PRT_STATUS_LINK 0).link .a 2 = false ∧ ((linked.plane .a).port 2).holdEnd = some 5 ∧
    bitsOf (0x5 : Word).toNat 3 0 ∉ [1, 2, 3, 4] ∧ 1000 < bitsOf (0x3E90082 : Word).toNat 31 16 := by decide

/-- R88: a write of MODE 5 to a PB port leaves the field. -/
theorem test_modeKept : prtCfgWord 2 0x000A0082 0x000A0085 = 0x000A0082 := by decide

/-- Plane A's port 2 with its link up, PAUSE honoured, and a classic request for XOFF of class 0 due. -/
def pausing : State :=
  let s := ((linked.setFld (.prt .a 2) F.PRT_PAUSE_CFG_RX_PAUSE 1).setFld (.prt .a 2) F.PRT_CFG_RX_EN 1).setFld (.prt .a 2) F.PRT_CFG_TX_EN 1
  s.setPlane .a (s.pa.setPort 2 { PortMac.empty with xoff := [16], pauseDue := true, pauseEnd := some 9, refreshAt := some 7 })

set_option maxRecDepth 20000 in
theorem wit_PauseFrames_frame : let body := (pauseOct 0 false 0 [0xFFFF]).drop 14; let o := macControlOct 0x0180C2000001 0 body
    o = pauseOct 0 false 0 [0xFFFF] ∧ etypeOf o = 0x8808 ∧ oct2 body 0 = 1 ∧ oct2 body 2 = 0xFFFF ∧ frameLen o = 64 ∧
    rxKind o ⟨BitVec.ofNat 32 (fcsOf o), false, 0, 0, 0⟩ = .good ∧ rxKind o ⟨BitVec.ofNat 32 (fcsOf o), true, 0, 0, 0⟩ ≠ .good ∧
    64 ≤ pausing.rxLimit .a 2 (pausing.macNow .a 2 - wireTime 64 (pausing.macRate .a 2)) ∧
    oct2 ((pauseOct 0 true 1 [5]).drop 14) 0 = 0x101 := by decide +kernel

set_option maxRecDepth 20000 in
theorem wit_PauseFrames : pausing.macUp .a 2 = true ∧ pausing.macRx .a 2 = true ∧ (pausing.mac .a 2).mgKick = false ∧
    pausing.bit (.prt .a 2) F.PRT_CFG_TX_EN = true ∧ pausing.bit (macPage .a 2) F.PRT_PAUSE_CFG_RX_PAUSE = true ∧
    pausing.fld (macPage .a 2) F.PRT_PAUSE_CFG_RX_PFC = 0 ∧ 
    (let u := linked.setFld (.prt .a 2) F.PRT_CFG_RX_EN 1; u.macRx .a 2 = true ∧ u.bit (macPage .a 2) F.PRT_PAUSE_CFG_RX_PAUSE = false) ∧
    assocSorted (pausing.mac .a 2).clsPauseEnd = true ∧ (pausing.mac .a 2).pauseEnd = some 9 ∧ ((pausing.plane .a).port 2).tx = none ∧
    pausing.link .a 2 = true ∧ ((pausing.plane .a).port 2).pauseDue = true ∧ ((pausing.plane .a).port 2).refreshAt = some 7 ∧
    pausing.macUp .a 11 = true := by decide

/-- R104: 65,535 quanta of 512 bit times at 1 Gbit/s are 33,553,920 ns. -/
theorem test_quanta : quantaTime 0xFFFF 1000 = 33553920 * 65536 := by decide

/-- MG0 receives and sends; its rings of 16 descriptors stand at 0x1000 and 0x2000 of Lane 0's memory, descriptor 0 owned in each:
64 bytes of buffer at 0x3000, and an all-zero frame of 60 octets at 0x4000. -/
def rings : State :=
  let s : State := { allUp with dom := ⟨.up, .up, .up, .isolated, .up, .up⟩ }
  let s := (s.setFld (.mg 0) F.PRT_CFG_RX_EN 1).setFld (.mg 0) F.PRT_CFG_TX_EN 1
  let s := ((s.wr (.mg 0) .PRT_MG_RXBASE_LO 0 0x1000).wr (.mg 0) .PRT_MG_RXBASE_HI 0 0x40000000).wr (.mg 0) .PRT_MG_TXBASE_LO 0 0x2000
  let s := s.wr (.mg 0) .PRT_MG_TXBASE_HI 0 0x40000000
  { s with mem0 := [(0x1001, 0x30), (0x100A, 64), (0x100F, 0x80), (0x2001, 0x40), (0x2008, 60), (0x200F, 0x80)] }

set_option maxRecDepth 20000 in
theorem wit_ManagementMacs : rings.up .common = true ∧ memWf 0 rings.mem0 = true ∧ rings.upLanes = [.l0] ∧
    rings.bit (.ins .l0) F.INS_DIRTY_CTL_EN = false ∧ rings.bit (.ins .l1) F.INS_DIRTY_CTL_EN = false ∧
    etypeOf (List.replicate 60 0xFF) ≠ 0x8808 ∧ rxGood 64 (rings.rxLimit .a 11 (rings.real - wireTime 64 (rings.macRate .a 11))) .good = true ∧
    rings.mgAccepts 0 (dmacOf (List.replicate 60 0xFF)) = true ∧ rings.mgAccepts 0 0 = false ∧ (rings.mgRing 0 false).2 ≠ 0 ∧
    rings.recF .l0 0x1000 E.T4_3_OWN = 1 ∧ 60 ≤ rings.recF .l0 0x1000 E.T4_3_BUF_LEN ∧ rings.recF .l0 0x1000 E.T4_3_BUF_ADDR = 0x3000 ∧
    (rings.mgRing 0 true) = (0x2000, 16) ∧ rings.recF .l0 0x2000 E.T4_3_OWN = 1 ∧ rings.recF .l0 0x2010 E.T4_3_OWN = 0 ∧
    (rings.mac .a 11).mgTx < 16 ∧ rings.recF .l0 0x2000 E.T4_3_LEN = 60 ∧ 60 ≤ rings.fld (.mg 0) F.PRT_MAXLEN_MAXLEN - 4 ∧
    (rings.mac .a 11).pauseEnd = none ∧ (let m := { rings.mac .a 11 with pauseEnd := some 0, mgKick := true }
      ((rings.setMac .a 11 m).mac .a 11).mgKick = true ∧ ((rings.setMac .a 11 m).mac .a 11).pauseEnd = some 0) ∧ rings.bit (.mg 0) F.PRT_CFG_RX_EN = true ∧ rings.bit (.mg 0) F.PRT_CFG_TX_EN = true ∧
    rings.bit (.mg 0) F.PRT_STATUS_HDX = false := by decide

/-- One dynamic FDB entry on Plane A, VLAN 1 with every external port, a stream entry to Lane 0 and port 3, port 2 enabled with its
link up at 1 Gbit/s, and the EPS not in use. -/
def switching : State :=
  let s := (linked.setFld (.prt .a 2) F.PRT_CFG_RX_EN 1).setFld (.prt .a 2) F.PRT_CFG_TX_EN 1
  let s := s.setWinWords (fdbAddr .a 5) 4 (fdbKey 0x020000000009 1 + 3 * 2 ^ 64)
  let s := s.setWinWords (strAddr .a 0) 3 (fdbKey 0x010CCD040001 1 + (2 ^ 11 + 2 ^ 3) * 2 ^ 64)
  let s := s.setWinWords (vlanAddr .a 1) 1 (2 ^ 31 + 0x7FF)
  s.setPlane .a PlaneSt.empty

set_option maxRecDepth 20000 in
theorem wit_ForwardingTables : RegsWf switching ∧ switching.planeUp .a = true ∧ switching.fld (.psw .a) F.PSW_CTRL_MAC_AGE ≠ 0 ∧
    switching.ent (fdbAddr .a 5) E.T5_1_VALID = 1 ∧ switching.ent (fdbAddr .a 5) E.T5_1_STATIC = 0 ∧
    switching.fdbFind .a 0x020000000009 1 = some 5 ∧ switching.strFind .a 0x010CCD040001 1 = some 0 ∧
    (switching.setFld (.psw .a) F.PSW_TBL_STATUS_BUILDING 1).bit (.psw .a) F.PSW_TBL_STATUS_BUILDING = true ∧
    switching.bit (.psw .a) F.PSW_TBL_STATUS_BUILDING = false := by unfold RegsWf; decide

/-- 60 octets of an untagged frame. -/
def octets (dst src : Nat) : List Byte := natBe 6 dst ++ natBe 6 src ++ [0x88, 0xB8] ++ List.replicate 46 0

set_option maxRecDepth 20000 in
theorem wit_ForwardingDecision : switching.receives .a 2 = true ∧ 64 ≤ frameLen (octets 0x010CCD040001 5) ∧
    etypeOf (octets 0x010CCD040001 5) ≠ 0x8808 ∧ ((switching.plane .a).port 2).rx = none ∧ switching.epsSwitching .a = false ∧
    switching.fld (.psw .a) F.PSW_CTRL_RED_MODE ≠ 2 ∧ switching.bit (.psw .a) F.PSW_HCAP_CTRL_EN = false ∧
    switching.bit (.psw .a) F.PSW_CTRL_EN = true ∧
    switching.bit (.pswPort .a 2) F.PSW_PORT_CFG_FWD_EN = true ∧ switching.fld (.pswPort .a 2) F.PSW_PORT_CFG_PVID = 1 ∧
    switching.ent (vlanAddr .a 1) E.T5_3_VALID = 1 ∧ bitAt (switching.ent (vlanAddr .a 1) E.T5_3_MEMBER) 2 = true ∧
    isGroup (dmacOf (octets 0x010CCD040001 5)) = true ∧ switching.strFind .a 0x010CCD040001 1 = some 0 ∧
    isGroup (dmacOf (octets 0x020000000009 5)) = false ∧ switching.fdbFind .a 0x020000000009 1 = some 5 ∧
    switching.ent (fdbAddr .a 5) E.T5_1_PORT ≠ 2 ∧ switching.fdbFind .a 7 1 = none ∧ switching.strFind .a (2 ^ 48 - 1) 1 = none := by decide

/-- R113: the frame for a stream entry goes to the ports of its EGRESS. -/
theorem test_streamRoute : (switching.route .a 2 (octets 0x010CCD040001 5)).1.ports = [3, 11] := by decide

/-- Port 2 has decided a frame for port 3 alone, whose link is up; port 4 holds one frame to send, port 5 sends one. -/
def framing : State :=
  let s := (switching.setFld (.prt .a 3) F.PRT_STATUS_LINK 1).setFld (.prt .a 4) F.PRT_STATUS_LINK 1
  let s := (s.setFld (.prt .a 4) F.PRT_CFG_TX_EN 1).setFld (.pswPort .a 2) F.PSW_PORT_CFG_LEARN 1
  let x := PlaneSt.empty.setPort 2 { PortMac.empty with rx := some ⟨none, octets 0x020000000009 5, 0, 0, [], [(3, false)], 1536, 0, 1⟩ }
  let x := (x.setQueue 4 0 [⟨0, false, false, none⟩]).setPort 5 { PortMac.empty with
    tx := some ⟨octets 9 5, some 0, true, 7, false, true, false, 2, 0, 0, 0, 0, none⟩ }
  s.setPlane .a { x with bufs := [(0, ⟨octets 9 5, 2, 0, 0, 1, 2, false, true, 7, none⟩)], nextBuf := 1 }

set_option maxRecDepth 40000 in
theorem wit_FrameEnds : RegsWf framing ∧ framing.bit (.psw .a) F.PSW_HCAP_CTRL_EN = false ∧ assocSorted (framing.plane .a).queues = true ∧
    assocSorted (framing.plane .a).bufs = true ∧ framing.receives .a 2 = true ∧ etypeOf (octets 0x020000000009 5) ≠ 0x8808 ∧
    ((framing.plane .a).port 2).rx = some ⟨none, octets 0x020000000009 5, 0, 0, [], [(3, false)], 1536, 0, 1⟩ ∧
    rxGood 64 1536 .good = true ∧ rxGood 64 1536 .badFcs = false ∧
    ((framing.plane .a).port 4).ctl = [] ∧ (framing.pauseReady .a 4) = false ∧ ((framing.plane .a).port 3).holdEnd = none ∧ frameLen (octets 0x020000000009 5) = 64 ∧
    framing.bit (.pswPort .a 2) F.PSW_PORT_CFG_LEARN = true ∧ framing.fdbFind .a 5 1 = none ∧
    framing.ent (fdbAddr .a 0) E.T5_1_VALID = 0 ∧ framing.occ .a 2 0 + cellsOf 64 ≤ framing.occMin .a 2 0 ∧ framing.link .a 3 = true ∧
    framing.planeUp .a = true ∧ framing.link .a 4 = true ∧ ((framing.plane .a).port 4).tx = none ∧ ((framing.plane .a).port 4).pauseEnd = none ∧
    framing.readyClasses .a 4 = [0] ∧ framing.readyClasses .a 3 = [] ∧ (framing.plane .a).queue 4 0 = [⟨0, false, false, none⟩] ∧
    framing.fld (.psw .a) F.PSW_AGE_MAX_AGE_MAX 0 = 0 ∧ framing.fld (.prt .a 4) F.PRT_MAXLEN_MAXLEN = 1536 ∧
    ((framing.plane .a).port 5).tx.isSome = true ∧ ((switching.plane .a).port 2).rx = none ∧ frameLen [(0 : Byte)] < 64 := by
  unfold RegsWf; decide

/-- R434: an uncorrectable buffer cell takes its frame out of the queue and counts it. -/
theorem test_bufferError : let t := framing.bufError .a 0
    (t.plane .a).queue 4 0 = [] ∧ t.fld (.prt .a 2) F.PRT_CNT_COUNT 3 = 1 ∧ t.fld .blt F.BLT_UNC_COUNT 1 = 1 := by decide +kernel

/-- R113, R101: a tag left off a frame of 64 bytes is made up by zeros. -/
theorem test_padUntagged : (sendOct (natBe 6 1 ++ natBe 6 2 ++ [0x81, 0, 0x80, 1, 0x88, 0xB8] ++ List.replicate 42 7) true).length = 60 := by decide

/-- A copy of Lane 0 for publication 5, issue 1, to port 3. -/
def copy0 (lane : Lane) (t : Nat) (policy : Nat) : MergeCopy :=
  ⟨lane, [5 + policy * 2 ^ 16, 1, 8, 0], octets 0x010CCD010001 5, t, ⟨5, 1, 1, 0, 0, 0, 0, 0, 0⟩⟩

/-- Plane A in HSR mode with port 2 as its ring port, a waiting copy, a held assignment and an assignment on the link. -/
def ringA : State :=
  let s := (switching.setFld (.psw .a) F.PSW_CTRL_RED_MODE 2).setFld (.psw .a) F.PSW_RED_CFG_RING_PORT 2
  let s := (s.setFld (.psw .a) F.PSW_RED_CFG_SUPV_EN 1).setFld (.prt .a 2) F.PRT_MACADDR_LO_ADDR 9
  s.setPlane .a { PlaneSt.empty with
    hsr := [⟨7, 0, 0⟩]
    ipIn := [⟨5, 1, 0, 3, 0⟩]
    seqWait := [⟨copy0 .l0 0 0, 0⟩]
    seqCache := [⟨6, 1, 0, 2, 0⟩] }

set_option maxRecDepth 40000 in
theorem wit_RingAndSequence : ringA.planeUp .a = true ∧ ringA.bit (.psw .a) F.PSW_HCAP_CTRL_EN = false ∧ ringA.receives .a 2 = true ∧
    ringA.ringPort .a = 2 ∧ ringA.fld (.psw .a) F.PSW_CTRL_RED_MODE = 2 ∧ ringA.bit (.psw .a) F.PSW_CTRL_EN = true ∧
    ringA.bit (.pswPort .a 2) F.PSW_PORT_CFG_FWD_EN = true ∧ ringA.ent (vlanAddr .a 1) E.T5_3_VALID = 1 ∧ ringA.macAddr .a 2 = 9 ∧
    bitAt (ringA.ent (vlanAddr .a 1) E.T5_3_MEMBER) 2 = true ∧ ringA.epsSwitching .a = false ∧ ((ringA.plane .a).port 2).rx = none ∧
    smacOf (octets 9 9) = 9 ∧ smacOf (octets 9 5) ≠ 9 ∧ isGroup (dmacOf (octets 9 5)) = false ∧ dmacOf (octets 9 5) = 9 ∧
    (ringA.plane .b).hsrHas 5 0 = false ∧ (ringA.plane .a).hsr = [⟨7, 0, 0⟩] ∧ (ringA.plane .a).ipIn = [⟨5, 1, 0, 3, 0⟩] ∧
    (ringA.plane .a).seqWait = [⟨copy0 .l0 0 0, 0⟩] ∧ (copy0 .l0 0 0).pub = 5 ∧ (copy0 .l0 0 0).issue = 1 ∧ (copy0 .l0 0 0).ports = [3] ∧
    ringA.bit (.psw .a) F.PSW_RED_CFG_SUPV_EN = true ∧ ringA.planeUp .b = true ∧ ringA.pins.ipUp = true ∧ ringA.cfgOwner .a = .a ∧
    (ringA.setFld (.psw .b) F.PSW_STATUS_OWNER 1).actOwner (Plane.other .a) ≠ .a := by decide

/-- R127: a frame of 60 octets with its RCT in Plane A. -/
theorem test_rct : (rctOct .a 3 (octets 9 5)).drop 60 = [0, 3, 0xA0, 52, 0x88, 0xFB] := by decide

/-- A copy of Lane 1 at Plane A's port, with or without an open entry of Lane 0's copy; Plane A owns the numbers. -/
def merging (es : List MergeEnt) (policy : Nat) : State :=
  ((allUp.setFld (.psw .a) F.PSW_CTRL_EN 1).setFld (.pswPort .a 12) F.PSW_PORT_CFG_FWD_EN 1).setPlane .a { PlaneSt.empty with laneIn := [copy0 .l1 9 policy], merge := es }

set_option maxRecDepth 40000 in
theorem wit_TwinMerge : (merging [] 0).planeUp .a = true ∧ (merging [] 0).bit (.psw .a) F.PSW_HCAP_CTRL_EN = false ∧
    ((merging [] 1).plane .a).laneIn.find? (fun d => decide (d.lane = .l1)) = some (copy0 .l1 9 1) ∧
    (∀ d ∈ ((merging [] 1).plane .a).laneIn, d.lane ≠ Lane.other .l1) ∧ (copy0 .l1 9 1).policy = 1 ∧ (copy0 .l1 9 0).policy ≠ 1 ∧
    (merging [] 1).bit (.psw .a) F.PSW_CTRL_EN = true ∧ (merging [] 1).bit (.pswPort .a 12) F.PSW_PORT_CFG_FWD_EN = true ∧
    (merging [] 1).laneUp .l0 = true ∧ (merging [] 1).rolledOut .l0 = false ∧ (merging [] 1).rolledOut .l1 = false ∧
    ((merging [⟨copy0 .l0 5 1, 700, false⟩] 1).plane .a).merge.find? (fun d => decide (d.first.pub = 5 ∧ d.first.issue = 1)) =
      some ⟨copy0 .l0 5 1, 700, false⟩ ∧
    (copy0 .l0 5 1).stamp < (copy0 .l1 9 1).stamp ∧ (copy0 .l0 5 1).hdr.flatMap (natLe 4) = (copy0 .l1 9 1).hdr.flatMap (natLe 4) ∧
    (merging [] 0).actOwner .a = .a ∧ (merging [] 0).pins.ipUp = true ∧ (merging [] 0).bit (.psw .a) F.PSW_DIV_CAPT0_VALID = false ∧
    ({ merging [] 0 with dom := ⟨.up, .up, .isolated, .up, .up, .up⟩ } : State).laneUp .l0 = false := by decide

/-- Lane 0's ingest runs with stream 3: one ASDU of one channel at 4,800 samples/s, LIVE on LAN A, with key 41 last accepted. -/
def streaming : State :=
  let a := subAddr .l0 3
  let r := strRec .l0 3
  let s := allUp.setFld (.ing .l0) F.ING_CTRL_EN 1
  let s := (s.setEnt a E.T6_2_DMAC 0x010CCD040001).setEnt a E.T6_2_VALID 1
  let s := ((s.setEnt a E.T6_2_SVID_CRC (crcOf crc32c [0x41])).setEnt a E.T6_2_RATE 1).setEnt a E.T6_2_NASDU 1
  let s := ((s.setEnt a E.T6_2_NCH 1).setEnt a E.T6_2_REVIVE 2).setEnt a E.T6_2_CNT_MOD_M1 4799
  let s := ((s.setEnt a E.T6_2_GAP_MAX 3).setEnt a E.T6_2_COPY_WAIT 10).setEnt a E.T6_2_LOSS_TMO 1300
  let s := (s.setEnt a E.T6_2_LEAD 8).setEnt a E.T6_2_GROUP 255
  ((s.setEnt r E.T6_10_STATE 2).setEnt r E.T6_10_LAST_KEY 41).setEnt r E.T6_10_TRK_VALID 1

/-- A well-formed copy of stream 3 with a key. -/
def svMsg (key : Nat) : SvMsg := ⟨0x88BA, 0x010CCD040001, 0, 0, false, true, [⟨[0x41], key, 0, 1, none, none, [(7, 0)]⟩], [1], [], none, none⟩

set_option maxRecDepth 40000 in
theorem wit_CopyChecks : streaming.laneUp .l0 = true ∧ streaming.epsRuns .l0 = false ∧ allUp.bit (.ing .l0) F.ING_CTRL_EN = false ∧
    streaming.bit (.ing .l0) F.ING_CTRL_EN = true ∧ streaming.subFind .l0 (streaming.streams .l0) (svMsg 42) = some 3 ∧
    streaming.subFind .l0 (streaming.streams .l0) { svMsg 42 with vid := 1 } = none ∧
    svFormat 1 1 4800 4800 50 (svMsg 42) = true ∧ svFormat 1 1 4800 4800 50 { svMsg 42 with asdus := [] } = false ∧
    (∀ d ∈ (svMsg 42).asdus, d.confRev = streaming.ent (subAddr .l0 3) E.T6_2_CONF_REV) ∧
    (streaming.setEnt (subAddr .l0 3) E.T6_2_SEAL_REQ 1).ent (subAddr .l0 3) E.T6_2_SEAL_REQ = 1 ∧
    sealOk [] none 0 = false ∧ (streaming.setEnt (subAddr .l0 3) E.T6_2_AUTH 1).ent (subAddr .l0 3) E.T6_2_AUTH ≠ 0 ∧
    streaming.tagCheck .l0 0 1 5 6 true 1 0 ⟨7, [], []⟩ = 2 := by decide

/-- A copy stamped at S whose slot has been zeroised, and one whose slot never went stale. -/
theorem wit_CopyChecks_gone : State.keyGone { allUp with l0 := { allUp.l0 with keyS := [(0, 9)] } } .l0 0 1 5 6 true 9 ⟨5, [], []⟩ = true ∧
    allUp.keyGone .l0 0 1 5 6 true 9 ⟨5, [], []⟩ = false := by decide


set_option maxRecDepth 40000 in
/-- R154: a tag that verifies under the next key. -/
theorem wit_CopyChecks_next : State.tagCheck { allUp with l0 := { allUp.l0 with keys := [(1, { KeySlot.empty with state := 1, verify := true, key := [] })] } }
    .l0 0 1 5 6 true 1 0 ⟨6, (hmac sha256P [] []).take 16, []⟩ = 1 := by decide +kernel

/-- A frame of stream 3 that waits for its preferred copy. -/
def frame3 : SvFrame := ⟨42, [1], [⟨1, 100, [[⟨7, 0, false, 0⟩]]⟩], none, 0, true, false, false, false⟩

set_option maxRecDepth 40000 in
theorem wit_SampleFrames : streaming.ent (subAddr .l0 3) E.T6_2_VALID = 1 ∧ (streaming.str .l0 3).pend = [] ∧
    (streaming.str .l0 3).done = [] ∧ streaming.ent (strRec .l0 3) E.T6_10_STATE = 2 ∧ streaming.ent (subAddr .l0 3) E.T6_2_SEAL_REQ = 0 ∧
    streaming.ent (subAddr .l0 3) E.T6_2_AUTH = 0 ∧ streaming.ent (subAddr .l0 3) E.T6_2_PREF_LAN = 0 ∧
    streaming.ent (strRec .l0 3) E.T6_10_TRK_VALID = 1 ∧ ((42 : Int) - 41 - 1) % 4800 = 0 ∧ (((44 : Int) - 41 - 1) % 4800).toNat ≤ 3 ∧
    4800 - 16 * 1 ≤ (((40 : Int) - 41 - 1) % 4800).toNat ∧ (((900 : Int) - 41 - 1) % 4800).toNat < 4800 - 16 * 1 ∧
    ((streaming.setStr .l0 3 { StrSt.empty with pend := [frame3] }).str .l0 3).pend = [frame3] ∧
    (streaming.setEnt (strRec .l0 3) E.T6_10_STATE 3).ent (strRec .l0 3) E.T6_10_STATE = 3 ∧
    ((streaming.setStr .l0 3 { StrSt.empty with done := [⟨42, [1], [0], 0, 5⟩] }).str .l0 3).done.find? (fun g => decide (g.key = 42)) =
      some ⟨42, [1], [0], 0, 5⟩ ∧
    svFormat 1 1 4800 4800 50 (svMsg 42) = true := by decide

/-- The stream's grid runs; or it is about to start on a LOCKED plane. -/
def gridOn : State := streaming.setFld (.ing .l0) F.ING_STATUS_GRID_RUN 1
def gridSoon : State := streaming.setFld (.tim .a) F.TIM_STATUS_STATE 1

/-- Stream 3 in group 7, LIVE without a sample. -/
def grouped : State := gridOn.setEnt (subAddr .l0 3) E.T6_2_GROUP 7

set_option maxRecDepth 40000 in
theorem wit_GridAndRelease : gridSoon.gridRun .l0 = false ∧ gridSoon.laneHold .l0 = false ∧
    gridSoon.planeLocked (gridSoon.followed .l0) = true ∧ gridOn.gridRun .l0 = true ∧ grouped.members .l0 7 (grouped.grpNext .l0 7) = [3] ∧ RegsWf grouped ∧
    (gridOn.setEnt (strRec .l0 3) E.T6_10_STATE 3).strState .l0 3 ≠ 2 ∧ gridOn.ent (subAddr .l0 3) E.T6_2_GROUP = 255 ∧
    gridOn.strState .l0 3 = 2 ∧ (gridOn.str .l0 3).pend = [] ∧ gridOn.ent (subAddr .l0 3) E.T6_2_VALID = 1 := by unfold RegsWf; decide

/-- R144: at 4,800 samples/s the first instant at or after 1 ns of second 0 is number 1, at 208,333.33 ns. -/
theorem test_gridAt : gridAt 4800 65536 = 1 ∧ gridT 4800 1 = 13653333333 ∧ gridT 4800 4800 = sec := by decide

/-- Engine 0 of Lane 0 runs with slot 1 valid, one released instant ready, on bank 2; bank 3 is asked for slot 1. -/
def filtering (pend : Bool) (p2 : Option Pipe) : State :=
  let a := slotDesc .l0 1
  let r := slotRec .l0 1
  let s := ((allUp.setFld (.flt .l0) F.FLT_CTRL_EN 1).setFld (.fltEng .l0 0) F.FLT_ENG_CFG_N_SLOTS 2).setEnt a E.T7_1_VALID 1
  let s := ((s.setEnt a E.T7_1_TAPS_RS 16).setEnt a E.T7_1_WASH_OK 1).setEnt r E.T7_8_ACT_BANK 2
  let s := (s.setFld (.fltEng .l0 0) F.FLT_SWAP_REQ_SLOT 1).setFld (.fltEng .l0 0) F.FLT_SWAP_REQ_BANK 3
  let s := (s.setEnt r E.T7_8_PENDING (b2n pend)).setEnt r E.T7_8_PEND_BANK 3
  (s.setFld (.fltEng .l0 0) F.FLT_WASH_LEN_LEN 96).setSlotSt .l0 1 { SlotSt.empty with ready := [⟨7, 0, true, 0⟩], pipe2 := p2, washLen := 96 }

set_option maxRecDepth 40000 in
theorem wit_FilterSlots : (filtering false none).laneUp .l0 = true ∧ RegsWf (filtering true none) ∧
    (filtering false none).bit (.flt .l0) F.FLT_CTRL_EN = true ∧ (filtering false none).fld (.fltEng .l0 0) F.FLT_ENG_CFG_N_SLOTS = 2 ∧
    (filtering false none).ent (slotDesc .l0 1) E.T7_1_VALID = 1 ∧ (filtering false none).ent (slotDesc .l0 0) E.T7_1_VALID = 0 ∧
    ((filtering false none).slotSt .l0 1).ready = [⟨7, 0, true, 0⟩] ∧ ((filtering false none).tokQ .l0 0).toks = [] ∧
    (filtering false none).ent (slotRec .l0 1) E.T7_8_PENDING = 0 ∧ ((filtering false (some .empty)).slotSt .l0 1).pipe2 = some .empty ∧
    (filtering true none).ent (slotRec .l0 1) E.T7_8_PENDING = 1 ∧ (filtering true none).ent (slotRec .l0 1) E.T7_8_WASHING = 0 ∧
    ((filtering true none).slotSt .l0 1).pendAt ≤ 7 ∧ (filtering true none).ent (slotRec .l0 1) E.T7_8_ACT_BANK = 2 ∧
    (filtering true none).ent (slotRec .l0 1) E.T7_8_PEND_BANK = 3 ∧ (filtering true none).ent (slotDesc .l0 1) E.T7_1_WASH_OK = 1 ∧
    1 < (filtering true none).fld (.fltEng .l0 0) F.FLT_WASH_LEN_LEN ∧ allUp.bit (.flt .l0) F.FLT_CTRL_EN = false ∧
    (filtering false none).bankBusy .l0 0 3 = false ∧ (filtering false none).bankBusy .l0 0 2 = true ∧
    (filtering false none).fld (.fltEng .l0 0) F.FLT_SWAP_REQ_SLOT = 1 ∧ 0 < (filtering false none).gridG .l0 := by unfold RegsWf; decide

set_option maxRecDepth 40000 in
/-- A slot that still has to meet its new descriptor, and one that works on an instant before g_c. -/
theorem wit_FilterSlots_due : (((filtering false none).setSlotSt .l0 1 { SlotSt.empty with ready := [⟨7, 0, true, 0⟩], due := true }).slotSt .l0 1).due = true ∧
    ((filtering false none).lane .l0).fltGc ≤ 7 ∧ ((filtering false none).slotSt .l0 1).due = false ∧
    (7 : Nat) < (((filtering false none).setLane .l0 { (filtering false none).lane .l0 with fltGc := 8 }).lane .l0).fltGc := by decide

/-- R180's worked case: k = 2 of 96 between 1,000,000 and 1,000,300 gives 1,000,006. -/
theorem test_wash : (washBlend 2 96 ⟨1000000, 0, false, 0⟩ ⟨1000300, 0, false, 0⟩).val = 1000006 := by decide

/-- R162's rounding: one tap of value 2^23 and one of 0 give the middle entry itself. -/
theorem test_resample : (resample (fun w => if w = 0 then 8388608 else 0) 0 2 13653333333 [⟨6, 0, 20, 0, [⟨9, 0, false, 0⟩]⟩, ⟨5, 0, 10, 0, [⟨4, 0, false, 0⟩]⟩] 0 0 10).1 =
    ⟨4, 0, false, 0⟩ := by decide

/-- Lane 0's Quill is enabled; node 5 of bank 0 is a grid input to port 0 of node 6, an operator node of group 3 with one pool entry. -/
def quilled : State :=
  let s := (allUp.setFld (.qul .l0) F.QUL_CTRL_EN 1).setRecF .l0 0x50 E.T8_3_KIND 1
  let s := ((s.setRecF .l0 0x50 E.T8_3_SUCC_CNT 1).setRecF .l0 0x60 E.T8_3_KIND 3).setRecF .l0 0x60 E.T8_3_GROUP 3
  let s := (s.setRecF .l0 0x400000 E.T8_4_NODE 6).setRecF .l0 0x70 E.T8_3_KIND 2
  let s := (s.setRecF .l0 0x70 E.T8_3_SUCC_CNT 1).setRecF .l0 0x70 E.T8_3_SUCC_BASE 1
  let s := (((s.setRecF .l0 0x400004 E.T8_4_NODE 8).setRecF .l0 0x400004 E.T8_4_PORT 1).setRecF .l0 0x80 E.T8_3_KIND 3).setRecF .l0 0x80 E.T8_3_N_IN_M1 1
  let s := s.setEnt (subAddr .l0 9) E.T6_2_CNT_MOD_M1 4799
  s.setEnt (winAddr (.qul .l0) .qulGrpAct 48) E.T8_6_READY_MAX 1

/-- A grid token of node 5, and a Speedwell token of node 7 on stream 9. -/
def gridTok (node : Nat) : Tok := ⟨40, false, 0, node, 0, 0, false, 0x3F800000, false, 0⟩
def swTok (key : Nat) : Tok := ⟨key, true, 9, 7, 0, 0, false, 0, false, 0⟩

/-- The token heads a source's queue. -/
def queued (src : Nat) (x : Tok) (s : State) : State := s.setTokQ .l0 src { TokQ.empty with toks := [x] }

/-- Node m of bank 0 holds something. -/
def holding (m : Nat) (y : NodeSt) (s : State) : State := s.setNode .l0 0 m y

set_option maxRecDepth 40000 in
theorem wit_TokenArrival_grid : (queued 0 (gridTok 5) quilled).laneUp .l0 = true ∧ ((queued 0 (gridTok 5) quilled).tokQ .l0 0).toks = [gridTok 5] ∧
    quilled.bit (.qul .l0) F.QUL_CTRL_EN = true ∧ allUp.bit (.qul .l0) F.QUL_CTRL_EN = false ∧ quilled.nd .l0 0 5 E.T8_3_KIND = 1 ∧
    quilled.nd .l0 0 4 E.T8_3_KIND = 0 ∧ quilled.succs .l0 0 5 = [(6, 0)] ∧ quilled.willTake .l0 0 6 40 false = true ∧
    quilled.tokBank .l0 (gridTok 5) = 0 ∧ quilled.nd .l0 0 6 E.T8_3_KIND = 3 ∧ quilled.nd .l0 0 6 E.T8_3_GROUP = 3 ∧
    quilled.succs .l0 0 6 = [] ∧ quilled.pool .l0 3 = [] ∧ quilled.grpF .l0 3 E.T8_6_READY_MAX = 1 ∧ quilled.grpF .l0 4 E.T8_6_READY_MAX = 0 ∧
    ((holding 6 { NodeSt.empty with ports := [(0, [gridTok 6, gridTok 6])] } quilled).node .l0 0 6).room 0 40 (quilled.tokOlder .l0 (gridTok 5)) = false := by decide +kernel

set_option maxRecDepth 40000 in
theorem wit_TokenArrival_sw : quilled.nd .l0 0 7 E.T8_3_KIND = 2 ∧ quilled.succs .l0 0 7 = [(8, 1)] ∧ quilled.willTake .l0 0 8 41 true = true ∧
    quilled.cntMod .l0 (swTok 41).stream = 4800 ∧ (((41 : Int) - 41) % 4800).toNat = 0 ∧ 4800 ≤ 2 * (((30 : Int) - 41) % 4800).toNat ∧
    ((holding 8 { NodeSt.empty with last := some 41 } quilled).node .l0 0 8).last = some 41 ∧
    quilled.nd .l0 0 8 E.T8_3_N_IN_M1 = 1 ∧ swOlder 4800 40 41 = true ∧
    ((holding 8 { NodeSt.empty with ports := [(0, [swTok 40])] } quilled).node .l0 0 8).ports = [(0, [swTok 40])] ∧
    ((holding 8 { NodeSt.empty with ports := [(1, [swTok 40])] } quilled).node .l0 0 8).ports = [(1, [swTok 40])] ∧
    ((queued 0 (gridTok 5) quilled).tokQ .l0 0).overLim = false ∧
    ((quilled.setFld (.qul .l0) F.QUL_GRP_CTL_INTAKE 0 3).grpClosed .l0 3 40 false) = true := by decide +kernel

set_option maxRecDepth 40000 in
/-- A step that takes the grid token makes node 6 ready. -/
theorem test_tokenAccept : (∃ t, exec (.tokenAccept .l0 0) (queued 0 (gridTok 5) quilled) = .next t ∧ (t.node .l0 0 6).firing = 1 ∧
    ((t.lane .l0).quill.items.map fun i => (i.node, i.key, i.disp.isSome)) = [(6, 40, true)]) := ⟨_, rfl, by decide +kernel⟩

/-- Item of node 6 (group 3) of bank 0, dispatchable since time 0 with order number o. -/
def item6 (o : Nat) : Item := ⟨0, 6, 40, false, 3, 0, [], some (0, o)⟩

/-- Lane 0's engines are enabled and hold ready items, groups 3 (and 5) at level lv and active. -/
def selecting (items : List Item) (lv : Nat) (act : List Nat) : State :=
  let s := ((allUp.setFld (.qul .l0) F.QUL_CTRL_EN 1).setFld (.ops .l0) F.OPS_CTRL_EN 1).setEnt (winAddr (.qul .l0) .qulGrpAct 48) E.T8_6_LEVEL lv
  let s := ((s.setEnt (winAddr (.qul .l0) .qulGrpAct 80) E.T8_6_LEVEL lv).setRecF .l0 0x60 E.T8_3_COST 96).setEnt (winAddr (.qul .l0) .qulGrpAct 48) E.T8_6_CMAX 96
  let s := if lv = 0 then s else s.setEnt (winAddr (.qul .l0) .qulGrpAct 80) E.T8_6_CMAX 96
  let two := act.length = 2
  let grps : List (Nat × GrpSt) := [(3, { GrpSt.empty with topped := true, deficit := 95 }), (5, { GrpSt.empty with quantum := 96 })]
  let q : QuillSt := { QuillSt.empty with items := items, active := [(lv, act)], order := 9 }
  s.setQuill .l0 (if two then { q with roundLeft := [(lv, 2)], groups := grps } else q)

set_option maxRecDepth 40000 in
theorem wit_EngineSelection : (selecting [item6 4] 0 []).laneUp .l0 = true ∧ (selecting [item6 4] 0 []).engOut .l0 3 = false ∧
    (selecting [item6 4] 0 []).canGo .l0 (item6 4) = true ∧ (selecting [item6 4] 0 []).level .l0 3 = 0 ∧
    (selecting [item6 4] 2 [3]).level .l0 3 = 2 ∧ ((selecting [item6 4] 2 [3]).pool .l0 3).find? ((selecting [item6 4] 2 [3]).canGo .l0) = some (item6 4) ∧
    (selecting [item6 4] 2 [3]).itemCost .l0 (item6 4) = 96 ∧ (selecting [item6 4] 2 [3]).fld (.qul .l0) F.QUL_CTRL_RES0 = 0 ∧
    (let s := selecting [item6 4, { item6 5 with node := 9, group := 5 }] 2 [3, 5];
      decide ((s.grpSt .l0 3).deficit < s.itemCost .l0 (item6 4)) = true ∧ (s.pool .l0 5).find? (s.canGo .l0) = some { item6 5 with node := 9, group := 5 } ∧
      assocGetD (s.lane .l0).quill.active 2 [] = [3, 5] ∧ assocGetD (s.lane .l0).quill.roundLeft 2 0 = 2) ∧
    ((allUp.setFld (.qul .l0) F.QUL_CTRL_RES0 8).fld (.qul .l0) F.QUL_CTRL_RES0 = 8) ∧
    allUp.bit (.qul .l0) F.QUL_GRP_CTL_INTAKE 3 = true ∧ (allUp.setFld (.qul .l0) F.QUL_GRP_CTL_INTAKE 0 3).bit (.qul .l0) F.QUL_GRP_CTL_INTAKE 3 = false := by
  decide +kernel

/-- R206's bins. -/
theorem test_waitBin : [0, 19, 20, 39, 40, 327679, 327680, 999999].map waitBin = [0, 0, 1, 1, 2, 14, 15, 15] := by decide

/-- Engine 5 of Lane 0 runs a firing of node 6, instance 2 of operator c; the state area lies at 1 MiB, the operator area at 128 MiB. -/
def firing (c len mapEn : Nat) : State :=
  let d := 0x8000000 + 256
  let s := (allUp.setRecF .l0 0x60 E.T8_3_KIND 3).setRecF .l0 0x60 E.T8_3_OP 2
  let s := (s.wr (.ops .l0) .OPS_AREA_BASE_LO 0 0x8000000).wr (.ops .l0) .OPS_STATE_BASE_LO 0 0x100000
  let s := ((s.wr (.qul .l0) .QUL_GRAPH_BASE_LO 0 0).setRecF .l0 d E.T9_1_OPCODE c).setRecF .l0 d E.T9_1_STATE_LEN len
  let s := s.setRecF .l0 d E.T9_1_MAP_EN mapEn
  s.setQuill .l0 { QuillSt.empty with eng := [(5, ⟨item6 0, 0, 0⟩)] }

/-- The map of Lane 0 is enabled and point 0 belongs to operators of instance 0. -/
def mapped (s : State) : State :=
  let a := winAddr (.map .l0) .mapRngAct 0
  let s := (s.setFld (.map .l0) F.MAP_CTRL_EN 1).setFld (.map .l0) F.MAP_PEND_CFG_SIZE_LOG2 10
  (s.setEnt a E.T10_2_VALID 1).setEnt a E.T10_2_CLASS 1

set_option maxRecDepth 40000 in
theorem wit_OperatorFirings : ∀ c ∈ (List.range 11).tail, (firing c 1 1).laneUp .l0 = true ∧ assocGet ((firing c 1 1).lane .l0).quill.eng 5 = some ⟨item6 0, 0, 0⟩ ∧
    (firing c 1 1).nd .l0 0 6 E.T8_3_OP = 2 ∧ (firing c 1 1).recF .l0 ((firing c 1 1).opDesc .l0 0 2) E.T9_1_OPCODE = c ∧ (firing c 1 1).itemOpBank .l0 (item6 0) = 0 ∧
    (firing c 1 0).recF .l0 ((firing c 1 0).opDesc .l0 0 2) E.T9_1_MAP_EN = 0 ∧ (firing c 1 1).opStateAt .l0 0 = 0x100000 ∧ (firing c 1 1).mapRoom .l0 1 = false ∧
    ((firing c 1 0).lane .l0).quill.opsReset = [] ∧ (firing c 1 0).succs .l0 0 6 = [] := by decide +kernel

set_option maxRecDepth 40000 in
/-- The state record (1 MiB up, at most 5,000 bytes) lies apart from the descriptor at 128 MiB; the graph bank is at its reset address 0. -/
theorem wit_OperatorFirings_map : (mapped (firing 2 0 1)).mapRoom .l0 1 = true ∧ (mapped (firing 2 0 1)).mayWrite .l0 1 0 0 = true ∧
    (mapped (firing 2 0 1)).mayWrite .l0 1 3 0 = false ∧ (mapped (firing 2 0 1)).grpF .l0 3 E.T8_6_OWNER = 0 ∧ (mapped (firing 2 0 1)).recF .l0 0x8000100 E.T9_1_STATE_LEN = 0 ∧
    (mapped (firing 2 0 1)).horizon .l0 < (mapped (firing 2 0 1)).gT .l0 40 := by decide +kernel

/-- R235's worked case: the DIFF's second picked-up firing operates (3.0∠−80° and 2.0∠−70°). -/
def diffIn (pcnt : Nat) : OpIn :=
  let p := fun (f : EFld) => (assocGetD [(0x10, if f = E.T9_5_N_END then 2 else if f = E.T9_5_PU_CNT then 2 else if f = E.T9_5_DO_CNT then 4 else 0),
    (0x14, 0x3E4CCCCD), (0x18, 0x3E99999A), (0x1C, 0x40000000), (0x20, 0x3F333333)] f.off 0)
  let tok := fun (re im : Nat) => { Tok.none_ with code := 0, payload := re + 2 ^ 32 * im }
  ⟨p, fun f => if f = stDiffP then pcnt else 0, fun _ _ => 0, false, false, [tok 0x3F0559B4 0xC03D14E4, tok 0x3F2F1AA0 0xBFF0902E], 1⟩

theorem test_diff : (opDiffF (diffIn 0)).w3 = 1 ∧ (opDiffF (diffIn 1)).w3 = 3 ∧ (opDiffF (diffIn 0)).code = 0 ∧
    (opDiffF (diffIn 0)).w0 / 2 ^ 8 = 0x409F6A ∧ (opDiffF (diffIn 0)).w2 / 2 ^ 9 = 0x3F733333 / 2 ^ 9 := by decide +kernel

theorem wit_OperatorFirings_mems : (∀ c ∈ (List.range 11).tail, MemsWf (firing c 1 1)) ∧ MemsWf (mapped (firing 2 0 1)) := by
  unfold MemsWf; decide +kernel

/-- One firing's input with a single token, parameters and state words given by field. -/
def opIn1 (p st : List (EFld × Nat)) (code w0 w1 w2 dist : Nat) : OpIn :=
  let at_ := fun (m : List (EFld × Nat)) (f : EFld) => ((m.find? (fun e => decide (e.1 = f))).map (fun e => e.2)).getD 0
  ⟨at_ p, at_ st, fun _ _ => 0, false, true, [{ Tok.none_ with code := code, payload := w0 + 2 ^ 32 * w1 + 2 ^ 64 * w2 }], dist⟩

/-- Each clause's premises can be met: windows filling and full, usable and unusable inputs, memory left and used up. -/
theorem wit_OperatorResults : (opIn1 [(⟨0x10, 9, 0⟩, 8)] [(stPos, 3), (stFill, 2)] 0 0 0 0 1).st stPos < 8 ∧
    (opIn1 [] [] 2 0 0 0 1).usable ((opIn1 [] [] 2 0 0 0 1).port 0) = false ∧ (opIn1 [] [] 0 0 0 0 1).usable ((opIn1 [] [] 0 0 0 0 1).port 0) = true ∧
    (opIn1 [(E.T9_7_MEM_CNT, 9)] [(stMemOk, 1)] 0 0 0 0 1).st stAge < 9 ∧ fGt f32 0x40000000 0x3F800000 = true ∧
    (opHarmF (opIn1 [(E.T9_11_N, 8)] [] 0 0 0 0 1)).w3 = 2 ^ 16 + 4 ∧ (opInstF (opIn1 [(E.T9_12_PU_CNT, 1), (E.T9_12_I_SET, 0x3F800000)] [] 0 0 0x40000000 0 1)).w3 = 3 ∧
    (opIdmtF (opIn1 [(E.T9_8_I_PU, 0x3F800000)] [(stAcc, 5)] 0 0 0 0x3F800000 1)).w3 = 0 := by decide +kernel

/-- Lane 0's map is enabled with points 0 to 63 of class c and owner 64, its clock at 10 ms; `p` is what it holds. -/
def mapState (en : Nat) (c : Nat) (p : MapSt) : State :=
  let a := winAddr (.map .l0) .mapRngAct 0
  let s := (allUp.setFld (.map .l0) F.MAP_CTRL_EN en).setFld (.map .l0) F.MAP_PEND_CFG_SIZE_LOG2 10
  let s := (((s.setEnt a E.T10_2_VALID 1).setEnt a E.T10_2_CLASS c).setEnt a E.T10_2_OWNER 64).setEnt a E.T10_2_COUNT_M1 63
  let s := s.wr (.map .l0) .MAP_BASE_LO 0 0x10000000
  s.setLane .l0 { s.l0 with now := 10 * ms, map := p }

/-- A pending write of point 5 with effective time E. -/
def write5 (e : Nat) : MapW := ⟨some e, none, 5, mkRec 7 0 0 false false 5 false 0, 64⟩

/-- A SNAP request of the manager at 64 whose cut is c, of one point, copied to 0x1000. -/
def snapped (c : Nat) : State :=
  (mapState 1 5 { MapSt.empty with reqs := [⟨64, 64, some c, [5], 0x1000⟩] }).memW .l0 64 (reqRecord 2 0 0 false 0 1 0x800 0x1000 0)

set_option maxRecDepth 40000 in
theorem wit_MapTime : (mapState 0 5 .empty).laneUp .l0 = true ∧ (mapState 0 5 .empty).bit (.map .l0) F.MAP_CTRL_EN = false ∧
    (mapState 1 5 .empty).bit (.map .l0) F.MAP_CTRL_EN = true ∧ 5 * ms + (mapState 1 5 .empty).hold .l0 ≤ (mapState 1 5 { MapSt.empty with pend := [write5 (5 * ms)] }).laneNow .l0 ∧
    (mapState 1 5 .empty).horizon .l0 < 9 * ms ∧ (mapState 1 5 .empty).rngOf .l0 5 ≠ none ∧ recSrc (write5 0).rec_ = 5 ∧
    ((snapped (6 * ms)).lane .l0).map.reqs = [⟨64, 64, some (6 * ms), [5], 0x1000⟩] ∧ 0x1000 + 32 * 1 ≤ laneMemSize ∧ 6 * ms ≤ (snapped 0).horizon .l0 ∧
    6 * ms + (snapped 0).hold .l0 ≤ (snapped 0).laneNow .l0 ∧ (snapped 0).horizon .l0 - (snapped 0).hold .l0 ≤ 6 * ms ∧
    1 < (snapped 0).horizon .l0 - (snapped 0).hold .l0 ∧ (snapped 0).bit (.ins .l0) F.INS_DIRTY_CTL_EN = false ∧
    (mapState 1 5 .empty).mapRoom .l0 1 = true ∧ (mapState 0 5 .empty).mapRoom .l0 1 = false ∧
    (mapState 0 5 .empty).entries (gooAddr .l0 0) 0x100000 64 = [] := by decide +kernel

set_option maxRecDepth 40000 in
/-- An engine of the recorder's example waits for room in the map. -/
theorem wit_MapTime_room : let s := mapped (firing 3 1 1)
    let s := s.setMap .l0 { (s.lane .l0).map with waits := [.engine 5] }
    s.mapRoom .l0 1 = true ∧ assocGet (s.lane .l0).quill.eng 5 = some ⟨item6 0, 0, 0⟩ ∧ s.recF .l0 (s.opDesc .l0 (s.itemOpBank .l0 (item6 0)) 2) E.T9_1_OPCODE = 3 ∧
    s.nd .l0 0 6 E.T8_3_OP = 2 := by decide +kernel

theorem wit_MapTime_mems : MemsWf (mapState 0 5 .empty) ∧ MemsWf (mapped (firing 3 1 1)) := by unfold MemsWf; decide +kernel

set_option maxRecDepth 40000 in
theorem wit_MapRequests : (mapState 1 5 .empty).laneUp .l0 = true ∧ (mapState 1 5 .empty).bit (.ins .l0) F.INS_DIRTY_CTL_EN = false ∧
    64 * (7 : BitVec 42).toNat + 64 ≤ laneMemSize ∧ (mapState 1 5 .empty).mayWrite .l0 5 64 9 = true ∧ (mapState 1 4 .empty).mayWrite .l0 5 64 9 = false ∧
    (mapState 1 5 .empty).mapRoom .l0 1 = true ∧ bitsOf (BitVec.ofNat 96 (toT96 (20 * ms))).toNat 47 16 < 1000000000 ∧
    1000000000 ≤ bitsOf ((BitVec.ofNat 96 (2 ^ 48 - 1)).toNat) 47 16 ∧ (mapState 1 5 .empty).horizon .l0 < 20 * ms ∧ (mapState 1 5 .empty).ownerRuns .l0 3 = false ∧
    ((mapState 1 5 .empty).setFld (.insPage .l0 3) F.INS_STATE_STATE 2).ownerRuns .l0 3 = true ∧ (mapState 1 5 .empty).mayReachRange .l0 3 true 448 64 = false ∧
    (mapState 1 5 .empty).mayReach .l0 3 true (448 + 0x38) = false ∧
    (((mapState 1 5 .empty).setFld (.map .l0) F.MAP_PEND_CFG_SIZE_LOG2 0).setMap .l0 { MapSt.empty with pend := [write5 0] }).mapRoom .l0 1 = false := by
  decide +kernel

set_option maxRecDepth 40000 in
/-- A WRITE request for 20 ms at 10 ms waits in the pending queue. -/
theorem test_mapWrite : ∃ t, exec (.mapRequestWrite .l0 64 7 9 0 false (BitVec.ofNat 96 (toT96 (20 * ms))) 5) (mapState 1 5 .empty) = .next t ∧
    ((t.lane .l0).map.pend.map fun w => (w.e, w.point, w.rec_ % 2 ^ 128)) = [(some (20 * ms), 9, 5)] := ⟨_, rfl, by decide +kernel⟩

theorem wit_MapRequests_mems : MemsWf (mapState 1 5 .empty) := by unfold MemsWf; decide +kernel

/-- Subscription 3 of Lane 0 (LAN A preferred, owner 64, members 0 and 1: a boolean at point 5 with its quality) in state st. -/
def gooSub (st : Nat) (y : GooSt) : State :=
  let a := gooAddr .l0 3
  let s := mapState 1 3 { MapSt.empty with goose := [(3, y)] }
  let s := (((s.setEnt a E.T10_6_VALID 1).setEnt a E.T10_6_GOCB_CRC (crcOf crc32c [0x41])).setEnt a E.T10_6_MEMBERS 2).setEnt a E.T10_6_OWNER 64
  let s := ((s.setEnt a E.T10_6_TAL_DEF 10).setEnt a E.T10_6_COPY_WAIT 10).setEnt (memEnt .l0 0) E.T10_7_POINT 5
  let s := ((s.setEnt (memEnt .l0 0) E.T10_7_TYPE 1).setEnt (memEnt .l0 1) E.T10_7_TYPE 6).setEnt (gooRec .l0 3) gsState st
  (s.setEnt (gooRec .l0 3) gsSt 7).setEnt (gooRec .l0 3) gsDeadline (toT96 (9 * ms))

/-- A GOOSE frame of that subscription with stNum and sqNum. -/
def gooMsg (stN sqN : Nat) : GooseMsg :=
  let data := berTlv 0x83 [1] ++ berTlv 0x84 [3, 0, 0]
  let apdu := berTlv 0x80 [0x41] ++ berTlv 0x81 [20] ++ berTlv 0x82 [] ++ berTlv 0x84 [0, 0, 0, 5, 0, 0, 0, 0] ++
    berTlv 0x85 (berUnsigned stN) ++ berTlv 0x86 (berUnsigned sqN) ++ berTlv 0x87 [0] ++ berTlv 0x88 [0] ++ berTlv 0x89 [0] ++
    berTlv 0x8A [2] ++ berTlv 0xAB data
  ⟨0, 0, [0, 0, 0, 0, 0, 0, 0, 0] ++ berTlv 0x61 apdu, [], none, none⟩

/-- Its message held for the other LAN's copy. -/
def gooHeld : GooMsg := ⟨8, 0, [1], [⟨1, 8 * ms⟩], none, true, false, 20, 5, false, [⟨0x83, [1]⟩, ⟨0x84, [3, 0, 0]⟩]⟩

set_option maxRecDepth 40000 in
theorem wit_GooseSubscriptions : (gooSub 1 .empty).laneUp .l0 = true ∧ (gooSub 1 .empty).gooFind .l0 (gooMsg 8 0) = some 3 ∧
    (gooSub 1 .empty).gooFind .l0 { gooMsg 8 0 with vid := 1 } = none ∧ (gooSub 1 .empty).gooFormat .l0 3 (gooMsg 8 0) = true ∧
    (gooSub 1 .empty).gooFormat .l0 3 { gooMsg 8 0 with oct := [] } = false ∧ (gooSub 1 .empty).ent (gooRec .l0 3) gsState = 1 ∧
    (gooSub 2 .empty).ent (gooRec .l0 3) gsState = 2 ∧ (gooSub 1 .empty).ent (gooRec .l0 3) gsSt = 7 ∧
    (gooSub 1 .empty).mapRoom .l0 1 = true ∧ (gooSub 1 .empty).mayWrite .l0 3 64 5 = true ∧ (gooSub 1 .empty).horizon .l0 < 8 * ms ∧
    ((gooSub 1 { GooSt.empty with pend := [gooHeld] }).goo .l0 3).pend = [gooHeld] ∧ ((gooSub 1 .empty).lane .l0).map.gooOut = [] ∧
    ((gooSub 1 { GooSt.empty with done := [⟨8, 0, [1], [0], 0, 5⟩] }).goo .l0 3).done.find? (fun d => decide (d.st = 8 ∧ d.sq = 0)) = some ⟨8, 0, [1], [0], 0, 5⟩ ∧
    sealOk [] none 0 = false ∧ (gooSub 1 .empty).tagCheck .l0 0 1 5 6 true 1 0 ⟨7, [], []⟩ = 2 := by decide +kernel

set_option maxRecDepth 40000 in
/-- A newer stNum on the preferred LAN posts the member's write. -/
theorem test_goose : ∃ t, exec (.gooseCopyReceived .l0 0 (12 * ms) true (gooMsg 8 0)) (gooSub 1 .empty) = .next t ∧
    ((t.lane .l0).map.pend.map fun w => (w.e, w.point, recW w.rec_ 0, recW w.rec_ 2, recW w.rec_ 3, recCode w.rec_)) = [(some (12 * ms), 5, 1, 5, 8, 0)] :=
  ⟨_, rfl, by decide +kernel⟩

/-- R266's worked case, word for word: LD I 0, AND V 1, ANDN I 256, TON 5, ST Q 0, END. -/
theorem test_scribeWords : [0x04000000, 0x0E800001, 0x10000100, 0x60000005, 0x40800000, 0xFC000000].map scribeDecode =
    [some ⟨.ld_, 0, 0⟩, some ⟨.and_, 5, 1⟩, some ⟨.andn_, 0, 256⟩, some ⟨.ton_, 0, 5⟩, some ⟨.st_, 1, 0⟩, some ⟨.end_, 0, 0⟩] := by decide

/-- Reserved opcodes and non-zero bits of fields that are 0 decode to nothing: opcodes 0x0E and 0x3B, NOP 1, TON 1024, JMP 65536. -/
theorem test_scribeReserved : [0x38000000, 0xEC000000, 0x00000001, 0x60000400, 0xE0010000].map scribeDecode = [none, none, none, none, none] := by decide

theorem wit_ScribeRoundTrip : scribeWf ⟨.ldw_, 7, 2 ^ 23 - 1⟩ = true ∧ scribeWf ⟨.ldi_, 0, 2 ^ 26 - 1⟩ = true ∧ scribeDecode 0x4FFFFFFF = some ⟨.rst_, 7, 2 ^ 23 - 1⟩ := by decide

/-- Lane 0's engine 2 runs the one word `w`, budget 1,000, with one input and one output entry. -/
def scribing (w : Nat) (y : ScrSt) : State :=
  let pg : Page := .scr .l0 2
  let s := ((allUp.setFld pg F.SCR_PERIOD_PERIOD 1000).setFld pg F.SCR_WDOG_WD_CYC 1000).setFld pg F.SCR_STATUS_STATE 1
  let s := (s.setFld pg F.SCR_SIZE_N_IN 1).setFld pg F.SCR_SIZE_N_OUT 1
  (s.setWin (winAddr pg .scrPrgAct 0) (BitVec.ofNat 32 w)).setScr .l0 2 { y with run := true }

set_option maxRecDepth 40000 in
theorem wit_ScribeInstructions : ∀ o ∈ sopAll, (scribing (scribeEncode ⟨o, 0, 0⟩) .empty).laneUp .l0 = true ∧
    ((scribing (scribeEncode ⟨o, 0, 0⟩) .empty).scr .l0 2).run = true ∧ scribeDecode ((scribing (scribeEncode ⟨o, 0, 0⟩) .empty).scrFetch .l0 2) = some ⟨o, 0, 0⟩ ∧
    (scribing 0 .empty).scrSkipMode .l0 2 = false ∧ (scribing 0 .empty).scrWd .l0 2 = 1000 ∧ (scribing 0 .empty).scrNIn .l0 2 = 1 ∧ (scribing 0 .empty).scrNOut .l0 2 = 1 := by
  decide +kernel

set_option maxRecDepth 40000 in
/-- Stores name areas 1 and 2, word reads area 7; a stack with one entry can be popped. -/
theorem wit_ScribeInstructions_operands : scribeDecode (scribeEncode ⟨.st_, 2, 9⟩) = some ⟨.st_, 2, 9⟩ ∧ scribeDecode (scribeEncode ⟨.stw_, 1, 3⟩) = some ⟨.stw_, 1, 3⟩ ∧
    scribeDecode (scribeEncode ⟨.add_, 7, 2 ^ 22⟩) = some ⟨.add_, 7, 2 ^ 22⟩ ∧
    ((scribing 0 { ScrSt.empty with stack := [true], lbit := true }).scr .l0 2).stack = [true] ∧ ScrSt.empty.run = false := by decide +kernel

/-- R265: a TON with PT = 50,000 on a 10,000 µs cycle sets Q in the fifth cycle after its input rose. -/
theorem test_ton : ((List.range 5).foldl (fun (a : Nat × Bool) _ => timerStep 0 true true a.1 a.2 10000 50000) (timerStep 0 true false 0 false 0 50000)) = (50000, true) ∧
    ((List.range 4).foldl (fun (a : Nat × Bool) _ => timerStep 0 true true a.1 a.2 10000 50000) (timerStep 0 true false 0 false 0 50000)).2 = false := by decide

/-- Lane 0's engine 2 in state st with PERIOD per, holding `y`, its lane clock at 10 ms, its one output entry naming point 5; the map takes Scribe writes. -/
def cycling (st per : Nat) (y : ScrSt) : State :=
  let pg : Page := .scr .l0 2
  let s := ((mapState 1 2 .empty).setFld pg F.SCR_PERIOD_PERIOD per).setFld pg F.SCR_WDOG_WD_CYC 100
  let s := ((s.setFld pg F.SCR_STATUS_STATE st).setFld pg F.SCR_SIZE_N_IN 1).setFld pg F.SCR_SIZE_N_OUT 1
  let s := (s.setEnt (s.outEnt .l0 2 0) E.T11_2_VALID 1).setEnt (s.outEnt .l0 2 0) E.T11_2_POINT 5
  ((s.setEnt (s.outEnt .l0 2 0) E.T11_2_SAFE_EN 1).setWin (winAddr pg .scrPrgAct 0) 0xFC000000).setScr .l0 2 y

set_option maxRecDepth 40000 in
theorem wit_ScribeCycles : (cycling 1 1000 .empty).laneUp .l0 = true ∧ RegsWf (cycling 0 1000 .empty) ∧ (cycling 1 1000 .empty).scrState .l0 2 = 1 ∧
    (cycling 1 1000 .empty).ownerRuns .l0 ((cycling 1 1000 .empty).ownerScribe .l0 2) = true ∧
    latticeAt 1000 0 (5 * ms) ≤ (cycling 1 1000 .empty).laneNow .l0 ∧ (cycling 1 1000 .empty).forces .l0 2 = [] ∧
    (cycling 1 1000 .empty).laneNow .l0 ≤ 9 * ms + (cycling 1 1000 .empty).hold .l0 ∧
    scribeDecode ((cycling 1 1000 { ScrSt.empty with run := true }).scrFetch .l0 2) = some ⟨.end_, 0, 0⟩ ∧
    (cycling 1 1000 .empty).mapRoom .l0 1 = true ∧ (cycling 1 1000 .empty).mayWrite .l0 2 64 5 = true ∧ (cycling 1 1000 .empty).horizon .l0 < 9 * ms + 1000 * us ∧
    (cycling 1 1000 .empty).scrSkipMode .l0 2 = false ∧ ((cycling 1 1000 .empty).setFld (.scr .l0 2) F.SCR_MODE_MODE 1).scrSkipMode .l0 2 = true ∧
    (cycling 0 0 .empty).scrPeriod .l0 2 = 0 ∧ secNear ((cycling 1 1000 .empty).laneNow .l0 / sec) 0 * sec + 0 * us ≤ 5 * ms ∧
    ((scribing 0x38000000 .empty).scrFetch .l0 2) = 0x38000000 := by unfold RegsWf; decide +kernel

set_option maxRecDepth 40000 in
/-- A word with the reserved opcode 0x0E trips the engine with CAUSE ILLEGAL. -/
theorem test_scribeIllegal : ∃ t, exec (.scrLd .l0 2) (scribing 0x38000000 .empty) = .next t ∧ t.scrState .l0 2 = 2 ∧ t.fld (.scr .l0 2) F.SCR_STATUS_CAUSE = 3 :=
  ⟨_, rfl, by decide +kernel, by decide +kernel⟩

/-- Lane 0's publication 3 holds `y`: triggered by point 5, one member (`from_` 1: of the trigger record, 0: of point 5's), T_MIN 100 µs and
T_MAX 1 ms; PUB_CTRL.EN is on and the map enabled; the lane clock is at 10 ms. -/
def publishing (y : PubSt) (from_ : Nat) : State :=
  let d := pubDesc .l0 3
  let s := mapState 1 3 { MapSt.empty with notices := [⟨5, 9 * ms, mkRec 1 0 0 false false 5 false 0⟩] }
  let s := (((s.setEnt d E.T12_2_VALID 1).setEnt d E.T12_2_TRIG_EN 1).setEnt d E.T12_2_TRIG_PT 5).setEnt d E.T12_2_MEMBERS 1
  let s := ((s.setEnt d E.T12_2_T_MIN 100).setEnt d E.T12_2_T_MAX 1000).setFld (.pub .l0) F.PUB_CTRL_EN 1
  let a := winAddr (.pub .l0) .pubMemAct 0
  let s := ((s.setEnt a E.T12_3_TYPE 3).setEnt a E.T12_3_FROM_TRIG from_).setEnt a E.T12_3_POINT 5
  (s.setFld (.pub .l0) F.PUB_STATUS_ADOPT (b2n (!y.synced))).setPub .l0 3 y

/-- A publication that runs and is SYNCED, with a next scheduled time. -/
def pubOn (es : Nat) : PubSt := { PubSt.empty with on := true, synced := true, es := some es }

/-- An issue with time 8 ms. -/
def issue8 : Issue := ⟨8 * ms, 9 * ms, 4, 2, 1, 7 * ms, 9 * ms, 1, [0x86, 0x01, 0x01], true⟩

set_option maxRecDepth 40000 in
theorem wit_PublicationIssues : (publishing (pubOn (20 * ms)) 1).laneUp .l0 = true ∧ (publishing (pubOn (20 * ms)) 1).pubs .l0 = [3] ∧
    (publishing (pubOn (20 * ms)) 1).bit (.pub .l0) F.PUB_CTRL_EN = true ∧ (publishing (pubOn (20 * ms)) 1).pub .l0 3 = pubOn (20 * ms) ∧
    (publishing (pubOn (20 * ms)) 1).pubLive .l0 3 (9 * ms) = true ∧ (publishing (pubOn (20 * ms)) 1).pubPoints .l0 3 = [] ∧
    (publishing (pubOn (20 * ms)) 0).pubPoints .l0 3 = [5] ∧ (publishing (pubOn (20 * ms)) 1).ent (tripAct .l0 7) E.T12_6_VALID = 0 ∧
    (publishing (pubOn (8 * ms)) 1).pubEs .l0 3 = some (8 * ms) ∧ 7 * ms + (publishing (pubOn (7 * ms)) 1).hold .l0 ≤ (publishing (pubOn (7 * ms)) 1).laneNow .l0 ∧
    (publishing (pubOn (7 * ms)) 0).laneNow .l0 = 7 * ms + (publishing (pubOn (7 * ms)) 0).hold .l0 ∧
    (publishing { pubOn 0 with es := none, start := some 0 } 1).pubStart .l0 0 = none ∧
    State.pubLive ((publishing (pubOn (8 * ms)) 1).setLane .l0 { (publishing (pubOn (8 * ms)) 1).l0 with insGq := [(64, 7 * ms)] }) .l0 3 (8 * ms) = false ∧
    ((publishing { pubOn 0 with issues := [issue8] } 1).pubFrame .l0 3 issue8).isSome = true ∧
    issue8.due ≤ (publishing { pubOn 0 with issues := [issue8] } 1).laneNow .l0 ∧
    assocSorted (((publishing { pubOn 0 with issues := [issue8] } 1).setPub .l0 2 { pubOn 0 with issues := [issue8] }).lane .l0).pub = true ∧
    (((publishing { pubOn 0 with issues := [issue8] } 1).setPub .l0 2 { pubOn 0 with issues := [issue8] }).pub .l0 2).issues = [issue8] ∧
    ((publishing (pubOn 0) 1).setEnt (pubDesc .l0 3) E.T12_2_AUTH 1).pubFrame .l0 3 issue8 = none ∧
    (publishing (pubOn 0) 1).pubTooLong .l0 3 [] = false ∧ ((publishing (pubOn 0) 1).setEnt (pubDesc .l0 3) E.T12_2_EGRESS_A 1).pubTooLong .l0 3 (List.replicate 1600 0) = true := by
  decide +kernel

/-- An echo of publication 3's issue. -/
def echo3 : Echo := ⟨3, 9, 5, 0, 7 * ms, 30 * ms, 0, 8 * ms, crcOf crc32c issue8.data⟩

set_option maxRecDepth 40000 in
/-- An UNSYNCED publication takes the echo's numbers, and ADOPT falls. -/
theorem test_echoAdopts : ∃ t, exec (.echoReceived .l0) ((publishing { pubOn 0 with synced := false, lastUnsent := some issue8 } 1).setLane .l0
      { (publishing { pubOn 0 with synced := false, lastUnsent := some issue8 } 1).l0 with echoIn := [echo3] }) = .next t ∧
    (t.pub .l0 3).num = 9 ∧ (t.pub .l0 3).synced = true ∧ t.bit (.pub .l0) F.PUB_STATUS_ADOPT = false :=
  ⟨_, rfl, by decide +kernel, by decide +kernel, by decide +kernel⟩

set_option maxRecDepth 40000 in
/-- A trigger with a changed value: stNum 1, sqNum 0, the next repeat after T_MIN. -/
theorem test_triggerChanges : ∃ t, exec (.noticeReceived .l0) (publishing (pubOn (20 * ms)) 1) = .next t ∧
    (t.pub .l0 3).st = 1 ∧ (t.pub .l0 3).sq = 0 ∧ (t.pub .l0 3).es = some (9 * ms + 100 * us) ∧ (t.pub .l0 3).data = [0x86, 0x01, 0x01] :=
  ⟨_, rfl, by decide +kernel, by decide +kernel, by decide +kernel, by decide +kernel⟩

/-- Unit 3 of Lane 0 runs CRC-8 over the nine octets at 0x100. -/
def nineBytes : State :=
  let pc : Page := .chk .l0 3
  let s := (((allUp.setFld pc F.CHK_CFG_POLY 4).setFld pc F.CHK_SRC_LO_ADDR 0x100).setFld pc F.CHK_LEN_LEN 9).setBit pc F.CHK_CFG_INIT
  (s.memW .l0 0x100 [0x31, 0x32, 0x33, 0x34, 0x35, 0x36, 0x37, 0x38, 0x39]).chkGo .l0 3

set_option maxRecDepth 40000 in
theorem wit_CheckValues : nineBytes.laneUp .l0 = true ∧ nineBytes.bit (.chk .l0 3) F.CHK_STATUS_BUSY = true ∧ assocGet (nineBytes.lane .l0).chk 3 = some ⟨4, false, false, 0x100, 9, 0⟩ ∧
    nineBytes.chkValue .l0 3 = chkForm ⟨8, 0x2F, 0xFF, false, 0xFF⟩ 0xFF ∧
    nineBytes.mem .l0 0x100 9 = [0x31, 0x32, 0x33, 0x34, 0x35, 0x36, 0x37, 0x38, 0x39] ∧ nineBytes.ownerChk .l0 3 = 64 ∧
    (∀ j < 9, nineBytes.mayReach .l0 64 false (0x100 + j) = true) := by decide +kernel

/-- Lane 0's pin 2 follows bit 0 of word 0 of point 5, with MIN_ON 1 ms and DISAGREE 100 µs; a notice of it with effective time e waits at the
lane; TRIP_EN is 1 in Lane 0; `x` is the pin's state. -/
def tripping (e : Nat) (x : TripSt) : State :=
  let a := tripAct .l0 2
  let s := mapState 1 3 { MapSt.empty with notices := [⟨5, e, mkRec 1 0 0 false false 5 false 0⟩] }
  let s := (((s.setEnt a E.T12_6_VALID 1).setEnt a E.T12_6_POINT 5).setEnt a E.T12_6_MIN_ON 1000).setEnt a E.T12_6_DISAGREE 100
  (s.setFld (.pub .l0) F.PUB_CTRL_TRIP_EN 1).setTrip .l0 2 x

/-- Unit 3 of Lane 0 runs CRC-8 over two bytes at 0x100, feeding and advancing ALIVE. -/
def checking (len : Nat) : State :=
  let pc : Page := .chk .l0 3
  let s := ((allUp.setFld pc F.CHK_CFG_POLY 4).setFld pc F.CHK_CFG_ALIVE_IN 1).setFld pc F.CHK_CFG_ALIVE_INC 1
  let s := ((s.setFld pc F.CHK_SRC_LO_ADDR 0x100).setFld pc F.CHK_LEN_LEN len).setBit pc F.CHK_CFG_INIT
  (s.memW .l0 0x100 [0x31, 0x32]).chkGo .l0 3

set_option maxRecDepth 40000 in
theorem wit_TripPinsAndCheckUnits : (tripping (9 * ms) .empty).laneUp .l0 = true ∧ (tripping (9 * ms) .empty).bit (.pub .l0) F.PUB_CTRL_EN = false ∧
    (tripping (9 * ms) .empty).ent (tripAct .l0 3) E.T12_6_VALID = 0 ∧ (tripping (9 * ms) .empty).laneNow .l0 < 11 * ms ∧
    (tripping 0 ⟨true, 0, false, [(9 * ms, true)], none, false⟩).epsHolds .l0 2 = false ∧
    (tripping 0 .empty).tripPresent .l0 2 = true ∧ (tripping 0 .empty).tripPresent .l1 2 = false ∧
    (tripping 0 ⟨true, 0, true, [], none, false⟩).pinLevel 2 = true ∧ ((tripping 0 .empty).setFld (.pub .l1) F.PUB_CTRL_TRIP_EN 1).tripPresent .l1 2 = true ∧
    State.pinLevel { tripping 0 ⟨true, 0, true, [], none, false⟩ with com := { (tripping 0 .empty).com with lowBanks := [0] } } 2 = false ∧
    State.tripDiffers { tripping 0 ⟨true, 0, true, [], some 0, false⟩ with com := { (tripping 0 .empty).com with lowBanks := [0] } } .l0 2 = false ∧
    ((tripping 0 ⟨true, 0, true, [], some 0, false⟩).setEnt (tripAct .l0 2) E.T12_6_VOTE 1).tripDiffers .l0 2 = true ∧
    (checking 2).bit (.chk .l0 3) F.CHK_STATUS_BUSY = true ∧ assocGet ((checking 2).lane .l0).chk 3 = some ⟨4, true, true, 0x100, 2, 0⟩ ∧ chkAlg ((checking 2).fld (.chk .l0 3) F.CHK_CFG_POLY) = some ⟨8, 0x2F, 0xFF, false, 0xFF⟩ ∧
    (checking 2).chkValue .l0 3 = 0xFF ∧ (checking 2).mayReach .l0 64 false 0x101 = true ∧ (checking 2).ownerChk .l0 3 = 64 ∧
    (checking 2).mayReach .l0 64 false laneMemSize = false := by decide +kernel

set_option maxRecDepth 40000 in
/-- The unit's RESULT over "12" and an alive counter of 0, and ALIVE advanced; a notice that is due raises the pin. -/
theorem test_checkDone : (∃ t, exec (.checkValueDone .l0 3) (checking 2) = .next t ∧
    (t.rd (.chk .l0 3) .CHK_RESULT_LO).toNat = crcOf ⟨8, 0x2F, 0xFF, false, 0xFF⟩ [0x31, 0x32, 0, 0, 0, 0] ∧ t.fld (.chk .l0 3) F.CHK_ALIVE_ALIVE = 1) ∧
    ∃ t, exec (.noticeReceived .l0) (tripping (9 * ms) .empty) = .next t ∧ t.pins.trip = [(2, true)] :=
  ⟨⟨_, rfl, by decide +kernel, by decide +kernel⟩, _, rfl, by decide +kernel⟩

/-- Lane 0's recorder in state st with PRE 2, POST 3, MAX_POST 5, RETRIG, one binary channel and one condition (BIT_RISE) on bit 0 of point 5,
which rises at the fifth of 4,800 instants a second; the next instant is the fifth; the lane clock is at 10 ms. -/
def recording (st : Nat) (y : DrcSt) : State :=
  let a := winAddr (.drc .l0) .drcSetAct 0
  let b := winAddr (.drc .l0) .drcBinAct 0
  let c := winAddr (.drc .l0) .drcTrigAct 0
  let s := (mapState 1 3 .empty).setFld (.drc .l0) F.DRC_STATUS_STATE st
  let s := ((((s.setEnt a E.T14_1_PRE 2).setEnt a E.T14_1_POST 3).setEnt a E.T14_1_MAX_POST 5).setEnt a E.T14_1_RETRIG 1).setEnt a E.T14_1_N_BIN 1
  let s := ((s.setEnt b E.T14_3_POINT 5).setEnt b E.T14_3_VALID 1).setEnt c E.T14_5_KIND 1
  let s := ((s.setEnt c E.T14_5_SOURCE 5).setBit (.ing .l0) F.ING_STATUS_GRID_RUN).setFld (.drc .l0) F.DRC_MEM_CFG_SIZE_MIB 1
  let s := (s.setFld (.drc .l0) F.DRC_CTRL_EN 1).setDrc .l0 { y with next := 5, notes := [(5, [(1000 * us, mkRec 1 0 0 false false 5 false 0)])] }
  s.setFld (.drc .l0) F.DRC_MEM_CFG_COUNT_M1 1

/-- A row of that recorder. -/
def row4 (g : Nat) : DrcRow := ⟨g, [], [0]⟩

set_option maxRecDepth 40000 in
theorem wit_RecorderRows : (recording 1 .empty).laneUp .l0 = true ∧ (recording 1 .empty).gridRun .l0 = true ∧
    (recording 1 .empty).gT .l0 5 + (recording 1 .empty).hold .l0 ≤ (recording 1 .empty).laneNow .l0 ∧ (recording 1 .empty).drcQuiesced .l0 5 = false ∧
    (recording 1 .empty).drcRow .l0 5 = some ⟨5, [], [1]⟩ ∧ (recording 1 .empty).condFires .l0 0 ⟨5, [], [1]⟩ = true ∧
    (recording 1 .empty).bit (.ins .l0) F.INS_DIRTY_CTL_EN = false ∧ (recording 1 .empty).drcBinWords .l0 = 1 ∧
    (recording 1 { DrcSt.empty with conds := [(0, some 5, false)] }).condFires .l0 0 ⟨5, [], [1]⟩ = false ∧
    (recording 1 .empty).ownerDrc .l0 = 64 ∧ (recording 1 .empty).mayReach .l0 64 true 0x100 = true ∧
    ((recording 1 .empty).setFld (.drc .l0) F.DRC_MEM_BASE_HI_ADDR 4).mayReach .l0 64 true (2 ^ 34) = false ∧
    ((recording 1 .empty).setLane .l0 { (recording 1 .empty).l0 with insGq := [(64, 0)] }).drcQuiesced .l0 5 = true ∧
    ((recording 1 .empty).setEnt (winAddr (.drc .l0) .drcSetAct 0) E.T14_1_N_ANA 1).drcRow .l0 5 = none ∧
    (recording 1 .empty).edgeStamp = none ∧ ((recording 1 .empty).setFld (.tim .b) F.TIM_STATUS_STATE 1).edgeStamp = some (quant (recording 1 .empty).pb.now) ∧
    (recording 1 .empty).pins.trig.getLsbD 0 = !true ∧ (recording 1 .empty).xtDriven 0 = none ∧
    (recording 1 { DrcSt.empty with xt := [(0, 0, 5 * ms)] }).xtDriven 0 = some 0 ∧ (recording 1 .empty).real ≤ 100 * ns := by decide +kernel

/-- A test of the next state an outcome holds. -/
def nextHas (o : Host.Outcome State Fault Refusal) (p : State → Bool) : Bool :=
  match o with
  | .next t => p t
  | _ => false

set_option maxRecDepth 40000 in
/-- The trigger writes the ring and the row; the last post-trigger row enters CLOSING. -/
theorem test_recorder : nextHas (exec (.rowDecision .l0) (recording 1 { DrcSt.empty with rows := [row4 3, row4 4] })) (fun t =>
      decide (t.drcState .l0 = 2 ∧ t.mem .l0 0x100 20 = natLe 4 1 ++ natLe 4 0 ++ natLe 2 0 ++ natLe 4 2 ++ natLe 4 208 ++ natLe 2 0)) = true ∧
    nextHas (exec (.rowDecision .l0) (recording 2 { DrcSt.empty with rows := [row4 4], conds := [(0, some 5, false)], end_ := 2 })) (fun t =>
      decide (t.drcState .l0 = 3)) = true := by decide +kernel

theorem wit_RecorderRows_mems : MemsWf (recording 1 .empty) ∧ MemsWf (recording 2 .empty) := by unfold MemsWf; decide +kernel

set_option maxRecDepth 40000 in
theorem wit_RecorderRecords : (recording 3 { DrcSt.empty with bufs := [(0, 1, 0)] }).laneUp .l0 = true ∧
    (recording 3 .empty).bit (.ins .l0) F.INS_DIRTY_CTL_EN = false ∧ (recording 3 .empty).drcState .l0 = 3 ∧ (recording 3 .empty).drcQuiesced .l0 5 = false ∧
    (recording 3 .empty).drcBufs .l0 = 2 ∧ 0 < (recording 3 .empty).drcBufSize .l0 ∧ (recording 3 .empty).fld (.drc .l0) F.DRC_STATUS_BUF = 0 ∧
    (recording 3 .empty).drcSet .l0 E.T14_1_MEAS_EN = 0 ∧ (recording 3 .empty).drcSet .l0 E.T14_1_FULL_MODE = 0 ∧
    ((recording 3 .empty).setEnt (winAddr (.drc .l0) .drcSetAct 0) E.T14_1_FULL_MODE 1).drcSet .l0 E.T14_1_FULL_MODE = 1 ∧
    ((recording 3 .empty).setEnt (winAddr (.drc .l0) .drcSetAct 0) E.T14_1_MASK_ACT 2).drcSet .l0 E.T14_1_MASK_ACT = 2 ∧
    ((recording 3 .empty).setEnt (winAddr (.drc .l0) .drcSetAct 0) E.T14_1_MEAS_EN 1).drcSet .l0 E.T14_1_MEAS_EN = 1 ∧
    (DrcSt.buf { DrcSt.empty with bufs := [(0, 2, 7), (1, 2, 9)] } 0).1 = 2 ∧ (recording 4 .empty).drcState .l0 = 4 ∧ (recording 5 .empty).drcState .l0 = 5 ∧
    ((recording 0 .empty).setFld (.drc .l0) F.DRC_CTRL_EN 0).mayReachRange .l0 64 true 0 0x100000 = true ∧
    ((recording 0 .empty).setFld (.drc .l0) F.DRC_CTRL_EN 0).bit (.drc .l0) F.DRC_CTRL_EN = false ∧ (recording 0 .empty).ownerDrc .l0 = 64 ∧
    (recording 0 .empty).mayReachRange .l0 64 true laneMemSize 0x100000 = false ∧ (allUp.fld (.drc .l0) F.DRC_MEM_CFG_SIZE_MIB = 0) := by decide +kernel

set_option maxRecDepth 40000 in
/-- A record closes as SEQ 1, COMPLETE, and the second buffer arms; the first release of a waiting recorder arms it. -/
theorem test_recordCloses : nextHas (exec (.recordClose .l0) (recording 3 { DrcSt.empty with bufs := [(0, 1, 0)], rows := [row4 3, row4 4], pre := 1 })) (fun t =>
      decide (t.drcState .l0 = 1 ∧ t.fld (.drc .l0) F.DRC_STATUS_BUF = 1 ∧ t.memN .l0 4 4 = 2 ∧ t.memN .l0 8 4 = 1 ∧ t.memN .l0 0x44 4 = 2 ^ 32 - 1)) = true ∧
    nextHas (exec (.drcRelease .l0 1) (recording 4 { DrcSt.empty with bufs := [(0, 2, 7), (1, 2, 9)] })) (fun t =>
      decide (t.fld (.drc .l0) F.DRC_STATUS_BUF = 1)) = true := by decide +kernel

theorem wit_RecorderRecords_mems : MemsWf (recording 3 { DrcSt.empty with bufs := [(0, 1, 0)] }) := by unfold MemsWf; decide +kernel

/-- Lane 0's instance 7 in state st with commands `y`, the lane's clock at 10 ms and its grid at instant 40; it owns check-value unit 2. -/
def tenant (st : Nat) (y : InsSt) : State :=
  let s := ((allUp.setFld (.insPage .l0 7) F.INS_STATE_STATE st).setEnt (insDesc .l0 7) E.T15_1_VALID 1).setEnt (insDesc .l0 7) E.T15_1_CHK_MASK 4
  let s := (s.setBit (.ing .l0) F.ING_STATUS_GRID_RUN).setFld (.insPage .l0 7) F.INS_VINT_PEND_BITS 5
  (s.setLane .l0 { s.l0 with now := 10 * ms, grid := 40, insGq := [(7, 9 * ms)] }).setIns .l0 7 y

set_option maxRecDepth 40000 in
theorem wit_InstanceStates : (tenant 1 .empty).laneUp .l0 = true ∧ (tenant 1 .empty).gridRun .l0 = true ∧ (allUp.gridRun .l0 = false) ∧
    (tenant 1 .empty).gT .l0 41 ≤ (tenant 1 .empty).laneNow .l0 ∧ (tenant 1 .empty).gridG .l0 = 4800 ∧ secNear ((tenant 1 .empty).laneNow .l0 / sec) 0 = 0 ∧
    (tenant 1 .empty).insState .l0 7 = 1 ∧ (∀ e ∈ ((tenant 1 .empty).lane .l0).ins, e.1 ≠ 7 → e.2.wait = none) ∧ assocSorted ((tenant 1 .empty).lane .l0).ins = true ∧
    (tenant 3 ⟨none, some (2, 0, true), none⟩).insDrained .l0 7 = true ∧
    ((tenant 3 ⟨none, some (2, 0, true), none⟩).setBit (.chk .l0 2) F.CHK_STATUS_BUSY).insDrained .l0 7 = false ∧
    (tenant 3 ⟨none, some (2, 0, true), none⟩).gT .l0 0 + (tenant 3 .empty).fld (.insPage .l0 7) F.INS_DRAIN_LIMIT_LIMIT * us + settle ≤ (tenant 3 .empty).laneNow .l0 ∧
    (tenant 5 ⟨none, some (4, 0, true), none⟩).gT .l0 0 + 50 * us ≤ (tenant 5 .empty).laneNow .l0 ∧
    (tenant 6 ⟨none, some (5, 0, true), none⟩).ent (insDesc .l0 7) E.T15_1_RESET_US = 0 ∧
    (tenant 1 .empty).bit (.ins .l0) F.INS_DIRTY_CTL_CLEARING = false ∧ (memWf 0 (tenant 1 .empty).mem0 = true ∧ memWf 0 (tenant 1 .empty).mem1 = true ∧
      memWf 0xFF (tenant 1 .empty).flash0 = true ∧ memWf 0xFF (tenant 1 .empty).flash1 = true ∧ memWf 0 (tenant 1 .empty).ink.ring = true) := by decide +kernel

set_option maxRecDepth 40000 in
/-- START from STOPPED runs; RESET from STOPPED clears and counts the two pending vectors; in RUNNING it is BUSY. -/
theorem test_instance : nextHas (exec (.insStart .l0 7 0 45) (tenant 1 .empty)) (fun t => decide (t.insState .l0 7 = 2 ∧ t.fld (.insPage .l0 7) F.INS_CMD_STATUS_CODE = 0)) = true ∧
    nextHas (exec (.insReset .l0 7 0 45) (tenant 1 .empty)) (fun t => decide (t.insState .l0 7 = 6 ∧ t.rd (.insPage .l0 7) .INS_VINT_PEND = 0 ∧
      t.fld (.insPage .l0 7) F.INS_OCNT_COUNT 2 = 2)) = true ∧
    nextHas (exec (.insReset .l0 7 0 45) (tenant 2 .empty)) (fun t => decide (t.insState .l0 7 = 2 ∧ t.fld (.insPage .l0 7) F.INS_CMD_STATUS_CODE = 3)) = true := by decide +kernel

/-- FB1 in Lane 0 (controller 1) on the bus in normal mode and active, its TEC and REC as given; `x` is Lane 0's field bus. Object 300 is its
receive object 0x312 (classical, 8 bytes, timeout 1 ms), object 301 its transmit object 0x100 in a mode. -/
def canBus (tec rec_ mode : Nat) (x : FbsSt) : State :=
  let pg := fbPg 1
  let a := fboDesc .l0 300
  let b := fboDesc .l0 301
  let s := ((allUp.setFld pg F.FBS_CTRL_EN 1).setFld pg F.FBS_STATUS_ACTIVE 1).setFld pg F.FBS_ERR_TEC tec
  let s := ((((s.setFbRec 1 rec_).setEnt a E.T16_2_VALID 1).setEnt a E.T16_2_ID 0x312).setEnt a E.T16_2_MASK 0x7FF).setEnt a E.T16_2_DLEN 8
  let s := ((s.setEnt a E.T16_2_PERIOD 1000).setEnt b E.T16_2_VALID 1).setEnt b E.T16_2_DIR 1
  let s := ((s.setEnt b E.T16_2_ID 0x100).setEnt b E.T16_2_TX_MODE mode).setEnt b E.T16_2_PERIOD 1000
  (s.setLane .l0 { s.l0 with now := 10 * ms }).setFbs .l0 x

/-- A frame that object 300 takes. -/
def can312 : CanFrame := ⟨0x312, false, false, false, false, false, [1, 2, 3, 4, 5, 6, 7, 8]⟩

/-- Controller 1 detects the rate with a run of 7 good frames of candidate 2 in pass 0. -/
def rating : State := (canBus 0 0 0 { FbsSt.empty with rd := [(1, 2, 0, 7)] }).setFld (fbPg 1) F.FBS_STATUS_RD_BUSY 1

/-- Object 301 on the bus. -/
def onBus (tec : Nat) : State := ((canBus tec 0 0 { FbsSt.empty with cur := [(1, 301, 0)] }).setEnt (fboRec .l0 301) E.T16_4_STATE 2)

/-- FB1 and FB3 as a pair with FB1 active and FB3 preferred. -/
def fbPaired_ : State :=
  let x := { FbsSt.empty with sw := [(1, 1, 0)], pref := [1] }
  let s := ((canBus 0 0 0 x).setFbs .l1 x).setFld (fbPg 1) F.FBS_CTRL_PAIR_EN 1
  ((s.setFld (fbPg 3) F.FBS_CTRL_PAIR_EN 1).setFld (fbPg 3) F.FBS_CTRL_EN 1).setFld (fbPg 3) F.FBS_CTRL_PREF_ACTIVE 1

set_option maxRecDepth 40000 in
theorem wit_FieldBusReception : (canBus 0 0 0 .empty).laneUp (fbLane 1) = true ∧ (canBus 0 0 0 .empty).fbOn 1 = true ∧ allUp.fbOn 1 = false ∧
    (canBus 0 0 0 .empty).fbMatch 1 can312 = 300 ∧ (canBus 0 0 0 .empty).fbDetects 1 = false ∧ rating.fbDetects 1 = true ∧
    (canBus 0 0 0 .empty).bit (fbPg 1) F.FBS_CTRL_FD_EN = false ∧ (canBus 0 200 0 .empty).fbRec 1 = 200 ∧ rating.fld (fbPg 1) F.FBS_RD_CFG_GOOD = 8 ∧
    assocGetD ((rating.lane .l0).fbs.rdAt) 1 0 + (rating.setFld (fbPg 1) F.FBS_RD_CFG_DWELL 5).fld (fbPg 1) F.FBS_RD_CFG_DWELL * ms ≤ rating.laneNow .l0 ∧
    (canBus 0 0 0 .empty).bit (.fbsCtl .l0 1) F.FBS_CTRL_PAIR_EN = false ∧ fbPaired_.bit (.fbsCtl .l0 1) F.FBS_CTRL_PAIR_EN = true ∧
    ((canBus 0 0 0 .empty).setEnt (fboRec .l0 300) E.T16_4_STATE 1).ent (fboRec .l0 300) E.T16_4_STATE = 1 ∧
    (ofT96 ((canBus 0 0 0 .empty).ent (fboRec .l0 300) E.T16_4_STAMP)).getD 0 + 1000 * us + settle ≤ (canBus 0 0 0 .empty).laneNow .l0 := by decide +kernel

set_option maxRecDepth 40000 in
theorem wit_FieldBusTransmission : (onBus 0).fbOn 1 = true ∧ (onBus 0).fbMayTx 1 = true ∧ ((onBus 0).lane .l0).fbs.cur.find? (fun e => decide (e.1 = 1)) = some (1, 301, 0) ∧
    ((canBus 0 0 0 .empty).setEnt (fboRec .l0 301) E.T16_4_STATE 1).fbFirst 1 = some 301 ∧ (canBus 0 0 0 .empty).fbFirst 1 = none ∧
    (onBus 250).fbTec 1 = 250 ∧ ((onBus 0).setEnt (fboRec .l0 301) E.T16_4_CLASH_RUN 2).ent (fboRec .l0 301) E.T16_4_CLASH_RUN = 2 ∧
    assocGet (((onBus 0).setFbs .l0 { ((onBus 0).lane .l0).fbs with loose := [(301, true)] }).lane .l0).fbs.loose 301 = some true ∧
    fbPaired_.laneUp .l0 = true ∧ 1 ∈ (fbPaired_.lane .l0).fbs.pref ∧
    (canBus 0 0 1 .empty).fboTx .l0 301 = true ∧ (canBus 0 0 1 .empty).ownerRuns .l0 ((canBus 0 0 1 .empty).ownerFbo .l0 301) = true ∧
    latticeAt 1000 0 ((canBus 0 0 1 .empty).laneNow .l0) = (canBus 0 0 1 .empty).laneNow .l0 ∧
    ((canBus 0 0 0 .empty).setFld (fbPg 1) F.FBS_STATUS_ERR_STATE 2).fld (fbPg 1) F.FBS_STATUS_ERR_STATE = 2 ∧ (canBus 0 0 0 .empty).fbPaired 1 = false ∧
    allUp.bit (fbPg 1) F.FBS_CTRL_EN = false ∧ fbPaired_.fbPaired (fbMate 1) = true ∧ fbPaired_.fbOn (fbMate 1) = true ∧
    fbPaired_.fbActive (fbLane (fbMate 1)) (fbPair 1) = some (1, 0) ∧ fbPaired_.bit (fbPg 3) F.FBS_STATUS_ACTIVE = false ∧
    fbPaired_.bit (fbPg (fbMate 3)) F.FBS_CTRL_PREF_ACTIVE = false := by decide +kernel

set_option maxRecDepth 40000 in
/-- The eighth good frame finds candidate 2; the third clash suspends; an error frame at TEC 250 is bus-off; the preferred controller takes the role. -/
theorem test_fieldBus : nextHas (exec (.canFrameReceived 1 can312) rating) (fun t => decide (t.fld (fbPg 1) F.FBS_RD_STATUS_FOUND = 2)) = true ∧
    nextHas (exec (.txAttemptEnd 1 .clash) ((onBus 0).setEnt (fboRec .l0 301) E.T16_4_CLASH_RUN 2)) (fun t =>
      decide (t.ent (fboRec .l0 301) E.T16_4_STATE = 3 ∧ t.ent (fboRec .l0 301) E.T16_4_RESULT = 3)) = true ∧
    nextHas (exec (.txAttemptEnd 1 .error) (onBus 250)) (fun t => decide (t.fld (fbPg 1) F.FBS_STATUS_ERR_STATE = 2)) = true ∧
    nextHas (exec (.pairPrefMove 1) fbPaired_) (fun t => decide (t.bit (fbPg 3) F.FBS_STATUS_ACTIVE = true ∧ t.bit (fbPg 1) F.FBS_STATUS_ACTIVE = false)) = true := by decide +kernel

theorem wit_EventRecording : allUp.evrReady = true ∧ memWf 0 allUp.ink.ring = true ∧ evrExempt 0x1422 = false ∧
    0 < (rlRefill (rlFind allUp.ink 0x1422).2 allUp.vtMs).tokens ∧ (rlRefill (rlFind allUp.ink 0x1422).2 allUp.vtMs).suppressed = 0 ∧
    (allUp.fld .evr F.EVR_HEAD_INDEX + evrUnits - allUp.fld .evr F.EVR_TAIL_INDEX) % evrUnits + 2 < evrUnits ∧
    (rlRefill (rlFind { allUp.ink with rlDef := ⟨0, true, 4, 500, 0, 0, 0⟩ } 0x1422).2 0).tokens = 0 := by decide

/-- The ring with HEAD and TAIL placed, and a record of two units at unit 0. -/
def ringAt (h t : Nat) : State :=
  let s := (allUp.setFld .evr F.EVR_HEAD_INDEX h).setFld .evr F.EVR_TAIL_INDEX t
  { s with ink := { s.ink with ring := [(1, 1)] } }

/-- Its clauses: the ring one unit from full, where the oldest record makes room; HEAD at the last unit; a suppressed count to report. -/
theorem wit_EventRecording_ends : (ringAt 262142 0).evrReady = true ∧ memWf 0 (ringAt 262142 0).ink.ring = true ∧
    ¬((ringAt 262142 0).fld .evr F.EVR_HEAD_INDEX + evrUnits - (ringAt 262142 0).fld .evr F.EVR_TAIL_INDEX) % evrUnits + 2 < evrUnits ∧
    (262142 + evrUnits - 2) % evrUnits + 2 < evrUnits ∧ 262142 + 2 ≤ evrUnits ∧
    evrUnits < (ringAt 262143 9).fld .evr F.EVR_HEAD_INDEX + 2 ∧ (262143 + evrUnits - 9) % evrUnits + 1 < evrUnits ∧
    (evrUnits - 9) % evrUnits + 2 < evrUnits ∧
    0 < (rlRefill (rlFind { allUp.ink with rlDef := ⟨0, true, 4, 500, 2, 6, 0⟩ } 0x1422).2 0).tokens ∧
    0 < (rlRefill (rlFind { allUp.ink with rlDef := ⟨0, true, 4, 500, 2, 6, 0⟩ } 0x1422).2 0).suppressed := by decide

/-- R390's worked case: with 6 suppressed, last 0, no token and INTERVAL 500 ms, at t = 1,200 ms the entry has 2 tokens, last 1,000. -/
theorem test_rateLimit : rlRefill ⟨0x1422, true, 4, 500, 0, 6, 0⟩ 1200 = ⟨0x1422, true, 4, 500, 2, 6, 1000⟩ := by decide

/-- R390's worked case: the LATE event's code is 0x1422. -/
theorem test_lateCode : evCode bkING 0 (32 * 1 + 2) = 0x1422 := by decide

theorem wit_InkwellSupply : noCommon.up .inkwell = true ∧ noCommon.up .common = false ∧ full.up .inkwell = true ∧
    full.up .common = true ∧ full.ink.powered = true ∧ full.ink.standby = true ∧ { noCommon.ink with standby := false }.standby = false ∧
    { full.ink with powered := false }.powered = false := by decide

theorem wit_VaultClock : full.up .inkwell = true ∧ full.ink.powered = true ∧ full.up .common = true ∧ full.ink.oscFail = false := by decide

/-- A clear runs on channel 0. -/
def clearRuns : State :=
  ({ full with ink := { full.ink with clearing := true } }).setMbox 0 (some ⟨0x61, 7, [], 0, [1], false⟩)

theorem wit_VaultCommands : full.up .inkwell = true ∧ full.bit (.ins .l0) F.INS_DIRTY_CTL_EN = false ∧
    full.bit (.ins .l1) F.INS_DIRTY_CTL_EN = false ∧ full.upLanes ≠ [] ∧ full.fld .evr F.EVR_TAIL_INDEX = 0 ∧
    0x80 + leNat ((full.ink.ident.drop 4).take 2) ≤ 2048 ∧ clearRuns.mbox 0 = some ⟨0x61, 7, [], 0, [1], false⟩ ∧
    clearRuns.ink.clearing = true ∧ assocGet full.ink.rl 3 = none ∧ full.lifecycle ≠ 4 ∧ full.tags = [] ∧
    tagSeq full.tagCopy + 1 < 2 ^ 32 ∧ readLanes full 0 4 = .ok [0, 0, 0, 0] := by
  refine ⟨by decide, by decide, by decide, by decide, by decide, by decide, by decide, by decide, by decide, by decide, by decide, by decide, rfl⟩

/-- No root entry is installed at first: no block verifies. -/
theorem wit_VaultCommands_sig : verifyBlock full.ink (maintRoot full.lifecycle) [] [] = false := by decide

/-- Slot 3 is VALID with DERIVE; slot 5 is its child. -/
def keyed : State :=
  { full with ink := { full.ink with
    slots := [(3, ⟨1, false, false, false, true, 0, List.replicate 16 7, 9, 1⟩), (5, ⟨1, true, true, true, false, 3, List.replicate 16 8, 10, 1⟩)] } }

set_option maxRecDepth 20000 in
theorem wit_KeySlots : keyed.up .inkwell = true ∧ (keyed.keySlot 4).state = 0 ∧ (keyed.keySlot 3).state = 1 ∧
    (keyed.keySlot 3).derive = true ∧ keyed.keyDepth 8 3 < 4 ∧ keyed.lifecycle ≠ 4 ∧
    readLanes keyed 0x100 16 = .ok (List.replicate 16 0) ∧ (keyed.keySlot 5).derive = false := by
  refine ⟨by decide, by decide, by decide, by decide, by decide, by decide, rfl, by decide⟩

theorem wit_KeySlots_ready : MboxReady keyed 0 0x48 ∧ MboxReady keyed 0 0x49 ∧ MboxReady keyed 0 0x4A :=
  ⟨⟨by decide, by decide, by decide, by decide, Or.inl rfl⟩, ⟨by decide, by decide, by decide, by decide, Or.inl rfl⟩,
    ⟨by decide, by decide, by decide, by decide, Or.inl rfl⟩⟩

/-- R408: the descendants of slot 3, parents first. -/
theorem test_keyTree : keyed.keyTree 5 [3] = [3, 5] ∧ keyed.keyAll = [3, 5] := by decide

/-- A set of slots 3 and 5 waits for its stale instant. -/
def staleWaits : State := { keyed with ink := { keyed.ink with stale := [⟨5, [3, 5], false, none, none⟩] } }
/-- The same set after it. -/
def staleGone : State := { keyed with ink := { keyed.ink with stale := [⟨5, [3, 5], true, none, some 2⟩] } }

set_option maxRecDepth 20000 in
theorem wit_StaleAndZeroised : staleWaits.up .common = true ∧ staleWaits.up .inkwell = true ∧
    staleWaits.ink.stale.find? (fun y => !y.stale) = some ⟨5, [3, 5], false, none, none⟩ ∧
    staleGone.ink.stale.find? (fun y => y.stale) = some ⟨5, [3, 5], true, none, some 2⟩ ∧
    staleGone.inflight 3 5 = 0 ∧ staleGone.inflight 5 5 = 0 ∧ assocSorted staleGone.ink.slots = true ∧ staleGone.keyKids 3 = [5] ∧ staleGone.keyKids 5 = [] ∧ (staleGone.keySlot 3).state ≠ 0 := by decide

/-- PROVISIONED, with no root entry. -/
def provisioned : State := full.setFld .ink F.INK_STATUS_LIFECYCLE 1

set_option maxRecDepth 20000 in
theorem wit_LifecycleAndRoots : provisioned.lifecycle = 1 ∧ provisioned.up .inkwell = true ∧ lcRoots 1 4 = [0, 1] ∧ lcRoots 0 4 = [] ∧
    provisioned.keyAll = [] ∧ keyed.keyAll ≠ [] ∧ verifyBlock provisioned.ink 0 [] [] = false ∧
    assocGet provisioned.ink.roots 4 = none ∧ (full.setFld .ink F.INK_STATUS_LIFECYCLE 4).lifecycle = 4 := by decide

theorem wit_LifecycleAndRoots_ready : MboxReady provisioned 0 0x41 ∧ MboxReady provisioned 0 0x44 :=
  ⟨⟨by decide, by decide, by decide, by decide, Or.inl rfl⟩, ⟨by decide, by decide, by decide, by decide, Or.inl rfl⟩⟩

/-- MAINTENANCE, with an identity block. -/
def maintained : State :=
  ({ full with ink := { full.ink with ident := List.replicate 256 0 } }).setFld .ink F.INK_STATUS_LIFECYCLE 3

set_option maxRecDepth 20000 in
theorem wit_CountersAndAttest : maintained.up .inkwell = true ∧ maintained.lifecycle = 3 ∧ maintained.mcount 3 ≠ 2 ^ 32 - 1 ∧
    maintained.maxSecVer < 2 ^ 32 ∧ (readLanes maintained 0 64 = .ok (List.replicate 64 0)) ∧
    maintained.bit (.ins .l0) F.INS_DIRTY_CTL_EN = false ∧ maintained.bit (.ins .l1) F.INS_DIRTY_CTL_EN = false ∧
    (maintained.setFld .key F.KEY_MCOUNT_COUNT (2 ^ 32 - 1) 3).mcount 3 = 2 ^ 32 - 1 := by
  refine ⟨by decide, by decide, by decide, by decide, rfl, by decide, by decide, by decide⟩

set_option maxRecDepth 20000 in
theorem wit_CountersAndAttest_denied :
    [0, 1, 4, 5].any (fun b => bitAt ((((full.wr .ink .INK_TAMPER_CFG 0 1).rd .ink .INK_TAMPER_CFG).toNat) % 16) b && !bitAt 0 b) = true := by
  decide

theorem wit_CountersAndAttest_ready : MboxReady maintained 0 0x51 ∧ MboxReady maintained 0 0x52 ∧ MboxReady maintained 0 0x58 ∧
    MboxReady maintained 0 0x5C :=
  ⟨⟨by decide, by decide, by decide, by decide, Or.inl rfl⟩, ⟨by decide, by decide, by decide, by decide, Or.inl rfl⟩,
    ⟨by decide, by decide, by decide, by decide, Or.inl rfl⟩, ⟨by decide, by decide, by decide, by decide, Or.inl rfl⟩⟩

/-- Both tamper inputs enabled. -/
def tamperOn (s : State) : State := s.wr .ink .INK_TAMPER_CFG 0 3

set_option maxRecDepth 20000 in
theorem wit_TamperResponse : (tamperOn keyed).up .inkwell = true ∧ (tamperOn keyed).ink.oscFail = false ∧
    keyed.bit .ink F.INK_TAMPER_CFG_EN0 = false ∧ (tamperOn keyed).bit .ink F.INK_TAMPER_CFG_EN0 = true ∧
    (tamperOn keyed).bit .ink F.INK_STATUS_TAMPER0 = false ∧ ((tamperOn keyed).setBit .ink F.INK_STATUS_TAMPER0).bit .ink F.INK_STATUS_TAMPER0 = true ∧
    (tamperOn keyed).up .common = true ∧ (tamperOn keyed).keyAll ≠ [] ∧ (tamperOn noCommon).up .common = false ∧
    (tamperOn noCommon).up .inkwell = true ∧ (tamperOn noCommon).ink.oscFail = false ∧
    (tamperOn noCommon).bit .ink F.INK_TAMPER_CFG_EN0 = true ∧ (tamperOn noCommon).bit .ink F.INK_STATUS_TAMPER0 = false := by decide

/-- A read that gives bytes. -/
theorem ok_of {x : Except Nat (List Byte)} {b : List Byte} (h : x.toOption = some b) : x = .ok b := by
  cases x with
  | error e => cases h
  | ok v => exact congrArg Except.ok (Option.some.inj h)

/-- A signature block with equal r and s (Table 2.4), of key entry `k`. -/
def blockOf (k e : Nat) : List Byte := natLe 2 1 ++ natLe 2 0 ++ natLe 4 k ++ natBe 66 e ++ natBe 66 e ++ List.replicate 4 0

/-- A message digest that is the x of G + Q, and the point Q. -/
def sigA : Nat × Nat × Nat :=
  (0x6783a0ecfaa150613b086cdc135568bb9e29bc255aadc293737addfbcc4d830fbe269f542aaca23d47a79712add841932f81d5aacf52a1367100d2edfba84f15,
    0x1b2a0ff91cb9973c2c3417229994505ffb1fad57db8c1c483bcbe1ebafe85d961e247ef6fab118b2cc8255f967abe287a82949d891104dce1a4f1ecdaeef2784804,
    0xfce24da9bbe42b6978653381e17006c2e365f3a9227e9a94f5c092802cae8f5770bae853a13cc6b1033771b25f670cead2a6c7c5fb165bf17c6b1d0d5180db62be)

/-- A message digest that is the x of G + Q, and the point Q. -/
def sigB : Nat × Nat × Nat :=
  (0x44d1ff4abd80fbac56da6f2e418e2e22c52b2c89badab51124e9153f1bad7591f16c4baed5cd6bc2f84815cba743cfdcf681d82898d6c1b98cf0d20593fec632,
    0x41ec79c01e90743a44594a0a4f7613cf72fe233fa1a0ecc85bf495a9f4d54c00a522af72d5717f715594ebc4cf763b4a3b0d9eeb7b9a444a8c2dbe3445037bc93,
    0xf6980c3ed873d0e3c0031c3dc4e7f1a320a4429d1dc87e03a05aa6ba73ad4e5861ec88950ae75948d632f20e7f5a69b61e380427efdbc5288c3c15cb46df94edad)

/-- A message digest that is the x of G + Q, and the point Q. -/
def sigC : Nat × Nat × Nat :=
  (0xa199df57841706c0947fca60b5f79622fe29a82f4122ae88928aa722047c19fba6ec442d0d506d33ba4e0423b5186190ca371eeb3b43136d1cf536a8a0b65729,
    0x7db7ddfa5dbb722c97309a9b36c7af40f103601d403373dffa56d5b6b60d5a9323b5777c8fee85edbc414cd95ddd042e9be2671be7fa7fe5a5f3dd95735298e59b,
    0x525ab49bfc166970c41875abd68251a07abdc130837f3e0d56c58cc052eb688bef1876bf47e8113d71f83c3a9a88d6fcbf6fad5415a11845500db04162898e03b1)

/-- A message digest that is the x of G + Q, and the point Q. -/
def sigD : Nat × Nat × Nat :=
  (0x832549bd17c90acfadc57248a33b353863ffc32ab071c0334a55787134209d142502a478480775e6d1b8fac65af3dd110324f37960044e9dc03d402585d47d,
    0x1ed9153796647b740d80c999b10f9428a70ba7e98b31ae954098b3626367a1919c7ef835b2b8975bef28b711f46de303ce015bcaab967b59e63d9256915ec942d8,
    0x13405c210d17710c5e4dd31ba269dec6fb5e4e0109d5d53edeb68c05797e4804827c2ccbe5a9e9fc7271a8795207a5dcf198cb659ecc1620065efbeb616702e75f2)

/-- A multiple by 1. -/
theorem mul_one_521 (q : Option (Nat × Nat)) : p521Mul 521 1 q = q := by
  have z : ∀ n q, p521Mul n 0 q = none := by
    intro n
    induction n with
    | zero => intro q; rfl
    | succ n ih => intro q; rw [p521Mul]; simp [ih]
  rw [p521Mul]
  simp only [z]
  rfl

/-- A signature whose two multiples are 1 verifies when the sum of the points has its r as x. -/
theorem verify_of {pub p : Nat × Nat} {m : List Byte} {e w : Nat} (hm : digestNat m = e) (h0 : 0 < e ∧ e < p521N) (hw : invMod p521N e = w)
    (h1 : e * w % p521N = 1) (ha : p521Add (some p521G) (some pub) = some p) (hx : p.1 % p521N = e) : ecdsaVerify pub m e e = true := by
  have hc : ¬(e = 0 ∨ p521N ≤ e ∨ e = 0 ∨ p521N ≤ e) := by omega
  unfold ecdsaVerify
  rw [if_neg hc]
  simp only [hm, hw, h1, mul_one_521, ha, hx, decide_true]

/-- A block of a well-formed layout verifies when its entry's key does. -/
theorem block_of {ink : InkSt} {root i k x y e : Nat} {msg : List Byte} (hi : i < 4)
    (hf : (decide ((blockOf k e).length = 144) && decide (leNat ((blockOf k e).take 2) = 1) &&
      (((blockOf k e).drop 2).take 2).all (fun b => decide (b = 0)) && ((blockOf k e).drop 0x8C).all (fun b => decide (b = 0))) = true)
    (hk : leNat (((blockOf k e).drop 4).take 4) = k) (hr : beNat (((blockOf k e).drop 8).take 66) = e)
    (hs : beNat (((blockOf k e).drop 0x4A).take 66) = e) (he : assocGet ink.roots (4 * root + i) = some ⟨k, x, y⟩)
    (hv : ecdsaVerify (x, y) msg e e = true) : verifyBlock ink root (blockOf k e) msg = true := by
  unfold verifyBlock verifyEntries
  simp only [hf, Bool.true_and, List.any_eq_true]
  refine ⟨i, by interval_cases i <;> simp, ?_⟩
  simp only [he, hk, hr, hs, hv, decide_true, Bool.and_true]

/-- A state whose lane memories hold bytes at one address. -/
def holds (s : State) (a : Nat) (b : List Byte) : State := { s with mem0 := memWrite 0 s.mem0 a b, mem1 := memWrite 0 s.mem1 a b }

/-- Reading them back in both lanes. -/
theorem readLanes_holds (s : State) (a n : Nat) (b : List Byte) (hu : s.upLanes = [Lane.l0, Lane.l1]) (hn : b.length = n)
    (h0 : memWf 0 s.mem0 = true) (h1 : memWf 0 s.mem1 = true) (g0 : s.bg0 = none) (g1 : s.bg1 = none) : readLanes (holds s a b) a n = .ok b := by
  subst hn
  have u : (holds s a b).upLanes = [Lane.l0, Lane.l1] := hu
  unfold readLanes
  rw [u]
  simp only [State.mem, holds, memRead_write _ _ _ _ h0, memRead_write _ _ _ _ h1, g0, g1, bgFlip, if_true]

/-- Other bytes read as before. -/
theorem readLanes_beside (s : State) (a c n : Nat) (b : List Byte) (hc : c + n ≤ a ∨ a + b.length ≤ c) (h0 : memWf 0 s.mem0 = true)
    (h1 : memWf 0 s.mem1 = true) : readLanes (holds s a b) c n = readLanes s c n := by
  have u : (holds s a b).upLanes = s.upLanes := rfl
  have m : ∀ l, (holds s a b).mem l c n = s.mem l c n := by
    intro l
    cases l
    · exact congrArg (bgFlip s.bg0 c) (memRead_write_other 0 _ a c n b h0 hc)
    · exact congrArg (bgFlip s.bg1 c) (memRead_write_other 0 _ a c n b h1 hc)
  unfold readLanes
  simp only [u, m]

/-- A device in PROVISIONED whose factory root holds four entries, two operational entries, and a key's octets in memory. -/
def trusted : State :=
  let ink := { provisioned.ink with
    ident := List.replicate 24 0 ++ [7] ++ List.replicate 200 0
    roots := [(0, ⟨10, sigA.2.1, sigA.2.2⟩), (1, ⟨11, sigB.2.1, sigB.2.2⟩), (2, ⟨12, sigC.2.1, sigC.2.2⟩), (3, ⟨13, sigD.2.1, sigD.2.2⟩),
      (5, ⟨1, 0, 0⟩)] }
  { provisioned with mem0 := [(0x5000, 4)], mem1 := [(0x5000, 4)], ink := ink }

/-- With entry 0 of the operational root installed. -/
def trusted2 : State := { trusted with ink := { trusted.ink with roots := assocPut trusted.ink.roots 4 ⟨9, 0, 0⟩ } }

set_option maxRecDepth 20000 in
theorem digest_sigA : digestNat (natLe 4 0x56434C4C ++ trusted.dieId ++ natLe 4 (trusted.mcount 2) ++ natLe 4 4) = sigA.1 := by decide +kernel

set_option maxRecDepth 20000 in
theorem ver_sigA : verifyBlock trusted.ink 0 (blockOf 10 sigA.1) (natLe 4 0x56434C4C ++ trusted.dieId ++ natLe 4 (trusted.mcount 2) ++ natLe 4 4) = true := by
  have hv : ecdsaVerify sigA.2 (natLe 4 0x56434C4C ++ trusted.dieId ++ natLe 4 (trusted.mcount 2) ++ natLe 4 4) sigA.1 sigA.1 = true :=
    verify_of (w := 3589356812267688004256221055321888883997028237172619062574637718271978393045077009513597032985338892551868182776049671185931530468984933979719356283651825533) (p := (sigA.1, 6705890077572716245241283155882273003506319654735103476119351006351089501927197390585203145510338684806509124334121617543404409597601947050112381666000364690)) digest_sigA
      (by decide +kernel) (by decide +kernel) (by decide +kernel) (by decide +kernel) (by decide +kernel)
  exact block_of (i := 0) (by decide) (by decide +kernel) (by decide +kernel) (by decide +kernel) (by decide +kernel) (by decide +kernel) hv

set_option maxRecDepth 20000 in
theorem digest_sigB : digestNat (natLe 4 0x4C435645 ++ trusted.dieId ++ natLe 4 (trusted.fld .evr F.EVR_CLR_COUNT_COUNT)) = sigB.1 := by decide +kernel

set_option maxRecDepth 20000 in
theorem ver_sigB : verifyBlock trusted.ink 0 (blockOf 11 sigB.1) (natLe 4 0x4C435645 ++ trusted.dieId ++ natLe 4 (trusted.fld .evr F.EVR_CLR_COUNT_COUNT)) = true := by
  have hv : ecdsaVerify sigB.2 (natLe 4 0x4C435645 ++ trusted.dieId ++ natLe 4 (trusted.fld .evr F.EVR_CLR_COUNT_COUNT)) sigB.1 sigB.1 = true :=
    verify_of (w := 2170042171382384318485747021824305126417896673303366749197600138775167855135060084583730352153274663032885603582283028837390942004671253076243235046921749824) (p := (sigB.1, 6321720707537695519055023824004731158758534480603596490156535880394584907424805092802846660745089162894596352015713731088102337119064587652414131037030501588)) digest_sigB
      (by decide +kernel) (by decide +kernel) (by decide +kernel) (by decide +kernel) (by decide +kernel)
  exact block_of (i := 1) (by decide) (by decide +kernel) (by decide +kernel) (by decide +kernel) (by decide +kernel) (by decide +kernel) hv

set_option maxRecDepth 20000 in
theorem digest_sigC : digestNat (natLe 4 0x594B5452 ++ trusted.dieId ++ natLe 4 (trusted.mcount 2) ++ natLe 4 32 ++
      natLe 4 9 ++ sha512 (4 :: List.replicate 132 0)) = sigC.1 := by decide +kernel

set_option maxRecDepth 20000 in
theorem ver_sigC : verifyBlock trusted.ink 0 (blockOf 12 sigC.1) (natLe 4 0x594B5452 ++ trusted.dieId ++ natLe 4 (trusted.mcount 2) ++ natLe 4 32 ++
      natLe 4 9 ++ sha512 (4 :: List.replicate 132 0)) = true := by
  have hv : ecdsaVerify sigC.2 (natLe 4 0x594B5452 ++ trusted.dieId ++ natLe 4 (trusted.mcount 2) ++ natLe 4 32 ++
      natLe 4 9 ++ sha512 (4 :: List.replicate 132 0)) sigC.1 sigC.1 = true :=
    verify_of (w := 6376291894253455271531510818891291887832359752912381326790285616985577949021189128331572551721162279376647898691852457004093381220005018171898824892664029342) (p := (sigC.1, 2359450125126537885747556967059480471606845677159396665599766677221215000968230355936714681496137364792346327899324674432489760770161489443680325587163577760)) digest_sigC
      (by decide +kernel) (by decide +kernel) (by decide +kernel) (by decide +kernel) (by decide +kernel)
  exact block_of (i := 2) (by decide) (by decide +kernel) (by decide +kernel) (by decide +kernel) (by decide +kernel) (by decide +kernel) hv

set_option maxRecDepth 20000 in
theorem digest_sigD : digestNat (natLe 4 0x594B5452 ++ trusted2.dieId ++ natLe 4 (trusted2.mcount 2) ++
      natLe 4 160 ++ natLe 4 9 ++ List.replicate 64 0) = sigD.1 := by decide +kernel

set_option maxRecDepth 20000 in
theorem ver_sigD : verifyBlock trusted2.ink 0 (blockOf 13 sigD.1) (natLe 4 0x594B5452 ++ trusted2.dieId ++ natLe 4 (trusted2.mcount 2) ++
      natLe 4 160 ++ natLe 4 9 ++ List.replicate 64 0) = true := by
  have hv : ecdsaVerify sigD.2 (natLe 4 0x594B5452 ++ trusted2.dieId ++ natLe 4 (trusted2.mcount 2) ++
      natLe 4 160 ++ natLe 4 9 ++ List.replicate 64 0) sigD.1 sigD.1 = true :=
    verify_of (w := 5753018548475881876682623836382790888993508316883397169220698977356806748647344832755241593758814376042761130830140560271524324981253778884071589715969289533) (p := (sigD.1, 1177780374127366035599412642081086807376723109561497857957945837363564727064160912495501161907929049171715539474113667442615322036547032400311481950674577131)) digest_sigD
      (by decide +kernel) (by decide +kernel) (by decide +kernel) (by decide +kernel) (by decide +kernel)
  exact block_of (i := 3) (by decide) (by decide +kernel) (by decide +kernel) (by decide +kernel) (by decide +kernel) (by decide +kernel) hv

theorem wit_signed_advance : lcRoots trusted.lifecycle 4 = [0, 1] ∧ trusted.keyAll = [] ∧ maintRoot trusted.lifecycle = 0 ∧
    readLanes (holds trusted 0x1000 (blockOf 10 sigA.1)) 0x1000 144 = .ok (blockOf 10 sigA.1) ∧
    readLanes (holds trusted 0x2000 (blockOf 11 sigB.1)) 0x2000 144 = .ok (blockOf 11 sigB.1) :=
  ⟨by decide +kernel, by decide +kernel, by decide +kernel,
    readLanes_holds _ _ _ _ (by decide +kernel) (by decide +kernel) (by decide +kernel) (by decide +kernel) rfl rfl,
    readLanes_holds _ _ _ _ (by decide +kernel) (by decide +kernel) (by decide +kernel) (by decide +kernel) rfl rfl⟩

theorem wit_signed_roots : assocGet trusted.ink.roots 4 = none ∧
    readLanes (holds trusted 0x3000 (blockOf 12 sigC.1)) 0x5000 133 = .ok (4 :: List.replicate 132 0) ∧
    readLanes (holds trusted 0x3000 (blockOf 12 sigC.1)) 0x3000 144 = .ok (blockOf 12 sigC.1) ∧ trusted2.lifecycle = 1 ∧
    assocGet trusted2.ink.roots 4 = some ⟨9, 0, 0⟩ ∧ assocGet trusted2.ink.roots 5 ≠ none ∧
    readLanes (holds trusted2 0x4000 (blockOf 13 sigD.1)) 0x4000 144 = .ok (blockOf 13 sigD.1) :=
  ⟨by decide +kernel, (readLanes_beside _ _ _ _ _ (by decide +kernel) (by decide +kernel) (by decide +kernel)).trans (ok_of (by decide +kernel)),
    readLanes_holds _ _ _ _ (by decide +kernel) (by decide +kernel) (by decide +kernel) (by decide +kernel) rfl rfl, by decide +kernel,
    by decide +kernel, by decide +kernel,
    readLanes_holds _ _ _ _ (by decide +kernel) (by decide +kernel) (by decide +kernel) (by decide +kernel) rfl rfl⟩

/-- PORST_N has just been asserted. -/
def porsted : State := full.porst

theorem wit_PowerOnReset : porsted.pins.porst = false ∧ 5 ∉ porsted.com.lowBanks ∧ porsted.dom.inkwell = .up ∧ RegsWf full ∧
    full.up .common = true ∧ full.com.dumpBuf = none := by
  refine ⟨rfl, by decide, rfl, by unfold RegsWf; decide, by decide, rfl⟩


/-- Common UP with its boot logic, the flash out of reach (bank VIO_E low). -/
def noFlash : State := { allUp with com := { allUp.com with lowBanks := [4] } }
/-- Firmware verified, the steward not yet running, slot 3 VALID. -/
def fwReady : State := { allUp with com := { allUp.com with fwOk := true }, ink := keyed.ink }

set_option maxRecDepth 20000 in
theorem wit_StewardBoot : noFlash.up .common = true ∧ noFlash.com.fwOk = false ∧ noFlash.onTrial 0 = false ∧ noFlash.com.dumpBuf = none ∧
    fwReady.up .common = true ∧ fwReady.com.fwOk = true ∧ fwReady.com.steward = false ∧ (fwReady.keySlot 3).state = 1 ∧
    assocSorted fwReady.ink.slots = true ∧ fwReady.laneUp .l0 = true ∧ fwReady.up .inkwell = true := by decide

/-- A lane whose EPS runs, one token waiting at element 3. -/
def epsLive : State :=
  let s := { full with com := { full.com with eps := some [] } }.setBit .cfg F.CFG_BOOT_STATUS_ARMED0
  s.setLane .l0 { s.l0 with epsQ := [(3, ⟨0, false, 0, 0, 0, 0, false, 0, false, 0⟩)] }
/-- The same with the grid and the publications running. -/
def epsDone : State :=
  (((epsLive.setBit (.ing .l0) F.ING_STATUS_GRID_RUN).setBit (.pub .l0) F.PUB_CTRL_EN).setBit (.pub .l0) F.PUB_CTRL_TRIP_EN)

/-- The same with pin 2 driven by the EPS since time 0 and no element operating. -/
def epsDriven : State := epsLive.setLane .l0 { epsLive.l0 with epsPin := [(2, (true, 0))] }

set_option maxRecDepth 40000 in
theorem wit_TripPinsAndCheckValues_eps : epsDriven.laneUp .l0 = true ∧ epsDriven.epsHolds .l0 2 = true ∧ epsDriven.epsWant .l0 2 = false ∧
    (epsDriven.epsPinSt .l0 2).1 = true ∧ (epsDriven.epsPinSt .l0 2).2 + epsDriven.epsMinOn .l0 2 ≤ epsDriven.laneNow .l0 ∧
    (epsDriven.trip .l0 2).drive = false := by decide +kernel

theorem wit_EarlyProtection : full.armed .l0 = false ∧ full.laneUp .l0 = true ∧ full.rolledOut .l0 = false ∧ epsLive.epsRuns .l0 = true ∧
    epsLive.armed .l0 = true ∧ (epsLive.lane .l0).epsQ.find? (fun q => decide (q.1 = 3)) = some (3, ⟨0, false, 0, 0, 0, 0, false, 0, false, 0⟩) ∧
    (epsLive.lane .l0).epsLeft = none ∧ epsDone.gridRun .l0 = true ∧ epsDone.epsRuns .l0 = true ∧ full.gridRun .l0 = false ∧
    epsDone.bit (.pub .l0) F.PUB_CTRL_EN = true ∧ epsDone.bit (.pub .l0) F.PUB_CTRL_TRIP_EN = true ∧
    State.epsRuns { epsDone with com := { epsDone.com with active := [⟨0, 8, 0, 0, [], [], 0⟩] } } .l0 = true := by decide

theorem wit_DomainIsolation : (∀ e ∈ full.pairQ, e.2 = []) ∧ full.up (.lane .l1) = true ∧ causeOf 1 (.lane .l1) = true ∧
    causeOf 1 (.plane .a) = false ∧ causeOf 6 .common = true ∧ full.com.dumpBuf = none ∧ full.isolatedOften .common < 3 ∧
    full.up .common = true ∧ (8 : Nat) = 2 ^ domBltBit (.lane .l1) ∧ oneLane.laneUp Lane.l0.other = false ∧
    bitAt 4 (domBltBit (.lane .l0)) = true := by
  decide

/-- An isolation of Lane 1. -/
def iso1 (c : Bool) : Isolation := ⟨.lane .l1, 1, 0, 64, 0, 0, false, 0, c⟩
/-- Lane 1 isolated, captured or not, with the dump buffer given. -/
def isolated1 (c : Bool) (b : Option Dump) : State :=
  { full with dom := ⟨.up, .up, .up, .isolated, .up, .up⟩, com := { full.com with isos := [iso1 c], dumpBuf := b } }

set_option maxRecDepth 20000 in
theorem wit_CaptureAndRelease : (isolated1 false (some ⟨iso1 false, [], true, false, false⟩)).com.dumpBuf = some ⟨iso1 false, [], true, false, false⟩ ∧
    (isolated1 false (some ⟨iso1 false, [], true, false, false⟩)).mayRestart (.lane .l1) = true ∧
    ((isolated1 false none).wr .blt .BLT_CFG 0 0).mayRestart (.lane .l1) = false ∧
    (isolated1 false none).waiting (.lane .l1) = some (iso1 false) ∧ (8 : Nat) = 2 ^ domBltBit (.lane .l1) ∧
    (isolated1 true none).domSt (.lane .l1) = .isolated ∧
    (isolated1 true none).com.isos.any (fun z => decide (z.dom = .lane .l1) && z.captured) = true ∧
    (isolated1 true (some ⟨iso1 true, [], false, false, false⟩)).com.dumpBuf = some ⟨iso1 true, [], false, false, false⟩ ∧
    (isolated1 true none).com.steward = true ∧ (isolated1 true none).up .common = true := by decide

theorem wit_CaptureAndRelease_wf : MemsWf (isolated1 true (some ⟨iso1 true, [], false, false, false⟩)) :=
  ⟨by decide, by decide, by decide, by decide, by decide⟩

theorem wit_DumpCommands : MemsWf full ∧ full.upLanes ≠ [] ∧ (∀ l, full.bit (.ins l) F.INS_DIRTY_CTL_EN = false) :=
  ⟨⟨by decide, by decide, by decide, by decide, by decide⟩, by decide, fun l => by cases l <;> decide⟩

/-- Common isolated, its state kept. -/
def lostCommon : State :=
  { full with dom := ⟨.up, .up, .up, .up, .isolated, .up⟩, com := { full.com with retained := some ⟨⟨.common, 6, 0, 0, 0, 0, false, 0, false⟩, [], false, true, false⟩ } }

/-- Lane 1 restarts. -/
def lane1Back : State := { full with dom := ⟨.up, .up, .up, .restarting, .up, .up⟩ }

theorem wit_RestartAndReturn : lostCommon.com.retained = some ⟨⟨.common, 6, 0, 0, 0, 0, false, 0, false⟩, [], false, true, false⟩ ∧
    lostCommon.domSt .common = .isolated ∧ lane1Back.domSt (.lane .l1) = .restarting ∧ full.laneUp .l0 = true ∧
    full.domSt (.plane .a) ≠ .restarting := by decide

/-- R425: beside a lane that has not handed over, a lane comes UP present. -/
theorem test_comesUpPresent : (lane1Back.setOut .l1 (lane1Back.laneUp .l0 && lane1Back.handed .l0)).rolledOut .l1 = false := by decide

theorem wit_SuppliesAndTemperature : (1 : Nat) ∉ full.com.lowBanks ∧ (1 : Nat) ∈ [1] ∧ full.up .common = true ∧
    signedOf 16 (full.fld .pwr F.PWR_TEMP_ALARM_LIMIT) ≤ (0x7000 : BitVec 16).toInt := by decide

/-- A frame without octets, and a line's end without a code error. -/
def noFrame : Frame := ⟨[]⟩
def cleanEnd : RxEnd := ⟨0, false, 0, 0, 0⟩
def wideAnnounce : Announce := ⟨256, 0, 0, 0, 0, 0, 0, 0, 0, 0, 0, false, false, false⟩
def widePtp : PtpMsg := ⟨0, 0, 0, 65536, 0, false, 0, 0⟩
def okPtp : PtpMsg := ⟨0, 0, 0, 65535, 0, false, 0, 0⟩
def wideSv (vid cnt val : Nat) : SvMsg := ⟨0x88BA, 0, vid, 0x4000, false, true, [⟨[], cnt, 1, 2, none, none, [(val, 0)]⟩], [], [], none, none⟩
def wideGoose (dmac vid : Nat) : GooseMsg := ⟨dmac, vid, [], [], none, none⟩

/-- Each check of `wellFormed` refuses a term made to fail it. -/
theorem test_illFormed : [Instr.registerWrite (.guest .l0 64) 0 4 0, .registerWrite .steward (2 ^ 48) 4 0, .registerWrite .steward 0 3 0,
    .rcFieldRead (.guest .l1 64) 0 4, .rcFieldRead .jtag (2 ^ 48) 4, .rcFieldRead .jtag 0 5,
    .fenceWordCrossing .common .common true false, .pairedWrite .l0 0x001003000000 0, .pairedWrite .l0 0x000FFFFFFFFF 0,
    .broadcastWrite false 0x001040000000 0, .broadcastRead true 0x001100400000,
    .eventRecordWrite 8 0 0 [], .eventRecordWrite 0 65536 0 [], .eventRecordWrite 0 0 (2 ^ 96) [], .eventRecordWrite 0 0 0 [2 ^ 32],
    .eventRecordWrite 0 0 0 (List.replicate 125 0), .eventQueueDrain .common, .domainIsolate .inkwell 1 0 0, .domainIsolate .common 0 0 0,
    .domainIsolate .common 9 0 0, .domainIsolate .common 1 (2 ^ 32) 0, .domainIsolate .common 1 0 (2 ^ 64), .holdMaxExpire .common,
    .domainUp .inkwell, .coreReadUncorrectable .l0 (2 ^ 34) false, .evrRead 0 0 0 0 0 [262144] false, .mailboxBadcmd 0 0 0x01, .announceReceived .a 0 1 { wideAnnounce with domain := 0 },
    .announceReceived .a 0 0 wideAnnounce, .syncReceived .a 0 1 okPtp, .syncReceived .a 0 0 widePtp, .followUpReceived .a 0 widePtp,
    .pdelayReqReceived .a 0 1 okPtp, .pdelayReqReceived .a 0 0 widePtp, .pdelayRespReceived .a 0 1 okPtp, .pdelayRespReceived .a 0 0 widePtp,
    .pdelayRespFollowUpReceived .a 0 1 okPtp, .pdelayRespFollowUpReceived .a 0 0 widePtp].all (fun i => !i.wellFormed) = true := by decide +kernel

/-- The same for frames, pause quanta, sampled values, GOOSE and CAN. -/
theorem test_illFormedFrames : [Instr.forwardingDecision .a 0 0 noFrame, .forwardingDecision .a 0 1 ⟨List.replicate 14 0⟩,
    .frameReceiveEnd .a 0 0 noFrame cleanEnd, .frameReceiveEnd .a 0 1 ⟨[0]⟩ cleanEnd, .mgFrameReceived 0 noFrame cleanEnd,
    .macControlFrameReceived .a 0 0 0 (List.replicate 16366 0) cleanEnd, .mgFrameReceived 0 ⟨List.replicate 16380 0⟩ cleanEnd,
    .svCopyReceived .l0 0 1 true (wideSv 0 0 0), .svCopyReceived .l0 0 0 true (wideSv 4096 0 0), .svCopyReceived .l0 0 0 true (wideSv 0 65536 0),
    .svCopyReceived .l0 0 0 true (wideSv 0 0 (2 ^ 32)), .gooseCopyReceived .l0 0 1 true (wideGoose 0 0),
    .gooseCopyReceived .l0 0 0 true (wideGoose 0 4096), .gooseCopyReceived .l0 0 0 true (wideGoose (2 ^ 48) 0),
    .canFrameReceived 0 ⟨2 ^ 11, false, false, false, false, false, []⟩, .canFrameReceived 0 ⟨0, true, false, false, false, false, List.replicate 9 0⟩,
    .canFrameReceived 0 ⟨0, true, true, false, false, false, List.replicate 9 0⟩,
    .canFrameReceived 0 ⟨0, true, true, false, false, true, []⟩].all (fun i => !i.wellFormed) = true := by decide +kernel

/-- Their neighbours inside the ranges are taken. -/
theorem test_wellFormed : [Instr.registerWrite (.guest .l0 63) (2 ^ 48 - 1) 8 0, .rcFieldRead .jtag 0 4, .fenceWordCrossing .common .inkwell true false,
    .pairedWrite .l0 0x001000000000 0, .broadcastWrite false 0x00103FFFFFFC 0, .broadcastRead true 0x001100000000,
    .eventRecordWrite 7 65535 (2 ^ 96 - 1) [2 ^ 32 - 1], .eventQueueDrain (.lane .l1), .domainIsolate .common 8 0 0, .domainUp .common,
    .coreReadUncorrectable .l0 (2 ^ 34 - 1) true, .mailboxBadcmd 0 0 0xFF, .announceReceived .a 0 0x4000 { wideAnnounce with domain := 255 },
    .syncReceived .a 0 0 okPtp, .forwardingDecision .a 0 0 ⟨List.replicate 14 0⟩, .svCopyReceived .l0 0 0 true (wideSv 4095 65535 0),
    .gooseCopyReceived .l0 0 0 true (wideGoose (2 ^ 48 - 1) 4095), .mgFrameReceived 0 ⟨[0]⟩ cleanEnd, .canFrameReceived 0 ⟨2 ^ 11 - 1, false, false, false, false, false, []⟩,
    .canFrameReceived 0 ⟨0, true, true, false, false, false, List.replicate 12 0⟩].all Instr.wellFormed = true := by decide +kernel

theorem wit_CounterClears : allUp.planeUp .a = true ∧ allUp.laneUp .l0 = true ∧ State.reset.planeUp .a = false ∧ State.reset.laneUp .l0 = false := by decide

set_option maxRecDepth 40000 in
/-- Two of the port's counters are cleared, and the other port's is not. -/
theorem test_prtCntClr : nextHas (exec (.prtCntClr .a 3) (((allUp.setFld (.prt .a 3) F.PRT_CNT_COUNT 5 0).setFld (.prt .a 3) F.PRT_CNT_COUNT 6 25).setFld (.prt .a 4) F.PRT_CNT_COUNT 7 0))
    (fun t => decide (t.fld (.prt .a 3) F.PRT_CNT_COUNT 0 = 0 ∧ t.fld (.prt .a 3) F.PRT_CNT_COUNT 25 = 0 ∧ t.fld (.prt .a 4) F.PRT_CNT_COUNT 0 = 7)) = true := by decide +kernel

theorem wit_StoresStayCanonical : MemsWf State.reset ∧ RegsWf State.reset ∧ Completes (step State.reset) :=
  ⟨by unfold MemsWf; decide, by unfold RegsWf; decide, _, rfl⟩

end Sys2Proof.Tests
end

section
/-! # Fields of words and registers: what a store to one field leaves of the others -/

namespace Sys2Proof.Machine
open Sys2Proof

/-! Bit fields of numbers. -/

/-- The bits of a field. -/
theorem testBit_bitsOf (v hi lo i : Nat) : (bitsOf v hi lo).testBit i = (decide (i < hi + 1 - lo) && v.testBit (lo + i)) := by
  simp [bitsOf, Nat.testBit_mod_two_pow, Nat.testBit_div_two_pow, Nat.add_comm]

/-- The bits of a number with a field replaced. -/
theorem testBit_bitsPut (v hi lo x i : Nat) (h : lo ≤ hi) :
    (bitsPut v hi lo x).testBit i = if lo ≤ i ∧ i ≤ hi then x.testBit (i - lo) else v.testBit i := by
  have e : bitsPut v hi lo x =
      2 ^ lo * (2 ^ (hi + 1 - lo) * (v / 2 ^ lo / 2 ^ (hi + 1 - lo)) + x % 2 ^ (hi + 1 - lo)) + v % 2 ^ lo := by
    rw [bitsPut_split]; ring
  rw [e, Nat.testBit_two_pow_mul_add _ (Nat.mod_lt _ (by positivity)),
    Nat.testBit_two_pow_mul_add _ (Nat.mod_lt _ (by positivity))]
  simp only [Nat.testBit_mod_two_pow, Nat.testBit_div_two_pow]
  split
  · rw [if_neg (by omega)]; simp [*]
  · split
    · rw [if_pos (by omega)]; simp [*]
    · rw [if_neg (by omega)]; congr 1; omega

/-- A field apart from the one replaced reads as before. -/
theorem bitsOf_bitsPut_apart (v hi lo hi' lo' x : Nat) (h : lo ≤ hi) (ha : hi' < lo ∨ hi < lo') :
    bitsOf (bitsPut v hi lo x) hi' lo' = bitsOf v hi' lo' := by
  refine Nat.eq_of_testBit_eq fun i => ?_
  rw [testBit_bitsOf, testBit_bitsOf, testBit_bitsPut _ _ _ _ _ h]
  by_cases hi1 : i < hi' + 1 - lo'
  · rw [if_neg (by omega)]
  · simp [hi1]

/-- A field of a number depends on its low bits only. -/
theorem bitsOf_mod_two_pow (v hi lo n : Nat) (h : hi < n) : bitsOf (v % 2 ^ n) hi lo = bitsOf v hi lo := by
  refine Nat.eq_of_testBit_eq fun i => ?_
  simp only [testBit_bitsOf, Nat.testBit_mod_two_pow]
  by_cases hi1 : i < hi + 1 - lo
  · simp [hi1]; omega
  · simp [hi1]

/-- A field of a 32-bit word made from a number. -/
theorem bitsOf_toNat_ofNat (v hi lo : Nat) (h : hi < 32) : bitsOf (BitVec.ofNat 32 v).toNat hi lo = bitsOf v hi lo := by
  rw [BitVec.toNat_ofNat, bitsOf_mod_two_pow v hi lo 32 h]

/-- A single bit of a number, as a field. -/
theorem bitsOf_bit (v b : Nat) : bitsOf v b b = if v.testBit b then 1 else 0 := by
  rw [show bitsOf v b b = v / 2 ^ b % 2 by simp [bitsOf], Nat.testBit_eq_decide_div_mod_eq]
  split <;> simp_all

/-! Fields of registers. -/

/-- Two fields of a register are the same or lie apart. -/
theorem fields_apart_of_ne (r : RegId) {f g : Fld} (hf : f ∈ r.fields) (hg : g ∈ r.fields) (h : f ≠ g) :
    f.hi < g.lo ∨ g.hi < f.lo := by
  have : Std.Symm fun a b : Fld => a.hi < b.lo ∨ b.hi < a.lo := ⟨fun _ _ => Or.symm⟩
  exact (List.pairwise_map.1 (fields_apart r)).forall hf hg h

/-- Another field of the register just stored to reads as before. -/
theorem State.fld_setFld_apart (s : State) (p : Page) (f g : Fld) (v k : Nat) (hid : g.id = f.id) (hf : f.lo ≤ f.hi)
    (hg : g.hi < 32) (ha : g.hi < f.lo ∨ f.hi < g.lo) : (s.setFld p f v k).fld p g k = s.fld p g k := by
  unfold State.fld State.setFld
  rw [hid, State.rd_wr_same, bitsOf_toNat_ofNat _ _ _ hg, bitsOf_bitsPut_apart _ _ _ _ _ _ hf ha]

/-- A register at another address reads as before a store to a field. -/
theorem State.rd_setFld_other (s : State) (p q : Page) (f : Fld) (r : RegId) (v k j : Nat) (h : regAddr q r j ≠ regAddr p f.id k) :
    (s.setFld p f v k).rd q r j = s.rd q r j := State.rd_wr_other _ _ _ _ _ _ _ _ h

/-- A field of a register at another address reads as before a store to a field. -/
theorem State.fld_setFld_other (s : State) (p q : Page) (f g : Fld) (v k j : Nat) (h : regAddr q g.id j ≠ regAddr p f.id k) :
    (s.setFld p f v k).fld q g j = s.fld q g j := by
  unfold State.fld
  rw [State.rd_setFld_other _ _ _ _ _ _ _ _ h]

end Sys2Proof.Machine
end

section
/-! # Register accesses on the absolute map: the address map, the decoder, and stores by access code (R7 to R12) -/

namespace Sys2Proof.Machine
open Sys2Proof

/-! The address map and the decoder. -/

/-- An offset of a plane's space on the absolute map (Table 1.6). -/
theorem placeAt_planeBase (p : Plane) (o : Nat) (h : o < 0x1000000) : placeAt (planeBase p + o) = .plane p o := by
  unfold placeAt
  simp only [decide_eq_true_eq]
  cases p
  · rw [if_neg, if_neg, if_neg, if_pos, Nat.add_sub_cancel_left] <;>
      simp only [planeBase, laneMemSize, commonBase] <;> omega
  · rw [if_neg, if_neg, if_neg, if_neg, if_pos, Nat.add_sub_cancel_left] <;>
      simp only [planeBase, laneMemSize, commonBase] <;> omega

/-- What the decoder finds on a page is a register of that page. -/
theorem pageAt_reg {pg qg : Page} {o k : Nat} {r : RegId} (h : pageAt pg o = .reg qg r k) : qg = pg ∧ r ∈ pg.kind.regs := by
  unfold pageAt at h
  dsimp only at h
  split at h
  · next u hu =>
    obtain ⟨rfl, rfl, -⟩ := by simpa using h
    exact ⟨rfl, List.mem_of_find?_eq_some hu⟩
  · split at h <;> simp at h

/-- The pages of a plane (Table 1.8). -/
def Page.ofPlane (p : Plane) (pg : Page) : Prop :=
  (∃ i, pg = .prt p i) ∨ pg = .psw p ∨ (∃ i, pg = .pswPort p i) ∨ pg = .tim p ∨ ∃ i, pg = .timPort p i

/-- A register that the decoder finds in a plane's space is one of a page of that plane. -/
theorem planeAt_reg {p : Plane} {o k : Nat} {pg : Page} {r : RegId} (h : planeAt p o = .reg pg r k) :
    pg.ofPlane p ∧ r ∈ pg.kind.regs := by
  unfold planeAt at h
  simp only at h
  split at h
  · split at h
    · split at h
      · next qg u j hq =>
        split at h
        · simp at h
        · obtain ⟨rfl, rfl, -⟩ := by simpa using h
          obtain ⟨rfl, hr⟩ := pageAt_reg hq
          exact ⟨.inl ⟨_, rfl⟩, hr⟩
      · obtain ⟨rfl, hr⟩ := pageAt_reg h
        exact ⟨.inl ⟨_, rfl⟩, hr⟩
    · simp at h
  · split at h
    · split at h <;> obtain ⟨rfl, hr⟩ := pageAt_reg h
      · exact ⟨.inr (.inr (.inl ⟨_, rfl⟩)), hr⟩
      · exact ⟨.inr (.inl rfl), hr⟩
    · split at h
      · split at h
        · obtain ⟨rfl, hr⟩ := pageAt_reg h
          exact ⟨.inr (.inr (.inr (.inl rfl))), hr⟩
        · split at h
          · obtain ⟨rfl, hr⟩ := pageAt_reg h
            exact ⟨.inr (.inr (.inr (.inr ⟨_, rfl⟩))), hr⟩
          · simp at h
      · simp at h

/-- A plane's pages belong to the plane's domain. -/
theorem Page.ofPlane.dom {p : Plane} {pg : Page} (h : pg.ofPlane p) : pg.dom = .plane p := by
  obtain ⟨_, rfl⟩ | rfl | ⟨_, rfl⟩ | rfl | ⟨_, rfl⟩ := h <;> rfl

/-- No plane's page has the manager's holes. -/
theorem Page.ofPlane.mgrHole {p : Plane} {pg : Page} (h : pg.ofPlane p) (r : RegId) : mgrHole pg r = false := by
  obtain ⟨_, rfl⟩ | rfl | ⟨_, rfl⟩ | rfl | ⟨_, rfl⟩ := h <;> rfl

/-- Vault time is shown on no plane's page. -/
theorem Page.ofPlane.ne_vtime {p : Plane} {pg : Page} (h : pg.ofPlane p) {r : RegId} (hr : r ∈ pg.kind.regs) : r ≠ .INK_VTIME_LO := by
  rintro rfl
  obtain ⟨_, rfl⟩ | rfl | ⟨_, rfl⟩ | rfl | ⟨_, rfl⟩ := h <;> simp [Page.kind, Kind.regs] at hr

/-- An aligned word that names something in a plane's space is not refused (R7, R32). -/
theorem fabricWhy_plane {a o : Nat} {p : Plane} (ha : placeAt a = .plane p o) (h4 : o % 4 = 0) (hn : planeAt p o ≠ .none) :
    fabricWhy a 4 = none := by
  simp [fabricWhy, ha, aligned, h4, hn]

/-- With no paired write waiting there is nothing to settle. -/
theorem State.settlePairs_of_empty {s : State} (h : ∀ u m, s.pairQ_ u m = []) : s.settlePairs = s := by
  simp [State.settlePairs, h]

/-- The pairing queues are read from `pairQ` alone. -/
theorem State.pairQ_congr {s t : State} (h : t.pairQ = s.pairQ) (u : PairTarget) (m : Lane) : t.pairQ_ u m = s.pairQ_ u m := by
  simp [State.pairQ_, h]

/-! Stores by access code (Table 0.5). -/

/-- The value that a write of `new` leaves in a field that held `old` (R8, R9). -/
def State.fldAfter (s : State) (pg : Page) (r : RegId) (k : Nat) (f : Fld) (old new : Nat) : Nat :=
  match f.acc with
  | .rw => if s.fldTakes pg k f new then fldClamp f new else old
  | .rwl => if s.regLocked pg r || !s.fldTakes pg k f new then old else new
  | .ro | .rc => old
  | .wo => 0
  | .w1c => old - Nat.land old new
  | .w1s => Nat.lor old new

/-- Replacing the fields of a list one by one: each of them reads what was put, a field apart from all as before. -/
theorem bitsOf_foldl_bitsPut (L : List Fld) (v : Fld → Nat) (f : Fld) (acc : Nat) (hfit : ∀ g ∈ L, g.lo ≤ g.hi)
    (hap : ∀ g ∈ L, g ≠ f → f.hi < g.lo ∨ g.hi < f.lo) :
    bitsOf (L.foldl (fun acc g => bitsPut acc g.hi g.lo (v g)) acc) f.hi f.lo =
      if f ∈ L then v f % 2 ^ (f.hi + 1 - f.lo) else bitsOf acc f.hi f.lo := by
  induction L generalizing acc with
  | nil => simp
  | cons g L ih =>
    rw [List.foldl_cons, ih _ (fun x hx => hfit x (.tail _ hx)) (fun x hx => hap x (.tail _ hx))]
    by_cases hL : f ∈ L
    · simp [hL]
    · by_cases e : g = f
      · subst e; simp [hL]
      · rw [if_neg hL, if_neg (by simp [hL, Ne.symm e]),
          bitsOf_bitsPut_apart _ _ _ _ _ _ (hfit g (.head _)) (hap g (.head _) e)]

/-- A bit outside the fields replaced is as before. -/
theorem testBit_foldl_bitsPut (L : List Fld) (v : Fld → Nat) (b acc : Nat) (hfit : ∀ g ∈ L, g.lo ≤ g.hi)
    (hout : ∀ g ∈ L, b < g.lo ∨ g.hi < b) :
    (L.foldl (fun acc g => bitsPut acc g.hi g.lo (v g)) acc).testBit b = acc.testBit b := by
  induction L generalizing acc with
  | nil => rfl
  | cons g L ih =>
    have hg := hout g (.head _)
    rw [List.foldl_cons, ih _ (fun x hx => hfit x (.tail _ hx)) (fun x hx => hout x (.tail _ hx)),
      testBit_bitsPut _ _ _ _ _ (hfit g (.head _)), if_neg (by omega)]

/-- A merged word as replacements of the register's fields in 0. -/
theorem State.regMerge_eq (s : State) (pg : Page) (r : RegId) (k old new : Nat) :
    s.regMerge pg r k old new = r.fields.foldl (fun acc f =>
      bitsPut acc f.hi f.lo (s.fldAfter pg r k f (bitsOf old f.hi f.lo) (bitsOf new f.hi f.lo))) 0 := by
  unfold State.regMerge State.fldAfter
  congr 1

/-- Only whole-word fields are clamped. -/
theorem fldClamp_lt (r : RegId) (f : Fld) (hf : f ∈ r.fields) (v : Nat) (hv : v < 2 ^ (f.hi + 1 - f.lo)) :
    fldClamp f v < 2 ^ (f.hi + 1 - f.lo) := by
  have hu (i : Int) : unsignedOf 32 i < 2 ^ 32 := by unfold unsignedOf; omega
  have hid := (fields_fit r f hf).1
  unfold fldClamp
  split
  · next h => rw [h] at hid; subst hid; obtain rfl : f = F.TIM_PPS_ADJ0_ADJ := by simpa [RegId.fields] using hf
              exact hu _
  · next h => rw [h] at hid; subst hid; obtain rfl : f = F.TIM_PPS_ADJ1_ADJ := by simpa [RegId.fields] using hf
              exact hu _
  · exact hv

/-- What a write leaves in a field fits the field. -/
theorem State.fldAfter_lt (s : State) (pg : Page) (r : RegId) (k : Nat) (f : Fld) (hf : f ∈ r.fields) (old new : Nat)
    (ho : old < 2 ^ (f.hi + 1 - f.lo)) (hn : new < 2 ^ (f.hi + 1 - f.lo)) :
    s.fldAfter pg r k f old new < 2 ^ (f.hi + 1 - f.lo) := by
  unfold State.fldAfter
  split
  · split
    · exact fldClamp_lt r f hf new hn
    · exact ho
  · split
    · exact ho
    · exact hn
  · exact ho
  · exact ho
  · positivity
  · exact lt_of_le_of_lt (Nat.sub_le _ _) ho
  · exact Nat.or_lt_two_pow ho hn

/-- The merged word, field by field (R8). -/
theorem State.bitsOf_regMerge (s : State) (pg : Page) (r : RegId) (k old new : Nat) (f : Fld) (hf : f ∈ r.fields) :
    bitsOf (s.regMerge pg r k old new) f.hi f.lo =
      s.fldAfter pg r k f (bitsOf old f.hi f.lo) (bitsOf new f.hi f.lo) := by
  rw [State.regMerge_eq, bitsOf_foldl_bitsPut r.fields _ f 0 (fun g hg => (fields_fit r g hg).2.1)
    (fun g hg hne => fields_apart_of_ne r hf hg hne.symm), if_pos hf,
    Nat.mod_eq_of_lt (s.fldAfter_lt pg r k f hf _ _ (bitsOf_lt _ _ _) (bitsOf_lt _ _ _))]

/-- The merged word is 0 outside the fields (R12). -/
theorem State.bitsOf_regMerge_outside (s : State) (pg : Page) (r : RegId) (k old new b : Nat)
    (hb : ∀ f ∈ r.fields, b < f.lo ∨ f.hi < b) : bitsOf (s.regMerge pg r k old new) b b = 0 := by
  rw [bitsOf_bit, State.regMerge_eq, testBit_foldl_bitsPut _ _ _ _ (fun g hg => (fields_fit r g hg).2.1) hb]
  simp

/-- The registers whose write starts something or is judged whole. -/
def writeStarts : List RegId :=
  [.TIM_CTRL, .TIM_DOM_CFG, .PSW_CTRL, .PRT_CNT_CLR, .PSW_CNT_CLR, .PSW_HCAP_CTRL, .PRT_CFG, .PRT_MAXLEN, .PSW_IN_LIM]

/-- A write to any other register of a plane stores the merged word (R8). -/
theorem State.regWrite_plane (s : State) {p : Plane} {pg : Page} (hp : pg.ofPlane p) {r : RegId} (hr : r ∉ writeStarts) (k : Nat)
    (data : Word) :
    s.regWrite pg r k data = s.wr pg r k (BitVec.ofNat 32 (s.regMerge pg r k (s.rd pg r k).toNat data.toNat)) := by
  have hmg : ∀ i, pg ≠ .mg i := by
    rintro i rfl
    simpa [Page.dom] using hp.dom
  simp only [writeStarts, List.mem_cons, not_or] at hr
  unfold State.regWrite
  rw [hp.mgrHole, hp.dom]
  simp only [State.writePlane]
  simp_all [State.regStore]

/-- An aligned write of the steward to a plane register reaches the register (R41). -/
theorem exec_registerWrite_steward_plane {p : Plane} {o k : Nat} {pg : Page} {r : RegId} (data : Word) {s : State}
    (hc : s.up .common = true) (hup : s.planeUp p = true) (ho : o < 0x1000000) (h4 : o % 4 = 0) (hat : planeAt p o = .reg pg r k) :
    exec (.registerWrite .steward (planeBase p + o) 4 data) s = .next (s.regWrite pg r k data).settlePairs := by
  have hplace := placeAt_planeBase p o ho
  simp only [exec, execRegisterWrite, State.fabricWrite, hc, fabricWhy_plane hplace h4 (by simp [hat]), hplace, hup, hat,
    State.tgtWrite]
  rfl

/-- Settles O5: the store is the merged word of the register's fields, and nothing waits to be settled after it. -/
theorem storeByAccessCode : Obligations.StoreByAccessCode := by
  unfold Obligations.StoreByAccessCode
  intro p o pg r k data s hc hup hq ho h4 hat hr
  obtain ⟨hp, -⟩ := planeAt_reg hat
  have hset (w : Word) : (s.wr pg r k w).settlePairs = s.wr pg r k w := State.settlePairs_of_empty fun u m =>
    (State.pairQ_congr (State.wr_pairQ ..) u m).trans (hq u m)
  rw [exec_registerWrite_steward_plane data hc hup ho h4 hat, s.regWrite_plane hp hr, hset]
  refine ⟨_, rfl, fun f hf => ?_, fun b hb hout => ?_, (RegsOutside.refl _ s).wr _ _ _ _ ⟨_, .head _, by simp [regAt], by simp [regAt]⟩,
    State.body_wr ..⟩
  · obtain ⟨rfl, -, h32⟩ := fields_fit r f hf
    simp only [State.fld, State.rd_wr_same, bitsOf_toNat_ofNat _ _ _ h32, s.bitsOf_regMerge pg _ k _ _ f hf]
    rfl
  · rw [State.rd_wr_same, bitsOf_toNat_ofNat _ _ _ hb, s.bitsOf_regMerge_outside pg r k _ _ b hout]

end Sys2Proof.Machine
end

section
/-! # Reads of registers, and accesses that are refused (R7, R10, R32, R36, R40, R435) -/

namespace Sys2Proof.Machine
open Sys2Proof

/-! Reads of registers (R10, R40). -/

/-- The registers of a plane whose read latches or removes something other than RC fields. -/
def readLatches : List RegId := [.TIM_NOW_W0, .TIM_TXQ_ENT, .PRT_CNT, .PSW_BUF_LOW]

/-- Clearing fields of one register: each of them reads 0, a field apart from all as before. -/
theorem State.fld_foldl_clear (L : List Fld) (s : State) (pg : Page) (k : Nat) (f : Fld) (h32 : f.hi < 32)
    (hfit : ∀ g ∈ L, g.id = f.id ∧ g.lo ≤ g.hi) (hap : ∀ g ∈ L, g ≠ f → f.hi < g.lo ∨ g.hi < f.lo) :
    (L.foldl (fun (s : State) g => s.setFld pg g 0 k) s).fld pg f k = if f ∈ L then 0 else s.fld pg f k := by
  induction L generalizing s with
  | nil => simp
  | cons g L ih =>
    rw [List.foldl_cons, ih _ (fun x hx => hfit x (.tail _ hx)) (fun x hx => hap x (.tail _ hx))]
    obtain ⟨hid, hlo⟩ := hfit g (.head _)
    by_cases hL : f ∈ L
    · simp [hL]
    · by_cases e : g = f
      · subst e; simp [hL, State.fld_setFld_same _ _ _ _ _ h32 hlo]
      · rw [if_neg hL, if_neg (by simp [hL, Ne.symm e]),
          State.fld_setFld_apart _ _ _ _ _ _ hid.symm hlo h32 (hap g (.head _) e)]

/-- Clearing fields of one register touches that register alone. -/
theorem RegsOutside.foldl_clear {rs : List (Nat × Nat)} {s t : State} (h : RegsOutside rs s t) (L : List Fld) (pg : Page) (r : RegId)
    (k : Nat) (hid : ∀ g ∈ L, g.id = r) (hx : RegIn rs pg r k) :
    RegsOutside rs s (L.foldl (fun (s : State) g => s.setFld pg g 0 k) t) := by
  induction L generalizing t with
  | nil => exact h
  | cons g L ih => exact ih (h.setFld _ _ _ _ (by rwa [hid g (.head _)])) fun x hx => hid x (.tail _ hx)

/-- Clearing fields leaves everything but the registers. -/
theorem State.body_foldl_clear (L : List Fld) (s : State) (pg : Page) (k : Nat) :
    (L.foldl (fun (s : State) g => s.setFld pg g 0 k) s).body = s.body := by
  induction L generalizing s with
  | nil => rfl
  | cons g L ih => rw [List.foldl_cons, ih, State.body_setFld]

/-- The fields that a read clears (R10). -/
def RegId.rcFields (r : RegId) : List Fld := r.fields.filter (fun f => decide (f.acc = .rc))

/-- What a read clears: the register's RC fields (R10). -/
theorem State.regClear_eq (s : State) (pg : Page) {r : RegId} (k : Nat) (hr : r ∉ readLatches) :
    s.regClear pg r k = r.rcFields.foldl (fun (s : State) f => s.setFld pg f 0 k) s := by
  unfold State.regClear
  split
  · simp [readLatches] at hr
  · rfl

/-- The fields of a register after a read that clears. -/
theorem State.fld_regClear (s : State) (pg : Page) {r : RegId} (k : Nat) (hr : r ∉ readLatches) (f : Fld) (hf : f ∈ r.fields) :
    (s.regClear pg r k).fld pg f k = if f.acc = .rc then 0 else s.fld pg f k := by
  obtain ⟨hid, -, h32⟩ := fields_fit r f hf
  have hin (g : Fld) (hg : g ∈ r.rcFields) : g ∈ r.fields := List.mem_of_mem_filter hg
  rw [s.regClear_eq pg k hr, State.fld_foldl_clear _ _ _ _ _ h32 (fun g hg => ?_)
    (fun g hg hne => fields_apart_of_ne r hf (hin g hg) hne.symm)]
  · simp [RegId.rcFields, hf]
  · obtain ⟨gid, glo, -⟩ := fields_fit r g (hin g hg)
    exact ⟨gid.trans hid.symm, glo⟩

/-- A read of a plane's register that latches nothing returns its view and clears its RC fields where it clears (R10, R40). -/
theorem State.regRead_plane (s : State) {p : Plane} {pg : Page} (hp : pg.ofPlane p) {r : RegId} (hm : r ∈ pg.kind.regs)
    (hr : r ∉ readLatches) (k : Nat) (clear : Bool) :
    s.regRead pg r k clear = { (if clear then s.regClear pg r k else s) with rdata := s.regView pg r k } := by
  have hv := hp.ne_vtime hm
  simp only [readLatches, List.mem_cons, not_or] at hr
  unfold State.regRead
  rw [hp.mgrHole]
  simp_all

/-- An aligned read of a plane register by the steward or JTAG reaches the register and clears. -/
theorem exec_rcFieldRead_fabric_plane {p : Plane} {o k : Nat} {pg : Page} {r : RegId} (jtag : Bool) {s : State}
    (hc : s.up .common = true) (hup : s.planeUp p = true) (ho : o < 0x1000000) (h4 : o % 4 = 0) (hat : planeAt p o = .reg pg r k) :
    exec (.rcFieldRead (if jtag then .jtag else .steward) (planeBase p + o) 4) s = .next (s.regRead pg r k true) := by
  have hplace := placeAt_planeBase p o ho
  cases jtag <;>
    simp [exec, execRcFieldRead, State.fabricRead, hc, fabricWhy_plane hplace h4 (by simp [hat]), hplace, hup, hat, State.tgtRead]

/-- An aligned read of a plane register by a core reaches the register and clears nothing (R40). -/
theorem exec_rcFieldRead_core_plane {p : Plane} {o k : Nat} {pg : Page} {r : RegId} {l : Lane} {s : State}
    (hl : s.laneUp l = true) (hup : s.planeUp p = true) (ho : o < 0x1000000) (h4 : o % 4 = 0) (hat : planeAt p o = .reg pg r k) :
    exec (.rcFieldRead (.manager l) (planeBase p + o) 4) s = .next (s.regRead pg r k false) := by
  have hacc : coreAt l (planeBase p + o) 4 = .to_ (.plane p o) := by
    simp [coreAt, placeAt_planeBase p o ho, aligned, h4, hat]
  simp [exec, execRcFieldRead, State.coreRead, hl, hacc, hup, hat, State.tgtRead]

/-! Refused accesses (R7, R32, R36, R435). -/

/-- The registers that capture a refused access to Common or a plane. -/
def bltAccAt : List (Nat × Nat) := [regAt .blt .BLT_ACC_STATUS, regAt .blt .BLT_ACC_ADDR_LO, regAt .blt .BLT_ACC_ADDR_HI]

/-- A capture stores to the BLT_ACC registers alone. -/
theorem RegsOutside.captureBlt (s : State) (i : Initiator) (wr : Bool) (y : Why) (a : Nat) :
    RegsOutside bltAccAt s (s.captureBlt i wr y a) := by
  have hin (r : RegId) (h : regAt .blt r ∈ bltAccAt) : RegIn bltAccAt .blt r 0 := ⟨_, h, le_refl _, Nat.lt_succ_self _⟩
  unfold State.captureBlt
  split
  · exact .refl _ _
  · exact (((RegsOutside.refl _ s).wr _ _ _ _ (hin _ (by simp [bltAccAt]))).wr _ _ _ _ (hin _ (by simp [bltAccAt]))).wr _ _ _ _
      (hin _ (by simp [bltAccAt]))

/-- A capture leaves everything but registers. -/
theorem State.body_captureBlt (s : State) (i : Initiator) (wr : Bool) (y : Why) (a : Nat) : (s.captureBlt i wr y a).body = s.body := by
  unfold State.captureBlt
  split <;> rfl

/-- What a capture of the steward's access shows while VALID was clear (R435). -/
def AccCaptured (wr : Bool) (y : Why) (a : Nat) (t : State) : Prop :=
  t.fld .blt F.BLT_ACC_STATUS_VALID = 1 ∧ t.fld .blt F.BLT_ACC_STATUS_WRITE = b2n wr ∧
    t.fld .blt F.BLT_ACC_STATUS_REASON = y.code ∧ t.fld .blt F.BLT_ACC_STATUS_INIT = 0 ∧
    (t.rd .blt .BLT_ACC_ADDR_LO).toNat + 2 ^ 32 * (t.rd .blt .BLT_ACC_ADDR_HI).toNat = a

theorem State.captureBlt_captures (s : State) (wr : Bool) (y : Why) (a : Nat) (ha : a < 2 ^ 48) (hc : s.up .common = true)
    (hv : s.bit .blt F.BLT_ACC_STATUS_VALID = false) : AccCaptured wr y a (s.captureBlt .steward wr y a) := by
  have hlo : (State.captureBlt s .steward wr y a).rd .blt .BLT_ACC_ADDR_LO = BitVec.ofNat 32 a := by
    simp only [State.captureBlt, hc, hv]
    exact (State.rd_wr_other _ _ _ _ _ _ _ _ (by decide)).trans (State.rd_wr_same ..)
  have hhi : (State.captureBlt s .steward wr y a).rd .blt .BLT_ACC_ADDR_HI = BitVec.ofNat 32 (a / 2 ^ 32 % 2 ^ 16) := by
    simp only [State.captureBlt, hc, hv]
    exact State.rd_wr_same ..
  have hst : (State.captureBlt s .steward wr y a).rd .blt .BLT_ACC_STATUS =
      BitVec.ofNat 32 (2 ^ 31 + initCode .steward * 2 ^ 28 + b2n wr * 2 ^ 27 + y.code * 2 ^ 25) := by
    simp only [State.captureBlt, hc, hv]
    exact ((State.rd_wr_other _ _ _ _ _ _ _ _ (by decide)).trans (State.rd_wr_other _ _ _ _ _ _ _ _ (by decide))).trans
      (State.rd_wr_same ..)
  have hfld : ∀ f ∈ RegId.BLT_ACC_STATUS.fields, (State.captureBlt s .steward wr y a).fld .blt f =
      bitsOf (2 ^ 31 + b2n wr * 2 ^ 27 + y.code * 2 ^ 25) f.hi f.lo := by
    intro f hf
    obtain ⟨hid, -, h32⟩ := fields_fit _ f hf
    rw [State.fld, hid, hst, bitsOf_toNat_ofNat _ _ _ h32]
    simp [initCode]
  refine ⟨?_, ?_, ?_, ?_, ?_⟩
  · rw [hfld _ (by decide)]; cases wr <;> cases y <;> decide
  · rw [hfld _ (by decide)]; cases wr <;> cases y <;> decide
  · rw [hfld _ (by decide)]; cases wr <;> cases y <;> decide
  · rw [hfld _ (by decide)]; cases wr <;> cases y <;> decide
  · rw [hlo, hhi, BitVec.toNat_ofNat, BitVec.toNat_ofNat]; omega

/-- Why the steward's access to a reserved range, or a misaligned or wrongly sized one to a plane, is refused (R7, R32). -/
theorem fabricWhy_refused {a size : Nat}
    (h : placeAt a = .reserved ∨ ∃ p o, placeAt a = .plane p o ∧ ¬(size = 4 ∧ o % 4 = 0)) :
    fabricWhy a size = some (if placeAt a = .reserved then .range else .size) := by
  obtain h | ⟨p, o, h, ho⟩ := h
  · simp [fabricWhy, h]
  · have : aligned o size = false := by simpa [aligned] using ho
    simp [fabricWhy, h, this]

/-- A core's access to the other lane's memory, or to an absolute lane register range, is refused as out of view (R36). -/
theorem coreAt_outOfView {l : Lane} {a size : Nat} (h : (∃ o, placeAt a = .mem .l1 o) ∨ ∃ m o, placeAt a = .laneReg m o) :
    ∃ off, coreAt l a size = .refuseLane .view off := by
  obtain ⟨o, h⟩ | ⟨m, o, h⟩ := h <;> simp [coreAt, h]

/-- A capture in a lane sets VALID and the reason where VALID was clear (R435). -/
theorem State.captureLane_captures (s : State) (l : Lane) (wr : Bool) (y : Why) (off : Nat)
    (hv : s.bit (.lcfg l) F.CFG_ACC_STATUS_VALID = false) :
    (s.captureLane l wr y off).fld (.lcfg l) F.CFG_ACC_STATUS_VALID = 1 ∧
      (s.captureLane l wr y off).fld (.lcfg l) F.CFG_ACC_STATUS_REASON = y.code := by
  have hy : y.code < 4 := by cases y <;> decide
  have hw : b2n wr < 2 := by cases wr <;> decide
  have hst : (s.captureLane l wr y off).rd (.lcfg l) .CFG_ACC_STATUS =
      BitVec.ofNat 32 (2 ^ 31 + b2n wr * 2 ^ 30 + y.code * 2 ^ 28 + off % 2 ^ 28) := by
    simp only [State.captureLane, hv]
    exact State.rd_wr_same ..
  simp only [State.fld, F.CFG_ACC_STATUS_VALID, F.CFG_ACC_STATUS_REASON, hst, BitVec.toNat_ofNat, bitsOf]
  constructor <;> omega

theorem RegsOutside.captureLane (s : State) (l : Lane) (wr : Bool) (y : Why) (off : Nat) :
    RegsOutside [regAt (.lcfg l) .CFG_ACC_STATUS] s (s.captureLane l wr y off) := by
  unfold State.captureLane
  split
  · exact .refl _ _
  · exact (RegsOutside.refl _ s).wr _ _ _ _ ⟨_, .head _, le_refl _, Nat.lt_succ_self _⟩

theorem State.body_captureLane (s : State) (l : Lane) (wr : Bool) (y : Why) (off : Nat) : (s.captureLane l wr y off).body = s.body := by
  unfold State.captureLane
  split <;> rfl

/-- Nothing is settled after a change of registers alone when no paired write waits. -/
theorem State.settlePairs_of_body {s t : State} (h : t.body = s.body) (hq : ∀ u m, s.pairQ_ u m = []) : t.settlePairs = t :=
  State.settlePairs_of_empty fun u m => (State.pairQ_congr (congrArg State.pairQ h) u m).trans (hq u m)

/-- Settles O6. -/
theorem registerReadsAndRefusals : Obligations.RegisterReadsAndRefusals := by
  unfold Obligations.RegisterReadsAndRefusals
  refine ⟨fun p o pg r k jtag l s hc hup ho h4 hat hr => ?_, fun a size data l s hc hq ha => ⟨fun href => ?_, fun hl hview => ?_⟩⟩
  · obtain ⟨hp, hm⟩ := planeAt_reg hat
    constructor
    · rw [exec_rcFieldRead_fabric_plane jtag hc hup ho h4 hat, s.regRead_plane hp hm hr]
      refine ⟨_, rfl, rfl, fun f hf => s.fld_regClear pg k hr f hf, ?_, ?_⟩
      · refine RegsOutside.same (t := s.regClear pg r k) ?_ rfl
        rw [s.regClear_eq pg k hr]
        exact (RegsOutside.refl _ s).foldl_clear _ _ r _
          (fun g hg => (fields_fit r g (List.mem_of_mem_filter hg)).1) ⟨_, .head _, le_refl _, Nat.lt_succ_self _⟩
      · have hb : (s.regClear pg r k).body = s.body := by rw [s.regClear_eq pg k hr, State.body_foldl_clear]
        exact congrArg (fun u : State => { u with rdata := s.rdata }) hb
    · intro hl
      rw [exec_rcFieldRead_core_plane hl hup ho h4 hat, s.regRead_plane hp hm hr]
      rfl
  · have hwhy := fabricWhy_refused href
    constructor
    · have hb := s.body_captureBlt .steward true (if placeAt a = .reserved then .range else .size) a
      refine ⟨s.captureBlt .steward true (if placeAt a = .reserved then .range else .size) a, ?_,
        s.captureBlt_captures true _ a ha hc, RegsOutside.captureBlt s .steward true _ a, hb⟩
      simp [exec, execRegisterWrite, State.fabricWrite, hc, hwhy, State.settlePairs_of_body hb hq]
    · have hb := s.body_captureBlt .steward false (if placeAt a = .reserved then .range else .size) a
      refine ⟨{ s.captureBlt .steward false (if placeAt a = .reserved then .range else .size) a with rdata := 0 }, ?_, rfl,
        s.captureBlt_captures false _ a ha hc, RegsOutside.captureBlt s .steward false _ a,
        congrArg (fun u : State => { u with rdata := s.rdata }) hb⟩
      simp [exec, execRcFieldRead, State.fabricRead, hc, hwhy]
  · obtain ⟨off, hacc⟩ := coreAt_outOfView (l := l) (size := size) hview
    have hb := s.body_captureLane l true .view off
    refine ⟨s.captureLane l true .view off, ?_, s.captureLane_captures l true .view off, RegsOutside.captureLane s l true .view off, hb⟩
    simp [exec, execRegisterWrite, State.coreWrite, hl, hacc, State.settlePairs_of_body hb hq]

end Sys2Proof.Machine
end

section
/-! # Every command answers: each meaning is a tree of branches with a next state at every leaf -/

namespace Sys2Proof.Machine
open Sys2Proof

theorem completes_ok (s : State) : Completes (ok s) := ⟨s, rfl⟩

/-- A branch of which both sides answer. -/
theorem completes_ite {p : Prop} [Decidable p] {a b : Host.Outcome State Fault Refusal} (ha : Completes a) (hb : Completes b) :
    Completes (if p then a else b) := by
  split
  exacts [ha, hb]

/-- A branch between two next states. -/
theorem completes_guard {p : Prop} [Decidable p] {s t : State} : Completes (if p then ok s else ok t) :=
  completes_ite (completes_ok s) (completes_ok t)

/-- Settles O4, by the shape of each command's meaning: how many guards stand before its next states, and what it matches on. The
commands named nowhere answer one next state, or one of two behind a single guard. -/
theorem everyCommandAnswers : Obligations.EveryCommandAnswers := by
  unfold Obligations.EveryCommandAnswers
  intro c s
  cases c
  -- Two and three guards in a row.
  case followUpReceived | pdelayReqReceived | pdelayReqSend | laneTimeSample | mgTxKick | prtCntClr | forwardingDecision |
      ownerHandback | tripMinOnExpire | lossDeadline | coefficientWrite | swapPost | eventQueueDrain | histSelect |
      rateDetectDwellExpire | laneRollInEffect | fenceWordCrossing | tempAlarm =>
    exact completes_ite (completes_ok _) completes_guard
  case tamperAssert | canFrameReceived | rxTimeout | pairPrefMove | gooseCopyReceived | firmwareVerify | vioBankLow |
      vioBankRestore =>
    exact completes_ite (completes_ok _) (completes_ite (completes_ok _) completes_guard)
  -- One match, whose arms are next states or one guard.
  case revertHoldExpire | registerWrite | rcFieldRead | broadcastWrite | broadcastRead | holdMaxExpire =>
    dsimp only [exec, execRevertHoldExpire, execRegisterWrite, execRcFieldRead, execBroadcastWrite, execBroadcastRead,
      execHoldMaxExpire]
    split <;> exact completes_ok _
  case pdelayRespTimeout | residenceEntryExpire | ppsWidthExpire | linkHoldExpire | hsrDupExpire | seqCacheExpire |
      seqWaitExpire | tripNoticeDue | issueSend | xtrigDriveRelease | epsArm | epsElementFiring | laneDefaultReturn |
      pauseRefresh | pauseExpire | overload =>
    dsimp only [exec, execPdelayRespTimeout, execResidenceEntryExpire, execPpsWidthExpire, execLinkHoldExpire, execHsrDupExpire,
      execSeqCacheExpire, execSeqWaitExpire, execTripNoticeDue, execIssueSend, execXtrigDriveRelease, execEpsArm,
      execEpsElementFiring, execLaneDefaultReturn, execPauseRefresh, execPauseExpire, execOverload]
    split
    · exact completes_ok _
    · exact completes_guard
  case txAttemptEnd | abortComplete | resetComplete | pairTimeout | dumpCaptureEnd | dumpWritten | commonRestart =>
    dsimp only [exec, execTxAttemptEnd, execAbortComplete, execResetComplete, execPairTimeout, execDumpCaptureEnd,
      execDumpWritten, execCommonRestart]
    split
    · exact completes_guard
    · exact completes_ok _
  case regionBankSwitch =>
    dsimp only [exec, execRegionBankSwitch]
    split
    · exact completes_ok _
    · exact completes_ite (completes_ok _) completes_guard
  -- A guard before one match.
  case horizonApply | keyStale | engineSelect | pendingQueueRoom | snapshot | pairedWrite | domainUp | txqEntryRead |
      alignmentDeadline | instanceDrained =>
    dsimp only [exec, execHorizonApply, execKeyStale, execEngineSelect, execPendingQueueRoom, execSnapshot, execPairedWrite,
      execDomainUp, execTxqEntryRead, execAlignmentDeadline, execInstanceDrained]
    refine completes_ite (completes_ok _) ?_
    split <;> exact completes_ok _
  case tripDisagree | scheduledEvaluation | keyZeroised =>
    dsimp only [exec, execTripDisagree, execScheduledEvaluation, execKeyZeroised]
    refine completes_ite (completes_ok _) ?_
    split
    · exact completes_ok _
    · exact completes_guard
  case frameTransmitEnd =>
    dsimp only [exec, execFrameTransmitEnd]
    split
    · exact completes_ok _
    · refine completes_ite (completes_ok _) ?_
      split <;> exact completes_ok _
  -- Guards and matches in turn.
  case announceReceived | syncReceived | pdelayRespReceived | pdelayRespFollowUpReceived | mgFrameReceived | frameReceiveEnd |
      egressDequeue | mergeCopyReceived | mergeDeadline | seqAssignmentReceived | svCopyReceived | timingCopyWaitExpire |
      slotServe | noticeReceived | echoReceived | tokenAccept | rowDecision | canStartOfFrame | receiveRecordApply |
      gooseTimingWaitExpire | drainDecision =>
    dsimp only [exec, execAnnounceReceived, execSyncReceived, execPdelayRespReceived, execPdelayRespFollowUpReceived,
      execMgFrameReceived, execFrameReceiveEnd, execEgressDequeue, execMergeCopyReceived, execMergeDeadline,
      execSeqAssignmentReceived, execSvCopyReceived, execTimingCopyWaitExpire, execSlotServe, execNoticeReceived,
      execEchoReceived, execTokenAccept, execRowDecision, execCanStartOfFrame, execReceiveRecordApply, execGooseTimingWaitExpire,
      execDrainDecision]
    repeat' split
    all_goals exact completes_ok _
  all_goals try exact completes_ok _
  all_goals exact completes_guard

end Sys2Proof.Machine
end

section
/-! # The event recorder: what writing a record leaves of the ring, of its registers and of the rate limits (R385, R386, R390) -/

namespace Sys2Proof.Machine
open Sys2Proof

/-! Bytes. -/

@[simp] theorem natLe_length (n v : Nat) : (natLe n v).length = n := by
  induction n generalizing v with
  | zero => rfl
  | succ n ih => simp [natLe, ih]

/-- The octets of some words. -/
theorem flatMap_natLe_length (n : Nat) (l : List Nat) : (l.flatMap (natLe n)).length = n * l.length := by
  induction l with
  | nil => rfl
  | cons x l ih => simp [List.flatMap_cons, ih]; ring

@[simp] theorem memRead_length (d : Byte) (m : Mem) (a n : Nat) : (memRead d m a n).length = n := by
  induction n generalizing a with
  | zero => rfl
  | succ n ih => simp [memRead, ih]

/-- A read in two parts. -/
theorem memRead_add (d : Byte) (m : Mem) (a n k : Nat) : memRead d m a (n + k) = memRead d m a n ++ memRead d m (a + n) k := by
  induction n generalizing a with
  | zero => simp [memRead]
  | succ n ih => rw [show n + 1 + k = n + k + 1 by omega, memRead, memRead, ih, List.cons_append, show a + 1 + n = a + (n + 1) by omega]

/-- Bytes read where two memories agree. -/
theorem memRead_congr (d : Byte) {m m' : Mem} {a n : Nat} (h : ∀ c, a ≤ c → c < a + n → memGet d m' c = memGet d m c) :
    memRead d m' a n = memRead d m a n := by
  induction n generalizing a with
  | zero => rfl
  | succ n ih => rw [memRead, memRead, h a (le_refl _) (by omega), ih fun c h1 h2 => h c (by omega) (by omega)]

/-- The first part of what has just been written, read back. -/
theorem memRead_write_append_left (d : Byte) (m : Mem) (a : Nat) (x y : List Byte) (h : memWf d m = true) :
    memRead d (memWrite d m a (x ++ y)) a x.length = x := by
  have e := memRead_write d m a (x ++ y) h
  rw [List.length_append, memRead_add] at e
  exact List.append_inj_left e (memRead_length ..)

/-- The second part of what has just been written, read back. -/
theorem memRead_write_append_right (d : Byte) (m : Mem) (a : Nat) (x y : List Byte) (h : memWf d m = true) :
    memRead d (memWrite d m a (x ++ y)) (a + x.length) y.length = y := by
  have e := memRead_write d m a (x ++ y) h
  rw [List.length_append, memRead_add] at e
  exact List.append_inj_right e (memRead_length ..)

/-! Registers. -/

/-- States with the same words read the same fields. -/
theorem State.fld_congr {s t : State} (h : t.regs = s.regs) (p : Page) (f : Fld) (k : Nat) : t.fld p f k = s.fld p f k := by
  unfold State.fld State.rd
  rw [h]

/-- A counter after counting: it saturates (R11). -/
theorem State.fld_bump_same (s : State) (p : Page) (f : Fld) (k n : Nat) (h : f.hi < 32) (h2 : f.lo ≤ f.hi) :
    (s.bump p f k n).fld p f k = min (s.fld p f k + n) f.maxVal := by
  unfold State.bump
  rw [State.fld_setFld_same _ _ _ _ _ h h2, Nat.mod_eq_of_lt]
  have : 0 < 2 ^ (f.hi + 1 - f.lo) := by positivity
  have : f.maxVal = 2 ^ (f.hi + 1 - f.lo) - 1 := rfl
  omega

/-- A field is below its width. -/
theorem State.fld_lt (s : State) (p : Page) (f : Fld) (k : Nat) : s.fld p f k < 2 ^ (f.hi + 1 - f.lo) := bitsOf_lt _ _ _

theorem evrHead_lt (s : State) : s.fld .evr F.EVR_HEAD_INDEX < evrUnits := s.fld_lt _ _ _
theorem evrTail_lt (s : State) : s.fld .evr F.EVR_TAIL_INDEX < evrUnits := s.fld_lt _ _ _

/-- Is there room for `n` units ahead of TAIL (R386)? -/
def State.evrRoom (s : State) (n : Nat) : Prop :=
  (s.fld .evr F.EVR_HEAD_INDEX + evrUnits - s.fld .evr F.EVR_TAIL_INDEX) % evrUnits + n < evrUnits

/-- The registers that dropping old records writes. -/
def evrDropAt : List (Nat × Nat) := [regAt .evr .EVR_TAIL, regAt .evr .EVR_OVERWRITTEN, regAt .evr .EVR_STATUS]

/-- The oldest record is dropped (R386). -/
def State.evrDrop (s : State) : State :=
  ((s.setFld .evr F.EVR_TAIL_INDEX ((s.fld .evr F.EVR_TAIL_INDEX +
    ((memGet 0 s.ink.ring (16 * s.fld .evr F.EVR_TAIL_INDEX + 1)).toNat % 32 + 1)) % evrUnits)).bump .evr
      F.EVR_OVERWRITTEN_COUNT).setBit .evr F.EVR_STATUS_OVERWRITE

/-- With room nothing is dropped. -/
theorem evrMakeRoom_of_room {n fuel : Nat} {s : State} (h : s.evrRoom n) : evrMakeRoom n fuel s = s := by
  cases fuel with
  | zero => rfl
  | succ f => rw [evrMakeRoom]; exact if_pos h

/-- Without room the oldest record is dropped first. -/
theorem evrMakeRoom_of_full {n fuel : Nat} {s : State} (h : ¬s.evrRoom n) :
    evrMakeRoom n (fuel + 1) s = evrMakeRoom n fuel s.evrDrop := by
  rw [evrMakeRoom]; exact if_neg h

/-- Where dropping the oldest record makes room, that record alone is dropped. -/
theorem evrMakeRoom_drop {n fuel : Nat} {s : State} (h : ¬s.evrRoom n) (h' : s.evrDrop.evrRoom n) :
    evrMakeRoom n (fuel + 1) s = s.evrDrop := by
  rw [evrMakeRoom_of_full h, evrMakeRoom_of_room h']

theorem RegsOutside.evrDrop {s t : State} (h : RegsOutside evrDropAt s t) : RegsOutside evrDropAt s t.evrDrop := by
  have hin (r : RegId) (hr : regAt .evr r ∈ evrDropAt) : RegIn evrDropAt .evr r 0 := ⟨_, hr, le_refl _, Nat.lt_succ_self _⟩
  exact ((h.setFld _ _ _ _ (hin _ (by decide))).bump _ _ _ _ (hin _ (by decide))).setBit _ _ _ (hin _ (by decide))

theorem evrMakeRoom_regs (n fuel : Nat) (s : State) : RegsOutside evrDropAt s (evrMakeRoom n fuel s) := by
  induction fuel generalizing s with
  | zero => exact .refl _ _
  | succ f ih =>
    by_cases h : s.evrRoom n
    · rw [evrMakeRoom_of_room h]; exact .refl _ _
    · rw [evrMakeRoom_of_full h]; exact (RegsOutside.refl _ s).evrDrop.trans (ih _)

@[simp] theorem evrMakeRoom_ink (n fuel : Nat) (s : State) : (evrMakeRoom n fuel s).ink = s.ink := by
  induction fuel generalizing s with
  | zero => rfl
  | succ f ih =>
    by_cases h : s.evrRoom n
    · rw [evrMakeRoom_of_room h]
    · rw [evrMakeRoom_of_full h, ih]; rfl

@[simp] theorem evrMakeRoom_head (n fuel : Nat) (s : State) :
    (evrMakeRoom n fuel s).fld .evr F.EVR_HEAD_INDEX = s.fld .evr F.EVR_HEAD_INDEX :=
  (evrMakeRoom_regs n fuel s).fld _ _ _ (by decide)

@[simp] theorem evrMakeRoom_wraps (n fuel : Nat) (s : State) :
    (evrMakeRoom n fuel s).fld .evr F.EVR_WRAPS_COUNT = s.fld .evr F.EVR_WRAPS_COUNT :=
  (evrMakeRoom_regs n fuel s).fld _ _ _ (by decide)

/-- TAIL after the oldest record is dropped. -/
theorem State.evrDrop_tail (s : State) : s.evrDrop.fld .evr F.EVR_TAIL_INDEX = (s.fld .evr F.EVR_TAIL_INDEX +
    (memGet 0 s.ink.ring (16 * s.fld .evr F.EVR_TAIL_INDEX + 1)).toNat % 32 + 1) % evrUnits := by
  unfold State.evrDrop State.setBit State.bump
  rw [State.fld_setFld_other _ _ _ _ _ _ _ _ (by decide), State.fld_setFld_other _ _ _ _ _ _ _ _ (by decide),
    State.fld_setFld_same _ _ _ _ _ (by decide) (by decide), Nat.add_assoc]
  exact Nat.mod_mod _ _

theorem State.evrDrop_head (s : State) : s.evrDrop.fld .evr F.EVR_HEAD_INDEX = s.fld .evr F.EVR_HEAD_INDEX :=
  (RegsOutside.refl _ s).evrDrop.fld _ _ _ (by decide)

/-- The dropped record is counted. -/
theorem State.evrDrop_overwritten (s : State) : s.evrDrop.fld .evr F.EVR_OVERWRITTEN_COUNT =
    min (s.fld .evr F.EVR_OVERWRITTEN_COUNT + 1) (2 ^ 32 - 1) := by
  unfold State.evrDrop State.setBit
  rw [State.fld_setFld_other _ _ _ _ _ _ _ _ (by decide), State.fld_bump_same _ _ _ _ _ (by decide) (by decide),
    State.fld_setFld_other _ _ _ _ _ _ _ _ (by decide)]
  rfl

theorem State.evrDrop_status (s : State) : s.evrDrop.bit .evr F.EVR_STATUS_OVERWRITE = true := by
  unfold State.evrDrop State.setBit State.bit
  rw [State.fld_setFld_same _ _ _ _ _ (by decide) (by decide)]
  rfl

/-! One record. -/

/-- The ring after a record: its first byte is cleared, the rest written, then MARK and parity (R386). -/
def evrRingPut (ring : Mem) (a par : Nat) (body : List Byte) : Mem :=
  memSet 0 (memWrite 0 (memSet 0 ring a 0) (a + 1) body) a (BitVec.ofNat 8 (0b10100110 + par))

theorem evrRingPut_wf {ring : Mem} (h : memWf 0 ring = true) (a par : Nat) (body : List Byte) : memWf 0 (evrRingPut ring a par body) = true :=
  memWf_set _ _ _ _ (memWf_write _ _ _ _ (memWf_set _ _ _ _ h))

/-- A record leaves the bytes outside it. -/
theorem memGet_evrRingPut_other {ring : Mem} (h : memWf 0 ring = true) (a par : Nat) (body : List Byte) (c : Nat)
    (hc : c < a ∨ a + 1 + body.length ≤ c) : memGet 0 (evrRingPut ring a par body) c = memGet 0 ring c := by
  have h1 := memWf_set 0 ring a 0 h
  rw [evrRingPut, memGet_set_other _ _ _ _ _ (memWf_write _ _ _ _ h1) (by omega), memGet_write_other _ _ _ _ _ h1 (by omega),
    memGet_set_other _ _ _ _ _ h (by omega)]

/-- The bytes of a record behind its first. -/
theorem memRead_evrRingPut (ring : Mem) (h : memWf 0 ring = true) (a par : Nat) (body : List Byte) (c n : Nat) (hc : a < c) :
    memRead 0 (evrRingPut ring a par body) c n = memRead 0 (memWrite 0 (memSet 0 ring a 0) (a + 1) body) c n :=
  memRead_congr 0 fun x h1 _ => memGet_set_other _ _ _ _ _ (memWf_write _ _ _ _ (memWf_set _ _ _ _ h)) (by omega)

/-- The header of a record behind MARK: SRC and length, CODE, TIME (Table 17.1). -/
def evrHeader (units src code time : Nat) : List Byte := [BitVec.ofNat 8 (src * 32 + (units - 1))] ++ natLe 2 code ++ natLe 12 time

@[simp] theorem evrHeader_length (units src code time : Nat) : (evrHeader units src code time).length = 15 := by simp [evrHeader]

/-- A record stands whole in the ring at a unit index, with the parity of a wrap count. -/
def RecordAt (ring : Mem) (at_ par n src code time : Nat) (pl : List Nat) : Prop :=
  (memGet 0 ring (16 * at_)).toNat = 0b10100110 + par % 2 ∧
    memRead 0 ring (16 * at_ + 1) 15 = evrHeader n src code time ∧
    memRead 0 ring (16 * at_ + 16) (4 * pl.length) = pl.flatMap (natLe 4)

/-- A record just put stands in the ring. -/
theorem RecordAt.put {ring : Mem} (h : memWf 0 ring = true) (at_ wraps n src code time : Nat) (pl : List Nat) (pad : List Byte) :
    RecordAt (evrRingPut ring (16 * at_) (wraps % 2) (evrHeader n src code time ++ (pl.flatMap (natLe 4) ++ pad))) at_ wraps n src code
      time pl := by
  have h1 := memWf_set 0 ring (16 * at_) 0 h
  refine ⟨?_, ?_, ?_⟩
  · rw [evrRingPut, memGet_set_same _ _ _ _ (memWf_write _ _ _ _ h1), BitVec.toNat_ofNat]; omega
  · rw [memRead_evrRingPut _ h _ _ _ _ _ (by omega)]
    simpa using memRead_write_append_left 0 _ (16 * at_ + 1) (evrHeader n src code time) (pl.flatMap (natLe 4) ++ pad) h1
  · rw [memRead_evrRingPut _ h _ _ _ _ _ (by omega)]
    have e := memRead_write_append_right 0 _ (16 * at_ + 1) (evrHeader n src code time) (pl.flatMap (natLe 4) ++ pad) h1
    rw [List.length_append, memRead_add, evrHeader_length, flatMap_natLe_length] at e
    exact List.append_inj_left e (by rw [memRead_length, flatMap_natLe_length])

/-- A record stands where the ring's bytes under it are kept. -/
theorem RecordAt.congr {ring ring' : Mem} {at_ par n src code time : Nat} {pl : List Nat} (h : RecordAt ring at_ par n src code time pl)
    (he : ∀ c, 16 * at_ ≤ c → c < 16 * at_ + 16 + 4 * pl.length → memGet 0 ring' c = memGet 0 ring c) :
    RecordAt ring' at_ par n src code time pl := by
  obtain ⟨h1, h2, h3⟩ := h
  refine ⟨?_, ?_, ?_⟩
  · rw [he _ (le_refl _) (by omega), h1]
  · rw [memRead_congr 0 fun c _ _ => he c (by omega) (by omega), h2]
  · rw [memRead_congr 0 fun c _ _ => he c (by omega) (by omega), h3]

/-- HEAD advances by whole units; EVR_WRAPS counts where it returns to 0 (R386). -/
def State.evrAdvance (s : State) (units : Nat) : State :=
  let h := (s.fld .evr F.EVR_HEAD_INDEX + units) % evrUnits
  let t := s.setFld .evr F.EVR_HEAD_INDEX h
  if h = 0 then t.setFld .evr F.EVR_WRAPS_COUNT (t.fld .evr F.EVR_WRAPS_COUNT + 1) else t

theorem State.evrAdvance_head (s : State) (units : Nat) :
    (s.evrAdvance units).fld .evr F.EVR_HEAD_INDEX = (s.fld .evr F.EVR_HEAD_INDEX + units) % evrUnits := by
  have hsame : (s.setFld .evr F.EVR_HEAD_INDEX ((s.fld .evr F.EVR_HEAD_INDEX + units) % evrUnits)).fld .evr F.EVR_HEAD_INDEX =
      (s.fld .evr F.EVR_HEAD_INDEX + units) % evrUnits :=
    (State.fld_setFld_same _ _ _ _ _ (by decide) (by decide)).trans (Nat.mod_mod _ _)
  unfold State.evrAdvance
  dsimp only
  split
  · rw [State.fld_setFld_other _ _ _ _ _ _ _ _ (by decide), hsame]
  · exact hsame

theorem State.evrAdvance_wraps (s : State) (units : Nat) :
    (s.evrAdvance units).fld .evr F.EVR_WRAPS_COUNT =
      (s.fld .evr F.EVR_WRAPS_COUNT + if (s.fld .evr F.EVR_HEAD_INDEX + units) % evrUnits = 0 then 1 else 0) % 2 ^ 32 := by
  have hkeep (v : Nat) : (s.setFld .evr F.EVR_HEAD_INDEX v).fld .evr F.EVR_WRAPS_COUNT = s.fld .evr F.EVR_WRAPS_COUNT :=
    State.fld_setFld_other _ _ _ _ _ _ _ _ (by decide)
  unfold State.evrAdvance
  dsimp only
  split
  · rw [State.fld_setFld_same _ _ _ _ _ (by decide) (by decide), hkeep]; rfl
  · rw [hkeep, Nat.add_zero]
    exact (Nat.mod_eq_of_lt (s.fld_lt _ F.EVR_WRAPS_COUNT _)).symm

@[simp] theorem State.evrAdvance_ink (s : State) (units : Nat) : (s.evrAdvance units).ink = s.ink := by
  unfold State.evrAdvance
  dsimp only
  split <;> rfl

theorem State.evrAdvance_regs (s : State) (units : Nat) :
    RegsOutside [regAt .evr .EVR_HEAD, regAt .evr .EVR_WRAPS] s (s.evrAdvance units) := by
  have h := (RegsOutside.refl [regAt .evr .EVR_HEAD, regAt .evr .EVR_WRAPS] s).setFld .evr F.EVR_HEAD_INDEX
    ((s.fld .evr F.EVR_HEAD_INDEX + units) % evrUnits) 0 ⟨_, .head _, le_refl _, Nat.lt_succ_self _⟩
  unfold State.evrAdvance
  dsimp only
  split
  · exact h.setFld _ _ _ _ ⟨_, .tail _ (.head _), le_refl _, Nat.lt_succ_self _⟩
  · exact h

/-- The vault with another ring. -/
def InkSt.withRing (x : InkSt) (m : Mem) : InkSt := { x with ring := m }

@[simp] theorem InkSt.withRing_ring (x : InkSt) (m : Mem) : (x.withRing m).ring = m := rfl
@[simp] theorem InkSt.withRing_withRing (x : InkSt) (m n : Mem) : (x.withRing m).withRing n = x.withRing n := rfl

/-- The ring's bytes replaced. -/
def State.setRing (s : State) (m : Mem) : State := { s with ink := s.ink.withRing m }

@[simp] theorem State.setRing_fld (s : State) (m : Mem) (p : Page) (f : Fld) (k : Nat) : (s.setRing m).fld p f k = s.fld p f k := rfl
@[simp] theorem State.setRing_ink (s : State) (m : Mem) : (s.setRing m).ink = s.ink.withRing m := rfl

section
variable (units src code time : Nat) (payload : List Byte) (s : State)

/-- The ring after a record at HEAD. -/
def State.ringWith : Mem :=
  evrRingPut s.ink.ring (16 * s.fld .evr F.EVR_HEAD_INDEX) (s.fld .evr F.EVR_WRAPS_COUNT % 2)
    (evrHeader units src code time ++ payload)

/-- Making room does not change what the record will be in the ring. -/
theorem ringWith_evrMakeRoom (n fuel : Nat) :
    (evrMakeRoom n fuel s).ringWith units src code time payload = s.ringWith units src code time payload := by
  unfold State.ringWith
  rw [evrMakeRoom_ink, evrMakeRoom_head, evrMakeRoom_wraps]

/-- A record is put in three parts: room is made, the ring takes it, HEAD advances. -/
theorem evrPut_after {u : State} (h : evrMakeRoom units 64 s = u) : evrPut units src code time payload s =
    (u.setRing (u.ringWith units src code time payload)).evrAdvance units := by
  unfold evrPut
  rw [h]
  rfl

theorem evrPut_eq : evrPut units src code time payload s =
    ((evrMakeRoom units 64 s).setRing (s.ringWith units src code time payload)).evrAdvance units := by
  rw [evrPut_after units src code time payload s rfl, ringWith_evrMakeRoom]

@[simp] theorem evrPut_ink :
    (evrPut units src code time payload s).ink = s.ink.withRing (s.ringWith units src code time payload) := by
  rw [evrPut_eq, State.evrAdvance_ink, State.setRing_ink, evrMakeRoom_ink]

@[simp] theorem evrPut_head : (evrPut units src code time payload s).fld .evr F.EVR_HEAD_INDEX =
    (s.fld .evr F.EVR_HEAD_INDEX + units) % evrUnits := by
  rw [evrPut_eq, State.evrAdvance_head, State.setRing_fld, evrMakeRoom_head]

theorem evrPut_wraps : (evrPut units src code time payload s).fld .evr F.EVR_WRAPS_COUNT =
    (s.fld .evr F.EVR_WRAPS_COUNT + if (s.fld .evr F.EVR_HEAD_INDEX + units) % evrUnits = 0 then 1 else 0) % 2 ^ 32 := by
  rw [evrPut_eq, State.evrAdvance_wraps, State.setRing_fld, State.setRing_fld, evrMakeRoom_head, evrMakeRoom_wraps]

/-- Of the other registers a record writes what making room for it writes. -/
theorem evrPut_fld (f : Fld) (h : f.id = .EVR_TAIL ∨ f.id = .EVR_OVERWRITTEN ∨ f.id = .EVR_STATUS) :
    (evrPut units src code time payload s).fld .evr f = (evrMakeRoom units 64 s).fld .evr f := by
  rw [evrPut_eq, (State.evrAdvance_regs _ units).fld, State.setRing_fld]
  obtain h | h | h := h <;> rw [h] <;> decide

end

/-- The ring stays canonical. -/
theorem State.ringWith_wf {s : State} (h : memWf 0 s.ink.ring = true) (units src code time : Nat) (payload : List Byte) :
    memWf 0 (s.ringWith units src code time payload) = true := evrRingPut_wf h ..

/-- A record of whole units leaves the bytes of the other units. -/
theorem State.memGet_ringWith_other {s : State} (h : memWf 0 s.ink.ring = true) (units src code time : Nat) {payload : List Byte}
    (hl : payload.length = 16 * (units - 1)) (hu : 1 ≤ units) (c : Nat)
    (hc : c < 16 * s.fld .evr F.EVR_HEAD_INDEX ∨ 16 * (s.fld .evr F.EVR_HEAD_INDEX + units) ≤ c) :
    memGet 0 (s.ringWith units src code time payload) c = memGet 0 s.ink.ring c :=
  memGet_evrRingPut_other h _ _ _ _ (by rw [List.length_append, evrHeader_length]; omega)

/-! A record of payload words. -/

/-- The whole units of a record. -/
def evrLen (pl : List Nat) : Nat := 1 + (4 * pl.length + 15) / 16

/-- The payload's octets, padded to whole units. -/
def evrBytes (pl : List Nat) : List Byte := pl.flatMap (natLe 4) ++ List.replicate (16 * (evrLen pl - 1) - 4 * pl.length) 0

theorem evrBytes_length (pl : List Nat) : (evrBytes pl).length = 16 * (evrLen pl - 1) := by
  rw [evrBytes, List.length_append, flatMap_natLe_length, List.length_replicate, evrLen]
  omega

/-- The pad record that ends the ring: with it HEAD returns to 0 (R385). -/
def evrPad (r : EvRec) (s : State) : State :=
  evrPut (evrUnits - s.fld .evr F.EVR_HEAD_INDEX) r.src 0xFFFF r.time
    (List.replicate (16 * (evrUnits - s.fld .evr F.EVR_HEAD_INDEX - 1)) 0) s

theorem evrWrite_eq (r : EvRec) (s : State) : evrWrite r s =
    evrPut (evrLen r.payload) r.src r.code r.time (evrBytes r.payload)
      (if s.fld .evr F.EVR_HEAD_INDEX + evrLen r.payload ≤ evrUnits then s else evrPad r s) := by
  unfold evrWrite
  simp only [flatMap_natLe_length]
  rfl

/-- A record that fits before the ring's end is put at HEAD (R385). -/
theorem evrWrite_fits {r : EvRec} {s : State} (h : s.fld .evr F.EVR_HEAD_INDEX + evrLen r.payload ≤ evrUnits) :
    evrWrite r s = evrPut (evrLen r.payload) r.src r.code r.time (evrBytes r.payload) s := by
  rw [evrWrite_eq, if_pos h]

/-- One that does not follows a pad record (R385). -/
theorem evrWrite_padded {r : EvRec} {s : State} (h : evrUnits < s.fld .evr F.EVR_HEAD_INDEX + evrLen r.payload) :
    evrWrite r s = evrPut (evrLen r.payload) r.src r.code r.time (evrBytes r.payload) (evrPad r s) := by
  rw [evrWrite_eq, if_neg (by omega)]

/-- A record just put stands in the ring at HEAD. -/
theorem State.recordAt_ringWith {s : State} (h : memWf 0 s.ink.ring = true) (units src code time : Nat) (pl : List Nat)
    (pad : List Byte) :
    RecordAt (s.ringWith units src code time (pl.flatMap (natLe 4) ++ pad)) (s.fld .evr F.EVR_HEAD_INDEX)
      (s.fld .evr F.EVR_WRAPS_COUNT) units src code time pl := .put h ..

/-- Writing a record changes the vault in its ring alone. -/
theorem evrWrite_ink (r : EvRec) (s : State) : (evrWrite r s).ink = s.ink.withRing (evrWrite r s).ink.ring := by
  by_cases h : s.fld .evr F.EVR_HEAD_INDEX + evrLen r.payload ≤ evrUnits
  · rw [evrWrite_fits h, evrPut_ink, InkSt.withRing_ring]
  · rw [evrWrite_padded (by omega), evrPut_ink, evrPad, evrPut_ink, InkSt.withRing_withRing, InkSt.withRing_ring]

/-! Admission (R390). -/

theorem rlPut_ring (ink : InkSt) (m : Mem) (k : Nat) (e : RlEntry) :
    rlPut (ink.withRing m) k e = (rlPut ink k e).withRing m := by
  unfold rlPut
  split <;> rfl

@[simp] theorem rlPut_ring_eq (ink : InkSt) (k : Nat) (e : RlEntry) : (rlPut ink k e).ring = ink.ring := by
  unfold rlPut
  split <;> rfl

/-- The limit entry of a code, refilled to the present. -/
def State.rlNow (s : State) (code : Nat) : RlEntry := rlRefill (rlFind s.ink code).2 s.vtMs

/-- A limit entry pays for a record. -/
def RlEntry.paid (e : RlEntry) : RlEntry := { e with tokens := e.tokens - 1, suppressed := 0 }

/-- A limit entry counts a record it suppresses. -/
def RlEntry.refused (e : RlEntry) : RlEntry := { e with suppressed := min (e.suppressed + 1) (2 ^ 32 - 1) }

/-- A limit entry stored. -/
def State.rlStore (s : State) (k : Nat) (e : RlEntry) : State := { s with ink := rlPut s.ink k e }

@[simp] theorem State.rlStore_regs (s : State) (k : Nat) (e : RlEntry) : (s.rlStore k e).regs = s.regs := rfl
@[simp] theorem State.rlStore_ink (s : State) (k : Nat) (e : RlEntry) : (s.rlStore k e).ink = rlPut s.ink k e := rfl

/-- The record that tells how many of a code were suppressed (R390). -/
def evrSuppressed (r : EvRec) (n : Nat) : EvRec := ⟨r.src, evCode bkEVR 2 1, r.time, [r.code, n, 0, 0]⟩

/-- A record that is never suppressed is written. -/
theorem evrAdmit_exempt {r : EvRec} (hx : evrExempt r.code = true) (s : State) : evrAdmit r s = evrWrite r s := by
  rw [evrAdmit, if_pos hx]

/-- A record with a token is written and paid for, behind a SUPPRESSED record where some were suppressed. -/
theorem evrAdmit_token {r : EvRec} {s : State} (hx : evrExempt r.code = false) (ht : 0 < (s.rlNow r.code).tokens) :
    evrAdmit r s = (evrWrite r (if 0 < (s.rlNow r.code).suppressed then evrWrite (evrSuppressed r (s.rlNow r.code).suppressed) s
      else s)).rlStore (rlFind s.ink r.code).1 (s.rlNow r.code).paid := by
  unfold evrAdmit
  rw [hx, if_neg Bool.false_ne_true]
  unfold State.rlNow at ht ⊢
  dsimp only
  rw [if_pos ht]
  rfl

/-- A record without a token is counted in its entry and in EVR_SUPPRESSED. -/
theorem evrAdmit_noToken {r : EvRec} {s : State} (hx : evrExempt r.code = false) (ht : (s.rlNow r.code).tokens = 0) :
    evrAdmit r s = ((s.rlStore (rlFind s.ink r.code).1 (s.rlNow r.code).refused).bump .evr F.EVR_SUPPRESSED_COUNT).setBit .evr
      F.EVR_STATUS_SUPPR := by
  unfold evrAdmit
  rw [hx, if_neg Bool.false_ne_true]
  unfold State.rlNow at ht ⊢
  dsimp only
  rw [if_neg (by omega)]
  rfl

end Sys2Proof.Machine
end

section
/-! # What the recorder writes of a record -/

namespace Sys2Proof.Machine
open Sys2Proof

/-! What admitting one record leaves. -/

/-- A record that is admitted leaves everything but the recorder's registers, its ring and its limit entry, which pays (R390). -/
theorem evrAdmit_took {r : EvRec} {s : State} (h : evrExempt r.code = true ∨ 0 < (s.rlNow r.code).tokens) :
    RegsOutside [evrAt] s (evrAdmit r s) ∧ (evrAdmit r s).quiet = s.quiet ∧
      (evrExempt r.code = false → (evrAdmit r s).ink =
        (rlPut s.ink (rlFind s.ink r.code).1 (s.rlNow r.code).paid).withRing (evrAdmit r s).ink.ring) := by
  refine ⟨(RegsOutside.refl _ s).evrAdmit (.head _) r, evrAdmit_quiet r s, fun hx => ?_⟩
  have hu {u : State} {m : Mem} (hu : u.ink = s.ink.withRing m) :
      (evrWrite r u).ink = s.ink.withRing (evrWrite r u).ink.ring :=
    (evrWrite_ink r u).trans (by rw [hu, InkSt.withRing_withRing])
  rw [evrAdmit_token hx (h.resolve_left (by simp [hx])), State.rlStore_ink, rlPut_ring_eq]
  split
  · rw [hu (evrWrite_ink _ _), rlPut_ring, InkSt.withRing_ring]
  · rw [hu (m := s.ink.ring) rfl, rlPut_ring, InkSt.withRing_ring]

/-- A record that is never suppressed, or whose entry has a token and suppressed none, is one write. -/
theorem evrAdmit_once {r : EvRec} {s : State}
    (h : evrExempt r.code = true ∨ (0 < (s.rlNow r.code).tokens ∧ (s.rlNow r.code).suppressed = 0)) :
    (evrAdmit r s).regs = (evrWrite r s).regs ∧ (evrAdmit r s).ink.ring = (evrWrite r s).ink.ring := by
  by_cases hx : evrExempt r.code = true
  · rw [evrAdmit_exempt hx]; exact ⟨rfl, rfl⟩
  · obtain ⟨ht, hs⟩ := h.resolve_left hx
    rw [evrAdmit_token (by simpa using hx) ht, if_neg (by omega), State.rlStore_regs, State.rlStore_ink, rlPut_ring_eq]
    exact ⟨rfl, rfl⟩

/-- One with suppressed records before it is two writes. -/
theorem evrAdmit_twice {r : EvRec} {s : State} (hx : evrExempt r.code = false) (ht : 0 < (s.rlNow r.code).tokens)
    (hs : 0 < (s.rlNow r.code).suppressed) :
    (evrAdmit r s).regs = (evrWrite r (evrWrite (evrSuppressed r (s.rlNow r.code).suppressed) s)).regs ∧
      (evrAdmit r s).ink.ring = (evrWrite r (evrWrite (evrSuppressed r (s.rlNow r.code).suppressed) s)).ink.ring := by
  rw [evrAdmit_token hx ht, if_pos hs, State.rlStore_regs, State.rlStore_ink, rlPut_ring_eq]
  exact ⟨rfl, rfl⟩

theorem evrLen_pos (pl : List Nat) : 1 ≤ evrLen pl := by unfold evrLen; omega

section
variable {r : EvRec} {s : State} (h : s.fld .evr F.EVR_HEAD_INDEX + evrLen r.payload ≤ evrUnits)
include h

/-- A record that fits stands whole at HEAD (R386). -/
theorem recordAt_evrWrite (hw : memWf 0 s.ink.ring = true) :
    RecordAt (evrWrite r s).ink.ring (s.fld .evr F.EVR_HEAD_INDEX) (s.fld .evr F.EVR_WRAPS_COUNT) (evrLen r.payload) r.src r.code
      r.time r.payload := by
  rw [evrWrite_fits h, evrPut_ink]
  exact State.recordAt_ringWith hw ..

/-- Every other ring byte stays. -/
theorem memGet_evrWrite_other (hw : memWf 0 s.ink.ring = true) (c : Nat)
    (hc : c < 16 * s.fld .evr F.EVR_HEAD_INDEX ∨ 16 * (s.fld .evr F.EVR_HEAD_INDEX + evrLen r.payload) ≤ c) :
    memGet 0 (evrWrite r s).ink.ring c = memGet 0 s.ink.ring c := by
  rw [evrWrite_fits h, evrPut_ink]
  exact State.memGet_ringWith_other hw _ _ _ _ (evrBytes_length _) (evrLen_pos _) c hc

theorem evrWrite_wf (hw : memWf 0 s.ink.ring = true) : memWf 0 (evrWrite r s).ink.ring = true := by
  rw [evrWrite_fits h, evrPut_ink]
  exact State.ringWith_wf hw ..

theorem evrWrite_head : (evrWrite r s).fld .evr F.EVR_HEAD_INDEX = (s.fld .evr F.EVR_HEAD_INDEX + evrLen r.payload) % evrUnits := by
  rw [evrWrite_fits h, evrPut_head]

/-- EVR_WRAPS counts where HEAD returns to 0. -/
theorem evrWrite_wraps : (evrWrite r s).fld .evr F.EVR_WRAPS_COUNT = (s.fld .evr F.EVR_WRAPS_COUNT +
    if s.fld .evr F.EVR_HEAD_INDEX + evrLen r.payload = evrUnits then 1 else 0) % 2 ^ 32 := by
  have hpos := evrLen_pos r.payload
  have e : (s.fld .evr F.EVR_HEAD_INDEX + evrLen r.payload) % evrUnits = 0 ↔
      s.fld .evr F.EVR_HEAD_INDEX + evrLen r.payload = evrUnits := by
    unfold evrUnits at h ⊢; omega
  rw [evrWrite_fits h, evrPut_wraps]
  simp only [e]

/-- With room TAIL, EVR_OVERWRITTEN and EVR_STATUS stay. -/
theorem evrWrite_fld_of_room (hroom : s.evrRoom (evrLen r.payload)) (f : Fld)
    (hf : f.id = .EVR_TAIL ∨ f.id = .EVR_OVERWRITTEN ∨ f.id = .EVR_STATUS) : (evrWrite r s).fld .evr f = s.fld .evr f := by
  rw [evrWrite_fits h, evrPut_fld _ _ _ _ _ _ _ hf, evrMakeRoom_of_room hroom]

/-- Where dropping the oldest record makes room, those registers are as that drop leaves them. -/
theorem evrWrite_fld_of_drop (hfull : ¬s.evrRoom (evrLen r.payload)) (hroom : s.evrDrop.evrRoom (evrLen r.payload)) (f : Fld)
    (hf : f.id = .EVR_TAIL ∨ f.id = .EVR_OVERWRITTEN ∨ f.id = .EVR_STATUS) : (evrWrite r s).fld .evr f = s.evrDrop.fld .evr f := by
  rw [evrWrite_fits h, evrPut_fld _ _ _ _ _ _ _ hf, evrMakeRoom_drop hfull hroom]

end

/-! A record behind a pad record. -/

theorem evrPad_head (r : EvRec) (s : State) : (evrPad r s).fld .evr F.EVR_HEAD_INDEX = 0 := by
  have := evrHead_lt s
  rw [evrPad, evrPut_head, show s.fld .evr F.EVR_HEAD_INDEX + (evrUnits - s.fld .evr F.EVR_HEAD_INDEX) = evrUnits by omega, Nat.mod_self]

theorem evrPad_wraps (r : EvRec) (s : State) :
    (evrPad r s).fld .evr F.EVR_WRAPS_COUNT = (s.fld .evr F.EVR_WRAPS_COUNT + 1) % 2 ^ 32 := by
  have := evrHead_lt s
  rw [evrPad, evrPut_wraps, show s.fld .evr F.EVR_HEAD_INDEX + (evrUnits - s.fld .evr F.EVR_HEAD_INDEX) = evrUnits by omega, Nat.mod_self,
    if_pos rfl]

/-- With room the pad record leaves TAIL. -/
theorem evrPad_tail (r : EvRec) {s : State} (hroom : s.evrRoom (evrUnits - s.fld .evr F.EVR_HEAD_INDEX)) :
    (evrPad r s).fld .evr F.EVR_TAIL_INDEX = s.fld .evr F.EVR_TAIL_INDEX := by
  rw [evrPad, evrPut_fld _ _ _ _ _ _ _ (.inl rfl), evrMakeRoom_of_room hroom]

theorem evrPad_wf (r : EvRec) {s : State} (hw : memWf 0 s.ink.ring = true) : memWf 0 (evrPad r s).ink.ring = true := by
  rw [evrPad, evrPut_ink]
  exact State.ringWith_wf hw ..

/-- The pad record stands at HEAD and ends the ring. -/
theorem recordAt_evrPad (r : EvRec) {s : State} (hw : memWf 0 s.ink.ring = true) :
    RecordAt (evrPad r s).ink.ring (s.fld .evr F.EVR_HEAD_INDEX) (s.fld .evr F.EVR_WRAPS_COUNT)
      (evrUnits - s.fld .evr F.EVR_HEAD_INDEX) r.src 0xFFFF r.time [] := by
  rw [evrPad, evrPut_ink]
  exact State.recordAt_ringWith hw _ _ _ _ [] _

end Sys2Proof.Machine
end

section
/-! # The recorder's commands, and what a record's admission leaves -/

namespace Sys2Proof.Machine
open Sys2Proof

/-! What the recorder leaves of the planes and lanes. -/

/-- What the planes and lanes hold. -/
def State.holders (s : State) : PlaneSt × PlaneSt × LaneSt × LaneSt := (s.pa, s.pb, s.l0, s.l1)

theorem evrMakeRoom_holders (n fuel : Nat) (s : State) : (evrMakeRoom n fuel s).holders = s.holders := by
  induction fuel generalizing s with
  | zero => rfl
  | succ f ih =>
    by_cases h : s.evrRoom n
    · rw [evrMakeRoom_of_room h]
    · rw [evrMakeRoom_of_full h, ih]; rfl

theorem State.evrAdvance_holders (s : State) (units : Nat) : (s.evrAdvance units).holders = s.holders := by
  unfold State.evrAdvance
  dsimp only
  split <;> rfl

theorem State.setRing_holders (s : State) (m : Mem) : (s.setRing m).holders = s.holders := rfl
theorem State.rlStore_holders (s : State) (k : Nat) (e : RlEntry) : (s.rlStore k e).holders = s.holders := rfl

theorem evrPut_holders (units src code time : Nat) (payload : List Byte) (s : State) :
    (evrPut units src code time payload s).holders = s.holders := by
  rw [evrPut_eq, State.evrAdvance_holders, State.setRing_holders, evrMakeRoom_holders]

theorem evrWrite_holders (r : EvRec) (s : State) : (evrWrite r s).holders = s.holders := by
  rw [evrWrite_eq, evrPut_holders]
  split
  · rfl
  · exact evrPut_holders ..

theorem evrAdmit_holders (r : EvRec) (s : State) : (evrAdmit r s).holders = s.holders := by
  by_cases hx : evrExempt r.code = true
  · rw [evrAdmit_exempt hx, evrWrite_holders]
  · by_cases ht : 0 < (s.rlNow r.code).tokens
    · rw [evrAdmit_token (by simpa using hx) ht, State.rlStore_holders, evrWrite_holders]
      split
      · exact evrWrite_holders ..
      · rfl
    · rw [evrAdmit_noToken (by simpa using hx) (by omega)]
      rfl

/-- The event queues are read from the planes and lanes alone. -/
theorem State.evq_congr {s t : State} (h : t.holders = s.holders) (d : Dom) : t.evq d = s.evq d := by
  simp only [State.holders, Prod.mk.injEq] at h
  obtain ⟨ha, hb, h0, h1⟩ := h
  cases d with
  | plane p => cases p <;> simp [State.evq, State.plane, ha, hb]
  | lane l => cases l <;> simp [State.evq, State.lane, h0, h1]
  | common => rfl
  | inkwell => rfl

theorem State.evq_setEvq_empty (s : State) (d : Dom) : (s.setEvq d ⟨[], 0⟩).evq d = ⟨[], 0⟩ := by
  cases d with
  | plane p => cases p <;> rfl
  | lane l => cases l <;> rfl
  | common => rfl
  | inkwell => rfl

/-- The TIME of a record depends on nothing that the recorder writes (R387). -/
theorem State.evTime_congr {s t : State} (hr : RegsOutside [evrAt] s t) (hq : t.quiet = s.quiet) (d : Dom) :
    t.evTime d = s.evTime d := by
  have hdom : t.dom = s.dom := show t.quiet.dom = s.quiet.dom by rw [hq]
  have hnow (p : Plane) : (t.plane p).now = (s.plane p).now := by
    cases p
    · exact show t.quiet.pa.now = s.quiet.pa.now by rw [hq]
    · exact show t.quiet.pb.now = s.quiet.pb.now by rw [hq]
  have hlock (p : Plane) : t.planeLocked p = s.planeLocked p := by
    have hst : t.timState p = s.timState p := hr.fld _ _ _ (by cases p <;> decide)
    simp only [State.planeLocked, State.planeUp, State.up, hst, State.domSt_of_dom s t hdom]
  have hvt : t.vtTicks = s.vtTicks := show t.quiet.vtTicks = s.quiet.vtTicks by rw [hq]
  cases d with
  | lane l =>
    cases l
    · exact show toT96 t.quiet.l0.now = toT96 s.quiet.l0.now by rw [hq]
    · exact show toT96 t.quiet.l1.now = toT96 s.quiet.l1.now by rw [hq]
  | plane p => simp only [State.evTime, hnow]
  | common => simp only [State.evTime, hlock, hvt]; rw [show t.pa.now = s.pa.now from hnow .a, show t.pb.now = s.pb.now from hnow .b]
  | inkwell => simp only [State.evTime, hlock, hvt]; rw [show t.pa.now = s.pa.now from hnow .a, show t.pb.now = s.pb.now from hnow .b]

/-- Records admitted one after another touch the recorder alone. -/
theorem foldl_evrAdmit_frame (l : List EvRec) (s : State) :
    RegsOutside [evrAt] s (l.foldl (fun x r => evrAdmit r x) s) ∧ (l.foldl (fun x r => evrAdmit r x) s).quiet = s.quiet ∧
      (l.foldl (fun x r => evrAdmit r x) s).holders = s.holders := by
  induction l generalizing s with
  | nil => exact ⟨.refl _ _, rfl, rfl⟩
  | cons r l ih =>
    obtain ⟨h1, h2, h3⟩ := ih (evrAdmit r s)
    exact ⟨((RegsOutside.refl _ s).evrAdmit (.head _) r).trans h1, h2.trans (evrAdmit_quiet r s), h3.trans (evrAdmit_holders r s)⟩

/-! The two commands. -/

theorem exec_eventRecordWrite_ill {src code time : Nat} {payload : List Nat} {s : State}
    (h : s.evrReady = false ∨ 10 ^ 9 ≤ time / 2 ^ 16 % 2 ^ 32) : exec (.eventRecordWrite src code time payload) s = .next s := by
  refine if_pos ?_
  obtain h | h := h
  · simp [h]
  · have : 1000000000 ≤ bitsOf (time % 2 ^ 96) 47 16 := by unfold bitsOf; omega
    rw [ofT96, if_pos this]
    exact Bool.or_true _

/-- A well-formed record reaches the recorder as it is. -/
theorem exec_eventRecordWrite {src code time : Nat} {payload : List Nat} {s : State} (hr : s.evrReady = true) (hs : src < 8)
    (hc : code < 65536) (ht : time < 2 ^ 96) (hm : time / 2 ^ 16 % 2 ^ 32 < 10 ^ 9) (hl : payload.length ≤ 124) :
    exec (.eventRecordWrite src code time payload) s = .next (evrAdmit ⟨src, code, time, payload⟩ s) := by
  have hnone : (ofT96 (time % 2 ^ 96)).isNone = false := by
    have : ¬1000000000 ≤ bitsOf (time % 2 ^ 96) 47 16 := by unfold bitsOf; omega
    rw [ofT96, if_neg this]
    rfl
  refine (if_neg (by rw [hr, hnone]; decide)).trans ?_
  rw [Nat.mod_eq_of_lt hs, Nat.mod_eq_of_lt hc, Nat.mod_eq_of_lt ht, List.take_of_length_le hl]

/-- The state after a domain's queue is emptied and its records are admitted in order (R30). -/
def State.drained (s : State) (d : Dom) : State := (s.evq d).recs.foldl (fun x r => evrAdmit r x) (s.setEvq d ⟨[], 0⟩)

/-- The record of how many a domain's queue lost (R30). -/
def State.lostRec (s : State) (d : Dom) : EvRec :=
  ⟨domSrc d, evCode bkCFG 2 1, s.evTime d, [domSrc d, (s.evq d).lost % 2 ^ 32, 0, 0]⟩

theorem State.drained_frame (s : State) (d : Dom) :
    RegsOutside [evrAt] s (s.drained d) ∧ (s.drained d).quiet = s.quiet ∧ (s.drained d).evq d = ⟨[], 0⟩ := by
  obtain ⟨h1, h2, h3⟩ := foldl_evrAdmit_frame (s.evq d).recs (s.setEvq d ⟨[], 0⟩)
  exact ⟨(RegsOutside.of_eq (setEvq_regs ..)).trans h1, h2.trans (setEvq_quiet ..),
    (State.evq_congr h3 d).trans (s.evq_setEvq_empty d)⟩

theorem exec_eventQueueDrain {d : Dom} {s : State} (hr : s.evrReady = true) :
    exec (.eventQueueDrain d) s = .next (if (s.evq d).lost = 0 then s.drained d else evrAdmit (s.lostRec d) (s.drained d)) := by
  obtain ⟨h1, h2, -⟩ := s.drained_frame d
  have e : exec (.eventQueueDrain d) s = if (s.evq d).lost = 0 then ok (s.drained d) else
      ok (evrAdmit ⟨domSrc d, evCode bkCFG 2 1, (s.drained d).evTime d, [domSrc d, (s.evq d).lost % 2 ^ 32, 0, 0]⟩ (s.drained d)) :=
    if_neg (by simp [hr])
  rw [e, State.evTime_congr h1 h2]
  split <;> rfl

/-! The three ways a record is admitted with a token (R385, R390). -/

/-- A record that does not fit before the ring's end is one that does, behind the pad record. -/
theorem evrWrite_behind_pad {r : EvRec} {s : State} (h : evrUnits < s.fld .evr F.EVR_HEAD_INDEX + evrLen r.payload)
    (hl : evrLen r.payload ≤ evrUnits) : evrWrite r s = evrWrite r (evrPad r s) := by
  rw [evrWrite_padded h, evrWrite_fits (by rw [evrPad_head]; omega)]

/-- Room for two records one after the other. -/
theorem evrRoom_after {s t : State} {n m : Nat} (h : s.evrRoom (n + m))
    (hh : t.fld .evr F.EVR_HEAD_INDEX = s.fld .evr F.EVR_HEAD_INDEX + n)
    (ht : t.fld .evr F.EVR_TAIL_INDEX = s.fld .evr F.EVR_TAIL_INDEX) : t.evrRoom m := by
  have := evrHead_lt s
  have := evrTail_lt s
  unfold State.evrRoom at h ⊢
  rw [hh, ht]
  unfold evrUnits at *
  omega

/-- A record's parity is that of its wrap count. -/
theorem RecordAt.mod {ring : Mem} {at_ w n src code time : Nat} {pl : List Nat}
    (h : RecordAt ring at_ (w % 2 ^ 32) n src code time pl) : RecordAt ring at_ w n src code time pl := by
  obtain ⟨h1, h2⟩ := h
  exact ⟨by omega, h2⟩

section
variable {r : EvRec} {s : State} (hw : memWf 0 s.ink.ring = true)
include hw

/-- A record behind a pad record: both stand, and HEAD follows the second (R385). -/
theorem evrWrite_pad_effect (hl : r.payload.length ≤ 124) (h : evrUnits < s.fld .evr F.EVR_HEAD_INDEX + evrLen r.payload)
    (hr1 : s.evrRoom (evrUnits - s.fld .evr F.EVR_HEAD_INDEX))
    (hr2 : (evrUnits - s.fld .evr F.EVR_TAIL_INDEX) % evrUnits + evrLen r.payload < evrUnits) :
    RecordAt (evrWrite r s).ink.ring (s.fld .evr F.EVR_HEAD_INDEX) (s.fld .evr F.EVR_WRAPS_COUNT)
        (evrUnits - s.fld .evr F.EVR_HEAD_INDEX) r.src 0xFFFF r.time [] ∧
      RecordAt (evrWrite r s).ink.ring 0 (s.fld .evr F.EVR_WRAPS_COUNT + 1) (evrLen r.payload) r.src r.code r.time r.payload ∧
      (evrWrite r s).fld .evr F.EVR_HEAD_INDEX = evrLen r.payload ∧
      (evrWrite r s).fld .evr F.EVR_TAIL_INDEX = s.fld .evr F.EVR_TAIL_INDEX ∧
      (evrWrite r s).fld .evr F.EVR_WRAPS_COUNT = (s.fld .evr F.EVR_WRAPS_COUNT + 1) % 2 ^ 32 := by
  have hlen : evrLen r.payload ≤ 32 := by unfold evrLen; omega
  have hU : evrUnits = 262144 := rfl
  have h0 := evrPad_head r s
  have hfit : (evrPad r s).fld .evr F.EVR_HEAD_INDEX + evrLen r.payload ≤ evrUnits := by omega
  have hroom : (evrPad r s).evrRoom (evrLen r.payload) := by
    unfold State.evrRoom
    rwa [h0, evrPad_tail r hr1, Nat.zero_add]
  rw [evrWrite_behind_pad h (by omega)]
  refine ⟨?_, ?_, ?_, ?_, ?_⟩
  · refine (recordAt_evrPad r hw).congr fun c h1 _ => memGet_evrWrite_other hfit (evrPad_wf r hw) c (.inr ?_)
    omega
  · have := recordAt_evrWrite hfit (evrPad_wf r hw)
    rw [h0, evrPad_wraps] at this
    exact this.mod
  · rw [evrWrite_head hfit, h0, Nat.zero_add, Nat.mod_eq_of_lt (by omega)]
  · rw [evrWrite_fld_of_room hfit hroom _ (.inl rfl), evrPad_tail r hr1]
  · rw [evrWrite_wraps hfit, evrPad_wraps, h0, if_neg (by omega), Nat.add_zero, Nat.mod_mod]

/-- A SUPPRESSED record and the record behind it: both stand, and HEAD follows the second (R390). -/
theorem evrWrite_suppressed_effect (n : Nat) (h : s.fld .evr F.EVR_HEAD_INDEX + 2 + evrLen r.payload ≤ evrUnits)
    (hroom : s.evrRoom (2 + evrLen r.payload)) :
    RecordAt (evrWrite r (evrWrite (evrSuppressed r n) s)).ink.ring (s.fld .evr F.EVR_HEAD_INDEX) (s.fld .evr F.EVR_WRAPS_COUNT) 2
        r.src (evCode bkEVR 2 1) r.time [r.code, n, 0, 0] ∧
      RecordAt (evrWrite r (evrWrite (evrSuppressed r n) s)).ink.ring (s.fld .evr F.EVR_HEAD_INDEX + 2)
        (s.fld .evr F.EVR_WRAPS_COUNT) (evrLen r.payload) r.src r.code r.time r.payload ∧
      (evrWrite r (evrWrite (evrSuppressed r n) s)).fld .evr F.EVR_HEAD_INDEX =
        (s.fld .evr F.EVR_HEAD_INDEX + 2 + evrLen r.payload) % evrUnits ∧
      (evrWrite r (evrWrite (evrSuppressed r n) s)).fld .evr F.EVR_TAIL_INDEX = s.fld .evr F.EVR_TAIL_INDEX := by
  have hpos := evrLen_pos r.payload
  have h2 : evrLen (evrSuppressed r n).payload = 2 := by simp [evrLen, evrSuppressed]
  have hlt : s.fld .evr F.EVR_HEAD_INDEX + 2 < evrUnits := by omega
  have hfit1 : s.fld .evr F.EVR_HEAD_INDEX + evrLen (evrSuppressed r n).payload ≤ evrUnits := by omega
  have hw1 := evrWrite_wf hfit1 hw
  have hh1 : (evrWrite (evrSuppressed r n) s).fld .evr F.EVR_HEAD_INDEX = s.fld .evr F.EVR_HEAD_INDEX + 2 := by
    rw [evrWrite_head hfit1, h2, Nat.mod_eq_of_lt hlt]
  have hwr1 : (evrWrite (evrSuppressed r n) s).fld .evr F.EVR_WRAPS_COUNT = s.fld .evr F.EVR_WRAPS_COUNT := by
    rw [evrWrite_wraps hfit1, h2, if_neg (by omega), Nat.add_zero]
    exact Nat.mod_eq_of_lt (s.fld_lt _ F.EVR_WRAPS_COUNT _)
  have hroom1 : s.evrRoom 2 := by unfold State.evrRoom at hroom ⊢; omega
  have ht1 : (evrWrite (evrSuppressed r n) s).fld .evr F.EVR_TAIL_INDEX = s.fld .evr F.EVR_TAIL_INDEX :=
    evrWrite_fld_of_room hfit1 (by rwa [h2]) _ (.inl rfl)
  have hroom2 := evrRoom_after hroom hh1 ht1
  have hfit2 : (evrWrite (evrSuppressed r n) s).fld .evr F.EVR_HEAD_INDEX + evrLen r.payload ≤ evrUnits := by omega
  refine ⟨?_, ?_, ?_, ?_⟩
  · have first := recordAt_evrWrite hfit1 hw
    rw [h2] at first
    refine first.congr fun c _ hc => memGet_evrWrite_other hfit2 hw1 c (.inl ?_)
    have : (evrSuppressed r n).payload.length = 4 := rfl
    omega
  · have := recordAt_evrWrite hfit2 hw1
    rwa [hh1, hwr1] at this
  · rw [evrWrite_head hfit2, hh1]
  · rw [evrWrite_fld_of_room hfit2 hroom2 _ (.inl rfl), ht1]

end

/-- A record without a token leaves the ring, counts in its entry and in EVR_SUPPRESSED, and sets SUPPR (R390). -/
theorem evrAdmit_noToken_effect {r : EvRec} {s : State} (hx : evrExempt r.code = false) (ht : (s.rlNow r.code).tokens = 0) :
    (evrAdmit r s).ink = rlPut s.ink (rlFind s.ink r.code).1 (s.rlNow r.code).refused ∧
      (evrAdmit r s).fld .evr F.EVR_SUPPRESSED_COUNT = min (s.fld .evr F.EVR_SUPPRESSED_COUNT + 1) (2 ^ 32 - 1) ∧
      (evrAdmit r s).fld .evr F.EVR_STATUS_SUPPR = 1 ∧
      RegsOutside [regAt .evr .EVR_SUPPRESSED, regAt .evr .EVR_STATUS] s (evrAdmit r s) := by
  rw [evrAdmit_noToken hx ht]
  refine ⟨rfl, ?_, ?_, ?_⟩
  · rw [State.setBit, State.fld_setFld_other _ _ _ _ _ _ _ _ (by decide), State.fld_bump_same _ _ _ _ _ (by decide) (by decide)]
    rfl
  · rw [State.setBit, State.fld_setFld_same _ _ _ _ _ (by decide) (by decide)]
    rfl
  · refine RegsOutside.setBit (RegsOutside.bump ((RegsOutside.refl _ s).same (State.rlStore_regs ..)) _ _ _ _ ?_) _ _ _ ?_
    · exact ⟨_, .head _, le_refl _, Nat.lt_succ_self _⟩
    · exact ⟨_, .tail _ (.head _), le_refl _, Nat.lt_succ_self _⟩

end Sys2Proof.Machine
end

section
/-! # O46: how records are written, suppressed and drained -/

namespace Sys2Proof.Machine
open Sys2Proof

section
variable {r : EvRec} {s : State} (hw : memWf 0 s.ink.ring = true)
include hw

/-- A record that fits before the ring's end, admitted without a SUPPRESSED record before it. -/
theorem evrAdmit_once_effect (hfit : s.fld .evr F.EVR_HEAD_INDEX + evrLen r.payload ≤ evrUnits)
    (h : evrExempt r.code = true ∨ (0 < (s.rlNow r.code).tokens ∧ (s.rlNow r.code).suppressed = 0)) :
    RecordAt (evrAdmit r s).ink.ring (s.fld .evr F.EVR_HEAD_INDEX) (s.fld .evr F.EVR_WRAPS_COUNT) (evrLen r.payload) r.src r.code
        r.time r.payload ∧
      (∀ a, a < 16 * s.fld .evr F.EVR_HEAD_INDEX ∨ 16 * (s.fld .evr F.EVR_HEAD_INDEX + evrLen r.payload) ≤ a →
        memGet 0 (evrAdmit r s).ink.ring a = memGet 0 s.ink.ring a) ∧
      (evrAdmit r s).fld .evr F.EVR_HEAD_INDEX = (s.fld .evr F.EVR_HEAD_INDEX + evrLen r.payload) % evrUnits ∧
      (evrAdmit r s).fld .evr F.EVR_WRAPS_COUNT = (s.fld .evr F.EVR_WRAPS_COUNT +
        if s.fld .evr F.EVR_HEAD_INDEX + evrLen r.payload = evrUnits then 1 else 0) % 2 ^ 32 ∧
      (∀ f : Fld, f.id = .EVR_TAIL ∨ f.id = .EVR_OVERWRITTEN ∨ f.id = .EVR_STATUS →
        (s.evrRoom (evrLen r.payload) → (evrAdmit r s).fld .evr f = s.fld .evr f) ∧
        (¬s.evrRoom (evrLen r.payload) → s.evrDrop.evrRoom (evrLen r.payload) →
          (evrAdmit r s).fld .evr f = s.evrDrop.fld .evr f)) := by
  obtain ⟨hregs, hring⟩ := evrAdmit_once h
  have hfld (f : Fld) : (evrAdmit r s).fld .evr f = (evrWrite r s).fld .evr f := State.fld_congr hregs ..
  simp only [hfld, hring]
  exact ⟨recordAt_evrWrite hfit hw, memGet_evrWrite_other hfit hw, evrWrite_head hfit, evrWrite_wraps hfit, fun f hf =>
    ⟨fun hroom => evrWrite_fld_of_room hfit hroom f hf, fun hfull hroom => evrWrite_fld_of_drop hfit hfull hroom f hf⟩⟩

end

/-- Once the oldest record is dropped, the room is counted from the record behind it. -/
theorem State.evrDrop_room (s : State) (n : Nat) : s.evrDrop.evrRoom n ↔
    (s.fld .evr F.EVR_HEAD_INDEX + evrUnits - (s.fld .evr F.EVR_TAIL_INDEX +
      (memGet 0 s.ink.ring (16 * s.fld .evr F.EVR_TAIL_INDEX + 1)).toNat % 32 + 1) % evrUnits) % evrUnits + n < evrUnits := by
  rw [State.evrRoom, State.evrDrop_head, State.evrDrop_tail]

/-- Draining leaves the domain's queue empty, with or without a record of what it lost. -/
theorem exec_eventQueueDrain_effect {d : Dom} {s : State} (hr : s.evrReady = true) :
    Answers (exec (.eventQueueDrain d) s) fun t => t.evq d = ⟨[], 0⟩ ∧ RegsOutside [evrAt] s t ∧ t.quiet = s.quiet ∧
      ((s.evq d).lost = 0 → t = s.drained d) ∧ ((s.evq d).lost ≠ 0 → t = evrAdmit (s.lostRec d) (s.drained d)) := by
  obtain ⟨hregs, hquiet, hq⟩ := s.drained_frame d
  refine ⟨_, exec_eventQueueDrain hr, ?_⟩
  by_cases hlost : (s.evq d).lost = 0
  · rw [if_pos hlost]
    exact ⟨hq, hregs, hquiet, fun _ => rfl, fun h => absurd hlost h⟩
  · rw [if_neg hlost]
    exact ⟨(State.evq_congr (evrAdmit_holders ..) d).trans hq, hregs.evrAdmit (.head _) _, (evrAdmit_quiet ..).trans hquiet,
      fun h => absurd h hlost, fun _ => rfl⟩

/-- Settles O46: a record is admitted by one write, behind a pad record, or behind a SUPPRESSED record, and each of these is a
composition of records put at HEAD. -/
theorem eventRecording : Obligations.EventRecording := by
  unfold Obligations.EventRecording
  intro src code time payload d s
  refine ⟨fun h => ⟨exec_eventRecordWrite_ill (.inl h), if_pos (by simp [h])⟩, fun h => exec_eventRecordWrite_ill (.inr h), ?_⟩
  intro hr hw hs hc ht hm hl
  have answers := exec_eventRecordWrite hr hs hc ht hm hl
  have took {r : EvRec} := evrAdmit_took (r := r) (s := s)
  refine ⟨fun hlim => ⟨fun hfit => ?_, fun hlong hroom1 hroom2 => ?_⟩, fun hx htok hsup hfit hroom => ?_, fun hx htok => ?_, ?_⟩
  · obtain ⟨hrec, hother, hhead, hwraps, hfld⟩ := evrAdmit_once_effect (r := ⟨src, code, time, payload⟩) hw hfit hlim
    refine ⟨_, answers, hrec, hother, hhead, hwraps, fun hroom => ?_, fun hfull hroom => ?_, took (hlim.imp_right And.left)⟩
    · exact ⟨(hfld _ (.inl rfl)).1 hroom, (hfld _ (.inr (.inl rfl))).1 hroom⟩
    · have hdrop := (s.evrDrop_room _).2 hroom
      have status := (hfld F.EVR_STATUS_OVERWRITE (.inr (.inr rfl))).2 hfull hdrop
      refine ⟨((hfld _ (.inl rfl)).2 hfull hdrop).trans s.evrDrop_tail, ?_,
        ((hfld _ (.inr (.inl rfl))).2 hfull hdrop).trans s.evrDrop_overwritten⟩
      rw [State.bit, status]
      exact s.evrDrop_status
  · obtain ⟨hregs, hring⟩ := evrAdmit_once (r := ⟨src, code, time, payload⟩) hlim
    obtain ⟨hpad, hrec, hhead, htail, hwraps⟩ := evrWrite_pad_effect (r := ⟨src, code, time, payload⟩) hw hl hlong hroom1 hroom2
    rw [← hring] at hpad hrec
    exact ⟨_, answers, hpad, hrec, (State.fld_congr hregs ..).trans hhead, (State.fld_congr hregs ..).trans htail,
      (State.fld_congr hregs ..).trans hwraps, took (hlim.imp_right And.left)⟩
  · obtain ⟨hregs, hring⟩ := evrAdmit_twice (r := ⟨src, code, time, payload⟩) hx htok hsup
    obtain ⟨hsupp, hrec, hhead, htail⟩ := evrWrite_suppressed_effect (r := ⟨src, code, time, payload⟩) hw _ hfit hroom
    rw [← hring] at hsupp hrec
    exact ⟨_, answers, hsupp, hrec, (State.fld_congr hregs ..).trans hhead, (State.fld_congr hregs ..).trans htail,
      took (.inr htok)⟩
  · obtain ⟨hink, hcount, hbit, hregs⟩ := evrAdmit_noToken_effect (r := ⟨src, code, time, payload⟩) hx htok
    have hring := (congrArg InkSt.ring hink).trans (rlPut_ring_eq ..)
    refine ⟨_, answers, hring, hink.trans ?_, hcount, hbit, hregs, evrAdmit_quiet _ _⟩
    exact rlPut_ring s.ink s.ink.ring _ _
  · exact exec_eventQueueDrain_effect hr

end Sys2Proof.Machine
end

section
/-! # Lane memory: what a write leaves, and the fields of a record in it -/

namespace Sys2Proof.Machine
open Sys2Proof

/-- What an unlisted byte of a lane's memory reads as. -/
def bgAt (bg : Option Nat) (a : Nat) : Byte :=
  match bg with
  | none => 0
  | some base => bgByte base a

@[simp] theorem bgFlip_nil (bg : Option Nat) (a : Nat) : bgFlip bg a [] = [] := by cases bg <;> rfl

theorem bgFlip_cons (bg : Option Nat) (a : Nat) (x : Byte) (t : List Byte) :
    bgFlip bg a (x :: t) = (x ^^^ bgAt bg a) :: bgFlip bg (a + 1) t := by
  cases bg with
  | none => simp [bgFlip, bgAt]
  | some base =>
    simp only [bgFlip, bgAt, List.length_cons, List.range_succ_eq_map, List.zip_cons_cons, List.map_cons, Nat.add_zero,
      List.zip_map_left, List.map_map]
    congr 2
    funext e
    simp [Nat.add_assoc, Nat.add_comm 1]

@[simp] theorem bgFlip_length (bg : Option Nat) (a : Nat) (b : List Byte) : (bgFlip bg a b).length = b.length := by
  cases bg <;> simp [bgFlip]

theorem bgFlip_append (bg : Option Nat) (a : Nat) (b c : List Byte) :
    bgFlip bg a (b ++ c) = bgFlip bg a b ++ bgFlip bg (a + b.length) c := by
  induction b generalizing a with
  | nil => simp
  | cons x t ih =>
    simp only [List.cons_append, bgFlip_cons, ih, List.length_cons]
    rw [Nat.add_assoc, Nat.add_comm 1]

/-- Flipping twice gives the bytes back. -/
@[simp] theorem bgFlip_bgFlip (bg : Option Nat) (a : Nat) (b : List Byte) : bgFlip bg a (bgFlip bg a b) = b := by
  induction b generalizing a with
  | nil => simp
  | cons x t ih => rw [bgFlip_cons, bgFlip_cons, ih, BitVec.xor_assoc, BitVec.xor_self, BitVec.xor_zero]

/-- A lane's memory as it is kept, and where its point area begins. -/
def State.laneMem (s : State) : Lane → Mem
  | .l0 => s.mem0
  | .l1 => s.mem1

def State.laneBg (s : State) : Lane → Option Nat
  | .l0 => s.bg0
  | .l1 => s.bg1

theorem State.mem_eq (s : State) (l : Lane) (a n : Nat) :
    s.mem l a n = bgFlip (s.laneBg l) a (memRead 0 (s.laneMem l) a n) := by cases l <;> rfl

theorem MemsWf.lane {s : State} (h : MemsWf s) (l : Lane) : memWf 0 (s.laneMem l) = true := by
  obtain ⟨h0, h1, -⟩ := h
  cases l <;> assumption

/-- Every lane's memory reads the same in two states. -/
def SameMem (s t : State) : Prop := ∀ l, t.laneMem l = s.laneMem l ∧ t.laneBg l = s.laneBg l

theorem SameMem.mem {s t : State} (h : SameMem s t) (l : Lane) (a n : Nat) : t.mem l a n = s.mem l a n := by
  rw [State.mem_eq, State.mem_eq, (h l).1, (h l).2]

theorem SameMem.recF {s t : State} (h : SameMem s t) (l : Lane) (a : Nat) (f : EFld) : t.recF l a f = s.recF l a f := by
  rw [State.recF, State.recF, State.memN, State.memN, h.mem]

theorem SameMem.snapList {s t : State} (h : SameMem s t) (l : Lane) (a : Nat) : t.snapList l a = s.snapList l a := by
  simp only [State.snapList, h.recF, State.memN, h.mem]

@[simp] theorem State.mem_length (s : State) (l : Lane) (a n : Nat) : (s.mem l a n).length = n := by
  rw [State.mem_eq, bgFlip_length, memRead_length]

theorem State.mem_add (s : State) (l : Lane) (a m n : Nat) : s.mem l a (m + n) = s.mem l a m ++ s.mem l (a + m) n := by
  simp only [State.mem_eq, memRead_add, bgFlip_append, memRead_length]

@[simp] theorem State.laneBg_memW (s : State) (l k : Lane) (a : Nat) (b : List Byte) : (s.memW l a b).laneBg k = s.laneBg k := by
  cases l <;> cases k <;> rfl

theorem State.laneMem_memW (s : State) (l : Lane) (a : Nat) (b : List Byte) :
    (s.memW l a b).laneMem l = memWrite 0 (s.laneMem l) a (bgFlip (s.laneBg l) a b) := by cases l <;> rfl

theorem State.laneMem_memW_other (s : State) {l k : Lane} (h : k ≠ l) (a : Nat) (b : List Byte) :
    (s.memW l a b).laneMem k = s.laneMem k :=
  match l, k, h with
  | .l0, .l1, _ => rfl
  | .l1, .l0, _ => rfl
  | .l0, .l0, h => absurd rfl h
  | .l1, .l1, h => absurd rfl h

@[simp] theorem State.regs_memW (s : State) (l : Lane) (a : Nat) (b : List Byte) : (s.memW l a b).regs = s.regs := by cases l <;> rfl

@[simp] theorem State.lane_memW (s : State) (l k : Lane) (a : Nat) (b : List Byte) : (s.memW l a b).lane k = s.lane k := by
  cases l <;> rfl

section
variable {s : State} {l : Lane} (h : memWf 0 (s.laneMem l) = true) (a : Nat) (b : List Byte)
include h

theorem State.memWf_memW : memWf 0 ((s.memW l a b).laneMem l) = true := by
  rw [State.laneMem_memW]
  exact memWf_write _ _ _ _ h

/-- Bytes just written are read back. -/
theorem State.mem_memW_same : (s.memW l a b).mem l a b.length = b := by
  rw [State.mem_eq, State.laneMem_memW, State.laneBg_memW]
  conv_lhs => rw [← bgFlip_length (s.laneBg l) a b, memRead_write _ _ _ _ h]
  exact bgFlip_bgFlip ..

/-- Bytes beside those written read as before. -/
theorem State.mem_memW_other (k : Lane) (c n : Nat) (hc : k ≠ l ∨ c + n ≤ a ∨ a + b.length ≤ c) :
    (s.memW l a b).mem k c n = s.mem k c n := by
  rw [State.mem_eq, State.mem_eq, State.laneBg_memW]
  by_cases hk : k = l
  · subst hk
    rw [State.laneMem_memW, memRead_write_other _ _ _ _ _ _ h]
    simpa using hc
  · rw [State.laneMem_memW_other _ hk]

end

theorem State.bit_congr {s t : State} {p : Page} {f : Fld} {k : Nat} (h : t.fld p f k = s.fld p f k) : t.bit p f k = s.bit p f k := by
  rw [State.bit, State.bit, h]

/-- With the dirty log off a logged write is a write (R359). -/
theorem State.memWLog_of_off {s : State} {l : Lane} (h : s.bit (.ins l) F.INS_DIRTY_CTL_EN = false) (init a : Nat) (b : List Byte) :
    s.memWLog l init a b = s.memW l a b := by
  have : (s.memW l a b).bit (.ins l) F.INS_DIRTY_CTL_EN = false :=
    (State.bit_congr (State.fld_congr (State.regs_memW ..) ..)).trans h
  rw [State.memWLog, State.dirty, if_pos (by simp [this])]

/-! The fields of a record. -/

theorem natLe_split (w k v : Nat) (h : k ≤ w) : natLe w v = natLe k v ++ natLe (w - k) (v / 256 ^ k) := by
  induction k generalizing w v with
  | zero => simp [natLe]
  | succ k ih =>
    obtain ⟨w, rfl⟩ : ∃ w', w = w' + 1 := ⟨w - 1, by omega⟩
    rw [natLe, ih w (v / 256) (by omega), natLe, List.cons_append, Nat.add_sub_add_right, Nat.div_div_eq_div_mul, Nat.pow_succ,
      Nat.mul_comm 256]

theorem leNat_natLe (n v : Nat) : leNat (natLe n v) = v % 256 ^ n := by
  induction n generalizing v with
  | zero => simp [natLe, leNat, Nat.mod_one]
  | succ n ih =>
    rw [natLe, leNat, ih, BitVec.toNat_ofNat, Nat.pow_succ' (m := 256), Nat.mod_mul (a := 256)]

/-- A part of the bytes at an address. -/
theorem State.mem_part {s : State} {l : Lane} {a n : Nat} {pre mid post : List Byte} (h : s.mem l a n = pre ++ (mid ++ post)) :
    s.mem l (a + pre.length) mid.length = mid := by
  have hn : n = pre.length + (mid.length + post.length) := by
    have := congrArg List.length h
    simpa using this
  rw [hn, State.mem_add, State.mem_add] at h
  exact (List.append_inj (List.append_inj h (by simp)).2 (by simp)).1

/-- A field of a little-endian number of a record. -/
theorem State.recF_of_mem {s : State} {l : Lane} {a n w v : Nat} {pre post : List Byte} (h : s.mem l a n = pre ++ (natLe w v ++ post))
    (f : EFld) (ho : f.off = pre.length) (hw : f.hi / 8 + 1 ≤ w) : s.recF l a f = bitsOf v f.hi f.lo := by
  rw [natLe_split w (f.hi / 8 + 1) v hw, List.append_assoc] at h
  have hm := State.mem_part h
  rw [natLe_length] at hm
  rw [State.recF, State.memN, ho, hm, leNat_natLe, show (256 : Nat) = 2 ^ 8 by rfl, ← Nat.pow_mul, bitsOf_mod_two_pow]
  omega

end Sys2Proof.Machine
end

section
/-! # What the operations of the signal map leave -/

namespace Sys2Proof.Machine
open Sys2Proof

/-- Wider ranges say less. -/
theorem RegsOutside.cover {rs qs : List (Nat × Nat)} {s t : State} (h : RegsOutside rs s t)
    (hc : ∀ e ∈ rs, ∃ f ∈ qs, f.1 ≤ e.1 ∧ e.1 + e.2 ≤ f.1 + f.2) : RegsOutside qs s t := by
  refine fun a ha => h a fun e he => ?_
  obtain ⟨f, hf, h1, h2⟩ := hc e he
  have := ha f hf
  omega

/-- A step of a lane's map that stores to some registers, to what the lane holds, and to the event recorder. -/
structure MapStep (l : Lane) (rs : List (Nat × Nat)) (s t : State) : Prop where
  regs : RegsOutside rs s t
  rest : t.quiet.besideLane l = s.quiet.besideLane l

namespace MapStep
variable {l : Lane} {rs qs : List (Nat × Nat)} {s t u : State}

theorem refl (l : Lane) (rs : List (Nat × Nat)) (s : State) : MapStep l rs s s := ⟨.refl _ _, rfl⟩

theorem trans (h : MapStep l rs s t) (g : MapStep l rs t u) : MapStep l rs s u := ⟨h.regs.trans g.regs, g.rest.trans h.rest⟩

theorem cover (h : MapStep l rs s t) (hc : ∀ e ∈ rs, ∃ f ∈ qs, f.1 ≤ e.1 ∧ e.1 + e.2 ≤ f.1 + f.2) : MapStep l qs s t :=
  ⟨h.regs.cover hc, h.rest⟩

/-- What a lane holds is not looked at. -/
theorem setLane (h : MapStep l rs s t) (x : LaneSt) : MapStep l rs s (t.setLane l x) :=
  ⟨h.regs.same (by cases l <;> rfl), Eq.trans (by cases l <;> rfl) h.rest⟩

theorem setMap (h : MapStep l rs s t) (m : MapSt) : MapStep l rs s (t.setMap l m) := h.setLane _

theorem wr (h : MapStep l rs s t) (p : Page) (r : RegId) (k : Nat) (v : Word) (hx : RegIn rs p r k) : MapStep l rs s (t.wr p r k v) :=
  ⟨h.regs.wr p r k v hx, h.rest⟩

theorem setFld (h : MapStep l rs s t) (p : Page) (f : Fld) (v k : Nat) (hx : RegIn rs p f.id k) : MapStep l rs s (t.setFld p f v k) :=
  ⟨h.regs.setFld p f v k hx, h.rest⟩

theorem evCount (h : MapStep l rs s t) (hr : evrAt ∈ rs) (d : Dom) (b x k u v : Nat) : MapStep l rs s (t.evCount d b x k u v) :=
  ⟨h.regs.evCount hr d b x k u v, (congrArg (State.besideLane · l) (evCount_quiet ..)).trans h.rest⟩

/-- A step of the map leaves every memory. -/
theorem sameMem (h : MapStep l rs s t) : SameMem s t := by
  have h0 : t.mem0 = s.mem0 := by have := congrArg State.mem0 h.rest; cases l <;> exact this
  have h1 : t.mem1 = s.mem1 := by have := congrArg State.mem1 h.rest; cases l <;> exact this
  have g0 : t.bg0 = s.bg0 := by have := congrArg State.bg0 h.rest; cases l <;> exact this
  have g1 : t.bg1 = s.bg1 := by have := congrArg State.bg1 h.rest; cases l <;> exact this
  intro k
  cases k
  · exact ⟨h0, g0⟩
  · exact ⟨h1, g1⟩

end MapStep

/-! What a step leaves of the map. -/

@[simp] theorem State.setLane_lane (s : State) (l : Lane) (x : LaneSt) : (s.setLane l x).lane l = x := by cases l <;> rfl

@[simp] theorem State.setMap_lane (s : State) (l : Lane) (m : MapSt) : (s.setMap l m).lane l = { s.lane l with map := m } :=
  State.setLane_lane ..

@[simp] theorem State.setMap_regs (s : State) (l : Lane) (m : MapSt) : (s.setMap l m).regs = s.regs := State.setLane_regs ..

@[simp] theorem State.setFld_lane (s : State) (p : Page) (f : Fld) (v k : Nat) (l : Lane) : (s.setFld p f v k).lane l = s.lane l := by
  cases l <;> rfl

@[simp] theorem State.wr_lane (s : State) (p : Page) (r : RegId) (k : Nat) (v : Word) (l : Lane) : (s.wr p r k v).lane l = s.lane l := by
  cases l <;> rfl

@[simp] theorem State.setWin_lane (s : State) (a : Nat) (v : Word) (l : Lane) : (s.setWin a v).lane l = s.lane l := by cases l <;> rfl

/-- A lane without its event queue. -/
def LaneSt.unqueued (x : LaneSt) : LaneSt := { x with evq := ⟨[], 0⟩ }

/-- An event leaves what a lane holds beside its event queue. -/
theorem State.evCount_lane (s : State) (d : Dom) (b x k u v : Nat) (l : Lane) :
    ((s.evCount d b x k u v).lane l).unqueued = (s.lane l).unqueued := by
  have h := evCount_quiet s d b x k u v
  cases l
  · exact congrArg State.l0 h
  · exact congrArg State.l1 h

@[simp] theorem State.evCount_map (s : State) (d : Dom) (b x k u v : Nat) (l : Lane) :
    ((s.evCount d b x k u v).lane l).map = (s.lane l).map :=
  show ((s.evCount d b x k u v).lane l).unqueued.map = (s.lane l).unqueued.map by rw [State.evCount_lane]

@[simp] theorem State.mapCntEv_map (s : State) (l : Lane) (k u : Nat) : ((s.mapCntEv l k u).lane l).map = (s.lane l).map := by
  rw [State.mapCntEv, State.bumpEv, State.evCount_map, State.bump, State.setFld_lane]

theorem regAddr_mapCnt (l : Lane) (k : Nat) : regAddr (.map l) .MAP_CNT k = regAddr (.map l) .MAP_CNT 0 + 4 * k := by
  rw [regAddr, regAddr, show RegId.MAP_CNT.geom.stride = 4 from rfl]
  omega

/-- A count with its event is the count: the event stores to the recorder alone. -/
theorem State.fld_mapCntEv_same (s : State) (l : Lane) (k u : Nat) (hk : k < 16) :
    (s.mapCntEv l k u).fld (.map l) F.MAP_CNT_COUNT k = min (s.fld (.map l) F.MAP_CNT_COUNT k + 1) (2 ^ 32 - 1) := by
  have h : RegsOutside [evrAt] (s.bump (.map l) F.MAP_CNT_COUNT k) (s.mapCntEv l k u) :=
    RegsOutside.evCount (.head _) _ _ _ _ _ _ (.refl _ _)
  have e := regAddr_mapCnt l k
  rw [h.fld, State.fld_bump_same _ _ _ _ _ (by decide) (by decide)]
  · rfl
  · intro f hf
    rw [List.mem_singleton.1 hf]
    right
    have : evrAt.1 + evrAt.2 ≤ regAddr (.map l) .MAP_CNT 0 := by cases l <;> decide
    show evrAt.1 + evrAt.2 ≤ regAddr (.map l) .MAP_CNT k
    omega

/-- The registers that taking a request may count in, beside those that raise a vector. -/
def mapCntAt (l : Lane) : List (Nat × Nat) :=
  [rowAt (.map l) .MAP_CNT 16, regAt (.map l) .MAP_PEND_DEPTH, regAt (.map l) .MAP_PEND_MAX, regAt (.insPage l 64) .INS_OCNT, evrAt]

/-- The registers that raising one of the first vectors of an owner may store to (R355, R356). -/
def vectorAt (l : Lane) (o : Nat) : List (Nat × Nat) :=
  [regAt (.insPage l o) .INS_VINT_PEND, regAt (.ins l) .INS_VINT_SUM_LO, regAt (.ins l) .INS_VINT_SUM_HI,
    regAt (.ins l) .INS_VINT_SUM_MGR]

section
variable {l : Lane} {s t : State} (h : MapStep l (mapCntAt l) s t)
include h

theorem MapStep.cnt {k : Nat} (hk : k < 16) (n : Nat) : MapStep l (mapCntAt l) s (t.bump (.map l) F.MAP_CNT_COUNT k n) := by
  have e := regAddr_mapCnt l k
  refine h.setFld _ _ _ _ ⟨_, .head _, ?_, ?_⟩
  · show regAddr (.map l) .MAP_CNT 0 ≤ regAddr (.map l) .MAP_CNT k
    omega
  · show regAddr (.map l) .MAP_CNT k < regAddr (.map l) .MAP_CNT 0 + (16 - 1) * 4 + 1
    omega

theorem MapStep.mapCntEv {k : Nat} (hk : k < 16) (u : Nat) : MapStep l (mapCntAt l) s (t.mapCntEv l k u) :=
  (h.cnt hk 1).evCount (by simp [mapCntAt]) ..

theorem MapStep.pendShow : MapStep l (mapCntAt l) s (t.pendShow l) :=
  (h.setFld _ _ _ _ (by cases l <;> exact ⟨_, .tail _ (.head _), by decide, by decide⟩)).setFld _ _ _ _
    (by cases l <;> exact ⟨_, .tail _ (.tail _ (.head _)), by decide, by decide⟩)

theorem MapStep.refused : MapStep l (mapCntAt l) s (t.refused l 64) :=
  h.setFld _ _ _ _ (by cases l <;> exact ⟨_, .tail _ (.tail _ (.tail _ (.head _))), by decide, by decide⟩)

theorem MapStep.notice (w : MapW) : MapStep l (mapCntAt l) s (t.notice l w) := (h.setLane _).setMap _

end

/-- The counters and the pending queue's registers are the only ones of the map that these steps may store to. -/
theorem MapStep.fld_map {l : Lane} {s t : State} (h : MapStep l (mapCntAt l) s t) (f : Fld)
    (hf : f.id = .MAP_CTRL ∨ f.id = .MAP_PEND_CFG) : t.fld (.map l) f = s.fld (.map l) f := by
  refine h.regs.fld _ _ _ ?_
  obtain hf | hf := hf
  · rw [hf]; cases l <;> decide
  · rw [hf]; cases l <;> decide

theorem MapStep.fld_dirty {l : Lane} {s t : State} (h : MapStep l (mapCntAt l) s t) :
    t.bit (.ins l) F.INS_DIRTY_CTL_EN = s.bit (.ins l) F.INS_DIRTY_CTL_EN :=
  State.bit_congr (h.regs.fld _ _ _ (by cases l <;> decide))

/-! A write that the horizon has not reached is posted (R242). -/

/-- The registers show the pending queue; what the lane holds stays. -/
@[simp] theorem State.pendShow_lane (s : State) (l k : Lane) : (s.pendShow l).lane k = s.lane k := by
  simp [State.pendShow]

theorem State.notice_map (s : State) (l : Lane) (w : MapW) :
    ((s.notice l w).lane l).map = { (s.lane l).map with notices := (s.lane l).map.notices ++ [⟨w.point, w.e.getD 0, w.rec_⟩] } := by
  simp [State.notice, State.drcNote]

theorem State.laneNow_notice (s : State) (l : Lane) (w : MapW) : (s.notice l w).laneNow l = s.laneNow l := by
  simp [State.notice, State.drcNote, State.laneNow]

theorem State.horizon_congr {s t : State} {l : Lane} (hn : t.laneNow l = s.laneNow l)
    (hh : t.fld (.map l) F.MAP_CTRL_HOLD = s.fld (.map l) F.MAP_CTRL_HOLD) : t.horizon l = s.horizon l := by
  rw [State.horizon, State.horizon, State.hold, State.hold, hn, hh]

/-- A write ahead of the horizon joins the pending queue with its notice. -/
theorem State.mapJudge_ahead {s : State} {l : Lane} {w : MapW} {e : Nat} (he : w.e = some e) (hs : w.sw = none) (h : s.horizon l < e) :
    s.mapJudge l w = (s.notice l w).setMap l { ((s.notice l w).lane l).map with pend := (s.lane l).map.pend ++ [w] } := by
  have hh : (s.notice l w).horizon l = s.horizon l :=
    State.horizon_congr (s.laneNow_notice l w) (((MapStep.refl l _ s).notice w).fld_map _ (.inl rfl))
  unfold State.mapJudge
  simp only [hs, he, Option.isSome_none, Bool.false_and, Bool.false_eq_true, if_false, Option.getD_some, hh,
    decide_eq_false (Nat.not_le.2 h)]
  rw [State.notice_map]

theorem State.mapPost_ahead {s : State} {l : Lane} {c : Nat} {w : MapW} {e : Nat} (he : w.e = some e) (hs : w.sw = none)
    (h : s.horizon l < e) (hm : s.mayWrite l c w.owner w.point = true) :
    MapStep l (mapCntAt l) s (s.mapPost l c w) ∧ ((s.mapPost l c w).lane l).map.pend = (s.lane l).map.pend ++ [w] ∧
      ((s.mapPost l c w).lane l).map.reqs = (s.lane l).map.reqs := by
  have e1 : s.mapPost l c w = (s.mapJudge l w).pendShow l := by simp [State.mapPost, hm, he]
  rw [e1, State.mapJudge_ahead he hs h]
  refine ⟨(((MapStep.refl l _ s).notice w).setMap _).pendShow, ?_, ?_⟩
  · simp
  · simp [State.notice_map]

/-- A write of a point that is not the writer's is counted (R240). -/
theorem State.mapPost_refused {s : State} {l : Lane} {c : Nat} {w : MapW} (hm : s.mayWrite l c w.owner w.point = false) :
    s.mapPost l c w = s.mapCntEv l 13 w.point := by simp [State.mapPost, hm]

/-! Writers that wait. -/

theorem State.mapWait_step (s : State) (l : Lane) (w : Waiter) : MapStep l (mapCntAt l) s (s.mapWait l w) := by
  unfold State.mapWait
  dsimp only
  split
  · exact .refl ..
  · exact ((MapStep.refl l _ s).setMap _).cnt (by omega) 1

/-- A writer that waits stands in the list once and is counted once (R243). -/
theorem State.mapWait_effect (s : State) (l : Lane) (w : Waiter) :
    w ∈ ((s.mapWait l w).lane l).map.waits ∧ ((s.mapWait l w).lane l).map.pend = (s.lane l).map.pend ∧
      ((s.mapWait l w).lane l).map.reqs = (s.lane l).map.reqs ∧
      ((s.lane l).map.waits.contains w = false →
        (s.mapWait l w).fld (.map l) F.MAP_CNT_COUNT 15 = min (s.fld (.map l) F.MAP_CNT_COUNT 15 + 1) (2 ^ 32 - 1)) := by
  unfold State.mapWait
  by_cases hc : (s.lane l).map.waits.contains w = true
  · rw [if_pos hc]
    exact ⟨by simpa using hc, rfl, rfl, fun h => absurd (hc.symm.trans h) (by decide)⟩
  · rw [if_neg hc]
    refine ⟨?_, ?_, ?_, fun _ => ?_⟩
    · simp [State.mapCnt, State.bump]
    · simp [State.mapCnt, State.bump]
    · simp [State.mapCnt, State.bump]
    · rw [State.mapCnt, State.fld_bump_same _ _ _ _ _ (by decide) (by decide), State.fld_congr (State.setMap_regs ..)]
      rfl

theorem State.mapGo_step (s : State) (l : Lane) (w : Waiter) (rs : List (Nat × Nat)) : MapStep l rs s (s.mapGo l w) :=
  (MapStep.refl l rs s).setMap _

@[simp] theorem State.mapGo_regs (s : State) (l : Lane) (w : Waiter) : (s.mapGo l w).regs = s.regs := State.setMap_regs ..

theorem State.mapGo_map (s : State) (l : Lane) (w : Waiter) : ((s.mapGo l w).lane l).map.pend = (s.lane l).map.pend ∧
    ((s.mapGo l w).lane l).map.reqs = (s.lane l).map.reqs := by simp [State.mapGo]

end Sys2Proof.Machine
end

section
/-! # How the map takes a request, and what its completion leaves -/

namespace Sys2Proof.Machine
open Sys2Proof

/-- A request as GO posts it. -/
def postedReq (o a : Nat) : MapReq := ⟨o, a, none, [], 0⟩

/-! What an owner may reach. -/

/-- The manager may reach all of lane memory, and no more (R341). -/
theorem State.mayReach_manager (s : State) (l : Lane) (wr : Bool) (a : Nat) : s.mayReach l 64 wr a = decide (a < laneMemSize) := rfl

theorem State.mayReachRange_manager (s : State) (l : Lane) (wr : Bool) {a n : Nat} (hn : 0 < n) :
    s.mayReachRange l 64 wr a n = decide (a + n ≤ laneMemSize) := by
  rw [State.mayReachRange, if_neg (by omega), Bool.eq_iff_iff, List.all_eq_true]
  simp only [List.mem_range, State.mayReach_manager, decide_eq_true_eq]
  unfold laneMemSize
  constructor
  · intro h
    have := h ((a + n - 1) / 4096 - a / 4096) (by omega)
    omega
  · intro h i hi
    omega

theorem State.mayRead_manager (s : State) (l : Lane) (p : Nat) : s.mayRead l 64 p = true := by
  unfold State.mayRead
  split <;> rfl

/-! The map takes a request of the manager (R245). -/

section
variable {s : State} {l : Lane} {a : Nat} (ha : a + 64 ≤ laneMemSize)
include ha

theorem State.reaches_manager : (s.mayReachRange l 64 false a 64 && s.mayReach l 64 true (a + 0x38)) = true := by
  rw [State.mayReachRange_manager _ _ _ (by decide), State.mayReach_manager, decide_eq_true ha]
  exact decide_eq_true (by omega)

/-- A WRITE is late, waits for room, or is posted. -/
theorem State.reqTake_write {t : Nat} (hk : s.recF l a E.T10_4_KIND = 1) (ht : ofT96 (s.recF l a E.T10_4_TIME) = some t) :
    s.reqTake l (postedReq 64 a) =
      if t ≤ s.horizon l then some (s.reqDone l (postedReq 64 a) 1)
      else if !s.mapRoom l 1 then none
      else
        some ((s.mapPost l 5 ⟨some t, none, s.recF l a E.T10_4_POINT, mkRec (s.memN l (a + 0x28) 16) (toT96 t)
          (s.recF l a E.T10_4_CODE) (decide (s.recF l a E.T10_4_TEST = 1)) false 5 false 0, 64⟩).reqDone l (postedReq 64 a)
            (if !s.mayWrite l 5 64 (s.recF l a E.T10_4_POINT) then 2 else 0)) := by
  refine (if_neg (by rw [postedReq, reaches_manager ha]; decide)).trans ?_
  simp only [show (postedReq 64 a).addr = a from rfl, hk, ht]
  rfl

/-- A SNAP is checked for its count and its places, is late, or waits for its cut. -/
theorem State.reqTake_snap {t : Nat} (hk : s.recF l a E.T10_4_KIND = 2) (ht : ofT96 (s.recF l a E.T10_4_TIME) = some t) :
    s.reqTake l (postedReq 64 a) =
      if s.recF l a E.T10_4_COUNT = 0 ∨ 4096 < s.recF l a E.T10_4_COUNT then some (s.reqDone l (postedReq 64 a) 3)
      else if !(s.mayReachRange l 64 false (s.recF l a E.T10_4_LIST) (4 * s.recF l a E.T10_4_COUNT) &&
          s.mayReachRange l 64 true (s.recF l a E.T10_4_DEST) (32 * s.recF l a E.T10_4_COUNT)) then
        some ((s.refused l 64).reqDone l (postedReq 64 a) 4)
      else if t ≤ s.horizon l then some (s.reqDone l (postedReq 64 a) 1)
      else some (s.setMap l { (s.lane l).map with reqs := (s.lane l).map.reqs.map (fun q =>
          if q = postedReq 64 a then { q with cut := some t, pts := s.snapList l a, dest := s.recF l a E.T10_4_DEST } else q) }) := by
  have hread : (s.snapList l a).all (s.mayRead l 64) = true := List.all_eq_true.2 fun p _ => s.mayRead_manager l p
  refine (if_neg (by rw [postedReq, reaches_manager ha]; decide)).trans ?_
  simp only [show (postedReq 64 a).addr = a from rfl, show (postedReq 64 a).o = 64 from rfl, hk, ht, hread, Bool.not_true,
    Bool.false_eq_true, if_false]

/-- Every other request, and one whose TIME is malformed, ends with BADARG. -/
theorem State.reqTake_invalid (h : (s.recF l a E.T10_4_KIND ≠ 1 ∧ s.recF l a E.T10_4_KIND ≠ 2) ∨ ofT96 (s.recF l a E.T10_4_TIME) = none) :
    s.reqTake l (postedReq 64 a) = some (s.reqDone l (postedReq 64 a) 3) := by
  refine (if_neg (by rw [postedReq, reaches_manager ha]; decide)).trans ?_
  simp only [show (postedReq 64 a).addr = a from rfl]
  split
  next h1 h2 => exact absurd h (by simp [h1, h2])
  next h1 h2 => exact absurd h (by simp [h1, h2])
  next => rfl

/-- Would the request post a write (R472)? -/
theorem State.reqWrites_manager : s.reqWrites l (postedReq 64 a) = true ↔
    s.recF l a E.T10_4_KIND = 1 ∧ ∃ t, ofT96 (s.recF l a E.T10_4_TIME) = some t ∧ s.horizon l < t := by
  unfold State.reqWrites
  rw [postedReq, reaches_manager ha]
  cases ofT96 (s.recF l a E.T10_4_TIME) <;> simp

end

/-! The map handles the one request that is posted. -/

theorem reqHeads_posted (o a : Nat) : reqHeads [postedReq o a] [] = [postedReq o a] := rfl

section
variable {s : State} {l : Lane} {o a : Nat} (hq : (s.lane l).map.reqs = [postedReq o a])
include hq

/-- While the map is not enabled the request waits (R472). -/
theorem State.reqRun_off (hen : s.bit (.map l) F.MAP_CTRL_EN = false) :
    s.reqRun l 2 = if s.reqWrites l (postedReq o a) then s.mapWait l .request else s := by
  simp [State.reqRun, hen, hq, reqHeads_posted]

/-- A request without room waits. -/
theorem State.reqRun_held (hen : s.bit (.map l) F.MAP_CTRL_EN = true) (h : s.reqTake l (postedReq o a) = none) :
    s.reqRun l 2 = s.mapWait l .request := by
  simp [State.reqRun, hen, hq, reqHeads_posted, h]

/-- A request that is taken leaves no other. -/
theorem State.reqRun_taken {u : State} (hen : s.bit (.map l) F.MAP_CTRL_EN = true) (h : s.reqTake l (postedReq o a) = some u)
    (hu : u.bit (.map l) F.MAP_CTRL_EN = true) (hr : reqHeads (u.lane l).map.reqs [] = []) : s.reqRun l 2 = u.mapGo l .request := by
  simp [State.reqRun, hen, hq, reqHeads_posted, h, hu, hr]

end

end Sys2Proof.Machine
end

section
/-! # Posting a request, and the states in which it waits or has ended -/

namespace Sys2Proof.Machine
open Sys2Proof

/-! Words stored outside a window. -/

/-- A put of a key that is not kept leaves what is kept. -/
theorem filter_assocPut_of_not {β : Type} (f : Nat → Bool) (t : List (Nat × β)) {a : Nat} (b : β) (h : f a = false) :
    (assocPut t a b).filter (fun e => f e.1) = t.filter (fun e => f e.1) := by
  induction t with
  | nil => simp [assocPut, h]
  | cons e t ih =>
    obtain ⟨k, v⟩ := e
    unfold assocPut
    split
    next hk => subst hk; simp [h]
    next =>
      split
      · simp [h]
      · simp only [List.filter_cons, ih]

section
variable (s : State) {x : Nat} (v : Word)

theorem State.range_setWin {b n : Nat} (h : x < b ∨ b + n ≤ x) : (s.setWin x v).range b n = s.range b n := by
  unfold State.range State.setWin
  rw [filter_assocPut_of_not (fun c => decide (b ≤ c ∧ c < b + n)) s.regs v (decide_eq_false (by omega))]

theorem State.winWords_setWin {b n : Nat} (h : x < b ∨ b + 4 * n ≤ x) : (s.setWin x v).winWords b n = s.winWords b n := by
  induction n generalizing b with
  | zero => rfl
  | succ n ih => rw [State.winWords, State.winWords, ih (by omega), State.win_setWin_other _ _ _ _ (by omega)]

/-- A field of a table entry that the stored word lies outside of. -/
theorem State.ent_setWin {b : Nat} {f : EFld} (h : x < b ∨ b + (f.off / 4 * 4 + 4 * ((f.hi + 8 * (f.off % 4)) / 32 + 1)) ≤ x) :
    (s.setWin x v).ent b f = s.ent b f := by
  unfold State.ent
  dsimp only
  rw [State.winWords_setWin _ _ (by omega)]

/-- The range of a point is found in the map's own window (R240). -/
theorem State.rngOf_le {s : State} {l : Lane} {p c : Nat} (h : s.rngOf l p = some c) : winAddr (.map l) .mapRngAct 0 ≤ c := by
  have := List.mem_of_find?_eq_some h
  obtain ⟨k, -, rfl⟩ := List.mem_map.1 this
  omega

theorem State.rngOf_setWin {l : Lane} (h : x < winAddr (.map l) .mapRngAct 0) (p : Nat) : (s.setWin x v).rngOf l p = s.rngOf l p := by
  unfold State.rngOf
  dsimp only
  rw [State.range_setWin _ _ (.inl h)]
  refine List.find?_congr fun c hc => ?_
  obtain ⟨k, -, rfl⟩ := List.mem_map.1 hc
  simp only [State.ent_setWin s v (.inl (show x < winAddr (.map l) .mapRngAct 0 + 16 * k by omega))]

theorem State.mayWrite_setWin {l : Lane} (h : x < winAddr (.map l) .mapRngAct 0) (c o p : Nat) :
    (s.setWin x v).mayWrite l c o p = s.mayWrite l c o p := by
  unfold State.mayWrite
  rw [State.rngOf_setWin s v h]
  cases hr : s.rngOf l p with
  | none => rfl
  | some b =>
    have := State.rngOf_le hr
    simp only [State.ent_setWin s v (.inl (show x < b by omega))]

end

theorem State.ent_congr {s t : State} (h : t.regs = s.regs) (b : Nat) (f : EFld) : t.ent b f = s.ent b f := by
  have hw (n b : Nat) : t.winWords b n = s.winWords b n := by
    induction n generalizing b with
    | zero => rfl
    | succ n ih => rw [State.winWords, State.winWords, ih, State.win, State.win, h]
  simp only [State.ent, hw]

theorem State.mayWrite_congr {s t : State} (h : t.regs = s.regs) (l : Lane) (c o p : Nat) : t.mayWrite l c o p = s.mayWrite l c o p := by
  simp only [State.mayWrite, State.rngOf, State.range, h, State.ent_congr h]

/-! Posting. -/

/-- The state in which a requester's registers name the record at `a`. -/
def State.reqNamed (s : State) (l : Lane) (o a : Nat) : State :=
  (s.setWin (reqReg l o 0) (BitVec.ofNat 32 (a % 2 ^ 32))).setWin (reqReg l o 1) (BitVec.ofNat 32 (a / 2 ^ 32 % 2 ^ 16))

/-- The state in which the record at `a` is posted. -/
def State.reqPosted (s : State) (l : Lane) (o a : Nat) : State :=
  (s.reqNamed l o a).setMap l { (s.lane l).map with reqs := [postedReq o a] }

theorem reqReg_ne (l : Lane) (o : Nat) {j k : Nat} (h : j ≠ k) : reqReg l o j ≠ reqReg l o k := by
  unfold reqReg
  split <;> omega

/-- The request registers hold the address of a record. -/
theorem State.reqAddr_named (s : State) (l : Lane) (o : Nat) {a : Nat} (ha : a % 64 = 0) (hb : a < 2 ^ 48) :
    (s.reqNamed l o a).reqAddr l o = a := by
  rw [State.reqAddr, State.reqNamed, State.win_setWin_same, State.win_setWin_other _ _ _ _ (reqReg_ne l o (by decide)),
    State.win_setWin_same]
  simp only [BitVec.toNat_ofNat, bitsOf]
  omega

@[simp] theorem State.reqNamed_lane (s : State) (l k : Lane) (o a : Nat) : (s.reqNamed l o a).lane k = s.lane k := by
  simp [State.reqNamed]

/-- GO with no request posted before hands the one request to the map (R245). -/
theorem State.reqGo_named {s : State} {l : Lane} {o a : Nat} (hr : (s.reqNamed l o a).ownerRuns l o = true)
    (hq : (s.lane l).map.reqs = []) (ha : a % 64 = 0) (hb : a < 2 ^ 48) :
    (s.reqNamed l o a).reqGo l o = (s.reqPosted l o a).reqRun l 2 := by
  unfold State.reqGo
  rw [hr]
  simp only [State.reqNamed_lane, State.reqAddr_named _ _ _ ha hb, hq]
  have e : (s.reqNamed l o a).setMap l { (s.lane l).map with reqs := [] ++ [⟨o, a, none, [], 0⟩] } = s.reqPosted l o a := rfl
  rw [if_neg (by decide), e]
  have : ((s.reqPosted l o a).lane l).map.reqs = [postedReq o a] := by simp [State.reqPosted]
  rw [this]
  rfl

/-! What is beside a lane and the memories. -/

/-- The state beside its registers, its memories and what one lane holds. -/
def State.apart (s : State) (l : Lane) : State := { s.quiet.besideLane l with mem0 := [], mem1 := [] }

theorem State.beside_of_apart {s t : State} {l : Lane} (h : t.apart l = s.apart l) :
    { t.quiet.besideLane l with mem0 := s.mem0, mem1 := s.mem1 } = s.quiet.besideLane l := by
  have := congrArg (fun u : State => { u with mem0 := s.mem0, mem1 := s.mem1 }) h
  refine Eq.trans this ?_
  cases l <;> rfl

theorem MapStep.apart {l : Lane} {rs : List (Nat × Nat)} {s t : State} (h : MapStep l rs s t) : t.apart l = s.apart l := by
  rw [State.apart, State.apart, h.rest]

theorem State.apart_memW (s : State) (l k : Lane) (a : Nat) (b : List Byte) : (s.memW k a b).apart l = s.apart l := by
  cases l <;> cases k <;> rfl

/-- A manager's request whose record holds the bytes `r` is posted: what the map starts from. -/
structure Posted (l : Lane) (a : Nat) (r : List Byte) (s t : State) : Prop where
  regs : RegsOutside [(reqReg l 64 0, 8)] s t
  apart : t.apart l = s.apart l
  wf : memWf 0 (t.laneMem l) = true
  mem : t.mem l a 64 = r
  other : ∀ k c n, k ≠ l ∨ c + n ≤ a ∨ a + 64 ≤ c → t.mem k c n = s.mem k c n
  map : (t.lane l).map = { (s.lane l).map with reqs := [postedReq 64 a] }
  now : t.laneNow l = s.laneNow l
  mayWrite : ∀ c o p, t.mayWrite l c o p = s.mayWrite l c o p

theorem State.posted {s : State} (hw : MemsWf s) (l : Lane) (a : Nat) {r : List Byte} (hr : r.length = 64) :
    Posted l a r s ((s.memW l a r).reqPosted l 64 a) := by
  have named : MapStep l [(reqReg l 64 0, 8)] (s.memW l a r) ((s.memW l a r).reqNamed l 64 a) := by
    refine ⟨?_, rfl⟩
    refine ((RegsOutside.refl _ _).setWin _ _ ⟨_, .head _, ?_, ?_⟩).setWin _ _ ⟨_, .head _, ?_, ?_⟩
    all_goals cases l <;> decide
  have step : MapStep l [(reqReg l 64 0, 8)] (s.memW l a r) ((s.memW l a r).reqPosted l 64 a) := named.setMap _
  have same := step.sameMem
  refine ⟨(RegsOutside.of_eq (State.regs_memW ..)).trans step.regs, step.apart.trans (s.apart_memW ..), ?_, ?_, fun k c n h => ?_, ?_, ?_,
    fun c o p => ?_⟩
  · rw [(same l).1]
    exact State.memWf_memW (hw.lane l) a r
  · rw [same.mem, ← hr]
    exact State.mem_memW_same (hw.lane l) a r
  · rw [same.mem]
    exact State.mem_memW_other (hw.lane l) a r k c n (by rwa [hr])
  · simp [State.reqPosted]
  · simp [State.reqPosted, State.laneNow]
  · rw [State.reqPosted, State.mayWrite_congr (State.setMap_regs ..), State.reqNamed, State.mayWrite_setWin, State.mayWrite_setWin,
      State.mayWrite_congr (State.regs_memW ..)]
    all_goals cases l <;> decide

/-- The registers of the map that decide what becomes of a request. -/
theorem Posted.fld {l : Lane} {a : Nat} {r : List Byte} {s t : State} (h : Posted l a r s t) (p : Page) (f : Fld) (k : Nat)
    (hf : regAddr p f.id k < reqReg l 64 0 ∨ reqReg l 64 0 + 8 ≤ regAddr p f.id k) : t.fld p f k = s.fld p f k :=
  h.regs.fld p f k fun e he => by rw [List.mem_singleton.1 he]; exact hf

theorem Posted.horizon {l : Lane} {a : Nat} {r : List Byte} {s t : State} (h : Posted l a r s t) : t.horizon l = s.horizon l :=
  State.horizon_congr h.now (h.fld _ _ _ (by cases l <;> decide))

theorem Posted.enabled {l : Lane} {a : Nat} {r : List Byte} {s t : State} (h : Posted l a r s t) :
    t.bit (.map l) F.MAP_CTRL_EN = s.bit (.map l) F.MAP_CTRL_EN :=
  State.bit_congr (h.fld _ _ _ (by cases l <;> decide))

theorem Posted.mapRoom {l : Lane} {a : Nat} {r : List Byte} {s t : State} (h : Posted l a r s t) (n : Nat) :
    t.mapRoom l n = s.mapRoom l n := by
  rw [State.mapRoom, State.mapRoom, h.enabled, h.map, h.fld (.map l) F.MAP_PEND_CFG_SIZE_LOG2 0 (by cases l <;> decide)]

theorem Posted.reqs {l : Lane} {a : Nat} {r : List Byte} {s t : State} (h : Posted l a r s t) :
    (t.lane l).map.reqs = [postedReq 64 a] := by rw [h.map]

end Sys2Proof.Machine
end

section
/-! # The states in which a manager's request waits or has ended -/

namespace Sys2Proof.Machine
open Sys2Proof

/-- INS_VINT_SUM is the one register that follows the pending bits (R356). -/
theorem State.vintSum_eq (s : State) (l : Lane) (o : Nat) :
    ∃ r v, r ∈ [RegId.INS_VINT_SUM_LO, .INS_VINT_SUM_HI, .INS_VINT_SUM_MGR] ∧ s.vintSum l o = s.wr (.ins l) r 0 v := by
  refine ⟨if o < 32 then .INS_VINT_SUM_LO else if o < 64 then .INS_VINT_SUM_HI else .INS_VINT_SUM_MGR, _, ?_, rfl⟩
  split
  · simp
  · split <;> simp

theorem regAddr_insPage (l : Lane) (o : Nat) (r : RegId) : regAddr (.insPage l o) r 0 = laneBase l + 0x2430000 + o * 0x100 + r.geom.off := by
  rw [regAddr, Nat.zero_mul, Nat.add_zero]
  rfl

/-- The registers of an owner's page lie apart from the lane's INS_VINT_SUM. -/
theorem regAddr_insPage_ne_sum (l : Lane) (o : Nat) (q : RegId) {r : RegId}
    (h : r ∈ [RegId.INS_VINT_SUM_LO, .INS_VINT_SUM_HI, .INS_VINT_SUM_MGR]) : regAddr (.ins l) r 0 < regAddr (.insPage l o) q 0 := by
  rw [regAddr_insPage, regAddr, show Page.base (.ins l) = laneBase l + 0x2400000 from rfl]
  have : r.geom.off < 0x30000 := by revert r; decide
  omega

/-- A vector of an owner that is not being reset becomes pending (R355). -/
theorem State.vector_raised (s : State) (l : Lane) {o : Nat} (ho : ¬(o < 64 ∧ s.insState l o = 6)) :
    MapStep l (vectorAt l o) s (s.vector l o 8) ∧ (s.vector l o 8).lane l = s.lane l ∧
      bitAt ((s.vector l o 8).rd (.insPage l o) .INS_VINT_PEND 0).toNat 8 = true := by
  let pended := s.wr (.insPage l o) .INS_VINT_PEND 0 (BitVec.ofNat 32 (bitsPut (s.rd (.insPage l o) .INS_VINT_PEND 0).toNat 8 8 1))
  have e : s.vector l o 8 = pended.vintSum l o := if_neg ho
  obtain ⟨r, v, hr, hv⟩ := pended.vintSum_eq l o
  rw [e, hv]
  refine ⟨((MapStep.refl l _ s).wr _ _ _ _ ⟨_, .head _, le_refl _, Nat.lt_succ_self _⟩).wr _ _ _ _ ?_, by simp [pended], ?_⟩
  · refine ⟨regAt (.ins l) r, .tail _ ?_, le_refl _, Nat.lt_succ_self _⟩
    simp only [List.mem_cons, List.not_mem_nil, or_false] at hr
    obtain rfl | rfl | rfl := hr
    · exact .head _
    · exact .tail _ (.head _)
    · exact .tail _ (.tail _ (.head _))
  · rw [State.rd_wr_other _ _ _ _ _ _ _ _ (regAddr_insPage_ne_sum l o _ hr).ne', State.rd_wr_same, bitAt]
    have hset := bitsOf_put_same (s.rd (.insPage l o) .INS_VINT_PEND 0).toNat 8 8 1
    unfold bitsOf at hset
    rw [BitVec.toNat_ofNat]
    exact decide_eq_true (by omega)

/-- Of a manager's request that stood alone in `u`, its end with a status: the STATUS byte, vector 8, and no request left. -/
structure ReqEnds (l : Lane) (a st : Nat) (u t : State) : Prop where
  regs : RegsOutside (vectorAt l 64) u t
  apart : t.apart l = u.apart l
  status : t.mem l (a + 0x38) 1 = [BitVec.ofNat 8 st]
  other : ∀ k c n, k ≠ l ∨ c + n ≤ a + 0x38 ∨ a + 0x39 ≤ c → t.mem k c n = u.mem k c n
  reqs : (t.lane l).map.reqs = []
  pend : (t.lane l).map.pend = (u.lane l).map.pend
  vector : bitAt (t.rd (.insPage l 64) .INS_VINT_PEND 0).toNat 8 = true

theorem State.reqDone_ends {u : State} {l : Lane} {a : Nat} (hw : memWf 0 (u.laneMem l) = true)
    (hd : u.bit (.ins l) F.INS_DIRTY_CTL_EN = false) (hq : (u.lane l).map.reqs = [postedReq 64 a]) (st : Nat) :
    ReqEnds l a st u (u.reqDone l (postedReq 64 a) st) := by
  let m := { (u.lane l).map with reqs := [] }
  have first : MapStep l (vectorAt l 64) u (u.setMap l m) := (MapStep.refl l _ u).setMap m
  have hw1 : memWf 0 ((u.setMap l m).laneMem l) = true := by rwa [(first.sameMem l).1]
  have hd1 : (u.setMap l m).bit (.ins l) F.INS_DIRTY_CTL_EN = false :=
    (State.bit_congr (State.fld_congr (State.setMap_regs ..) ..)).trans hd
  have e : u.reqDone l (postedReq 64 a) st = ((u.setMap l m).memW l (a + 0x38) [BitVec.ofNat 8 st]).vector l 64 8 := by
    rw [← State.memWLog_of_off hd1 1]
    simp only [State.reqDone, hq, List.erase_cons_head]
    rfl
  obtain ⟨hvec, hlane, hbit⟩ := ((u.setMap l m).memW l (a + 0x38) [BitVec.ofNat 8 st]).vector_raised l (o := 64) (by omega)
  rw [e]
  refine ⟨(first.regs.same (State.regs_memW ..)).trans hvec.regs, hvec.apart.trans ((State.apart_memW ..).trans first.apart), ?_,
    fun k c n h => ?_, ?_, ?_, hbit⟩
  · rw [hvec.sameMem.mem]
    exact State.mem_memW_same hw1 (a + 0x38) [BitVec.ofNat 8 st]
  · rw [hvec.sameMem.mem, State.mem_memW_other hw1 _ _ k c n h, first.sameMem.mem]
  · rw [hlane]; simp [m]
  · rw [hlane]; simp [m]

/-- The map moves on behind a request that has ended. -/
theorem ReqEnds.mapGo {l : Lane} {a st : Nat} {u t : State} (h : ReqEnds l a st u t) (w : Waiter) : ReqEnds l a st u (t.mapGo l w) := by
  have step := t.mapGo_step l w (vectorAt l 64)
  obtain ⟨hp, hr⟩ := t.mapGo_map l w
  refine ⟨h.regs.trans step.regs, step.apart.trans h.apart, ?_, fun k c n hc => ?_, hr.trans h.reqs, hp.trans h.pend, ?_⟩
  · rw [step.sameMem.mem, h.status]
  · rw [step.sameMem.mem, h.other k c n hc]
  · rw [State.rd, State.mapGo_regs]; exact h.vector

/-- What a request of the manager leaves alone. -/
def ReqFrame (l : Lane) (a : Nat) (s t : State) : Prop :=
  RegsOutside [laneAt_ l, evrAt, (reqReg l 64 0, 8)] s t ∧
    { t.quiet.besideLane l with mem0 := s.mem0, mem1 := s.mem1 } = s.quiet.besideLane l ∧
    ∀ k c, ¬(k = l ∧ a ≤ c ∧ c < a + 64) → t.mem k c 1 = s.mem k c 1

/-- The record that the manager named is stored and nothing else of memory changes. -/
def ReqStored (l : Lane) (a : Nat) (r : List Byte) (s t : State) : Prop := t.mem l a 56 = r.take 56 ∧ ReqFrame l a s t

/-- The request has ended with a status. -/
def ReqEnded (l : Lane) (a : Nat) (r : List Byte) (st : Nat) (s t : State) : Prop :=
  ReqStored l a r s t ∧ t.mem l (a + 0x38) 1 = [BitVec.ofNat 8 st] ∧ (t.lane l).map.reqs = [] ∧
    bitAt (t.rd (.insPage l 64) .INS_VINT_PEND 0).toNat 8 = true

theorem mapCntAt_inside (l : Lane) : ∀ e ∈ mapCntAt l, ∃ f ∈ [laneAt_ l, evrAt, (reqReg l 64 0, 8)], f.1 ≤ e.1 ∧ e.1 + e.2 ≤ f.1 + f.2 := by
  cases l <;> decide

theorem vectorAt_inside (l : Lane) :
    ∀ e ∈ vectorAt l 64, ∃ f ∈ [laneAt_ l, evrAt, (reqReg l 64 0, 8)], f.1 ≤ e.1 ∧ e.1 + e.2 ≤ f.1 + f.2 := by
  cases l <;> decide

theorem vectorAt_beside_map (l : Lane) (k : Nat) (hk : k < 16) :
    ∀ e ∈ vectorAt l 64, regAddr (.map l) .MAP_CNT k < e.1 ∨ e.1 + e.2 ≤ regAddr (.map l) .MAP_CNT k := by
  rw [regAddr_mapCnt]
  intro e he
  have h2 : regAddr (.map l) .MAP_CNT 0 + 64 ≤ e.1 := by revert e; cases l <;> decide
  omega

section
variable {l : Lane} {a : Nat} {r : List Byte} {s p u : State} (hp : Posted l a r s p) (hu : MapStep l (mapCntAt l) p u)
include hp hu

/-- What the map did to a posted request leaves the record where it was stored. -/
theorem Posted.stored : ReqStored l a r s u := by
  refine ⟨?_, (hp.regs.cover ?_).trans (hu.cover (mapCntAt_inside l)).regs, State.beside_of_apart (hu.apart.trans hp.apart), fun k c h => ?_⟩
  · have h64 := p.mem_add l a 56 8
    rw [hu.sameMem.mem, ← hp.mem, h64, List.take_left' (by simp)]
  · intro e he
    rw [List.mem_singleton.1 he]
    exact ⟨_, .tail _ (.tail _ (.head _)), le_refl _, le_refl _⟩
  · rw [hu.sameMem.mem]
    refine hp.other k c 1 ?_
    by_cases hk : k = l
    · right
      have : ¬(a ≤ c ∧ c < a + 64) := fun hc => h ⟨hk, hc⟩
      omega
    · exact .inl hk

/-- A request that the map ended with a status. -/
theorem Posted.ended {t : State} {st : Nat} (ht : ReqEnds l a st u t) : ReqEnded l a r st s t := by
  obtain ⟨hrec, hregs, -, hmem⟩ := hp.stored hu
  refine ⟨⟨?_, hregs.trans (ht.regs.cover (vectorAt_inside l)), State.beside_of_apart (ht.apart.trans (hu.apart.trans hp.apart)),
    fun k c h => ?_⟩, ht.status, ht.reqs, ht.vector⟩
  · rw [ht.other l a 56 (.inr (.inl (by omega))), hrec]
  · rw [← hmem k c h]
    refine ht.other k c 1 ?_
    by_cases hk : k = l
    · right
      have : ¬(a ≤ c ∧ c < a + 64) := fun hc => h ⟨hk, hc⟩
      omega
    · exact .inl hk

/-- The map takes a posted request and ends it. -/
theorem Posted.run_ended {st : Nat} (hd : s.bit (.ins l) F.INS_DIRTY_CTL_EN = false) (hen : s.bit (.map l) F.MAP_CTRL_EN = true)
    (hq : (u.lane l).map.reqs = [postedReq 64 a]) (ht : p.reqTake l (postedReq 64 a) = some (u.reqDone l (postedReq 64 a) st)) :
    ReqEnded l a r st s (p.reqRun l 2) ∧ ((p.reqRun l 2).lane l).map.pend = (u.lane l).map.pend ∧
      ∀ k < 16, (p.reqRun l 2).fld (.map l) F.MAP_CNT_COUNT k = u.fld (.map l) F.MAP_CNT_COUNT k := by
  have hdp : p.bit (.ins l) F.INS_DIRTY_CTL_EN = false :=
    (State.bit_congr (hp.fld _ _ _ (by cases l <;> decide))).trans hd
  have ends := State.reqDone_ends ((hu.sameMem l).1 ▸ hp.wf) (hu.fld_dirty.trans hdp) hq st
  have henu : (u.reqDone l (postedReq 64 a) st).bit (.map l) F.MAP_CTRL_EN = true := by
    have h1 := ends.regs.fld (.map l) F.MAP_CTRL_EN 0 (by cases l <;> decide)
    have h2 := hu.fld_map F.MAP_CTRL_EN (.inl rfl)
    exact (State.bit_congr (h1.trans h2)).trans (hp.enabled.trans hen)
  rw [State.reqRun_taken hp.reqs (hp.enabled.trans hen) ht henu (by rw [ends.reqs]; rfl)]
  have went := ends.mapGo .request
  exact ⟨hp.ended hu went, went.pend, fun k hk => went.regs.fld _ _ _ (vectorAt_beside_map l k hk)⟩

end

end Sys2Proof.Machine
end

section
/-! # The record of a request, and what becomes of a manager's request -/

namespace Sys2Proof.Machine
open Sys2Proof

/-- What the fields of a stored request record read (Table 10.4). -/
structure RecordReads (s : State) (l : Lane) (a kind point code : Nat) (test : Bool) (time count list dest w : Nat) : Prop where
  kind : s.recF l a E.T10_4_KIND = kind % 4
  point : s.recF l a E.T10_4_POINT = point % 2 ^ 23
  code : s.recF l a E.T10_4_CODE = code % 4
  test : s.recF l a E.T10_4_TEST = b2n test
  time : s.recF l a E.T10_4_TIME = time % 2 ^ 96
  count : s.recF l a E.T10_4_COUNT = count % 2 ^ 13
  list : s.recF l a E.T10_4_LIST = list % 2 ^ 48
  dest : s.recF l a E.T10_4_DEST = dest % 2 ^ 48
  words : s.memN l (a + 0x28) 16 = w % 2 ^ 128
  status : s.mem l (a + 0x38) 1 = [0]

@[simp] theorem reqRecord_length (kind point code : Nat) (test : Bool) (time count list dest w : Nat) :
    (reqRecord kind point code test time count list dest w).length = 64 := by simp [reqRecord]

/-- The words of a request record, one after another. -/
def reqParts (kind point code : Nat) (test : Bool) (time count list dest w : Nat) : List (Nat × Nat) :=
  [(4, kind % 4), (4, point % 2 ^ 23 + (code % 4) * 2 ^ 23 + b2n test * 2 ^ 25), (12, time), (4, count % 2 ^ 13), (8, list % 2 ^ 48),
    (8, dest % 2 ^ 48), (16, w), (8, 0)]

/-- The octets of little-endian words. -/
def leParts (ps : List (Nat × Nat)) : List Byte := ps.flatMap (fun p => natLe p.1 p.2)

theorem leParts_length (ps : List (Nat × Nat)) : (leParts ps).length = (ps.map Prod.fst).sum := by
  simp [leParts, List.length_flatMap]

theorem reqRecord_eq (kind point code : Nat) (test : Bool) (time count list dest w : Nat) :
    reqRecord kind point code test time count list dest w = leParts (reqParts kind point code test time count list dest w) := by
  simp only [reqRecord, leParts, reqParts, List.flatMap_cons, List.flatMap_nil, List.append_nil, List.append_assoc]

theorem leParts_split (ps : List (Nat × Nat)) {i w v : Nat} (h : ps[i]? = some (w, v)) :
    leParts ps = leParts (ps.take i) ++ (natLe w v ++ leParts (ps.drop (i + 1))) := by
  obtain ⟨hi, hv⟩ := List.getElem?_eq_some_iff.1 h
  conv_lhs => rw [← List.take_append_drop i ps, List.drop_eq_getElem_cons hi, hv]
  rw [leParts, List.flatMap_append, List.flatMap_cons]
  rfl

section
variable {s : State} {l : Lane} {a n : Nat} {ps : List (Nat × Nat)} (h : s.mem l a n = leParts ps) (i : Nat) {w v : Nat}
  (hi : ps[i]? = some (w, v))
include h hi

theorem State.recF_of_parts (f : EFld) (ho : f.off = ((ps.take i).map Prod.fst).sum) (hw : f.hi / 8 + 1 ≤ w) :
    s.recF l a f = bitsOf v f.hi f.lo :=
  State.recF_of_mem (h.trans (leParts_split ps hi)) f (ho.trans (leParts_length _).symm) hw

theorem State.mem_of_parts {off : Nat} (ho : off = ((ps.take i).map Prod.fst).sum) : s.mem l (a + off) w = natLe w v := by
  have := State.mem_part (h.trans (leParts_split ps hi))
  rwa [natLe_length, leParts_length, ← ho] at this

end

theorem State.reads_record {s : State} {l : Lane} {a kind point code : Nat} {test : Bool} {time count list dest w : Nat}
    (h : s.mem l a 64 = reqRecord kind point code test time count list dest w) :
    RecordReads s l a kind point code test time count list dest w := by
  rw [reqRecord_eq] at h
  have hb : b2n test < 2 := by cases test <;> decide
  refine ⟨?_, ?_, ?_, ?_, ?_, ?_, ?_, ?_, ?_, ?_⟩
  · exact (State.recF_of_parts h 0 rfl _ rfl (by decide)).trans (show bitsOf _ 1 0 = _ by unfold bitsOf; omega)
  · exact (State.recF_of_parts h 1 rfl _ rfl (by decide)).trans (show bitsOf _ 22 0 = _ by unfold bitsOf; omega)
  · exact (State.recF_of_parts h 1 rfl _ rfl (by decide)).trans (show bitsOf _ 24 23 = _ by unfold bitsOf; omega)
  · exact (State.recF_of_parts h 1 rfl _ rfl (by decide)).trans (show bitsOf _ 25 25 = _ by unfold bitsOf; omega)
  · exact (State.recF_of_parts h 2 rfl _ rfl (by decide)).trans (show bitsOf _ 95 0 = _ by unfold bitsOf; omega)
  · exact (State.recF_of_parts h 3 rfl _ rfl (by decide)).trans (show bitsOf _ 12 0 = _ by unfold bitsOf; omega)
  · exact (State.recF_of_parts h 4 rfl _ rfl (by decide)).trans (show bitsOf _ 47 0 = _ by unfold bitsOf; omega)
  · exact (State.recF_of_parts h 5 rfl _ rfl (by decide)).trans (show bitsOf _ 47 0 = _ by unfold bitsOf; omega)
  · rw [State.memN, State.mem_of_parts h 6 rfl (off := 0x28) rfl, leNat_natLe]; rfl
  · have := State.mem_of_parts h 7 rfl (off := 0x38) rfl
    rw [show (8 : Nat) = 1 + 7 from rfl, State.mem_add] at this
    exact (List.append_inj_left this (by simp))

/-- The request waits, with or without the cut that the map has taken for it. -/
def ReqWaits (l : Lane) (a : Nat) (r : List Byte) (cut : Option Nat) (s t : State) : Prop :=
  ReqStored l a r s t ∧ t.mem l (a + 0x38) 1 = [0] ∧ (t.lane l).map.pend = (s.lane l).map.pend ∧
    (cut = none → (t.lane l).map.reqs = [⟨64, a, none, [], 0⟩]) ∧
    (cut ≠ none → (t.lane l).map.reqs = [⟨64, a, cut, t.snapList l a, t.recF l a E.T10_4_DEST⟩])

/-- The request waits and no writer is counted. -/
def ReqIdle (l : Lane) (a : Nat) (r : List Byte) (s t : State) : Prop :=
  ReqWaits l a r none s t ∧ (t.lane l).map.waits = (s.lane l).map.waits ∧
    t.fld (.map l) F.MAP_CNT_COUNT 15 = s.fld (.map l) F.MAP_CNT_COUNT 15

/-- The request waits as a writer, counted once. -/
def ReqHeld (l : Lane) (a : Nat) (r : List Byte) (s t : State) : Prop :=
  ReqWaits l a r none s t ∧ .request ∈ (t.lane l).map.waits ∧
    ((s.lane l).map.waits.contains .request = false →
      t.fld (.map l) F.MAP_CNT_COUNT 15 = min (s.fld (.map l) F.MAP_CNT_COUNT 15 + 1) (2 ^ 32 - 1))

/-- The manager's GO: the record is stored and posted, and the map runs. -/
theorem State.reqIssue_manager {s : State} {l : Lane} {a : Nat} (hup : s.laneUp l = true)
    (hd : s.bit (.ins l) F.INS_DIRTY_CTL_EN = false) (hq : (s.lane l).map.reqs = []) (ha : a % 64 = 0) (hs : a + 64 ≤ laneMemSize)
    (r : List Byte) : s.reqIssue l 64 a r = ((s.memW l a r).reqPosted l 64 a).reqRun l 2 := by
  have hreach : s.mayReachRange l 64 true a 64 = true := by rw [State.mayReachRange_manager _ _ _ (by decide), decide_eq_true hs]
  have hb : a < 2 ^ 48 := by unfold laneMemSize at hs; omega
  rw [← State.reqGo_named (by rfl) (by rw [State.lane_memW]; exact hq) ha hb, ← State.memWLog_of_off hd 0]
  simp only [State.reqIssue, hup, hreach, Bool.not_true, Bool.false_eq_true, if_false, if_true]
  rfl

section
variable {l : Lane} {a : Nat} {r : List Byte} {s p : State} (hp : Posted l a r s p)
include hp

theorem Posted.waits_none {u : State} (h0 : p.mem l (a + 0x38) 1 = [0]) (hu : MapStep l (mapCntAt l) p u)
    (hpend : (u.lane l).map.pend = (p.lane l).map.pend) (hreqs : (u.lane l).map.reqs = (p.lane l).map.reqs) :
    ReqWaits l a r none s u :=
  ⟨hp.stored hu, (hu.sameMem.mem ..).trans h0, by rw [hpend, hp.map], fun _ => hreqs.trans hp.reqs, fun h => absurd rfl h⟩

theorem Posted.idle (h0 : p.mem l (a + 0x38) 1 = [0]) : ReqIdle l a r s p :=
  ⟨hp.waits_none h0 (.refl ..) rfl rfl, by rw [hp.map], hp.fld _ _ _ (by cases l <;> decide)⟩

theorem Posted.held (h0 : p.mem l (a + 0x38) 1 = [0]) : ReqHeld l a r s (p.mapWait l .request) := by
  obtain ⟨hmem, hpend, hreqs, hcnt⟩ := p.mapWait_effect l .request
  refine ⟨hp.waits_none h0 (p.mapWait_step l _) hpend hreqs, hmem, fun h => ?_⟩
  rw [hcnt (by rw [hp.map]; exact h), hp.fld _ _ _ (by cases l <;> decide)]

/-- While the map is not enabled (R472). -/
theorem Posted.run_off_idle (h0 : p.mem l (a + 0x38) 1 = [0]) (hen : s.bit (.map l) F.MAP_CTRL_EN = false)
    (hw : ¬p.reqWrites l (postedReq 64 a) = true) : ReqIdle l a r s (p.reqRun l 2) := by
  rw [State.reqRun_off hp.reqs (hp.enabled.trans hen), if_neg hw]
  exact hp.idle h0

theorem Posted.run_off_held (h0 : p.mem l (a + 0x38) 1 = [0]) (hen : s.bit (.map l) F.MAP_CTRL_EN = false)
    (hw : p.reqWrites l (postedReq 64 a) = true) : ReqHeld l a r s (p.reqRun l 2) := by
  rw [State.reqRun_off hp.reqs (hp.enabled.trans hen), if_pos hw]
  exact hp.held h0

end

end Sys2Proof.Machine
end

section
/-! # What the map makes of a manager's WRITE, SNAP and other requests -/

namespace Sys2Proof.Machine
open Sys2Proof

theorem ofT96_bad {w : Nat} (h : 1000000000 ≤ bitsOf w 47 16) : ofT96 w = none := if_pos h

theorem ofT96_of {w : Nat} (h : ¬1000000000 ≤ bitsOf w 47 16) : ofT96 w = some (bitsOf w 95 48 * sec + w % 2 ^ 48) := if_neg h

theorem RecordReads.time_eq {p : State} {l : Lane} {a kind point code : Nat} {test : Bool} {time count list dest w : Nat}
    (h : RecordReads p l a kind point code test time count list dest w) (ht : time < 2 ^ 96) : p.recF l a E.T10_4_TIME = time :=
  h.time.trans (Nat.mod_eq_of_lt ht)

/-- A request that is not a WRITE posts no write. -/
theorem State.reqWrites_of_kind {p : State} {l : Lane} {a : Nat} (ha : a + 64 ≤ laneMemSize) (hk : p.recF l a E.T10_4_KIND ≠ 1) :
    ¬p.reqWrites l (postedReq 64 a) = true := fun h => hk ((State.reqWrites_manager ha).1 h).1

section
variable {l : Lane} {a : Nat} {r : List Byte} {s p : State} (ha : a + 64 ≤ laneMemSize) (hp : Posted l a r s p)
  (hd : s.bit (.ins l) F.INS_DIRTY_CTL_EN = false) (hen : s.bit (.map l) F.MAP_CTRL_EN = true)
include ha hp hd hen

/-- A request of no known KIND, or with a malformed TIME, ends with BADARG. -/
theorem Posted.run_invalid
    (h : (p.recF l a E.T10_4_KIND ≠ 1 ∧ p.recF l a E.T10_4_KIND ≠ 2) ∨ ofT96 (p.recF l a E.T10_4_TIME) = none) :
    ReqEnded l a r 3 s (p.reqRun l 2) :=
  (hp.run_ended (.refl ..) hd hen hp.reqs (State.reqTake_invalid ha h)).1

section
variable {t : Nat} (hk : p.recF l a E.T10_4_KIND = 1) (ht : ofT96 (p.recF l a E.T10_4_TIME) = some t)
include hk ht

theorem Posted.run_write_late (h : t ≤ s.horizon l) :
    ReqEnded l a r 1 s (p.reqRun l 2) ∧ ((p.reqRun l 2).lane l).map.pend = (s.lane l).map.pend := by
  have take := State.reqTake_write ha hk ht
  rw [if_pos (by rwa [hp.horizon])] at take
  obtain ⟨ended, pend, -⟩ := hp.run_ended (.refl ..) hd hen hp.reqs take
  exact ⟨ended, by rw [pend, hp.map]⟩

omit hd in
theorem Posted.run_write_held (h0 : p.mem l (a + 0x38) 1 = [0]) (h : s.horizon l < t) (hroom : s.mapRoom l 1 = false) :
    ReqHeld l a r s (p.reqRun l 2) := by
  have take := State.reqTake_write ha hk ht
  rw [if_neg (by rw [hp.horizon]; omega), hp.mapRoom, hroom, Bool.not_false, if_pos rfl] at take
  rw [State.reqRun_held hp.reqs (hp.enabled.trans hen) take]
  exact hp.held h0

/-- A write of a point that is not the manager's (R240). -/
theorem Posted.run_write_refused (h : s.horizon l < t) (hroom : s.mapRoom l 1 = true)
    (hmay : s.mayWrite l 5 64 (p.recF l a E.T10_4_POINT) = false) :
    ReqEnded l a r 2 s (p.reqRun l 2) ∧ ((p.reqRun l 2).lane l).map.pend = (s.lane l).map.pend ∧
      (p.reqRun l 2).fld (.map l) F.MAP_CNT_COUNT 13 = min (s.fld (.map l) F.MAP_CNT_COUNT 13 + 1) (2 ^ 32 - 1) := by
  have take := State.reqTake_write ha hk ht
  have hmay' := (hp.mayWrite 5 64 _).trans hmay
  rw [if_neg (by rw [hp.horizon]; omega), hp.mapRoom, hroom, if_neg (by decide), hmay', State.mapPost_refused hmay'] at take
  obtain ⟨ended, pend, cnt⟩ := hp.run_ended ((MapStep.refl ..).mapCntEv (by omega) _) hd hen (by rw [State.mapCntEv_map, hp.reqs]) take
  refine ⟨ended, by rw [pend, State.mapCntEv_map, hp.map], ?_⟩
  rw [cnt 13 (by omega), State.fld_mapCntEv_same _ _ _ _ (by omega), hp.fld _ _ _ (by cases l <;> decide)]

/-- A write that is posted waits for its time (R242). -/
theorem Posted.run_write_posted (h : s.horizon l < t) (hroom : s.mapRoom l 1 = true)
    (hmay : s.mayWrite l 5 64 (p.recF l a E.T10_4_POINT) = true) :
    ReqEnded l a r 0 s (p.reqRun l 2) ∧ ((p.reqRun l 2).lane l).map.pend = (s.lane l).map.pend ++
      [⟨some t, none, p.recF l a E.T10_4_POINT, mkRec (p.memN l (a + 0x28) 16) (toT96 t)
          (p.recF l a E.T10_4_CODE) (decide (p.recF l a E.T10_4_TEST = 1)) false 5 false 0, 64⟩] := by
  have take := State.reqTake_write ha hk ht
  have hmay' := (hp.mayWrite 5 64 _).trans hmay
  rw [if_neg (by rw [hp.horizon]; omega), hp.mapRoom, hroom, if_neg (by decide), hmay'] at take
  obtain ⟨step, pend, reqs⟩ := State.mapPost_ahead (s := p) (c := 5) (w := ⟨some t, none, p.recF l a E.T10_4_POINT,
    mkRec (p.memN l (a + 0x28) 16) (toT96 t) (p.recF l a E.T10_4_CODE) (decide (p.recF l a E.T10_4_TEST = 1)) false 5 false 0, 64⟩)
    rfl rfl (by rwa [hp.horizon]) hmay'
  obtain ⟨ended, pend', -⟩ := hp.run_ended step hd hen (reqs.trans hp.reqs) take
  exact ⟨ended, by rw [pend', pend, hp.map]⟩

end

section
variable {t : Nat} (hk : p.recF l a E.T10_4_KIND = 2) (ht : ofT96 (p.recF l a E.T10_4_TIME) = some t)
include hk ht

theorem Posted.run_snap_count (h : p.recF l a E.T10_4_COUNT = 0 ∨ 4096 < p.recF l a E.T10_4_COUNT) :
    ReqEnded l a r 3 s (p.reqRun l 2) := by
  have take := State.reqTake_snap ha hk ht
  rw [if_pos h] at take
  exact (hp.run_ended (.refl ..) hd hen hp.reqs take).1

variable {n list dest : Nat} (hn : p.recF l a E.T10_4_COUNT = n) (hl : p.recF l a E.T10_4_LIST = list)
  (hds : p.recF l a E.T10_4_DEST = dest) (h1 : 0 < n) (h2 : n ≤ 4096)
include hn hl hds h1 h2

omit hp hd hen in
/-- A SNAP with a count in range is judged by its places and its time. -/
theorem State.reqTake_snap_counted : p.reqTake l (postedReq 64 a) =
    if ¬(list + 4 * n ≤ laneMemSize ∧ dest + 32 * n ≤ laneMemSize) then some ((p.refused l 64).reqDone l (postedReq 64 a) 4)
    else if t ≤ p.horizon l then some (p.reqDone l (postedReq 64 a) 1)
    else some (p.setMap l { (p.lane l).map with reqs := (p.lane l).map.reqs.map (fun q =>
      if q = postedReq 64 a then { q with cut := some t, pts := p.snapList l a, dest := dest } else q) }) := by
  have take := State.reqTake_snap ha hk ht
  rw [hn, hl, hds, if_neg (by omega), State.mayReachRange_manager _ _ _ (by omega), State.mayReachRange_manager _ _ _ (by omega)] at take
  rw [take]
  simp only [Bool.not_eq_true', Bool.and_eq_false_iff, decide_eq_false_iff_not, not_and_or]

/-- A LIST or DEST that does not lie in lane memory (R341). -/
theorem Posted.run_snap_denied (h : ¬(list + 4 * n ≤ laneMemSize ∧ dest + 32 * n ≤ laneMemSize)) :
    ReqEnded l a r 4 s (p.reqRun l 2) := by
  have take := State.reqTake_snap_counted ha hk ht hn hl hds h1 h2
  rw [if_pos h] at take
  refine (hp.run_ended (MapStep.refl ..).refused hd hen ?_ take).1
  rw [State.refused, State.bump, State.setFld_lane, hp.reqs]

theorem Posted.run_snap_late (h : list + 4 * n ≤ laneMemSize ∧ dest + 32 * n ≤ laneMemSize) (hlate : t ≤ s.horizon l) :
    ReqEnded l a r 1 s (p.reqRun l 2) := by
  have take := State.reqTake_snap_counted ha hk ht hn hl hds h1 h2
  rw [if_neg (not_not.2 h), if_pos (by rwa [hp.horizon])] at take
  exact (hp.run_ended (.refl ..) hd hen hp.reqs take).1

omit hd in
/-- A SNAP ahead of the horizon waits for its cut (R244). -/
theorem Posted.run_snap_waits (h0 : p.mem l (a + 0x38) 1 = [0])
    (h : list + 4 * n ≤ laneMemSize ∧ dest + 32 * n ≤ laneMemSize) (hlate : s.horizon l < t) :
    ReqWaits l a r (some t) s (p.reqRun l 2) := by
  have take := State.reqTake_snap_counted ha hk ht hn hl hds h1 h2
  rw [if_neg (not_not.2 h), if_neg (by rw [hp.horizon]; omega), hp.reqs, List.map_singleton, if_pos rfl] at take
  let m := { (p.lane l).map with reqs := [⟨64, a, some t, p.snapList l a, dest⟩] }
  change p.reqTake l (postedReq 64 a) = some (p.setMap l m) at take
  have step : MapStep l (mapCntAt l) p ((p.setMap l m).mapGo l .request) := ((MapStep.refl ..).setMap m).trans (State.mapGo_step ..)
  have henu : (p.setMap l m).bit (.map l) F.MAP_CTRL_EN = true :=
    (State.bit_congr (State.fld_congr (State.setMap_regs ..) ..)).trans (hp.enabled.trans hen)
  obtain ⟨pend, reqs⟩ := (p.setMap l m).mapGo_map l .request
  rw [State.reqRun_taken hp.reqs (hp.enabled.trans hen) take henu (by rw [State.setMap_lane]; rfl)]
  refine ⟨hp.stored step, (step.sameMem.mem ..).trans h0, pend.trans ?_, nofun, fun _ => reqs.trans ?_⟩
  · rw [State.setMap_lane]; simp only [m, hp.map]
  · rw [step.sameMem.snapList, step.sameMem.recF, hds, State.setMap_lane]

end

end

end Sys2Proof.Machine
end

section
/-! # O33: requests of the manager and of instances -/

namespace Sys2Proof.Machine
open Sys2Proof

/-! The request registers of instances lie above every register and table. -/

theorem reqReg_instance (l : Lane) {o : Nat} (ho : o < 64) (k : Nat) : 2 ^ 48 + 4 * k ≤ reqReg l o k := by
  rw [reqReg, if_neg (by omega)]
  omega

theorem regAddr_insPage_lt (l : Lane) {o : Nat} (ho : o < 64) (r : RegId) (hr : r.geom.off < 2 ^ 20) :
    regAddr (.insPage l o) r 0 < 2 ^ 48 := by
  have : laneBase l < 2 ^ 40 := by cases l <;> decide
  rw [regAddr_insPage]
  omega

theorem State.rd_setWin_above (s : State) {x : Nat} (v : Word) (p : Page) (r : RegId) (k : Nat) (h : regAddr p r k < x) :
    (s.setWin x v).rd p r k = s.rd p r k := assocGetD_put_other _ _ _ _ _ (by omega)

theorem State.fld_setWin_above (s : State) {x : Nat} (v : Word) (p : Page) (f : Fld) (k : Nat) (h : regAddr p f.id k < x) :
    (s.setWin x v).fld p f k = s.fld p f k := by
  rw [State.fld, State.fld, State.rd_setWin_above _ _ _ _ _ h]

theorem State.ent_lt (s : State) (b : Nat) (f : EFld) : s.ent b f < 2 ^ (f.hi + 8 * (f.off % 4) + 1 - (f.lo + 8 * (f.off % 4))) := bitsOf_lt ..

/-- A word above the tables decides nothing of what an owner may reach. -/
theorem State.mayReach_setWin_above (s : State) {x : Nat} (hx : 2 ^ 48 ≤ x) (v : Word) (l : Lane) (o : Fin 65) (wr : Bool) (a : Nat) :
    (s.setWin x v).mayReach l o wr a = s.mayReach l o wr a := by
  have hdesc : insDesc l o < 2 ^ 40 := by
    have : winAddr (.ins l) .insDescAct 0 < 2 ^ 39 := by cases l <;> decide
    have := o.2
    unfold insDesc winAddr at *
    omega
  have hwin : winAddr (.ins l) .insMwAct 0 < 2 ^ 39 := by cases l <;> decide
  have low {b : Nat} (hb : b < 2 ^ 41) (f : EFld) (hf : f.off / 4 * 4 + 4 * ((f.hi + 8 * (f.off % 4)) / 32 + 1) ≤ 2 ^ 20) :
      (s.setWin x v).ent b f = s.ent b f := State.ent_setWin s v (.inr (by omega))
  unfold State.mayReach
  split
  · rfl
  · dsimp only
    rw [low (by omega) E.T15_1_MW_COUNT (by decide), low (by omega) E.T15_1_MW_FIRST (by decide), Bool.eq_iff_iff, List.any_eq_true,
      List.any_eq_true]
    refine exists_congr fun i => and_congr_right fun hi => ?_
    have hcount : s.ent (insDesc l o) E.T15_1_MW_COUNT < 2 ^ 5 := s.ent_lt ..
    have hfirst : s.ent (insDesc l o) E.T15_1_MW_FIRST < 2 ^ 10 := s.ent_lt ..
    have hentry : winAddr (.ins l) .insMwAct (16 * (s.ent (insDesc l o) E.T15_1_MW_FIRST + i)) < 2 ^ 41 := by
      rw [List.mem_range] at hi
      unfold winAddr at *
      omega
    rw [low hentry E.T15_2_VALID (by decide), low hentry E.T15_2_OWNER (by decide), low hentry E.T15_2_BASE (by decide),
      low hentry E.T15_2_PAGES (by decide), low hentry E.T15_2_W (by decide)]

theorem State.mayReach_congr {s t : State} (h : t.regs = s.regs) (l : Lane) (o : Nat) (wr : Bool) (a : Nat) :
    t.mayReach l o wr a = s.mayReach l o wr a := by
  simp only [State.mayReach, State.ent_congr h]

section
variable (s : State) (l : Lane) {o : Nat} (ho : o < 64) (a : Nat)
include ho

theorem State.fld_reqNamed (f : Fld) (hf : f.id.geom.off < 2 ^ 20) :
    (s.reqNamed l o a).fld (.insPage l o) f = s.fld (.insPage l o) f := by
  have := regAddr_insPage_lt l ho f.id hf
  have := reqReg_instance l ho 0
  have := reqReg_instance l ho 1
  rw [State.reqNamed, State.fld_setWin_above _ _ _ _ _ (by omega), State.fld_setWin_above _ _ _ _ _ (by omega)]

theorem State.ownerRuns_reqNamed : (s.reqNamed l o a).ownerRuns l o = s.ownerRuns l o := by
  rw [State.ownerRuns, State.ownerRuns, State.insState, State.insState, s.fld_reqNamed l ho a F.INS_STATE_STATE (by decide)]

theorem State.mayReach_reqPosted (wr : Bool) (c : Nat) : (s.reqPosted l o a).mayReach l o wr c = s.mayReach l o wr c := by
  have h0 := reqReg_instance l ho 0
  have h1 := reqReg_instance l ho 1
  rw [State.reqPosted, State.mayReach_congr (State.setMap_regs ..), State.reqNamed,
    State.mayReach_setWin_above _ (by omega) _ l ⟨o, by omega⟩, State.mayReach_setWin_above _ (by omega) _ l ⟨o, by omega⟩]

end

/-- Instances that may not start work post nothing (R343, R347). -/
theorem State.reqIssue_stopped {s : State} {l : Lane} {o a : Nat} (ho : o < 64) (hup : s.laneUp l = true)
    (hd : s.bit (.ins l) F.INS_DIRTY_CTL_EN = false) (hr : s.ownerRuns l o = false) (r : List Byte) :
    ∃ u : State, u.regs = s.regs ∧ u.lane l = s.lane l ∧ s.reqIssue l o a r = (u.reqNamed l o a).refused l o := by
  let u : State := if s.mayReachRange l o true a 64 then s.memWLog l 0 a r else s
  have hu : u.regs = s.regs ∧ u.lane l = s.lane l := by
    unfold u
    split
    · rw [State.memWLog_of_off hd]
      exact ⟨State.regs_memW .., State.lane_memW ..⟩
    · exact ⟨rfl, rfl⟩
  have hrun : (u.reqNamed l o a).ownerRuns l o = false := by
    rw [State.ownerRuns_reqNamed _ _ ho, State.ownerRuns, State.insState, State.fld_congr hu.1]
    exact hr
  refine ⟨u, hu.1, hu.2, ?_⟩
  have e : s.reqIssue l o a r = (u.reqNamed l o a).reqGo l o := by simp only [State.reqIssue, hup]; rfl
  rw [e, State.reqGo, hrun]
  rfl

/-- The refusal is counted and posts nothing. -/
theorem State.refused_named {u : State} {l : Lane} {o a : Nat} (ho : o < 64) :
    ((u.reqNamed l o a).refused l o).fld (.insPage l o) F.INS_OCNT_COUNT = min (u.fld (.insPage l o) F.INS_OCNT_COUNT + 1) (2 ^ 32 - 1) ∧
      (((u.reqNamed l o a).refused l o).lane l).map = (u.lane l).map := by
  refine ⟨?_, ?_⟩
  · rw [State.refused, State.fld_bump_same _ _ _ _ _ (by decide) (by decide), u.fld_reqNamed l ho a _ (by decide)]
    rfl
  · simp [State.refused, State.bump]

/-- What a discarded request leaves (R341): its fault word, the count of its owner, and no request. -/
structure ReqFaulted (l : Lane) (o : Nat) (p t : State) : Prop where
  count : t.fld (.insPage l o) F.INS_OCNT_COUNT = min (p.fld (.insPage l o) F.INS_OCNT_COUNT + 1) (2 ^ 32 - 1)
  fault : t.win (reqReg l o 3) = BitVec.ofNat 32 (min (bitsOf (p.win (reqReg l o 3)).toNat 31 16 + 1) 0xFFFF * 65536 + 1)
  reqs : (t.lane l).map.reqs = []
  pend : (t.lane l).map.pend = (p.lane l).map.pend
  mem : SameMem p t
  enabled : t.bit (.map l) F.MAP_CTRL_EN = p.bit (.map l) F.MAP_CTRL_EN

/-- A register apart from the owner's INS_VINT_PEND and the lane's INS_VINT_SUM. -/
theorem apart_vectorAt {l : Lane} {o c : Nat} (h : c ≠ regAddr (.insPage l o) .INS_VINT_PEND 0)
    (hs : c < laneBase l + 0x2400000 ∨ laneBase l + 0x2430000 ≤ c) : ∀ e ∈ vectorAt l o, c < e.1 ∨ e.1 + e.2 ≤ c := by
  have sum (r : RegId) (hr : r.geom.off < 0x30000) : c < regAddr (.ins l) r 0 ∨ regAddr (.ins l) r 0 + 1 ≤ c := by
    rw [regAddr, show Page.base (.ins l) = laneBase l + 0x2400000 from rfl]
    omega
  intro e he
  simp only [vectorAt, List.mem_cons, List.not_mem_nil, or_false] at he
  obtain rfl | rfl | rfl | rfl := he
  · show c < regAddr _ _ _ ∨ regAddr _ _ _ + 1 ≤ c
    omega
  · exact sum _ (by decide)
  · exact sum _ (by decide)
  · exact sum _ (by decide)

/-- The state in which an unreachable request is taken off, its fault is shown and the refusal is counted. -/
def State.reqRefused (p : State) (l : Lane) (o : Nat) : State :=
  ((p.setMap l { (p.lane l).map with reqs := [] }).setWin (reqReg l o 3)
    (BitVec.ofNat 32 (min (bitsOf (p.win (reqReg l o 3)).toNat 31 16 + 1) 0xFFFF * 65536 + 1))).refused l o

theorem State.reqFault_eq {p : State} {l : Lane} {o a : Nat} (hq : (p.lane l).map.reqs = [postedReq o a]) :
    p.reqFault l (postedReq o a) = (p.reqRefused l o).vector l o 8 := by
  have hw (m : MapSt) : (p.setMap l m).win (reqReg l o 3) = p.win (reqReg l o 3) := by rw [State.win, State.win, State.setMap_regs]
  simp only [State.reqFault, hq, List.erase_cons_head, hw, show (postedReq o a).o = o from rfl]
  rfl

theorem State.reqRefused_faulted (p : State) (l : Lane) {o : Nat} (ho : o < 64) : ReqFaulted l o p (p.reqRefused l o) := by
  have habove := reqReg_instance l ho 3
  have hpage := regAddr_insPage_lt l ho RegId.INS_OCNT (by decide)
  have hmap : regAddr (.map l) .MAP_CTRL 0 < regAddr (.insPage l o) .INS_OCNT 0 := by
    have : regAddr (.map l) .MAP_CTRL 0 < laneBase l + 0x2430000 := by cases l <;> decide
    rw [regAddr_insPage]; omega
  refine ⟨?_, ?_, ?_, ?_, fun k => ?_, ?_⟩
  · rw [State.reqRefused, State.refused, State.fld_bump_same _ _ _ _ _ (by decide) (by decide),
      State.fld_setWin_above _ _ _ _ _ (by show regAddr _ RegId.INS_OCNT 0 < _; omega), State.fld_congr (State.setMap_regs ..)]
    rfl
  · have h := State.get_wr_other ((p.setMap l { (p.lane l).map with reqs := [] }).setWin (reqReg l o 3)
      (BitVec.ofNat 32 (min (bitsOf (p.win (reqReg l o 3)).toNat 31 16 + 1) 0xFFFF * 65536 + 1)))
    rw [State.win, assocGetD, State.reqRefused, State.refused, State.bump, State.setFld, h _ _ _ _ _ (by
      show _ ≠ regAddr _ RegId.INS_OCNT 0; omega)]
    exact State.win_setWin_same ..
  · simp [State.reqRefused, State.refused, State.bump]
  · simp [State.reqRefused, State.refused, State.bump]
  · cases l <;> cases k <;> exact ⟨rfl, rfl⟩
  · refine State.bit_congr ?_
    rw [State.reqRefused, State.refused, State.bump, State.fld_setFld_other _ _ _ _ _ _ _ _ (Nat.ne_of_lt hmap),
      State.fld_setWin_above _ _ _ _ _ (by show regAddr _ RegId.MAP_CTRL 0 < _; omega), State.fld_congr (State.setMap_regs ..)]

theorem State.insState_reqRefused (p : State) (l : Lane) {o : Nat} (ho : o < 64) : (p.reqRefused l o).insState l o = p.insState l o := by
  have habove := reqReg_instance l ho 3
  have hpage := regAddr_insPage_lt l ho RegId.INS_STATE (by decide)
  rw [State.insState, State.insState, State.reqRefused, State.refused, State.bump, State.fld_setFld_other,
    State.fld_setWin_above _ _ _ _ _ (by show regAddr _ RegId.INS_STATE 0 < _; omega), State.fld_congr (State.setMap_regs ..)]
  rw [regAddr_insPage, regAddr_insPage]
  have : F.INS_STATE_STATE.id.geom.off ≠ F.INS_OCNT_COUNT.id.geom.off := by decide
  omega

/-- Vector 8 and the map's going on leave what a discarded request left. -/
theorem ReqFaulted.raised {l : Lane} {o : Nat} {p t : State} (h : ReqFaulted l o p t) (ho : o < 64) (hst : t.insState l o = 2) :
    ReqFaulted l o p (t.vector l o 8) := by
  have habove := reqReg_instance l ho 3
  have hpage := regAddr_insPage_lt l ho RegId.INS_VINT_PEND (by decide)
  obtain ⟨step, lane, -⟩ := t.vector_raised l (o := o) (by omega)
  refine ⟨(step.regs.fld _ _ _ (apart_vectorAt ?_ ?_)).trans h.count, ?_, by rw [lane]; exact h.reqs, by rw [lane]; exact h.pend,
    fun k => ⟨(step.sameMem k).1.trans (h.mem k).1, (step.sameMem k).2.trans (h.mem k).2⟩,
    (State.bit_congr (step.regs.fld _ _ _ (apart_vectorAt ?_ (.inl ?_)))).trans h.enabled⟩
  · rw [regAddr_insPage, regAddr_insPage]
    have : F.INS_OCNT_COUNT.id.geom.off ≠ RegId.INS_VINT_PEND.geom.off := by decide
    omega
  · rw [regAddr_insPage]; omega
  · rw [← h.fault, State.win, State.win, assocGetD, assocGetD, step.regs _ (apart_vectorAt ?_ ?_)]
    · omega
    · have : laneBase l < 2 ^ 40 := by cases l <;> decide
      omega
  · have : regAddr (.map l) F.MAP_CTRL_EN.id 0 < laneBase l + 0x2430000 := by cases l <;> decide
    rw [regAddr_insPage]; omega
  · cases l <;> decide

theorem ReqFaulted.mapGo {l : Lane} {o : Nat} {p t : State} (h : ReqFaulted l o p t) (w : Waiter) : ReqFaulted l o p (t.mapGo l w) := by
  obtain ⟨pend, reqs⟩ := t.mapGo_map l w
  have same := (t.mapGo_step l w []).sameMem
  refine ⟨(State.fld_congr (State.mapGo_regs ..) ..).trans h.count, ?_, reqs.trans h.reqs, pend.trans h.pend,
    fun k => ⟨(same k).1.trans (h.mem k).1, (same k).2.trans (h.mem k).2⟩,
    (State.bit_congr (State.fld_congr (State.mapGo_regs ..) ..)).trans h.enabled⟩
  rw [State.win, State.mapGo_regs]
  exact h.fault

theorem State.reqPosted_regs (s : State) (l : Lane) (o a : Nat) : (s.reqPosted l o a).regs = (s.reqNamed l o a).regs :=
  State.setMap_regs ..

/-- Posting moves nothing that a discarded request is judged by. -/
theorem ReqFaulted.of_posted {s t : State} {l : Lane} {o a : Nat} (ho : o < 64) (h : ReqFaulted l o (s.reqPosted l o a) t) :
    ReqFaulted l o s t := by
  have h0 := reqReg_instance l ho 0
  have h1 := reqReg_instance l ho 1
  refine ⟨?_, ?_, h.reqs, ?_, fun k => ?_, ?_⟩
  · rw [h.count, State.fld_congr (State.reqPosted_regs ..), s.fld_reqNamed l ho a _ (by decide)]
  · have : (s.reqPosted l o a).win (reqReg l o 3) = s.win (reqReg l o 3) := by
      rw [State.win, State.reqPosted_regs, ← State.win, State.reqNamed, State.win_setWin_other _ _ _ _ (reqReg_ne l o (by decide)),
        State.win_setWin_other _ _ _ _ (reqReg_ne l o (by decide))]
    rw [h.fault, this]
  · rw [h.pend]; simp [State.reqPosted]
  · refine ⟨(h.mem k).1.trans ?_, (h.mem k).2.trans ?_⟩
    · cases l <;> cases k <;> rfl
    · cases l <;> cases k <;> rfl
  · have hmap : regAddr (.map l) .MAP_CTRL 0 < 2 ^ 48 := by cases l <;> decide
    refine h.enabled.trans (State.bit_congr ?_)
    rw [State.fld_congr (State.reqPosted_regs ..), State.reqNamed,
      State.fld_setWin_above _ _ _ _ _ (by show regAddr _ RegId.MAP_CTRL 0 < _; omega),
      State.fld_setWin_above _ _ _ _ _ (by show regAddr _ RegId.MAP_CTRL 0 < _; omega)]

/-- A request whose record its owner may not reach is discarded (R341). -/
theorem State.reqIssue_unreachable {s : State} {l : Lane} {o a : Nat} (ho : o < 64) (hup : s.laneUp l = true)
    (hr : s.ownerRuns l o = true) (hq : (s.lane l).map.reqs = []) (hen : s.bit (.map l) F.MAP_CTRL_EN = true) (ha : a % 64 = 0)
    (hb : a < 2 ^ 48) (hrange : s.mayReachRange l o true a 64 = false) (hreach : s.mayReach l o true (a + 0x38) = false) (r : List Byte) :
    ReqFaulted l o s (s.reqIssue l o a r) := by
  let p := s.reqPosted l o a
  have e : s.reqIssue l o a r = p.reqRun l 2 := by
    rw [← State.reqGo_named ((State.ownerRuns_reqNamed _ _ ho _).trans hr) hq ha hb]
    simp only [State.reqIssue, hup, hrange]
    rfl
  have hpq : (p.lane l).map.reqs = [postedReq o a] := by simp [p, State.reqPosted]
  have take : p.reqTake l (postedReq o a) = some (p.reqFault l (postedReq o a)) := by
    refine if_pos ?_
    rw [show (postedReq o a).o = o from rfl, show (postedReq o a).addr = a from rfl, s.mayReach_reqPosted l ho, hreach, Bool.and_false]
    rfl
  have hst : p.insState l o = 2 := by
    have : s.insState l o = 2 := by
      rw [State.ownerRuns, decide_eq_false (by omega), Bool.false_or, decide_eq_true_eq] at hr
      exact hr
    rw [← this, State.insState, State.insState, State.fld_congr (State.reqPosted_regs ..),
      s.fld_reqNamed l ho a F.INS_STATE_STATE (by decide)]
  have faulted : ReqFaulted l o p (p.reqFault l (postedReq o a)) := by
    rw [State.reqFault_eq hpq]
    exact (p.reqRefused_faulted l ho).raised ho ((p.insState_reqRefused l ho).trans hst)
  have henp : p.bit (.map l) F.MAP_CTRL_EN = true := faulted.enabled.symm.trans ((faulted.of_posted ho).enabled.trans hen)
  rw [e, State.reqRun_taken hpq henp take (faulted.enabled.trans henp) (by rw [faulted.reqs]; rfl)]
  exact (faulted.mapGo .request).of_posted ho

/-- Settles O33: a manager's record is stored and posted, and what the map makes of it follows the fields that the record then reads;
one of the virtual instances is refused before it is posted, or discarded when the map takes it. -/
theorem mapRequests : Obligations.MapRequests := by
  unfold Obligations.MapRequests
  intro l slot time s hup hw hd hq hsize
  have ha : 64 * slot.toNat % 64 = 0 := by omega
  have off : ∀ {b : Bool}, ¬b = true → b = false := fun h => Bool.eq_false_iff.2 h
  have htime : time.toNat < 2 ^ 96 := time.isLt
  intro m a en h frame stored done waits idle held bad tm
  have hbad {k : Nat} (e : k = time.toNat) (hb : bad) : ofT96 k = none := e ▸ ofT96_bad hb
  have htm {k : Nat} (e : k = time.toNat) (hb : ¬bad) : ofT96 k = some tm := e ▸ ofT96_of hb
  refine ⟨?_, ?_, ?_, ?_⟩
  · intro p code test w cmd r
    have hp : Posted l a r s _ := State.posted hw l a (reqRecord_length ..)
    have next : cmd = .next _ := congrArg ok (State.reqIssue_manager hup hd hq ha hsize r)
    have reads := State.reads_record hp.mem
    have time_eq := reads.time_eq htime
    have point : _ = p.val := reads.point.trans (Nat.mod_eq_of_lt (by have := p.isLt; omega))
    have words : _ = w.toNat := reads.words.trans (Nat.mod_eq_of_lt w.isLt)
    have codes : _ = code.val := reads.code.trans (Nat.mod_eq_of_lt code.isLt)
    refine ⟨fun hen hb ht => ?_, fun hen hb => ?_, fun hen hb => ?_, fun hen hb ht => ?_, fun hen hb ht hroom => ?_,
      fun hen hb ht hroom hmay => ?_, fun hen hb ht hroom hmay => ?_⟩
    · exact ⟨_, next, hp.run_off_held reads.status (off hen)
        ((State.reqWrites_manager hsize).2 ⟨reads.kind, tm, htm time_eq hb, by rwa [hp.horizon]⟩)⟩
    · refine ⟨_, next, hp.run_off_idle reads.status (off hen) fun hwr => ?_⟩
      obtain ⟨-, u, hu, hlate⟩ := (State.reqWrites_manager hsize).1 hwr
      rw [hp.horizon] at hlate
      by_cases hb' : bad
      · exact nomatch (hbad time_eq hb').symm.trans hu
      · have := Option.some.inj ((htm time_eq hb').symm.trans hu)
        have := hb.resolve_left hb'
        omega
    · exact ⟨_, next, hp.run_invalid hsize hd hen (.inr (hbad time_eq hb))⟩
    · exact ⟨_, next, hp.run_write_late hsize hd hen reads.kind (htm time_eq hb) ht⟩
    · exact ⟨_, next, hp.run_write_held hsize hen reads.kind (htm time_eq hb) reads.status ht hroom⟩
    · exact ⟨_, next, hp.run_write_refused hsize hd hen reads.kind (htm time_eq hb) ht hroom (point ▸ hmay)⟩
    · obtain ⟨ended, pend⟩ := hp.run_write_posted hsize hd hen reads.kind (htm time_eq hb) ht hroom (point ▸ hmay)
      refine ⟨_, next, ended, pend.trans ?_⟩
      rw [point, words, codes, reads.test]
      cases test <;> rfl
  · intro count list dest cmd n r inside
    have hp : Posted l a r s _ := State.posted hw l a (reqRecord_length ..)
    have next : cmd = .next _ := congrArg ok (State.reqIssue_manager hup hd hq ha hsize r)
    have reads := State.reads_record hp.mem
    have time_eq := reads.time_eq htime
    have counts : _ = n := reads.count.trans (Nat.mod_eq_of_lt count.isLt)
    have lists : _ = list.toNat := reads.list.trans (Nat.mod_eq_of_lt list.isLt)
    have dests : _ = dest.toNat := reads.dest.trans (Nat.mod_eq_of_lt dest.isLt)
    have kind := reads.kind
    refine ⟨fun hen => ?_, fun hen hb => ?_, fun hen hb h1 h2 hin => ?_, fun hen hb h1 h2 hin ht => ?_, fun hen hb h1 h2 hin ht => ?_⟩
    · exact ⟨_, next, hp.run_off_idle reads.status (off hen) (State.reqWrites_of_kind hsize (by rw [kind]; decide))⟩
    · refine ⟨_, next, ?_⟩
      by_cases hb' : bad
      · exact hp.run_invalid hsize hd hen (.inr (hbad time_eq hb'))
      · exact hp.run_snap_count hsize hd hen kind (htm time_eq hb') (by rw [counts]; exact hb.resolve_left hb')
    · exact ⟨_, next, hp.run_snap_denied hsize hd hen kind (htm time_eq hb) counts lists dests h1 h2 hin⟩
    · exact ⟨_, next, hp.run_snap_late hsize hd hen kind (htm time_eq hb) counts lists dests h1 h2 hin ht⟩
    · exact ⟨_, next, hp.run_snap_waits hsize hen kind (htm time_eq hb) counts lists dests h1 h2 reads.status hin ht⟩
  · intro zero cmd r
    have hp : Posted l a r s _ := State.posted hw l a (reqRecord_length ..)
    have next : cmd = .next _ := congrArg ok (State.reqIssue_manager hup hd hq ha hsize r)
    have reads := State.reads_record hp.mem
    have unknown {k : Nat} (e : k = (if zero then 0 else 3) % 4) : k ≠ 1 ∧ k ≠ 2 := by
      subst e
      cases zero <;> decide
    have kind := unknown reads.kind
    exact ⟨fun hen => ⟨_, next, hp.run_off_idle reads.status (off hen) (State.reqWrites_of_kind hsize kind.1)⟩,
      fun hen => ⟨_, next, hp.run_invalid hsize hd hen (.inl kind)⟩⟩
  · intro o p code test zero w count list dest ho i hi
    have ho' : o.val < 64 := by have := o.2; have : o.val ≠ 64 := fun h => ho (Fin.ext h); omega
    obtain ⟨r, hr⟩ : ∃ r, exec i s = .next (s.reqIssue l o a r) := by
      simp only [List.mem_cons, List.not_mem_nil, or_false] at hi
      obtain rfl | rfl | rfl := hi
      · exact ⟨_, rfl⟩
      · exact ⟨_, rfl⟩
      · exact ⟨_, rfl⟩
    refine ⟨fun hrun => ?_, fun hrun hen hrange hreach => ?_⟩
    · obtain ⟨u, hregs, hlane, e⟩ := State.reqIssue_stopped ho' hup hd hrun r (a := a)
      obtain ⟨hcnt, hmap⟩ := State.refused_named (u := u) (l := l) ho' (a := a)
      refine ⟨_, hr, ?_, ?_, ?_⟩
      · rw [e, hcnt, State.fld_congr hregs]
      · rw [e, hmap, hlane, hq]
      · rw [e, hmap, hlane]
    · have faulted := State.reqIssue_unreachable ho' hup hrun hq hen ha (by unfold laneMemSize at hsize; omega) hrange hreach r
      exact ⟨_, hr, ⟨faulted.count, faulted.reqs, faulted.pend⟩, (faulted.mem .l0).1, (faulted.mem .l1).1, faulted.fault⟩

end Sys2Proof.Machine
end

section
/-! # The state after reset: no word is stored, so every register reads its reset value (R34, R35) -/

namespace Sys2Proof.Machine
open Sys2Proof

/-- Where no word is stored, a register reads its reset value. -/
theorem State.rd_of_no_words {s : State} (h : s.regs = []) (p : Page) (r : RegId) (k : Nat) : s.rd p r k = r.resetAt p k := by
  rw [State.rd, h]
  rfl

/-- Where no word is stored, a table-window word reads 0. -/
theorem State.win_of_no_words {s : State} (h : s.regs = []) (a : Nat) : s.win a = 0 := by
  rw [State.win, h]
  rfl

/-- After reset no domain's queue holds a record. -/
theorem State.reset_evq (d : Dom) : State.reset.evq d = ⟨[], 0⟩ := by
  rcases d with (_ | _) | (_ | _) | _ | _ <;> rfl

/-- Settles O3: nothing is stored after reset, so what is read are the reset values; the domain word and the stores are computed. -/
theorem resetState : Obligations.ResetState := by
  unfold Obligations.ResetState
  have reads := State.rd_of_no_words (s := State.reset) rfl
  refine ⟨reads, by decide, reads .., fun l => ?_, State.win_of_no_words rfl, fun _ _ => rfl, State.reset_evq, rfl, rfl, rfl, ?_, rfl⟩
  · rw [reads]
    cases l <;> rfl
  · exact ⟨rfl, rfl, rfl, rfl, rfl⟩

end Sys2Proof.Machine
end

section
/-! # Passing time: only the clocks and the registers that show a slew's end move (R65, R71, R74, R382) -/

namespace Sys2Proof.Machine
open Sys2Proof

/-- Two states of one moment between which only the clocks of planes and lanes and the registers of slews may have moved. -/
structure ClockStep (s t : State) : Prop where
  regs : RegsOutside followsAt s t
  untimed : t.untimed = s.untimed
  real : t.real = s.real

namespace ClockStep
variable {s t u : State}

theorem refl (s : State) : ClockStep s s := ⟨.refl _ _, rfl, rfl⟩

theorem trans (h : ClockStep s t) (g : ClockStep t u) : ClockStep s u :=
  ⟨h.regs.trans g.regs, g.untimed.trans h.untimed, g.real.trans h.real⟩

/-- A plane's clock moves. -/
theorem setPlane (h : ClockStep s t) (p : Plane) (x : PlaneSt) (hx : x.untimed = (t.plane p).untimed) : ClockStep s (t.setPlane p x) := by
  refine ⟨h.regs.same (State.setPlane_regs ..), Eq.trans ?_ h.untimed, (State.setPlane_real ..).trans h.real⟩
  cases p
  · exact congrArg (fun y => { t.untimed with pa := y }) hx
  · exact congrArg (fun y => { t.untimed with pb := y }) hx

/-- A lane's copy of a clock moves. -/
theorem setLane (h : ClockStep s t) (l : Lane) (x : LaneSt) (hx : x.untimed = (t.lane l).untimed) : ClockStep s (t.setLane l x) := by
  refine ⟨h.regs.same (State.setLane_regs ..), Eq.trans ?_ h.untimed, (State.setLane_real ..).trans h.real⟩
  cases l
  · exact congrArg (fun y => { t.untimed with l0 := y }) hx
  · exact congrArg (fun y => { t.untimed with l1 := y }) hx

/-- A register that shows a slew takes a value. -/
theorem setFld (h : ClockStep s t) (p : Page) (f : Fld) (v k : Nat) (hx : regAt p f.id k ∈ followsAt) : ClockStep s (t.setFld p f v k) :=
  ⟨h.regs.setFld p f v k ⟨_, hx, le_refl _, Nat.lt_succ_self _⟩, h.untimed, h.real⟩

end ClockStep

theorem State.runPlane_step (s : State) (p : Plane) (d : Nat) : ClockStep s (s.runPlane p d) := by
  unfold State.runPlane
  refine iteInduction (fun _ => .refl s) fun _ => ?_
  dsimp only
  refine iteInduction (fun _ => ?_) fun _ => ?_
  · refine ((ClockStep.refl s).setPlane p _ ?_).setFld _ _ _ _ ?_
    · rfl
    · cases p <;> decide
  · refine (ClockStep.refl s).setPlane p _ ?_
    rfl

theorem State.runLane_step (s : State) (l : Lane) (d : Nat) : ClockStep s (s.runLane l d) := by
  unfold State.runLane
  refine iteInduction (fun _ => .refl s) fun _ => ?_
  dsimp only
  refine iteInduction (fun _ => ?_) fun _ => iteInduction (fun _ => ?_) fun _ => ?_
  · refine (ClockStep.refl s).setLane l _ ?_
    rfl
  · refine (((ClockStep.refl s).setLane l _ ?_).setLane l _ ?_).setFld _ _ _ _ ?_
    · rfl
    · rw [State.setLane_lane]
      rfl
    · cases l <;> decide
  · refine (ClockStep.refl s).setLane l _ ?_
    rfl

theorem State.runClocks_step (s : State) (d : Nat) : ClockStep s (s.runClocks d) :=
  (((s.runPlane_step .a d).trans (State.runPlane_step _ .b d)).trans (State.runLane_step _ .l0 d)).trans (State.runLane_step _ .l1 d)

theorem State.slewSpan_step (s : State) (l : Lane) (d : Nat) : ClockStep s (s.slewSpan l d) := by
  unfold State.slewSpan
  split
  · exact .refl s
  · exact (ClockStep.refl s).setLane l _ rfl

/-- What an elapsed time leaves: everything but the clocks and the registers of slews. -/
structure Elapsed (s t : State) (d : Nat) : Prop where
  regs : RegsOutside followsAt s t
  untimed : t.untimed = s.untimed
  real : t.real = s.real + d

theorem State.elapse_elapsed (s : State) (d : Nat) : Elapsed s (s.elapse d) d := by
  have run (u : State) : ClockStep u (((u.slewSpan .l0 d).slewSpan .l1 d).runClocks d) :=
    ((u.slewSpan_step .l0 d).trans (State.slewSpan_step _ .l1 d)).trans (State.runClocks_step _ d)
  unfold State.elapse
  dsimp only
  split
  · have h := run { s with real := s.real + d, ink := { s.ink with vt := s.ink.vt + d } }
    exact ⟨h.regs, h.untimed, h.real⟩
  · have h := run { s with real := s.real + d }
    exact ⟨h.regs, h.untimed, h.real⟩

/-- Elapsed time reaches a moment that is not past. -/
theorem State.le_reachReal (s : State) (m : Nat) : m ≤ (s.reachReal m).real := by
  have := (s.elapse_elapsed (m - s.real)).real
  unfold State.reachReal
  omega

namespace Elapsed
variable {s t : State} {d : Nat} (h : Elapsed s t d)
include h

theorem dom : t.dom = s.dom := (congrArg State.dom h.untimed :)
theorem pairQ : t.pairQ = s.pairQ := (congrArg State.pairQ h.untimed :)
theorem com : t.com = s.com := (congrArg State.com h.untimed :)
theorem pending : t.pending = s.pending := (congrArg State.pending h.untimed :)
theorem mem0 : t.mem0 = s.mem0 := (congrArg State.mem0 h.untimed :)
theorem mem1 : t.mem1 = s.mem1 := (congrArg State.mem1 h.untimed :)
theorem flash0 : t.flash0 = s.flash0 := (congrArg State.flash0 h.untimed :)
theorem flash1 : t.flash1 = s.flash1 := (congrArg State.flash1 h.untimed :)

end Elapsed

end Sys2Proof.Machine
end

section
/-! # Vectors, and the pairing queues: what raising a vector, storing a queue and flagging a target leave (R37, R38, R355) -/

namespace Sys2Proof.Machine
open Sys2Proof

/-- A register of the ranges listed. -/
theorem regIn_of_mem {rs : List (Nat × Nat)} {p : Page} {r : RegId} {k : Nat} (h : regAt p r k ∈ rs) : RegIn rs p r k :=
  ⟨_, h, le_refl _, Nat.lt_succ_self _⟩

/-! What recording an event leaves. -/

section
variable {s t : State} (h : t.quiet = s.quiet)
include h

theorem State.dom_of_quiet : t.dom = s.dom := (congrArg State.dom h :)
theorem State.pairQ_of_quiet : t.pairQ = s.pairQ := (congrArg State.pairQ h :)
theorem State.pending_of_quiet : t.pending = s.pending := (congrArg State.pending h :)
theorem State.real_of_quiet : t.real = s.real := (congrArg State.real h :)
theorem State.com_of_quiet : t.com = s.com := (congrArg State.com h :)
theorem State.pins_of_quiet : t.pins = s.pins := (congrArg State.pins h :)
theorem State.mem0_of_quiet : t.mem0 = s.mem0 := (congrArg State.mem0 h :)
theorem State.mem1_of_quiet : t.mem1 = s.mem1 := (congrArg State.mem1 h :)
theorem State.flash0_of_quiet : t.flash0 = s.flash0 := (congrArg State.flash0 h :)
theorem State.flash1_of_quiet : t.flash1 = s.flash1 := (congrArg State.flash1 h :)
theorem State.still_of_quiet : t.ink.still = s.ink.still := (congrArg State.ink h :)

end

theorem State.up_congr {s t : State} (h : t.dom = s.dom) (d : Dom) : t.up d = s.up d := by
  rw [State.up, State.domSt_of_dom s t h, State.up]

theorem State.laneUp_congr {s t : State} (h : t.dom = s.dom) (l : Lane) : t.laneUp l = s.laneUp l := State.up_congr h _

/-! Vectors. -/

/-- The registers that raising any vector of an owner may store to: the owner's page and the lane's INS_VINT_SUM (R355 to R357). -/
def vectorsAt (l : Lane) (o : Nat) : List (Nat × Nat) :=
  [(Page.base (.insPage l o), 0x100), regAt (.ins l) .INS_VINT_SUM_LO, regAt (.ins l) .INS_VINT_SUM_HI, regAt (.ins l) .INS_VINT_SUM_MGR]

/-- A register of an owner's page. -/
theorem insPage_in_vectorsAt (l : Lane) (o : Nat) (r : RegId) (k : Nat) (h : r.geom.off + k * r.geom.stride < 0x100) :
    RegIn (vectorsAt l o) (.insPage l o) r k :=
  ⟨_, .head _, by simp only [regAddr]; omega, by simp only [regAddr]; omega⟩

theorem State.vintSum_regs (s : State) (l : Lane) (o : Nat) : RegsOutside (vectorsAt l o) s (s.vintSum l o) := by
  obtain ⟨r, v, hr, e⟩ := s.vintSum_eq l o
  rw [e]
  refine (RegsOutside.refl _ s).wr _ _ _ _ (regIn_of_mem ?_)
  simp only [List.mem_cons, List.not_mem_nil, or_false] at hr
  obtain rfl | rfl | rfl := hr <;> simp [vectorsAt]

theorem State.vector_regs (s : State) (l : Lane) (o : Nat) {v : Nat} (hv : v < 256) :
    RegsOutside (vectorsAt l o) s (s.vector l o v) := by
  unfold State.vector
  refine iteInduction (fun _ => ?_) fun _ => ?_
  · exact (RegsOutside.refl _ s).bump _ _ _ _ (insPage_in_vectorsAt l o _ _ (by decide))
  · refine ((RegsOutside.refl _ s).wr _ _ _ _ (insPage_in_vectorsAt l o _ _ ?_)).trans (State.vintSum_regs _ l o)
    show 0x40 + v / 32 * 4 < 0x100
    omega

@[simp] theorem State.body_vector (s : State) (l : Lane) (o v : Nat) : (s.vector l o v).body = s.body := by
  unfold State.vector
  exact iteInduction (motive := fun t => State.body t = s.body) (fun _ => rfl) fun _ => rfl

/-- The manager's vectors in both lanes. -/
def mgrVectorsAt : List (Nat × Nat) := vectorsAt .l0 64 ++ vectorsAt .l1 64

theorem State.mgrVector_regs (s : State) {v : Nat} (hv : v < 256) : RegsOutside mgrVectorsAt s (s.mgrVector v) := by
  have one (u : State) (l : Lane) : RegsOutside mgrVectorsAt u (u.vector l 64 v) :=
    (u.vector_regs l 64 hv).mono (by cases l <;> simp +contextual [mgrVectorsAt])
  have all (ls : List Lane) (u : State) : RegsOutside mgrVectorsAt u (ls.foldl (fun s l => s.vector l 64 v) u) := by
    induction ls generalizing u with
    | nil => exact .refl _ u
    | cons l ls ih => exact (one u l).trans (ih _)
  exact all _ s

@[simp] theorem State.body_mgrVector (s : State) (v : Nat) : (s.mgrVector v).body = s.body := by
  have all (ls : List Lane) (u : State) : (ls.foldl (fun s l => s.vector l 64 v) u).body = u.body := by
    induction ls generalizing u with
    | nil => rfl
    | cons l ls ih => exact (ih _).trans (State.body_vector ..)
  exact all _ s

/-! Pairing queues. -/

theorem lane_idx_lt (l : Lane) : l.idx < 2 := by cases l <;> decide

theorem lane_idx_inj {l m : Lane} (h : l.idx = m.idx) : l = m := by cases l <;> cases m <;> simp_all [Lane.idx]

theorem pairIdx_inj {t u : PairTarget} (h : pairIdx t = pairIdx u) : t = u := by cases t <;> cases u <;> simp_all [pairIdx]

theorem lane_other_ne (l : Lane) : l.other ≠ l := by cases l <;> decide

/-- Each target and lane has a queue of its own. -/
theorem pairKey_ne {t u : PairTarget} {l m : Lane} (h : (u, m) ≠ (t, l)) : 2 * pairIdx u + m.idx ≠ 2 * pairIdx t + l.idx := by
  intro e
  have := lane_idx_lt l
  have := lane_idx_lt m
  exact h (by rw [pairIdx_inj (show pairIdx u = pairIdx t by omega), lane_idx_inj (show m.idx = l.idx by omega)])

/-- What an entry of a queue asks for, without the time since which it waits. -/
def pairWrite (e : PairEntry) : Nat × Word := (e.addr, e.data)

@[simp] theorem State.pairQ_setPairQ_nil (s : State) (t : PairTarget) (l : Lane) (b : Bool) : (s.setPairQ t l [] b).pairQ_ t l = [] :=
  assocGetD_put_same ..

/-- A stored queue asks for the writes it was given. -/
theorem State.pairQ_setPairQ_writes (s : State) (t : PairTarget) (l : Lane) (q : List PairEntry) (b : Bool) :
    ((s.setPairQ t l q b).pairQ_ t l).map pairWrite = q.map pairWrite := by
  cases q with
  | nil => rw [State.pairQ_setPairQ_nil]
  | cons e q =>
    refine (congrArg (List.map pairWrite) (assocGetD_put_same ..)).trans ?_
    cases b <;> rfl

theorem State.pairQ_setPairQ_other (s : State) {t u : PairTarget} {l m : Lane} (q : List PairEntry) (b : Bool) (h : (u, m) ≠ (t, l)) :
    (s.setPairQ t l q b).pairQ_ u m = s.pairQ_ u m :=
  assocGetD_put_other _ _ _ _ _ (pairKey_ne h)

/-- Storing a queue leaves the other lane's. -/
theorem State.pairQ_setPairQ_partner (s : State) (t : PairTarget) (l : Lane) (q : List PairEntry) (b : Bool) :
    (s.setPairQ t l q b).pairQ_ t l.other = s.pairQ_ t l.other :=
  s.pairQ_setPairQ_other q b fun e => lane_other_ne l (Prod.mk.inj e).2

/-- Both queues of a target emptied. -/
def State.unpaired (s : State) (t : PairTarget) : State := (s.setPairQ t .l0 [] true).setPairQ t .l1 [] true

theorem State.pairQ_unpaired (s : State) (t u : PairTarget) (m : Lane) :
    (s.unpaired t).pairQ_ u m = if u = t then [] else s.pairQ_ u m := by
  unfold State.unpaired
  split
  · next h =>
    subst h
    cases m
    · exact ((s.setPairQ u .l0 [] true).pairQ_setPairQ_partner u .l1 [] true).trans (State.pairQ_setPairQ_nil ..)
    · exact State.pairQ_setPairQ_nil ..
  · next h =>
    have hne (l : Lane) : (u, m) ≠ (t, l) := fun e => h (Prod.mk.inj e).1
    rw [State.pairQ_setPairQ_other _ _ _ (hne _), State.pairQ_setPairQ_other _ _ _ (hne _)]

/-- With a lane's queue empty no heads meet. -/
theorem State.pairMatch_of_empty {s : State} {t : PairTarget} {l : Lane} (h : s.pairQ_ t l = []) (n : Nat) : s.pairMatch t n = s := by
  cases n with
  | zero => rfl
  | succ n =>
    unfold State.pairMatch
    split
    · next h0 h1 => cases l <;> simp_all
    · rfl

/-- Two lone heads that agree are performed once, and both queues are then empty (R37). -/
theorem State.pairMatch_agree {s : State} {t : PairTarget} {x y : PairEntry} (h0 : s.pairQ_ t .l0 = [x]) (h1 : s.pairQ_ t .l1 = [y])
    (h : x.addr = y.addr ∧ x.data = y.data) : s.pairMatch t 1 = (s.unpaired t).pairPerform t x := by
  simp only [State.pairMatch, h0, h1, if_pos h]
  rfl

/-- Two lone heads that differ discard both queues and set MISMATCH (R38). -/
theorem State.pairMatch_differ {s : State} {t : PairTarget} {x y : PairEntry} (h0 : s.pairQ_ t .l0 = [x]) (h1 : s.pairQ_ t .l1 = [y])
    (h : ¬(x.addr = y.addr ∧ x.data = y.data)) : s.pairMatch t 1 = (s.unpaired t).pairFlag t false := by
  simp only [State.pairMatch, h0, h1, if_neg h]
  rfl

/-- With both lanes UP no queue takes effect by itself (R39). -/
theorem State.settlePairs_of_lanes_up {s : State} {l : Lane} (h : s.laneUp l = true) (h' : s.laneUp l.other = true) :
    s.settlePairs = s := by
  cases l <;> simp_all [State.settlePairs, Lane.other]

/-! Flags of a target. -/

/-- A lane's CFG_PAIR_STATUS with one more bit set. -/
def State.pairMark (s : State) (b : Nat) (l : Lane) : State :=
  s.wr (.lcfg l) .CFG_PAIR_STATUS 0 (BitVec.ofNat 32 (bitsPut (s.rd (.lcfg l) .CFG_PAIR_STATUS).toNat b b 1))

/-- The same in both lanes. -/
def State.pairMarked (s : State) (b : Nat) : State := (s.pairMark b .l0).pairMark b .l1

theorem State.rd_pairMark_other (s : State) (b : Nat) (l : Lane) :
    (s.pairMark b l).rd (.lcfg l.other) .CFG_PAIR_STATUS = s.rd (.lcfg l.other) .CFG_PAIR_STATUS :=
  State.rd_wr_other _ _ _ _ _ _ _ _ (by cases l <;> decide)

theorem State.rd_pairMarked (s : State) (b : Nat) (m : Lane) : (s.pairMarked b).rd (.lcfg m) .CFG_PAIR_STATUS =
    BitVec.ofNat 32 (bitsPut (s.rd (.lcfg m) .CFG_PAIR_STATUS).toNat b b 1) := by
  cases m
  · exact ((s.pairMark b .l0).rd_pairMark_other b .l1).trans (State.rd_wr_same ..)
  · exact (State.rd_wr_same ..).trans (congrArg (fun w : Word => BitVec.ofNat 32 (bitsPut w.toNat b b 1)) (s.rd_pairMark_other b .l0))

/-- The bits of CFG_PAIR_STATUS after one of them is set. -/
theorem State.bit_pairMarked (s : State) {b c : Nat} (hc : c < 32) (m : Lane) :
    bitsOf ((s.pairMarked b).rd (.lcfg m) .CFG_PAIR_STATUS).toNat c c =
      if c = b then 1 else bitsOf (s.rd (.lcfg m) .CFG_PAIR_STATUS).toNat c c := by
  rw [State.rd_pairMarked, bitsOf_toNat_ofNat _ _ _ hc]
  split
  · next h => rw [h, bitsOf_put_same, show b + 1 - b = 1 by omega]; rfl
  · exact bitsOf_bitsPut_apart _ _ _ _ _ _ (le_refl _) (by omega)

/-- The registers that flagging a target may store to. -/
def pairFlagAt : List (Nat × Nat) :=
  [regAt (.lcfg .l0) .CFG_PAIR_STATUS, regAt (.lcfg .l1) .CFG_PAIR_STATUS, evrAt,
    (Page.base (.ins .l0), 0x400000), (Page.base (.ins .l1), 0x400000)]

theorem mgrVectorsAt_inside : ∀ e ∈ mgrVectorsAt, ∃ f ∈ pairFlagAt, f.1 ≤ e.1 ∧ e.1 + e.2 ≤ f.1 + f.2 := by decide

/-- Flagging a target sets its bit in both lanes, and beside that only records an event and raises a vector (R38, R355). -/
structure PairFlagged (b : Nat) (s t : State) : Prop where
  regs : RegsOutside pairFlagAt s t
  quiet : t.quiet = s.quiet
  bits : ∀ m c, c < 6 → bitsOf (t.rd (.lcfg m) .CFG_PAIR_STATUS).toNat c c =
    if c = b then 1 else bitsOf (s.rd (.lcfg m) .CFG_PAIR_STATUS).toNat c c

theorem State.pairFlag_flagged (s : State) (t : PairTarget) (timeout : Bool) :
    PairFlagged (pairIdx t + 3 * b2n timeout) s (s.pairFlag t timeout) := by
  let b := pairIdx t + 3 * b2n timeout
  let told := (s.pairMarked b).evStatus (.lane .l0) bkCFG 2 b 0 ((s.pairMarked b).rd (.lcfg .l0) .CFG_PAIR_STATUS).toNat
  have e : s.pairFlag t timeout = told.mgrVector 54 := rfl
  have event : RegsOutside [evrAt] (s.pairMarked b) told := RegsOutside.evStatus (.head _) _ _ _ _ _ _ (.refl _ _)
  have vector := told.mgrVector_regs (v := 54) (by decide)
  rw [e]
  refine ⟨?_, ?_, fun m c hc => ?_⟩
  · refine (RegsOutside.trans ?_ (event.mono (by simp [pairFlagAt]))).trans (vector.cover mgrVectorsAt_inside)
    exact ((RegsOutside.refl _ s).wr _ _ _ _ (regIn_of_mem (.head _))).wr _ _ _ _ (regIn_of_mem (.tail _ (.head _)))
  · exact (State.quiet_of_body (State.body_mgrVector ..)).trans (evStatus_quiet ..)
  · rw [vector.rd _ _ _ (by cases m <;> decide), event.rd _ _ _ (by cases m <;> decide), State.bit_pairMarked s (by omega)]

end Sys2Proof.Machine
end

section
/-! # O7: how a core's write to a plane is paired -/

namespace Sys2Proof.Machine
open Sys2Proof

/-- An aligned address of a plane's register in a core's view (R36). -/
theorem coreAt_plane (l : Lane) {a o : Nat} {p : Plane} (ha : placeAt a = .plane p o) (h4 : o % 4 = 0) (hn : planeAt p o ≠ .none) :
    coreAt l a 4 = .to_ (.plane p o) := by
  simp [coreAt, ha, aligned, h4, hn]

theorem pairDom_plane (p : Plane) (o : Nat) : pairDom (pairTgt (.plane p o)) = .plane p := by cases p <;> rfl

section
variable {p : Plane} {l : Lane} {a o k : Nat} {pg : Page} {r : RegId} {s : State}

/-- A core's write to a plane enters its lane's queue (R37). -/
theorem exec_pairedWrite_plane (hl : s.laneUp l = true) (ha : placeAt a = .plane p o) (h4 : o % 4 = 0) (hat : planeAt p o = .reg pg r k)
    (data : Word) : exec (.pairedWrite l a data) s = .next (s.pairEnter (pairTgt (.plane p o)) l a data).settlePairs := by
  simp [exec, execPairedWrite, hl, coreAt_plane l ha h4 (by simp [hat])]

/-- The target's write of a waiting entry is the register's (R37). -/
theorem State.pairPerform_plane (hup : s.planeUp p = true) {e : PairEntry} (ha : placeAt e.addr = .plane p o)
    (hat : planeAt p o = .reg pg r k) : s.pairPerform (pairTgt (.plane p o)) e = s.regWrite pg r k e.data := by
  rw [State.pairPerform, pairDom_plane, show s.up (.plane p) = true from hup]
  simp only [ha, hat]
  rfl

/-- Alone UP, a lane's write takes effect at once (R39). -/
theorem State.pairEnter_alone (hup : s.planeUp p = true) (ho : s.laneUp l.other = false) (data : Word) :
    s.pairEnter (pairTgt (.plane p o)) l a data = s.pairPerform (pairTgt (.plane p o)) ⟨a, data, 0⟩ := by
  rw [State.pairEnter, pairDom_plane, show s.up (.plane p) = true from hup, ho]
  rfl

/-- With both lanes UP, a lane's write joins its queue, and the heads meet (R37). -/
theorem State.pairEnter_queued (hup : s.planeUp p = true) (ho : s.laneUp l.other = true) (data : Word) :
    s.pairEnter (pairTgt (.plane p o)) l a data =
      (s.setPairQ (pairTgt (.plane p o)) l (s.pairQ_ (pairTgt (.plane p o)) l ++ [⟨a, data, s.real⟩])
        (s.pairQ_ (pairTgt (.plane p o)) l).isEmpty).pairMatch (pairTgt (.plane p o)) ((s.pairQ_ (pairTgt (.plane p o)) l).length + 1) := by
  rw [State.pairEnter, pairDom_plane, show s.up (.plane p) = true from hup, ho]
  rfl

end

/-- Both lanes' lone entries that meet when a lane's write finds one partner waiting. -/
theorem State.pairMatch_lone {s : State} {t : PairTarget} {l : Lane} {x e : PairEntry} (hx : s.pairQ_ t l = [x])
    (he : s.pairQ_ t l.other = [e]) :
    ((e.addr = x.addr ∧ e.data = x.data) → ∃ y, (y = x ∨ y = e) ∧ s.pairMatch t 1 = (s.unpaired t).pairPerform t y) ∧
      (¬(e.addr = x.addr ∧ e.data = x.data) → s.pairMatch t 1 = (s.unpaired t).pairFlag t false) := by
  have hs : (e.addr = x.addr ∧ e.data = x.data) ↔ (x.addr = e.addr ∧ x.data = e.data) := by
    constructor <;> exact fun h => ⟨h.1.symm, h.2.symm⟩
  cases l
  · exact ⟨fun h => ⟨x, .inl rfl, State.pairMatch_agree hx he (hs.1 h)⟩, fun h => State.pairMatch_differ hx he fun g => h (hs.2 g)⟩
  · exact ⟨fun h => ⟨e, .inr rfl, State.pairMatch_agree he hx h⟩, State.pairMatch_differ he hx⟩

/-- Storing a queue and emptying both is emptying both, for every queue's reader. -/
theorem State.pairQ_unpaired_setPairQ (s : State) (t : PairTarget) (l : Lane) (q : List PairEntry) (b : Bool) (u : PairTarget) (m : Lane) :
    ((s.setPairQ t l q b).unpaired t).pairQ_ u m = if u = t then [] else s.pairQ_ u m := by
  rw [State.pairQ_unpaired]
  split
  · rfl
  · next h => exact s.pairQ_setPairQ_other q b fun e => h (Prod.mk.inj e).1

/-- PAIR_TIMEOUT of a head without a partner, while both lanes are UP (R38). -/
theorem exec_pairTimeout {t : PairTarget} {l : Lane} {e : PairEntry} {q : List PairEntry} {s : State} (hl : s.laneUp l = true)
    (ho : s.laneUp l.other = true) (hq : s.pairQ_ t l = e :: q) (hn : s.pairQ_ t l.other = []) :
    exec (.pairTimeout t l) s = .next (((s.reachReal (e.at_ + ms)).setPairQ t l q true).pairFlag t true) := by
  simp [exec, execPairTimeout, hq, hn, hl, ho]

/-- What a head that times out leaves, after time has passed and its queue has lost it. -/
theorem PairFlagged.of_timeout {s v w t : State} {d : Nat} {tg : PairTarget} {l : Lane} {q : List PairEntry} (passed : Elapsed s v d)
    (flagged : PairFlagged (pairIdx tg + 3) w t) (hw : w = v.setPairQ tg l q true) :
    (t.pairQ_ tg l).map pairWrite = q.map pairWrite ∧ (∀ u m, (u, m) ≠ (tg, l) → t.pairQ_ u m = s.pairQ_ u m) ∧ v.real ≤ t.real ∧
      (∀ m b, b < 6 → bitsOf (t.rd (.lcfg m) .CFG_PAIR_STATUS).toNat b b =
        if b = pairIdx tg + 3 then 1 else bitsOf (s.rd (.lcfg m) .CFG_PAIR_STATUS).toNat b b) ∧
      RegsOutside (followsAt ++ pairFlagAt) s t ∧
      t.mem0 = s.mem0 ∧ t.mem1 = s.mem1 ∧ t.flash0 = s.flash0 ∧ t.flash1 = s.flash1 ∧ t.dom = s.dom ∧ t.pending = s.pending := by
  subst hw
  have quiet := flagged.quiet
  have queue (u : PairTarget) (m : Lane) : t.pairQ_ u m = (v.setPairQ tg l q true).pairQ_ u m :=
    State.pairQ_congr (State.pairQ_of_quiet quiet) u m
  refine ⟨?_, fun u m h => ?_, (State.real_of_quiet quiet).ge, fun m b hb => ?_, ?_, (State.mem0_of_quiet quiet).trans passed.mem0,
    (State.mem1_of_quiet quiet).trans passed.mem1, (State.flash0_of_quiet quiet).trans passed.flash0,
    (State.flash1_of_quiet quiet).trans passed.flash1, (State.dom_of_quiet quiet).trans passed.dom,
    (State.pending_of_quiet quiet).trans passed.pending⟩
  · rw [queue]
    exact v.pairQ_setPairQ_writes ..
  · rw [queue, v.pairQ_setPairQ_other _ _ h]
    exact State.pairQ_congr passed.pairQ u m
  · have same : (v.setPairQ tg l q true).rd (.lcfg m) .CFG_PAIR_STATUS = s.rd (.lcfg m) .CFG_PAIR_STATUS :=
      passed.regs.rd _ _ _ (by cases m <;> decide)
    rw [flagged.bits m b hb, same]
  · exact (passed.regs.mono fun e h => List.mem_append_left _ h).trans (flagged.regs.mono fun e h => List.mem_append_right _ h)

/-- Settles O7: a write joins the end of its queue; two lone heads are performed once or discarded with MISMATCH; a lone head is
discarded with TIMEOUT after its time has passed. -/
theorem pairedWrites : Obligations.PairedWrites := by
  unfold Obligations.PairedWrites
  refine ⟨fun p l addr o data pg r k s hup hl hat h4 hreg => ?_, fun tg l e q s hl ho hq hn => ?_⟩
  · intro tg
    rw [exec_pairedWrite_plane hl hat h4 hreg]
    refine ⟨fun ho hq => ?_, fun ho hn => ?_, fun e ho hq hn => ?_⟩
    · rw [State.pairEnter_alone hup ho, State.pairPerform_plane hup hat hreg]
    · let t := s.setPairQ tg l (s.pairQ_ tg l ++ [⟨addr, data, s.real⟩]) (s.pairQ_ tg l).isEmpty
      have entered : s.pairEnter tg l addr data = t := by
        refine (State.pairEnter_queued hup ho data).trans (State.pairMatch_of_empty (l := l.other) ?_ _)
        rw [State.pairQ_setPairQ_partner, hn]
      have settled : t.settlePairs = t := State.settlePairs_of_lanes_up (l := l) hl ho
      refine ⟨t, by rw [entered, settled], ?_, fun u m h => s.pairQ_setPairQ_other _ _ h, rfl⟩
      exact (s.pairQ_setPairQ_writes ..).trans List.map_append
    · let x : PairEntry := ⟨addr, data, s.real⟩
      let u := s.setPairQ tg l [x] true
      have entered : s.pairEnter tg l addr data = u.pairMatch tg 1 := by
        rw [State.pairEnter_queued hup ho data, hq]
        rfl
      obtain ⟨agree, differ⟩ := State.pairMatch_lone (s := u) (x := x) (assocGetD_put_same ..) ((s.pairQ_setPairQ_partner ..).trans hn)
      have emptied := s.pairQ_unpaired_setPairQ tg l [x] true
      refine ⟨fun h => ⟨u.unpaired tg, emptied, rfl, ?_⟩, fun h => ?_⟩
      · obtain ⟨y, hy, performed⟩ := agree h
        have same : y.addr = addr ∧ y.data = data := by
          obtain rfl | rfl := hy
          · exact ⟨rfl, rfl⟩
          · exact h
        rw [entered, performed, State.pairPerform_plane (s := u.unpaired tg) hup (same.1 ▸ hat) hreg, same.2]
      · have flagged := (u.unpaired tg).pairFlag_flagged tg false
        have dom : ((u.unpaired tg).pairFlag tg false).dom = s.dom := (State.dom_of_quiet flagged.quiet :)
        have settled : ((u.unpaired tg).pairFlag tg false).settlePairs = (u.unpaired tg).pairFlag tg false :=
          State.settlePairs_of_lanes_up ((State.laneUp_congr dom l).trans hl) ((State.laneUp_congr dom l.other).trans ho)
        refine ⟨_, by rw [entered, differ h, settled], fun v m => ?_, flagged.bits, flagged.regs, ?_⟩
        · exact (State.pairQ_congr (State.pairQ_of_quiet flagged.quiet) v m).trans (emptied v m)
        · exact congrArg (fun v : State => { v with pairQ := s.pairQ }) flagged.quiet
  · rw [exec_pairTimeout hl ho hq hn]
    have passed := s.elapse_elapsed (e.at_ + ms - s.real)
    obtain ⟨gone, others, time, bits, regs, rest⟩ := PairFlagged.of_timeout passed (State.pairFlag_flagged _ tg true) (l := l) (q := q) rfl
    exact ⟨_, rfl, gone, others, le_trans (s.le_reachReal _) time, bits, regs, rest⟩

end Sys2Proof.Machine
end

section
/-! # O8: the broadcast window of the lanes, and words that cross a fence (R13, R30, R41, R42, R434) -/

namespace Sys2Proof.Machine
open Sys2Proof

/-! Counters that raise an event. -/

/-- A counter that raises an event adds one, saturating; beside it only the recorder's registers move. -/
structure Counted (p : Page) (f : Fld) (k : Nat) (s t : State) : Prop where
  count : t.fld p f k = min (s.fld p f k + 1) f.maxVal
  regs : RegsOutside [regAt p f.id k, evrAt] s t
  quiet : t.quiet = s.quiet

theorem State.bumpEv_counted (s : State) (d : Dom) (p : Page) (f : Fld) (k b x u : Nat) (h32 : f.hi < 32) (hlo : f.lo ≤ f.hi)
    (ha : regAddr p f.id k < evrAt.1 ∨ evrAt.1 + evrAt.2 ≤ regAddr p f.id k) : Counted p f k s (s.bumpEv d p f k b x u) := by
  have event : RegsOutside [evrAt] (s.bump p f k) (s.bumpEv d p f k b x u) := RegsOutside.evCount (.head _) _ _ _ _ _ _ (.refl _ _)
  refine ⟨?_, ?_, bumpEv_quiet ..⟩
  · rw [event.fld _ _ _ (by simpa using ha), State.fld_bump_same _ _ _ _ _ h32 hlo]
  · exact ((RegsOutside.refl _ s).bump _ _ _ _ (regIn_of_mem (.head _))).trans (event.mono fun _ h => .tail _ h)

theorem domBltIdx_lt (d : Dom) : domBltIdx d < 6 := by
  rcases d with (_ | _) | (_ | _) | _ | _ <;> decide

/-- The counters of the BLT_ block lie apart from the recorder. -/
theorem blt_apart_evr {r : RegId} {k : Nat} (h : r.geom.off + k * r.geom.stride < 0x100000) :
    regAddr .blt r k < evrAt.1 ∨ evrAt.1 + evrAt.2 ≤ regAddr .blt r k := by
  right
  show commonBase + 0x400000 + 0x100000 ≤ commonBase + 0x600000 + r.geom.off + k * r.geom.stride
  omega

theorem State.countUnc_counted (s : State) (d : Dom) : Counted .blt F.BLT_UNC_COUNT (domBltIdx d) s (s.countUnc d) := by
  have := domBltIdx_lt d
  refine s.bumpEv_counted _ _ _ _ _ _ _ (by decide) (by decide) (blt_apart_evr ?_)
  show 0x60 + domBltIdx d * 4 < 0x100000
  omega

theorem State.countCorr_counted (s : State) (d : Dom) : Counted .blt F.BLT_CORR_COUNT (domBltIdx d) s (s.countCorr d) := by
  have := domBltIdx_lt d
  refine s.bumpEv_counted _ _ _ _ _ _ _ (by decide) (by decide) (blt_apart_evr ?_)
  show 0x40 + domBltIdx d * 4 < 0x100000
  omega

/-! Fences. -/

/-- A word that crosses between domains that are UP: what was corrected is counted, and then what fails its parity (R13, R434). -/
theorem exec_fenceWordCrossing {tx rx : Dom} {s : State} (ht : s.up tx = true) (hr : s.up rx = true) (good corr : Bool) :
    exec (.fenceWordCrossing tx rx good corr) s = .next (if good then s.eccCorr rx corr else (s.eccCorr rx corr).countUnc rx) := by
  simp only [exec, execFenceWordCrossing, ht, hr]
  cases good <;> rfl

theorem State.evq_of_regs (s : State) (rs : List (Nat × Word)) (d : Dom) : ({ s with regs := rs } : State).evq d = s.evq d := by
  rcases d with (_ | _) | (_ | _) | _ | _ <;> rfl

theorem State.evq_setEvq (s : State) {d : Dom} (hd : (∃ p, d = .plane p) ∨ ∃ l, d = .lane l) (q : EvQueue) : (s.setEvq d q).evq d = q := by
  obtain ⟨_ | _, rfl⟩ | ⟨_ | _, rfl⟩ := hd <;> rfl

/-- While the recorder takes nothing, a record of a plane or lane joins its queue (R30). -/
theorem evSend_queued {d : Dom} (hd : (∃ p, d = .plane p) ∨ ∃ l, d = .lane l) (r : EvRec) {s : State} (hr : s.evrReady = false)
    (hq : (s.evq d).recs.length < 64) : ((evSend d r s).evq d).recs = (s.evq d).recs ++ [r] := by
  have e : evSend d r s = s.setEvq d { s.evq d with recs := (s.evq d).recs ++ [r] } := by
    simp only [evSend, hr]
    obtain ⟨p, rfl⟩ | ⟨l, rfl⟩ := hd
    · exact if_pos hq
    · exact if_pos hq
  rw [e, State.evq_setEvq _ hd]

/-- A failed word's event while the recorder takes nothing: the counter's code, behind what the queue holds (R30, R388). -/
theorem State.evq_countUnc {s : State} {d : Dom} (hd : (∃ p, d = .plane p) ∨ ∃ l, d = .lane l) (hr : s.evrReady = false)
    (hq : (s.evq d).recs.length < 64) :
    ((s.countUnc d).evq d).recs.map (fun r => (r.src, r.code)) =
      (s.evq d).recs.map (fun r => (r.src, r.code)) ++ [(domSrc d, 19 * 1024 + 32 + domBltIdx d)] := by
  let u := s.bump .blt F.BLT_UNC_COUNT (domBltIdx d)
  have hu : u.evq d = s.evq d := s.evq_of_regs _ d
  have sent := evSend_queued hd ⟨domSrc d, evCode bkBLT 0 (32 * 1 + domBltIdx d), u.evTime d,
    [0 % 2 ^ 32, u.fld .blt F.BLT_UNC_COUNT (domBltIdx d) % 2 ^ 32, 0, 0]⟩ (s := u) hr (by rw [hu]; exact hq)
  have e : ((s.countUnc d).evq d).recs = _ := sent
  rw [e, hu, List.map_append]
  simp only [List.map_cons, List.map_nil, evCode, bkBLT]
  rw [show 19 * 1024 + 0 * 256 + (32 * 1 + domBltIdx d) = 19 * 1024 + 32 + domBltIdx d by omega]

/-! The broadcast window. -/

/-- The offset of an address in the lane broadcast window (Table 1.6). -/
theorem placeAt_bcast {o : Nat} (h : o < 0x10000000) : placeAt (0x001030000000 + o) = .bcast o := by
  unfold placeAt
  simp only [decide_eq_true_eq]
  rw [if_neg, if_neg, if_neg, if_neg, if_neg, if_neg, if_neg, if_pos, Nat.add_sub_cancel_left]
  case hc => omega
  all_goals
    simp only [planeBase, laneBase, laneMemSize, commonBase]
    omega

section
variable {o : Nat} {s : State} (hc : s.up .common = true) (ho : o < 0x10000000) (h4 : o % 4 = 0) (hn : laneAt .l0 o ≠ .none)
include ho h4 hn

/-- An aligned word of the window that names something is not refused (R7, R32). -/
theorem fabricWhy_bcast : fabricWhy (0x001030000000 + o) 4 = none := by
  simp [fabricWhy, placeAt_bcast ho, aligned, h4, hn]

include hc

/-- A window write acts in the lanes that are UP, Lane 0 first (R41). -/
theorem exec_broadcastWrite (jtag : Bool) (data : Word) : exec (.broadcastWrite jtag (0x001030000000 + o) data) s =
    .next (s.upLanes.foldl (fun (s : State) l => s.tgtWrite (laneAt l o) data) s) := by
  simp only [exec, execBroadcastWrite, State.fabricWrite, placeAt_bcast ho, hc, fabricWhy_bcast ho h4 hn]
  rfl

theorem exec_broadcastRead (jtag : Bool) : exec (.broadcastRead jtag (0x001030000000 + o)) s =
    .next (s.windowRead false o fun s l => s.tgtRead (laneAt l o) true) := by
  simp only [exec, execBroadcastRead, State.fabricRead, placeAt_bcast ho, hc, fabricWhy_bcast ho h4 hn]
  rfl

end

theorem State.upLanes_both {s : State} (h0 : s.laneUp .l0 = true) (h1 : s.laneUp .l1 = true) : s.upLanes = [.l0, .l1] := by
  simp [State.upLanes, h0, h1]

theorem State.upLanes_one {s : State} {l : Lane} (h : s.laneUp l = true) (h' : s.laneUp l.other = false) : s.upLanes = [l] := by
  cases l <;> simp_all [State.upLanes, Lane.other]

theorem State.upLanes_none {s : State} (h0 : s.laneUp .l0 = false) (h1 : s.laneUp .l1 = false) : s.upLanes = [] := by
  simp [State.upLanes, h0, h1]

/-- The registers that show what two lanes answered differently (R42). -/
def bcastAt : List (Nat × Nat) :=
  [regAt .cfg .CFG_BCAST_STATUS, regAt .cfg .CFG_BCAST_ADDR, regAt .cfg .CFG_BCAST_DATA0, regAt .cfg .CFG_BCAST_DATA1]

/-- MISMATCH is set and the two values are shown (R42). -/
def State.bcastDiffer (s : State) (o : Nat) (v0 v1 : Word) : State :=
  (((s.setBit .cfg F.CFG_BCAST_STATUS_MISMATCH).wr .cfg .CFG_BCAST_ADDR 0 (BitVec.ofNat 32 (b2n false * 2 ^ 28 + o % 2 ^ 28))).wr
    .cfg .CFG_BCAST_DATA0 0 v0).wr .cfg .CFG_BCAST_DATA1 0 v1

/-- What CFG_BCAST shows of a difference that is the first since MISMATCH was cleared. -/
structure BcastShows (o : Nat) (v0 v1 : Word) (s t : State) : Prop where
  mismatch : t.fld .cfg F.CFG_BCAST_STATUS_MISMATCH = 1
  nolane : t.fld .cfg F.CFG_BCAST_STATUS_NOLANE = s.fld .cfg F.CFG_BCAST_STATUS_NOLANE
  iwin : t.fld .cfg F.CFG_BCAST_ADDR_IWIN = 0
  offset : t.fld .cfg F.CFG_BCAST_ADDR_OFFSET = o
  data0 : t.rd .cfg .CFG_BCAST_DATA0 = v0
  data1 : t.rd .cfg .CFG_BCAST_DATA1 = v1
  regs : RegsOutside bcastAt s t

theorem State.bcastDiffer_shows (s : State) {o : Nat} (ho : o < 0x10000000) (v0 v1 : Word) : BcastShows o v0 v1 s (s.bcastDiffer o v0 v1) := by
  let marked := s.setBit .cfg F.CFG_BCAST_STATUS_MISMATCH
  let addressed := marked.wr .cfg .CFG_BCAST_ADDR 0 (BitVec.ofNat 32 (b2n false * 2 ^ 28 + o % 2 ^ 28))
  let valued := addressed.wr .cfg .CFG_BCAST_DATA0 0 v0
  have h1 : RegsOutside [regAt .cfg .CFG_BCAST_ADDR] marked addressed :=
    (RegsOutside.refl _ _).wr _ _ _ _ (regIn_of_mem (.head _))
  have h2 : RegsOutside [regAt .cfg .CFG_BCAST_DATA0] addressed valued :=
    (RegsOutside.refl _ _).wr _ _ _ _ (regIn_of_mem (.head _))
  have h3 : RegsOutside [regAt .cfg .CFG_BCAST_DATA1] valued (s.bcastDiffer o v0 v1) :=
    (RegsOutside.refl _ _).wr _ _ _ _ (regIn_of_mem (.head _))
  have status (f : Fld) (hf : f.id = .CFG_BCAST_STATUS) : (s.bcastDiffer o v0 v1).fld .cfg f = marked.fld .cfg f := by
    rw [h3.fld _ _ _ (by rw [hf]; decide), h2.fld _ _ _ (by rw [hf]; decide), h1.fld _ _ _ (by rw [hf]; decide)]
  have address : (s.bcastDiffer o v0 v1).rd .cfg .CFG_BCAST_ADDR = BitVec.ofNat 32 o := by
    rw [h3.rd _ _ _ (by decide), h2.rd _ _ _ (by decide), State.rd_wr_same]
    congr 1
    show 0 * 2 ^ 28 + o % 2 ^ 28 = o
    omega
  refine ⟨?_, ?_, ?_, ?_, ?_, State.rd_wr_same .., ?_⟩
  · rw [status _ rfl]
    exact State.fld_setFld_same _ _ _ _ _ (by decide) (by decide)
  · rw [status _ rfl]
    exact State.fld_setFld_apart _ _ _ _ _ _ rfl (by decide) (by decide) (by decide)
  · rw [State.fld, show F.CFG_BCAST_ADDR_IWIN.id = .CFG_BCAST_ADDR from rfl, address, BitVec.toNat_ofNat]
    simp only [F.CFG_BCAST_ADDR_IWIN, bitsOf]
    omega
  · rw [State.fld, show F.CFG_BCAST_ADDR_OFFSET.id = .CFG_BCAST_ADDR from rfl, address, BitVec.toNat_ofNat]
    simp only [F.CFG_BCAST_ADDR_OFFSET, bitsOf]
    omega
  · rw [h3.rd _ _ _ (by decide)]
    exact State.rd_wr_same ..
  · exact ((((RegsOutside.refl _ s).setBit _ _ _ (regIn_of_mem (.head _))).trans
      (h1.mono (by simp))).trans (h2.mono (by simp))).trans (h3.mono (by simp))

/-- With no lane UP a window read returns 0 and sets NOLANE (R42). -/
theorem State.windowRead_none {s : State} (h0 : s.laneUp .l0 = false) (h1 : s.laneUp .l1 = false) (o : Nat) (f : State → Lane → State) :
    s.windowRead false o f = { s.setBit .cfg F.CFG_BCAST_STATUS_NOLANE with rdata := 0 } := by
  rw [State.windowRead, State.upLanes_none h0 h1]

/-- Both lanes are read, Lane 0 first; its value is returned, and a difference is shown where none was shown before (R42). -/
theorem State.windowRead_both {s : State} (h0 : s.laneUp .l0 = true) (h1 : s.laneUp .l1 = true) (o : Nat) (f : State → Lane → State) :
    let u := f s .l0
    let w := f u .l1
    let t : State := { w with rdata := u.rdata }
    s.windowRead false o f =
      if u.rdata = w.rdata ∨ w.bit .cfg F.CFG_BCAST_STATUS_MISMATCH = true then t else t.bcastDiffer o u.rdata w.rdata := by
  intro u w t
  have e : s.windowRead false o f = if u.rdata = w.rdata then t else if t.bit .cfg F.CFG_BCAST_STATUS_MISMATCH = true then t
      else t.bcastDiffer o u.rdata w.rdata := by
    simp only [State.windowRead, State.upLanes_both h0 h1]
    rfl
  rw [e, ite_or]
  rfl

/-- What is returned and shown of what the two lanes answered (R42). -/
theorem State.windowRead_both_shows {s u w : State} {o : Nat} (h0 : s.laneUp .l0 = true) (h1 : s.laneUp .l1 = true) (ho : o < 0x10000000)
    (f : State → Lane → State) (hu : f s .l0 = u) (hw : f u .l1 = w) :
    ∃ t, s.windowRead false o f = t ∧ t.rdata = u.rdata ∧ { t.body with rdata := w.rdata } = w.body ∧
      (u.rdata = w.rdata ∨ w.bit .cfg F.CFG_BCAST_STATUS_MISMATCH = true → t.regs = w.regs) ∧
      (u.rdata ≠ w.rdata → w.bit .cfg F.CFG_BCAST_STATUS_MISMATCH = false → BcastShows o u.rdata w.rdata w t) := by
  refine ⟨_, rfl, ?_⟩
  rw [State.windowRead_both h0 h1, hu, hw]
  by_cases seen : u.rdata = w.rdata ∨ w.bit .cfg F.CFG_BCAST_STATUS_MISMATCH = true
  · rw [if_pos seen]
    exact ⟨rfl, rfl, fun _ => rfl, fun hv hm => absurd seen (by simp [hv, hm])⟩
  · rw [if_neg seen]
    obtain ⟨mismatch, nolane, iwin, offset, data0, data1, regs⟩ := State.bcastDiffer_shows { w with rdata := u.rdata } ho u.rdata w.rdata
    exact ⟨rfl, rfl, fun same => absurd same seen, fun _ _ => ⟨mismatch, nolane, iwin, offset, data0, data1, regs⟩⟩

/-- Settles O8: a window access acts in the lanes that are UP, and a crossing is counted by the receiving domain. -/
theorem windowsAndFences : Obligations.WindowsAndFences := by
  unfold Obligations.WindowsAndFences
  refine ⟨fun o jtag data s hc ho h4 hn => ?_, fun tx rx s => ⟨?_, fun ht hr => ?_, fun ht hr => ?_, fun ht hr => ?_⟩⟩
  · intro a
    rw [exec_broadcastWrite hc ho h4 hn, exec_broadcastRead hc ho h4 hn]
    refine ⟨fun h0 h1 => ?_, fun l h h' => ?_, fun h0 h1 => ⟨?_, ?_⟩, fun h0 h1 => ?_⟩
    · rw [State.upLanes_both h0 h1]
      rfl
    · rw [State.windowRead, State.upLanes_one h h']
      exact ⟨rfl, rfl⟩
    · rw [State.upLanes_none h0 h1]
      rfl
    · rw [State.windowRead_none h0 h1]
      refine ⟨_, rfl, rfl, ?_, ?_, ?_, rfl⟩
      · exact State.fld_setFld_same _ _ _ _ _ (by decide) (by decide)
      · exact State.fld_setFld_apart _ _ _ _ _ _ rfl (by decide) (by decide) (by decide)
      · exact ((RegsOutside.refl _ s).setBit .cfg F.CFG_BCAST_STATUS_NOLANE 0 (regIn_of_mem (.head _))).same rfl
    · obtain ⟨t, ht, value, rest, seen, shows⟩ := State.windowRead_both_shows h0 h1 ho (fun s l => s.tgtRead (laneAt l o) true) rfl rfl
      refine ⟨t, by rw [ht], value, rest, seen, fun hv hm => ?_⟩
      obtain ⟨mismatch, nolane, iwin, offset, data0, data1, regs⟩ := shows hv hm
      exact ⟨mismatch, nolane, iwin, offset, data0, data1, regs⟩
  · simp only [exec, execFenceWordCrossing]
    split <;> rfl
  · have counted := s.countCorr_counted rx
    exact ⟨_, exec_fenceWordCrossing ht hr true true, counted.count, counted.regs, counted.quiet⟩
  · have same := State.up_congr (State.dom_of_quiet (s.countCorr_counted rx).quiet)
    rw [exec_fenceWordCrossing ht hr, exec_fenceWordCrossing ((same tx).trans ht) ((same rx).trans hr)]
    rfl
  · have counted := s.countUnc_counted rx
    exact ⟨_, exec_fenceWordCrossing ht hr false false, counted.count, counted.regs, counted.quiet,
      fun hready hd hq => State.evq_countUnc hd hready hq⟩

end Sys2Proof.Machine
end

section
/-! # What the loss of a plane or lane leaves of the rest: the Blotter block, the domains, the flash and the vault (R29, R131, R293) -/

namespace Sys2Proof.Machine
open Sys2Proof

/-- What no loss of a plane or lane touches beside the registers: the domains, the flash, elapsed time, the vault but its event
recorder, and the records of isolations. -/
def State.kept (s : State) : Domains × Mem × Mem × Nat × InkSt × List Isolation × List (Dom × Nat) :=
  (s.dom, s.flash0, s.flash1, s.real, s.ink.still, s.com.isos, s.com.history)

/-- The Blotter block's words, what `State.kept` names, and no pairing queue but one that there was. -/
structure Spared (s t : State) : Prop where
  blt : ∀ a, Page.blt.base ≤ a → a < Page.blt.base + 0x100000 → assocGet t.regs a = assocGet s.regs a
  kept : t.kept = s.kept
  pairs : ∀ e ∈ t.pairQ, e ∈ s.pairQ

namespace Spared
variable {s t u : State}

theorem refl (s : State) : Spared s s := ⟨fun _ _ _ => rfl, rfl, fun _ h => h⟩

theorem trans (h : Spared s t) (k : Spared t u) : Spared s u :=
  ⟨fun a ha hb => (k.blt a ha hb).trans (h.blt a ha hb), k.kept.trans h.kept, fun e he => h.pairs e (k.pairs e he)⟩

/-- A step that stores no register and changes nothing of what is kept. -/
theorem same (h : Spared s t) (hr : u.regs = t.regs) (hk : u.kept = t.kept) (hp : u.pairQ = t.pairQ) : Spared s u :=
  h.trans ⟨fun a _ _ => by rw [hr], hk, fun e he => hp ▸ he⟩

theorem dom (h : Spared s t) : t.dom = s.dom := congrArg (·.1) h.kept
theorem flash0 (h : Spared s t) : t.flash0 = s.flash0 := congrArg (·.2.1) h.kept
theorem flash1 (h : Spared s t) : t.flash1 = s.flash1 := congrArg (·.2.2.1) h.kept
theorem real (h : Spared s t) : t.real = s.real := congrArg (·.2.2.2.1) h.kept
theorem still (h : Spared s t) : t.ink.still = s.ink.still := congrArg (·.2.2.2.2.1) h.kept
theorem isos (h : Spared s t) : t.com.isos = s.com.isos := congrArg (·.2.2.2.2.2.1) h.kept
theorem history (h : Spared s t) : t.com.history = s.com.history := congrArg (·.2.2.2.2.2.2) h.kept

/-- A field of BLT_STATUS reads as it did. -/
theorem fld (h : Spared s t) (f : Fld) (hf : f.id = .BLT_STATUS) : t.fld .blt f = s.fld .blt f := by
  simp only [State.fld, State.rd, assocGetD, hf]
  rw [h.blt _ (by decide) (by decide)]

theorem ite {c : Prop} [Decidable c] {a b : State} (ha : Spared s a) (hb : Spared s b) : Spared s (if c then a else b) :=
  iteInduction (motive := Spared s) (fun _ => ha) fun _ => hb

theorem foldl {α : Type} {f : State → α → State} (hf : ∀ u x, Spared s u → Spared s (f u x)) :
    ∀ (l : List α) {t : State}, Spared s t → Spared s (l.foldl f t)
  | [], _, h => h
  | x :: xs, _, h => foldl hf xs (hf _ x h)

end Spared

/-! The registers of planes and lanes. -/

/-- Is a page one of a plane's or a lane's? -/
def Page.ofUnit : Page → Bool
  | .cfg | .stw _ | .stwLoad | .pwr | .ink | .evr | .key | .blt | .mg _ => false
  | _ => true

theorem planeBase_ge (p : Plane) : planeBase .a ≤ planeBase p := by cases p <;> simp [planeBase]

theorem laneBase_ge (l : Lane) : planeBase .a ≤ laneBase l := by cases l <;> simp [planeBase, laneBase]

theorem Page.ofUnit_base {p : Page} (h : p.ofUnit = true) : planeBase .a ≤ p.base := by
  cases p with
  | prt p _ | psw p | tim p => exact Nat.le_add_right_of_le (planeBase_ge p)
  | pswPort p _ | timPort p _ => exact Nat.le_add_right_of_le (Nat.le_add_right_of_le (planeBase_ge p))
  | lcfg l => exact laneBase_ge l
  | ing l | flt l | qul l | ops l | map l | pub l | drc l | ins l | fbs l => exact Nat.le_add_right_of_le (laneBase_ge l)
  | fltEng l _ | chk l _ | insPage l _ | fbsCtl l _ | fbsObj l _ | scr l _ =>
    exact Nat.le_add_right_of_le (Nat.le_add_right_of_le (laneBase_ge l))
  | _ => cases h

namespace Spared
variable {s t : State} (h : Spared s t)
include h

/-- A word outside the Blotter block is stored. -/
theorem word {a : Nat} (ha : a < Page.blt.base ∨ Page.blt.base + 0x100000 ≤ a) (v : Word) : Spared s (t.setWin a v) :=
  h.trans ⟨fun b h1 h2 => assocGet_put_other _ _ _ _ (by omega), rfl, fun _ he => he⟩

theorem setWin {a : Nat} (ha : planeBase .a ≤ a) (v : Word) : Spared s (t.setWin a v) := h.word (.inr (ha.trans' (by decide))) v

theorem wr {p : Page} (r : RegId) (k : Nat) (v : Word) (hp : p.ofUnit = true := by rfl) : Spared s (t.wr p r k v) :=
  h.setWin ((Page.ofUnit_base hp).trans (by simp only [regAddr]; omega)) v

theorem setFld {p : Page} (f : Fld) (v : Nat) (k : Nat := 0) (hp : p.ofUnit = true := by rfl) : Spared s (t.setFld p f v k) :=
  h.wr _ _ _ hp

theorem setBit {p : Page} (f : Fld) (k : Nat := 0) (hp : p.ofUnit = true := by rfl) : Spared s (t.setBit p f k) := h.setFld _ _ _ hp

theorem bump {p : Page} (f : Fld) (k n : Nat) (hp : p.ofUnit = true := by rfl) : Spared s (t.bump p f k n) := h.setFld _ _ _ hp

/-- A field of a register of Common that stands below the Blotter block. -/
theorem setCommon {p : Page} {f : Fld} (v : Nat) (hp : regAddr p f.id 0 < Page.blt.base := by decide) : Spared s (t.setFld p f v) :=
  h.word (.inl hp) _

theorem setPlane (p : Plane) (x : PlaneSt) : Spared s (t.setPlane p x) := by cases p <;> exact h.same rfl rfl rfl

theorem setLane (l : Lane) (x : LaneSt) : Spared s (t.setLane l x) := by cases l <;> exact h.same rfl rfl rfl

theorem memW (l : Lane) (a : Nat) (b : List Byte) : Spared s (t.memW l a b) := by cases l <;> exact h.same rfl rfl rfl

theorem setWinWords {a : Nat} (ha : planeBase .a ≤ a) (n v : Nat) : Spared s (t.setWinWords a n v) := by
  induction n generalizing a t v with
  | zero => exact h
  | succ n ih => exact ih (h.setWin ha _) (by omega) _

theorem setEnt {a : Nat} (ha : planeBase .a ≤ a) (f : EFld) (v : Nat) : Spared s (t.setEnt a f v) :=
  h.setWinWords (by omega) _ _

/-- Recording moves nothing but the recorder, whose registers stand below the Blotter block. -/
theorem event (d : Dom) (c u v : Nat) : Spared s (t.event d c u v) := by
  have hr : RegsOutside [evrAt] t (t.event d c u v) := (RegsOutside.refl _ t).event (.head _) d c u v
  have hq := event_quiet t d c u v
  refine h.trans ⟨fun a h1 _ => hr a fun e he => ?_, ?_, fun e he => State.pairQ_of_quiet hq ▸ he⟩
  · obtain rfl := List.mem_singleton.mp he
    exact .inr (h1.trans' (by decide))
  · simp only [State.kept, State.dom_of_quiet hq, State.flash0_of_quiet hq, State.flash1_of_quiet hq, State.real_of_quiet hq,
      State.still_of_quiet hq, State.com_of_quiet hq]

theorem bumpEv (d : Dom) {p : Page} (f : Fld) (k b x u : Nat) (hp : p.ofUnit = true := by rfl) : Spared s (t.bumpEv d p f k b x u) :=
  (h.bump _ _ _ hp).event _ _ _ _

end Spared

end Sys2Proof.Machine
end

section
/-! # The steps of a lane's loss spare the Blotter block and the records: capture, the merge, the field bus, the recorder (R126, R132, R293,
R334, R376) -/

namespace Sys2Proof.Machine.Spared
open Sys2Proof
variable {s t : State} (h : Spared s t)
include h

/-! Lane memory and its page log. -/

theorem dirtyPage (l : Lane) (i a : Nat) : Spared s (t.dirtyPage l i a) := by
  unfold State.dirtyPage
  cases t.loggedOwner l a with
  | none => exact h
  | some o =>
    have hm := h.memW l
    exact ite (hm _ _) (ite (((hm _ _).bump _ _ _).setBit _) (((hm _ _).memW _ _ _).setFld _ _))

theorem memWLog (l : Lane) (i a : Nat) (b : List Byte) : Spared s (t.memWLog l i a b) :=
  ite (h.memW _ _ _) (foldl (fun _ _ h => h.dirtyPage _ _ _) _ (h.memW _ _ _))

/-! Frames and the buffer. -/

theorem capture (p : Plane) (port : Nat) (tx : Bool) (stamp cls v : Nat) (cut : Bool) (o : List Byte) :
    Spared s (t.capture p port tx stamp cls v cut o) := by
  unfold State.capture
  refine ite h ?_
  split
  · exact h
  · exact ite ((h.setPlane _ _).bump _ _ _)
      (((foldl (fun _ _ h => h.memWLog _ _ _ _) _ h).setPlane _ _).setFld _ _)

theorem pswCnt (p : Plane) (i k : Nat) : Spared s (t.pswCnt p i k) := h.bump _ _ _

theorem pswPcnt (p : Plane) (k : Nat) : Spared s (t.pswPcnt p k) := h.bump _ _ _

theorem bufShow (p : Plane) : Spared s (t.bufShow p) := ite ((h.setFld _ _).setFld _ _) (h.setFld _ _)

theorem xoffCheck (p : Plane) (i c : Nat) : Spared s (t.xoffCheck p i c) := by
  unfold State.xoffCheck
  refine ite h ?_
  split
  · exact h
  · exact ite h (h.setPlane _ _)

theorem xonCheck (p : Plane) (i c : Nat) : Spared s (t.xonCheck p i c) := ite h (ite h (h.setPlane _ _))

theorem setOcc (p : Plane) (i c v : Nat) : Spared s (t.setOcc p i c v) := h.setFld _ _ _

theorem bufPut (p : Plane) (f : BufFrame) : Spared s (t.bufPut p f).2 := (((h.setPlane _ _).setOcc _ _ _ _).bufShow _).xoffCheck _ _ _

theorem bufFree (p : Plane) (b : Nat) : Spared s (t.bufFree p b) := by
  unfold State.bufFree
  dsimp only
  split
  · exact h
  · exact ((ite (h.setPlane _ _) ((h.setPlane _ _).setOcc _ _ _ _)).bufShow _).xonCheck _ _ _

theorem bufDrop (p : Plane) (b : Nat) : Spared s (t.bufDrop p b) := by
  unfold State.bufDrop
  dsimp only
  split
  · exact h
  · exact ite (h.bufFree _ _) (h.setPlane _ _)

theorem bufHold (p : Plane) (b : Nat) : Spared s (t.bufHold p b) := by
  unfold State.bufHold
  dsimp only
  split
  · exact h
  · exact h.setPlane _ _

theorem freezeBuf (p : Plane) (b : Nat) : Spared s (t.freezeBuf p b) := by
  unfold State.freezeBuf
  split
  · exact h
  · exact ite h (((h.setPlane _ _).setOcc _ _ _ _).xonCheck _ _ _)

theorem eqShow (p : Plane) (e c : Nat) : Spared s (t.eqShow p e c) := h.setFld _ _ _

theorem downDrop (p : Plane) (cls : Nat) (o : List Byte) (ports : List Nat) : Spared s (t.downDrop p cls o ports).2 :=
  foldl (fun _ _ h => (h.pswCnt _ _ _).capture _ _ _ _ _ _ _ _) _ h

theorem enqueue (p : Plane) (e b : Nat) (u : Bool) (k : Option Nat) : Spared s (t.enqueue p e b u k).1 := by
  unfold State.enqueue
  dsimp only
  cases assocGet (t.plane p).bufs b with
  | none => exact h
  | some f =>
    have drop (c v : Nat) := (h.pswCnt p e c).capture p e true (t.plane p).now f.cls v false f.octets
    have put := fun x => ((h.setPlane p x).bufHold p b).eqShow p e f.cls
    simp only [apply_ite Prod.fst]
    exact ite (drop _ _) (ite (drop _ _) (ite (drop _ _) (ite (put _) ((put _).freezeBuf _ _))))

theorem enqueueAll (p : Plane) (b : Nat) (l : List (Nat × Bool × Option Nat)) : Spared s (t.enqueueAll p b l).1 := by
  induction l generalizing t with
  | nil => exact h
  | cons x xs ih => exact ih (h.enqueue _ _ _ _ _)

theorem tailDrop (p : Plane) (i c stamp : Nat) : Spared s (t.tailDrop p i c stamp).1 := by
  unfold State.tailDrop
  simp only [apply_ite Prod.fst]
  exact ite (h.pswCnt _ _ _) (h.pswCnt _ _ _)

/-! The merge. -/

theorem mergeSeen (p : Plane) (c : MergeCopy) : Spared s (t.mergeSeen p c) := h.capture _ _ _ _ _ _ _ _

theorem mergeEv (p : Plane) (k u : Nat) : Spared s (t.mergeEv p k u) := h.bumpEv _ _ _ _ _ _

theorem divCapture (p : Plane) (k : Nat) (c : MergeCopy) : Spared s (t.divCapture p k c) :=
  ite h ((((h.setFld _ _).setFld _ _).setFld _ _).wr _ _ _)

theorem mergeQueue (p : Plane) (c : MergeCopy) (o : List Byte) (n : Nat) (ports : List (Nat × Option Nat)) :
    Spared s (t.mergeQueue p c o n ports) := by
  refine ite ((h.tailDrop _ _ _ _).capture _ _ _ _ _ _ _ _) ?_
  exact ((ite ((((h.bufPut _ _).downDrop _ _ _ _).enqueueAll _ _ _).pswCnt _ _ _)
    (((h.bufPut _ _).downDrop _ _ _ _).enqueueAll _ _ _)).bufDrop _ _).capture _ _ _ _ _ _ _ _

theorem echoSend (p : Plane) (c : MergeCopy) : Spared s (t.echoSend p c) :=
  ite h (foldl (fun _ _ h => ite (h.setLane _ _) h) _ h)

theorem mergeSend (p : Plane) (c : MergeCopy) (n : Nat) : Spared s (t.mergeSend p c n) := by
  have hq := (h.pswPcnt p 5).mergeQueue p c
  exact (ite ((h.pswPcnt p 5).mergeSeen _ _) (ite (hq _ _ _) (ite (hq _ _ _) (hq _ _ _)))).echoSend _ _

theorem seqMiss (p : Plane) (c : MergeCopy) : Spared s (t.seqMiss p c) :=
  (foldl (fun _ _ h => h.capture _ _ _ _ _ _ _ _) _ (h.pswPcnt _ _)).mergeSeen _ _

theorem mergeForward (p : Plane) (c : MergeCopy) : Spared s (t.mergeForward p c) := by
  refine ite ((ite ((h.setPlane _ _).setPlane _ _) (h.setPlane _ _)).mergeSend _ _ _) (ite (h.seqMiss _ _) ?_)
  split
  · exact (h.setPlane _ _).mergeSend _ _ _
  · exact h.setPlane _ _

theorem mergeSolo (p : Plane) (c : MergeCopy) : Spared s (t.mergeSolo p c) :=
  ite (h.mergeForward _ _) (((h.mergeEv _ _ _).divCapture _ _ _).mergeSeen _ _)

theorem mergePartnerAbsent (p : Plane) (l : Lane) : Spared s (t.mergePartnerAbsent p l) :=
  ite h (foldl (fun _ _ h => (h.setPlane _ _).mergeSolo _ _) _ h)

/-! The field bus, the recorder and the trip pins. -/

theorem fbLanes (f : FbsSt → FbsSt) : Spared s (t.fbLanes f) := foldl (fun _ _ h => h.setLane _ _) _ h

theorem fbStatus (c : Nat) (f : Fld) (v : Nat) : Spared s (t.fbStatus c f v) := ite h ((h.setFld _ _).setFld _ _)

theorem fbRole (c stamp : Nat) (move : Bool) : Spared s (t.fbRole c stamp move) :=
  foldl (fun _ _ h => ite h (ite ((h.fbStatus _ _ _).bumpEv _ _ _ _ _ _) (h.fbStatus _ _ _))) _ (h.fbLanes _)

theorem fbFails (c stamp : Nat) : Spared s (t.fbFails c stamp) := ite (h.fbRole _ _ _) h

theorem fbLaneLost (l : Lane) : Spared s (t.fbLaneLost l) := foldl (fun _ _ h => (h.fbFails _ _).fbLanes _) _ h

theorem trigEdge (pin : Nat) (rise own : Bool) : Spared s (t.trigEdge pin rise own) := by
  refine foldl (fun u l h => ?_) _ h
  split
  · exact h.bump _ _ _
  · exact h.setLane _ _

theorem xtLost (l : Lane) : Spared s (t.xtLost l) := foldl (fun _ _ h => ite (h.trigEdge _ _ _) h) _ h

theorem tripShow : Spared s t.tripShow := by
  refine foldl (fun _ _ h => ?_) _ (h.same rfl rfl rfl)
  exact foldl (fun _ _ h => ite h (h.setLane _ _)) _ ((h.setFld _ _).setFld _ _)

/-! Common's part. -/

theorem com (x : CommonSt) (hi : x.isos = t.com.isos) (hh : x.history = t.com.history) : Spared s { t with com := x } :=
  h.same rfl (by simp only [State.kept, hi, hh]) rfl

theorem clearBoot {f : Fld} (hf : regAddr .cfg f.id 0 < Page.blt.base := by decide) : Spared s (t.clearBoot f) :=
  ite ((h.setCommon _ hf).setCommon _) h

theorem loader (st code : Nat) : Spared s (t.loader st code) := (h.setCommon _).setCommon _

theorem dropTarget (n : Nat) : Spared s (t.dropTarget n) := by
  refine ite (loader (h.com _ ?_ ?_) _ _) (h.com _ ?_ ?_) <;> rfl

theorem dropPairs (gone : Nat → Bool) : Spared s (t.dropPairs gone) :=
  h.trans ⟨fun _ _ _ => rfl, rfl, fun _ he => List.mem_of_mem_filter he⟩

/-- What the loss of a lane leaves. -/
theorem laneLost (l : Lane) : Spared s (t.laneLost l) := by
  unfold State.laneLost
  extract_lets u v w _ x
  have hu : Spared s u := by
    cases l
    · exact h.clearBoot.clearBoot
    · exact h.clearBoot.clearBoot
  have hv : Spared s v := ite hu ((hu.mergePartnerAbsent _ _).mergePartnerAbsent _ _)
  have hw : Spared s w := ((hv.fbLaneLost _).xtLost _).tripShow
  have hx : Spared s x := hw.com _ rfl rfl
  exact (hx.dropTarget _).dropPairs _

/-! The clocks. -/

theorem drcSlew (l : Lane) (a b : Nat) : Spared s (t.drcSlew l a b) := h.setLane _ _

theorem laneTake (l : Lane) (p : Plane) : Spared s (t.laneTake l p) :=
  ((((ite h (h.drcSlew _ _ _)).setLane _ _).setFld _ _).setFld _ _).setFld _ _

theorem laneSlewTo (l : Lane) (p : Plane) : Spared s (t.laneSlewTo l p) :=
  ite (((((((ite h (h.drcSlew _ _ _)).setLane _ _).setFld _ _).setFld _ _)).setLane _ _).setFld _ _)
    (((((ite h (h.drcSlew _ _ _)).setLane _ _).setFld _ _).setFld _ _).setFld _ _)

theorem laneFollow (l : Lane) : Spared s (t.laneFollow l) := by
  have hold : Spared s (t.setFld (.lcfg l) F.CFG_TIME_FOLLOW_HOLDOVER 1) := h.setFld _ _
  refine ite h (ite ?_ (ite h (ite (ite (h.laneSlewTo _ _) (ite (h.laneSlewTo _ _) h)) (ite (h.laneSlewTo _ _) hold))))
  generalize (if t.planeUp (t.defPlane l) then some (t.defPlane l)
    else if t.planeUp (t.defPlane l).other then some (t.defPlane l).other else none) = want
  cases want with
  | none => exact hold
  | some p => exact ite h (h.laneTake _ _)

theorem lanesFollow : Spared s t.lanesFollow := (h.laneFollow _).laneFollow _

theorem planeSlew (p : Plane) (off : Int) : Spared s (t.planeSlew p off) :=
  ite (((h.setPlane _ _).setPlane _ _).setFld _ _) ((h.setPlane _ _).setFld _ _)

theorem epsStep (l : Lane) (step : Int) : Spared s (t.epsStep l step) := by
  have ha (n : Nat) : planeBase .a ≤ strRec l n := by
    refine iteInduction (motive := (planeBase .a ≤ ·)) (fun _ => ?_) fun _ => ?_
    · exact Nat.le_add_right_of_le (Nat.le_add_right_of_le (Page.ofUnit_base rfl))
    · have : planeBase .a ≤ 2 ^ 48 := by decide
      simp only [epsBase]
      omega
  exact foldl (fun _ _ h => (h.setEnt (ha _) _ _).setEnt (ha _) _ _) _ h

theorem acquire (p : Plane) (off : Int) : Spared s (t.acquire p off) := by
  have hs := fun x => ((h.setPlane p x).setBit (p := .tim p) F.TIM_STATUS_STEPPED).setFld (p := .tim p) F.TIM_STATUS_SLEWING 0
  have take {u : State} (h : Spared s u) (l : Lane) :
      Spared s (if u.laneUp l && !u.gridRun l && !u.laneHold l && decide (u.followed l = p) then
        if (u.laneTake l p).epsRuns l then (u.laneTake l p).epsStep l off else u.laneTake l p else u) :=
    ite (ite ((h.laneTake _ _).epsStep _ _) (h.laneTake _ _)) h
  exact take (take (hs _) .l0) .l1

theorem noteUsable (p : Plane) : Spared s (t.noteUsable p) := (h.setPlane _ _).setPlane _ _

theorem selectSource (p : Plane) : Spared s (t.selectSource p) := by
  refine ite h ?_
  have hn := h.noteUsable p
  generalize t.noteUsable p = u at hn
  have hf := hn.setFld (p := .tim p) F.TIM_STATUS_SOURCE (u.pickSource p)
  have lost := fun x => ((hf.setPlane p x).setFld (p := .tim p) F.TIM_STATUS_SLEWING 0).setFld (p := .tim p) F.TIM_STATUS_STATE 2
  have locked {v : State} (h : Spared s v) x := (h.setFld (p := .tim p) F.TIM_STATUS_STATE 1).setPlane p x
  have picked := fun x y z => ite (c := u.pickSource p = 0) (ite (c := u.timState p = 1) (lost x) hf)
    (ite (c := u.timState p = 0) (locked (hf.acquire p (u.srcOffset p (u.pickSource p))) y)
      (ite (c := (u.fld (.tim p) F.TIM_STATUS_SOURCE = u.pickSource p && decide (u.timState p = 1)) = true) hf
        (locked (hf.planeSlew p (u.srcOffset p (u.pickSource p))) z)))
  exact (ite ((picked _ _ _).setBit _) (picked _ _ _)).lanesFollow

theorem selectSources : Spared s t.selectSources := (h.selectSource _).selectSource _

/-! The planes. -/

theorem setOwner (o : Plane) : Spared s (t.setOwner o) := by
  have show_ {u : State} (h : Spared s u) (p : Plane) :
      Spared s (if !u.planeUp p || decide (u.actOwner p = o) then u
        else (u.setFld (.psw p) F.PSW_STATUS_OWNER o.idx).setBit (.psw p) F.PSW_STATUS_CHANGE) :=
    ite h ((h.setFld _ _).setBit _)
  exact show_ (show_ h .a) .b

theorem takeOver (p : Plane) : Spared s (t.takeOver p) := (h.setPlane _ _).setOwner _

theorem setIpDown (b : Bool) : Spared s (t.setIpDown b) := by
  have show_ {u : State} (h : Spared s u) (p : Plane) :
      Spared s (if u.bit (.psw p) F.PSW_STATUS_IPDOWN = b then u
        else (u.setFld (.psw p) F.PSW_STATUS_IPDOWN (b2n b)).setBit (.psw p) F.PSW_STATUS_CHANGE) :=
    ite h ((h.setFld _ _).setBit _)
  exact show_ (show_ h .a) .b

theorem ppsSettle : Spared s t.ppsSettle := by
  refine ite (setFld (setFld (h.same ?_ ?_ ?_) _ _) _ _) h <;> rfl

/-- What the loss of a plane leaves. -/
theorem planeLost (p : Plane) : Spared s (t.planeLost p) := by
  unfold State.planeLost
  extract_lets o u x v w
  have hu : Spared s u := ite (h.takeOver _) h
  have hv : Spared s v := (hu.setPlane _ _).ppsSettle
  have hw : Spared s w := (hv.setIpDown _).lanesFollow.selectSources
  exact (hw.dropTarget _).dropPairs _

end Sys2Proof.Machine.Spared
end

section
/-! # Isolation: the state of a domain, the Blotter's events and its status, and the loss of Common (R57, R436, R440) -/

namespace Sys2Proof.Machine
open Sys2Proof

/-! The states of domains. -/

theorem Domains.put_domSt (s : State) (d : Dom) (v : DomState) {t : State} (h : t.dom = s.dom.put d v) :
    t.domSt d = v ∧ ∀ e, e ≠ d → t.domSt e = s.domSt e := by
  have hd : ∀ e, t.domSt e = State.domSt { s with dom := s.dom.put d v } e := State.domSt_of_dom _ _ h
  refine ⟨?_, fun e he => ?_⟩
  · rw [hd]
    rcases d with (_ | _) | (_ | _) | _ | _ <;> rfl
  · rw [hd]
    rcases d with (_ | _) | (_ | _) | _ | _ <;> rcases e with (_ | _) | (_ | _) | _ | _ <;> simp [State.domSt, Domains.put] at he ⊢

/-- A change of domain states stores CFG_DOMAIN_STATUS and records it. -/
theorem State.setDoms_spared (s : State) (d : Domains) : Spared { s with dom := d } (s.setDoms d) := by
  refine iteInduction (motive := Spared { s with dom := d }) (fun h => ?_) fun _ => ?_
  · exact h ▸ Spared.refl s
  · exact ((Spared.refl { s with dom := d }).setCommon _).event _ _ _ _

theorem State.setDom_spared (s : State) (d : Dom) (v : DomState) : Spared { s with dom := s.dom.put d v } (s.setDom d v) :=
  s.setDoms_spared _

/-! The Blotter. -/

namespace Spared
variable {s t : State} (h : Spared s t)
include h

theorem bltEvent (c u v : Nat) : Spared s (t.bltEvent c u v) := ite (h.event _ _ _ _) (h.com _ rfl rfl)

theorem memError (d : Dom) (a : Nat) : Spared s (t.memError d a) := h.com _ rfl rfl

theorem captureNext : Spared s t.captureNext := by
  unfold State.captureNext
  refine ite h ?_
  split
  · exact h
  · exact h.same rfl rfl rfl

end Spared

/-- BLT_STATUS shows the isolated domains, and LIMITED stays; nothing but registers moves. -/
theorem State.bltShow_shows (s : State) :
    s.bltShow.fld .blt F.BLT_STATUS_HELD = s.heldMask % 16 ∧ s.bltShow.fld .blt F.BLT_STATUS_LIMITED = s.fld .blt F.BLT_STATUS_LIMITED ∧
      s.bltShow.body = s.body := by
  have apart {u : State} {f g : Fld} (v : Nat) (hid : g.id = f.id := by rfl) (hf : f.lo ≤ f.hi := by decide)
      (hg : g.hi < 32 := by decide) (ha : g.hi < f.lo ∨ f.hi < g.lo := by decide) :
      (u.setFld .blt f v).fld .blt g = u.fld .blt g := State.fld_setFld_apart u .blt f g v 0 hid hf hg ha
  unfold State.bltShow
  extract_lets pg old u v run w x
  have hu : u.fld .blt F.BLT_STATUS_HELD = s.heldMask % 16 := State.fld_setFld_same s .blt _ _ 0 (by decide) (by decide)
  have hx : x.fld .blt F.BLT_STATUS_HELD = s.heldMask % 16 := by rw [apart, apart, apart, hu]
  have hl : x.fld .blt F.BLT_STATUS_LIMITED = s.fld .blt F.BLT_STATUS_LIMITED := by rw [apart, apart, apart, apart]
  refine iteInduction (motive := fun t : State => t.fld .blt F.BLT_STATUS_HELD = _ ∧ t.fld .blt F.BLT_STATUS_LIMITED = _ ∧ t.body = _)
    (fun _ => ⟨hx, hl, rfl⟩) fun _ => ⟨?_, ?_, rfl⟩
  · rw [State.setBit, apart, hx]
  · rw [State.setBit, apart, hl]

/-- The bits of a mask of four. -/
theorem bitAt_mask : ∀ (a b c d : Bool) (k : Fin 4),
    bitAt ((b2n a * 2 ^ 0 + (b2n b * 2 ^ 1 + (b2n c * 2 ^ 2 + (b2n d * 2 ^ 3 + 0)))) % 16) k = ![a, b, c, d] k := by
  decide

/-- The domains with a bit of their own in HELD and LIMITED are the planes and the lanes. -/
theorem domBltBit_lt_rec {motive : ∀ d : Dom, domBltBit d < 4 → Prop} (planeA : motive (.plane .a) (by decide))
    (planeB : motive (.plane .b) (by decide)) (lane0 : motive (.lane .l0) (by decide)) (lane1 : motive (.lane .l1) (by decide))
    (d : Dom) (hd : domBltBit d < 4) : motive d hd := by
  rcases d with (_ | _) | (_ | _) | _ | _
  · exact planeA
  · exact planeB
  · exact lane0
  · exact lane1
  · exact absurd hd (by decide)
  · exact absurd hd (by decide)

/-- The bit of an isolated plane or lane in HELD. -/
theorem State.heldMask_bit (s : State) (d : Dom) (hb : domBltBit d < 4) (h : s.domSt d = .isolated) :
    bitAt (s.heldMask % 16) (domBltBit d) = true := by
  have bit := bitAt_mask (decide (s.domSt (.plane .a) = .isolated)) (decide (s.domSt (.plane .b) = .isolated))
    (decide (s.domSt (.lane .l0) = .isolated)) (decide (s.domSt (.lane .l1) = .isolated)) ⟨_, hb⟩
  refine bit.trans ?_
  clear bit
  induction d, hb using domBltBit_lt_rec <;> exact decide_eq_true h

/-! Paired writes. -/

/-- With nothing in any queue, no queue is to be settled. -/
theorem State.settlePairs_of_entries {s : State} (h : ∀ e ∈ s.pairQ, e.2 = []) : s.settlePairs = s := by
  have get : ∀ (l : List (Nat × List PairEntry)) (k : Nat), (∀ e ∈ l, e.2 = []) → assocGetD l k [] = [] := by
    intro l k hl
    induction l with
    | nil => rfl
    | cons x xs ih =>
      have hx := hl x (.head _)
      have := ih fun e he => hl e (.tail _ he)
      simp only [assocGetD, assocGet] at this ⊢
      split_ifs <;> simp_all
  exact State.settlePairs_of_empty fun u m => get _ _ h

end Sys2Proof.Machine
end

section
/-! # What the loss of Common leaves (R57), and O55 -/

namespace Sys2Proof.Machine
open Sys2Proof

/-! Discarding shadow banks. -/

/-- The state without its registers, staged registers, planes and lanes: what discarding shadow banks leaves. -/
def State.core (s : State) : State :=
  { s with regs := [], shreg := [], pa := .empty, pb := .empty, l0 := .empty, l1 := .empty }

@[simp] theorem State.core_setFld (s : State) (p : Page) (f : Fld) (v k : Nat) : (s.setFld p f v k).core = s.core := rfl
@[simp] theorem State.core_wr (s : State) (p : Page) (r : RegId) (k : Nat) (v : Word) : (s.wr p r k v).core = s.core := rfl
@[simp] theorem State.core_clearRange (s : State) (a n : Nat) : (s.clearRange a n).core = s.core := rfl
@[simp] theorem State.core_setPlane (s : State) (p : Plane) (x : PlaneSt) : (s.setPlane p x).core = s.core := by cases p <;> rfl
@[simp] theorem State.core_setLane (s : State) (l : Lane) (x : LaneSt) : (s.setLane l x).core = s.core := by cases l <;> rfl

theorem State.core_foldl {α : Type} {f : State → α → State} (hf : ∀ u x, (f u x).core = u.core) :
    ∀ (l : List α) (s : State), (l.foldl f s).core = s.core
  | [], _ => rfl
  | x :: xs, s => (core_foldl hf xs (f s x)).trans (hf s x)

theorem State.core_logStart (s : State) (type t : Nat) (on : Bool) : (s.logStart type t on).core = s.core := by
  unfold State.logStart
  split
  · cases on <;> simp
  · cases on <;> simp
  · rfl

theorem State.core_unload (s : State) (t : Nat) (r : Region) : (s.unload t r).core = s.core := by
  unfold State.unload
  extract_lets wins u own v
  have hu : u.core = s.core := State.core_foldl (fun _ _ => State.core_clearRange _ _ _) _ s
  exact (State.core_logStart v r.type t false).trans hu

theorem State.core_unbuild (s : State) (t : Nat) (rs : List Region) : (s.unbuild t rs).core = s.core :=
  State.core_foldl (fun u r => u.core_unload t r) _ s

/-! The loss of Common. -/

/-- Common without its steward: what R57 leaves of its state. -/
def CommonSt.lost (x : CommonSt) : CommonSt :=
  { x with
    switches := [], staged := none, fetch := none, stageWait := none, built := [], steward := false, fwOk := false, mb0 := none
    mb1 := none, converge := none, rollIn := none, verified := [] }

/-- No image is staged, and no switch waits; the steward and its commands have stopped. -/
def State.unstaged (s : State) : State :=
  { s with com := { s.com with staged := none, fetch := none, stageWait := none, built := [] } }
def State.unswitched (s : State) : State := { s with com := { s.com with switches := [] } }
def State.stopped (s : State) : State :=
  { s with
    com := { s.com with
      steward := false, fwOk := false, mb0 := none, mb1 := none, converge := none, rollIn := none, verified := [] } }

theorem State.stageDrop_core (s : State) : s.stageDrop.core = s.core.unstaged := by
  unfold State.stageDrop
  extract_lets u c v
  have hu : u.core = s.core := by
    simp only [u]
    split
    · exact State.core_foldl (fun u t => u.core_unbuild _ _) _ s
    · rfl
  exact congrArg State.unstaged hu

theorem State.cutCapture_none {s : State} (h : s.com.dumpBuf = none) : s.cutCapture = s := by
  unfold State.cutCapture
  split
  · next hx => exact nomatch h.symm.trans hx
  · rfl

/-- What Common's loss leaves when no capture is in the buffer: it stops the steward and what it has under way, and touches nothing
of the rest but registers, the shadow banks it discards and pairing queues. -/
structure CommonGone (s t : State) : Prop where
  dom : t.dom = s.dom
  com : t.com = s.com.lost
  pairs : ∀ e ∈ t.pairQ, e ∈ s.pairQ
  mem0 : t.mem0 = s.mem0
  mem1 : t.mem1 = s.mem1
  flash0 : t.flash0 = s.flash0
  flash1 : t.flash1 = s.flash1
  ink : t.ink = s.ink
  real : t.real = s.real

theorem State.commonLost_gone (s : State) (hb : s.com.dumpBuf = none) : CommonGone s s.commonLost := by
  unfold State.commonLost
  extract_lets u c v w c' x
  have hu : u.core = s.core := State.core_foldl (fun u w => u.core_unbuild _ _) _ s
  have hw : w.core = s.core.unswitched.unstaged := v.stageDrop_core.trans (congrArg (State.unstaged ∘ State.unswitched) hu)
  have hx : x.core = { s.core with com := s.com.lost } := congrArg State.stopped hw
  have hd : x.com.dumpBuf = none := (congrArg (fun y : State => y.com.dumpBuf) hx).trans hb
  rw [State.cutCapture_none hd]
  refine ⟨(congrArg State.dom hx :), (congrArg State.com hx :), fun e he => ?_, (congrArg State.mem0 hx :), (congrArg State.mem1 hx :),
    (congrArg State.flash0 hx :), (congrArg State.flash1 hx :), (congrArg State.ink hx :), (congrArg State.real hx :)⟩
  have hq : x.pairQ = s.pairQ := (congrArg State.pairQ hx :)
  exact hq ▸ List.mem_of_mem_filter he

end Sys2Proof.Machine
end
section
namespace Sys2Proof.Machine
open Sys2Proof

/-! Isolation. -/

theorem State.kept_iff {s t : State} : t.kept = s.kept ↔
    t.dom = s.dom ∧ t.flash0 = s.flash0 ∧ t.flash1 = s.flash1 ∧ t.real = s.real ∧ t.ink.still = s.ink.still ∧
      t.com.isos = s.com.isos ∧ t.com.history = s.com.history := by
  simp [State.kept]

theorem Spared.domLost {s t : State} (h : Spared s t) {d : Dom} (hd : d ≠ .common) : Spared s (t.domLost d) := by
  rcases d with p | l | _ | _
  · exact h.planeLost p
  · exact h.laneLost l
  · exact absurd rfl hd
  · exact h

theorem bitAt_eq_testBit (v b : Nat) : bitAt v b = v.testBit b := Nat.testBit_eq_decide_div_mod_eq.symm

/-- The fourth isolation of a plane or lane sets its LIMITED bit; what is kept stays. -/
theorem State.limit_limits (s : State) (d : Dom) (hb : domBltBit d < 4) :
    (s.limit d).kept = s.kept ∧ (∀ e ∈ (s.limit d).pairQ, e ∈ s.pairQ) ∧
      (4 ≤ s.isolatedOften d → bitAt ((s.limit d).fld .blt F.BLT_STATUS_LIMITED) (domBltBit d) = true) := by
  unfold State.limit
  extract_lets n
  by_cases hn : n < 4
  · rw [if_pos hn]
    exact ⟨rfl, fun _ h => h, fun h => absurd hn (by omega)⟩
  · rw [if_neg hn]
    have hd : d ≠ .common := fun h => by subst h; exact absurd hb (by decide)
    split
    · exact absurd rfl hd
    · next b _ _ =>
      have hs := State.fld_setFld_same s .blt F.BLT_STATUS_LIMITED (bitsPut (s.fld .blt F.BLT_STATUS_LIMITED) b b 1) 0
        (by decide) (by decide)
      have he := (Spared.refl (s.setFld .blt F.BLT_STATUS_LIMITED (bitsPut (s.fld .blt F.BLT_STATUS_LIMITED) b b 1))).bltEvent
        4 (domSrc d) n
      refine ⟨he.kept, he.pairs, fun _ => ?_⟩
      rw [he.fld _ rfl, hs, bitAt_eq_testBit, Nat.testBit_mod_two_pow, testBit_bitsPut _ _ _ _ _ (le_refl _),
        if_pos ⟨le_refl _, le_refl _⟩, Nat.sub_self]
      exact Bool.and_eq_true_iff.mpr ⟨decide_eq_true hb, rfl⟩

/-- The isolations of a domain within the last 600 s. -/
def State.recentOf (s : State) (d : Dom) : List (Dom × Nat) :=
  s.com.history.filter (fun e => decide (s.real ≤ e.2 + 600 * 1000000000 * 65536 ∧ e.1 = d))

/-- One more isolation of a domain is counted with those of the last 600 s. -/
theorem State.isolatedOften_again {s t : State} {d : Dom}
    (ht : t.com.history = s.com.history.filter (fun e => decide (s.real ≤ e.2 + 600 * sec)) ++ [(d, s.real)]) :
    t.isolatedOften d = (s.recentOf d).length + 1 := by
  have hs : 600 * sec = 600 * 1000000000 * 65536 := by decide
  simp [State.isolatedOften, State.recentOf, ht, List.filter_filter, hs, and_comm]

/-- What an isolation leaves: the domain's state, its record, HELD, and LIMITED from the fourth on (R436, R440). -/
def LeftIsolated (d : Dom) (c x y : Nat) (s t : State) : Prop :=
  t.domSt d = .isolated ∧ (∀ e, e ≠ d → t.domSt e = s.domSt e) ∧
    (∃ x_ : Isolation, t.com.isos = s.com.isos ++ [x_] ∧ x_.dom = d ∧ x_.cause = c ∧ x_.detail = x ∧ x_.addr = y ∧
      x_.time = s.evTime d ∧ x_.since = s.real ∧ x_.captured = false) ∧
    bitAt (t.fld .blt F.BLT_STATUS_HELD) (domBltBit d) = true ∧
    (3 ≤ (s.recentOf d).length → bitAt (t.fld .blt F.BLT_STATUS_LIMITED) (domBltBit d) = true) ∧
    t.flash0 = s.flash0 ∧ t.flash1 = s.flash1 ∧ t.ink.still = s.ink.still

theorem State.isolate_left (s : State) {d : Dom} (c x y : Nat) (hb : domBltBit d < 4) (hu : s.up d = true)
    (hc : causeOf c d = true) :
    LeftIsolated d c x y s (s.isolate d c x y) ∧ ∀ e ∈ (s.isolate d c x y).pairQ, e ∈ s.pairQ := by
  have hd : d ≠ .common := fun h => by subst h; exact absurd hb (by decide)
  unfold State.isolate
  rw [if_neg (by simp [hu, hc])]
  extract_lets others status rec s1 s2 s3 recent c4 s4 s5 c6 s6
  have h1 : Spared s s1 := Spared.ite ((Spared.refl s).memError d y) (Spared.refl s)
  have h3 : Spared { s1 with dom := s1.dom.put d .isolated } s3 := (s1.setDom_spared d .isolated).bltEvent _ _ _
  obtain ⟨hk, hq, hl⟩ := s4.limit_limits d hb
  have h5 : Spared (s4.limit d) s5 := (Spared.refl _).domLost hd
  have h6 : s6 = { s5 with com := { s5.com with isos := s5.com.isos ++ [rec] } } := if_neg hd
  have h7 : Spared s6 s6.captureNext := (Spared.refl s6).captureNext
  obtain ⟨held, limited, hb8⟩ := s6.captureNext.bltShow_shows
  generalize s6.captureNext.bltShow = t at held limited hb8
  obtain ⟨dom1, flash01, flash11, real1, still1, isos1, history1⟩ := State.kept_iff.mp h1.kept
  obtain ⟨dom3, flash03, flash13, real3, still3, isos3, history3⟩ := State.kept_iff.mp h3.kept
  obtain ⟨dom5, flash05, flash15, -, still5, isos5, -⟩ := State.kept_iff.mp (h5.kept.trans hk)
  obtain ⟨dom7, flash07, flash17, -, still7, isos7, -⟩ := State.kept_iff.mp (show t.kept = s6.kept from (congrArg State.kept hb8).trans h7.kept)
  have domt : t.dom = s.dom.put d .isolated := by rw [dom7, h6, dom5, dom3, dom1]
  obtain ⟨now, others_⟩ := Domains.put_domSt s d .isolated domt
  refine ⟨⟨now, others_, ⟨rec, ?_, rfl, rfl, rfl, rfl, rfl, rfl, rfl⟩, ?_, fun h => ?_, ?_, ?_, ?_⟩, ?_⟩
  · rw [isos7, h6, isos5, isos3, isos1]
  · rw [held]
    exact State.heldMask_bit _ d hb (by rw [← now]; exact (State.domSt_of_dom _ _ (congrArg State.dom hb8 :) d).symm)
  · rw [limited, h7.fld _ rfl, h6]
    refine (congrArg (bitAt · _) (h5.fld _ rfl)).trans (hl ?_)
    rw [State.isolatedOften_again (s := s) (by simp only [s4, recent, real3, history3, real1, history1])]
    omega
  · rw [flash07, h6, flash05, flash03, flash01]
  · rw [flash17, h6, flash15, flash13, flash11]
  · rw [still7, h6, still5, still3, still1]
  · intro e he
    have he6 : e ∈ s6.pairQ := h7.pairs e ((congrArg State.pairQ hb8 :) ▸ he)
    rw [h6] at he6
    exact h1.pairs e (h3.pairs e (hq e (h5.pairs e he6)))

end Sys2Proof.Machine
end

section
/-! # O55: isolation of a domain (R29, R57, R436, R440) -/

namespace Sys2Proof.Machine
open Sys2Proof

/-! Common. -/

theorem State.setDoms_quiet (s : State) (d : Domains) : (s.setDoms d).quiet = State.quiet { s with dom := d } := by
  refine iteInduction (motive := fun t : State => t.quiet = State.quiet { s with dom := d }) (fun h => ?_) fun _ => ?_
  · rw [h]
  · exact event_quiet _ _ _ _ _

theorem State.bltEvent_dumpBuf (s : State) (c u v : Nat) : (s.bltEvent c u v).com.dumpBuf = s.com.dumpBuf := by
  refine iteInduction (motive := fun t : State => t.com.dumpBuf = s.com.dumpBuf) (fun _ => ?_) fun _ => rfl
  exact congrArg CommonSt.dumpBuf (State.com_of_quiet (event_quiet _ _ _ _ _))

/-- What is kept of an isolated Common. -/
theorem State.retain_eq (s : State) (x : Isolation) : ∃ sects, s.retain x =
    { s with freeCtr := s.freeCtr + 1, com := { s.com with retained := some ⟨x, sects, false, true, false⟩ } } := ⟨_, rfl⟩

theorem State.captureNext_down {s : State} (h : s.up .common = false) : s.captureNext = s := if_pos (by rw [h]; rfl)

/-- Common's loss leaves the steward stopped and what is kept of Common for the new one (R57, R439). -/
theorem State.isolate_common (s : State) (c x y : Nat) (hu : s.up .common = true) (hc : causeOf c .common = true)
    (hb : s.com.dumpBuf = none) (hn : s.isolatedOften .common < 3) :
    let t := s.isolate .common c x y
    (t.domSt .common = .isolated ∧ (∀ e, e ≠ .common → t.domSt e = s.domSt e) ∧ t.com.steward = false ∧ t.com.mb0 = none ∧
      t.com.mb1 = none ∧ t.com.switches = [] ∧
      (∃ x_, t.com.retained = some x_ ∧ x_.retained = true ∧ x_.iso.dom = .common ∧ x_.iso.cause = c ∧ x_.iso.detail = x ∧
        x_.iso.addr = y ∧ x_.iso.since = s.real) ∧
      t.flash0 = s.flash0 ∧ t.flash1 = s.flash1 ∧ t.ink.still = s.ink.still) ∧ ∀ e ∈ t.pairQ, e ∈ s.pairQ := by
  unfold State.isolate
  rw [if_neg (by simp [hu, hc])]
  extract_lets others status rec s1 s2 s3 recent c4 s4 s5 c6 s6 t
  have h1 : Spared s s1 := Spared.ite ((Spared.refl s).memError .common y) (Spared.refl s)
  have b1 : s1.com.dumpBuf = none := iteInduction (motive := fun u : State => u.com.dumpBuf = none) (fun _ => hb) fun _ => hb
  have b2 : s2.com.dumpBuf = none := (congrArg CommonSt.dumpBuf (State.com_of_quiet (s1.setDoms_quiet _))).trans b1
  have b4 : s4.com.dumpBuf = none := (s2.bltEvent_dumpBuf _ _ _).trans b2
  have h3 : Spared { s1 with dom := s1.dom.put .common .isolated } s3 := (s1.setDom_spared .common .isolated).bltEvent _ _ _
  obtain ⟨dom1, flash01, flash11, real1, still1, -, history1⟩ := State.kept_iff.mp h1.kept
  obtain ⟨dom3, flash03, flash13, real3, still3, -, history3⟩ := State.kept_iff.mp h3.kept
  have few : s4.isolatedOften .common < 4 := by
    rw [State.isolatedOften_again (s := s) (by simp only [s4, recent, real3, history3, real1, history1])]
    have : (s.recentOf .common).length ≤ s.isolatedOften .common :=
      (List.monotone_filter_right _ fun e he => by simp_all).length_le
    omega
  have h5 : CommonGone s4 s5 := by
    have hl : s4.limit .common = s4 := if_pos few
    simp only [s5, hl]
    exact s4.commonLost_gone b4
  have h6 : s6 = s5.retain rec := if_pos rfl
  have ht : t.body = s6.captureNext.body := s6.captureNext.bltShow_shows.2.2
  have quiet4 : s4.pairQ = s3.pairQ ∧ s4.dom = s3.dom ∧ s4.flash0 = s3.flash0 ∧ s4.flash1 = s3.flash1 ∧ s4.ink = s3.ink :=
    ⟨rfl, rfl, rfl, rfl, rfl⟩
  clear_value t s6 s5 s4
  obtain ⟨pairs4, dom4, flash04, flash14, ink4⟩ := quiet4
  obtain ⟨sects, hr⟩ := s5.retain_eq rec
  rw [hr] at h6
  have dom5 : s5.dom = s.dom.put .common .isolated := by rw [h5.dom, dom4, dom3, dom1]
  have hdown : s5.up .common = false := by
    rw [State.up, (Domains.put_domSt s .common .isolated dom5).1]
    rfl
  have hdown6 : s6.up .common = false := by rw [h6]; exact hdown
  rw [State.captureNext_down hdown6, h6] at ht
  have com : t.com = { s4.com.lost with retained := some ⟨rec, sects, false, true, false⟩ } := by
    rw [← h5.com]
    exact congrArg State.com ht
  have domt : t.dom = s5.dom := (congrArg State.dom ht :)
  have flash0t : t.flash0 = s5.flash0 := (congrArg State.flash0 ht :)
  have flash1t : t.flash1 = s5.flash1 := (congrArg State.flash1 ht :)
  have inkt : t.ink = s5.ink := (congrArg State.ink ht :)
  have pairst : t.pairQ = s5.pairQ := (congrArg State.pairQ ht :)
  obtain ⟨now, others_⟩ := Domains.put_domSt s .common .isolated (domt.trans dom5)
  refine ⟨⟨now, others_, ?_, ?_, ?_, ?_, ⟨⟨rec, sects, false, true, false⟩, ?_, rfl, rfl, rfl, rfl, rfl, rfl⟩, ?_, ?_, ?_⟩, fun e he => ?_⟩
  · rw [com]; rfl
  · rw [com]; rfl
  · rw [com]; rfl
  · rw [com]; rfl
  · rw [com]
  · rw [flash0t, h5.flash0, flash04, flash03, flash01]
  · rw [flash1t, h5.flash1, flash14, flash13, flash11]
  · rw [inkt, h5.ink, ink4, still3, still1]
  · have he5 : e ∈ s5.pairQ := pairst ▸ he
    exact h1.pairs e (h3.pairs e (pairs4 ▸ h5.pairs e he5))

/-! The command. -/

/-- A cause that is not of the domain's, or a domain that is not UP, isolates nothing. -/
theorem State.isolate_refused (s : State) {d : Dom} {c : Nat} (x y : Nat) (h : s.up d = false ∨ causeOf c d = false) :
    s.isolate d c x y = s := by
  unfold State.isolate
  exact if_pos (by rcases h with h | h <;> simp [h])

theorem maskDoms_pow {d : Dom} (hb : domBltBit d < 4) : maskDoms (2 ^ domBltBit d) = [d] := by
  induction d, hb using domBltBit_lt_rec <;> rfl

/-- ISOLATE of one plane or lane, all four being UP, isolates it with cause 9. -/
theorem State.isolateCmd_one (s : State) {d : Dom} (ha : s.planeUp .a = true) (hb : s.planeUp .b = true) (h0 : s.laneUp .l0 = true)
    (h1 : s.laneUp .l1 = true) (hd : domBltBit d < 4) : s.isolateCmd (2 ^ domBltBit d) = s.isolate d 9 0 0 := by
  have hup : s.up d = true := by
    induction d, hd using domBltBit_lt_rec with
    | planeA => exact ha
    | planeB => exact hb
    | lane0 => exact h0
    | lane1 => exact h1
  simp only [State.planeUp, State.laneUp] at ha hb h0 h1
  unfold State.isolateCmd
  rw [maskDoms_pow hd, List.filter_cons_of_pos hup, List.filter_nil]
  refine (if_neg ?_).trans rfl
  simp only [ha, hb, h0, h1]
  rcases d with (_ | _) | (_ | _) | _ | _ <;> simp

/-- The domains a mask names among those that are UP. -/
theorem State.masked_contains (s : State) (m : Nat) {d : Dom} (hd : domBltBit d < 4) :
    ((maskDoms m).filter s.up).contains d = (bitAt m (domBltBit d) && s.up d) := by
  have all : d ∈ [Dom.plane .a, .plane .b, .lane .l0, .lane .l1] := by
    induction d, hd using domBltBit_lt_rec <;> simp
  rw [Bool.eq_iff_iff, List.contains_iff_mem, List.mem_filter, maskDoms, List.mem_filter, Bool.and_eq_true]
  exact ⟨fun ⟨⟨_, h⟩, k⟩ => ⟨h, k⟩, fun ⟨h, k⟩ => ⟨⟨all, h⟩, k⟩⟩

/-- ISOLATE that would leave no lane or no plane UP does nothing. -/
theorem State.isolateCmd_refused (s : State) {d : Dom} {m : Nat} (hu : s.up d = true) (hm : bitAt m (domBltBit d) = true)
    (h : (∃ l : Lane, d = .lane l ∧ (s.laneUp l.other = false ∨ bitAt m (domBltBit (.lane l.other)) = true)) ∨
      ∃ p : Plane, d = .plane p ∧ (s.planeUp p.other = false ∨ bitAt m (domBltBit (.plane p.other)) = true)) :
    s.isolateCmd m = s := by
  refine if_pos ?_
  have c := fun d hd => s.masked_contains m (d := d) hd
  dsimp only
  rw [c (.plane .a) (by decide), c (.plane .b) (by decide), c (.lane .l0) (by decide), c (.lane .l1) (by decide)]
  obtain ⟨l, rfl, h⟩ | ⟨p, rfl, h⟩ := h
  · cases l <;> rcases h with h | h <;> simp_all [State.laneUp, Lane.other]
  · cases p <;> rcases h with h | h <;> simp_all [State.planeUp, Plane.other]

/-- Settles O55: the isolated domain's state alone is put, what its loss does spares the others' states, flash and the vault, and a mask
that leaves no peer is refused before anything is done. -/
theorem domainIsolation : Obligations.DomainIsolation := by
  unfold Obligations.DomainIsolation
  intro d cause detail addr mask s hq
  have settle {t : State} (h : ∀ e ∈ t.pairQ, e ∈ s.pairQ) : t.settlePairs = t :=
    State.settlePairs_of_entries fun e he => hq e (h e he)
  have hexec : exec (.domainIsolate d cause detail addr) s =
      if cause.val = 9 then ok s else ok (s.isolate d cause.val detail addr).settlePairs := rfl
  have hcmd : exec (.isolate mask) s = if !s.up .common then ok s else ok (s.isolateCmd mask.val).settlePairs := rfl
  have still : s.settlePairs = s := settle fun _ h => h
  refine ⟨fun h => ?_, fun hu hc h9 hd => ?_, fun hd hu hc hb hn => ?_, fun hc ha hb h0 h1 hd hm => ?_, fun hc hu hm h => ?_⟩
  · by_cases h9 : cause.val = 9
    · rw [hexec, if_pos h9]
    · have hs : s.isolate d cause.val detail addr = s :=
        s.isolate_refused _ _ (h.imp_right fun h => h.resolve_right h9)
      rw [hexec, if_neg h9, hs, still]
  · have hb : domBltBit d < 4 := by
      rcases d with (_ | _) | (_ | _) | _ | _
      · decide
      · decide
      · decide
      · decide
      · exact absurd rfl hd
      · cases hc
    obtain ⟨left, pairs⟩ := s.isolate_left cause.val detail addr hb hu hc
    exact ⟨_, by rw [hexec, if_neg h9, settle pairs], left⟩
  · subst hd
    obtain ⟨left, pairs⟩ := s.isolate_common cause.val detail addr hu hc hb hn
    have h9 : cause.val ≠ 9 := fun h => by rw [h] at hc; exact absurd hc (by decide)
    exact ⟨_, by rw [hexec, if_neg h9, settle pairs], left⟩
  · have hup : s.up d = true ∧ causeOf 9 d = true := by
      clear hm
      induction d, hd using domBltBit_lt_rec with
      | planeA => exact ⟨ha, rfl⟩
      | planeB => exact ⟨hb, rfl⟩
      | lane0 => exact ⟨h0, rfl⟩
      | lane1 => exact ⟨h1, rfl⟩
    obtain ⟨left, pairs⟩ := s.isolate_left 9 0 0 hd hup.1 hup.2
    have hi : s.isolateCmd mask.val = s.isolate d 9 0 0 := by rw [hm, s.isolateCmd_one ha hb h0 h1 hd]
    exact ⟨_, by rw [hcmd, if_neg (by simp [hc]), hi, settle pairs], left⟩
  · rw [hcmd, if_neg (by simp [hc]), s.isolateCmd_refused hu hm h, still]

end Sys2Proof.Machine
end

section
/-! # The trip pins: what showing the drives changes, and what it leaves (R299, R300, R302) -/

namespace Sys2Proof.Machine
open Sys2Proof

/-! Masks and folds. -/

/-- A step that a fold takes establishes what the other steps keep. -/
theorem foldl_establishes {α σ : Type} {f : σ → α → σ} {I P : σ → Prop} {x : α} (hinv : ∀ u y, I u → I (f u y))
    (hest : ∀ u, I u → P (f u x)) (hkeep : ∀ u y, I u → P u → P (f u y)) :
    ∀ (l : List α) {s : σ}, I s → x ∈ l → P (l.foldl f s)
  | y :: ys, s, hs, hx => by
    have keep : ∀ (zs : List α) {u : σ}, I u → P u → P (zs.foldl f u) := by
      intro zs
      induction zs with
      | nil => exact fun _ h => h
      | cons z zs ih => exact fun hu hp => ih (hinv _ z hu) (hkeep _ z hu hp)
    rcases List.mem_cons.mp hx with rfl | hx
    · exact keep ys (hinv _ _ hs) (hest _ hs)
    · exact foldl_establishes hinv hest hkeep ys (hinv _ _ hs) hx

theorem foldl_keeps {α σ : Type} {f : σ → α → σ} {I : σ → Prop} (hinv : ∀ u y, I u → I (f u y)) :
    ∀ (l : List α) {s : σ}, I s → I (l.foldl f s)
  | [], _, h => h
  | y :: ys, _, h => foldl_keeps hinv ys (hinv _ y h)

/-- A mask of the numbers below `n`: it fits in `n` bits, and each bit says whether its number is in the set. -/
theorem mask_bits (f : Nat → Bool) (n : Nat) :
    ((List.range n).map (fun i => b2n (f i) * 2 ^ i)).sum < 2 ^ n ∧
      ∀ j, (((List.range n).map (fun i => b2n (f i) * 2 ^ i)).sum).testBit j = (decide (j < n) && f j) := by
  induction n with
  | zero => simp
  | succ n ih =>
    obtain ⟨hlt, hbit⟩ := ih
    rw [List.range_succ, List.map_append, List.sum_append]
    generalize ((List.range n).map (fun i => b2n (f i) * 2 ^ i)).sum = m at hlt hbit
    have hs : m + ([n].map (fun i => b2n (f i) * 2 ^ i)).sum = 2 ^ n * b2n (f n) + m := by simp [Nat.mul_comm, Nat.add_comm]
    rw [hs]
    refine ⟨?_, fun j => ?_⟩
    · have : 2 ^ n * b2n (f n) ≤ 2 ^ n := (Nat.mul_le_mul_left _ (by cases f n <;> decide : b2n (f n) ≤ 1)).trans_eq (Nat.mul_one _)
      omega
    · rw [Nat.testBit_two_pow_mul_add _ hlt]
      rcases lt_trichotomy j n with h | rfl | h
      · rw [if_pos h, hbit, decide_eq_true h, decide_eq_true (by omega)]
      · rw [if_neg (lt_irrefl _), Nat.sub_self, decide_eq_true (Nat.lt_succ_self _)]
        cases f j <;> rfl
      · rw [if_neg (by omega), decide_eq_false (by omega), Bool.false_and]
        refine Nat.testBit_lt_two_pow ?_
        have : 2 ^ 1 ≤ 2 ^ (j - n) := Nat.pow_le_pow_right (by decide) (by omega)
        have : b2n (f n) ≤ 1 := by cases f n <;> decide
        omega

/-! What showing the drives may change. -/

/-- The registers that show the trip drives and pins. -/
def tripShowAt : List (Nat × Nat) :=
  [regAt (.pub .l0) .PUB_TRIP_DRIVE, regAt (.pub .l0) .PUB_TRIP_STATUS, regAt (.pub .l1) .PUB_TRIP_DRIVE, regAt (.pub .l1) .PUB_TRIP_STATUS]

/-- The state without its registers, the pin levels and the lanes' trip drives. -/
def State.bareTrip (t : State) : State :=
  { t.body with pins := { t.pins with trip := [] }, l0 := { t.l0 with trip := [] }, l1 := { t.l1 with trip := [] } }

/-- A drive without the run of its disagreement. -/
def TripSt.steady (x : TripSt) : TripSt := { x with diff := none, told := false }

/-- Steps that change no more than the registers that show the drives, the pin levels and the runs of disagreements. -/
structure Shows (s t : State) : Prop where
  regs : RegsOutside tripShowAt s t
  bare : t.bareTrip = s.bareTrip
  steady : ∀ k j, (t.trip k j).steady = (s.trip k j).steady

namespace Shows
variable {s t u : State}

theorem refl (s : State) : Shows s s := ⟨RegsOutside.refl _ s, rfl, fun _ _ => rfl⟩

theorem trans (h : Shows s t) (k : Shows t u) : Shows s u :=
  ⟨h.regs.trans k.regs, k.bare.trans h.bare, fun l j => (k.steady l j).trans (h.steady l j)⟩

theorem drive (h : Shows s t) (k : Lane) (j : Nat) : (t.trip k j).drive = (s.trip k j).drive := (congrArg TripSt.drive (h.steady k j) :)
theorem due (h : Shows s t) (k : Lane) (j : Nat) : (t.trip k j).due = (s.trip k j).due := (congrArg TripSt.due (h.steady k j) :)
theorem rose (h : Shows s t) (k : Lane) (j : Nat) : (t.trip k j).rose = (s.trip k j).rose := (congrArg TripSt.rose (h.steady k j) :)
theorem want (h : Shows s t) (k : Lane) (j : Nat) : (t.trip k j).want = (s.trip k j).want := (congrArg TripSt.want (h.steady k j) :)

end Shows

/-! What the pins depend on. -/

/-- A lane without its trip drives. -/
def LaneSt.untripped (x : LaneSt) : LaneSt := { x with trip := [] }

theorem State.lane_of_bare {s t : State} (h : t.bareTrip = s.bareTrip) (k : Lane) : (t.lane k).untripped = (s.lane k).untripped := by
  cases k
  · exact congrArg State.l0 h
  · exact congrArg State.l1 h

theorem State.dom_of_bare {s t : State} (h : t.bareTrip = s.bareTrip) : t.dom = s.dom := (congrArg State.dom h :)
theorem State.com_of_bare {s t : State} (h : t.bareTrip = s.bareTrip) : t.com = s.com := (congrArg State.com h :)

theorem State.laneNow_of_bare {s t : State} (h : t.bareTrip = s.bareTrip) (k : Lane) : t.laneNow k = s.laneNow k :=
  (congrArg LaneSt.now (State.lane_of_bare h k) :)

/-- The words of a window apart from the ranges. -/
theorem RegsOutside.winWords {rs : List (Nat × Nat)} {s t : State} (h : RegsOutside rs s t) {a n : Nat}
    (ha : ∀ e ∈ rs, a + 4 * n ≤ e.1 ∨ e.1 + e.2 ≤ a) : t.winWords a n = s.winWords a n := by
  induction n generalizing a with
  | zero => rfl
  | succ n ih =>
    have hw : t.win a = s.win a := by
      unfold State.win assocGetD
      rw [h a fun e he => by have := ha e he; omega]
    rw [State.winWords, State.winWords, hw, ih fun e he => by have := ha e he; omega]

/-- A field of an entry of `m` bytes apart from the ranges. -/
theorem RegsOutside.ent {rs : List (Nat × Nat)} {s t : State} (h : RegsOutside rs s t) {a m : Nat} {f : EFld}
    (ha : ∀ e ∈ rs, a + m ≤ e.1 ∨ e.1 + e.2 ≤ a)
    (hf : f.off / 4 * 4 + 4 * ((f.hi + 8 * (f.off % 4)) / 32 + 1) ≤ m := by decide) : t.ent a f = s.ent a f := by
  simp only [State.ent]
  rw [h.winWords fun e he => by have := ha e he; omega]

theorem tripShowAt_eq : tripShowAt = [(0x1011800014, 1), (0x1011800010, 1), (0x1021800014, 1), (0x1021800010, 1)] := by decide

theorem tripAct_eq (k : Lane) (j : Nat) : tripAct k j = 0x1011B01000 + 0x10000000 * k.idx + 16 * j := by
  have base : (Page.pub k).base + (Win.info .pubTripAct).off = 0x1011B01000 + 0x10000000 * k.idx := by cases k <;> decide
  exact congrArg (· + 16 * j) base

/-- The trip entries of the pins stand apart from the registers that show them, and so does the EPS area of a lane. -/
theorem tripAct_apart (k : Lane) {j : Nat} (hj : j < 16) : ∀ e ∈ tripShowAt, tripAct k j + 16 ≤ e.1 ∨ e.1 + e.2 ≤ tripAct k j := by
  rw [tripShowAt_eq, tripAct_eq]
  have : k.idx < 2 := by cases k <;> decide
  simp only [List.forall_mem_cons]
  refine ⟨?_, ?_, ?_, ?_, by simp⟩
  all_goals simp; omega

theorem epsTable_apart (k : Lane) (a : Nat) : ∀ e ∈ tripShowAt, epsBase k + a + 16 ≤ e.1 ∨ e.1 + e.2 ≤ epsBase k + a := by
  rw [tripShowAt_eq]
  have : 2 ^ 48 ≤ epsBase k := Nat.le_add_right _ _
  simp only [List.forall_mem_cons]
  refine ⟨?_, ?_, ?_, ?_, by simp⟩
  all_goals simp; omega

section
variable {s t : State} (hr : RegsOutside tripShowAt s t)
include hr

theorem State.pubCtrl_shows (k : Lane) {f : Fld} (hf : f.id = .PUB_CTRL) : t.bit (.pub k) f = s.bit (.pub k) f := by
  unfold State.bit
  rw [hr.fld (.pub k) f 0 (by rw [hf]; cases k <;> decide)]

theorem State.bootStatus_shows {f : Fld} (hf : f.id = .CFG_BOOT_STATUS) : t.bit .cfg f = s.bit .cfg f := by
  unfold State.bit
  rw [hr.fld .cfg f 0 (by rw [hf]; decide)]

theorem State.rolledOut_shows (k : Lane) : t.rolledOut k = s.rolledOut k := by
  have load (f : Fld) (hf : f.id = .STW_LOAD_STATUS) : t.bit .stwLoad f = s.bit .stwLoad f := by
    unfold State.bit
    rw [hr.fld .stwLoad f 0 (by rw [hf]; decide)]
  cases k
  · exact load _ rfl
  · exact load _ rfl

variable (hb : t.bareTrip = s.bareTrip)
include hb

theorem State.epsHolds_shows (k : Lane) (j : Nat) : t.epsHolds k j = s.epsHolds k j := by
  have left : (t.lane k).epsLeft = (s.lane k).epsLeft := (congrArg LaneSt.epsLeft (State.lane_of_bare hb k) :)
  have armed : t.armed k = s.armed k := by
    cases k
    · exact State.bootStatus_shows hr rfl
    · exact State.bootStatus_shows hr rfl
  have handed : t.handed k = s.handed k := by
    cases k
    · exact State.bootStatus_shows hr rfl
    · exact State.bootStatus_shows hr rfl
  unfold State.epsHolds State.epsRuns
  rw [State.laneUp_congr (State.dom_of_bare hb), armed, handed, left]

theorem State.tripCfg_shows (k : Lane) (j : Nat) : t.tripCfg k j = s.tripCfg k j := by
  unfold State.tripCfg
  rw [State.epsHolds_shows hr hb]

theorem State.tripEnt_shows (k : Lane) {j : Nat} (hj : j < 16) {f : EFld}
    (hf : f.off / 4 * 4 + 4 * ((f.hi + 8 * (f.off % 4)) / 32 + 1) ≤ 16) :
    t.ent (t.tripCfg k j) f = s.ent (s.tripCfg k j) f := by
  rw [State.tripCfg_shows hr hb]
  unfold State.tripCfg
  split
  · exact hr.ent (by simpa only [Nat.add_assoc] using epsTable_apart k (0x100 + 16 * j)) hf
  · exact hr.ent (tripAct_apart k hj) hf

theorem State.tripPresent_shows (k : Lane) (j : Nat) : t.tripPresent k j = s.tripPresent k j := by
  unfold State.tripPresent
  rw [State.laneUp_congr (State.dom_of_bare hb), State.rolledOut_shows hr, State.epsHolds_shows hr hb, State.pubCtrl_shows hr _ rfl]

variable (hd : ∀ k j, (t.trip k j).drive = (s.trip k j).drive)
include hd

theorem State.laneDrive_shows (k : Lane) {j : Nat} (hj : j < 16) : t.laneDrive k j = s.laneDrive k j := by
  have full : t.fullDrive k j = s.fullDrive k j := by
    unfold State.fullDrive
    rw [State.pubCtrl_shows hr _ rfl, hr.ent (m := 16) (tripAct_apart k hj), hd]
  have left : (t.lane k).epsLeft = (s.lane k).epsLeft := (congrArg LaneSt.epsLeft (State.lane_of_bare hb k) :)
  have pin : t.epsPinSt k j = s.epsPinSt k j := (congrArg (fun x : LaneSt => assocGetD x.epsPin j (false, 0)) (State.lane_of_bare hb k) :)
  unfold State.laneDrive
  rw [State.epsHolds_shows hr hb, full, left, pin]

theorem State.pinLevel_shows {j : Nat} (hj : j < 16) : t.pinLevel j = s.pinLevel j := by
  have vote (k : Lane) : t.ent (t.tripCfg k j) E.T12_6_VOTE = s.ent (s.tripCfg k j) E.T12_6_VOTE :=
    State.tripEnt_shows hr hb k hj (by decide)
  have fallback (k : Lane) : t.ent (t.tripCfg k j) E.T12_6_FALLBACK = s.ent (s.tripCfg k j) E.T12_6_FALLBACK :=
    State.tripEnt_shows hr hb k hj (by decide)
  unfold State.pinLevel
  simp only [State.com_of_bare hb, State.laneDrive_shows hr hb hd _ hj, vote, fallback, State.tripPresent_shows hr hb]

theorem State.tripDiffers_shows (k : Lane) {j : Nat} (hj : j < 16) : t.tripDiffers k j = s.tripDiffers k j := by
  unfold State.tripDiffers
  rw [State.laneDrive_shows hr hb hd _ hj, State.pinLevel_shows hr hb hd hj,
    State.tripEnt_shows hr hb k hj (f := E.T12_6_VOTE) (by decide)]

end

end Sys2Proof.Machine
end

section
/-! # Showing the trip drives: the balls, LEVEL and DRIVE, and the runs of disagreements (R301, R302) -/

namespace Sys2Proof.Machine
open Sys2Proof

/-! A stored drive. -/

@[simp] theorem State.trip_setTrip_same (s : State) (l : Lane) (n : Nat) (x : TripSt) : (s.setTrip l n x).trip l n = x := by
  cases l <;> exact assocGetD_put_same _ _ _ _

theorem State.trip_setTrip_other (s : State) {l k : Lane} {n j : Nat} (x : TripSt) (h : (k, j) ≠ (l, n)) :
    (s.setTrip l n x).trip k j = s.trip k j := by
  cases l <;> cases k
  · exact assocGetD_put_other _ _ _ _ _ fun e => h (by rw [e])
  · rfl
  · rfl
  · exact assocGetD_put_other _ _ _ _ _ fun e => h (by rw [e])

@[simp] theorem State.bareTrip_setTrip (s : State) (l : Lane) (n : Nat) (x : TripSt) : (s.setTrip l n x).bareTrip = s.bareTrip := by
  cases l <;> rfl

@[simp] theorem State.regs_setTrip (s : State) (l : Lane) (n : Nat) (x : TripSt) : (s.setTrip l n x).regs = s.regs := by
  cases l <;> rfl

namespace Shows
variable {s t : State}

theorem setTrip (h : Shows s t) {l : Lane} {n : Nat} {x : TripSt} (hx : x.steady = (t.trip l n).steady) : Shows s (t.setTrip l n x) := by
  refine h.trans ⟨RegsOutside.of_eq (t.regs_setTrip l n x), t.bareTrip_setTrip l n x, fun k j => ?_⟩
  by_cases e : (k, j) = (l, n)
  · obtain ⟨rfl, rfl⟩ := Prod.mk.inj e
    rw [t.trip_setTrip_same, hx]
  · rw [t.trip_setTrip_other x e]

theorem setFld (h : Shows s t) {l : Lane} {f : Fld} (v : Nat) (hf : regAt (.pub l) f.id ∈ tripShowAt) : Shows s (t.setFld (.pub l) f v) :=
  h.trans ⟨(RegsOutside.refl _ t).setFld _ _ _ _ (regIn_of_mem hf), rfl, fun k _ => by cases k <;> rfl⟩

theorem pinLevel (h : Shows s t) {j : Nat} (hj : j < 16) : t.pinLevel j = s.pinLevel j :=
  State.pinLevel_shows h.regs h.bare h.drive hj

theorem laneDrive (h : Shows s t) (k : Lane) {j : Nat} (hj : j < 16) : t.laneDrive k j = s.laneDrive k j :=
  State.laneDrive_shows h.regs h.bare h.drive k hj

theorem tripDiffers (h : Shows s t) (k : Lane) {j : Nat} (hj : j < 16) : t.tripDiffers k j = s.tripDiffers k j :=
  State.tripDiffers_shows h.regs h.bare h.drive k hj

end Shows

/-! The parts of a show. -/

/-- The run of a pin's disagreement follows. -/
def State.tripRun (s : State) (l : Lane) (n : Nat) : State :=
  let x := s.trip l n
  let diff := if s.tripDiffers l n then (if x.diff.isSome then x.diff else some (s.laneNow l)) else none
  if x.diff = diff then s else s.setTrip l n { x with diff := diff, told := x.told && diff.isSome }

/-- A set of pins as the registers show it. -/
def pinWord (f : Nat → Bool) : Nat := (tripPins.map (fun n => b2n (f n) * 2 ^ n)).sum

/-- What a lane shows. -/
def State.tripWords (s : State) (l : Lane) : State :=
  (s.setFld (.pub l) F.PUB_TRIP_DRIVE_DRIVE (pinWord (s.laneDrive l))).setFld (.pub l) F.PUB_TRIP_STATUS_LEVEL
    (pinWord (State.pinLevel (s.setFld (.pub l) F.PUB_TRIP_DRIVE_DRIVE (pinWord (s.laneDrive l)))))

def State.tripLane (s : State) (l : Lane) : State := tripPins.foldl (fun s n => s.tripRun l n) (s.tripWords l)

/-- The balls take the levels. -/
def State.tripBalls (s : State) : State :=
  { s with pins := { s.pins with trip := (tripPins.filter s.pinLevel).map (fun n => (n, true)) } }

theorem State.tripShow_eq (s : State) : s.tripShow = s.upLanes.foldl (fun s l => s.tripLane l) s.tripBalls := rfl

namespace Shows
variable {s t : State} (h : Shows s t)
include h

theorem tripRun (l : Lane) (n : Nat) : Shows s (t.tripRun l n) :=
  iteInduction (motive := Shows s) (fun _ => h) fun _ => h.setTrip rfl

theorem tripWords (l : Lane) : Shows s (t.tripWords l) := by
  refine (h.setFld _ ?_).setFld _ ?_
  all_goals cases l <;> decide

theorem tripLane (l : Lane) : Shows s (t.tripLane l) := foldl_keeps (fun _ _ h => h.tripRun _ _) _ (h.tripWords l)

theorem tripBalls : Shows s t.tripBalls := h.trans ⟨RegsOutside.refl _ t, rfl, fun k _ => by cases k <;> rfl⟩

theorem tripShow : Shows s t.tripShow := by
  rw [State.tripShow_eq]
  exact foldl_keeps (fun _ _ h => h.tripLane _) _ h.tripBalls

end Shows

end Sys2Proof.Machine
end

section
/-! # What the lanes show once the drives have been shown (R299, R301, R302) -/

namespace Sys2Proof.Machine
open Sys2Proof

/-! The run of one disagreement. -/

@[simp] theorem State.regs_tripRun (s : State) (l : Lane) (n : Nat) : (s.tripRun l n).regs = s.regs :=
  iteInduction (motive := fun t => State.regs t = s.regs) (fun _ => rfl) fun _ => s.regs_setTrip ..

@[simp] theorem State.pins_tripRun (s : State) (l : Lane) (n : Nat) : (s.tripRun l n).pins = s.pins :=
  iteInduction (motive := fun t => State.pins t = s.pins) (fun _ => rfl) fun _ => by cases l <;> rfl

theorem State.trip_tripRun_other (s : State) {l k : Lane} {n j : Nat} (h : (k, j) ≠ (l, n)) : (s.tripRun l n).trip k j = s.trip k j :=
  iteInduction (motive := fun t => State.trip t k j = s.trip k j) (fun _ => rfl) fun _ => s.trip_setTrip_other _ h

/-- A pin that agrees has no run. -/
theorem State.diff_tripRun_agrees {s : State} {l : Lane} {n : Nat} (h : s.tripDiffers l n = false) : ((s.tripRun l n).trip l n).diff = none := by
  simp only [State.tripRun, h, Bool.false_eq_true, if_false]
  split
  · assumption
  · rw [State.trip_setTrip_same]

/-- A run that has begun goes on. -/
theorem State.tripRun_differs {s : State} {l : Lane} {n t0 : Nat} (h : s.tripDiffers l n = true) (hd : (s.trip l n).diff = some t0) :
    s.tripRun l n = s := by
  simp only [State.tripRun, h, hd, Option.isSome_some, if_true]

theorem mem_tripPins {j : Nat} : j ∈ tripPins ↔ j < 16 := List.mem_range

/-! What showing the drives keeps and establishes, lane by lane. -/

/-- What every run of a disagreement keeps is kept by the lane's show. -/
theorem State.tripLane_keeps {I : State → Prop} {l : Lane} (hrun : ∀ u n, I u → I (u.tripRun l n)) {s : State} (h : I (s.tripWords l)) :
    I (s.tripLane l) := foldl_keeps hrun _ h

@[simp] theorem State.regs_tripLane (s : State) (l : Lane) : (s.tripLane l).regs = (s.tripWords l).regs :=
  State.tripLane_keeps (I := fun t => t.regs = (s.tripWords l).regs) (fun u n h => (u.regs_tripRun l n).trans h) rfl

@[simp] theorem State.pins_tripLane (s : State) (l : Lane) : (s.tripLane l).pins = s.pins :=
  State.tripLane_keeps (I := fun t => t.pins = s.pins) (fun u n h => (u.pins_tripRun l n).trans h) rfl

@[simp] theorem State.trip_tripWords (s : State) (l k : Lane) (j : Nat) : (s.tripWords l).trip k j = s.trip k j := by cases k <;> rfl

theorem State.mem_upLanes {s : State} {l : Lane} (h : s.laneUp l = true) : l ∈ s.upLanes := by
  cases l <;> simp [State.upLanes, h]

section
variable {s : State} {l : Lane} {n : Nat}

/-- A pin that agrees has no run once the drives have been shown. -/
theorem State.diff_tripShow_agrees (hl : s.laneUp l = true) (hn : n < 16) (h : s.tripDiffers l n = false) :
    (s.tripShow.trip l n).diff = none := by
  have run (u : State) (k : Lane) (j : Nat) (hu : Shows s u ∧ (u.trip l n).diff = none) :
      Shows s (u.tripRun k j) ∧ ((u.tripRun k j).trip l n).diff = none := by
    refine ⟨hu.1.tripRun k j, ?_⟩
    by_cases e : (l, n) = (k, j)
    · obtain ⟨rfl, rfl⟩ := Prod.mk.inj e
      exact State.diff_tripRun_agrees ((hu.1.tripDiffers l hn).trans h)
    · rw [u.trip_tripRun_other e]
      exact hu.2
  have words (u : State) (k : Lane) (hu : Shows s u) : Shows s (u.tripWords k) := hu.tripWords k
  rw [State.tripShow_eq]
  refine foldl_establishes (I := Shows s) (P := fun u => (u.trip l n).diff = none) (fun u k hu => hu.tripLane k) (fun u hu => ?_)
    (fun u k hu hd => (State.tripLane_keeps (I := fun u => Shows s u ∧ (u.trip l n).diff = none) (fun u j => run u k j)
      ⟨hu.tripWords k, by rw [State.trip_tripWords, hd]⟩).2) s.upLanes (Shows.refl s).tripBalls (State.mem_upLanes hl)
  exact foldl_establishes (I := Shows s) (P := fun u => (u.trip l n).diff = none) (fun u j hu => hu.tripRun l j)
    (fun u hu => State.diff_tripRun_agrees ((hu.tripDiffers l hn).trans h)) (fun u j hu hd => (run u l j ⟨hu, hd⟩).2)
    tripPins (hu.tripWords l) (mem_tripPins.2 hn)

/-- A run that has begun is as before once the drives have been shown. -/
theorem State.trip_tripShow_differs (hn : n < 16) (h : s.tripDiffers l n = true) {t0 : Nat} (hd : (s.trip l n).diff = some t0) :
    s.tripShow.trip l n = s.trip l n := by
  have run (k : Lane) (u : State) (j : Nat) (hu : Shows s u ∧ u.trip l n = s.trip l n) :
      Shows s (u.tripRun k j) ∧ (u.tripRun k j).trip l n = s.trip l n := by
    refine ⟨hu.1.tripRun k j, ?_⟩
    by_cases e : (l, n) = (k, j)
    · obtain ⟨rfl, rfl⟩ := Prod.mk.inj e
      rw [State.tripRun_differs ((hu.1.tripDiffers l hn).trans h) (by rw [hu.2, hd]), hu.2]
    · rw [u.trip_tripRun_other e, hu.2]
  rw [State.tripShow_eq]
  refine (foldl_keeps (I := fun u => Shows s u ∧ u.trip l n = s.trip l n) (fun u k hu => ?_) s.upLanes
    ⟨(Shows.refl s).tripBalls, by cases l <;> rfl⟩).2
  exact State.tripLane_keeps (run k) ⟨hu.1.tripWords k, by rw [State.trip_tripWords, hu.2]⟩

end

/-! The words of a lane. -/

theorem bitAt_pinWord (f : Nat → Bool) {j : Nat} (hj : j < 16) : bitAt (pinWord f) j = f j := by
  rw [bitAt_eq_testBit, pinWord, tripPins, (mask_bits f 16).2, decide_eq_true hj, Bool.true_and]

theorem pinWord_lt (f : Nat → Bool) : pinWord f < 2 ^ 16 := (mask_bits f 16).1

/-- A lane's LEVEL and DRIVE in `t` are the pins' levels and the lane's drives in `s`. -/
structure WordsOf (s : State) (l : Lane) (t : State) : Prop where
  level : ∀ j < 16, bitAt (t.fld (.pub l) F.PUB_TRIP_STATUS_LEVEL) j = s.pinLevel j
  drive : ∀ j < 16, bitAt (t.fld (.pub l) F.PUB_TRIP_DRIVE_DRIVE) j = s.laneDrive l j

theorem WordsOf.congr {s t u : State} {l : Lane} (h : WordsOf s l t)
    (he : ∀ f, f.id = .PUB_TRIP_STATUS ∨ f.id = .PUB_TRIP_DRIVE → u.fld (.pub l) f = t.fld (.pub l) f) : WordsOf s l u :=
  ⟨fun j hj => by rw [he _ (.inl rfl)]; exact h.level j hj, fun j hj => by rw [he _ (.inr rfl)]; exact h.drive j hj⟩

/-- A lane's words stay as the other lane's are stored. -/
theorem State.fld_tripWords_other (u : State) {k l : Lane} (h : k ≠ l) (f : Fld) (hf : f.id = .PUB_TRIP_STATUS ∨ f.id = .PUB_TRIP_DRIVE) :
    (u.tripWords k).fld (.pub l) f = u.fld (.pub l) f := by
  obtain rfl : l = k.other := by cases k <;> cases l <;> simp_all [Lane.other]
  have apart (g : Fld) (hg : g.id = .PUB_TRIP_STATUS ∨ g.id = .PUB_TRIP_DRIVE) : regAddr (.pub k.other) f.id 0 ≠ regAddr (.pub k) g.id 0 := by
    rcases hf with hf | hf <;> rcases hg with hg | hg <;> rw [hf, hg] <;> cases k <;> decide
  unfold State.tripWords
  rw [State.fld_setFld_other _ _ _ _ _ _ _ _ (apart _ (.inl rfl)), State.fld_setFld_other _ _ _ _ _ _ _ _ (apart _ (.inr rfl))]

/-- A lane's words as they are stored. -/
theorem Shows.wordsOf_tripWords {s u : State} (h : Shows s u) (l : Lane) : WordsOf s l (u.tripWords l) := by
  let v := u.setFld (.pub l) F.PUB_TRIP_DRIVE_DRIVE (pinWord (u.laneDrive l))
  have hv : Shows s v := h.setFld _ (by cases l <;> decide)
  refine ⟨fun j hj => ?_, fun j hj => ?_⟩
  · have e : (u.tripWords l).fld (.pub l) F.PUB_TRIP_STATUS_LEVEL = pinWord v.pinLevel % 2 ^ 16 :=
      State.fld_setFld_same _ _ F.PUB_TRIP_STATUS_LEVEL _ _ (by decide) (by decide)
    rw [e, Nat.mod_eq_of_lt (pinWord_lt _), bitAt_pinWord _ hj, hv.pinLevel hj]
  · have e : (u.tripWords l).fld (.pub l) F.PUB_TRIP_DRIVE_DRIVE = v.fld (.pub l) F.PUB_TRIP_DRIVE_DRIVE :=
      State.fld_setFld_other _ _ _ F.PUB_TRIP_STATUS_LEVEL _ _ _ _ (by cases l <;> decide)
    have e' : v.fld (.pub l) F.PUB_TRIP_DRIVE_DRIVE = pinWord (u.laneDrive l) % 2 ^ 16 :=
      State.fld_setFld_same _ _ F.PUB_TRIP_DRIVE_DRIVE _ _ (by decide) (by decide)
    rw [e, e', Nat.mod_eq_of_lt (pinWord_lt _), bitAt_pinWord _ hj, h.laneDrive l hj]

/-- The show of a lane stores its words. -/
theorem Shows.wordsOf_tripLane {s u : State} (h : Shows s u) (l : Lane) : WordsOf s l (u.tripLane l) :=
  (h.wordsOf_tripWords l).congr fun _ _ => State.fld_congr (u.regs_tripLane l) ..

/-- An UP lane's words follow the drives. -/
theorem State.wordsOf_tripShow {s : State} {l : Lane} (hl : s.laneUp l = true) : WordsOf s l s.tripShow := by
  rw [State.tripShow_eq]
  refine foldl_establishes (I := Shows s) (fun u k hu => hu.tripLane k) (fun u hu => hu.wordsOf_tripLane l) (fun u k hu hw => ?_)
    s.upLanes (Shows.refl s).tripBalls (State.mem_upLanes hl)
  by_cases e : k = l
  · exact e ▸ hu.wordsOf_tripLane k
  · exact hw.congr fun f hf => (State.fld_congr (u.regs_tripLane k) ..).trans (u.fld_tripWords_other e f hf)

/-- The balls follow the levels. -/
theorem State.pins_tripShow (s : State) : s.tripShow.pins = s.tripBalls.pins := by
  rw [State.tripShow_eq]
  exact foldl_keeps (I := fun u : State => u.pins = s.tripBalls.pins) (fun u k h => (u.pins_tripLane k).trans h) _ rfl

theorem State.mem_trip_tripBalls {s : State} {j : Nat} (hj : j < 16) : (j, true) ∈ s.tripBalls.pins.trip ↔ s.pinLevel j = true := by
  simp [State.tripBalls, mem_tripPins, hj]

/-- The disagreements told stay. -/
theorem State.dis_tripShow (s : State) (l : Lane) :
    s.tripShow.fld (.pub l) F.PUB_TRIP_STATUS_DIS = s.fld (.pub l) F.PUB_TRIP_STATUS_DIS := by
  have words (u : State) (k : Lane) : (u.tripWords k).fld (.pub l) F.PUB_TRIP_STATUS_DIS = u.fld (.pub l) F.PUB_TRIP_STATUS_DIS := by
    by_cases e : k = l
    · subst e
      refine (State.fld_setFld_apart _ _ F.PUB_TRIP_STATUS_LEVEL F.PUB_TRIP_STATUS_DIS _ _ rfl (by decide) (by decide) (by decide)).trans ?_
      exact State.fld_setFld_other _ _ _ F.PUB_TRIP_DRIVE_DRIVE _ _ _ _ (by cases k <;> decide)
    · exact u.fld_tripWords_other e _ (.inl rfl)
  rw [State.tripShow_eq]
  exact foldl_keeps (I := fun u : State => u.fld (.pub l) F.PUB_TRIP_STATUS_DIS = s.fld (.pub l) F.PUB_TRIP_STATUS_DIS)
    (fun u k h => ((State.fld_congr (u.regs_tripLane k) ..).trans (words u k)).trans h) _ rfl

/-! The show as O40 states it. -/

/-- What a show leaves of `s` in `t`: balls, levels and drives of `t`, the disagreements told and every other drive of `s`. -/
def tripShown (l : Lane) (n : Nat) (s t : State) : Prop :=
  (∀ j < 16, ((j, true) ∈ t.pins.trip ↔ t.pinLevel j = true) ∧
      (bitAt (t.fld (.pub l) F.PUB_TRIP_STATUS_LEVEL) j = t.pinLevel j) ∧
      (bitAt (t.fld (.pub l) F.PUB_TRIP_DRIVE_DRIVE) j = t.laneDrive l j)) ∧
    t.fld (.pub l) F.PUB_TRIP_STATUS_DIS = s.fld (.pub l) F.PUB_TRIP_STATUS_DIS ∧
    ∀ k j, (k, j) ≠ (l, n) → (t.trip k j).drive = (s.trip k j).drive ∧ (t.trip k j).due = (s.trip k j).due ∧
      (t.trip k j).rose = (s.trip k j).rose

/-- Showing the drives of a state that differs from `s` in its lane's pin `n` alone. -/
theorem tripShown_tripShow {s u : State} {l : Lane} {n : Nat} (hl : u.laneUp l = true) (hr : u.regs = s.regs)
    (ht : ∀ k j, (k, j) ≠ (l, n) → u.trip k j = s.trip k j) : tripShown l n s u.tripShow := by
  have shows := (Shows.refl u).tripShow
  have words := State.wordsOf_tripShow hl
  refine ⟨fun j hj => ⟨?_, ?_, ?_⟩, ?_, fun k j h => ?_⟩
  · rw [u.pins_tripShow, State.mem_trip_tripBalls hj, shows.pinLevel hj]
  · rw [words.level j hj, shows.pinLevel hj]
  · rw [words.drive j hj, shows.laneDrive l hj]
  · exact (u.dis_tripShow l).trans (State.fld_congr hr ..)
  · rw [shows.drive, shows.due, shows.rose, ht k j h]
    exact ⟨rfl, rfl, rfl⟩

/-- What a level that takes effect makes of the drive. -/
def TripSt.driven (x : TripSt) (v : Bool) (now minOn : Nat) : TripSt :=
  if v then { x with want := true, drive := true, rose := if x.drive then x.rose else now }
  else if x.drive && decide (now < x.rose + minOn) then { x with want := false }
  else { x with want := false, drive := false }

theorem State.tripDrive_eq (s : State) (l : Lane) (n : Nat) (v : Bool) : s.tripDrive l n v =
    (s.setTrip l n ((s.trip l n).driven v (s.laneNow l) (s.ent (tripAct l n) E.T12_6_MIN_ON * us))).tripShow := rfl

namespace TripSt
variable (x : TripSt) (now minOn : Nat)

theorem driven_false : x.driven false now minOn = { x with want := false, drive := x.drive && decide (now < x.rose + minOn) } := by
  by_cases h : (x.drive && decide (now < x.rose + minOn)) = true
  · refine (if_pos h).trans ?_
    rw [h, (Bool.and_eq_true_iff.1 h).1]
  · refine (if_neg h).trans ?_
    rw [Bool.eq_false_iff.2 h]

theorem want_driven (v : Bool) : (x.driven v now minOn).want = v := by
  cases v
  · rw [driven_false]
  · rfl

theorem due_driven (v : Bool) : (x.driven v now minOn).due = x.due := by
  cases v
  · rw [driven_false]
  · rfl

theorem rose_driven_false : (x.driven false now minOn).rose = x.rose := by rw [driven_false]

theorem drive_driven_false : (x.driven false now minOn).drive = true ↔ x.drive = true ∧ now < x.rose + minOn := by
  rw [driven_false, Bool.and_eq_true, decide_eq_true_iff]

end TripSt

/-- A level `v` took effect at pin `n` of lane `l`. -/
def tripMoved (l : Lane) (n : Nat) (s t : State) (v : Bool) : Prop :=
  tripShown l n s t ∧ (t.trip l n).want = v ∧
    (v = true → (t.trip l n).drive = true ∧ (t.trip l n).rose = if (s.trip l n).drive then (s.trip l n).rose else s.laneNow l) ∧
    (v = false → ((t.trip l n).drive = true ↔
        (s.trip l n).drive = true ∧ s.laneNow l < (s.trip l n).rose + s.ent (tripAct l n) E.T12_6_MIN_ON * us) ∧
      (t.trip l n).rose = (s.trip l n).rose)

/-- A level takes effect in a state that differs from `s` only in what waits for the pin. -/
theorem tripMoved_tripDrive {s u : State} {l : Lane} {n : Nat} {due : List (Nat × Bool)} (hl : u.laneUp l = true) (hr : u.regs = s.regs)
    (ht : ∀ k j, (k, j) ≠ (l, n) → u.trip k j = s.trip k j) (hx : u.trip l n = { s.trip l n with due := due })
    (hnow : u.laneNow l = s.laneNow l) (v : Bool) :
    tripMoved l n s (u.tripDrive l n v) v ∧ ((u.tripDrive l n v).trip l n).due = due ∧ RegsOutside tripShowAt s (u.tripDrive l n v) ∧
      (u.tripDrive l n v).bareTrip = u.bareTrip := by
  have ent : u.ent (tripAct l n) E.T12_6_MIN_ON = s.ent (tripAct l n) E.T12_6_MIN_ON := (RegsOutside.of_eq (rs := []) hr).ent (m := 16) (by simp)
  rw [State.tripDrive_eq, hx, hnow, ent]
  generalize hy : TripSt.driven _ _ _ _ = y
  have shows := (Shows.refl (u.setTrip l n y)).tripShow
  have up : (u.setTrip l n y).laneUp l = true := (State.laneUp_congr (State.dom_of_bare (u.bareTrip_setTrip l n y)) l).trans hl
  refine ⟨⟨tripShown_tripShow up ((u.regs_setTrip l n y).trans hr) fun k j h => (u.trip_setTrip_other y h).trans (ht k j h), ?_, ?_, ?_⟩,
    ?_, ?_, shows.bare.trans (u.bareTrip_setTrip l n y)⟩
  · rw [shows.want, State.trip_setTrip_same, ← hy, TripSt.want_driven]
  · rintro rfl
    rw [shows.drive, shows.rose, State.trip_setTrip_same, ← hy]
    exact ⟨rfl, rfl⟩
  · rintro rfl
    rw [shows.drive, shows.rose, State.trip_setTrip_same, ← hy, TripSt.drive_driven_false, TripSt.rose_driven_false]
    exact ⟨Iff.rfl, rfl⟩
  · rw [shows.due, State.trip_setTrip_same, ← hy, TripSt.due_driven]
  · exact (RegsOutside.of_eq ((u.regs_setTrip l n y).trans hr)).trans shows.regs

end Sys2Proof.Machine
end

section
/-! # O40: how notices, MIN_ON and disagreements move the trip pins (R299, R300, R302, R422) -/

namespace Sys2Proof.Machine
open Sys2Proof

theorem State.reachLane_of_le {s : State} {l : Lane} {t : Nat} (h : t ≤ s.laneNow l) : s.reachLane l t = s := if_pos h

/-- A fold of which one element acts. -/
theorem foldl_alone {α σ : Type} {f : σ → α → σ} {I : σ → Prop} {x : α} : ∀ {l : List α} {s : σ}, l.Nodup → x ∈ l → I s → I (f s x) →
    (∀ u, I u → ∀ y ∈ l, y ≠ x → f u y = u) → l.foldl f s = f s x
  | y :: ys, s, hnd, hx, hs, hs', hskip => by
    obtain ⟨hy, hnd⟩ := List.nodup_cons.1 hnd
    by_cases e : y = x
    · subst e
      have rest : ∀ zs : List α, (∀ z ∈ zs, z ∈ y :: ys ∧ z ≠ y) → zs.foldl f (f s y) = f s y := by
        intro zs
        induction zs with
        | nil => exact fun _ => rfl
        | cons z zs ih =>
          intro h
          obtain ⟨hz, hne⟩ := h z (.head _)
          rw [List.foldl_cons, hskip _ hs' z hz hne, ih fun w hw => h w (.tail _ hw)]
      exact rest ys fun z hz => ⟨.tail _ hz, fun e => hy (e ▸ hz)⟩
    · rw [List.foldl_cons, hskip s hs y (.head _) e]
      exact foldl_alone hnd ((List.mem_cons.1 hx).resolve_left (Ne.symm e)) hs hs' fun u hu z hz => hskip u hu z (.tail _ hz)

/-! Notices. -/

/-- Does pin `n` watch a point? -/
def State.tripWatches (s : State) (l : Lane) (n point : Nat) : Prop :=
  s.ent (tripAct l n) E.T12_6_VALID ≠ 0 ∧ s.ent (tripAct l n) E.T12_6_POINT = point

/-- The bit of a record's words that drives pin `n`. -/
def State.tripBit (s : State) (l : Lane) (n : Nat) : Nat := 32 * s.ent (tripAct l n) E.T12_6_WORD + s.ent (tripAct l n) E.T12_6_BIT

/-- A notice at one pin that watches its point. -/
def State.tripTake (s : State) (l : Lane) (e rec_ n : Nat) : State :=
  let v := bitAt rec_ (s.tripBit l n)
  let x := s.trip l n
  if e ≤ s.laneNow l then (s.setTrip l n { x with due := x.due.filter (fun d => decide (e < d.1)) }).tripDrive l n v
  else s.setTrip l n { x with due := x.due ++ [(e, v)] }

theorem bitAt_eq_bitsOf (v b : Nat) : decide (bitsOf v b b = 1) = bitAt v b := by
  rw [bitsOf, Nat.add_sub_cancel_left, bitAt, Nat.pow_one]

/-- A notice that one pin watches is taken there and nowhere else. -/
theorem State.tripNotice_alone {s : State} {l : Lane} {n point e rec_ : Nat} (hn : n < 16) (hw : s.tripWatches l n point)
    (ho : ∀ j < 16, j ≠ n → ¬s.tripWatches l j point) (ht : RegsOutside tripShowAt s (s.tripTake l e rec_ n)) :
    s.tripNotice l point e rec_ = s.tripTake l e rec_ n := by
  have skips {u : State} {j : Nat} (h : ¬u.tripWatches l j point) :
      (u.ent (tripAct l j) E.T12_6_VALID = 0 ∨ u.ent (tripAct l j) E.T12_6_POINT ≠ point) := by
    by_contra hc
    exact h (not_or.1 hc |>.imp_right not_not.1)
  have here : ¬(s.ent (tripAct l n) E.T12_6_VALID = 0 ∨ s.ent (tripAct l n) E.T12_6_POINT ≠ point) := by
    rintro (h | h)
    · exact hw.1 h
    · exact h hw.2
  have act : (if s.ent (tripAct l n) E.T12_6_VALID = 0 ∨ s.ent (tripAct l n) E.T12_6_POINT ≠ point then s
      else s.tripTake l e rec_ n) = s.tripTake l e rec_ n := if_neg here
  have step (u : State) (j : Nat) (hj : u.tripWatches l j point → False) :
      (if u.ent (tripAct l j) E.T12_6_VALID = 0 ∨ u.ent (tripAct l j) E.T12_6_POINT ≠ point then u else u.tripTake l e rec_ j) = u :=
    if_pos (skips hj)
  have fold : s.tripNotice l point e rec_ = tripPins.foldl (fun u j =>
      if u.ent (tripAct l j) E.T12_6_VALID = 0 ∨ u.ent (tripAct l j) E.T12_6_POINT ≠ point then u else u.tripTake l e rec_ j) s := by
    unfold State.tripNotice
    simp only [bitAt_eq_bitsOf]
    rfl
  rw [fold]
  refine (foldl_alone (I := RegsOutside tripShowAt s) List.nodup_range (mem_tripPins.2 hn) (.refl _ s) (act.symm ▸ ht)
    fun u hu j hj hne => step u j fun h => ho j (mem_tripPins.1 hj) hne ?_).trans act
  have ent (f : EFld) (hf : f.off / 4 * 4 + 4 * ((f.hi + 8 * (f.off % 4)) / 32 + 1) ≤ 16) : u.ent (tripAct l j) f = s.ent (tripAct l j) f :=
    hu.ent (tripAct_apart l (mem_tripPins.1 hj)) hf
  rwa [State.tripWatches, ent _ (by decide), ent _ (by decide)] at h

/-- The waiting notice that the step takes. -/
theorem exec_noticeReceived_idle {l : Lane} {s : State} {w : Notice} {rest : List Notice} (hl : s.laneUp l = true)
    (hw : (s.lane l).map.notices = w :: rest)
    (hoff : ((s.setMap l { (s.lane l).map with notices := rest }).tripNotice l w.point w.e w.rec_).bit (.pub l) F.PUB_CTRL_EN = false) :
    exec (.noticeReceived l) s = .next ((s.setMap l { (s.lane l).map with notices := rest }).tripNotice l w.point w.e w.rec_) := by
  simp only [exec, execNoticeReceived, hw, hl, hoff]
  rfl

@[simp] theorem State.trip_setMap (s : State) (l : Lane) (m : MapSt) (k : Lane) (j : Nat) : (s.setMap l m).trip k j = s.trip k j := by
  cases l <;> cases k <;> rfl

@[simp] theorem State.laneNow_setMap (s : State) (l : Lane) (m : MapSt) (k : Lane) : (s.setMap l m).laneNow k = s.laneNow k := by
  cases l <;> cases k <;> rfl

@[simp] theorem State.laneUp_setMap (s : State) (l : Lane) (m : MapSt) (k : Lane) : (s.setMap l m).laneUp k = s.laneUp k :=
  State.laneUp_congr (by cases l <;> rfl) k

theorem State.ent_setMap (s : State) (l : Lane) (m : MapSt) (a : Nat) (f : EFld) : (s.setMap l m).ent a f = s.ent a f :=
  (RegsOutside.of_eq (rs := []) (s.setMap_regs l m)).ent (m := _) (by simp) le_rfl

@[simp] theorem State.setTrip_laneUp (s : State) (l : Lane) (n : Nat) (x : TripSt) (k : Lane) : (s.setTrip l n x).laneUp k = s.laneUp k :=
  State.laneUp_congr (State.dom_of_bare (s.bareTrip_setTrip l n x)) k

@[simp] theorem State.setTrip_laneNow (s : State) (l : Lane) (n : Nat) (x : TripSt) (k : Lane) : (s.setTrip l n x).laneNow k = s.laneNow k :=
  State.laneNow_of_bare (s.bareTrip_setTrip l n x) k

/-- A notice of the point that pin `n` alone watches (R299). -/
theorem noticeReceived_moves {l : Lane} {n : Nat} {s : State} {w : Notice} {rest : List Notice} (hl : s.laneUp l = true) (hn : n < 16)
    (hw : (s.lane l).map.notices = w :: rest) (hoff : s.bit (.pub l) F.PUB_CTRL_EN = false) (hp : s.tripWatches l n w.point)
    (ho : ∀ j < 16, j ≠ n → ¬s.tripWatches l j w.point) :
    let s0 := s.setMap l { (s.lane l).map with notices := rest }
    let v := bitAt w.rec_ (s.tripBit l n)
    (w.e ≤ s.laneNow l → Answers (exec (.noticeReceived l) s) fun t => tripMoved l n s t v ∧ (∀ q ∈ (t.trip l n).due, w.e < q.1) ∧
      RegsOutside tripShowAt s t ∧ t.bareTrip = s0.bareTrip) ∧
    (s.laneNow l < w.e → exec (.noticeReceived l) s = .next (s0.setTrip l n { s.trip l n with due := (s.trip l n).due ++ [(w.e, v)] })) := by
  intro s0 v
  have watches (j : Nat) : s0.tripWatches l j w.point ↔ s.tripWatches l j w.point := by
    unfold State.tripWatches
    rw [State.ent_setMap, State.ent_setMap]
  have bit : s0.tripBit l n = s.tripBit l n := by
    unfold State.tripBit
    rw [State.ent_setMap, State.ent_setMap]
  have steps (ht : RegsOutside tripShowAt s (s0.tripTake l w.e w.rec_ n)) : exec (.noticeReceived l) s = .next (s0.tripTake l w.e w.rec_ n) := by
    have regs : RegsOutside tripShowAt s0 (s0.tripTake l w.e w.rec_ n) := fun a h => (ht a h).trans (by rw [s.setMap_regs])
    have alone : s0.tripNotice l w.point w.e w.rec_ = s0.tripTake l w.e w.rec_ n :=
      State.tripNotice_alone hn ((watches n).2 hp) (fun j hj hne h => ho j hj hne ((watches j).1 h)) regs
    have off : (s0.tripTake l w.e w.rec_ n).bit (.pub l) F.PUB_CTRL_EN = false := (State.pubCtrl_shows ht l rfl).trans hoff
    rw [exec_noticeReceived_idle hl hw (by rwa [alone]), alone]
  refine ⟨fun hle => ?_, fun hlt => ?_⟩
  · let due := (s.trip l n).due.filter (fun d => decide (w.e < d.1))
    have take : s0.tripTake l w.e w.rec_ n = (s0.setTrip l n { s.trip l n with due := due }).tripDrive l n v := by
      rw [State.tripTake, State.laneNow_setMap, if_pos hle, State.trip_setMap, bit]
    obtain ⟨moved, left, regs, bare⟩ := tripMoved_tripDrive (s := s) (u := s0.setTrip l n { s.trip l n with due := due }) (l := l) (n := n)
      (due := due) (by simpa [s0] using hl) (by simp [s0]) (fun k j h => by rw [State.trip_setTrip_other _ _ h, State.trip_setMap]) (by simp)
      (by simp [s0]) v
    rw [← take] at moved left regs bare
    refine ⟨_, steps regs, moved, fun q hq => ?_, regs, bare.trans (State.bareTrip_setTrip ..)⟩
    rw [left] at hq
    exact of_decide_eq_true (List.mem_filter.1 hq).2
  · have take : s0.tripTake l w.e w.rec_ n = s0.setTrip l n { s.trip l n with due := (s.trip l n).due ++ [(w.e, v)] } := by
      rw [State.tripTake, State.laneNow_setMap, if_neg (by omega), State.trip_setMap, bit]
    rw [steps (RegsOutside.of_eq (by rw [take, State.regs_setTrip, State.setMap_regs])), take]

/-- The earliest notice that waits for a pin takes effect (R299). -/
theorem tripNoticeDue_moves {l : Lane} {n : Fin 16} {s : State} {e : Nat} {v : Bool} {rest : List (Nat × Bool)} (hl : s.laneUp l = true)
    (hd : (s.trip l n).due = (e, v) :: rest) (he : e ≤ s.laneNow l) :
    Answers (exec (.tripNoticeDue l n) s) fun t => tripMoved l n s t v ∧ (t.trip l n).due = rest ∧ RegsOutside tripShowAt s t ∧
      t.bareTrip = s.bareTrip := by
  let u := s.setTrip l n { s.trip l n with due := rest }
  have steps : exec (.tripNoticeDue l n) s = .next (u.tripDrive l n v) := by
    simp only [exec, execTripNoticeDue, hd, hl, State.reachLane_of_le he]
    rfl
  obtain ⟨moved, left, regs, bare⟩ := tripMoved_tripDrive (s := s) (u := u) (l := l) (n := n) (due := rest) (by simpa [u] using hl)
    (by simp [u]) (fun k j h => State.trip_setTrip_other _ _ h) (by simp [u]) (by simp [u]) v
  exact ⟨_, steps, moved, left, regs, bare.trans (State.bareTrip_setTrip ..)⟩

/-! MIN_ON. -/

/-- A drive whose MIN_ON has passed falls (R299). -/
theorem tripMinOnExpire_moves {l : Lane} {n : Fin 16} {s : State} (hl : s.laneUp l = true) (hh : s.epsHolds l n = false)
    (hd : (s.trip l n).drive = true) (hw : (s.trip l n).want = false)
    (hs : (s.trip l n).rose + s.ent (tripAct l n) E.T12_6_MIN_ON * us ≤ s.laneNow l) :
    Answers (exec (.tripMinOnExpire l n) s) fun t => tripMoved l n s t false ∧ RegsOutside tripShowAt s t ∧ t.bareTrip = s.bareTrip := by
  obtain ⟨moved, -, regs, bare⟩ := tripMoved_tripDrive (s := s) (u := s) (l := l) (n := n) (due := (s.trip l n).due) hl rfl
    (fun _ _ _ => rfl) rfl rfl false
  have holds : (s.tripDrive l n false).epsHolds l n = false := (State.epsHolds_shows regs bare l n).trans hh
  refine ⟨_, ?_, moved, regs, bare⟩
  simp only [exec, execTripMinOnExpire, hl, hd, hw, State.reachLane_of_le hs, Bool.not_false, Bool.and_true, Bool.not_true,
    Bool.false_eq_true, if_false, if_true, holds, Bool.false_and]

/-- A drive that the latest notice calls for, or that is down, stays (R299). -/
theorem tripMinOnExpire_idle {l : Lane} {n : Fin 16} {s : State} (hl : s.laneUp l = true) (hh : s.epsHolds l n = false)
    (hd : ¬((s.trip l n).drive = true ∧ (s.trip l n).want = false)) : exec (.tripMinOnExpire l n) s = .next s := by
  have idle : ((s.trip l n).drive && !(s.trip l n).want) = false := by simpa using hd
  simp only [exec, execTripMinOnExpire, hl, idle, hh, Bool.not_true, Bool.false_eq_true, if_false, Bool.false_and]

/-- The EPS drives stay as a lane's pins leave the EPS. -/
theorem State.epsPin_epsLeave (s : State) (l : Lane) : ((s.epsLeave l).lane l).epsPin = (s.lane l).epsPin := by
  have shown (u : State) : (u.tripShow.lane l).epsPin = (u.lane l).epsPin :=
    (congrArg LaneSt.epsPin (State.lane_of_bare (Shows.refl u).tripShow.bare l) :)
  unfold State.epsLeave
  split
  · rfl
  · next left _ =>
    extract_lets left' _ s1 _ _ s2
    have h1 : (s1.lane l).epsPin = (s.lane l).epsPin := by rw [State.setLane_lane]
    have h2 : (s2.lane l).epsPin = (s1.lane l).epsPin := by
      refine iteInduction (motive := fun u : State => (u.lane l).epsPin = (s1.lane l).epsPin) (fun _ => ?_) fun _ => rfl
      rw [State.setLane_lane]
    exact (shown s2).trans (h2.trans h1)

/-- Following the elements stores one EPS drive alone. -/
theorem State.epsPinSt_epsPinFollow_other (s : State) (l : Lane) {j n : Nat} (h : n ≠ j) :
    (s.epsPinFollow l j).epsPinSt l n = s.epsPinSt l n := by
  simp only [State.epsPinFollow, State.epsPinSt, State.setLane_lane]
  exact assocGetD_put_other _ _ _ _ _ h

/-- A drive that its elements do not call for. -/
theorem State.epsPinSt_epsPinFollow {s : State} {l : Lane} {n : Nat} (h : s.epsWant l n = false) : (s.epsPinFollow l n).epsPinSt l n =
    ((s.epsPinSt l n).1 && decide (s.laneNow l < (s.epsPinSt l n).2 + s.epsMinOn l n), (s.epsPinSt l n).2) := by
  rw [State.epsPinFollow, h]
  exact (congrArg (fun x : LaneSt => assocGetD x.epsPin n (false, 0)) (State.setLane_lane ..)).trans (assocGetD_put_same ..)

/-- What following the elements reads: the registers and the clock. -/
def State.sameElements (s u : State) (l : Lane) : Prop := u.regs = s.regs ∧ u.laneNow l = s.laneNow l

section
variable {s u : State} {l : Lane} (h : s.sameElements u l)
include h

theorem State.sameElements.follow (j : Nat) : s.sameElements (u.epsPinFollow l j) l := by
  refine ⟨(State.setLane_regs ..).trans h.1, Eq.trans ?_ h.2⟩
  unfold State.laneNow State.epsPinFollow
  rw [State.setLane_lane]

theorem State.sameElements.ent (a : Nat) (f : EFld) : u.ent a f = s.ent a f :=
  (RegsOutside.of_eq (rs := []) h.1).ent (m := _) (by simp) le_rfl

theorem State.sameElements.want (n : Nat) : u.epsWant l n = s.epsWant l n := by
  unfold State.epsWant State.win
  simp only [h.ent, h.1]

theorem State.sameElements.minOn (n : Nat) : u.epsMinOn l n = s.epsMinOn l n := congrArg (· * us) (h.ent ..)

end

/-- An EPS drive that its elements no longer call for and whose MIN_ON has passed falls (R422). -/
theorem State.epsPinSt_epsDrives {s : State} {l : Lane} {n : Nat} (hn : n < 16) (hw : s.epsWant l n = false)
    (hm : (s.epsPinSt l n).2 + s.epsMinOn l n ≤ s.laneNow l) : ((s.epsDrives l).epsPinSt l n).1 = false := by
  have followed (u : State) (hu : s.sameElements u l ∧ (u.epsPinSt l n).2 = (s.epsPinSt l n).2) :
      (u.epsPinFollow l n).epsPinSt l n = (false, (s.epsPinSt l n).2) := by
    rw [State.epsPinSt_epsPinFollow ((hu.1.want n).trans hw), hu.2, hu.1.minOn, hu.1.2, decide_eq_false (by omega), Bool.and_false]
  have pins : ((tripPins.foldl (fun s n => s.epsPinFollow l n) s).epsPinSt l n).1 = false := by
    refine foldl_establishes (I := fun u => s.sameElements u l ∧ (u.epsPinSt l n).2 = (s.epsPinSt l n).2)
      (P := fun u => (u.epsPinSt l n).1 = false) (fun u j hu => ⟨hu.1.follow j, ?_⟩)
      (fun u hu => by rw [followed u hu]) (fun u j hu hd => ?_) tripPins ⟨⟨rfl, rfl⟩, rfl⟩ (mem_tripPins.2 hn)
    · by_cases e : n = j
      · rw [← e, followed u hu]
      · rw [u.epsPinSt_epsPinFollow_other l e, hu.2]
    · by_cases e : n = j
      · rw [← e, followed u hu]
      · rw [u.epsPinSt_epsPinFollow_other l e, hd]
  have left := State.epsPin_epsLeave (tripPins.foldl (fun s n => s.epsPinFollow l n) s) l
  have shown : ((s.epsDrives l).lane l).epsPin = _ := (congrArg LaneSt.epsPin (State.lane_of_bare (Shows.refl _).tripShow.bare l) :)
  rw [State.epsPinSt, shown.trans left]
  exact pins

/-- TRIP_MIN_ON_EXPIRE of an EPS drive. -/
theorem tripMinOnExpire_eps {l : Lane} {n : Fin 16} {s : State} (hl : s.laneUp l = true) (hh : s.epsHolds l n = true)
    (hd : (s.trip l n).drive = false ∨ (s.trip l n).want = true) (hp : (s.epsPinSt l n).1 = true) (hw : s.epsWant l n = false)
    (hm : (s.epsPinSt l n).2 + s.epsMinOn l n ≤ s.laneNow l) :
    Answers (exec (.tripMinOnExpire l n) s) fun t => (t.epsPinSt l n).1 = false := by
  have idle : ((s.trip l n).drive && !(s.trip l n).want) = false := by rcases hd with h | h <;> simp [h]
  refine ⟨s.epsDrives l, ?_, State.epsPinSt_epsDrives n.2 hw hm⟩
  simp only [exec, execTripMinOnExpire, hl, idle, hh, hp, hw, State.reachLane_of_le hm, Bool.not_true, Bool.not_false, Bool.false_eq_true,
    if_false, Bool.true_and, if_true]

/-! The levels of the pins. -/

section
variable {s : State} {n : Nat}

theorem State.pinLevel_held (h : 0 ∈ s.com.lowBanks) : s.pinLevel n = false := if_pos (List.contains_iff_mem.2 h)

theorem State.pinLevel_none (h0 : s.tripPresent .l0 n = false) (h1 : s.tripPresent .l1 n = false) : s.pinLevel n = false := by
  simp only [State.pinLevel, h0, h1, ite_self]

/-- One lane is present: it drives the pin, unless its vote of two falls back to off (Table 12.7). -/
theorem State.pinLevel_alone (hb : 0 ∉ s.com.lowBanks) {k : Lane} (hk : s.tripPresent k n = true) (ho : s.tripPresent k.other n = false) :
    s.pinLevel n = if s.ent (s.tripCfg k n) E.T12_6_VOTE = 1 ∧ s.ent (s.tripCfg k n) E.T12_6_FALLBACK = 0 then false else s.laneDrive k n := by
  cases k <;> simp only [Lane.other] at ho <;> simp [State.pinLevel, hb, hk, ho]

/-- Both lanes are present: the vote of Lane 0 says whether both or one must drive (Table 12.7). -/
theorem State.pinLevel_both (hb : 0 ∉ s.com.lowBanks) (h0 : s.tripPresent .l0 n = true) (h1 : s.tripPresent .l1 n = true) :
    s.pinLevel n = if s.ent (s.tripCfg .l0 n) E.T12_6_VOTE = 1 then s.laneDrive .l0 n && s.laneDrive .l1 n
      else s.laneDrive .l0 n || s.laneDrive .l1 n := by
  simp [State.pinLevel, hb, h0, h1]

end

/-! Disagreements. -/

theorem State.tripDiffers_iff (s : State) (l : Lane) (n : Nat) : s.tripDiffers l n = true ↔
    s.pinLevel n ≠ s.laneDrive l n ∧ (s.laneDrive l n = true ↔ s.ent (s.tripCfg l n) E.T12_6_VOTE = 1) := by
  unfold State.tripDiffers
  rw [Bool.and_eq_true, decide_eq_true_iff, decide_eq_true_iff, Bool.eq_iff_iff, decide_eq_true_iff]

/-- A disagreement is told: its DIS bit, the counter and its event. -/
def State.tripTell (s : State) (l : Lane) (n : Nat) : State :=
  let u := s.setTrip l n { s.trip l n with told := true }
  (u.setFld (.pub l) F.PUB_TRIP_STATUS_DIS (bitsPut (u.fld (.pub l) F.PUB_TRIP_STATUS_DIS) n n 1)).bumpEv (.lane l) (.pub l) F.PUB_CNT_COUNT 6 bkPUB 0 n

theorem exec_tripDisagree_none {l : Lane} {n : Fin 16} {s : State} (hl : s.laneUp l = true) (hd : (s.tripShow.trip l n).diff = none) :
    exec (.tripDisagree l n) s = .next s.tripShow := by
  simp only [exec, execTripDisagree, hl, hd]
  rfl

theorem exec_tripDisagree_some {l : Lane} {n : Fin 16} {s : State} {t0 : Nat} (hl : s.laneUp l = true)
    (hd : (s.tripShow.trip l n).diff = some t0)
    (ht : t0 + s.tripShow.ent (s.tripShow.tripCfg l n) E.T12_6_DISAGREE * us ≤ s.tripShow.laneNow l) :
    exec (.tripDisagree l n) s = .next (if (s.tripShow.trip l n).told then s.tripShow else s.tripShow.tripTell l n) := by
  simp only [exec, execTripDisagree, State.tripTell, hl, hd, State.reachLane_of_le ht]
  cases (s.tripShow.trip l n).told <;> rfl

/-- The bits told so far. -/
theorem bitAt_bitsPut_one (m : Nat) {n j : Nat} (hj : j < 16) : bitAt (bitsPut m n n 1 % 2 ^ 16) j = (bitAt m j || decide (j = n)) := by
  rw [bitAt_eq_testBit, Nat.testBit_mod_two_pow, decide_eq_true hj, Bool.true_and, testBit_bitsPut _ _ _ _ _ (le_refl n), bitAt_eq_testBit]
  by_cases h : j = n
  · subst h
    simp
  · rw [if_neg (by omega), decide_eq_false h, Bool.or_false]

/-- The registers that telling a disagreement may store to. -/
def tripTellAt (l : Lane) : List (Nat × Nat) := rowAt (.pub l) .PUB_CNT 7 :: evrAt :: tripShowAt

/-- What telling a disagreement leaves (R302). -/
structure TripTold (l : Lane) (n : Nat) (s t : State) : Prop where
  count : t.fld (.pub l) F.PUB_CNT_COUNT 6 = min (s.fld (.pub l) F.PUB_CNT_COUNT 6 + 1) (2 ^ 32 - 1)
  told : (t.trip l n).told = true
  dis : ∀ j < 16, bitAt (t.fld (.pub l) F.PUB_TRIP_STATUS_DIS) j = (bitAt (s.fld (.pub l) F.PUB_TRIP_STATUS_DIS) j || decide (j = n))
  regs : RegsOutside (tripTellAt l) s t
  bare : t.quiet.bareTrip = s.quiet.bareTrip

theorem State.bareTrip_quiet {s t : State} (h : t.bareTrip = s.bareTrip) : t.quiet.bareTrip = s.quiet.bareTrip :=
  (congrArg State.quiet h :)

theorem State.tripTell_told (s : State) (l : Lane) (n : Nat) : TripTold l n s (s.tripTell l n) := by
  unfold State.tripTell
  extract_lets _ u
  have regs : u.regs = s.regs := s.regs_setTrip ..
  have dis : u.fld (.pub l) F.PUB_TRIP_STATUS_DIS = s.fld (.pub l) F.PUB_TRIP_STATUS_DIS := State.fld_congr regs ..
  generalize hd : bitsPut (u.fld (.pub l) F.PUB_TRIP_STATUS_DIS) n n 1 = d
  generalize hw : u.setFld (.pub l) F.PUB_TRIP_STATUS_DIS d = w
  have counted : Counted (.pub l) F.PUB_CNT_COUNT 6 w (w.bumpEv (.lane l) (.pub l) F.PUB_CNT_COUNT 6 bkPUB 0 n) :=
    w.bumpEv_counted _ _ _ _ _ _ _ (by decide) (by decide) (by cases l <;> decide)
  generalize w.bumpEv (.lane l) (.pub l) F.PUB_CNT_COUNT 6 bkPUB 0 n = t at counted
  have trip : (t.trip l n).told = (u.trip l n).told := by
    subst hw
    cases l
    · exact (congrArg (fun v : State => (v.trip .l0 n).told) counted.quiet :)
    · exact (congrArg (fun v : State => (v.trip .l1 n).told) counted.quiet :)
  refine ⟨?_, ?_, fun j hj => ?_, ?_, ?_⟩
  · rw [counted.count, ← hw, State.fld_setFld_other _ _ _ F.PUB_TRIP_STATUS_DIS F.PUB_CNT_COUNT _ _ _ (by cases l <;> decide), State.fld_congr regs]
    rfl
  · rw [trip, s.trip_setTrip_same]
  · have e : t.fld (.pub l) F.PUB_TRIP_STATUS_DIS = d % 2 ^ 16 := by
      rw [counted.regs.fld (.pub l) F.PUB_TRIP_STATUS_DIS 0 (by cases l <;> decide), ← hw]
      exact State.fld_setFld_same _ _ F.PUB_TRIP_STATUS_DIS _ _ (by decide) (by decide)
    rw [e, ← hd, bitAt_bitsPut_one _ hj, dis]
  · have shown : RegsOutside (tripTellAt l) s w := by
      rw [← hw]
      refine (RegsOutside.of_eq regs).setFld _ F.PUB_TRIP_STATUS_DIS _ _ (regIn_of_mem ?_)
      cases l <;> decide
    exact shown.trans (counted.regs.cover (by cases l <;> decide))
  · refine (congrArg State.bareTrip counted.quiet).trans (State.bareTrip_quiet ?_)
    rw [← hw]
    exact s.bareTrip_setTrip ..

/-- TRIP_DISAGREE where the pin agrees, and where a run of disagreement has lasted DISAGREE (R302). -/
theorem tripDisagree_tells {l : Lane} {n : Fin 16} {s : State} (hl : s.laneUp l = true) :
    (s.tripDiffers l n = false → Answers (exec (.tripDisagree l n) s) fun t => tripShown l n s t ∧ RegsOutside tripShowAt s t ∧
      t.bareTrip = s.bareTrip) ∧
    (∀ t0, s.tripDiffers l n = true → (s.trip l n).diff = some t0 →
      t0 + s.ent (s.tripCfg l n) E.T12_6_DISAGREE * us ≤ s.laneNow l →
      ((s.trip l n).told = true → Answers (exec (.tripDisagree l n) s) fun t => tripShown l n s t ∧ RegsOutside tripShowAt s t ∧
        t.bareTrip = s.bareTrip) ∧
      ((s.trip l n).told = false → Answers (exec (.tripDisagree l n) s) (TripTold l n s))) := by
  have shows := (Shows.refl s).tripShow
  have shown : tripShown l n s s.tripShow := tripShown_tripShow hl rfl fun _ _ _ => rfl
  refine ⟨fun h => ?_, fun t0 h hd ht => ?_⟩
  · exact ⟨_, exec_tripDisagree_none hl (State.diff_tripShow_agrees hl n.2 h), shown, shows.regs, shows.bare⟩
  · have same := State.trip_tripShow_differs n.2 h hd
    have steps := exec_tripDisagree_some (t0 := t0) hl (by rw [same, hd])
      (by rwa [State.tripEnt_shows shows.regs shows.bare l n.2 (by decide), State.laneNow_of_bare shows.bare])
    rw [same] at steps
    refine ⟨fun htold => ?_, fun htold => ?_⟩
    · rw [htold] at steps
      exact ⟨_, steps, shown, shows.regs, shows.bare⟩
    · rw [htold, if_neg Bool.false_ne_true] at steps
      have told := s.tripShow.tripTell_told l n
      refine ⟨_, steps, ?_, told.told, fun j hj => ?_, ?_, told.bare.trans (State.bareTrip_quiet shows.bare)⟩
      · rw [told.count, shows.regs.fld (.pub l) F.PUB_CNT_COUNT 6 (by cases l <;> decide)]
      · rw [told.dis j hj, s.dis_tripShow]
      · exact (shows.regs.mono fun e h => .tail _ (.tail _ h)).trans told.regs

end Sys2Proof.Machine
end

section
/-! # Check values: the running register fits its width, and VALUE holds it in a form that gives it back (R303, R305) -/

namespace Sys2Proof.Machine
open Sys2Proof

/-! Reflection. -/

theorem reflectBits_lt : ∀ n v, reflectBits n v < 2 ^ n
  | 0, _ => Nat.one_pos
  | n + 1, v => by
    have ih := reflectBits_lt n (v / 2)
    have : v % 2 * 2 ^ n ≤ 1 * 2 ^ n := Nat.mul_le_mul_right _ (by omega)
    rw [reflectBits]
    omega

theorem testBit_reflectBits : ∀ n v i, (reflectBits n v).testBit i = (decide (i < n) && v.testBit (n - 1 - i))
  | 0, v, i => by simp [reflectBits]
  | n + 1, v, i => by
    have e : reflectBits (n + 1) v = 2 ^ n * (v % 2) + reflectBits n (v / 2) := by rw [reflectBits, Nat.mul_comm]
    rw [e, Nat.testBit_two_pow_mul_add _ (reflectBits_lt n _)]
    rcases lt_trichotomy i n with h | rfl | h
    · rw [if_pos h, testBit_reflectBits, decide_eq_true h, decide_eq_true (by omega), Nat.testBit_div_two,
        show n - 1 - i + 1 = n + 1 - 1 - i by omega]
    · rw [if_neg (lt_irrefl _), Nat.sub_self, decide_eq_true (Nat.lt_succ_self _), Nat.add_sub_cancel, Nat.sub_self]
      simp
    · rw [if_neg (by omega), decide_eq_false (by omega), Bool.false_and]
      refine Nat.testBit_lt_two_pow ?_
      have : 2 ^ 1 ≤ 2 ^ (i - n) := Nat.pow_le_pow_right (by decide) (by omega)
      omega

/-- Reflecting twice gives the number back. -/
theorem reflectBits_reflectBits {n r : Nat} (h : r < 2 ^ n) : reflectBits n (reflectBits n r) = r := by
  refine Nat.eq_of_testBit_eq fun i => ?_
  rw [testBit_reflectBits, testBit_reflectBits]
  by_cases hi : i < n
  · rw [decide_eq_true hi, decide_eq_true (by omega), show n - 1 - (n - 1 - i) = i by omega, Bool.true_and, Bool.true_and]
  · rw [decide_eq_false hi, Bool.false_and, Nat.testBit_lt_two_pow (h.trans_le (Nat.pow_le_pow_right (by decide) (by omega)))]

section
variable {p : CrcParam} {r : Nat}

theorem chkForm_lt (h : r < 2 ^ p.width) : chkForm p r < 2 ^ p.width := by
  unfold chkForm
  split
  · exact reflectBits_lt _ _
  · exact h

/-- The form of VALUE gives the running register back (R305). -/
theorem chkForm_chkForm (h : r < 2 ^ p.width) : chkForm p (chkForm p r) = r := by
  unfold chkForm
  split
  · exact reflectBits_reflectBits h
  · rfl

/-! The running register. -/

theorem crcShift_lt (hp : p.poly < 2 ^ p.width) : ∀ n {r : Nat}, r < 2 ^ p.width → crcShift p n r < 2 ^ p.width
  | 0, _, h => h
  | n + 1, r, _ => by
    have fits : 2 * r % 2 ^ p.width < 2 ^ p.width := Nat.mod_lt _ (by positivity)
    refine crcShift_lt hp n ?_
    split
    · exact Nat.xor_lt_two_pow fits hp
    · exact fits

theorem crcByte_lt (hw : 8 ≤ p.width) (hp : p.poly < 2 ^ p.width) (h : r < 2 ^ p.width) (b : Byte) : crcByte p r b < 2 ^ p.width := by
  have byte : (if p.refl then reflectBits 8 b.toNat else b.toNat) < 2 ^ 8 := by
    split
    · exact reflectBits_lt _ _
    · exact b.isLt
  refine crcShift_lt hp 8 (Nat.xor_lt_two_pow h ?_)
  calc _ < 2 ^ 8 * 2 ^ (p.width - 8) := Nat.mul_lt_mul_of_pos_right byte (by positivity)
    _ = 2 ^ p.width := by rw [← Nat.pow_add, Nat.add_sub_cancel' hw]

theorem crcRun_lt (hw : 8 ≤ p.width) (hp : p.poly < 2 ^ p.width) (h : r < 2 ^ p.width) (l : List Byte) : crcRun p r l < 2 ^ p.width :=
  foldl_keeps (I := fun r => r < 2 ^ p.width) (fun _ b h => crcByte_lt hw hp h b) l h

theorem crcRun_append (p : CrcParam) (r : Nat) (a b : List Byte) : crcRun p r (a ++ b) = crcRun p (crcRun p r a) b := List.foldl_append

end

/-- The sizes of an algorithm of Table 12.8. -/
structure CrcFits (p : CrcParam) : Prop where
  byte : 8 ≤ p.width
  word : p.width ≤ 64
  poly : p.poly < 2 ^ p.width
  init : p.init < 2 ^ p.width
  xout : p.xout < 2 ^ p.width

theorem chkAlg_fits {i : Nat} {p : CrcParam} (h : chkAlg i = some p) : CrcFits p := by
  unfold chkAlg at h
  split at h
  case h_6 => cases h
  all_goals
    cases h
    constructor <;> decide

/-! The bytes of an operation. -/

/-- The bytes that an owner reaches first are those of memory. -/
theorem State.chkBytes_add (s : State) (l : Lane) (o n : Nat) : ∀ k a, (∀ j < k, s.mayReach l o false (a + j) = true) →
    s.chkBytes l o a (k + n) = (s.mem l a k ++ (s.chkBytes l o (a + k) n).1, (s.chkBytes l o (a + k) n).2)
  | 0, a, _ => by
    have : s.mem l a 0 = [] := List.eq_nil_of_length_eq_zero (s.mem_length ..)
    rw [this, Nat.zero_add]
    rfl
  | k + 1, a, h => by
    have ih := s.chkBytes_add l o n k (a + 1) fun j hj => by rw [Nat.add_right_comm, Nat.add_assoc]; exact h _ (by omega)
    have first : s.mayReach l o false a = true := h 0 (Nat.succ_pos k)
    rw [Nat.add_right_comm, State.chkBytes, if_pos first, ih, Nat.add_comm k 1, s.mem_add l a 1 k, List.append_assoc,
      Nat.add_assoc a 1 k]

theorem State.chkBytes_reached {s : State} {l : Lane} {o a n : Nat} (h : ∀ j < n, s.mayReach l o false (a + j) = true) :
    s.chkBytes l o a n = (s.mem l a n, true) := by
  have := s.chkBytes_add l o 0 n a h
  simpa [State.chkBytes] using this

/-- The bytes end before the first one out of reach. -/
theorem State.chkBytes_stopped {s : State} {l : Lane} {o a k n : Nat} (h : ∀ j < k, s.mayReach l o false (a + j) = true) (hk : k < n)
    (hs : s.mayReach l o false (a + k) = false) : s.chkBytes l o a n = (s.mem l a k, false) := by
  have := s.chkBytes_add l o (n - k - 1 + 1) k a h
  rw [show k + (n - k - 1 + 1) = n by omega] at this
  simpa [State.chkBytes, hs] using this

end Sys2Proof.Machine
end

section
/-! # O40: what starting and ending a check-value operation leave (R304, R305) -/

namespace Sys2Proof.Machine
open Sys2Proof

/-! Registers of one page. -/

theorem RegsOutside.rd_page {p : Page} {L : List RegId} {s t : State} (h : RegsOutside (L.map (regAt p ·)) s t) {r : RegId}
    (hr : ∀ x ∈ L, r.geom.off ≠ x.geom.off) : t.rd p r 0 = s.rd p r 0 := by
  refine h.rd p r 0 fun e he => ?_
  obtain ⟨x, hx, rfl⟩ := List.mem_map.1 he
  have := hr x hx
  simp only [regAt, regAddr]
  omega

theorem RegsOutside.fld_page {p : Page} {L : List RegId} {s t : State} (h : RegsOutside (L.map (regAt p ·)) s t) {f : Fld}
    (hr : ∀ x ∈ L, f.id.geom.off ≠ x.geom.off) : t.fld p f = s.fld p f := by
  unfold State.fld
  rw [h.rd_page hr]

theorem RegsOutside.wr_page {p : Page} {L : List RegId} {s t : State} (h : RegsOutside (L.map (regAt p ·)) s t) {r : RegId} (v : Word)
    (hr : r ∈ L) : RegsOutside (L.map (regAt p ·)) s (t.wr p r 0 v) := h.wr _ _ _ _ (regIn_of_mem (List.mem_map_of_mem hr))

/-- Two words that hold a number. -/
theorem State.pairReg_of {s : State} {p : Page} {lo hi : RegId} {v : Nat} (hl : s.rd p lo 0 = BitVec.ofNat 32 v)
    (hh : s.rd p hi 0 = BitVec.ofNat 32 (v / 2 ^ 32)) (hv : v < 2 ^ 64) : s.pairReg p lo hi = v := by
  rw [State.pairReg, hl, hh, BitVec.toNat_ofNat, BitVec.toNat_ofNat]
  omega

theorem State.bit_setBit_same (s : State) (p : Page) (f : Fld) (k : Nat) (h : f.hi < 32) (h2 : f.lo ≤ f.hi) :
    (s.setBit p f k).bit p f k = true := by
  have e : (s.setBit p f k).fld p f k = 1 % 2 ^ (f.hi + 1 - f.lo) := s.fld_setFld_same p f 1 k h h2
  have : 2 ^ 1 ≤ 2 ^ (f.hi + 1 - f.lo) := Nat.pow_le_pow_right (by decide) (by omega)
  rw [Nat.mod_eq_of_lt (by omega)] at e
  exact decide_eq_true (by omega)

theorem State.bit_setFld_zero (s : State) (p : Page) (f : Fld) (k : Nat) (h : f.hi < 32) (h2 : f.lo ≤ f.hi) :
    (s.setFld p f 0 k).bit p f k = false := by
  have e : (s.setFld p f 0 k).fld p f k = 0 % 2 ^ (f.hi + 1 - f.lo) := s.fld_setFld_same p f 0 k h h2
  rw [Nat.zero_mod] at e
  exact decide_eq_false (by omega)

theorem State.bit_setFld_apart (s : State) (p : Page) (f g : Fld) (v k : Nat) (hid : g.id = f.id) (hf : f.lo ≤ f.hi)
    (hg : g.hi < 32) (ha : g.hi < f.lo ∨ f.hi < g.lo) : (s.setFld p f v k).bit p g k = s.bit p g k :=
  State.bit_congr (s.fld_setFld_apart p f g v k hid hf hg ha)

/-! VALUE. -/

section
variable (s : State) (l : Lane) (u v : Nat)

/-- The registers of VALUE. -/
def chkValueAt : List RegId := [.CHK_VALUE_LO, .CHK_VALUE_HI]

/-- The registers of RESULT. -/
def chkResultAt : List RegId := [.CHK_RESULT_LO, .CHK_RESULT_HI]

theorem State.setChkValue_regs : RegsOutside (chkValueAt.map (regAt (.chk l u) ·)) s (s.setChkValue l u v) :=
  ((RegsOutside.refl _ s).wr_page (L := chkValueAt) _ (by decide)).wr_page (L := chkValueAt) _ (by decide)

theorem chkReg_ne {r x : RegId} (h : r.geom.off ≠ x.geom.off) : regAddr (.chk l u) r 0 ≠ regAddr (.chk l u) x 0 := by
  simp only [regAddr]
  omega

theorem State.chkValue_setChkValue (hv : v < 2 ^ 64) : (s.setChkValue l u v).chkValue l u = v :=
  State.pairReg_of ((State.rd_wr_other _ _ _ _ _ _ _ _ (chkReg_ne l u (by decide))).trans (State.rd_wr_same ..)) (State.rd_wr_same ..) hv

theorem RegsOutside.chkValue {L : List RegId} {s t : State} (h : RegsOutside (L.map (regAt (.chk l u) ·)) s t)
    (hL : ∀ x ∈ L, RegId.CHK_VALUE_LO.geom.off ≠ x.geom.off ∧ RegId.CHK_VALUE_HI.geom.off ≠ x.geom.off) :
    t.chkValue l u = s.chkValue l u := by
  unfold State.chkValue State.pairReg
  rw [h.rd_page fun x hx => (hL x hx).1, h.rd_page fun x hx => (hL x hx).2]

/-- RESULT is stored. -/
def State.setChkResult : State :=
  (s.wr (.chk l u) .CHK_RESULT_LO 0 (BitVec.ofNat 32 v)).wr (.chk l u) .CHK_RESULT_HI 0 (BitVec.ofNat 32 (v / 2 ^ 32))

theorem State.setChkResult_regs : RegsOutside (chkResultAt.map (regAt (.chk l u) ·)) s (s.setChkResult l u v) :=
  ((RegsOutside.refl _ s).wr_page (L := chkResultAt) _ (by decide)).wr_page (L := chkResultAt) _ (by decide)

end

/-! CHK_GO. -/

/-- The run that CHK_GO starts. -/
def State.chkRun (s : State) (l : Lane) (u : Nat) : ChkRun :=
  ⟨s.fld (.chk l u) F.CHK_CFG_POLY, s.bit (.chk l u) F.CHK_CFG_ALIVE_IN, s.bit (.chk l u) F.CHK_CFG_ALIVE_INC,
    s.fld (.chk l u) F.CHK_SRC_LO_ADDR + 2 ^ 32 * s.fld (.chk l u) F.CHK_SRC_HI_ADDR, s.fld (.chk l u) F.CHK_LEN_LEN, s.real⟩

/-- INIT loads VALUE. -/
def State.chkLoad (s : State) (l : Lane) (u : Nat) (p : CrcParam) : State :=
  if s.bit (.chk l u) F.CHK_CFG_INIT then s.setChkValue l u (chkForm p p.init) else s

section
variable {s : State} {l : Lane} {u : Nat} {p : CrcParam}

theorem State.chkLoad_regs : RegsOutside (chkValueAt.map (regAt (.chk l u) ·)) s (s.chkLoad l u p) :=
  iteInduction (motive := RegsOutside _ s) (fun _ => s.setChkValue_regs l u _) fun _ => .refl _ s

theorem State.chkLoad_body : (s.chkLoad l u p).body = s.body :=
  iteInduction (motive := fun t => State.body t = s.body) (fun _ => rfl) fun _ => rfl

theorem State.chkRun_chkLoad : (s.chkLoad l u p).chkRun l u = s.chkRun l u := by
  have regs := s.chkLoad_regs (l := l) (u := u) (p := p)
  have real : (s.chkLoad l u p).real = s.real := (congrArg State.real s.chkLoad_body :)
  unfold State.chkRun State.bit
  rw [regs.fld_page (by decide), regs.fld_page (by decide), regs.fld_page (by decide), regs.fld_page (by decide), regs.fld_page (by decide),
    regs.fld_page (by decide), real]

theorem State.chkGo_starts (hb : s.bit (.chk l u) F.CHK_STATUS_BUSY = false) (hp : chkAlg (s.fld (.chk l u) F.CHK_CFG_POLY) = some p) :
    s.chkGo l u = (((s.chkLoad l u p).setBit (.chk l u) F.CHK_STATUS_BUSY).setLane l
      { (s.chkLoad l u p).lane l with chk := assocPut ((s.chkLoad l u p).lane l).chk u (s.chkRun l u) }) := by
  rw [← State.chkRun_chkLoad (p := p)]
  unfold State.chkGo
  simp only [hb, hp]
  cases l <;> rfl

/-- CHK_GO while idle with an algorithm of Table 12.8 (R304). -/
theorem State.chkGo_effect (hb : s.bit (.chk l u) F.CHK_STATUS_BUSY = false) (hp : chkAlg (s.fld (.chk l u) F.CHK_CFG_POLY) = some p) :
    let t := s.chkGo l u
    (RegsOutside [regAt (.chk l u) .CHK_STATUS, regAt (.chk l u) .CHK_VALUE_LO, regAt (.chk l u) .CHK_VALUE_HI] s t ∧
      t.body = (s.setLane l { s.lane l with chk := assocPut (s.lane l).chk u (s.chkRun l u) }).body) ∧
    t.bit (.chk l u) F.CHK_STATUS_BUSY = true ∧ t.bit (.chk l u) F.CHK_STATUS_DONE = s.bit (.chk l u) F.CHK_STATUS_DONE ∧
    t.chkValue l u = if s.bit (.chk l u) F.CHK_CFG_INIT then chkForm p p.init else s.chkValue l u := by
  have load := s.chkLoad_regs (l := l) (u := u) (p := p)
  have value : (s.chkLoad l u p).chkValue l u = if s.bit (.chk l u) F.CHK_CFG_INIT then chkForm p p.init else s.chkValue l u := by
    have fits := chkAlg_fits hp
    have small : chkForm p p.init < 2 ^ 64 := (chkForm_lt fits.init).trans_le (Nat.pow_le_pow_right (by decide) fits.word)
    unfold State.chkLoad
    split
    · exact s.chkValue_setChkValue l u _ small
    · rfl
  have body := s.chkLoad_body (l := l) (u := u) (p := p)
  rw [State.chkGo_starts hb hp]
  generalize s.chkLoad l u p = w at load value body
  intro t
  have regs : t.regs = (w.setBit (.chk l u) F.CHK_STATUS_BUSY).regs := State.setLane_regs ..
  have mark : RegsOutside ([RegId.CHK_STATUS].map (regAt (.chk l u) ·)) w t :=
    ((RegsOutside.refl _ w).wr_page (L := [.CHK_STATUS]) _ (by decide)).same regs
  refine ⟨⟨?_, ?_⟩, ?_, ?_, ?_⟩
  · exact (load.mono (by simp [chkValueAt])).trans (mark.mono (by simp))
  · cases l
    · exact (congrArg (fun b : State => { b with l0 := { b.l0 with chk := assocPut b.l0.chk u (s.chkRun .l0 u) } }) body :)
    · exact (congrArg (fun b : State => { b with l1 := { b.l1 with chk := assocPut b.l1.chk u (s.chkRun .l1 u) } }) body :)
  · rw [State.bit_congr (State.fld_congr regs ..)]
    exact w.bit_setBit_same _ F.CHK_STATUS_BUSY _ (by decide) (by decide)
  · rw [State.bit_congr (State.fld_congr regs ..), State.setBit,
      w.bit_setFld_apart _ F.CHK_STATUS_BUSY F.CHK_STATUS_DONE _ _ rfl (by decide) (by decide) (by decide)]
    exact State.bit_congr (load.fld_page (by decide))
  · rw [mark.chkValue l u (by decide), value]

theorem exec_checkValueStart (hl : s.laneUp l = true) (u : Fin 8) : exec (.checkValueStart l u) s = .next (s.chkGo l u) := by
  simp only [exec, execCheckValueStart, hl]
  rfl

theorem State.chkGo_busy (hb : s.bit (.chk l u) F.CHK_STATUS_BUSY = true) : s.chkGo l u = s.setBit (.chk l u) F.CHK_STATUS_WBUSY := if_pos hb

theorem State.chkGo_badcfg (hb : s.bit (.chk l u) F.CHK_STATUS_BUSY = false) (hp : chkAlg (s.fld (.chk l u) F.CHK_CFG_POLY) = none) :
    s.chkGo l u = s.setBit (.chk l u) F.CHK_STATUS_BADCFG := by
  unfold State.chkGo
  simp only [hb, hp]
  rfl

theorem chkAlg_none {i : Nat} (h : 5 ≤ i) : chkAlg i = none := by
  unfold chkAlg
  split
  case h_6 => rfl
  all_goals omega

end

/-! The end of an operation. -/

/-- An operation ends: it stops with DONE, and with IE the owner's vector is raised (R304). -/
def State.chkFin (s : State) (l : Lane) (u own : Nat) : State :=
  let t := (s.chkStop l u).setBit (.chk l u) F.CHK_STATUS_DONE
  if t.bit (.chk l u) F.CHK_CFG_IE then t.vector l own u else t

/-- The alive counter counts. -/
def State.chkAlive (s : State) (l : Lane) (u alive : Nat) (inc : Bool) : State :=
  if inc then s.setFld (.chk l u) F.CHK_ALIVE_ALIVE (alive + 1) else s

section
variable {s : State} {l : Lane} {u : Nat} {x : ChkRun} {p : CrcParam} {r : Nat} {bs : List Byte}
  (hx : assocGet (s.lane l).chk u = some x) (hp : chkAlg x.poly = some p) (hr : r < 2 ^ p.width) (hv : s.chkValue l u = chkForm p r)
include hx hp hr hv

theorem State.chkDone_short (hb : s.chkBytes l (s.ownerChk l u) x.src x.len = (bs, false)) :
    s.chkDone l u = ((s.setChkValue l u (chkForm p (crcRun p r bs))).setBit (.chk l u) F.CHK_STATUS_ADDR_ERR).chkFin l u (s.ownerChk l u) := by
  have run : s.chkRun? l u = some (x, p) := by simp only [State.chkRun?, hx, hp, Option.map_some]
  simp only [State.chkDone, run, hb, hv, chkForm_chkForm hr, Nat.mod_eq_of_lt hr]
  rfl

/-- The bytes that an operation feeds. -/
theorem State.chkDone_whole (hb : s.chkBytes l (s.ownerChk l u) x.src x.len = (bs, true)) :
    let alive := s.fld (.chk l u) F.CHK_ALIVE_ALIVE
    let v := chkForm p (crcRun p r (bs ++ if x.aliveIn then natBe 4 alive else []))
    s.chkDone l u = (((s.setChkValue l u v).setChkResult l u (v.xor p.xout)).chkAlive l u alive x.aliveInc).chkFin l u (s.ownerChk l u) := by
  intro alive v
  have run : s.chkRun? l u = some (x, p) := by simp only [State.chkRun?, hx, hp, Option.map_some]
  have fed : v = chkForm p (if x.aliveIn then crcRun p (crcRun p r bs) (natBe 4 alive) else crcRun p r bs) := by
    refine congrArg (chkForm p) ((crcRun_append ..).trans ?_)
    cases x.aliveIn <;> rfl
  rw [fed]
  simp only [State.chkDone, run, hb, hv, chkForm_chkForm hr, Nat.mod_eq_of_lt hr]
  rfl

/-- VALUE as a read finds it while an operation runs over bytes in reach (R305). -/
theorem State.chkShown_blocks (hb : ∀ j < x.len, s.mayReach l (s.ownerChk l u) false (x.src + j) = true) :
    ∃ b ≤ x.len / 64, s.chkShown l u = chkForm p (crcRun p r (s.mem l x.src (64 * b))) := by
  have run : s.chkRun? l u = some (x, p) := by simp only [State.chkRun?, hx, hp, Option.map_some]
  refine ⟨min (x.len / 64) (Config.chkBlocks (s.real - x.start)), Nat.min_le_left .., ?_⟩
  have fed (n : Nat) (hn : n ≤ x.len) : s.chkBytes l (s.ownerChk l u) x.src n = (s.mem l x.src n, true) :=
    State.chkBytes_reached fun j hj => hb j (by omega)
  have := Nat.min_le_left (x.len / 64) (Config.chkBlocks (s.real - x.start))
  simp only [State.chkShown, run, hv, chkForm_chkForm hr, Nat.mod_eq_of_lt hr]
  rw [fed _ (by omega)]

end

/-- What the end of an operation leaves (R304, R356). -/
structure ChkEnded (l : Lane) (u own : Nat) (s t : State) : Prop where
  busy : t.bit (.chk l u) F.CHK_STATUS_BUSY = false
  done : t.bit (.chk l u) F.CHK_STATUS_DONE = true
  addr : t.bit (.chk l u) F.CHK_STATUS_ADDR_ERR = s.bit (.chk l u) F.CHK_STATUS_ADDR_ERR
  body : t.body = (s.setLane l { s.lane l with chk := assocDel (s.lane l).chk u }).body
  regs : RegsOutside (regAt (.chk l u) .CHK_STATUS :: vectorsAt l own) s t
  still : s.bit (.chk l u) F.CHK_CFG_IE = false → ∀ j, t.rd (.insPage l own) .INS_VINT_PEND j = s.rd (.insPage l own) .INS_VINT_PEND j
  raised : s.bit (.chk l u) F.CHK_CFG_IE = true → u < 8 → (64 ≤ own ∨ s.insState l own ≠ 6) →
    bitAt (t.rd (.insPage l own) .INS_VINT_PEND 0).toNat u = true

/-- A unit's registers stand apart from those that a vector stores to. -/
theorem chk_apart_vectors (l : Lane) {u : Nat} (hu : u < 8) (own : Nat) {r : RegId} (hr : r.geom.off < 0x30) :
    ∀ e ∈ vectorsAt l own, regAddr (.chk l u) r 0 < e.1 ∨ e.1 + e.2 ≤ regAddr (.chk l u) r 0 := by
  have below (b : Nat) (hb : laneBase l + 0x2400000 ≤ b) : regAddr (.chk l u) r 0 < b := by
    have : regAddr (.chk l u) r 0 = laneBase l + 0x1C01000 + u * 0x100 + (r.geom.off + 0 * r.geom.stride) := by rw [regAddr, Nat.add_assoc]; rfl
    omega
  simp only [vectorsAt, List.forall_mem_cons, List.not_mem_nil, false_implies, implies_true, and_true]
  refine ⟨.inl (below _ ?_), .inl (below _ ?_), .inl (below _ ?_), .inl (below _ ?_)⟩
  · show laneBase l + 0x2400000 ≤ laneBase l + 0x2430000 + own * 0x100
    omega
  all_goals exact Nat.le_add_right _ _

/-- An owner's registers stand apart from a unit's. -/
theorem chk_apart_insPage (l : Lane) {u : Nat} (hu : u < 8) (own k : Nat) (r x : RegId) (hx : x.geom.off < 0x30) :
    regAddr (.insPage l own) r k ≠ regAddr (.chk l u) x 0 := by
  have : regAddr (.chk l u) x 0 = laneBase l + 0x1C01000 + u * 0x100 + (x.geom.off + 0 * x.geom.stride) := by rw [regAddr, Nat.add_assoc]; rfl
  have : regAddr (.insPage l own) r k = laneBase l + 0x2430000 + own * 0x100 + (r.geom.off + k * r.geom.stride) := by
    rw [regAddr, Nat.add_assoc]; rfl
  omega

end Sys2Proof.Machine
end

section
/-! # O40: the end of a check-value operation (R304, R305, R356) -/

namespace Sys2Proof.Machine
open Sys2Proof

/-- A raised vector is pending. -/
theorem State.vector_raises {s : State} {l : Lane} {o v : Nat} (ho : ¬(o < 64 ∧ s.insState l o = 6)) (hv : v < 32) :
    bitAt ((s.vector l o v).rd (.insPage l o) .INS_VINT_PEND 0).toNat v = true := by
  have row : v / 32 = 0 := Nat.div_eq_of_lt hv
  generalize hw : (s.rd (.insPage l o) .INS_VINT_PEND 0).toNat = w
  have stored : s.vector l o v =
      (s.wr (.insPage l o) .INS_VINT_PEND 0 (BitVec.ofNat 32 (bitsPut w (v % 32) (v % 32) 1))).vintSum l o := by
    simp only [State.vector, if_neg ho, row, hw]
  obtain ⟨r, x, hr, e⟩ := (s.wr (.insPage l o) .INS_VINT_PEND 0 (BitVec.ofNat 32 (bitsPut w (v % 32) (v % 32) 1))).vintSum_eq l o
  have apart : regAddr (.insPage l o) .INS_VINT_PEND 0 ≠ regAddr (.ins l) r 0 := by
    have page : regAddr (.insPage l o) .INS_VINT_PEND 0 = laneBase l + 0x2430000 + o * 0x100 + 0x40 := rfl
    have sum : regAddr (.ins l) r 0 = laneBase l + 0x2400000 + (r.geom.off + 0 * r.geom.stride) := by rw [regAddr, Nat.add_assoc]; rfl
    have small : r.geom.off < 0x30000 := by
      have : ∀ r ∈ [RegId.INS_VINT_SUM_LO, .INS_VINT_SUM_HI, .INS_VINT_SUM_MGR], r.geom.off < 0x30000 := by decide
      exact this r hr
    omega
  rw [stored, e, State.rd_wr_other _ _ _ _ _ _ _ _ apart, State.rd_wr_same, bitAt_eq_testBit, BitVec.toNat_ofNat, Nat.testBit_mod_two_pow,
    Nat.mod_eq_of_lt hv, testBit_bitsPut _ _ _ _ _ (le_refl v)]
  simp [hv]

theorem State.chkFin_ended {s : State} {l : Lane} {u : Nat} (hu : u < 8) (own : Nat) : ChkEnded l u own s (s.chkFin l u own) := by
  let a := s.setFld (.chk l u) F.CHK_STATUS_BUSY 0
  let b := a.setLane l { a.lane l with chk := assocDel (a.lane l).chk u }
  let w := b.setBit (.chk l u) F.CHK_STATUS_DONE
  have hb : b.regs = a.regs := State.setLane_regs ..
  have mark : RegsOutside ([RegId.CHK_STATUS].map (regAt (.chk l u) ·)) s w := by
    refine (RegsOutside.same ?_ hb).wr_page (L := [.CHK_STATUS]) _ (by decide)
    exact (RegsOutside.refl _ s).wr_page (L := [.CHK_STATUS]) _ (by decide)
  have busy : w.bit (.chk l u) F.CHK_STATUS_BUSY = false := by
    refine (b.bit_setFld_apart _ F.CHK_STATUS_DONE F.CHK_STATUS_BUSY _ _ rfl (by decide) (by decide) (by decide)).trans ?_
    exact (State.bit_congr (State.fld_congr hb ..)).trans (s.bit_setFld_zero _ F.CHK_STATUS_BUSY _ (by decide) (by decide))
  have done : w.bit (.chk l u) F.CHK_STATUS_DONE = true := b.bit_setBit_same _ F.CHK_STATUS_DONE _ (by decide) (by decide)
  have addr : w.bit (.chk l u) F.CHK_STATUS_ADDR_ERR = s.bit (.chk l u) F.CHK_STATUS_ADDR_ERR := by
    refine (b.bit_setFld_apart _ F.CHK_STATUS_DONE F.CHK_STATUS_ADDR_ERR _ _ rfl (by decide) (by decide) (by decide)).trans ?_
    refine (State.bit_congr (State.fld_congr hb ..)).trans ?_
    exact s.bit_setFld_apart _ F.CHK_STATUS_BUSY F.CHK_STATUS_ADDR_ERR _ _ rfl (by decide) (by decide) (by decide)
  have body : w.body = (s.setLane l { s.lane l with chk := assocDel (s.lane l).chk u }).body := by cases l <;> rfl
  have ie : w.bit (.chk l u) F.CHK_CFG_IE = s.bit (.chk l u) F.CHK_CFG_IE := State.bit_congr (mark.fld_page (by decide))
  have pend (j : Nat) : w.rd (.insPage l own) .INS_VINT_PEND j = s.rd (.insPage l own) .INS_VINT_PEND j := by
    refine mark.rd _ _ _ fun e he => ?_
    obtain rfl := List.mem_singleton.1 he
    have := chk_apart_insPage l hu own j .INS_VINT_PEND .CHK_STATUS (by decide)
    simp only [regAt]
    omega
  have state : w.insState l own = s.insState l own := by
    refine mark.fld _ F.INS_STATE_STATE _ fun e he => ?_
    obtain rfl := List.mem_singleton.1 he
    have := chk_apart_insPage l hu own 0 F.INS_STATE_STATE.id .CHK_STATUS (by decide)
    simp only [regAt]
    omega
  have e : s.chkFin l u own = if w.bit (.chk l u) F.CHK_CFG_IE then w.vector l own u else w := rfl
  clear_value w
  rw [e]
  split
  · next h =>
    have regs := w.vector_regs l own (v := u) (by omega)
    have fld (f : Fld) (hf : f.id.geom.off < 0x30) : (w.vector l own u).fld (.chk l u) f = w.fld (.chk l u) f :=
      regs.fld _ f 0 (chk_apart_vectors l hu own hf)
    refine ⟨(State.bit_congr (fld _ (by decide))).trans busy, (State.bit_congr (fld _ (by decide))).trans done,
      (State.bit_congr (fld _ (by decide))).trans addr, (w.body_vector ..).trans body, ?_, fun hie => ?_, fun _ _ ho => ?_⟩
    · exact (mark.mono fun e h => List.mem_cons.2 (.inl (List.mem_singleton.1 h))).trans (regs.mono fun e h => .tail _ h)
    · rw [ie, hie] at h
      cases h
    · refine State.vector_raises (fun h => ?_) (by omega)
      rw [state] at h
      rcases ho with ho | ho
      · omega
      · exact ho h.2
  · next h =>
    refine ⟨busy, done, addr, body, mark.mono fun e h => List.mem_cons.2 (.inl (List.mem_singleton.1 h)), fun _ => pend, fun hie => ?_⟩
    exact absurd (ie.trans hie) h

/-- The end of an operation as O40 states it. -/
def chkEnds (l : Lane) (u own : Nat) (s t : State) : Prop :=
  t.bit (.chk l u) F.CHK_STATUS_BUSY = false ∧ t.bit (.chk l u) F.CHK_STATUS_DONE = true ∧
    t.body = (s.setLane l { s.lane l with chk := assocDel (s.lane l).chk u }).body ∧
    RegsOutside [(Page.base (.chk l u), 0x30), (Page.base (.insPage l own), 0x1000), regAt (.ins l) .INS_VINT_SUM_LO,
      regAt (.ins l) .INS_VINT_SUM_HI, regAt (.ins l) .INS_VINT_SUM_MGR] s t ∧
    (s.bit (.chk l u) F.CHK_CFG_IE = false → ∀ j < 8, t.rd (.insPage l own) .INS_VINT_PEND j = s.rd (.insPage l own) .INS_VINT_PEND j) ∧
    (s.bit (.chk l u) F.CHK_CFG_IE = true → (own = 64 ∨ s.insState l own ≠ 6) →
      bitAt (t.rd (.insPage l own) .INS_VINT_PEND 0).toNat u = true)

/-- The unit's registers that the end of an operation may store to beside its status. -/
def chkOutAt : List RegId := [.CHK_STATUS, .CHK_VALUE_LO, .CHK_VALUE_HI, .CHK_RESULT_LO, .CHK_RESULT_HI, .CHK_ALIVE]

/-- An operation ends in a state that differs from `s` only in the unit's own registers. -/
theorem chkEnds_chkFin {s w : State} {l : Lane} {u : Nat} (hu : u < 8) (own : Nat) (hr : RegsOutside (chkOutAt.map (regAt (.chk l u) ·)) s w)
    (hb : w.body = s.body) : chkEnds l u own s (w.chkFin l u own) := by
  have ended := w.chkFin_ended (l := l) hu own
  have ie : w.bit (.chk l u) F.CHK_CFG_IE = s.bit (.chk l u) F.CHK_CFG_IE := State.bit_congr (hr.fld_page (by decide))
  have page (r : RegId) (k : Nat) : w.rd (.insPage l own) r k = s.rd (.insPage l own) r k := by
    refine hr.rd _ _ _ fun e he => ?_
    obtain ⟨x, hx, rfl⟩ := List.mem_map.1 he
    have small : ∀ x ∈ chkOutAt, x.geom.off < 0x30 := by decide
    have := chk_apart_insPage l hu own k r x (small x hx)
    simp only [regAt]
    omega
  have state : w.insState l own = s.insState l own := by
    unfold State.insState State.fld
    rw [page]
  refine ⟨ended.busy, ended.done, ended.body.trans ?_, ?_, fun h j _ => (ended.still (ie.trans h) j).trans (page _ j), fun h ho => ?_⟩
  · cases l
    · exact (congrArg (fun b : State => { b with l0 := { b.l0 with chk := assocDel b.l0.chk u } }) hb :)
    · exact (congrArg (fun b : State => { b with l1 := { b.l1 with chk := assocDel b.l1.chk u } }) hb :)
  · have small : ∀ x ∈ chkOutAt, x.geom.off < 0x30 := by decide
    have inside (x : RegId) (hx : x.geom.off < 0x30) : Page.base (.chk l u) ≤ (regAt (.chk l u) x).1 ∧
        (regAt (.chk l u) x).1 + (regAt (.chk l u) x).2 ≤ Page.base (.chk l u) + 0x30 := by
      simp only [regAt, regAddr]
      omega
    refine (hr.cover fun e he => ?_).trans (ended.regs.cover fun e he => ?_)
    · obtain ⟨x, hx, rfl⟩ := List.mem_map.1 he
      exact ⟨_, .head _, inside x (small x hx)⟩
    · rcases List.mem_cons.1 he with rfl | he
      · exact ⟨_, .head _, inside .CHK_STATUS (by decide)⟩
      · rcases List.mem_cons.1 he with rfl | he
        · exact ⟨_, .tail _ (.head _), le_refl _, Nat.add_le_add_left (by decide : 0x100 ≤ 0x1000) _⟩
        · exact ⟨e, .tail _ (.tail _ he), le_refl _, le_refl _⟩
  · refine ended.raised (ie.trans h) hu (ho.imp (fun h => h.ge) fun h => ?_)
    rwa [state]

theorem exec_checkValueDone {s : State} {l : Lane} {u : Fin 8} (hl : s.laneUp l = true) (hb : s.bit (.chk l u) F.CHK_STATUS_BUSY = true) :
    exec (.checkValueDone l u) s = .next (s.chkDone l u) := by
  simp only [exec, execCheckValueDone, hl, hb]
  rfl

theorem exec_checkValueDone_idle {s : State} {l : Lane} {u : Fin 8} (hb : s.bit (.chk l u) F.CHK_STATUS_BUSY = false) :
    exec (.checkValueDone l u) s = .next s := by
  simp only [exec, execCheckValueDone, hb, Bool.not_false, Bool.or_true]
  rfl

/-- The end leaves every register of the unit but its status. -/
theorem State.rd_chkFin {s : State} {l : Lane} {u : Nat} (hu : u < 8) (own : Nat) {r : RegId} (hr : r.geom.off < 0x30)
    (hs : r.geom.off ≠ RegId.CHK_STATUS.geom.off) : (s.chkFin l u own).rd (.chk l u) r 0 = s.rd (.chk l u) r 0 := by
  refine (s.chkFin_ended (l := l) hu own).regs.rd _ _ _ (List.forall_mem_cons.2 ⟨?_, chk_apart_vectors l hu own hr⟩)
  have := chkReg_ne l u hs
  simp only [regAt]
  omega

theorem State.chkValue_chkFin {s : State} {l : Lane} {u : Nat} (hu : u < 8) (own : Nat) : (s.chkFin l u own).chkValue l u = s.chkValue l u := by
  unfold State.chkValue State.pairReg
  rw [State.rd_chkFin hu own (by decide) (by decide), State.rd_chkFin hu own (by decide) (by decide)]

/-- What an operation writes before it ends. -/
structure ChkWritten (l : Lane) (u v res alive : Nat) (s t : State) : Prop where
  regs : RegsOutside ((chkValueAt ++ chkResultAt ++ [RegId.CHK_ALIVE]).map (regAt (.chk l u) ·)) s t
  body : t.body = s.body
  value : t.chkValue l u = v
  result : t.pairReg (.chk l u) .CHK_RESULT_LO .CHK_RESULT_HI = res
  alive : t.fld (.chk l u) F.CHK_ALIVE_ALIVE = alive

theorem State.chkWritten (s : State) (l : Lane) (u : Nat) {v res : Nat} (hv : v < 2 ^ 64) (hres : res < 2 ^ 64) (inc : Bool) :
    ChkWritten l u v res (if inc then (s.fld (.chk l u) F.CHK_ALIVE_ALIVE + 1) % 2 ^ 32 else s.fld (.chk l u) F.CHK_ALIVE_ALIVE) s
      (((s.setChkValue l u v).setChkResult l u res).chkAlive l u (s.fld (.chk l u) F.CHK_ALIVE_ALIVE) inc) := by
  generalize hn : s.fld (.chk l u) F.CHK_ALIVE_ALIVE = n
  have value := s.chkValue_setChkValue l u v hv
  have stored := s.setChkValue_regs l u v
  have body : (s.setChkValue l u v).body = s.body := rfl
  generalize s.setChkValue l u v = a at value stored body
  have result : (a.setChkResult l u res).pairReg (.chk l u) .CHK_RESULT_LO .CHK_RESULT_HI = res :=
    State.pairReg_of ((State.rd_wr_other _ _ _ _ _ _ _ _ (chkReg_ne l u (by decide))).trans (State.rd_wr_same ..)) (State.rd_wr_same ..) hres
  have put := a.setChkResult_regs l u res
  have body' : (a.setChkResult l u res).body = s.body := body
  generalize a.setChkResult l u res = b at result put body'
  have count : RegsOutside ([RegId.CHK_ALIVE].map (regAt (.chk l u) ·)) b (b.chkAlive l u n inc) :=
    iteInduction (motive := RegsOutside _ b) (fun _ => (RegsOutside.refl _ b).wr_page (L := [.CHK_ALIVE]) _ (by decide)) fun _ => .refl _ b
  refine ⟨?_, ?_, ?_, ?_, ?_⟩
  · exact (stored.mono (List.map_subset _ (by decide))).trans
      ((put.mono (List.map_subset _ (by decide))).trans (count.mono (List.map_subset _ (by decide))))
  · cases inc
    · exact body'
    · exact body'
  · rw [count.chkValue l u (by decide), put.chkValue l u (by decide), value]
  · rw [State.pairReg, count.rd_page (by decide), count.rd_page (by decide)]
    exact result
  · have same : b.fld (.chk l u) F.CHK_ALIVE_ALIVE = n := by rw [put.fld_page (by decide), stored.fld_page (by decide), hn]
    cases inc
    · exact same
    · exact b.fld_setFld_same _ F.CHK_ALIVE_ALIVE _ _ (by decide) (by decide)

section
variable {s : State} {l : Lane} {u : Fin 8} {x : ChkRun} {p : CrcParam} {r k : Nat} (hl : s.laneUp l = true)
  (hb : s.bit (.chk l u) F.CHK_STATUS_BUSY = true) (hx : assocGet (s.lane l).chk u = some x) (hp : chkAlg x.poly = some p)
  (hr : r < 2 ^ p.width) (hv : s.chkValue l u = chkForm p r)
include hl hb hx hp hr hv

/-- A byte out of reach ends the operation before it (R304, R341). -/
theorem checkValueDone_short (hin : ∀ j < k, s.mayReach l (s.ownerChk l u) false (x.src + j) = true) (hk : k < x.len)
    (hout : s.mayReach l (s.ownerChk l u) false (x.src + k) = false) :
    Answers (exec (.checkValueDone l u) s) fun t => chkEnds l u (s.ownerChk l u) s t ∧ t.bit (.chk l u) F.CHK_STATUS_ADDR_ERR = true ∧
      t.chkValue l u = chkForm p (crcRun p r (s.mem l x.src k)) ∧ t.fld (.chk l u) F.CHK_ALIVE_ALIVE = s.fld (.chk l u) F.CHK_ALIVE_ALIVE ∧
      t.rd (.chk l u) .CHK_RESULT_LO = s.rd (.chk l u) .CHK_RESULT_LO ∧ t.rd (.chk l u) .CHK_RESULT_HI = s.rd (.chk l u) .CHK_RESULT_HI := by
  have fits := chkAlg_fits hp
  refine ⟨_, exec_checkValueDone hl hb, ?_⟩
  rw [State.chkDone_short hx hp hr hv (State.chkBytes_stopped hin hk hout)]
  have small : chkForm p (crcRun p r (s.mem l x.src k)) < 2 ^ 64 :=
    (chkForm_lt (crcRun_lt fits.byte fits.poly hr _)).trans_le (Nat.pow_le_pow_right (by decide) fits.word)
  generalize chkForm p (crcRun p r (s.mem l x.src k)) = v at small
  have stored := s.setChkValue_regs l u v
  have value := s.chkValue_setChkValue l u v small
  have body : (s.setChkValue l u v).body = s.body := rfl
  generalize s.setChkValue l u v = a at stored value body
  have marked : RegsOutside ([RegId.CHK_STATUS].map (regAt (.chk l u) ·)) a (a.setBit (.chk l u) F.CHK_STATUS_ADDR_ERR) :=
    (RegsOutside.refl _ a).wr_page (L := [.CHK_STATUS]) _ (by decide)
  have err := a.bit_setBit_same (.chk l u) F.CHK_STATUS_ADDR_ERR 0 (by decide) (by decide)
  have body' : (a.setBit (.chk l u) F.CHK_STATUS_ADDR_ERR).body = s.body := body
  generalize a.setBit (.chk l u) F.CHK_STATUS_ADDR_ERR = w at marked err body'
  have regs : RegsOutside (chkOutAt.map (regAt (.chk l u) ·)) s w :=
    (stored.mono (List.map_subset _ (by decide))).trans (marked.mono (List.map_subset _ (by decide)))
  have kept (y : RegId) (hy : y ∈ [RegId.CHK_RESULT_LO, .CHK_RESULT_HI, .CHK_ALIVE]) :
      (w.chkFin l u (s.ownerChk l u)).rd (.chk l u) y = s.rd (.chk l u) y := by
    have offs : ∀ y ∈ [RegId.CHK_RESULT_LO, .CHK_RESULT_HI, .CHK_ALIVE], y.geom.off < 0x30 ∧ ∀ z ∈ .CHK_STATUS :: chkValueAt,
      y.geom.off ≠ z.geom.off := by decide
    obtain ⟨small, apart⟩ := offs y hy
    obtain ⟨status, value⟩ := List.forall_mem_cons.1 apart
    exact (State.rd_chkFin u.2 _ small status).trans ((marked.rd_page (by simpa using status)).trans (stored.rd_page value))
  refine ⟨chkEnds_chkFin u.2 _ regs body', (w.chkFin_ended u.2 _).addr.trans err, ?_, ?_, kept _ (by decide), kept _ (by decide)⟩
  · rw [State.chkValue_chkFin u.2, marked.chkValue l u (by decide), value]
  · unfold State.fld
    rw [kept _ (by decide)]

/-- Every byte in reach: the operation ends with its results (R304, R305). -/
theorem checkValueDone_whole (hin : ∀ j < x.len, s.mayReach l (s.ownerChk l u) false (x.src + j) = true) :
    let alive := s.fld (.chk l u) F.CHK_ALIVE_ALIVE
    let all := s.mem l x.src x.len ++ if x.aliveIn then natBe 4 alive else []
    Answers (exec (.checkValueDone l u) s) fun t => chkEnds l u (s.ownerChk l u) s t ∧
      t.bit (.chk l u) F.CHK_STATUS_ADDR_ERR = s.bit (.chk l u) F.CHK_STATUS_ADDR_ERR ∧ t.chkValue l u = chkForm p (crcRun p r all) ∧
      t.pairReg (.chk l u) .CHK_RESULT_LO .CHK_RESULT_HI = (chkForm p (crcRun p r all)).xor p.xout ∧
      t.fld (.chk l u) F.CHK_ALIVE_ALIVE = if x.aliveInc then (alive + 1) % 2 ^ 32 else alive := by
  intro alive all
  have fits := chkAlg_fits hp
  refine ⟨_, exec_checkValueDone hl hb, ?_⟩
  rw [State.chkDone_whole hx hp hr hv (State.chkBytes_reached hin)]
  have le64 : 2 ^ p.width ≤ 2 ^ 64 := Nat.pow_le_pow_right (by decide) fits.word
  have fit : chkForm p (crcRun p r all) < 2 ^ p.width := chkForm_lt (crcRun_lt fits.byte fits.poly hr _)
  have res : (chkForm p (crcRun p r all)).xor p.xout < 2 ^ 64 := (Nat.xor_lt_two_pow fit fits.xout).trans_le le64
  have written := s.chkWritten l u (fit.trans_le le64) res x.aliveInc
  generalize State.chkAlive _ _ _ _ _ = w at written ⊢
  have kept (y : RegId) (hy : y ∈ [RegId.CHK_RESULT_LO, .CHK_RESULT_HI, .CHK_ALIVE]) :
      (w.chkFin l u (s.ownerChk l u)).rd (.chk l u) y = w.rd (.chk l u) y := by
    have offs : ∀ y ∈ [RegId.CHK_RESULT_LO, .CHK_RESULT_HI, .CHK_ALIVE], y.geom.off < 0x30 ∧ y.geom.off ≠ RegId.CHK_STATUS.geom.off := by
      decide
    exact State.rd_chkFin u.2 _ (offs y hy).1 (offs y hy).2
  refine ⟨chkEnds_chkFin u.2 _ (written.regs.mono (List.map_subset _ (by decide))) written.body, ?_, ?_, ?_, ?_⟩
  · exact (w.chkFin_ended u.2 _).addr.trans (State.bit_congr (written.regs.fld_page (by decide)))
  · rw [State.chkValue_chkFin u.2, written.value]
  · rw [State.pairReg, kept _ (by decide), kept _ (by decide)]
    exact written.result
  · rw [State.fld, kept _ (by decide)]
    exact written.alive

end

end Sys2Proof.Machine
end

section
/-! # O40: trip pins and check-value units -/

namespace Sys2Proof.Machine
open Sys2Proof

/-- Settles O40: a notice, MIN_ON and a disagreement each end by showing the drives, and a check-value operation feeds the bytes its
owner reaches to the register that VALUE holds. -/
theorem tripPinsAndCheckUnits : Obligations.TripPinsAndCheckUnits := by
  unfold Obligations.TripPinsAndCheckUnits
  intro l n u s hl pg x a now stays shows bare shown moved
  refine ⟨fun w rest hw hoff hvalid hpoint hothers => ?_, fun hd => ?_, fun e v rest hd he => tripNoticeDue_moves hl hd he, fun hh => ?_,
    fun hh hd hp hwant hm => tripMinOnExpire_eps hl hh hd hp hwant hm, ?_, ?_, ?_⟩
  · refine noticeReceived_moves hl n.2 hw hoff ⟨by rw [hvalid]; decide, hpoint⟩ fun j hj hne hwatch => ?_
    exact (hothers j hj hne).elim hwatch.1 fun h => h hwatch.2
  · simp only [exec, execTripNoticeDue, show (s.trip l n).due = [] from hd]
  · refine ⟨tripMinOnExpire_idle hl hh, fun hd hwant hs => tripMinOnExpire_moves hl hh hd hwant ?_⟩
    exact not_lt.1 fun h => hs ⟨hd, h⟩
  · intro P D both mute
    refine ⟨fun k hk => ⟨?_, if_neg (by simp [hk]), ?_⟩, State.pinLevel_held, fun hb => ⟨State.pinLevel_none, fun k hk ho => ?_, fun h0 h1 => ?_⟩⟩
    · show s.tripPresent k n = true ↔ _
      simp [State.tripPresent, hk, and_assoc]
    · show s.laneDrive k n = true ↔ _
      simp [State.laneDrive, hk, State.fullDrive, and_assoc]
    · rw [State.pinLevel_alone hb hk ho]
      exact ⟨fun h => if_pos h, fun h => if_neg h⟩
    · rw [State.pinLevel_both hb h0 h1]
      exact ⟨fun h => if_pos h, fun h => if_neg h⟩
  · intro differs cnt
    obtain ⟨agrees, lasts⟩ := tripDisagree_tells (l := l) (n := n) hl
    refine ⟨fun h => agrees (Bool.eq_false_iff.2 fun h' => h ((s.tripDiffers_iff l n).1 h')), fun t0 h hd ht => ?_⟩
    obtain ⟨told, tells⟩ := lasts t0 ((s.tripDiffers_iff l n).2 h) hd ht
    refine ⟨told, fun htold => ?_⟩
    obtain ⟨t, ht, h⟩ := tells htold
    exact ⟨t, ht, h.count, h.told, h.dis, h.regs, h.bare⟩
  · intro pc busy poly go runs chkRegs
    have idle (h : ¬busy) : s.bit pc F.CHK_STATUS_BUSY = false := Bool.eq_false_iff.2 h
    refine ⟨fun h => ?_, fun h hpoly => ?_, fun p h hp => ?_, fun h => exec_checkValueDone_idle (idle h), fun y p r k hb hy hp hr hv => ?_⟩
    · rw [exec_checkValueStart hl, State.chkGo_busy h]
    · rw [exec_checkValueStart hl, State.chkGo_badcfg (idle h) (chkAlg_none hpoly)]
    · exact ⟨_, exec_checkValueStart hl u, State.chkGo_effect (idle h) hp⟩
    · intro own src len alive r' ends hin
      refine ⟨fun hk hout => checkValueDone_short hl hb hy hp hr hv hin hk hout, ?_⟩
      rintro rfl all
      refine ⟨?_, ?_⟩
      · obtain ⟨b, hle, hshown⟩ := State.chkShown_blocks hy hp hr hv hin
        exact ⟨b, hle, congrArg (BitVec.ofNat 32) hshown⟩
      · obtain ⟨t, ht, hends, haddr, hvalue, hresult, halive⟩ := checkValueDone_whole hl hb hy hp hr hv hin
        refine ⟨t, ht, hends, haddr, hvalue, hresult, fun hinit => ?_, halive⟩
        rw [hresult, hinit]
        rfl

end Sys2Proof.Machine
end

section
/-! # O44: a counterexample, the write of an owner that no lane has (R243, R347) -/

namespace Sys2Proof.Machine
open Sys2Proof

/-- A pending Speedwell-path write whose owner's number is beyond the 64 instances and the manager: its register page would lie in
the other lane. The statement looks at every state, this one too. -/
def strayWrite : MapW := ⟨none, some (0, 0), 0, 0, 2 ^ 20⟩

/-- A field-bus write of the manager that waits for the instant of a Speedwell sample. -/
def heldWrite : MapW := ⟨none, none, 0, 0, 64⟩

/-- A record of an empty frame that object 0 of controller 0 takes. -/
def emptyRecord : RxRec := ⟨0, 0, 0, ⟨0, false, false, false, false, false, []⟩⟩

/-- Lane 0 with its map enabled, point 0 of the field bus and the manager, and object 0 using the map. The stray write stands pending for a
sample that has been delivered, its owner counts as quiesced since 0, the held write waits for room, and the record is to be applied. -/
def strayState : State :=
  let a := winAddr (.map .l0) .mapRngAct 0
  let s := { State.reset with dom := ⟨.up, .up, .up, .up, .up, .up⟩ }
  let s := (s.setFld (.map .l0) F.MAP_CTRL_EN 1).setFld (.map .l0) F.MAP_PEND_CFG_SIZE_LOG2 4
  let s := ((s.setEnt a E.T10_2_VALID 1).setEnt a E.T10_2_CLASS 4).setEnt a E.T10_2_OWNER 64
  let s := s.setEnt (fboDesc .l0 0) E.T16_2_MAP_EN 1
  s.setLane .l0 { s.l0 with
    map := { s.l0.map with pend := [strayWrite] }
    insGq := [(2 ^ 20, 0)]
    strs := [(0, { StrSt.empty with fine := [⟨0, 0, 0, 0, []⟩] })]
    fbs := { s.l0.fbs with rx := [emptyRecord], out := [heldWrite] } }

/-- What a step leaves stored at an address. -/
def nextGet (o : Host.Outcome State Fault Refusal) (a : Nat) : Option Word :=
  match o with
  | .next t => assocGet t.regs a
  | _ => none

/-- The register of Lane 1 that the stray write's dropping counts in. -/
def strayAt : Nat := regAddr (.insPage .l0 (2 ^ 20)) .INS_OCNT 1

theorem strayAt_outside : ∀ e ∈ [laneAt_ .l0, evrAt], strayAt < e.1 ∨ e.1 + e.2 ≤ strayAt := by decide

set_option maxRecDepth 40000 in
/-- Applying the record posts the held write, which settles the stray one: its dropping is counted outside Lane 0. -/
theorem nextGet_stray : nextGet (exec (.receiveRecordApply .l0) strayState) strayAt = some 1 ∧ assocGet strayState.regs strayAt = none := by
  decide +kernel

/-- Refutes O44: applying a record posts the writes that wait before it, and with them a pending Speedwell-path write takes its E and
is dropped at a quiesced owner. The statement binds no owner's number, and one beyond 64 is counted in a register of the other lane. -/
theorem not_fieldBusReception : ¬ Obligations.FieldBusReception := by
  unfold Obligations.FieldBusReception
  intro h
  have up : strayState.laneUp .l0 = true := by decide
  have unpaired : strayState.bit (.fbsCtl .l0 (emptyRecord.ctl % 2)) F.FBS_CTRL_PAIR_EN = false := by decide
  obtain ⟨-, records, -⟩ := h.2 .l0 strayState up
  obtain ⟨-, -, applied⟩ := records emptyRecord [] rfl
  obtain ⟨t, ht, -, -, -, -, -, -, -, -, -, ⟨outside, -⟩, -⟩ := applied (.inl unpaired) (by decide) (by decide)
  obtain ⟨stored, free⟩ := nextGet_stray
  have kept := outside strayAt strayAt_outside
  rw [ht] at stored
  exact absurd ((stored.symm.trans kept).trans free) (by decide)

end Sys2Proof.Machine
end

section
/-! # The mailbox: what submitting a command stores, latches and holds for completion (R58, R60) -/

namespace Sys2Proof.Machine
open Sys2Proof

/-! The running command of a channel. -/

section
variable (s : State) (ch : Nat) (m : Option MbRun)

@[simp] theorem State.setMbox_regs : (s.setMbox ch m).regs = s.regs := by unfold State.setMbox; split <;> rfl
@[simp] theorem State.setMbox_mem0 : (s.setMbox ch m).mem0 = s.mem0 := by unfold State.setMbox; split <;> rfl
@[simp] theorem State.setMbox_mem1 : (s.setMbox ch m).mem1 = s.mem1 := by unfold State.setMbox; split <;> rfl
@[simp] theorem State.setMbox_flash0 : (s.setMbox ch m).flash0 = s.flash0 := by unfold State.setMbox; split <;> rfl
@[simp] theorem State.setMbox_flash1 : (s.setMbox ch m).flash1 = s.flash1 := by unfold State.setMbox; split <;> rfl
@[simp] theorem State.setMbox_dom : (s.setMbox ch m).dom = s.dom := by unfold State.setMbox; split <;> rfl
@[simp] theorem State.setMbox_ink : (s.setMbox ch m).ink = s.ink := by unfold State.setMbox; split <;> rfl
@[simp] theorem State.setMbox_staged : (s.setMbox ch m).com.staged = s.com.staged := by unfold State.setMbox; split <;> rfl
@[simp] theorem State.setMbox_fetch : (s.setMbox ch m).com.fetch = s.com.fetch := by unfold State.setMbox; split <;> rfl
@[simp] theorem State.setMbox_built : (s.setMbox ch m).com.built = s.com.built := by unfold State.setMbox; split <;> rfl
@[simp] theorem State.setMbox_switches : (s.setMbox ch m).com.switches = s.com.switches := by unfold State.setMbox; split <;> rfl
@[simp] theorem State.setMbox_active : (s.setMbox ch m).com.active = s.com.active := by unfold State.setMbox; split <;> rfl
@[simp] theorem State.setMbox_imageId : (s.setMbox ch m).com.imageId = s.com.imageId := by unfold State.setMbox; split <;> rfl
@[simp] theorem State.setMbox_imageSec : (s.setMbox ch m).com.imageSec = s.com.imageSec := by unfold State.setMbox; split <;> rfl
@[simp] theorem State.setMbox_verified : (s.setMbox ch m).com.verified = s.com.verified := by unfold State.setMbox; split <;> rfl
@[simp] theorem State.setMbox_converge : (s.setMbox ch m).com.converge = s.com.converge := by unfold State.setMbox; split <;> rfl
@[simp] theorem State.setMbox_mem (l : Lane) (a n : Nat) : (s.setMbox ch m).mem l a n = s.mem l a n := by
  unfold State.setMbox; split <;> rfl
@[simp] theorem State.setMbox_fld (p : Page) (f : Fld) (k : Nat) : (s.setMbox ch m).fld p f k = s.fld p f k := by
  unfold State.setMbox; split <;> rfl
@[simp] theorem State.setMbox_rd (p : Page) (r : RegId) (k : Nat) : (s.setMbox ch m).rd p r k = s.rd p r k := by
  unfold State.setMbox; split <;> rfl
@[simp] theorem State.setMbox_bit (p : Page) (f : Fld) (k : Nat) : (s.setMbox ch m).bit p f k = s.bit p f k := by
  unfold State.setMbox; split <;> rfl
@[simp] theorem State.mbox_setMbox_same : (s.setMbox ch m).mbox ch = m := by
  unfold State.mbox State.setMbox; split <;> simp_all

end

/-- The other channel keeps its command. -/
@[simp] theorem State.mbox_setMbox_other (s : State) (ch : Fin 2) (m : Option MbRun) :
    (s.setMbox ch m).mbox (1 - ch.val) = s.mbox (1 - ch.val) := by
  fin_cases ch <;> rfl

/-- The state beside its registers and one channel's command is that of before. -/
theorem State.body_setMbox (s : State) (ch : Nat) (m : Option MbRun) :
    { (s.setMbox ch m).body with com := { (s.setMbox ch m).com with mb0 := s.com.mb0, mb1 := s.com.mb1 } } = s.body := by
  unfold State.setMbox; split <;> rfl

theorem State.mbox_congr {s t : State} (h : t.com = s.com) (ch : Nat) : t.mbox ch = s.mbox ch := by
  unfold State.mbox; rw [h]

/-! Steps that store to a channel's registers alone. -/

/-- Nothing but words of a channel's registers differs. -/
structure ChannelStep (ch : Nat) (s t : State) : Prop where
  regs : RegsOutside [stwAt ch] s t
  body : t.body = s.body
  range : ∀ a n, a + n ≤ (stwAt ch).1 ∨ (stwAt ch).1 + (stwAt ch).2 ≤ a → t.range a n = s.range a n

namespace ChannelStep
variable {ch : Nat} {s t u : State}

theorem refl (ch : Nat) (s : State) : ChannelStep ch s s := ⟨.refl _ s, rfl, fun _ _ _ => rfl⟩

theorem wr (h : ChannelStep ch s t) (r : RegId) (k : Nat) (v : Word) (ho : r.geom.off + k * r.geom.stride < 0x1000) :
    ChannelStep ch s (t.wr (.stw ch) r k v) := by
  have hin : (stwAt ch).1 ≤ regAddr (.stw ch) r k ∧ regAddr (.stw ch) r k < (stwAt ch).1 + (stwAt ch).2 := by
    simp only [regAddr, stwAt]
    omega
  exact ⟨h.regs.wr _ _ _ _ ⟨_, .head _, hin⟩, h.body, fun a n ha =>
    (t.range_setWin (x := regAddr (.stw ch) r k) v (by omega)).trans (h.range a n ha)⟩

theorem setFld (h : ChannelStep ch s t) (f : Fld) (v : Nat) (ho : f.id.geom.off < 0x1000 := by decide) :
    ChannelStep ch s (t.setFld (.stw ch) f v) := h.wr f.id 0 _ (by simpa using ho)

variable (h : ChannelStep ch s t)
include h

theorem com : t.com = s.com := (congrArg State.com h.body :)
theorem dom : t.dom = s.dom := (congrArg State.dom h.body :)
theorem ink : t.ink = s.ink := (congrArg State.ink h.body :)
theorem mem0 : t.mem0 = s.mem0 := (congrArg State.mem0 h.body :)
theorem mem1 : t.mem1 = s.mem1 := (congrArg State.mem1 h.body :)
theorem flash0 : t.flash0 = s.flash0 := (congrArg State.flash0 h.body :)
theorem flash1 : t.flash1 = s.flash1 := (congrArg State.flash1 h.body :)

/-- A word that is none of the channel's. -/
theorem word {a : Nat} (ha : a < (stwAt ch).1 ∨ (stwAt ch).1 + (stwAt ch).2 ≤ a) : assocGet t.regs a = assocGet s.regs a :=
  h.regs a (by simpa using ha)

theorem fld (p : Page) (f : Fld) (k : Nat)
    (ha : regAddr p f.id k < (stwAt ch).1 ∨ (stwAt ch).1 + (stwAt ch).2 ≤ regAddr p f.id k) : t.fld p f k = s.fld p f k :=
  h.regs.fld p f k (by simpa using ha)

end ChannelStep

/-! Submission. -/

/-- The sixteen words that a row latches. -/
def mboxArgs (args : List Nat) : List Nat := (List.range 16).map (fun i => args.getD i 0)

/-- STW_CMD and STW_ARG as a row writes them. -/
def State.mboxWritten (s : State) (ch op : Nat) (tag : BitVec 16) (args : List Nat) : State :=
  (List.range 16).foldl (fun s i => s.wr (.stw ch) .STW_ARG i (BitVec.ofNat 32 (args.getD i 0)))
    (s.wr (.stw ch) .STW_CMD 0 (BitVec.ofNat 32 (tag.toNat * 65536 + op)))

/-- The state that a submitted command finds: its words written, BUSY set and its progress 0. -/
def State.mboxTaken (s : State) (ch op : Nat) (tag : BitVec 16) (args : List Nat) : State :=
  ((s.mboxWritten ch op tag args).setFld (.stw ch) F.STW_STATUS_BUSY 1).wr (.stw ch) .STW_PROGRESS 0 0

/-- The words of a row's command as a channel holds them. -/
theorem State.rd_foldl_wr {p : Page} {r : RegId} {v : Nat → Word} (hr : 0 < r.geom.stride) (n : Nat) (s : State) {i : Nat} (hi : i < n) :
    ((List.range n).foldl (fun s i => s.wr p r i (v i)) s).rd p r i = v i := by
  induction n with
  | zero => omega
  | succ n ih =>
    rw [List.range_succ, List.foldl_append, List.foldl_cons, List.foldl_nil]
    by_cases h : i = n
    · subst h; rw [State.rd_wr_same]
    · rw [State.rd_wr_other]
      · exact ih (by omega)
      · simp only [regAddr]
        intro e
        exact h (Nat.eq_of_mul_eq_mul_right hr (by omega))

theorem State.rd_foldl_wr_other {p q : Page} {r g : RegId} {v : Nat → Word} {k : Nat} (n : Nat) (s : State)
    (h : ∀ i < n, regAddr q g k ≠ regAddr p r i) : ((List.range n).foldl (fun s i => s.wr p r i (v i)) s).rd q g k = s.rd q g k := by
  induction n with
  | zero => rfl
  | succ n ih =>
    rw [List.range_succ, List.foldl_append, List.foldl_cons, List.foldl_nil, State.rd_wr_other _ _ _ _ _ _ _ _ (h n (by omega))]
    exact ih fun i hi => h i (by omega)

theorem ChannelStep.foldl_wr {ch : Nat} {r : RegId} {v : Nat → Word} {n : Nat} (hr : ∀ i < n, r.geom.off + i * r.geom.stride < 0x1000)
    {s t : State} (h : ChannelStep ch s t) : ChannelStep ch s ((List.range n).foldl (fun s i => s.wr (.stw ch) r i (v i)) t) := by
  induction n with
  | zero => exact h
  | succ n ih =>
    rw [List.range_succ, List.foldl_append, List.foldl_cons, List.foldl_nil]
    exact (ih fun i hi => hr i (by omega)).wr _ _ _ (hr n (by omega))

section
variable (s : State) (ch op : Nat) (tag : BitVec 16) (args : List Nat)

theorem State.mboxWritten_step : ChannelStep ch s (s.mboxWritten ch op tag args) :=
  ((ChannelStep.refl ch s).wr .STW_CMD 0 _ (by decide)).foldl_wr (by decide)

theorem State.mboxTaken_step : ChannelStep ch s (s.mboxTaken ch op tag args) :=
  ((s.mboxWritten_step ch op tag args).setFld _ _).wr .STW_PROGRESS 0 _ (by decide)

/-- A register of the channel other than its command words. -/
theorem State.rd_mboxWritten (r : RegId) (k : Nat) (hc : r.geom.off + k * r.geom.stride ≠ RegId.STW_CMD.geom.off)
    (ha : ∀ i < 16, r.geom.off + k * r.geom.stride ≠ RegId.STW_ARG.geom.off + i * RegId.STW_ARG.geom.stride) :
    (s.mboxWritten ch op tag args).rd (.stw ch) r k = s.rd (.stw ch) r k := by
  rw [State.mboxWritten, State.rd_foldl_wr_other, State.rd_wr_other]
  · simp only [regAddr]; omega
  · intro i hi
    have := ha i hi
    simp only [regAddr]; omega

theorem State.fld_mboxWritten_status {f : Fld} (hf : f.id = .STW_STATUS) :
    (s.mboxWritten ch op tag args).fld (.stw ch) f = s.fld (.stw ch) f := by
  unfold State.fld
  rw [State.rd_mboxWritten _ _ _ _ _ _ _ (by rw [hf]; decide) (by rw [hf]; decide)]

theorem State.mboxTaken_busy : (s.mboxTaken ch op tag args).fld (.stw ch) F.STW_STATUS_BUSY = 1 := by
  unfold State.mboxTaken State.fld
  rw [State.rd_wr_other _ _ _ _ _ _ _ _ (by simp [regAddr, RegId.geom, F.STW_STATUS_BUSY])]
  exact State.fld_setFld_same _ _ _ _ 0 (by decide) (by decide)

variable {op args}

/-- The opcode, the tag and the words that GO latches are those of the row. -/
theorem State.mboxWritten_op (hop : op < 256) : (s.mboxWritten ch op tag args).fld (.stw ch) F.STW_CMD_OPCODE = op := by
  unfold State.fld State.mboxWritten
  rw [State.rd_foldl_wr_other _ _ (by intro i _; simp [regAddr, RegId.geom, F.STW_CMD_OPCODE]; omega)]
  have := tag.isLt
  show bitsOf ((s.wr _ _ _ _).rd (.stw ch) .STW_CMD 0).toNat 7 0 = op
  rw [State.rd_wr_same, BitVec.toNat_ofNat]
  simp only [bitsOf]
  omega

theorem State.mboxWritten_tag (hop : op < 256) : (s.mboxWritten ch op tag args).fld (.stw ch) F.STW_CMD_TAG = tag.toNat := by
  unfold State.fld State.mboxWritten
  rw [State.rd_foldl_wr_other _ _ (by intro i _; simp [regAddr, RegId.geom, F.STW_CMD_TAG]; omega)]
  have := tag.isLt
  show bitsOf ((s.wr _ _ _ _).rd (.stw ch) .STW_CMD 0).toNat 31 16 = tag.toNat
  rw [State.rd_wr_same, BitVec.toNat_ofNat]
  simp only [bitsOf]
  omega

theorem State.mboxWritten_args (hargs : ∀ a ∈ args, a < 2 ^ 32) :
    (List.range 16).map (fun i => ((s.mboxWritten ch op tag args).rd (.stw ch) .STW_ARG i).toNat) = mboxArgs args := by
  refine List.map_congr_left fun i hi => ?_
  rw [State.mboxWritten, State.rd_foldl_wr (by decide) _ _ (List.mem_range.mp hi), BitVec.toNat_ofNat]
  refine Nat.mod_eq_of_lt ?_
  rw [List.getD_eq_getElem?_getD]
  cases h : args[i]? with
  | none => decide
  | some a => exact hargs a (List.mem_of_getElem? h)

end

section
variable {ch : Fin 2} {op : Nat} {tag : BitVec 16} {args : List Nat} {f : List Nat → State → CmdOut} {s : State}

/-- What a submission hands to GO. -/
theorem mboxIssue_up (hc : s.up .common = true) : mboxIssue ch op tag args f s = mboxGo ch f (s.mboxWritten ch op tag args) := by
  unfold mboxIssue
  rw [hc]
  rfl

/-- GO while BUSY sets OVERRUN and does nothing else (R58). -/
theorem mboxIssue_busy (hc : s.up .common = true) (hs : s.com.steward = true) (hb : s.bit (.stw ch) F.STW_STATUS_BUSY = true) :
    mboxIssue ch op tag args f s = (s.mboxWritten ch op tag args).setBit (.stw ch) F.STW_STATUS_OVERRUN := by
  have step := s.mboxWritten_step ch op tag args
  have hb' : (s.mboxWritten ch op tag args).bit (.stw ch) F.STW_STATUS_BUSY = true := by
    rw [← hb, State.bit, State.bit, State.fld_mboxWritten_status _ _ _ _ _ rfl]
  rw [mboxIssue_up hc]
  simp [mboxGo, State.up_congr step.dom, hc, step.com, hs, hb']

/-- GO of a command that its channel admits runs it on the state that the submission leaves, and the channel holds its outcome. -/
theorem mboxIssue_ready (h : MboxReady s ch op) (hop : op < 256) (hargs : ∀ a ∈ args, a < 2 ^ 32) :
    mboxIssue ch op tag args f s =
      (f (mboxArgs args) (s.mboxTaken ch op tag args)).st.setMbox ch
        (some ⟨op, tag.toNat, mboxArgs args, (f (mboxArgs args) (s.mboxTaken ch op tag args)).code,
          (f (mboxArgs args) (s.mboxTaken ch op tag args)).res, (f (mboxArgs args) (s.mboxTaken ch op tag args)).wait⟩) := by
  obtain ⟨hc, hs, hb, hm, hgate⟩ := h
  have step := s.mboxWritten_step ch op tag args
  have taken := s.mboxTaken_step ch op tag args
  have hb' : (s.mboxWritten ch op tag args).bit (.stw ch) F.STW_STATUS_BUSY = false := by
    rw [← hb, State.bit, State.bit, State.fld_mboxWritten_status _ _ _ _ _ rfl]
  have hl : (s.mboxTaken ch op tag args).lifecycle = s.lifecycle := taken.fld _ _ _ (by fin_cases ch <;> decide)
  have hm' : (s.mboxTaken ch op tag args).mbox (1 - ch.val) = none := (State.mbox_congr taken.com _).trans hm
  have denied : (decide (ch.val = 1) && decide ((s.mboxTaken ch op tag args).lifecycle = 2) && !readOps.contains op) = false := by
    rw [hl]
    rcases hgate with h | h | h
    · simp [h]
    · simp [h]
    · simp [h]
  rw [mboxIssue_up hc]
  unfold mboxGo
  rw [State.up_congr step.dom, hc, step.com, hs]
  simp only [hb', State.mboxWritten_op s ch tag hop, State.mboxWritten_tag s ch tag hop, State.mboxWritten_args s ch tag hargs]
  rw [← State.mboxTaken, hm', denied]
  rfl

end

end Sys2Proof.Machine
end

section
/-! # O9: a counterexample, an EVR_READ that meets a single-bit error (R395, R434) -/

namespace Sys2Proof.Machine
open Sys2Proof

/-- Common UP with the steward running, and Inkwell not UP. -/
def vaultDown : State :=
  { State.reset with dom := ⟨.off, .off, .off, .off, .up, .off⟩, com := { CommonSt.empty with steward := true } }

/-- An EVR_READ of no octets that meets a single-bit error counts it in BLT_CORR of Inkwell, whatever it ends with. -/
theorem correctedRead_counts :
    ∃ t, exec (.evrRead 0 0 0 0 0 [] true) vaultDown = .next t ∧ t.fld .blt F.BLT_CORR_COUNT (domBltIdx .inkwell) = 1 :=
  ⟨_, rfl, by decide +kernel⟩

/-- With Inkwell not UP the opcode's own command, which meets no error, leaves the state as it finds it. -/
theorem cmdEvrRead_vaultDown (args : List Nat) {u : State} (h : u.up .inkwell = false) : (cmdEvrRead [] args u).st = u := by
  simp [cmdEvrRead, h, cmdCode]

/-- Refutes O9: the statement says that a submitted row does what its opcode's command does on a state that differs from the one before
in the channel's registers alone, and an EVR_READ that meets a single-bit error counts it in BLT_CORR beside that. -/
theorem not_mailboxGatesAndReads : ¬ Obligations.MailboxGatesAndReads := by
  unfold Obligations.MailboxGatesAndReads
  intro h
  obtain ⟨-, submitted⟩ := h.1 (.evrRead 0 0 0 0 0 [] true) 0 0 0x60 _ vaultDown rfl
  obtain ⟨-, -, -, runs⟩ := submitted (by decide) rfl
  obtain ⟨t, ht, u, outside, body, does, -⟩ := runs ⟨by decide, rfl, by decide, rfl, .inl rfl⟩
  obtain ⟨t', ht', counted⟩ := correctedRead_counts
  obtain rfl : t' = t := by injection ht'.symm.trans ht
  have down : u.up .inkwell = false := (State.up_congr (s := vaultDown) (t := u) (congrArg State.dom body :) .inkwell).trans (by decide)
  have kept : t'.fld .blt F.BLT_CORR_COUNT (domBltIdx .inkwell) = 0 := by
    rw [does, State.setMbox_fld]
    exact (congrArg (State.fld · .blt F.BLT_CORR_COUNT _) (cmdEvrRead_vaultDown _ down)).trans
      ((outside.fld _ _ _ (by decide)).trans (by decide))
  exact absurd (kept.symm.trans counted) (by decide)

end Sys2Proof.Machine
end

section
/-! # O13: a counterexample, a LANE_ROLL_OUT whose merge gives a captured receive event (R132, R293) -/

namespace Sys2Proof.Machine
open Sys2Proof

/-- A copy of Lane 1 whose policy is AGREE, held for Lane 0's. -/
def heldCopy : MergeCopy := ⟨.l1, [2 ^ 16, 0, 0, 0], [], 0, ⟨0, 0, 0, 0, 0, 0, 0, 0, 0⟩⟩

/-- Everything UP and the steward running; Plane A holds a copy of Lane 1, and captures what its port 12 receives and does not forward
into a ring of 512 entries at address 0. -/
def capturing : State :=
  let s := { State.reset with dom := ⟨.up, .up, .up, .up, .up, .up⟩, com := { CommonSt.empty with steward := true } }
  let s := (s.setFld (.psw .a) F.PSW_HCAP_CTRL_EN 1).setFld (.psw .a) F.PSW_HCAP_CTRL_SIZE_LOG2 1
  let s := (s.setFld (.psw .a) F.PSW_HCAP_FILT_A_EN 1).setFld (.psw .a) F.PSW_HCAP_FILT_A_PORTS (2 ^ 12)
  let s := (s.setFld (.psw .a) F.PSW_HCAP_FILT_A_DIR 1).setFld (.psw .a) F.PSW_HCAP_FILT_B_VERDICTS 2
  s.setPlane .a { s.pa with merge := [⟨heldCopy, 0, false⟩] }

set_option maxRecDepth 40000 in
/-- Rolling Lane 0 out gives the held copy the rule for a lone copy, and its receive event is captured into lane memory. -/
theorem rollOut_capturing : ∃ t, exec (.laneRollOut 0 0 0) capturing = .next t ∧ memGet 0 t.mem0 12 ≠ 0 :=
  ⟨_, rfl, by decide +kernel⟩

/-- Refutes O13: the statement says that LANE_ROLL_OUT leaves lane memory as it was, and the header capture of a plane that the roll-out
makes discard a held copy writes an entry of its ring there. -/
theorem not_laneRolling : ¬ Obligations.LaneRolling := by
  unfold Obligations.LaneRolling
  intro h
  obtain ⟨out, -⟩ := h.1 0 0 .l0 capturing ⟨by decide, rfl, by decide, rfl, .inl rfl⟩
  obtain ⟨t, ht, -, -, -, mem0, -⟩ := out (by decide) (by decide) (by decide) (by decide)
  obtain ⟨t', ht', written⟩ := rollOut_capturing
  obtain rfl : t' = t := by injection ht'.symm.trans ht
  exact written (by rw [mem0]; rfl)

end Sys2Proof.Machine
end

section
/-! # Completion: what the end of a mailbox command stores, and the vector it raises (R58, R355) -/

namespace Sys2Proof.Machine
open Sys2Proof

/-! The manager's vectors. -/

/-- A manager's vector is pending in the lane where it is raised. -/
theorem State.vector_manager_pends (s : State) (l : Lane) (v : Nat) :
    bitsOf ((s.vector l 64 v).rd (.insPage l 64) .INS_VINT_PEND (v / 32)).toNat (v % 32) (v % 32) = 1 := by
  have e : s.vector l 64 v = (s.wr (.insPage l 64) .INS_VINT_PEND (v / 32)
      (BitVec.ofNat 32 (bitsPut (s.rd (.insPage l 64) .INS_VINT_PEND (v / 32)).toNat (v % 32) (v % 32) 1))).vintSum l 64 := rfl
  obtain ⟨r, w, hr, hw⟩ := State.vintSum_eq (s.wr (.insPage l 64) .INS_VINT_PEND (v / 32)
      (BitVec.ofNat 32 (bitsPut (s.rd (.insPage l 64) .INS_VINT_PEND (v / 32)).toNat (v % 32) (v % 32) 1))) l 64
  have below := regAddr_insPage_ne_sum l 64 .INS_VINT_PEND hr
  rw [e, hw, State.rd_wr_other, State.rd_wr_same, bitsOf_toNat_ofNat _ _ _ (Nat.mod_lt _ (by decide)), bitsOf_put_same]
  · simp
  · simp only [regAddr] at below ⊢
    omega

/-- A vector in one lane leaves the registers of the other's manager page. -/
theorem State.rd_vector_other (s : State) {l m : Lane} (h : m ≠ l) {v : Nat} (hv : v < 256) (k : Nat) (hk : k < 8) :
    (s.vector m 64 v).rd (.insPage l 64) .INS_VINT_PEND k = s.rd (.insPage l 64) .INS_VINT_PEND k := by
  have apart : ∀ k < 8, ∀ e ∈ vectorsAt l.other 64,
      regAddr (.insPage l 64) .INS_VINT_PEND k < e.1 ∨ e.1 + e.2 ≤ regAddr (.insPage l 64) .INS_VINT_PEND k := by
    cases l <;> decide
  have hm : m = l.other := by cases l <;> cases m <;> simp_all [Lane.other]
  exact (s.vector_regs m 64 hv).rd _ _ _ (hm ▸ apart k hk)

/-- A manager's vector is pending in every lane that is UP. -/
theorem State.mgrVector_pends (s : State) {v : Nat} (hv : v < 256) {l : Lane} (hl : s.laneUp l = true) :
    bitsOf ((s.mgrVector v).rd (.insPage l 64) .INS_VINT_PEND (v / 32)).toNat (v % 32) (v % 32) = 1 := by
  have mem : l ∈ s.upLanes := by
    refine List.mem_filter.mpr ⟨?_, hl⟩
    cases l <;> decide
  refine foldl_establishes (f := fun (u : State) m => u.vector m 64 v) (I := fun _ => True)
    (P := fun u : State => bitsOf (u.rd (.insPage l 64) .INS_VINT_PEND (v / 32)).toNat (v % 32) (v % 32) = 1)
    (fun _ _ _ => trivial) (fun u _ => u.vector_manager_pends l v) (fun u m _ hu => ?_) _ trivial mem
  by_cases h : m = l
  · subst h
    exact u.vector_manager_pends m v
  · rw [u.rd_vector_other h hv _ (by omega)]
    exact hu

/-! The end of a command. -/

/-- The results, TAG, CODE, DONE and BUSY that a command leaves, and its channel free (R58). -/
def State.mboxShown (s : State) (ch : Nat) (m : MbRun) : State :=
  let s := (List.range 16).foldl (fun s i => s.wr (.stw ch) .STW_RES i (BitVec.ofNat 32 (m.res.getD i 0))) s
  let s := (s.setFld (.stw ch) F.STW_STATUS_TAG m.tag).setFld (.stw ch) F.STW_STATUS_CODE m.code
  ((s.setFld (.stw ch) F.STW_STATUS_DONE 1).setFld (.stw ch) F.STW_STATUS_BUSY 0).setMbox ch none

theorem State.mboxFinish_eq {s : State} {ch : Nat} {m : MbRun} (h : s.mbox ch = some m) :
    s.mboxFinish ch = if (s.mboxShown ch m).bit (.stw ch) F.STW_INT_EN_DONE_IE then (s.mboxShown ch m).mgrVector 48
      else s.mboxShown ch m := by
  unfold State.mboxFinish
  rw [h]
  rfl

/-- A field of STW_STATUS other than the one stored. -/
theorem State.fld_status_apart (s : State) (ch : Nat) {f g : Fld} (v : Nat) (hf : f ∈ RegId.STW_STATUS.fields)
    (hg : g ∈ RegId.STW_STATUS.fields) (h : g ≠ f) : (s.setFld (.stw ch) f v).fld (.stw ch) g = s.fld (.stw ch) g := by
  have id_ : ∀ f ∈ RegId.STW_STATUS.fields, f.id = .STW_STATUS ∧ f.lo ≤ f.hi ∧ f.hi < 32 := by decide
  obtain ⟨idf, lof, -⟩ := id_ f hf
  obtain ⟨idg, -, hig⟩ := id_ g hg
  exact s.fld_setFld_apart _ _ _ _ _ (idg.trans idf.symm) lof hig (fields_apart_of_ne _ hg hf h)

/-- What the end of a channel's command shows. -/
structure MboxShown (ch : Fin 2) (m : MbRun) (s t : State) : Prop where
  free : t.mbox ch = none
  other : t.mbox (1 - ch.val) = s.mbox (1 - ch.val)
  res : ∀ i < 16, t.rd (.stw ch) .STW_RES i = BitVec.ofNat 32 (m.res.getD i 0)
  tag : t.fld (.stw ch) F.STW_STATUS_TAG = m.tag % 2 ^ 16
  code : t.fld (.stw ch) F.STW_STATUS_CODE = m.code % 2 ^ 8
  done : t.fld (.stw ch) F.STW_STATUS_DONE = 1
  busy : t.fld (.stw ch) F.STW_STATUS_BUSY = 0
  overrun : t.fld (.stw ch) F.STW_STATUS_OVERRUN = s.fld (.stw ch) F.STW_STATUS_OVERRUN
  body : { t.body with com := { t.com with mb0 := s.com.mb0, mb1 := s.com.mb1 } } = s.body

theorem State.mboxShown_step (s : State) (ch : Nat) (m : MbRun) :
    ∃ u, ChannelStep ch s u ∧ s.mboxShown ch m = u.setMbox ch none :=
  ⟨_, ((((((ChannelStep.refl ch s).foldl_wr (r := .STW_RES) (n := 16) (by decide)).setFld F.STW_STATUS_TAG _).setFld
    F.STW_STATUS_CODE _).setFld F.STW_STATUS_DONE _).setFld F.STW_STATUS_BUSY _), rfl⟩

theorem State.mboxShown_shows (s : State) (ch : Fin 2) (m : MbRun) :
    MboxShown ch m s (s.mboxShown ch m) ∧ RegsOutside [stwAt ch] s (s.mboxShown ch m) := by
  obtain ⟨u, step, e⟩ := s.mboxShown_step ch m
  have status (v : State) (f : Fld) (x : Nat) (hf : f ∈ RegId.STW_STATUS.fields) :
      (v.setFld (.stw ch) f x).fld (.stw ch) f = x % 2 ^ (f.hi + 1 - f.lo) := by
    have wide : ∀ f ∈ RegId.STW_STATUS.fields, f.hi < 32 ∧ f.lo ≤ f.hi := by decide
    exact v.fld_setFld_same _ _ _ _ (wide f hf).1 (wide f hf).2
  have apart (v : State) {f g : Fld} (x : Nat) (hf : f ∈ RegId.STW_STATUS.fields := by decide)
      (hg : g ∈ RegId.STW_STATUS.fields := by decide) (h : g ≠ f := by decide) := v.fld_status_apart ch.val x hf hg h
  have results (v : State) (f : Fld) (x i : Nat) (hf : f ∈ RegId.STW_STATUS.fields) :
      (v.setFld (.stw ch) f x).rd (.stw ch) .STW_RES i = v.rd (.stw ch) .STW_RES i := by
    have id_ : ∀ f ∈ RegId.STW_STATUS.fields, f.id = .STW_STATUS := by decide
    refine v.rd_setFld_other _ _ _ _ _ _ _ ?_
    rw [id_ f hf]
    simp [regAddr, RegId.geom]
    omega
  refine ⟨⟨by rw [e]; simp, ?_, fun i hi => ?_, ?_, ?_, ?_, ?_, ?_, ?_⟩, ?_⟩
  · rw [e, State.mbox_setMbox_other]
    exact State.mbox_congr step.com _
  · rw [State.mboxShown, State.setMbox_rd, results _ _ _ _ (by decide), results _ _ _ _ (by decide), results _ _ _ _ (by decide),
      results _ _ _ _ (by decide), State.rd_foldl_wr (by decide) _ _ hi]
  · rw [State.mboxShown, State.setMbox_fld, apart, apart, apart, status _ _ _ (by decide)]
    rfl
  · rw [State.mboxShown, State.setMbox_fld, apart, apart, status _ _ _ (by decide)]
    rfl
  · rw [State.mboxShown, State.setMbox_fld, apart, status _ _ _ (by decide)]
    rfl
  · rw [State.mboxShown, State.setMbox_fld, status _ _ _ (by decide)]
    rfl
  · rw [State.mboxShown, State.setMbox_fld, apart, apart, apart, apart]
    unfold State.fld
    rw [State.rd_foldl_wr_other _ _ (by intro i _; simp [regAddr, RegId.geom, F.STW_STATUS_OVERRUN]; omega)]
  · rw [e]
    have hb := u.body_setMbox ch none
    rw [step.com, step.body] at hb
    exact hb
  · rw [e]
    exact step.regs.same (State.setMbox_regs ..)

/-- The registers that the end of a command may store to, in one of three blocks. -/
def mboxEndAt (ch : Nat) : List (Nat × Nat) := [stwAt ch, (Page.base (.ins .l0), 0x400000), (Page.base (.ins .l1), 0x400000)]

theorem mgrVectorsAt_inside_ins (ch : Nat) : ∀ e ∈ mgrVectorsAt, ∃ f ∈ mboxEndAt ch, f.1 ≤ e.1 ∧ e.1 + e.2 ≤ f.1 + f.2 := by
  intro e he
  have : ∃ f ∈ [(Page.base (.ins .l0), 0x400000), (Page.base (.ins .l1), 0x400000)], f.1 ≤ e.1 ∧ e.1 + e.2 ≤ f.1 + f.2 := by
    revert e
    decide
  obtain ⟨f, hf, h⟩ := this
  exact ⟨f, .tail _ hf, h⟩

/-- What completing a channel's command leaves: what it shows, and with DONE_IE set manager vector 48 pending in the lanes that are UP. -/
structure MboxFinished (ch : Fin 2) (m : MbRun) (s t : State) : Prop extends MboxShown ch m s t where
  regs : RegsOutside (mboxEndAt ch) s t
  silent : s.bit (.stw ch) F.STW_INT_EN_DONE_IE = false → RegsOutside [stwAt ch] s t
  raised : s.bit (.stw ch) F.STW_INT_EN_DONE_IE = true → ∀ l, s.laneUp l = true →
    bitsOf (t.rd (.insPage l 64) .INS_VINT_PEND 1).toNat 16 16 = 1

/-- Vectors stand apart from the steward's registers. -/
theorem mgrVectorsAt_apart {a : Nat} (ha : a < planeBase .a) : ∀ e ∈ mgrVectorsAt, a < e.1 ∨ e.1 + e.2 ≤ a := by
  have above : ∀ e ∈ mgrVectorsAt, planeBase .a ≤ e.1 := by decide
  exact fun e he => .inl (ha.trans_le (above e he))

theorem State.mboxFinish_finished {s : State} {ch : Fin 2} {m : MbRun} (h : s.mbox ch = some m) :
    MboxFinished ch m s (s.mboxFinish ch) := by
  obtain ⟨shown, regs⟩ := s.mboxShown_shows ch m
  have ie : (s.mboxShown ch m).bit (.stw ch) F.STW_INT_EN_DONE_IE = s.bit (.stw ch) F.STW_INT_EN_DONE_IE := by
    unfold State.mboxShown State.bit State.fld
    simp only [State.setMbox_rd]
    rw [State.rd_setFld_other, State.rd_setFld_other, State.rd_setFld_other, State.rd_setFld_other, State.rd_foldl_wr_other]
    · intro i _
      simp [regAddr, RegId.geom, F.STW_INT_EN_DONE_IE]
      omega
    all_goals simp [regAddr, RegId.geom, F.STW_INT_EN_DONE_IE, F.STW_STATUS_BUSY, F.STW_STATUS_DONE, F.STW_STATUS_CODE, F.STW_STATUS_TAG]
  have dom : (s.mboxShown ch m).dom = s.dom := (congrArg State.dom shown.body :)
  rw [State.mboxFinish_eq h, ie]
  cases hie : s.bit (.stw ch) F.STW_INT_EN_DONE_IE with
  | false => exact ⟨shown, regs.mono (by simp [mboxEndAt]), fun _ => regs, fun h => Bool.noConfusion (hie.symm.trans h)⟩
  | true =>
    rw [if_pos rfl]
    have vec := (s.mboxShown ch m).mgrVector_regs (v := 48) (by decide)
    have body := (s.mboxShown ch m).body_mgrVector 48
    have below (r : RegId) (k : Nat) (hr : r.geom.off + k * r.geom.stride < 0x1000) : regAddr (.stw ch) r k < planeBase .a := by
      have : Page.base (.stw ch) + 0x1000 ≤ planeBase .a := by fin_cases ch <;> decide
      simp only [regAddr]
      omega
    have rd (r : RegId) (k : Nat) (hr : r.geom.off + k * r.geom.stride < 0x1000) := vec.rd _ r k (mgrVectorsAt_apart (below r k hr))
    have fld (f : Fld) (hf : f.id.geom.off < 0x1000 := by decide) :=
      vec.fld (.stw ch) f 0 (mgrVectorsAt_apart (below f.id 0 (by simpa using hf)))
    have com : ((s.mboxShown ch m).mgrVector 48).com = (s.mboxShown ch m).com := (congrArg State.com body :)
    refine ⟨⟨(State.mbox_congr com _).trans shown.free, (State.mbox_congr com _).trans shown.other, fun i hi => ?_,
      (fld _).trans shown.tag, (fld _).trans shown.code, (fld _).trans shown.done, (fld _).trans shown.busy, (fld _).trans shown.overrun,
      ?_⟩, ?_, fun h => Bool.noConfusion (hie.symm.trans h), fun _ l hl => ?_⟩
    · rw [rd _ _ (by simp [RegId.geom]; omega), shown.res i hi]
    · rw [body, com]
      exact shown.body
    · exact (regs.mono (by simp [mboxEndAt])).trans (vec.cover (mgrVectorsAt_inside_ins ch))
    · exact (s.mboxShown ch m).mgrVector_pends (v := 48) (by decide) ((State.laneUp_congr dom l).trans hl)

/-- A command that waits for nothing completes (R58); EVR_CLEAR first ends its clear. -/
theorem State.mboxEnd_ready {s : State} {ch : Nat} {m : MbRun} (hc : s.up .common = true) (hs : s.com.steward = true)
    (hm : s.mbox ch = some m) (hw : m.wait = false) (ho : m.op ≠ 0x61) : s.mboxEnd ch = s.mboxFinish ch := by
  simp [State.mboxEnd, hc, hs, hm, hw, ho]

end Sys2Proof.Machine
end

section
/-! # The loader's registers, what discarding a staged image leaves, and what a new bank descriptor leaves (R49, R51, R54) -/

namespace Sys2Proof.Machine
open Sys2Proof

/-- A field of STW_LOAD_STATUS other than the one stored. -/
theorem State.fld_loadStatus_apart (s : State) {f g : Fld} (v : Nat) (hf : f ∈ RegId.STW_LOAD_STATUS.fields)
    (hg : g ∈ RegId.STW_LOAD_STATUS.fields) (h : g ≠ f) : (s.setFld .stwLoad f v).fld .stwLoad g = s.fld .stwLoad g := by
  have wide : ∀ f ∈ RegId.STW_LOAD_STATUS.fields, f.id = .STW_LOAD_STATUS ∧ f.lo ≤ f.hi ∧ f.hi < 32 := by decide
  obtain ⟨idf, lof, -⟩ := wide f hf
  obtain ⟨idg, -, hig⟩ := wide g hg
  exact s.fld_setFld_apart _ _ _ _ _ (idg.trans idf.symm) lof hig (fields_apart_of_ne _ hg hf h)

section
variable (s : State) (st code : Nat)

theorem State.loaderState_loader : (s.loader st code).loaderState = st % 16 := by
  unfold State.loaderState State.loader
  rw [State.fld_loadStatus_apart _ _ (by decide) (by decide) (by decide)]
  exact State.fld_setFld_same _ _ _ _ 0 (by decide) (by decide)

theorem State.lastCode_loader : (s.loader st code).fld .stwLoad F.STW_LOAD_STATUS_LAST_CODE = code % 256 :=
  State.fld_setFld_same _ _ _ _ 0 (by decide) (by decide)

theorem State.stagedMask_loader :
    (s.loader st code).fld .stwLoad F.STW_LOAD_STATUS_STAGED_MASK = s.fld .stwLoad F.STW_LOAD_STATUS_STAGED_MASK := by
  unfold State.loader
  rw [State.fld_loadStatus_apart _ _ (by decide) (by decide) (by decide), State.fld_loadStatus_apart _ _ (by decide) (by decide) (by decide)]

theorem State.targets_loader : (s.loader st code).rd .stwLoad .STW_LOAD_TARGETS = s.rd .stwLoad .STW_LOAD_TARGETS := by
  unfold State.loader
  rw [State.rd_setFld_other _ _ _ _ _ _ _ _ (by decide), State.rd_setFld_other _ _ _ _ _ _ _ _ (by decide)]

@[simp] theorem State.loader_com : (s.loader st code).com = s.com := rfl
@[simp] theorem State.loader_dom : (s.loader st code).dom = s.dom := rfl
@[simp] theorem State.loader_mem0 : (s.loader st code).mem0 = s.mem0 := rfl
@[simp] theorem State.loader_mem1 : (s.loader st code).mem1 = s.mem1 := rfl

theorem State.loader_regs : RegsOutside [regAt .stwLoad .STW_LOAD_STATUS] s (s.loader st code) := by
  have inside : RegIn [regAt .stwLoad .STW_LOAD_STATUS] .stwLoad .STW_LOAD_STATUS 0 := regIn_of_mem (.head _)
  exact ((RegsOutside.refl _ s).setFld .stwLoad F.STW_LOAD_STATUS_STATE st 0 inside).setFld .stwLoad F.STW_LOAD_STATUS_LAST_CODE
    code 0 inside

end

section
variable (s : State)

/-- Discarding the staged image leaves what is beside registers, shadow banks and the staging. -/
theorem State.stageDrop_com : s.stageDrop.com = { s.com with staged := none, fetch := none, stageWait := none, built := [] } :=
  (congrArg State.com s.stageDrop_core :)

theorem State.stageDrop_dom : s.stageDrop.dom = s.dom := (congrArg State.dom s.stageDrop_core :)
theorem State.stageDrop_mem0 : s.stageDrop.mem0 = s.mem0 := (congrArg State.mem0 s.stageDrop_core :)
theorem State.stageDrop_mem1 : s.stageDrop.mem1 = s.mem1 := (congrArg State.mem1 s.stageDrop_core :)
theorem State.stageDrop_flash0 : s.stageDrop.flash0 = s.flash0 := (congrArg State.flash0 s.stageDrop_core :)
theorem State.stageDrop_flash1 : s.stageDrop.flash1 = s.flash1 := (congrArg State.flash1 s.stageDrop_core :)
theorem State.stageDrop_ink : s.stageDrop.ink = s.ink := (congrArg State.ink s.stageDrop_core :)

end

/-- With the staged image gone no region is staged and no target is done. -/
theorem State.stageDrop_shows (s : State) :
    s.stageDrop.fld .stwLoad F.STW_LOAD_STATUS_STAGED_MASK = 0 ∧ s.stageDrop.rd .stwLoad .STW_LOAD_TARGETS = 0 := by
  unfold State.stageDrop
  extract_lets u c v
  refine ⟨?_, State.rd_wr_same ..⟩
  unfold State.fld
  rw [State.rd_wr_other _ _ _ _ _ _ _ _ (by decide)]
  exact State.fld_setFld_same v .stwLoad F.STW_LOAD_STATUS_STAGED_MASK 0 0 (by decide) (by decide)

/-! The bank descriptor. -/

/-- The state without its registers and its flash: what the bank descriptor's writes leave. -/
def State.unflashed (s : State) : State := { s with regs := [], flash0 := [], flash1 := [] }

theorem State.unflashed_descWrite (s : State) (d : List Byte) : (s.descWrite d).unflashed = s.unflashed := by
  unfold State.descWrite
  extract_lets copy d1 d2 u
  have wrote (u : State) (a : Nat) (b : List Byte) : (u.flashW a b).showBank.unflashed = u.unflashed := rfl
  exact wrote u _ _

theorem State.unflashed_bankChanged (s : State) (w b held : Nat) : (s.bankChanged w b held).unflashed =
    { s.unflashed with com := { s.com with verified := s.com.verified.filter (fun e => decide (e ≠ (w, b))) } } :=
  State.unflashed_descWrite _ _

end Sys2Proof.Machine
end

section
/-! # O10: how commands end, are cancelled and are refused (R58, R59, R62) -/

namespace Sys2Proof.Machine
open Sys2Proof

/-! Rows. -/

theorem addrArgs_lt (a : BitVec 64) : ∀ x ∈ addrArgs a, x < 2 ^ 32 := by
  have := a.isLt
  simp only [addrArgs, List.mem_cons, List.not_mem_nil, or_false]
  omega

/-- A row of the mailbox submits an opcode of eight bits with words of 32. -/
theorem mboxRow_submits {c : Instr} {ch : Fin 2} {tag : BitVec 16} {op : Nat} {args : List Nat} (h : mboxRow c = some (ch, tag, op, args)) :
    op < 256 ∧ (∀ a ∈ args, a < 2 ^ 32) ∧ ∃ f, ∀ s, exec c s = ok (mboxIssue ch op tag args f s) := by
  have word (w : Word) : w.toNat < 4294967296 := w.isLt
  have addr (a : BitVec 64) : (∀ x ∈ addrArgs a, x < 4294967296) ↔ True := iff_true_intro (addrArgs_lt a)
  unfold mboxRow at h
  split at h
  case h_35 => cases h
  all_goals
    cases h
    refine ⟨by decide, ?_, _, fun _ => rfl⟩
    simp [or_imp, forall_and, addr, word]

/-! Commands that a channel admits. -/

section
variable {ch : Fin 2} {op : Nat} {tag : BitVec 16} {args : List Nat} {f : List Nat → State → CmdOut} {s : State}

/-- A submission that is admitted is answered by what its command makes of a state with new words in the channel's registers alone. -/
theorem mboxIssue_answers {P : State → Prop} (h : MboxReady s ch op) (hop : op < 256) (hargs : ∀ a ∈ args, a < 2 ^ 32)
    (hP : ∀ u, ChannelStep ch s u → u.fld (.stw ch) F.STW_STATUS_BUSY = 1 →
      P ((f (mboxArgs args) u).st.setMbox ch
        (some ⟨op, tag.toNat, mboxArgs args, (f (mboxArgs args) u).code, (f (mboxArgs args) u).res, (f (mboxArgs args) u).wait⟩))) :
    Answers (ok (mboxIssue ch op tag args f s)) P :=
  ⟨_, rfl, (mboxIssue_ready h hop hargs).symm ▸ hP _ (s.mboxTaken_step ch op tag args) (s.mboxTaken_busy ch op tag args)⟩

/-- The channel holds what its command ended with. -/
theorem mboxRuns_setMbox {u : State} {code : Nat} {res : List Nat} {wait : Bool} (h : u.fld (.stw ch) F.STW_STATUS_BUSY = 1) :
    MboxRuns (u.setMbox ch (some ⟨op, tag.toNat, mboxArgs args, code, res, wait⟩)) ch op tag args code res wait :=
  ⟨State.mbox_setMbox_same .., (State.setMbox_fld ..).trans h⟩

theorem ChannelStep.mboxOnly {u : State} (h : ChannelStep ch s u) (m : Option MbRun) : MboxOnly ch s (u.setMbox ch m) := by
  refine ⟨h.regs.same (State.setMbox_regs ..), ?_, (State.mbox_setMbox_other ..).trans (State.mbox_congr h.com _)⟩
  have hb := u.body_setMbox ch m
  rw [h.com, h.body] at hb
  exact hb

/-- A command that leaves the state it finds ends with its status and results, and nothing but the channel changes. -/
theorem mboxIssue_leaves {code : Nat} {res : List Nat} (h : MboxReady s ch op) (hop : op < 256) (hargs : ∀ a ∈ args, a < 2 ^ 32)
    (hf : ∀ u, ChannelStep ch s u → f (mboxArgs args) u = ⟨u, code, res, false⟩) :
    Answers (ok (mboxIssue ch op tag args f s)) fun t => MboxRuns t ch op tag args code res false ∧ MboxOnly ch s t := by
  refine mboxIssue_answers h hop hargs fun u step busy => ?_
  rw [hf u step]
  exact ⟨mboxRuns_setMbox busy, step.mboxOnly _⟩

end

/-- An opcode that no chapter defines has no command (R62). -/
theorem mboxCmd_undefined {ch op : Nat} (h : op ∉ definedOps) : mboxCmd ch op = cmdBad := by
  unfold mboxCmd
  split
  case h_35 => rfl
  all_goals exact absurd (by decide) h


end Sys2Proof.Machine
end

section
/-! # CANCEL, and O10 (R59) -/

namespace Sys2Proof.Machine
open Sys2Proof
/-! CANCEL. -/

/-- What a cancelled command leaves beside flash, registers and shadow banks (R59). -/
structure Cancelled (m : MbRun) (s t : State) : Prop where
  mem0 : t.mem0 = s.mem0
  mem1 : t.mem1 = s.mem1
  dom : t.dom = s.dom
  mb0 : t.com.mb0 = s.com.mb0
  mb1 : t.com.mb1 = s.com.mb1
  converge : m.op = 0x23 → t.com.converge = none ∧ t.regs = s.regs
  loader : m.op = 0x20 → t.com.staged = none ∧ t.fld .stwLoad F.STW_LOAD_STATUS_STATE = 5 ∧
    t.fld .stwLoad F.STW_LOAD_STATUS_LAST_CODE = 0x0F

theorem State.cancelEffect_cancelled (s : State) (m : MbRun) : Cancelled m s (s.cancelEffect m) := by
  have bank {op w b : Nat} (h : m.op = op) (h1 : op ≠ 0x23) (h2 : op ≠ 0x20) : Cancelled m s (s.bankChanged w b 0) := by
    have left := s.unflashed_bankChanged w b 0
    exact ⟨(congrArg State.mem0 left :), (congrArg State.mem1 left :), (congrArg State.dom left :),
      (congrArg (fun u : State => u.com.mb0) left :), (congrArg (fun u : State => u.com.mb1) left :),
      fun h' => absurd (h.symm.trans h') h1, fun h' => absurd (h.symm.trans h') h2⟩
  unfold State.cancelEffect
  extract_lets w b
  split
  next h =>
    have com : (s.stageDrop.loader 5 stCANCELLED).com = s.stageDrop.com := State.loader_com ..
    exact ⟨(State.loader_mem0 ..).trans s.stageDrop_mem0, (State.loader_mem1 ..).trans s.stageDrop_mem1,
      (State.loader_dom ..).trans s.stageDrop_dom, by rw [com, s.stageDrop_com], by rw [com, s.stageDrop_com],
      fun h' => absurd (h.symm.trans h') (by decide),
      fun _ => ⟨by rw [com, s.stageDrop_com], (State.loaderState_loader ..).trans (by decide), (State.lastCode_loader ..).trans (by decide)⟩⟩
  next h => exact bank h (by decide) (by decide)
  next h => exact bank h (by decide) (by decide)
  next h => exact ⟨rfl, rfl, rfl, rfl, rfl, fun h' => absurd (h.symm.trans h') (by decide), fun h' => absurd (h.symm.trans h') (by decide)⟩
  next h => exact ⟨rfl, rfl, rfl, rfl, rfl, fun _ => ⟨rfl, rfl⟩, fun h' => absurd (h.symm.trans h') (by decide)⟩
  next h1 h2 h3 h4 h5 => exact ⟨rfl, rfl, rfl, rfl, rfl, fun h => absurd h h5, fun h => absurd h h1⟩

/-- CANCEL of an idle channel, or of a command that it does not name, does nothing (R59). -/
theorem State.mboxCancel_idle {s : State} {ch : Nat} {m : MbRun} (h : s.mbox ch = none ∨ (s.mbox ch = some m ∧ m.op ∉ cancelOps)) :
    s.mboxCancel ch = s := by
  unfold State.mboxCancel
  obtain h | ⟨h, hop⟩ := h
  · simp [h]
  · simp [h, hop]

theorem State.mboxCancel_running {s : State} {ch : Nat} {m : MbRun} (hc : s.up .common = true) (hs : s.com.steward = true)
    (hm : s.mbox ch = some m) (hop : m.op ∈ cancelOps) (hcode : m.code = 0) :
    s.mboxCancel ch = (s.cancelEffect m).setMbox ch (some { m with code := 0x0F, res := [], wait := false }) := by
  simp [State.mboxCancel, hc, hs, hm, hop, hcode, stOK, stCANCELLED]

/-- Settles O10: completion shows what the channel holds, CANCEL ends the commands that R59 names, and an undefined opcode has the
command that answers BADCMD. -/
theorem mailboxEnds : Obligations.MailboxEnds := by
  unfold Obligations.MailboxEnds
  refine ⟨⟨fun ch m s hc hs hm hw ho htag hcode => ?_, fun c ch tag op args s hrow hc hs => ?_⟩, fun ch tag op m s => ⟨fun h => ?_,
    fun hc hs hm hop hcode => ?_, fun h hop => ?_⟩⟩
  · have fin_ := State.mboxFinish_finished hm
    refine ⟨_, rfl, ?_⟩
    rw [State.mboxEnd_ready hc hs hm hw ho]
    exact ⟨fin_.free, fin_.res, fin_.tag.trans (Nat.mod_eq_of_lt htag), fin_.code.trans (Nat.mod_eq_of_lt hcode), fin_.done, fin_.busy,
      fin_.overrun, fin_.silent, fin_.raised, fin_.regs, fin_.body, fin_.other⟩
  · obtain ⟨hop, hargs, f, hexec⟩ := mboxRow_submits hrow
    rw [hexec]
    refine ⟨fun hb => ?_, fun hr => mboxIssue_answers hr hop hargs fun u _ _ => ⟨_, _, _, State.mbox_setMbox_same ..⟩⟩
    refine ⟨_, rfl, ?_⟩
    rw [mboxIssue_busy hc hs hb]
    have step := (s.mboxWritten_step ch op tag args).setFld F.STW_STATUS_OVERRUN 1
    rw [State.setBit]
    exact ⟨State.mbox_congr step.com _,
      (State.fld_setFld_same _ _ _ _ 0 (by decide) (by decide)).trans (by decide)⟩
  · exact congrArg Host.Outcome.next (State.mboxCancel_idle h)
  · have left := s.cancelEffect_cancelled m
    refine ⟨_, rfl, ?_⟩
    rw [State.mboxCancel_running hc hs hm hop hcode]
    refine ⟨State.mbox_setMbox_same .., (State.mbox_setMbox_other ..).trans ?_, (State.setMbox_mem0 ..).trans left.mem0,
      (State.setMbox_mem1 ..).trans left.mem1, (State.setMbox_dom ..).trans left.dom, fun h => ?_, fun h => ?_⟩
    · simp only [State.mbox, left.mb0, left.mb1]
    · obtain ⟨hconv, hregs⟩ := left.converge h
      exact ⟨(State.setMbox_converge ..).trans hconv, (State.setMbox_regs ..).trans hregs⟩
    · obtain ⟨hstaged, hstate, hlast⟩ := left.loader h
      exact ⟨(State.setMbox_staged ..).trans hstaged, (State.setMbox_fld ..).trans hstate, (State.setMbox_fld ..).trans hlast⟩
  · exact mboxIssue_leaves h op.isLt (by simp) fun u _ => by rw [mboxCmd_undefined hop]; rfl

end Sys2Proof.Machine
end

section
/-! # The flash devices: what reads, writes and erasures of a range leave (R50) -/

namespace Sys2Proof.Machine
open Sys2Proof

/-! Erased ranges of a memory. -/

/-- The entry at a key of a list of which only some keys are kept. -/
theorem assocGet_filter {β : Type} (p : Nat → Bool) (t : List (Nat × β)) (a : Nat) (h : assocSorted t = true) :
    assocGet (t.filter fun e => p e.1) a = if p a then assocGet t a else none := by
  induction t with
  | nil => simp [assocGet]
  | cons e t ih =>
    obtain ⟨k, v⟩ := e
    obtain ⟨above, sorted⟩ := (assocSorted_cons k v t).1 h
    rw [List.filter_cons]
    by_cases hk : a = k
    · subst hk
      cases hp : p a
      · simpa [hp] using ih sorted
      · simp [assocGet]
    · cases hp : p k
      · simp only [Bool.false_eq_true, if_false, ih sorted, assocGet, hk]
        by_cases hlt : a < k
        · rw [if_pos hlt, assocGet_none t a fun e he => hlt.trans (above e he)]
        · rw [if_neg hlt]
      · simp only [if_true, assocGet, hk, if_false, ih sorted]
        by_cases hlt : a < k
        · simp [hlt]
        · simp [hlt]

/-- A memory with a range erased. -/
def memErase (m : Mem) (a n : Nat) : Mem := m.filter (fun c => !decide (a ≤ c.1 ∧ c.1 < a + n))

theorem memErase_wf {d : Byte} {m : Mem} (h : memWf d m = true) (a n : Nat) : memWf d (memErase m a n) = true :=
  memWf_filter d m _ h

theorem memGet_erase {d : Byte} {m : Mem} (h : memWf d m = true) (a n c : Nat) :
    memGet d (memErase m a n) c = if a ≤ c ∧ c < a + n then d else memGet d m c := by
  have e := assocGet_filter (fun k => !decide (a ≤ k ∧ k < a + n)) m c (memWf_sorted d m h)
  unfold memGet assocGetD memErase
  rw [e]
  by_cases hc : a ≤ c ∧ c < a + n <;> simp [hc]

/-! One device. -/

/-- A device whose range is erased: it is out of reach, meets an error, or takes the erasure. -/
def devWipe (off e : Bool) (k a n : Nat) (m : Mem) : Mem :=
  if off then m else if e then memWrite 0xFF (memErase m a n) a (garbled k n) else memErase m a n

/-- A device to which octets are written. -/
def devPut (off e : Bool) (k a : Nat) (b : List Byte) (m : Mem) : Mem :=
  if off then m else memWrite 0xFF m a (if e then garbled k b.length else b)

@[simp] theorem garbled_length (k n : Nat) : (garbled k n).length = n := by simp [garbled]

section
variable {m : Mem} (h : memWf 0xFF m = true) (off e : Bool) (k a : Nat)
include h

theorem devWipe_wf (n : Nat) : memWf 0xFF (devWipe off e k a n m) = true := by
  unfold devWipe
  split
  · exact h
  · split
    · exact memWf_write _ _ _ _ (memErase_wf h a n)
    · exact memErase_wf h a n

theorem devPut_wf (b : List Byte) : memWf 0xFF (devPut off e k a b m) = true := by
  unfold devPut
  split
  · exact h
  · exact memWf_write _ _ _ _ h

/-- An erasure leaves what is outside its range. -/
theorem memGet_devWipe_other {n c : Nat} (hc : c < a ∨ a + n ≤ c) : memGet 0xFF (devWipe off e k a n m) c = memGet 0xFF m c := by
  unfold devWipe
  split
  · rfl
  · split
    · rw [memGet_write_other _ _ _ _ _ (memErase_wf h a n) (by rwa [garbled_length]), memGet_erase h, if_neg (by omega)]
    · rw [memGet_erase h, if_neg (by omega)]

/-- A write leaves what is outside its range. -/
theorem memGet_devPut_other {b : List Byte} {c : Nat} (hc : c < a ∨ a + b.length ≤ c) :
    memGet 0xFF (devPut off e k a b m) c = memGet 0xFF m c := by
  unfold devPut
  split
  · rfl
  · rw [memGet_write_other _ _ _ _ _ h]
    split
    · rwa [garbled_length]
    · exact hc

/-- A device in reach that meets no error takes the erasure, and so it does a write. -/
theorem memGet_devWipe_erased {n c : Nat} (hc : a ≤ c ∧ c < a + n) : memGet 0xFF (devWipe false false k a n m) c = 0xFF := by
  simp only [devWipe, Bool.false_eq_true, if_false]
  rw [memGet_erase h, if_pos hc]

theorem memRead_devPut (b : List Byte) : memRead 0xFF (devPut false false k a b m) a b.length = b := by
  simp only [devPut, Bool.false_eq_true, if_false]
  exact memRead_write _ _ _ _ h

end

/-! Both devices. -/

/-- Does the next access of a device meet an error, and the one after it? -/
def State.err0 (s : State) : Bool := Config.flashError s.freeCtr
def State.err1 (s : State) : Bool := Config.flashError (s.freeCtr + 1)

section
variable {ch : Nat} {s t : State} (h : ChannelStep ch s t)
include h

theorem ChannelStep.freeCtr : t.freeCtr = s.freeCtr := (congrArg State.freeCtr h.body :)
theorem ChannelStep.flashOff : t.flashOff = s.flashOff := by rw [State.flashOff, State.flashOff, h.com]
theorem ChannelStep.err0 : t.err0 = s.err0 := by rw [State.err0, State.err0, h.freeCtr]
theorem ChannelStep.err1 : t.err1 = s.err1 := by rw [State.err1, State.err1, h.freeCtr]

end

/-- The status of an access of both devices. -/
def State.flashTook (s : State) : Bool := !(s.flashOff || (s.err0 && s.err1))

/-- The state whose devices took, or failed to take, the erasure of a range. -/
def State.flashWiped (s : State) (a n : Nat) : State :=
  { s with
    freeCtr := s.freeCtr + 2
    flash0 := devWipe s.flashOff s.err0 s.freeCtr a n s.flash0
    flash1 := devWipe s.flashOff s.err1 (s.freeCtr + 1) a n s.flash1 }

/-- The state whose devices took, or failed to take, octets. -/
def State.flashStored (s : State) (a : Nat) (b : List Byte) : State :=
  { s with
    freeCtr := s.freeCtr + 2
    flash0 := devPut s.flashOff s.err0 s.freeCtr a b s.flash0
    flash1 := devPut s.flashOff s.err1 (s.freeCtr + 1) a b s.flash1 }

theorem State.flashWipe_eq (s : State) (a n : Nat) : s.flashWipe a n = (s.flashTook, s.flashWiped a n) := by
  have off : State.flashOff { s with freeCtr := s.freeCtr + 1 + 1 } = s.flashOff := rfl
  unfold State.flashWipe State.fresh State.flashErase State.flashWiped devWipe State.flashTook State.err0 State.err1
  simp only [off]
  cases h : s.flashOff
  · rfl
  · rfl

theorem State.flashPut_eq (s : State) (a : Nat) (b : List Byte) : s.flashPut a b = (s.flashTook, s.flashStored a b) := by
  have off : State.flashOff { s with freeCtr := s.freeCtr + 1 + 1 } = s.flashOff := rfl
  unfold State.flashPut State.fresh State.flashStored devPut State.flashTook State.err0 State.err1
  simp only [off]
  cases h : s.flashOff
  · rfl
  · rfl

/-! Reads, whose errors are counted. -/

/-- Steps that take free values and count uncorrectable errors in Common. -/
structure FlashSeen (s t : State) : Prop where
  regs : RegsOutside [regAt .blt .BLT_UNC, evrAt] s t
  quiet : { t.quiet with freeCtr := s.freeCtr } = s.quiet

namespace FlashSeen
variable {s t u : State}

theorem refl (s : State) : FlashSeen s s := ⟨.refl _ s, rfl⟩

theorem trans (h : FlashSeen s t) (g : FlashSeen t u) : FlashSeen s u := by
  refine ⟨h.regs.trans g.regs, ?_⟩
  have hg := congrArg (fun x : State => { x with freeCtr := s.freeCtr }) g.quiet
  exact hg.trans h.quiet

theorem fresh (h : FlashSeen s t) : FlashSeen s t.fresh.2 := h.trans ⟨.of_eq rfl, rfl⟩

theorem countUnc (h : FlashSeen s t) : FlashSeen s (t.countUnc .common) := by
  refine h.trans ⟨RegsOutside.evCount (by simp) _ _ _ _ _ _ ?_, ?_⟩
  · exact (RegsOutside.refl _ t).bump .blt F.BLT_UNC_COUNT 0 1 (regIn_of_mem (.head _))
  · have hq : (t.countUnc .common).quiet = t.quiet := bumpEv_quiet ..
    exact congrArg (fun x : State => { x with freeCtr := t.freeCtr }) hq

theorem flashRd (h : FlashSeen s t) (d a n : Nat) : FlashSeen s (t.flashRd d a n).2 := h.fresh

variable (h : FlashSeen s t)
include h

theorem mem0 : t.mem0 = s.mem0 := (congrArg State.mem0 h.quiet :)
theorem mem1 : t.mem1 = s.mem1 := (congrArg State.mem1 h.quiet :)
theorem bg0 : t.bg0 = s.bg0 := (congrArg State.bg0 h.quiet :)
theorem bg1 : t.bg1 = s.bg1 := (congrArg State.bg1 h.quiet :)
theorem flash0 : t.flash0 = s.flash0 := (congrArg State.flash0 h.quiet :)
theorem flash1 : t.flash1 = s.flash1 := (congrArg State.flash1 h.quiet :)
theorem dom : t.dom = s.dom := (congrArg State.dom h.quiet :)
theorem com : t.com = s.com := (congrArg State.com h.quiet :)

theorem flash (d a n : Nat) : t.flash d a n = s.flash d a n := by
  unfold State.flash
  rw [h.flash0, h.flash1]

/-- A field of another register than BLT_UNC of Common and the recorder's. -/
theorem fld (p : Page) (f : Fld) (k : Nat)
    (ha : ∀ e ∈ [regAt .blt .BLT_UNC, evrAt], regAddr p f.id k < e.1 ∨ e.1 + e.2 ≤ regAddr p f.id k) : t.fld p f k = s.fld p f k :=
  h.regs.fld p f k ha

end FlashSeen

/-- A device that answers gives the octets it holds. -/
theorem State.flashRd_some {s t : State} {d a n : Nat} {b : List Byte} (h : s.flashRd d a n = (some b, t)) : b = s.flash d a n := by
  have h1 : (if Config.flashError s.freeCtr || s.flashOff then none else some (s.flash d a n)) = some b := congrArg Prod.fst h
  split at h1
  · cases h1
  · exact (Option.some.inj h1).symm

theorem State.flashRd_seen {s t : State} {d a n : Nat} {r : Option (List Byte)} (h : s.flashRd d a n = (r, t)) : FlashSeen s t := by
  have e : (s.flashRd d a n).2 = t := by rw [h]
  exact e ▸ (FlashSeen.refl s).flashRd d a n

/-- A range that is read holds what one of the devices holds, and beside that only errors are counted (R50). -/
theorem State.flashRead_seen (s : State) (a n : Nat) (good : List Byte → Bool) :
    FlashSeen s (s.flashRead a n good).2 ∧ ∀ b, (s.flashRead a n good).1 = some b → ∃ k < 2, b = s.flash k a n := by
  unfold State.flashRead
  rcases h0 : s.flashRd 0 a n with ⟨_ | b, t⟩
  · have seen0 := (State.flashRd_seen h0).countUnc
    rcases h1 : (t.countUnc .common).flashRd 1 a n with ⟨_ | c, u⟩
    · have seen1 := seen0.trans (State.flashRd_seen h1)
      simp only [h1]
      exact ⟨seen1.countUnc, nofun⟩
    · have seen1 := seen0.trans (State.flashRd_seen h1)
      simp only [h1]
      refine ⟨seen1, fun b hb => ⟨1, by decide, ?_⟩⟩
      rw [← Option.some.inj hb, State.flashRd_some h1, seen0.flash]
  · have seen := State.flashRd_seen h0
    have held : ∃ k < 2, b = s.flash k a n := ⟨0, by decide, State.flashRd_some h0⟩
    simp only
    split
    · exact ⟨seen, fun c hc => Option.some.inj hc ▸ held⟩
    · rcases h1 : (t.countUnc .common).flashRd 1 a n with ⟨_ | c, u⟩
      · have seen1 := seen.countUnc.trans (State.flashRd_seen h1)
        exact ⟨seen1.countUnc, fun c hc => Option.some.inj hc ▸ held⟩
      · have seen1 := seen.countUnc.trans (State.flashRd_seen h1)
        refine ⟨seen1, fun d hd => ⟨1, by decide, ?_⟩⟩
        rw [← Option.some.inj hd, State.flashRd_some h1, seen.countUnc.flash]

end Sys2Proof.Machine
end

section
/-! # O57: reading and clearing the dump with the lowest SEQ (R61, R441, R442) -/

namespace Sys2Proof.Machine
open Sys2Proof

theorem ChannelStep.upLanes {ch : Nat} {s t : State} (h : ChannelStep ch s t) : t.upLanes = s.upLanes :=
  List.filter_congr fun l _ => State.laneUp_congr h.dom l

/-- The dumps in flash are what the devices hold. -/
theorem State.firstDump_congr {s t : State} (h0 : t.flash0 = s.flash0) (h1 : t.flash1 = s.flash1) : t.firstDump = s.firstDump := by
  have same (d a n : Nat) : t.flash d a n = s.flash d a n := by simp only [State.flash, h0, h1]
  have head (d n : Nat) : t.dumpHead d n = s.dumpHead d n := by simp only [State.dumpHead, same]
  have slot (n : Nat) : t.slotHead n = s.slotHead n := by simp only [State.slotHead, head]
  simp only [State.firstDump, State.dumps, slot]

/-- The address that two argument words name. -/
theorem argAddr_addrArgs (a : BitVec 64) (xs : List Nat) : argAddr (mboxArgs (addrArgs a ++ xs)) 0 = a.toNat := by
  show a.toNat % 2 ^ 32 + 2 ^ 32 * (a.toNat / 2 ^ 32) = a.toNat
  omega

@[simp] theorem State.flash_length (s : State) (d a n : Nat) : (s.flash d a n).length = n := by
  unfold State.flash
  split <;> exact memRead_length ..

/-! Octets written to the lanes that are UP. -/

section
variable {s : State} (hw : ∀ l, memWf 0 (s.laneMem l) = true) (hd : ∀ l, s.bit (.ins l) F.INS_DIRTY_CTL_EN = false)
  (a : Nat) (b : List Byte)
include hd

/-- With page logging off the write stores no register. -/
theorem State.writeLanes_regs : (s.writeLanes a b).regs = s.regs := by
  refine foldl_keeps (I := fun u : State => u.regs = s.regs) (fun u l hu => ?_) _ rfl
  rw [State.memWLog_of_off ((State.bit_congr (State.fld_congr hu ..)).trans (hd l)), State.regs_memW, hu]

include hw

/-- Every lane that is UP holds the octets. -/
theorem State.writeLanes_mem {l : Lane} (hl : s.laneUp l = true) : (s.writeLanes a b).mem l a b.length = b := by
  have off {u : State} (hu : u.regs = s.regs) (k : Lane) : u.memWLog k 3 a b = u.memW k a b :=
    State.memWLog_of_off ((State.bit_congr (State.fld_congr hu ..)).trans (hd k)) 3 a b
  refine foldl_establishes (I := fun u : State => u.regs = s.regs ∧ ∀ k, memWf 0 (u.laneMem k) = true)
    (P := fun u : State => u.mem l a b.length = b)
    (fun u k ⟨hr, hm⟩ => ?_) (fun u ⟨hr, hm⟩ => ?_) (fun u k ⟨hr, hm⟩ hp => ?_) _ ⟨rfl, hw⟩ (State.mem_upLanes hl)
  · rw [off hr]
    refine ⟨(State.regs_memW ..).trans hr, fun j => ?_⟩
    by_cases hj : j = k
    · exact hj ▸ State.memWf_memW (hm k) a b
    · exact (State.laneMem_memW_other _ hj a b).symm ▸ hm j
  · rw [off hr, State.mem_memW_same (hm l)]
  · rw [off hr]
    by_cases hj : l = k
    · rw [← hj, State.mem_memW_same (hm l)]
    · rw [State.mem_memW_other (hm k) _ _ _ _ _ (.inl hj), hp]

end

/-! BLT_STATUS. -/

theorem State.bltShow_regs (s : State) : RegsOutside [regAt .blt .BLT_STATUS] s s.bltShow := by
  have inside : RegIn [regAt .blt .BLT_STATUS] .blt .BLT_STATUS 0 := regIn_of_mem (.head _)
  unfold State.bltShow
  extract_lets pg old u v run w x
  have hx : RegsOutside [regAt .blt .BLT_STATUS] s x :=
    ((((RegsOutside.refl _ s).setFld _ F.BLT_STATUS_HELD _ 0 inside).setFld _ F.BLT_STATUS_SLOTS _ 0 inside).setFld _
      F.BLT_STATUS_WRITING _ 0 inside).setFld _ F.BLT_STATUS_CAPTURING _ 0 inside
  exact iteInduction (motive := RegsOutside [regAt .blt .BLT_STATUS] s) (fun _ => hx)
    fun _ => hx.setBit _ F.BLT_STATUS_CHANGE 0 inside

/-- The steps that end DUMP_CLEAR: BLT_STATUS and perhaps an event. -/
structure DumpShown (s t : State) : Prop where
  regs : RegsOutside [regAt .blt .BLT_STATUS, evrAt] s t
  quiet : t.quiet = s.quiet

theorem State.bltShow_shown (s : State) : DumpShown s s.bltShow :=
  ⟨s.bltShow_regs.mono (by simp), State.quiet_of_body s.bltShow_shows.2.2⟩

theorem DumpShown.bltEvent {s t : State} (h : DumpShown s t) (hc : t.up .common = true) (c u v : Nat) :
    DumpShown s (t.bltEvent c u v) := by
  rw [State.bltEvent, if_pos hc]
  exact ⟨h.regs.event (by simp) _ _ _ _, (event_quiet ..).trans h.quiet⟩

/-- Progress leaves BUSY as it is. -/
theorem State.busy_progress (s : State) (ch : Fin 2) (n : Nat) :
    (s.progress ch n).fld (.stw ch) F.STW_STATUS_BUSY = s.fld (.stw ch) F.STW_STATUS_BUSY := by
  unfold State.fld State.progress
  rw [State.rd_wr_other _ _ _ _ _ _ _ _ (by fin_cases ch <;> decide)]

/-! DUMP_READ by its cases. -/

/-- How DUMP_READ ends once its slot has been read. -/
def dumpCopied (ch addr len : Nat) (r : Option (List Byte) × State) : CmdOut :=
  match r with
  | (none, s) => cmdCode s stFLASH
  | (some b, s) => cmdOk ((s.writeLanes addr b).progress ch len) [len]

section
variable {ch n q len : Nat} {a : List Nat} {u : State}

theorem cmdDumpRead_noLane (hl : u.upLanes = []) : cmdDumpRead ch a u = cmdCode u stNOLANE := by
  rcases hf : u.firstDump with _ | ⟨n, q, len⟩ <;> simp [cmdDumpRead, hf, hl]

theorem cmdDumpRead_none (hl : u.upLanes ≠ []) (hf : u.firstDump = none) : cmdDumpRead ch a u = cmdOk u [0] := by
  simp [cmdDumpRead, hf, hl]

theorem cmdDumpRead_small (hl : u.upLanes ≠ []) (hf : u.firstDump = some (n, q, len)) (h : a.getD 2 0 < len) :
    cmdDumpRead ch a u = ⟨u, stBADARG, [len], false⟩ := by
  simp only [cmdDumpRead, hf, h, true_or, if_true]
  simp [hl]

theorem cmdDumpRead_some (hl : u.upLanes ≠ []) (hf : u.firstDump = some (n, q, len)) (h : len ≤ a.getD 2 0)
    (hin : inLaneMem (argAddr a 0) len = true) : cmdDumpRead ch a u =
      dumpCopied ch (argAddr a 0) len (u.flashRead (bltSlot n) len fun b => dumpHeadOk b) := by
  have fits : ¬(a.getD 2 0 < len ∨ !inLaneMem (argAddr a 0) len) := by
    rw [hin]
    simpa using h
  have up : ¬(u.upLanes.isEmpty = true) := by simpa using hl
  simp only [cmdDumpRead, hf, if_neg up, if_neg fits]
  rfl

end

section
variable {ch : Fin 2} {tag : BitVec 16} {addr : BitVec 64} {m : Word} {s : State}

/-- What a submitted DUMP_READ makes of the state it finds. -/
theorem cmdDumpRead_reads {u : State} (step : ChannelStep ch s u) (hw : MemsWf s) (hm : addr.toNat + m.toNat ≤ 0x400000000)
    (hl : s.upLanes ≠ []) (hd : ∀ l, s.bit (.ins l) F.INS_DIRTY_CTL_EN = false) {n q len : Nat} (hf : s.firstDump = some (n, q, len))
    (hlen : len ≤ m.toNat) :
    let r := cmdDumpRead ch (mboxArgs (addrArgs addr ++ [m.toNat])) u
    r.wait = false ∧ r.st.fld (.stw ch) F.STW_STATUS_BUSY = u.fld (.stw ch) F.STW_STATUS_BUSY ∧
      ((r.code = 0 ∧ r.res = [len] ∧
          ∃ k < 2, ∀ l, s.laneUp l = true → r.st.mem l addr.toNat len = s.flash k (0x3E000000 + n * 0x800000) len) ∨
        (r.code = 0x0B ∧ r.res = [] ∧ r.st.mem0 = s.mem0 ∧ r.st.mem1 = s.mem1)) := by
  have up : u.upLanes ≠ [] := step.upLanes.symm ▸ hl
  have fits : inLaneMem addr.toNat len = true := decide_eq_true (Nat.le_trans (Nat.add_le_add_left hlen _) hm)
  obtain ⟨seen, held⟩ := u.flashRead_seen (bltSlot n) len fun b => dumpHeadOk b
  have eq := cmdDumpRead_some (ch := ch) (a := mboxArgs (addrArgs addr ++ [m.toNat])) up
    ((State.firstDump_congr step.flash0 step.flash1).trans hf) hlen (by rwa [argAddr_addrArgs])
  rw [argAddr_addrArgs] at eq
  intro r
  rw [show r = _ from eq]
  have busy {v : State} (hv : FlashSeen u v) : v.fld (.stw ch) F.STW_STATUS_BUSY = u.fld (.stw ch) F.STW_STATUS_BUSY :=
    hv.fld _ _ _ (by fin_cases ch <;> decide)
  rcases hread : u.flashRead (bltSlot n) len fun b => dumpHeadOk b with ⟨_ | b, v⟩
  · rw [hread] at seen
    exact ⟨rfl, busy seen, .inr ⟨rfl, rfl, seen.mem0.trans step.mem0, seen.mem1.trans step.mem1⟩⟩
  · rw [hread] at seen held
    obtain ⟨k, hk, rfl⟩ := held b rfl
    have off (l : Lane) : v.bit (.ins l) F.INS_DIRTY_CTL_EN = false := by
      rw [State.bit_congr (seen.fld (.ins l) F.INS_DIRTY_CTL_EN 0 (by cases l <;> decide)), ← hd l]
      exact State.bit_congr (step.fld (.ins l) _ 0 (by cases l <;> fin_cases ch <;> decide))
    have wf (l : Lane) : memWf 0 (v.laneMem l) = true := by
      have := hw.lane l
      cases l
      · exact (congrArg (memWf 0) (seen.mem0.trans step.mem0)).trans this
      · exact (congrArg (memWf 0) (seen.mem1.trans step.mem1)).trans this
    refine ⟨rfl, ?_, .inl ⟨rfl, rfl, k, hk, fun l hl => ?_⟩⟩
    · have written := State.fld_congr (State.writeLanes_regs off addr.toNat (u.flash k (bltSlot n) len)) (.stw ch) F.STW_STATUS_BUSY 0
      exact (State.busy_progress ..).trans (written.trans (busy seen))
    · have same : s.flash k (bltSlot n) len = u.flash k (bltSlot n) len := by simp only [State.flash, step.flash0, step.flash1]
      have got := State.writeLanes_mem wf off addr.toNat (u.flash k (bltSlot n) len)
        ((State.laneUp_congr (seen.dom.trans step.dom) l).trans hl)
      rw [State.flash_length] at got
      exact got.trans same.symm

end

/-- What DUMP_CLEAR makes of a slot that holds a dump. -/
theorem cmdDumpClear_shown {a : List Nat} {u : State} {n q len : Nat} (hc : u.up .common = true) (hf : u.firstDump = some (n, q, len)) :
    ∃ v, DumpShown (u.flashWiped (bltSlot n) 0x800000) v ∧
      cmdDumpClear a u = ⟨v, if u.flashOff || (u.err0 && u.err1) then 0x0B else 0, [], false⟩ := by
  have shown := (u.flashWiped (bltSlot n) 0x800000).bltShow_shown
  have dom : (u.flashWiped (bltSlot n) 0x800000).bltShow.dom = u.dom := (congrArg State.dom shown.quiet :)
  have eq : cmdDumpClear a u = if u.flashTook then cmdOk ((u.flashWiped (bltSlot n) 0x800000).bltShow.bltEvent 5 n q) []
      else cmdCode (u.flashWiped (bltSlot n) 0x800000).bltShow stFLASH := by
    simp only [cmdDumpClear, hf, State.flashWipe_eq]
  rw [eq, State.flashTook]
  cases u.flashOff || (u.err0 && u.err1)
  · exact ⟨_, shown.bltEvent ((State.up_congr (s := u) dom _).trans hc) 5 n q, rfl⟩
  · exact ⟨_, shown, rfl⟩

/-- Settles O57: DUMP_READ reads a range of one device and writes it to the lanes that are UP; DUMP_CLEAR erases a slot and shows
it in BLT_STATUS. -/
theorem dumpCommands : Obligations.DumpCommands := by
  unfold Obligations.DumpCommands
  intro ch tag addr m s hw args
  have hargs : ∀ a ∈ args, a < 2 ^ 32 := by
    intro a ha
    rcases List.mem_append.mp ha with h | h
    · exact addrArgs_lt addr a h
    · exact List.mem_singleton.mp h ▸ m.isLt
  have first {u : State} (step : ChannelStep ch s u) : u.firstDump = s.firstDump := State.firstDump_congr step.flash0 step.flash1
  refine ⟨fun hr hm hl hd => ?_, fun hr hl => ?_, fun hr => ?_⟩
  · have up {u : State} (step : ChannelStep ch s u) : u.upLanes ≠ [] := step.upLanes.symm ▸ hl
    rcases hf : s.firstDump with _ | ⟨n, q, len⟩
    · exact mboxIssue_leaves hr (by decide) hargs fun u step => cmdDumpRead_none (up step) ((first step).trans hf)
    · by_cases hlen : m.toNat < len
      · simp only [if_pos hlen]
        exact mboxIssue_leaves hr (by decide) hargs fun u step => cmdDumpRead_small (up step) ((first step).trans hf) hlen
      · simp only [if_neg hlen]
        refine mboxIssue_answers hr (by decide) hargs fun u step busy => ?_
        obtain ⟨wait, kept, done⟩ := cmdDumpRead_reads step hw hm hl hd hf (Nat.le_of_not_lt hlen)
        rw [wait]
        rcases done with ⟨code, res, k, hk, mem⟩ | ⟨code, res, m0, m1⟩
        · rw [code, res]
          exact .inl ⟨mboxRuns_setMbox (kept.trans busy), k, hk, fun l hl => (State.setMbox_mem ..).trans (mem l hl)⟩
        · rw [code, res]
          exact .inr ⟨mboxRuns_setMbox (kept.trans busy), (State.setMbox_mem0 ..).trans m0, (State.setMbox_mem1 ..).trans m1⟩
  · exact mboxIssue_leaves hr (by decide) hargs fun u step => cmdDumpRead_noLane (step.upLanes.trans hl)
  · rcases hf : s.firstDump with _ | ⟨n, q, len⟩
    · refine mboxIssue_leaves hr (by decide) (by simp) fun u step => ?_
      rw [cmdDumpClear, (first step).trans hf]
      rfl
    · refine mboxIssue_answers hr (by decide) (by simp) fun u step busy => ?_
      obtain ⟨hc, -⟩ := hr
      obtain ⟨v, shown, eq⟩ := cmdDumpClear_shown (a := mboxArgs []) ((State.up_congr step.dom _).trans hc) ((first step).trans hf)
      obtain ⟨-, -, wf0, wf1, -⟩ := hw
      rw [← step.flash0] at wf0
      rw [← step.flash1] at wf1
      have f0 : v.flash0 = devWipe u.flashOff u.err0 u.freeCtr (bltSlot n) 0x800000 u.flash0 := (congrArg State.flash0 shown.quiet :)
      have f1 : v.flash1 = devWipe u.flashOff u.err1 (u.freeCtr + 1) (bltSlot n) 0x800000 u.flash1 := (congrArg State.flash1 shown.quiet :)
      have busy' : v.fld (.stw ch) F.STW_STATUS_BUSY = 1 :=
        (shown.regs.fld _ _ _ (by fin_cases ch <;> decide)).trans busy
      rw [eq, ← step.flashOff, ← step.freeCtr]
      refine ⟨mboxRuns_setMbox busy', fun a (ha : a < bltSlot n ∨ bltSlot n + 0x800000 ≤ a) => ?_,
        fun a (h1 : bltSlot n ≤ a) (h2 : a < bltSlot n + 0x800000) hoff => ⟨fun he => ?_, fun he => ?_⟩,
        (State.setMbox_mem0 ..).trans ((congrArg State.mem0 shown.quiet :).trans step.mem0),
        (State.setMbox_mem1 ..).trans ((congrArg State.mem1 shown.quiet :).trans step.mem1),
        (State.setMbox_dom ..).trans ((congrArg State.dom shown.quiet :).trans step.dom), ?_⟩
      · rw [State.setMbox_flash0, State.setMbox_flash1, f0, f1, memGet_devWipe_other wf0 _ _ _ _ ha,
          memGet_devWipe_other wf1 _ _ _ _ ha, step.flash0, step.flash1]
        exact ⟨rfl, rfl⟩
      · rw [State.setMbox_flash0, f0, hoff, State.err0, he, memGet_devWipe_erased wf0 _ _ ⟨h1, h2⟩]
      · rw [State.setMbox_flash1, f1, hoff, State.err1, he, memGet_devWipe_erased wf1 _ _ ⟨h1, h2⟩]
      · refine RegsOutside.same ?_ (State.setMbox_regs ..)
        exact (step.regs.mono (by simp)).trans (((RegsOutside.of_eq rfl).trans shown.regs).mono (by simp))

end Sys2Proof.Machine
end

section
/-! # The bank descriptor: its octets, and the copy that is picked after a new one is written (R51) -/

namespace Sys2Proof.Machine
open Sys2Proof

/-! Fields of a record held as octets. -/

/-- The octets that a field occupies. -/
def EFld.octs (f : EFld) : Nat := f.hi / 8 + 1

section
variable {b : List Byte} {f g : EFld} (v : Nat)

theorem octPut_getElem? (hf : f.off + f.octs ≤ b.length) (i : Nat) : (octPut b f v)[i]? =
    if f.off ≤ i ∧ i < f.off + f.octs then (natLe f.octs (bitsPut (leNat ((b.drop f.off).take f.octs)) f.hi f.lo v))[i - f.off]?
    else b[i]? := by
  have ht : (b.take f.off).length = f.off := by
    rw [List.length_take]
    omega
  unfold octPut
  rw [List.append_assoc, ← EFld.octs]
  by_cases h1 : i < f.off
  · rw [if_neg (by omega), List.getElem?_append_left (by omega), List.getElem?_take_of_lt h1]
  · rw [List.getElem?_append_right (by omega), ht]
    by_cases h2 : i < f.off + f.octs
    · rw [if_pos (by omega), List.getElem?_append_left (by rw [natLe_length]; omega)]
    · rw [if_neg (by omega), List.getElem?_append_right (by rw [natLe_length]; omega), natLe_length, List.getElem?_drop]
      congr 1
      omega

theorem octPut_length (hf : f.off + f.octs ≤ b.length) : (octPut b f v).length = b.length := by
  unfold octPut
  rw [← EFld.octs]
  simp only [List.length_append, List.length_take, List.length_drop, natLe_length]
  omega

/-- Octets beside the field. -/
theorem octPut_slice (hf : f.off + f.octs ≤ b.length) {i n : Nat} (hi : i + n ≤ f.off ∨ f.off + f.octs ≤ i) :
    ((octPut b f v).drop i).take n = (b.drop i).take n := by
  refine List.ext_getElem? fun j => ?_
  by_cases hj : j < n
  · rw [List.getElem?_take_of_lt hj, List.getElem?_take_of_lt hj, List.getElem?_drop, List.getElem?_drop, octPut_getElem? v hf,
      if_neg (by omega)]
  · rw [List.getElem?_take_eq_none (by omega), List.getElem?_take_eq_none (by omega)]

/-- The field's own octets. -/
theorem leNat_octPut (hf : f.off + f.octs ≤ b.length) : leNat (((octPut b f v).drop f.off).take f.octs) =
    bitsPut (leNat ((b.drop f.off).take f.octs)) f.hi f.lo v % 2 ^ (8 * f.octs) := by
  have own : ((octPut b f v).drop f.off).take f.octs = natLe f.octs (bitsPut (leNat ((b.drop f.off).take f.octs)) f.hi f.lo v) := by
    refine List.ext_getElem? fun j => ?_
    by_cases hj : j < f.octs
    · rw [List.getElem?_take_of_lt hj, List.getElem?_drop, octPut_getElem? v hf, if_pos (by omega), Nat.add_sub_cancel_left]
    · rw [List.getElem?_take_eq_none (by omega), List.getElem?_eq_none (by rw [natLe_length]; omega)]
  rw [own, leNat_natLe, Nat.pow_mul]

theorem EFld.hi_lt (f : EFld) : f.hi < 8 * f.octs := by
  unfold EFld.octs
  omega

theorem octF_octPut_same (hf : f.off + f.octs ≤ b.length) : octF (octPut b f v) f = v % 2 ^ (f.hi + 1 - f.lo) := by
  unfold octF
  rw [← EFld.octs, leNat_octPut v hf, bitsOf_mod_two_pow _ _ _ _ f.hi_lt, bitsOf_put_same]

/-- A field of other octets, or of other bits of the same octets. -/
theorem octF_octPut_apart (hf : f.off + f.octs ≤ b.length)
    (h : (g.off + g.octs ≤ f.off ∨ f.off + f.octs ≤ g.off) ∨
      (g.off = f.off ∧ g.octs = f.octs ∧ f.lo ≤ f.hi ∧ (g.hi < f.lo ∨ f.hi < g.lo))) : octF (octPut b f v) g = octF b g := by
  unfold octF
  rw [← EFld.octs]
  obtain h | ⟨ho, hn, hl, ha⟩ := h
  · rw [octPut_slice v hf h]
  · rw [ho, hn, leNat_octPut v hf, bitsOf_mod_two_pow _ _ _ _ (hn ▸ g.hi_lt), bitsOf_bitsPut_apart _ _ _ _ _ _ hl ha]

end

/-- Two fields share no bit: they occupy other octets, or other bits of the same octets. -/
def EFld.apart (g f : EFld) : Bool :=
  decide (g.off + g.octs ≤ f.off ∨ f.off + f.octs ≤ g.off) ||
    decide (g.off = f.off ∧ g.octs = f.octs ∧ f.lo ≤ f.hi ∧ (g.hi < f.lo ∨ f.hi < g.lo))

/-! Descriptors: records of 64 octets. -/

section
variable {d : List Byte} (hd : d.length = 64) (f : EFld) {g : EFld} (v : Nat)
include hd

theorem descPut_length (hf : f.off + f.octs ≤ 64 := by decide) : (octPut d f v).length = 64 :=
  (octPut_length v (hd.symm ▸ hf)).trans hd

theorem octF_descPut_same (hf : f.off + f.octs ≤ 64 := by decide) : octF (octPut d f v) f = v % 2 ^ (f.hi + 1 - f.lo) :=
  octF_octPut_same v (hd.symm ▸ hf)

theorem octF_descPut_apart (hf : f.off + f.octs ≤ 64 := by decide) (h : g.apart f = true := by decide) :
    octF (octPut d f v) g = octF d g :=
  octF_octPut_apart v (hd.symm ▸ hf) (by simpa [EFld.apart] using h)

end

theorem octF_lt (b : List Byte) (f : EFld) : octF b f < 2 ^ (f.hi + 1 - f.lo) := bitsOf_lt ..

theorem crc32c_lt (l : List Byte) : crcOf crc32c l < 2 ^ 32 := by
  have h : reflectBits 32 (crcRun crc32c crc32c.init l) < 2 ^ 32 := reflectBits_lt ..
  exact Nat.xor_lt_two_pow h (by decide)

/-! The copies. -/

/-- The better of two copies: the one with the higher SEQ, of equals the one first met. -/
def descBetter (best : Option (Nat × List Byte)) (e : Nat × List Byte) : Option (Nat × List Byte) :=
  match best with
  | none => some e
  | some x => if octF x.2 E.T2_9_SEQ < octF e.2 E.T2_9_SEQ then some e else best

/-- The copies on both devices. -/
def State.descCopies (s : State) : List (Nat × List Byte) :=
  [(0, s.flash 0 0 64), (1, s.flash 0 0x8000 64), (0, s.flash 1 0 64), (1, s.flash 1 0x8000 64)]

/-- They are the copies 0 and 1 on the devices 0 and 1. -/
theorem State.mem_descCopies (u : State) (e : Nat × List Byte) : e ∈ u.descCopies ↔ ∃ k < 2, ∃ c ≤ 1, e = (c, u.flash k (0x8000 * c) 64) := by
  constructor
  · intro h
    simp only [State.descCopies, List.mem_cons, List.not_mem_nil, or_false] at h
    rcases h with rfl | rfl | rfl | rfl
    · exact ⟨0, by decide, 0, by decide, rfl⟩
    · exact ⟨0, by decide, 1, by decide, rfl⟩
    · exact ⟨1, by decide, 0, by decide, rfl⟩
    · exact ⟨1, by decide, 1, by decide, rfl⟩
  · rintro ⟨k, hk, c, hc, rfl⟩
    interval_cases k <;> interval_cases c <;> simp [State.descCopies]

theorem State.descPick_eq (s : State) : s.descPick = (s.descCopies.filter fun e => descOk e.2).foldl descBetter none := rfl

/-- The copy picked from a list is one of it, and none has a higher SEQ. -/
theorem foldl_descBetter (l : List (Nat × List Byte)) (x : Nat × List Byte) :
    ∃ y, l.foldl descBetter (some x) = some y ∧ (y = x ∨ y ∈ l) ∧ octF x.2 E.T2_9_SEQ ≤ octF y.2 E.T2_9_SEQ ∧
      ∀ e ∈ l, octF e.2 E.T2_9_SEQ ≤ octF y.2 E.T2_9_SEQ := by
  induction l generalizing x with
  | nil => exact ⟨x, rfl, .inl rfl, le_rfl, nofun⟩
  | cons e l ih =>
    simp only [List.foldl_cons, descBetter]
    split
    next h =>
      obtain ⟨y, hy, hin, hle, hall⟩ := ih e
      exact ⟨y, hy, .inr (by simpa using hin), by omega, by simpa using ⟨hle, fun a b => hall (a, b)⟩⟩
    next h =>
      obtain ⟨y, hy, hin, hle, hall⟩ := ih x
      exact ⟨y, hy, by simp; tauto, hle, by simpa using ⟨by omega, fun a b => hall (a, b)⟩⟩

theorem foldl_descBetter_none {l : List (Nat × List Byte)} {y : Nat × List Byte} (h : l.foldl descBetter none = some y) :
    y ∈ l ∧ ∀ e ∈ l, octF e.2 E.T2_9_SEQ ≤ octF y.2 E.T2_9_SEQ := by
  cases l with
  | nil => cases h
  | cons e l =>
    obtain ⟨z, hz, hin, hle, hall⟩ := foldl_descBetter l e
    obtain rfl : z = y := Option.some.inj (hz.symm.trans h)
    exact ⟨by simpa using hin, by simpa using ⟨hle, fun a b => hall (a, b)⟩⟩

theorem State.descPick_none {s : State} (h : s.descPick = none) : ∀ e ∈ s.descCopies, descOk e.2 = false := by
  rw [State.descPick_eq] at h
  rcases hl : s.descCopies.filter (fun e => descOk e.2) with _ | ⟨e, l⟩
  · simpa using hl
  · obtain ⟨y, hy, -⟩ := foldl_descBetter l e
    rw [hl, List.foldl_cons] at h
    cases h.symm.trans hy

/-- The descriptor in use: a valid copy with the highest SEQ. -/
theorem State.descPick_some {s : State} {y : Nat × List Byte} (h : s.descPick = some y) :
    y ∈ s.descCopies ∧ descOk y.2 = true ∧
      ∀ e ∈ s.descCopies, descOk e.2 = true → octF e.2 E.T2_9_SEQ ≤ octF y.2 E.T2_9_SEQ := by
  rw [State.descPick_eq] at h
  obtain ⟨hin, hall⟩ := foldl_descBetter_none h
  obtain ⟨h1, h2⟩ := List.mem_filter.1 hin
  exact ⟨h1, h2, fun e he hok => hall e (List.mem_filter.2 ⟨he, hok⟩)⟩

theorem State.desc_length (s : State) : s.desc.length = 64 := by
  unfold State.desc
  split
  next e h =>
    obtain ⟨hin, -⟩ := State.descPick_some h
    simp only [State.descCopies, List.mem_cons, List.not_mem_nil, or_false] at hin
    rcases hin with rfl | rfl | rfl | rfl
    all_goals simp only [State.flash_length]
  next => exact List.length_replicate

/-- The descriptor in use is what the devices hold. -/
theorem State.desc_congr {s t : State} (h0 : t.flash0 = s.flash0) (h1 : t.flash1 = s.flash1) : t.desc = s.desc := by
  have same (d a n : Nat) : t.flash d a n = s.flash d a n := by simp only [State.flash, h0, h1]
  simp only [State.desc, State.descPick, same]

/-! A new descriptor. -/

/-- The octets that a new descriptor is written with: MAGIC, the next SEQ, and the CRC. -/
def State.descNext (s : State) (d : List Byte) : List Byte :=
  let d := octPut (octPut d E.T2_9_MAGIC 0x4B4E4142) E.T2_9_SEQ (octF s.desc E.T2_9_SEQ + 1)
  octPut d E.T2_9_CRC (crcOf crc32c (d.take 0x3C))

/-- The copy that a new descriptor takes. -/
def State.descCopy (s : State) : Nat :=
  match s.descPick with
  | some e => 1 - e.1
  | none => 0

theorem State.descWrite_eq (s : State) (d : List Byte) :
    s.descWrite d = ((s.flashErase (0x8000 * s.descCopy) 0x8000).flashW (0x8000 * s.descCopy) (s.descNext d)).showBank := rfl

/-- A device that took a new descriptor. -/
def descMem (copy : Nat) (d : List Byte) (m : Mem) : Mem := memWrite 0xFF (memErase m (0x8000 * copy) 0x8000) (0x8000 * copy) d

theorem State.flash0_descWrite (s : State) (d : List Byte) : (s.descWrite d).flash0 = descMem s.descCopy (s.descNext d) s.flash0 := by
  rw [State.descWrite_eq]
  rfl

theorem State.flash1_descWrite (s : State) (d : List Byte) : (s.descWrite d).flash1 = descMem s.descCopy (s.descNext d) s.flash1 := by
  rw [State.descWrite_eq]
  rfl

theorem State.descWrite_regs (s : State) (d : List Byte) : RegsOutside [regAt .stwLoad .STW_BANK] s (s.descWrite d) := by
  rw [State.descWrite_eq]
  exact ((RegsOutside.refl _ s).same rfl).wr _ _ _ _ (regIn_of_mem (.head _))

section
variable {m : Mem} (h : memWf 0xFF m = true) {d : List Byte} {copy : Nat}
include h

/-- What lies beside the copy. -/
theorem memGet_descMem (hd : d.length ≤ 0x8000) {a : Nat} (ha : a < 0x8000 * copy ∨ 0x8000 * copy + 0x8000 ≤ a) :
    memGet 0xFF (descMem copy d m) a = memGet 0xFF m a := by
  rw [descMem, memGet_write_other _ _ _ _ _ (memErase_wf h _ _) (by omega), memGet_erase h, if_neg (by omega)]

theorem memRead_descMem : memRead 0xFF (descMem copy d m) (0x8000 * copy) d.length = d := memRead_write _ _ _ _ (memErase_wf h _ _)

theorem memRead_descMem_other (hd : d.length ≤ 0x8000) {a n : Nat} (ha : a + n ≤ 0x8000 * copy ∨ 0x8000 * copy + 0x8000 ≤ a) :
    memRead 0xFF (descMem copy d m) a n = memRead 0xFF m a n :=
  memRead_congr _ fun c h1 h2 => memGet_descMem h hd (by omega)

end

theorem State.descCopy_le (s : State) : s.descCopy ≤ 1 := by
  unfold State.descCopy
  split
  · omega
  · omega

section
variable (s : State) {d : List Byte} (hd : d.length = 64)
include hd

theorem State.descNext_length : (s.descNext d).length = 64 :=
  descPut_length (descPut_length (descPut_length hd _ _) _ _) _ _

/-- The fields of the banks are those that were given. -/
theorem State.octF_descNext {g : EFld} (h0 : g.apart E.T2_9_MAGIC = true := by decide) (h1 : g.apart E.T2_9_SEQ = true := by decide)
    (h2 : g.apart E.T2_9_CRC = true := by decide) : octF (s.descNext d) g = octF d g := by
  have l1 := descPut_length hd E.T2_9_MAGIC 0x4B4E4142
  have l2 := descPut_length l1 E.T2_9_SEQ (octF s.desc E.T2_9_SEQ + 1)
  unfold State.descNext
  rw [octF_descPut_apart l2 _ _ (by decide) h2, octF_descPut_apart l1 _ _ (by decide) h1, octF_descPut_apart hd _ _ (by decide) h0]

theorem State.seq_descNext (hs : octF s.desc E.T2_9_SEQ + 1 < 2 ^ 32) :
    octF (s.descNext d) E.T2_9_SEQ = octF s.desc E.T2_9_SEQ + 1 := by
  have l1 := descPut_length hd E.T2_9_MAGIC 0x4B4E4142
  have l2 := descPut_length l1 E.T2_9_SEQ (octF s.desc E.T2_9_SEQ + 1)
  unfold State.descNext
  rw [octF_descPut_apart l2 E.T2_9_CRC _ (g := E.T2_9_SEQ), octF_descPut_same l1 E.T2_9_SEQ]
  exact Nat.mod_eq_of_lt hs

theorem State.descOk_descNext : descOk (s.descNext d) = true := by
  have l1 := descPut_length hd E.T2_9_MAGIC 0x4B4E4142
  have l2 := descPut_length l1 E.T2_9_SEQ (octF s.desc E.T2_9_SEQ + 1)
  refine decide_eq_true ⟨?_, ?_⟩
  · unfold State.descNext
    rw [octF_descPut_apart l2 E.T2_9_CRC _ (g := E.T2_9_MAGIC), octF_descPut_apart l1 E.T2_9_SEQ _ (g := E.T2_9_MAGIC),
      octF_descPut_same hd E.T2_9_MAGIC]
    rfl
  · have kept := octPut_slice (f := E.T2_9_CRC) (i := 0) (n := 0x3C)
      (crcOf crc32c ((octPut (octPut d E.T2_9_MAGIC 0x4B4E4142) E.T2_9_SEQ (octF s.desc E.T2_9_SEQ + 1)).take 0x3C))
      (by rw [l2]; decide) (.inl (by decide))
    rw [List.drop_zero, List.drop_zero] at kept
    unfold State.descNext
    rw [octF_descPut_same l2 E.T2_9_CRC, kept]
    exact Nat.mod_eq_of_lt (crc32c_lt _)

/-- The descriptor that is written is then in use (R51). -/
theorem State.desc_descWrite (h0 : memWf 0xFF s.flash0 = true) (h1 : memWf 0xFF s.flash1 = true)
    (hs : octF s.desc E.T2_9_SEQ + 1 < 2 ^ 32) : (s.descWrite d).desc = s.descNext d := by
  have hl := s.descNext_length hd
  have hok := s.descOk_descNext hd
  have hseq := s.seq_descNext hd hs
  have hc := s.descCopy_le
  -- on each device one copy is the new one and the other is as before
  have new (k : Nat) : (s.descWrite d).flash k (0x8000 * s.descCopy) 64 = s.descNext d := by
    unfold State.flash
    rw [s.flash0_descWrite, s.flash1_descWrite, ← hl]
    split
    · exact memRead_descMem h0
    · exact memRead_descMem h1
  have old (k c : Nat) (hcc : c ≤ 1) (hne : c ≠ s.descCopy) : (s.descWrite d).flash k (0x8000 * c) 64 = s.flash k (0x8000 * c) 64 := by
    unfold State.flash
    rw [s.flash0_descWrite, s.flash1_descWrite, memRead_descMem_other h0 (by omega) (by omega),
      memRead_descMem_other h1 (by omega) (by omega)]
  have lower : ∀ e ∈ (s.descWrite d).descCopies, descOk e.2 = true → e.2 = s.descNext d ∨ octF e.2 E.T2_9_SEQ ≤ octF s.desc E.T2_9_SEQ := by
    intro e he hv
    obtain ⟨k, hk, c, hcc, rfl⟩ := (State.mem_descCopies _ e).1 he
    by_cases hcs : c = s.descCopy
    · exact .inl (hcs ▸ new k)
    · right
      simp only [old k c hcc hcs] at hv ⊢
      have held := (s.mem_descCopies _).2 ⟨k, hk, c, hcc, rfl⟩
      rcases hp : s.descPick with _ | y
      · cases (State.descPick_none hp _ held).symm.trans hv
      · obtain ⟨-, -, top⟩ := State.descPick_some hp
        have : s.desc = y.2 := by rw [State.desc, hp]
        rw [this]
        exact top _ held hv
  have held : (s.descCopy, s.descNext d) ∈ (s.descWrite d).descCopies := (State.mem_descCopies _ _).2 ⟨0, by decide, _, hc, by rw [new]⟩
  rcases hp : (s.descWrite d).descPick with _ | y
  · cases (State.descPick_none hp _ held).symm.trans hok
  · obtain ⟨hin, hv, top⟩ := State.descPick_some hp
    rw [State.desc, hp]
    refine (lower y hin hv).resolve_right fun h => ?_
    have := top _ held hok
    rw [hseq] at this
    omega

end

end Sys2Proof.Machine
end

section
/-! # O11: erasing, writing, selecting and confirming flash banks (R50, R52) -/

namespace Sys2Proof.Machine
open Sys2Proof

/-! What a new descriptor leaves. -/

section
variable {s : State} (h0 : memWf 0xFF s.flash0 = true) (h1 : memWf 0xFF s.flash1 = true) {d : List Byte} (hd : d.length = 64)
include h0 h1 hd

/-- The banks and all else behind the descriptors' sectors. -/
theorem State.memGet_descWrite {a : Nat} (ha : 0x10000 ≤ a) :
    memGet 0xFF (s.descWrite d).flash0 a = memGet 0xFF s.flash0 a ∧ memGet 0xFF (s.descWrite d).flash1 a = memGet 0xFF s.flash1 a := by
  have hc := s.descCopy_le
  have hl := s.descNext_length hd
  rw [s.flash0_descWrite, s.flash1_descWrite, memGet_descMem h0 (by omega) (by omega), memGet_descMem h1 (by omega) (by omega)]
  exact ⟨rfl, rfl⟩

theorem State.flash_descWrite (k : Nat) {a : Nat} (ha : 0x10000 ≤ a) (n : Nat) : (s.descWrite d).flash k a n = s.flash k a n := by
  unfold State.flash
  split
  · exact memRead_congr _ fun c hc _ => (State.memGet_descWrite h0 h1 hd (ha.trans hc)).1
  · exact memRead_congr _ fun c hc _ => (State.memGet_descWrite h0 h1 hd (ha.trans hc)).2

end

theorem State.mem0_descWrite (s : State) (d : List Byte) : (s.descWrite d).mem0 = s.mem0 := (congrArg State.mem0 (s.unflashed_descWrite d) :)
theorem State.mem1_descWrite (s : State) (d : List Byte) : (s.descWrite d).mem1 = s.mem1 := (congrArg State.mem1 (s.unflashed_descWrite d) :)
theorem State.com_descWrite (s : State) (d : List Byte) : (s.descWrite d).com = s.com := (congrArg State.com (s.unflashed_descWrite d) :)

/-- Progress is a register's alone. -/
theorem State.flash0_progress (s : State) (ch n : Nat) : (s.progress ch n).flash0 = s.flash0 := rfl
theorem State.flash1_progress (s : State) (ch n : Nat) : (s.progress ch n).flash1 = s.flash1 := rfl
theorem State.mem0_progress (s : State) (ch n : Nat) : (s.progress ch n).mem0 = s.mem0 := rfl
theorem State.mem1_progress (s : State) (ch n : Nat) : (s.progress ch n).mem1 = s.mem1 := rfl
theorem State.com_progress (s : State) (ch n : Nat) : (s.progress ch n).com = s.com := rfl

theorem bankBase_ge (w b : Nat) : 0x10000 ≤ bankBase w b := by
  unfold bankBase
  split <;> omega

/-! A bank that changes. -/

section
variable {s : State} (h0 : memWf 0xFF s.flash0 = true) (h1 : memWf 0xFF s.flash1 = true) {w b : Nat} (held : Nat)

/-- The descriptor's field for what a bank holds lies in the record. -/
theorem heldFld_fits (w b : Nat) : (heldFld w b).off + (heldFld w b).octs ≤ 64 := by
  unfold heldFld
  split
  · split <;> decide
  · split <;> decide

theorem State.bankChanged_regs : RegsOutside [regAt .stwLoad .STW_BANK] s (s.bankChanged w b held) :=
  ((RegsOutside.refl _ s).same rfl).trans (State.descWrite_regs _ _)

theorem State.bankChanged_verified : (w, b) ∉ (s.bankChanged w b held).com.verified := by
  rw [State.bankChanged, State.com_descWrite]
  simp

include h0 h1 in
theorem State.memGet_bankChanged {a : Nat} (ha : 0x10000 ≤ a) :
    memGet 0xFF (s.bankChanged w b held).flash0 a = memGet 0xFF s.flash0 a ∧
      memGet 0xFF (s.bankChanged w b held).flash1 a = memGet 0xFF s.flash1 a :=
  State.memGet_descWrite (s := { s with com := { s.com with verified := s.com.verified.filter (fun e => decide (e ≠ (w, b))) } })
    h0 h1 (descPut_length s.desc_length _ _ (heldFld_fits w b)) ha

end

theorem State.memRead_bankChanged {s : State} (h0 : memWf 0xFF s.flash0 = true) (h1 : memWf 0xFF s.flash1 = true) {w b : Nat}
    (held : Nat) {a : Nat} (ha : 0x10000 ≤ a) (n : Nat) :
    memRead 0xFF (s.bankChanged w b held).flash0 a n = memRead 0xFF s.flash0 a n ∧
      memRead 0xFF (s.bankChanged w b held).flash1 a n = memRead 0xFF s.flash1 a n :=
  ⟨memRead_congr _ fun _ hc _ => (State.memGet_bankChanged h0 h1 held (ha.trans hc)).1,
    memRead_congr _ fun _ hc _ => (State.memGet_bankChanged h0 h1 held (ha.trans hc)).2⟩

/-- What erasing or writing a bank leaves beside the bank (R52). -/
structure BankLeft (ch : Fin 2) (w b : Nat) (s t : State) : Prop where
  outside : ∀ a, 0x10000 ≤ a → a < bankBase w b ∨ bankBase w b + bankSize w ≤ a →
    memGet 0xFF t.flash0 a = memGet 0xFF s.flash0 a ∧ memGet 0xFF t.flash1 a = memGet 0xFF s.flash1 a
  unverified : (w, b) ∉ t.com.verified
  mem0 : t.mem0 = s.mem0
  mem1 : t.mem1 = s.mem1
  regs : RegsOutside [stwAt ch, regAt .stwLoad .STW_BANK] s t

/-- A step that changes the devices inside one bank alone. -/
structure BankStep (w b : Nat) (s t : State) : Prop where
  outside : ∀ a, 0x10000 ≤ a → a < bankBase w b ∨ bankBase w b + bankSize w ≤ a →
    memGet 0xFF t.flash0 a = memGet 0xFF s.flash0 a ∧ memGet 0xFF t.flash1 a = memGet 0xFF s.flash1 a
  wf0 : memWf 0xFF t.flash0 = true
  wf1 : memWf 0xFF t.flash1 = true
  mem0 : t.mem0 = s.mem0
  mem1 : t.mem1 = s.mem1
  regs : t.regs = s.regs

section
variable {ch : Fin 2} {w b held n : Nat} {s u v : State}

theorem BankStep.left (step : ChannelStep ch s u) (h : BankStep w b u v) :
    BankLeft ch w b s ((v.bankChanged w b held).progress ch n) := by
  have left := v.unflashed_bankChanged w b held
  have mem0 : (v.bankChanged w b held).mem0 = v.mem0 := (congrArg State.mem0 left :)
  have mem1 : (v.bankChanged w b held).mem1 = v.mem1 := (congrArg State.mem1 left :)
  refine ⟨fun a h1 h2 => ?_, ?_, by rw [State.mem0_progress, mem0, h.mem0, step.mem0],
    by rw [State.mem1_progress, mem1, h.mem1, step.mem1], ?_⟩
  · obtain ⟨g0, g1⟩ := State.memGet_bankChanged h.wf0 h.wf1 (w := w) (b := b) held h1
    obtain ⟨o0, o1⟩ := h.outside a h1 h2
    rw [step.flash0] at o0
    rw [step.flash1] at o1
    rw [State.flash0_progress, State.flash1_progress]
    exact ⟨g0.trans o0, g1.trans o1⟩
  · rw [State.com_progress]
    exact v.bankChanged_verified held
  · have channel : RegIn [stwAt ch, regAt .stwLoad .STW_BANK] (.stw ch) .STW_PROGRESS 0 :=
      ⟨_, .head _, by fin_cases ch <;> decide, by fin_cases ch <;> decide⟩
    exact (((step.regs.mono (by simp)).same h.regs).trans ((v.bankChanged_regs held).mono (by simp))).wr _ _ _ _ channel

theorem BankStep.busy (h : BankStep w b u v) :
    ((v.bankChanged w b held).progress ch n).fld (.stw ch) F.STW_STATUS_BUSY = u.fld (.stw ch) F.STW_STATUS_BUSY := by
  rw [State.busy_progress, (v.bankChanged_regs held).fld _ _ _ (by fin_cases ch <;> decide), State.fld_congr h.regs]

/-- The range erased or written lies in the bank. -/
theorem State.flashWiped_step (h0 : memWf 0xFF u.flash0 = true) (h1 : memWf 0xFF u.flash1 = true) :
    BankStep w b u (u.flashWiped (bankBase w b) (bankSize w)) :=
  ⟨fun _ _ ha => ⟨memGet_devWipe_other h0 _ _ _ _ ha, memGet_devWipe_other h1 _ _ _ _ ha⟩, devWipe_wf h0 .., devWipe_wf h1 .., rfl, rfl, rfl⟩

theorem State.flashStored_step (h0 : memWf 0xFF u.flash0 = true) (h1 : memWf 0xFF u.flash1 = true) {off : Nat} {x : List Byte}
    (hx : off + x.length ≤ bankSize w) : BankStep w b u (u.flashStored (bankBase w b + off) x) :=
  ⟨fun _ _ ha => ⟨memGet_devPut_other h0 _ _ _ _ (by omega), memGet_devPut_other h1 _ _ _ _ (by omega)⟩,
    devPut_wf h0 .., devPut_wf h1 .., rfl, rfl, rfl⟩

end

theorem BankLeft.setMbox {ch : Fin 2} {w b : Nat} {s t : State} (h : BankLeft ch w b s t) (m : Option MbRun) :
    BankLeft ch w b s (t.setMbox ch m) :=
  ⟨by simpa using h.outside, by simpa using h.unverified, (State.setMbox_mem0 ..).trans h.mem0, (State.setMbox_mem1 ..).trans h.mem1,
    h.regs.same (State.setMbox_regs ..)⟩

end Sys2Proof.Machine
end

section
/-! # FLASH_ERASE_BANK and FLASH_WRITE by their cases (R50, R52, R61) -/

namespace Sys2Proof.Machine
open Sys2Proof

/-! The commands on a bank, by their cases. -/

/-- The status of a command that wrote both devices. -/
theorem State.took_code (s : State) : (if s.flashTook then stOK else stFLASH) = if s.flashOff || (s.err0 && s.err1) then 0x0B else 0 := by
  unfold State.flashTook
  cases s.flashOff || (s.err0 && s.err1) <;> rfl

section
variable {ch : Nat} {a : List Nat} {u : State}

theorem cmdFlashErase_free (hw : a.getD 0 0 ≤ 1) (hb : a.getD 1 0 ≤ 1) (hf : u.bankFree (a.getD 0 0) (a.getD 1 0) = true) :
    cmdFlashErase ch a u = ⟨((u.flashWiped (bankBase (a.getD 0 0) (a.getD 1 0)) (bankSize (a.getD 0 0))).bankChanged
      (a.getD 0 0) (a.getD 1 0) 0).progress ch (bankSize (a.getD 0 0)), if u.flashOff || (u.err0 && u.err1) then 0x0B else 0, [], false⟩ := by
  unfold cmdFlashErase
  simp only [State.flashWipe_eq, if_neg (show ¬(1 < a.getD 0 0 ∨ 1 < a.getD 1 0) by omega), hf, Bool.not_true, Bool.false_eq_true, if_false]
  rw [← State.took_code]
  rfl

theorem cmdFlashErase_held (hw : a.getD 0 0 ≤ 1) (hb : a.getD 1 0 ≤ 1) (hf : u.bankFree (a.getD 0 0) (a.getD 1 0) = false) :
    cmdFlashErase ch a u = cmdCode u stSTATE := by
  unfold cmdFlashErase
  simp only [if_neg (show ¬(1 < a.getD 0 0 ∨ 1 < a.getD 1 0) by omega), hf, Bool.not_false, if_true]

/-- The operands of FLASH_WRITE that it takes. -/
def writeFits (a : List Nat) : Prop :=
  a.getD 0 0 ≤ 1 ∧ a.getD 1 0 ≤ 1 ∧ a.getD 2 0 % 256 = 0 ∧ a.getD 5 0 % 256 = 0 ∧ 256 ≤ a.getD 5 0 ∧ a.getD 5 0 ≤ 16777216 ∧
    a.getD 2 0 + a.getD 5 0 ≤ bankSize (a.getD 0 0) ∧ argAddr a 3 + a.getD 5 0 ≤ 0x400000000

/-- How FLASH_WRITE of a free bank ends once lane memory has been read. -/
def bankWritten (ch : Nat) (a : List Nat) (u : State) : Except Nat (List Byte) → CmdOut
  | .error e => cmdCode u e
  | .ok v =>
    let t := u.flashStored (bankBase (a.getD 0 0) (a.getD 1 0) + a.getD 2 0) v
    let t := (t.bankChanged (a.getD 0 0) (a.getD 1 0) (t.heldBy (a.getD 0 0) (a.getD 1 0))).progress ch (a.getD 5 0)
    if u.flashTook then cmdOk t [a.getD 5 0] else cmdCode t stFLASH

/-- With operands that it takes and a free bank FLASH_WRITE reads lane memory. -/
theorem cmdFlashWrite_free (h : writeFits a) (hf : u.bankFree (a.getD 0 0) (a.getD 1 0) = true) :
    cmdFlashWrite ch a u = bankWritten ch a u (readLanes u (argAddr a 3) (a.getD 5 0)) := by
  obtain ⟨hw, hb, h2, h5, lo, hi, fit, mem⟩ := h
  have inside : inLaneMem (argAddr a 3) (a.getD 5 0) = true := decide_eq_true mem
  have good : ¬(1 < a.getD 0 0 ∨ 1 < a.getD 1 0 ∨ a.getD 2 0 % 256 ≠ 0 ∨ a.getD 5 0 % 256 ≠ 0 ∨ a.getD 5 0 < 256 ∨ 16777216 < a.getD 5 0 ∨
      bankSize (a.getD 0 0) < a.getD 2 0 + a.getD 5 0 ∨ !inLaneMem (argAddr a 3) (a.getD 5 0)) := by
    simp only [inside, Bool.not_true, Bool.false_eq_true, or_false]
    omega
  unfold cmdFlashWrite
  simp only [if_neg good, hf, Bool.not_true, Bool.false_eq_true, if_false, State.flashPut_eq]
  rfl

end

/-! What a command finds of the flash. -/

namespace ChannelStep
variable {ch : Nat} {s u : State} (step : ChannelStep ch s u)
include step

theorem desc : u.desc = s.desc := State.desc_congr step.flash0 step.flash1
theorem bankFree (w b : Nat) : u.bankFree w b = s.bankFree w b := by rw [State.bankFree, State.bankFree, State.bankOf, State.bankOf,
  State.onTrial, State.onTrial, step.desc]
theorem onTrial (w : Nat) : u.onTrial w = s.onTrial w := by rw [State.onTrial, State.onTrial, step.desc]
theorem bankOf (w : Nat) : u.bankOf w = s.bankOf w := by rw [State.bankOf, State.bankOf, step.desc]
theorem flash (k a n : Nat) : u.flash k a n = s.flash k a n := by simp only [State.flash, step.flash0, step.flash1]

theorem readLanes (a n : Nat) : readLanes u a n = readLanes s a n := by
  have mem (l : Lane) : u.mem l a n = s.mem l a n :=
    SameMem.mem (fun l => by cases l; exacts [⟨step.mem0, (congrArg State.bg0 step.body :)⟩, ⟨step.mem1, (congrArg State.bg1 step.body :)⟩]) l a n
  simp only [Machine.readLanes, step.upLanes, mem]

end ChannelStep

/-- The octets that the lanes agree on are as many as were asked for. -/
theorem readLanes_length {s : State} {a n : Nat} {v : List Byte} (h : readLanes s a n = .ok v) : v.length = n := by
  unfold readLanes at h
  split at h
  · cases h
  · cases h
    exact State.mem_length ..
  · dsimp only at h
    split at h
    · cases h
      exact State.mem_length ..
    · cases h

section
variable {ch : Fin 2} {tag : BitVec 16} {w b off len : Word} {addr : BitVec 64} {v : List Byte} {s : State}

/-- FLASH_ERASE_BANK of a free bank. -/
theorem flashEraseBank_free (hw : MemsWf s) (hw1 : w.toNat ≤ 1) (hb1 : b.toNat ≤ 1) (hr : MboxReady s ch 0x10)
    (hf : s.bankFree w.toNat b.toNat = true) :
    Answers (exec (.flashEraseBank ch tag w b) s) fun t =>
      MboxRuns t ch 0x10 tag [w.toNat, b.toNat] (if s.flashOff || (s.err0 && s.err1) then 0x0B else 0) [] false ∧
      BankLeft ch w.toNat b.toNat s t ∧
      ∀ a, bankBase w.toNat b.toNat ≤ a → a < bankBase w.toNat b.toNat + bankSize w.toNat → s.flashOff = false →
        (s.err0 = false → memGet 0xFF t.flash0 a = 0xFF) ∧ (s.err1 = false → memGet 0xFF t.flash1 a = 0xFF) := by
  obtain ⟨-, -, f0, f1, -⟩ := hw
  refine mboxIssue_answers hr (by decide) (by simpa using ⟨w.isLt, b.isLt⟩) fun u step busy => ?_
  have eq := cmdFlashErase_free (ch := ch) (a := mboxArgs [w.toNat, b.toNat]) (u := u) hw1 hb1 ((step.bankFree _ _).trans hf)
  have g0 : memWf 0xFF u.flash0 = true := step.flash0.symm ▸ f0
  have g1 : memWf 0xFF u.flash1 = true := step.flash1.symm ▸ f1
  have wiped := State.flashWiped_step g0 g1 (w := w.toNat) (b := b.toNat)
  rw [eq, step.flashOff, step.err0, step.err1]
  refine ⟨mboxRuns_setMbox (wiped.busy.trans busy), (wiped.left step).setMbox _, fun a h1 h2 hoff => ?_⟩
  obtain ⟨d0, d1⟩ := State.memGet_bankChanged wiped.wf0 wiped.wf1 (w := w.toNat) (b := b.toNat) 0 ((bankBase_ge _ _).trans h1)
  rw [State.setMbox_flash0, State.setMbox_flash1, State.flash0_progress, State.flash1_progress]
  refine ⟨fun he => d0.trans ?_, fun he => d1.trans ?_⟩
  · simp only [State.flashWiped, step.flashOff, step.err0, hoff, he]
    exact memGet_devWipe_erased g0 _ _ ⟨h1, h2⟩
  · simp only [State.flashWiped, step.flashOff, step.err1, hoff, he]
    exact memGet_devWipe_erased g1 _ _ ⟨h1, h2⟩

/-- FLASH_WRITE of a free bank with operands that it takes. -/
theorem flashWrite_free (hw : MemsWf s) (hw1 : w.toNat ≤ 1) (hb1 : b.toNat ≤ 1) (hr : MboxReady s ch 0x11)
    (h2 : off.toNat % 256 = 0) (h5 : len.toNat % 256 = 0) (lo : 256 ≤ len.toNat) (hi : len.toNat ≤ 16777216)
    (fit : off.toNat + len.toNat ≤ bankSize w.toNat) (mem : addr.toNat + len.toNat ≤ 0x400000000)
    (hf : s.bankFree w.toNat b.toNat = true) :
    let args := [w.toNat, b.toNat, off.toNat] ++ addrArgs addr ++ [len.toNat]
    (readLanes s addr.toNat len.toNat = .ok v →
      Answers (exec (.flashWrite ch tag w b off addr len) s) fun t =>
        (∃ res, MboxRuns t ch 0x11 tag args (if s.flashOff || (s.err0 && s.err1) then 0x0B else 0) res false ∧
          ((if s.flashOff || (s.err0 && s.err1) then 0x0B else 0) = 0 → res = [len.toNat])) ∧
        BankLeft ch w.toNat b.toNat s t ∧
        (s.flashOff = false → s.err0 = false → memRead 0xFF t.flash0 (bankBase w.toNat b.toNat + off.toNat) len.toNat = v) ∧
        (s.flashOff = false → s.err1 = false → memRead 0xFF t.flash1 (bankBase w.toNat b.toNat + off.toNat) len.toNat = v)) ∧
    (∀ e, readLanes s addr.toNat len.toNat = .error e →
      Answers (exec (.flashWrite ch tag w b off addr len) s) fun t => MboxRuns t ch 0x11 tag args e [] false ∧ MboxOnly ch s t) := by
  intro args
  obtain ⟨-, -, f0, f1, -⟩ := hw
  have hargs : ∀ a ∈ args, a < 2 ^ 32 := by
    intro a ha
    simp only [args, List.mem_append, List.mem_cons, List.not_mem_nil, or_false] at ha
    rcases ha with ((rfl | rfl | rfl) | ha) | rfl
    · exact w.isLt
    · exact b.isLt
    · exact off.isLt
    · exact addrArgs_lt addr a ha
    · exact len.isLt
  have at3 : argAddr (mboxArgs args) 3 = addr.toNat := by
    show addr.toNat % 2 ^ 32 + 2 ^ 32 * (addr.toNat / 2 ^ 32) = addr.toNat
    omega
  have fits : writeFits (mboxArgs args) := ⟨hw1, hb1, h2, h5, lo, hi, fit, at3.symm ▸ mem⟩
  have eq {u : State} (step : ChannelStep ch s u) :=
    cmdFlashWrite_free (ch := ch) fits ((step.bankFree w.toNat b.toNat).trans hf)
  refine ⟨fun hv => ?_, fun e he => ?_⟩
  · refine mboxIssue_answers hr (by decide) hargs fun u step busy => ?_
    have g0 : memWf 0xFF u.flash0 = true := step.flash0.symm ▸ f0
    have g1 : memWf 0xFF u.flash1 = true := step.flash1.symm ▸ f1
    have hl := readLanes_length hv
    have read : readLanes u (argAddr (mboxArgs args) 3) ((mboxArgs args).getD 5 0) = .ok v := by
      rw [at3, step.readLanes]
      exact hv
    have stored := State.flashStored_step g0 g1 (w := w.toNat) (b := b.toNat) (off := off.toNat) (x := v) (hl.symm ▸ fit)
    -- either way the same state, with the status of the devices
    have done : cmdFlashWrite ch (mboxArgs args) u =
        ⟨(((u.flashStored (bankBase w.toNat b.toNat + off.toNat) v).bankChanged w.toNat b.toNat
            ((u.flashStored (bankBase w.toNat b.toNat + off.toNat) v).heldBy w.toNat b.toNat)).progress ch len.toNat),
          if s.flashOff || (s.err0 && s.err1) then 0x0B else 0, if s.flashOff || (s.err0 && s.err1) then [] else [len.toNat], false⟩ := by
      rw [eq step, read]
      simp only [bankWritten, State.flashTook, step.flashOff, step.err0, step.err1]
      cases s.flashOff || (s.err0 && s.err1) <;> rfl
    rw [done]
    have held := State.memRead_bankChanged stored.wf0 stored.wf1 (w := w.toNat) (b := b.toNat)
      ((u.flashStored (bankBase w.toNat b.toNat + off.toNat) v).heldBy w.toNat b.toNat)
      ((bankBase_ge w.toNat b.toNat).trans (Nat.le_add_right _ off.toNat))
    refine ⟨⟨_, mboxRuns_setMbox (stored.busy.trans busy), fun h => ?_⟩, (stored.left step).setMbox _, fun hoff he => ?_, fun hoff he => ?_⟩
    · cases hc : s.flashOff || (s.err0 && s.err1)
      · rfl
      · simp [hc] at h
    · rw [State.setMbox_flash0, State.flash0_progress, (held len.toNat).1]
      simp only [State.flashStored, step.flashOff, step.err0, hoff, he]
      exact hl ▸ memRead_devPut g0 u.freeCtr (bankBase w.toNat b.toNat + off.toNat) v
    · rw [State.setMbox_flash1, State.flash1_progress, (held len.toNat).2]
      simp only [State.flashStored, step.flashOff, step.err1, hoff, he]
      exact hl ▸ memRead_devPut g1 (u.freeCtr + 1) (bankBase w.toNat b.toNat + off.toNat) v
  · refine mboxIssue_leaves hr (by decide) hargs fun u step => ?_
    rw [eq step, at3, step.readLanes, show (mboxArgs args).getD 5 0 = len.toNat from rfl, he]
    rfl

end

end Sys2Proof.Machine
end

section
/-! # The trial of a bank, the anti-rollback counters and the boot table (R52, R400, R420) -/

namespace Sys2Proof.Machine
open Sys2Proof

/-! Selecting and confirming (R52). -/

/-- A descriptor with a bank's trial flag and counter, and a descriptor with the bank beside them. -/
def trialPut (d : List Byte) (w on : Nat) : List Byte := octPut (octPut d (trialFld w) on) (trialsFld w) 0
def selectPut (d : List Byte) (w b : Nat) : List Byte := trialPut (octPut d (bankFld w) b) w 1

section
variable {d : List Byte} (hd : d.length = 64) {w : Nat} (hw : w ≤ 1)
include hd hw

theorem trialPut_length (on : Nat) : (trialPut d w on).length = 64 := by
  obtain rfl | rfl : w = 0 ∨ w = 1 := by omega
  · exact descPut_length (descPut_length hd (trialFld 0) on) (trialsFld 0) 0
  · exact descPut_length (descPut_length hd (trialFld 1) on) (trialsFld 1) 0

/-- The trial flag and counter are those given, and the bank is as before. -/
theorem octF_trialPut {on : Nat} (hon : on ≤ 1) : octF (trialPut d w on) (trialFld w) = on ∧ octF (trialPut d w on) (trialsFld w) = 0 ∧
    octF (trialPut d w on) (bankFld w) = octF d (bankFld w) := by
  have small : on % 2 ^ 1 = on := by omega
  unfold trialPut
  obtain rfl | rfl : w = 0 ∨ w = 1 := by omega
  · have l1 := descPut_length hd (trialFld 0) on
    rw [octF_descPut_apart l1 (trialsFld 0) _ (g := trialFld 0), octF_descPut_same hd (trialFld 0), octF_descPut_same l1 (trialsFld 0),
      octF_descPut_apart l1 (trialsFld 0) _ (g := bankFld 0), octF_descPut_apart hd (trialFld 0) _ (g := bankFld 0)]
    exact ⟨small, rfl, rfl⟩
  · have l1 := descPut_length hd (trialFld 1) on
    rw [octF_descPut_apart l1 (trialsFld 1) _ (g := trialFld 1), octF_descPut_same hd (trialFld 1), octF_descPut_same l1 (trialsFld 1),
      octF_descPut_apart l1 (trialsFld 1) _ (g := bankFld 1), octF_descPut_apart hd (trialFld 1) _ (g := bankFld 1)]
    exact ⟨small, rfl, rfl⟩

theorem bankPut_length (b : Nat) : (octPut d (bankFld w) b).length = 64 := by
  obtain rfl | rfl : w = 0 ∨ w = 1 := by omega
  · exact descPut_length hd (bankFld 0) b
  · exact descPut_length hd (bankFld 1) b

theorem octF_bankPut {b : Nat} (hb : b ≤ 1) : octF (octPut d (bankFld w) b) (bankFld w) = b := by
  have small : b % 2 ^ 1 = b := by omega
  obtain rfl | rfl : w = 0 ∨ w = 1 := by omega
  · exact (octF_descPut_same hd (bankFld 0) b).trans small
  · exact (octF_descPut_same hd (bankFld 1) b).trans small

/-- The steward's additions leave the fields of the banks. -/
theorem State.bankFlds_descNext (s : State) : octF (s.descNext d) (bankFld w) = octF d (bankFld w) ∧
    octF (s.descNext d) (trialFld w) = octF d (trialFld w) ∧ octF (s.descNext d) (trialsFld w) = octF d (trialsFld w) := by
  obtain rfl | rfl : w = 0 ∨ w = 1 := by omega
  · exact ⟨s.octF_descNext hd (g := bankFld 0), s.octF_descNext hd (g := trialFld 0), s.octF_descNext hd (g := trialsFld 0)⟩
  · exact ⟨s.octF_descNext hd (g := bankFld 1), s.octF_descNext hd (g := trialFld 1), s.octF_descNext hd (g := trialsFld 1)⟩

end

section
variable {a : List Nat} {u : State}

theorem cmdBankSelect_verified (hw : a.getD 0 0 ≤ 1) (hb : a.getD 1 0 ≤ 1) (hv : (a.getD 0 0, a.getD 1 0) ∈ u.com.verified) :
    cmdBankSelect a u = cmdOk (u.descWrite (selectPut u.desc (a.getD 0 0) (a.getD 1 0))) [] := by
  have taken : ¬(1 < a.getD 0 0 ∨ 1 < a.getD 1 0 ∨ !u.com.verified.contains (a.getD 0 0, a.getD 1 0)) := by
    rintro (h | h | h)
    · omega
    · omega
    · rw [List.contains_iff_mem.2 hv] at h
      cases h
  unfold cmdBankSelect
  simp only [if_neg taken]
  rfl

theorem cmdBankSelect_unverified (hv : (a.getD 0 0, a.getD 1 0) ∉ u.com.verified) : cmdBankSelect a u = cmdCode u stSTATE := by
  unfold cmdBankSelect
  exact if_pos (.inr (.inr (by simpa using hv)))

theorem cmdBankConfirm_idle (ht : u.onTrial (a.getD 0 0) = false) : cmdBankConfirm a u = cmdCode u stSTATE := by
  unfold cmdBankConfirm
  exact if_pos (.inr (.inl (by rw [ht]; rfl)))

/-- Without a trial BANK_CONFIRM ends in STATE; with one it ends the trial. -/
theorem cmdBankConfirm_trial (hw : a.getD 0 0 ≤ 1) (ht : u.onTrial (a.getD 0 0) = true) (hi : u.up .inkwell = true) :
    cmdBankConfirm a u =
      let s := u.descWrite (trialPut u.desc (a.getD 0 0) 0)
      let b := u.bankOf (a.getD 0 0)
      if a.getD 0 0 = 0 then cmdOk (s.mcountTo 1 (Config.firmwareSecVersion (s.fwOct 0 b))) []
      else cmdOk ((s.mcountTo 0 (octF (s.flash 0 (bankBase 1 b) 256) E.T2_2_SEC_VERSION)).bootRebuild b) [] := by
  have taken : ¬(1 < a.getD 0 0 ∨ !u.onTrial (a.getD 0 0) ∨ !u.up .inkwell) := by
    rintro (h | h | h)
    · omega
    · rw [ht] at h
      cases h
    · rw [hi] at h
      cases h
  unfold cmdBankConfirm
  simp only [if_neg taken]
  rfl

end

/-! The anti-rollback counters. -/

/-- Steps that raise one of the first two counters and record it. -/
theorem State.mcountTo_step (s : State) {k : Nat} (hk : k < 2) (v : Nat) :
    RegsOutside [regAt .key .KEY_MCOUNT k, evrAt] s (s.mcountTo k v) ∧ (s.mcountTo k v).quiet = s.quiet ∧
      (s.mcountTo k v).mcount k = max (s.mcount k) (min v 0xFFFFFFFF) := by
  have top : s.mcount k < 2 ^ 32 := bitsOf_lt ..
  unfold State.mcountTo
  split
  next h => exact ⟨.refl _ s, rfl, by omega⟩
  next h =>
    have inside : RegIn [regAt .key .KEY_MCOUNT k, evrAt] .key .KEY_MCOUNT k := regIn_of_mem (.head _)
    refine ⟨((RegsOutside.refl _ s).setFld _ _ _ _ inside).event (by simp) _ _ _ _, (event_quiet ..).trans (State.quiet_setFld ..), ?_⟩
    have stored : (s.setFld .key F.KEY_MCOUNT_COUNT (min v 0xFFFFFFFF) k).mcount k = min v 0xFFFFFFFF :=
      (State.fld_setFld_same _ _ _ _ k (by decide) (by decide)).trans (Nat.mod_eq_of_lt (by
        show min v 0xFFFFFFFF < 2 ^ 32
        omega))
    have kept (u : State) (c x y : Nat) : (u.event .common c x y).mcount k = u.mcount k :=
      (RegsOutside.event (.head _) _ _ _ _ (.refl [evrAt] u)).fld _ _ _ (by interval_cases k <;> decide)
    rw [kept, stored]
    omega

/-- An event after a change of the vault's part. -/
theorem State.event_inked (s : State) (ink : InkSt) (c u v : Nat) :
    RegsOutside [evrAt] s (({ s with ink := ink } : State).event .common c u v) ∧
      (({ s with ink := ink } : State).event .common c u v).flash0 = s.flash0 ∧
      (({ s with ink := ink } : State).event .common c u v).flash1 = s.flash1 := by
  have quiet := event_quiet { s with ink := ink } .common c u v
  have same : RegsOutside [evrAt] s { s with ink := ink } := .of_eq rfl
  exact ⟨same.event (.head _) _ _ _ _, (congrArg State.flash0 quiet :), (congrArg State.flash1 quiet :)⟩

/-- Rebuilding the boot table changes MRAM and records an event. -/
theorem State.bootRebuild_step (s : State) (b : Nat) : RegsOutside [evrAt] s (s.bootRebuild b) ∧
    (s.bootRebuild b).flash0 = s.flash0 ∧ (s.bootRebuild b).flash1 = s.flash1 := by
  unfold State.bootRebuild
  extract_lets seq t ink new
  clear_value new
  exact s.event_inked new _ _ _

end Sys2Proof.Machine
end

section
/-! # Checking an image leaves all but free values and the counts of errors (R49, R50) -/

namespace Sys2Proof.Machine
open Sys2Proof

/-- The state that a step answers. -/
theorem FlashSeen.of_eq {α : Type} {s t : State} {p : α × State} {r : α} (h : FlashSeen s p.2) (e : p = (r, t)) : FlashSeen s t := by
  rwa [e] at h

theorem State.imgRead_seen (s : State) (src : ImgSrc) (a n : Nat) (good : List Byte → Bool) : FlashSeen s (s.imgRead src a n good).2 := by
  unfold State.imgRead
  cases src with
  | mem b => exact .refl s
  | bank k => exact (s.flashRead_seen _ n good).1
  | flash1 k =>
    dsimp only
    split
    next b t h => exact ((FlashSeen.refl s).flashRd 1 (bankBase 1 k + a) n).of_eq h
    next t h => exact (((FlashSeen.refl s).flashRd 1 (bankBase 1 k + a) n).of_eq h).countUnc

/-- Reading the gaps between the sections. -/
theorem gaps_seen {s t : State} (h : FlashSeen s t) (src : ImgSrc) (gaps : List (Nat × Nat)) :
    FlashSeen s (gaps.foldl (fun (x : Nat × State) g =>
      if x.1 ≠ 0 then x
      else
        match x.2.imgRead src g.1 (g.2 - g.1) (fun _ => true) with
        | (none, s) => (stFLASH, s)
        | (some z, s) => (if z.all (fun v => decide (v = 0)) then 0 else stFORMAT, s)) (0, t)).2 := by
  refine foldl_keeps (I := fun x : Nat × State => FlashSeen s x.2) (fun x g hx => ?_) gaps h
  split
  · exact hx
  · have seen := hx.trans (x.2.imgRead_seen src g.1 (g.2 - g.1) fun _ => true)
    split
    next u e => exact seen.of_eq e
    next z u e => exact seen.of_eq e

theorem State.imageHead_seen (s : State) (src : ImgSrc) (len : Nat) : FlashSeen s (s.imageHead src len).2 := by
  have first := s.imgRead_seen src 0 256 fun _ => true
  unfold State.imageHead
  split
  next t e => exact first.of_eq e
  next h t e =>
    have seen := first.of_eq e
    split
    · exact seen
    · have second := seen.trans (t.imgRead_seen src 0x100 (signedLen h - 0x100 + 144) fun _ => true)
      split
      next u e => exact second.of_eq e
      next b u e =>
        dsimp only
        split
        · exact second.of_eq e
        · exact gaps_seen (second.of_eq e) src _

theorem State.imageSecs_seen (src : ImgSrc) (ver : Nat) (ms : List ManEnt) (s : State) : FlashSeen s (s.imageSecs src ver ms).2 := by
  induction ms generalizing s with
  | nil => exact .refl s
  | cons m ms ih =>
    unfold State.imageSecs
    extract_lets good
    have read := s.imgRead_seen src m.off m.len good
    split
    next t e => exact read.of_eq e
    next b t e =>
      have seen := read.of_eq e
      split
      · exact seen
      · exact seen.trans (ih t)

theorem State.imageCheck_seen (s : State) (src : ImgSrc) (len : Nat) (on : List Nat) : FlashSeen s (s.imageCheck src len on).st := by
  have head := s.imageHead_seen src len
  unfold State.imageCheck
  split
  next h t e =>
    have seen := head.of_eq e
    extract_lets hd img
    split
    · exact seen
    · have secs := seen.trans (State.imageSecs_seen src img.secVer h.2.2 t)
      split
      next r u e =>
        have seen2 := secs.of_eq e
        split
        · exact seen2
        · extract_lets img'
          split
          · exact seen2
          · exact seen2

theorem State.imageVerify_seen (s : State) (src : ImgSrc) (len : Nat) : FlashSeen s (s.imageVerify src len).2.2 := by
  have checked := s.imageCheck_seen src len [0, 1, 2, 3]
  unfold State.imageVerify
  extract_lets r
  split
  · exact checked
  · exact checked

theorem State.fwVerify_seen (s : State) (b : Nat) : FlashSeen s (s.fwVerify b).2 := by
  unfold State.fwVerify
  extract_lets good
  have read := (s.flashRead_seen (bankBase 0 b) (bankSize 0) good).1
  split
  next t e => exact read.of_eq e
  next o t e => exact read.of_eq e

end Sys2Proof.Machine
end

section
/-! # FLASH_VERIFY_BANK (R49, R399) -/

namespace Sys2Proof.Machine
open Sys2Proof

/-! FLASH_VERIFY_BANK. -/

/-- How a verification ends: with a status alone, or with the bank listed and results. -/
def bankPass (ch w b : Nat) (s : State) (c : Nat) (res : List Nat) : CmdOut :=
  if c ≠ stOK then cmdCode (s.progress ch (bankSize w)) c
  else cmdOk { s.progress ch (bankSize w) with com := { s.com with verified := s.com.verified ++ [(w, b)] } } res

section
variable {ch : Nat} {a : List Nat} {u : State}

theorem cmdFlashVerify_image (hw : a.getD 0 0 = 1) (hb : a.getD 1 0 ≤ 1) : cmdFlashVerify ch a u =
    bankPass ch 1 (a.getD 1 0) (u.imageVerify (.bank (a.getD 1 0)) (bankSize 1)).2.2 (u.imageVerify (.bank (a.getD 1 0)) (bankSize 1)).1
      (idWords (u.imageVerify (.bank (a.getD 1 0)) (bankSize 1)).2.1) := by
  unfold cmdFlashVerify
  simp only [hw, if_neg (show ¬(1 < 1 ∨ 1 < a.getD 1 0) by omega)]
  rfl

theorem cmdFlashVerify_firmware (hw : a.getD 0 0 = 0) (hb : a.getD 1 0 ≤ 1) : cmdFlashVerify ch a u =
    bankPass ch 0 (a.getD 1 0) (u.fwVerify (a.getD 1 0)).2 (u.fwVerify (a.getD 1 0)).1.1 [(u.fwVerify (a.getD 1 0)).1.2] := by
  unfold cmdFlashVerify
  simp only [hw, if_neg (show ¬(1 < 0 ∨ 1 < a.getD 1 0) by omega)]
  rfl

end

/-- A verification that has read flash counts the bank as verified when it passes, and changes the counts of errors beside. -/
theorem bankPass_ends {ch : Fin 2} {w b c : Nat} {s u v : State} (step : ChannelStep ch s u) (seen : FlashSeen u v) (res : List Nat)
    (m : Option MbRun) :
    let r := bankPass ch w b v c res
    let t := r.st.setMbox ch m
    r.code = c ∧ (c ≠ 0 → r.res = [] ∧ t.com.verified = s.com.verified) ∧ (c = 0 → r.res = res ∧ (w, b) ∈ t.com.verified) ∧
      t.flash0 = s.flash0 ∧ t.flash1 = s.flash1 ∧ t.mem0 = s.mem0 ∧ t.mem1 = s.mem1 ∧
      RegsOutside [stwAt ch, rowAt .blt .BLT_UNC 6, evrAt] s t := by
  have flash0 := seen.flash0.trans step.flash0
  have flash1 := seen.flash1.trans step.flash1
  have mem0 := seen.mem0.trans step.mem0
  have mem1 := seen.mem1.trans step.mem1
  have com := seen.com.trans step.com
  have counts : RegsOutside [stwAt ch, rowAt .blt .BLT_UNC 6, evrAt] u v := seen.regs.cover (by
    intro e he
    simp only [List.mem_cons, List.not_mem_nil, or_false] at he
    rcases he with rfl | rfl
    · exact ⟨_, .tail _ (.head _), by decide, by decide⟩
    · exact ⟨_, .tail _ (.tail _ (.head _)), le_rfl, le_rfl⟩)
  have regs : RegsOutside [stwAt ch, rowAt .blt .BLT_UNC 6, evrAt] s (v.progress ch (bankSize w)) :=
    ((step.regs.mono (by simp)).trans counts).wr _ _ _ _ ⟨_, .head _, by fin_cases ch <;> decide, by fin_cases ch <;> decide⟩
  unfold bankPass
  by_cases hc : c = 0
  · subst hc
    refine ⟨rfl, fun h => absurd rfl h, fun _ => ⟨rfl, ?_⟩, (State.setMbox_flash0 ..).trans flash0, (State.setMbox_flash1 ..).trans flash1,
      (State.setMbox_mem0 ..).trans mem0, (State.setMbox_mem1 ..).trans mem1, ?_⟩
    · rw [State.setMbox_verified]
      exact List.mem_append_right _ (.head _)
    · exact (regs.same rfl).same (State.setMbox_regs ..)
  · rw [if_pos (show c ≠ stOK from hc)]
    have kept : v.com.verified = s.com.verified := by rw [com]
    exact ⟨rfl, fun _ => ⟨rfl, (State.setMbox_verified ..).trans kept⟩, fun h => absurd h hc,
      (State.setMbox_flash0 ..).trans flash0, (State.setMbox_flash1 ..).trans flash1, (State.setMbox_mem0 ..).trans mem0,
      (State.setMbox_mem1 ..).trans mem1, regs.same (State.setMbox_regs ..)⟩

/-- A command that is admitted runs on a state with new words in the channel's registers alone. -/
theorem mboxIssue_does {ch : Fin 2} {op : Nat} {tag : BitVec 16} {args : List Nat} {f : List Nat → State → CmdOut} {s : State}
    {P : State → State → CmdOut → Prop} (h : MboxReady s ch op) (hop : op < 256) (hargs : ∀ a ∈ args, a < 2 ^ 32)
    (hf : f = mboxCmd ch op)
    (hP : ∀ u, ChannelStep ch s u → P ((f (mboxArgs args) u).st.setMbox ch
      (some ⟨op, tag.toNat, mboxArgs args, (f (mboxArgs args) u).code, (f (mboxArgs args) u).res, (f (mboxArgs args) u).wait⟩))
      u (f (mboxArgs args) u)) :
    Answers (ok (mboxIssue ch op tag args f s)) fun t => MboxDoes ch op tag args s t (P t) := by
  have step := s.mboxTaken_step ch op tag args
  refine ⟨_, rfl, s.mboxTaken ch op tag args, step.regs, step.body, ?_⟩
  rw [mboxIssue_ready h hop hargs, ← hf]
  exact ⟨rfl, hP _ step⟩

end Sys2Proof.Machine
end

section
/-! # BANK_SELECT and BANK_CONFIRM, and O11 (R52, R400) -/

namespace Sys2Proof.Machine
open Sys2Proof

/-! BANK_SELECT and BANK_CONFIRM. -/

section
variable {ch : Fin 2} {tag : BitVec 16} {w b : Word} {s u : State}

/-- A descriptor written by a submitted command: what is in use, and what else differs. -/
theorem ChannelStep.descWrite (step : ChannelStep ch s u) (hm : MemsWf s) (hs : octF s.desc E.T2_9_SEQ + 1 < 2 ^ 32) {d : List Byte}
    (hd : d.length = 64) : (u.descWrite d).desc = u.descNext d ∧ octF (u.descNext d) E.T2_9_SEQ = octF s.desc E.T2_9_SEQ + 1 ∧
      (∀ a, 0x10000 ≤ a → memGet 0xFF (u.descWrite d).flash0 a = memGet 0xFF s.flash0 a ∧
        memGet 0xFF (u.descWrite d).flash1 a = memGet 0xFF s.flash1 a) ∧
      (∀ k a n, 0x10000 ≤ a → (u.descWrite d).flash k a n = s.flash k a n) ∧
      RegsOutside [stwAt ch, regAt .stwLoad .STW_BANK] s (u.descWrite d) ∧
      (u.descWrite d).mem0 = s.mem0 ∧ (u.descWrite d).mem1 = s.mem1 ∧
      (u.descWrite d).fld (.stw ch) F.STW_STATUS_BUSY = u.fld (.stw ch) F.STW_STATUS_BUSY := by
  obtain ⟨-, -, f0, f1, -⟩ := hm
  rw [← step.flash0] at f0
  rw [← step.flash1] at f1
  have hs' : octF u.desc E.T2_9_SEQ + 1 < 2 ^ 32 := step.desc.symm ▸ hs
  have regs := u.descWrite_regs d
  refine ⟨u.desc_descWrite hd f0 f1 hs', (u.seq_descNext hd hs').trans (by rw [step.desc]), fun a ha => ?_, fun k a n ha => ?_,
    (step.regs.mono (by simp)).trans (regs.mono (by simp)), (u.mem0_descWrite d).trans step.mem0, (u.mem1_descWrite d).trans step.mem1,
    regs.fld _ _ _ (by fin_cases ch <;> decide)⟩
  · rw [← step.flash0, ← step.flash1]
    exact State.memGet_descWrite f0 f1 hd ha
  · exact (State.flash_descWrite f0 f1 hd k ha n).trans (step.flash k a n)

/-- What BANK_CONFIRM of a bank on trial makes of the counters. -/
theorem ChannelStep.confirmed (step : ChannelStep ch s u) (hm : MemsWf s) (hs : octF s.desc E.T2_9_SEQ + 1 < 2 ^ 32) {n : Nat}
    (hn : n ≤ 1) : let v := u.descWrite (trialPut u.desc n 0)
    octF v.desc (trialFld n) = 0 ∧ octF v.desc (trialsFld n) = 0 ∧ octF v.desc (bankFld n) = octF s.desc (bankFld n) ∧
      (∀ k < 2, v.mcount k = s.mcount k) := by
  intro v
  have len := trialPut_length u.desc_length hn 0
  obtain ⟨now, -, -, -, regs, -⟩ := step.descWrite hm hs len
  obtain ⟨b0, t0, c0⟩ := u.bankFlds_descNext (trialPut_length u.desc_length hn 0) hn
  obtain ⟨t1, c1, b1⟩ := octF_trialPut u.desc_length hn (Nat.zero_le 1)
  rw [show v.desc = _ from now]
  refine ⟨t0.trans t1, c0.trans c1, (b0.trans b1).trans (by rw [step.desc]), fun k hk => ?_⟩
  exact regs.fld _ _ _ (by interval_cases k <;> fin_cases ch <;> decide)

/-- The descriptor in use is not the channel's. -/
theorem State.setMbox_desc (s : State) (ch : Nat) (m : Option MbRun) : (s.setMbox ch m).desc = s.desc :=
  State.desc_congr (State.setMbox_flash0 ..) (State.setMbox_flash1 ..)

/-- BANK_SELECT of a verified bank. -/
theorem bankSelect_verified (hm : MemsWf s) (hs : octF s.desc E.T2_9_SEQ + 1 < 2 ^ 32) (hw : w.toNat ≤ 1) (hb : b.toNat ≤ 1)
    (hr : MboxReady s ch 0x13) (hv : (w.toNat, b.toNat) ∈ s.com.verified) :
    Answers (exec (.bankSelect ch tag w b) s) fun t =>
      MboxRuns t ch 0x13 tag [w.toNat, b.toNat] 0 [] false ∧
      octF t.desc (bankFld w.toNat) = b.toNat ∧ octF t.desc (trialFld w.toNat) = 1 ∧ octF t.desc (trialsFld w.toNat) = 0 ∧
      octF t.desc E.T2_9_SEQ = octF s.desc E.T2_9_SEQ + 1 ∧
      (∀ a, 0x10000 ≤ a → memGet 0xFF t.flash0 a = memGet 0xFF s.flash0 a ∧ memGet 0xFF t.flash1 a = memGet 0xFF s.flash1 a) ∧
      RegsOutside [stwAt ch, regAt .stwLoad .STW_BANK] s t ∧ t.mem0 = s.mem0 ∧ t.mem1 = s.mem1 := by
  refine mboxIssue_answers hr (by decide) (by simpa using ⟨w.isLt, b.isLt⟩) fun u step busy => ?_
  have eq : cmdBankSelect (mboxArgs [w.toNat, b.toNat]) u = cmdOk (u.descWrite (selectPut u.desc w.toNat b.toNat)) [] :=
    cmdBankSelect_verified hw hb (by rw [step.com]; exact hv)
  have l1 := bankPut_length u.desc_length hw b.toNat
  have l2 : (selectPut u.desc w.toNat b.toNat).length = 64 := trialPut_length l1 hw 1
  obtain ⟨now, seq, flash, -, regs, mem0, mem1, kept⟩ := step.descWrite hm hs l2
  obtain ⟨b0, t0, c0⟩ := u.bankFlds_descNext l2 hw
  obtain ⟨t1, c1, b1⟩ := octF_trialPut l1 hw le_rfl
  have b2 := octF_bankPut u.desc_length hw hb
  rw [eq]
  refine ⟨mboxRuns_setMbox (kept.trans busy), ?_⟩
  rw [State.setMbox_desc, State.setMbox_flash0, State.setMbox_flash1, State.setMbox_mem0, State.setMbox_mem1]
  simp only [cmdOk]
  rw [now]
  exact ⟨b0.trans (b1.trans b2), t0.trans t1, c0.trans c1, seq, flash, regs.same (State.setMbox_regs ..), mem0, mem1⟩

/-- BANK_CONFIRM of a firmware bank on trial. -/
theorem bankConfirm_firmware (hm : MemsWf s) (hs : octF s.desc E.T2_9_SEQ + 1 < 2 ^ 32) (hr : MboxReady s ch 0x14) (hw : w.toNat = 0)
    (ht : s.onTrial 0 = true) (hi : s.up .inkwell = true) :
    Answers (exec (.bankConfirm ch tag w) s) fun t =>
      MboxRuns t ch 0x14 tag [0] 0 [] false ∧ octF t.desc (trialFld 0) = 0 ∧ octF t.desc (trialsFld 0) = 0 ∧
      octF t.desc (bankFld 0) = octF s.desc (bankFld 0) ∧
      t.mcount 1 = max (s.mcount 1) (min (Config.firmwareSecVersion (s.fwOct 0 (s.bankOf 0))) 0xFFFFFFFF) ∧
      RegsOutside [stwAt ch, regAt .stwLoad .STW_BANK, regAt .key .KEY_MCOUNT 1, evrAt] s t ∧ t.mem0 = s.mem0 ∧ t.mem1 = s.mem1 := by
  rw [show ([0] : List Nat) = [w.toNat] by rw [hw]]
  refine mboxIssue_answers hr (by decide) (by simpa using w.isLt) fun u step busy => ?_
  have eq := cmdBankConfirm_trial (a := mboxArgs [w.toNat]) (u := u) (hw.symm ▸ Nat.zero_le 1) ((step.onTrial _).trans (hw.symm ▸ ht))
    ((State.up_congr step.dom _).trans hi)
  have len := trialPut_length u.desc_length (Nat.zero_le 1) 0
  obtain ⟨-, -, -, flash, regs, mem0, mem1, kept⟩ := step.descWrite hm hs len
  obtain ⟨trial, trials, bank, counts⟩ := step.confirmed hm hs (Nat.zero_le 1)
  have zero : (mboxArgs [w.toNat]).getD 0 0 = 0 := hw
  rw [eq, zero]
  simp only [if_true]
  generalize hv : u.descWrite (trialPut u.desc 0 0) = v at *
  have fw : v.fwOct 0 (u.bankOf 0) = s.fwOct 0 (s.bankOf 0) := by
    rw [State.fwOct, State.fwOct, step.bankOf, flash _ _ _ (bankBase_ge ..)]
  obtain ⟨raised, quiet, count⟩ := v.mcountTo_step (k := 1) (by decide) (Config.firmwareSecVersion (v.fwOct 0 (u.bankOf 0)))
  have desc : (v.mcountTo 1 (Config.firmwareSecVersion (v.fwOct 0 (u.bankOf 0)))).desc = v.desc :=
    State.desc_congr (congrArg State.flash0 quiet :) (congrArg State.flash1 quiet :)
  refine ⟨mboxRuns_setMbox ((raised.fld _ _ _ (by fin_cases ch <;> decide)).trans (kept.trans busy)), ?_⟩
  rw [State.setMbox_desc, State.setMbox_mem0, State.setMbox_mem1, State.mcount, State.setMbox_fld]
  simp only [cmdOk]
  rw [desc]
  refine ⟨trial, trials, bank, count.trans (by rw [counts 1 (by decide), fw]), ?_, (congrArg State.mem0 quiet :).trans mem0,
    (congrArg State.mem1 quiet :).trans mem1⟩
  exact ((regs.mono (by simp)).trans (raised.mono (by simp))).same (State.setMbox_regs ..)

/-- BANK_CONFIRM of an image bank on trial. -/
theorem bankConfirm_image (hm : MemsWf s) (hs : octF s.desc E.T2_9_SEQ + 1 < 2 ^ 32) (hr : MboxReady s ch 0x14) (hw : w.toNat = 1)
    (ht : s.onTrial 1 = true) (hi : s.up .inkwell = true) :
    Answers (exec (.bankConfirm ch tag w) s) fun t =>
      MboxRuns t ch 0x14 tag [1] 0 [] false ∧ octF t.desc (trialFld 1) = 0 ∧ octF t.desc (trialsFld 1) = 0 ∧
      t.mcount 0 = max (s.mcount 0) (octF (s.flash 0 (bankBase 1 (s.bankOf 1)) 256) E.T2_2_SEC_VERSION) := by
  rw [show ([1] : List Nat) = [w.toNat] by rw [hw]]
  refine mboxIssue_answers hr (by decide) (by simpa using w.isLt) fun u step busy => ?_
  have eq := cmdBankConfirm_trial (a := mboxArgs [w.toNat]) (u := u) hw.le ((step.onTrial _).trans (hw.symm ▸ ht))
    ((State.up_congr step.dom _).trans hi)
  have len := trialPut_length u.desc_length le_rfl 0
  obtain ⟨-, -, -, flash, -, -, -, kept⟩ := step.descWrite hm hs len
  obtain ⟨trial, trials, -, counts⟩ := step.confirmed hm hs le_rfl
  have one : (mboxArgs [w.toNat]).getD 0 0 = 1 := hw
  rw [eq, one]
  simp only [if_neg Nat.one_ne_zero]
  generalize hv : u.descWrite (trialPut u.desc 1 0) = v at *
  rw [flash _ _ _ (bankBase_ge ..), step.bankOf]
  have small := octF_lt (s.flash 0 (bankBase 1 (s.bankOf 1)) 256) E.T2_2_SEC_VERSION
  generalize octF (s.flash 0 (bankBase 1 (s.bankOf 1)) 256) E.T2_2_SEC_VERSION = x at *
  obtain ⟨raised, quiet, count⟩ := v.mcountTo_step (k := 0) (by decide) x
  generalize v.mcountTo 0 x = z at *
  obtain ⟨booted, flash0, flash1⟩ := z.bootRebuild_step (s.bankOf 1)
  have desc : (z.bootRebuild (s.bankOf 1)).desc = v.desc :=
    (State.desc_congr flash0 flash1).trans (State.desc_congr (congrArg State.flash0 quiet :) (congrArg State.flash1 quiet :))
  have busy' : (z.bootRebuild (s.bankOf 1)).fld (.stw ch) F.STW_STATUS_BUSY = 1 :=
    (booted.fld _ _ _ (by fin_cases ch <;> decide)).trans ((raised.fld _ _ _ (by fin_cases ch <;> decide)).trans (kept.trans busy))
  refine ⟨mboxRuns_setMbox busy', ?_⟩
  rw [State.setMbox_desc, State.mcount, State.setMbox_fld]
  simp only [cmdOk]
  rw [desc, booted.fld _ _ _ (by decide)]
  refine ⟨trial, trials, count.trans ?_⟩
  rw [counts 0 (by decide)]
  have : x < 2 ^ 32 := small
  omega

end

/-- Settles O11. -/
theorem flashBanks : Obligations.FlashBanks := by
  unfold Obligations.FlashBanks
  refine ⟨fun ch tag w b off len addr v s hm hw hb => ?_, fun ch tag w b s hm hs hw hb => ?_⟩
  · refine ⟨fun hr hf => ?_, fun hr hf => ?_, fun hr h2 h5 lo hi fit mem hf => ?_⟩
    · obtain ⟨t, ht, runs, left, erased⟩ := flashEraseBank_free (tag := tag) hm hw hb hr hf
      exact ⟨t, ht, runs, ⟨left.outside, left.unverified, left.mem0, left.mem1, left.regs⟩,
        fun hoff he a h1 h2 => (erased a h1 h2 hoff).1 he, fun hoff he a h1 h2 => (erased a h1 h2 hoff).2 he⟩
    · exact mboxIssue_leaves hr (by decide) (by simpa using ⟨w.isLt, b.isLt⟩)
        fun u step => cmdFlashErase_held (a := mboxArgs [w.toNat, b.toNat]) hw hb ((step.bankFree _ _).trans hf)
    · obtain ⟨done, failed⟩ := flashWrite_free (tag := tag) (v := v) hm hw hb hr h2 h5 lo hi fit mem hf
      refine ⟨fun hv => ?_, failed _⟩
      obtain ⟨t, ht, runs, left, took0, took1⟩ := done hv
      exact ⟨t, ht, runs, ⟨left.outside, left.unverified, left.mem0, left.mem1, left.regs⟩, took0, took1⟩
  · have two : ∀ x ∈ [w.toNat, b.toNat], x < 2 ^ 32 := by simpa using ⟨w.isLt, b.isLt⟩
    have one : ∀ x ∈ [w.toNat], x < 2 ^ 32 := by simpa using w.isLt
    refine ⟨fun hr hv => ?_, fun hr hv => ?_, fun hr ht => ?_, fun hr hw0 ht hi => ?_, fun hr hw1 ht hi => ?_, fun hr hw1 => ?_,
      fun hr hw0 => ?_⟩
    · exact bankSelect_verified hm hs hw hb hr hv
    · exact mboxIssue_leaves hr (by decide) two fun u step => cmdBankSelect_unverified (by rw [step.com]; exact hv)
    · exact mboxIssue_leaves hr (by decide) one fun u step => cmdBankConfirm_idle (a := mboxArgs [w.toNat]) ((step.onTrial _).trans ht)
    · exact bankConfirm_firmware hm hs hr hw0 ht hi
    · exact bankConfirm_image hm hs hr hw1 ht hi
    · refine mboxIssue_does hr (by decide) two rfl fun u step => ?_
      rw [cmdFlashVerify_image (a := mboxArgs [w.toNat, b.toNat]) hw1 hb]
      obtain ⟨code, fails, passes, rest⟩ := bankPass_ends (w := 1) (b := b.toNat) step (u.imageVerify_seen (.bank b.toNat) (bankSize 1)) _ _
      exact ⟨code, fun h => (fails (code ▸ h)).2, fun h => (passes (code ▸ h)).2, rest⟩
    · refine mboxIssue_does hr (by decide) two rfl fun u step => ?_
      rw [cmdFlashVerify_firmware (a := mboxArgs [w.toNat, b.toNat]) hw0 hb]
      obtain ⟨code, fails, passes, flash0, flash1, mem0, mem1, -⟩ := bankPass_ends (w := 0) (b := b.toNat) step (u.fwVerify_seen b.toNat) _ _
      exact ⟨code, fun h => fails (code ▸ h), fun h => passes (code ▸ h), flash0, flash1, mem0, mem1⟩

end Sys2Proof.Machine
end

section
/-! # A bank switch leaves Common's state but the MACs of the management ports (R47) -/

namespace Sys2Proof.Machine
open Sys2Proof

/-- Common's state beside the MACs of the management ports. -/
def State.office (s : State) : CommonSt := { s.com with mg := [] }

/-- Steps that leave Common's state beside the MACs of the management ports. -/
def OfficeKept (s t : State) : Prop := t.office = s.office

namespace OfficeKept
variable {s t u : State}

theorem refl (s : State) : OfficeKept s s := rfl

/-- A step that leaves all of Common's state. -/
theorem same (h : OfficeKept s t) (e : u.com = t.com) : OfficeKept s u :=
  (congrArg (fun x : CommonSt => { x with mg := [] }) e : u.office = t.office).trans h

theorem ite (p : Prop) [Decidable p] {a b : State} (ha : OfficeKept s a) (hb : OfficeKept s b) : OfficeKept s (if p then a else b) :=
  iteInduction (motive := OfficeKept s) (fun _ => ha) fun _ => hb

theorem foldl {α : Type} {f : State → α → State} (hf : ∀ u x, OfficeKept s u → OfficeKept s (f u x)) (l : List α)
    (h : OfficeKept s t) : OfficeKept s (l.foldl f t) := foldl_keeps hf l h

variable (h : OfficeKept s t)
include h

theorem staged : t.com.staged = s.com.staged := (congrArg CommonSt.staged h :)
theorem fetch : t.com.fetch = s.com.fetch := (congrArg CommonSt.fetch h :)
theorem built : t.com.built = s.com.built := (congrArg CommonSt.built h :)
theorem switches : t.com.switches = s.com.switches := (congrArg CommonSt.switches h :)
theorem active : t.com.active = s.com.active := (congrArg CommonSt.active h :)
theorem imageId : t.com.imageId = s.com.imageId := (congrArg CommonSt.imageId h :)
theorem imageSec : t.com.imageSec = s.com.imageSec := (congrArg CommonSt.imageSec h :)
theorem mbox (ch : Nat) : t.mbox ch = s.mbox ch := by
  have h0 : t.com.mb0 = s.com.mb0 := (congrArg CommonSt.mb0 h :)
  have h1 : t.com.mb1 = s.com.mb1 := (congrArg CommonSt.mb1 h :)
  rw [State.mbox, State.mbox, h0, h1]

/-! Stores. -/

theorem wr (p : Page) (r : RegId) (k : Nat) (v : Word) : OfficeKept s (t.wr p r k v) := h.same rfl
theorem setFld (p : Page) (f : Fld) (v k : Nat) : OfficeKept s (t.setFld p f v k) := h.same rfl
theorem setBit (p : Page) (f : Fld) (k : Nat) : OfficeKept s (t.setBit p f k) := h.same rfl
theorem bump (p : Page) (f : Fld) (k n : Nat) : OfficeKept s (t.bump p f k n) := h.same rfl
theorem setWin (a : Nat) (v : Word) : OfficeKept s (t.setWin a v) := h.same rfl
theorem setWinWords (a n v : Nat) : OfficeKept s (t.setWinWords a n v) := h.same (congrArg State.com (t.body_setWinWords a n v) :)
theorem setEnt (a : Nat) (f : EFld) (v : Nat) : OfficeKept s (t.setEnt a f v) := h.same (congrArg State.com (t.body_setEnt a f v) :)
theorem setPlane (p : Plane) (x : PlaneSt) : OfficeKept s (t.setPlane p x) := by cases p <;> exact h.same rfl
theorem setLane (l : Lane) (x : LaneSt) : OfficeKept s (t.setLane l x) := by cases l <;> exact h.same rfl
theorem memW (l : Lane) (a : Nat) (b : List Byte) : OfficeKept s (t.memW l a b) := by cases l <;> exact h.same rfl

/-! Windows and tables. -/

theorem clearRange (a n : Nat) : OfficeKept s (t.clearRange a n) := h.same rfl
theorem putRange (a : Nat) (l : List (Nat × Word)) : OfficeKept s (t.putRange a l) := foldl (fun _ _ h => h.setWin _ _) l h
theorem swapRange (a b n : Nat) : OfficeKept s (t.swapRange a b n) := (((h.clearRange _ _).clearRange _ _).putRange _ _).putRange _ _
theorem swapWins (type k : Nat) : OfficeKept s (t.swapWins type k) := foldl (fun _ _ h => h.swapRange _ _ _) _ h
theorem keepTable (old act stride : Nat) (ns : List Nat) : OfficeKept s (t.keepTable old act stride ns) :=
  foldl (fun _ _ h => h.setWinWords _ _ _) ns h

theorem logStart (type k : Nat) (on : Bool) : OfficeKept s (t.logStart type k on) :=
  h.same (congrArg State.com (t.core_logStart type k on) :)

/-! Lane memory and its page log. -/

theorem dirtyPage (l : Lane) (i a : Nat) : OfficeKept s (t.dirtyPage l i a) := by
  unfold State.dirtyPage
  cases t.loggedOwner l a with
  | none => exact h
  | some o =>
    have hm := h.memW l
    exact ite _ (hm _ _) (ite _ (((hm _ _).bump _ _ _ _).setBit _ _ _) (((hm _ _).memW _ _ _).setFld _ _ _ _))

theorem memWLog (l : Lane) (i a : Nat) (b : List Byte) : OfficeKept s (t.memWLog l i a b) :=
  ite _ (h.memW _ _ _) (foldl (fun _ _ h => h.dirtyPage _ _ _) _ (h.memW _ _ _))

theorem memInit (l : Lane) (a : Nat) : OfficeKept s (t.memInit l a) := by cases l <;> exact h.same rfl
theorem memClear (l : Lane) (a n : Nat) : OfficeKept s (t.memClear l a n) := by cases l <;> exact h.same rfl

theorem memZero (l : Lane) (a n : Nat) : OfficeKept s (t.memZero l a n) := by
  unfold State.memZero
  dsimp only
  split
  · exact h.memClear _ _ _
  · exact (h.memClear _ _ _).memW _ _ _

/-! Ports and their buffers. -/

theorem capture (p : Plane) (port : Nat) (tx : Bool) (stamp cls v : Nat) (cut : Bool) (o : List Byte) :
    OfficeKept s (t.capture p port tx stamp cls v cut o) := by
  unfold State.capture
  refine ite _ h ?_
  split
  · exact h
  · exact ite _ ((h.setPlane _ _).bump _ _ _ _) (((foldl (fun _ _ h => h.memWLog _ _ _ _) _ h).setPlane _ _).setFld _ _ _ _)

theorem bufShow (p : Plane) : OfficeKept s (t.bufShow p) := ite _ ((h.setFld _ _ _ _).setFld _ _ _ _) (h.setFld _ _ _ _)
theorem xonCheck (p : Plane) (i c : Nat) : OfficeKept s (t.xonCheck p i c) := ite _ h (ite _ h (h.setPlane _ _))

theorem bufFree (p : Plane) (b : Nat) : OfficeKept s (t.bufFree p b) := by
  unfold State.bufFree
  dsimp only
  split
  · exact h
  · exact ((ite _ (h.setPlane _ _) ((h.setPlane _ _).setFld _ _ _ _)).bufShow _).xonCheck _ _ _

theorem bufDrop (p : Plane) (b : Nat) : OfficeKept s (t.bufDrop p b) := by
  unfold State.bufDrop
  dsimp only
  split
  · exact h
  · exact ite _ (h.bufFree _ _) (h.setPlane _ _)

theorem bufResize (p : Plane) (b : Nat) (o : List Byte) (c : Nat) (f : Option Nat) : OfficeKept s (t.bufResize p b o c f) := by
  unfold State.bufResize
  dsimp only
  split
  · exact h
  · exact ((ite _ (h.setPlane _ _) ((h.setPlane _ _).setFld _ _ _ _)).bufShow _).xonCheck _ _ _

theorem freezeBuf (p : Plane) (b : Nat) : OfficeKept s (t.freezeBuf p b) := by
  unfold State.freezeBuf
  split
  · exact h
  · exact ite _ h (((h.setPlane _ _).setFld _ _ _ _).xonCheck _ _ _)

theorem freezePort (p : Plane) (e : Nat) : OfficeKept s (t.freezePort p e) :=
  foldl (fun _ _ h => foldl (fun _ _ h => h.freezeBuf _ _) _ (h.setPlane _ _)) _ h

theorem flushPort (p : Plane) (e : Nat) : OfficeKept s (t.flushPort p e) := by
  refine foldl (fun u c h => ?_) _ h
  refine (foldl (fun v k h => ?_) _ (h.setPlane p _)).setFld _ _ _ _
  split
  · exact h
  · exact ((h.bump _ _ _ _).capture _ _ _ _ _ _ _ _).bufDrop _ _

theorem abortTx (p : Plane) (i : Nat) : OfficeKept s (t.abortTx p i) := by
  unfold State.abortTx
  extract_lets m
  split
  · exact h
  next x _ =>
    extract_lets v w
    have hw : OfficeKept s w := (ite _ ((h.setPlane _ _).setPlane _ _) (h.setPlane _ _)).bump _ _ _ _
    split
    · exact hw.bufDrop _ _
    · exact hw

theorem truncateRx (p : Plane) (i : Nat) : OfficeKept s (t.truncateRx p i) := by
  unfold State.truncateRx
  extract_lets m
  split
  · exact h
  next r _ =>
    extract_lets v x
    have hx : OfficeKept s x := by
      refine foldl (fun y e h => ?_) _ ((((h.setPlane _ _).bump _ _ _ _).bump _ _ _ _).capture _ _ _ _ _ _ _ _)
      dsimp only
      split
      · exact h.setPlane _ _
      · exact h
    split
    · exact (hx.bufResize _ _ _ _ _).bufDrop _ _
    · exact hx

theorem linkDown (p : Plane) (i : Nat) : OfficeKept s (t.linkDown p i) := by
  unfold State.linkDown
  extract_lets u v w x hold
  have hx : OfficeKept s x :=
    (((((h.truncateRx p i).abortTx p i).setFld _ _ _ _).setBit _ _ _).bump _ _ _ _ |>.setFld _ _ _ _).freezePort p i
  exact ite _ (hx.flushPort p i) (hx.setPlane _ _)

theorem retrain (p : Plane) (i : Nat) : OfficeKept s (t.retrain p i) := h.same rfl

end OfficeKept

end Sys2Proof.Machine
end

section
/-! # A bank switch of each region leaves Common's state (R47) -/

namespace Sys2Proof.Machine.OfficeKept
open Sys2Proof
variable {s t : State} (h : OfficeKept s t)
include h

/-! Staged registers. -/

theorem writePrtCfg (p : Plane) (i : Nat) (v : Word) : OfficeKept s (t.writePrtCfg p i v) :=
  ite _ (h.wr _ _ _ _) ((ite _ ((h.wr _ _ _ _).linkDown p i) (h.wr _ _ _ _)).retrain p i)

theorem setMac (p : Plane) (i : Nat) (m : PortMac) : OfficeKept s (t.setMac p i m) := ite _ (h.setPlane _ _) h

theorem writeMaxlen (p : Plane) (i : Nat) (v : Word) : OfficeKept s (t.writeMaxlen p i v) :=
  ite _ h ((h.setMac _ _ _).setFld _ _ _ _)

theorem regStore (p : Page) (r : RegId) (k : Nat) (v : Word) : OfficeKept s (t.regStore p r k v) := by
  unfold State.regStore
  split
  · exact h.writePrtCfg _ _ _
  · exact h.wr _ _ _ _
  · exact ite _ h (h.writeMaxlen _ _ _)
  · exact h.writeMaxlen _ _ _
  · exact h.wr _ _ _ _
  · exact ite _ h (h.wr _ _ _ _)
  · exact h.wr _ _ _ _

theorem regCommit (p : Page) (r : RegId) (k : Nat) (v : Word) : OfficeKept s (t.regCommit p r k v) := by
  unfold State.regCommit
  split
  · exact h.wr _ _ _ _
  · exact h.regStore _ _ _ _

theorem applyRegs (type k : Nat) (base : Bool) : OfficeKept s (t.applyRegs type k base) := by
  refine foldl (fun u x h => ?_) _ h
  dsimp only
  split
  · exact h
  · have hu : OfficeKept s { u with shreg := assocDel u.shreg (regAddr x.1 x.2.1 x.2.2) } := h.same rfl
    exact ite _ hu (hu.regCommit _ _ _ _)

/-! PARTITION and MAPLAYOUT. -/

theorem setInsState (l : Lane) (n v : Nat) : OfficeKept s (t.setInsState l n v) :=
  ite _ h ((((ite _ (h.setFld _ _ _ _) h).setFld _ _ _ _).wr _ _ _ _).setBit _ _ _)

theorem insSwitch (l : Lane) (n : Nat) : OfficeKept s (t.insSwitch l n) := by
  unfold State.insSwitch
  extract_lets new old v was low pg u x
  have hu : OfficeKept s u := ite _ (h.wr _ _ _ _) h
  exact ite _ ((hu.setLane _ _).setInsState _ _ _) (ite _ ((hu.setLane _ _).setInsState _ _ _) hu)

theorem firstCommit (l : Lane) : OfficeKept s (t.firstCommit l) :=
  ((((h.setBit _ _ _).setBit _ _ _).setBit _ _ _).memInit _ _).memZero _ _ _

theorem swPartition (l : Lane) (full : Bool) : OfficeKept s (t.swPartition l full) := by
  unfold State.swPartition
  extract_lets first u v w
  have hw : OfficeKept s w := foldl (fun _ _ h => h.insSwitch _ _) _ ((h.swapWins _ _).applyRegs _ _ _)
  exact ite _ (hw.firstCommit l) hw

theorem stoppedClosed (l : Lane) : OfficeKept s (t.stoppedClosed l) :=
  foldl (fun _ _ h => foldl (fun _ _ h => (h.setFld _ _ _ _).setLane _ _) _ h) _ h

theorem pendShow (l : Lane) : OfficeKept s (t.pendShow l) := h.same rfl

theorem ptsRest (l : Lane) (k : Nat) : OfficeKept s (t.ptsRest l k) := by
  unfold State.ptsRest
  split
  · exact h
  · exact ite _ h ((foldl (fun _ _ h => (h.setLane _ _).memW _ _ _) _ (h.setLane _ _)).pendShow l)

theorem swMapLayout (l : Lane) : OfficeKept s (t.swMapLayout l) := by
  have hp := fun m : MapSt => ((h.swapWins 1 l.idx).setLane l { (t.swapWins 1 l.idx).lane l with map := m }).pendShow l
  exact ite _ (hp _) ((hp _).ptsRest _ _)

/-! SUBSCRIBE. -/

theorem replaySub (l : Lane) (e : Nat × Nat × Nat) : OfficeKept s (t.replaySub l e) :=
  foldl (fun _ _ h => ite _ (((h.setEnt _ _ _).setEnt _ _ _).setEnt _ _ _) h) _ h

theorem replayGoo (l : Lane) (e : Nat × Nat × Nat) : OfficeKept s (t.replayGoo l e) :=
  foldl (fun _ _ h => ite _ (((h.setEnt _ _ _).setEnt _ _ _).setEnt _ _ _) h) _ h

theorem setStrState (l : Lane) (n v : Nat) : OfficeKept s (t.setStrState l n v) :=
  ite _ h (ite _ (h.setEnt _ _ _) (((h.setEnt _ _ _).setWin _ _).setBit _ _ _))

theorem strSwitch (l : Lane) (n : Nat) : OfficeKept s (t.strSwitch l n) :=
  ite _ (ite _ h (h.setEnt _ _ _)) (((h.setStrState _ _ _).setWinWords _ _ _).setLane _ _)

theorem relSwitch (l : Lane) (old : List (Nat × Nat)) (gc : Nat) : OfficeKept s (t.relSwitch l old gc) :=
  (foldl (fun _ _ h => h.setLane _ _) _ h).setLane _ _

theorem setGooState (l : Lane) (u v : Nat) : OfficeKept s (t.setGooState l u v) :=
  ite _ h (((h.setEnt _ _ _).setWin _ _).setBit _ _ _)

theorem gooReset (l : Lane) (u : Nat) : OfficeKept s (t.gooReset l u) :=
  ((((h.setGooState _ _ _).setEnt _ _ _).setEnt _ _ _).setEnt _ _ _).setLane _ _

theorem gooSwitch (l : Lane) (u : Nat) : OfficeKept s (t.gooSwitch l u) := ite _ h (h.gooReset _ _)

theorem swSubscribe (l : Lane) : OfficeKept s (t.swSubscribe l) := by
  unfold State.swSubscribe
  extract_lets old gc tab subs grps u v w x y z
  have hu : OfficeKept s u := (h.keepTable _ _ _ _).keepTable _ _ _ _
  have hw : OfficeKept s w := foldl (fun _ _ h => h.replayGoo _ _) _ (foldl (fun _ _ h => h.replaySub _ _) _ hu)
  have hx : OfficeKept s x := (hw.swapWins _ _).logStart _ _ _
  have hz : OfficeKept s z := (foldl (fun _ _ h => h.strSwitch _ _) _ hx).relSwitch _ _ _
  exact foldl (fun _ _ h => h.gooSwitch _ _) _ hz

/-! FILTER. -/

theorem slotReset (l : Lane) (i : Nat) : OfficeKept s (t.slotReset l i) :=
  (((((h.setLane _ _).setEnt _ _ _).setEnt _ _ _).setEnt _ _ _).setEnt _ _ _).setEnt _ _ _

theorem swapRequest (l : Lane) (i b g : Nat) : OfficeKept s (t.swapRequest l i b g) := by
  unfold State.swapRequest
  extract_lets r x u late v
  have hv : OfficeKept s v := ite _ ((ite _ (h.bump _ _ _ _) h).bump _ _ _ _) (ite _ (h.bump _ _ _ _) h)
  exact ((((hv.setEnt _ _ _).setEnt _ _ _).setEnt _ _ _).setEnt _ _ _).setLane _ _

theorem slotSwitch (l : Lane) (gc i : Nat) : OfficeKept s (t.slotSwitch l gc i) := by
  unfold State.slotSwitch
  extract_lets new old r x u b v w y
  have hu : OfficeKept s u := h.setLane _ _
  have hv : OfficeKept s v := ite _ (hu.bump _ _ _ _) hu
  have hw : OfficeKept s w := ite _ (hv.bump _ _ _ _) hv
  exact ite _ (hu.slotReset _ _) (ite _ hu (ite _ hu (ite _ (ite _ (hu.bump _ _ _ _) (hu.swapRequest _ _ _ _))
    ((((hw.setEnt _ _ _).setEnt _ _ _).setEnt _ _ _).setLane _ _))))

theorem swFilter (l : Lane) : OfficeKept s (t.swFilter l) := by
  unfold State.swFilter
  extract_lets old sh due u slots v w x y
  have hw : OfficeKept s w :=
    ((keepTable (foldl (fun _ _ h => h.slotSwitch _ _ _) _ h) _ _ _ _).swapWins _ _).applyRegs _ _ _
  exact ite _ (foldl (fun _ _ h => h.setLane _ _) _ (hw.setLane _ _)) (foldl (fun _ _ h => h.slotSwitch _ _ _) _ (hw.setLane _ _))

/-! OPERATOR, GRAPH and SCRIBE. -/

theorem swOperator (l : Lane) : OfficeKept s (t.swOperator l) := (h.setFld _ _ _ _).setLane _ _

theorem flowsStart (l : Lane) (b : Nat) (g : Option Nat) (p : Nat → Bool) : OfficeKept s (t.flowsStart l b g p) := by
  refine foldl (fun u f h => ?_) _ h
  dsimp only
  split
  · exact ite _ h (h.setLane _ _)
  · exact h.setLane _ _

theorem quillShow (l : Lane) : OfficeKept s (t.quillShow l) :=
  (foldl (fun _ _ h => (h.setFld _ _ _ _).setFld _ _ _ _) _ h).setFld _ _ _ _

theorem swGraph (l : Lane) : OfficeKept s (t.swGraph l) := by
  unfold State.swGraph
  extract_lets u b v q w x y
  have hw : OfficeKept s w := ((h.swapWins _ _).setFld _ _ _ _).setLane _ _
  have hx : OfficeKept s x := ite _ (hw.flowsStart _ _ _ _) hw
  exact (foldl (fun _ _ h => h.setFld _ _ _ _) _ hx).quillShow l

theorem swScribe (l : Lane) (es : List Nat) : OfficeKept s (t.swScribe l es) :=
  foldl (fun _ _ h => ((foldl (fun _ _ h => h.swapRange _ _ _) _ h).setLane _ _).setFld _ _ _ _) _ h

/-! PUBLISH, RECORDER and FIELDBUS. -/

theorem pubSwitch (l : Lane) (n : Nat) : OfficeKept s (t.pubSwitch l n) := ite _ (h.setLane _ _) (ite _ (h.setLane _ _) h)
theorem tripSwitch (l : Lane) (n : Nat) : OfficeKept s (t.tripSwitch l n) := ite _ h (h.setLane _ _)

theorem tripShow : OfficeKept s t.tripShow := by
  refine foldl (fun _ _ h => ?_) _ (h.same rfl)
  exact foldl (fun _ _ h => ite _ h (h.setLane _ _)) _ ((h.setFld _ _ _ _).setFld _ _ _ _)

theorem swPublish (l : Lane) : OfficeKept s (t.swPublish l) := by
  unfold State.swPublish
  extract_lets u v w
  have hv : OfficeKept s v := foldl (fun _ _ h => h.pubSwitch _ _) _ (h.swapWins _ _)
  exact (foldl (fun _ _ h => h.tripSwitch _ _) _ (hv.setFld _ _ _ _)).tripShow

theorem drcSwitch (l : Lane) : OfficeKept s (t.drcSwitch l) := ite _ h ((h.setLane _ _).setBit _ _ _)

theorem fboReset (l : Lane) (d : Nat) : OfficeKept s (t.fboReset l d) :=
  ((((h.setLane _ _).setLane _ _).setEnt _ _ _).setEnt _ _ _).setWinWords _ _ _

theorem swFieldbus (l : Lane) : OfficeKept s (t.swFieldbus l) :=
  foldl (fun _ _ h => ite _ h (h.fboReset _ _)) _ ((h.swapWins _ _).applyRegs _ _ _)

/-! SWITCH. -/

theorem replayFdb (p : Plane) (e : LogEnt) : OfficeKept s (t.replayFdb p e) := by
  unfold State.replayFdb
  extract_lets sh st put
  have hput (k : Nat) : OfficeKept s (put t k) := (h.setWinWords _ _ _).setWinWords _ _ _
  split
  · exact ite _ (h.setWinWords _ _ _) (hput _)
  · exact ite _ h (ite _ (hput _) h)

theorem setOwner (o : Plane) : OfficeKept s (t.setOwner o) := by
  have named {u : State} (h : OfficeKept s u) (p : Plane) :
      OfficeKept s (if !u.planeUp p || decide (u.actOwner p = o) then u
        else (u.setFld (.psw p) F.PSW_STATUS_OWNER o.idx).setBit (.psw p) F.PSW_STATUS_CHANGE) :=
    ite _ h ((h.setFld _ _ _ _).setBit _ _ _)
  exact named (named h .a) .b

theorem ownerNamed : OfficeKept s t.ownerNamed :=
  ite _ h (ite _ ((h.setPlane _ _).setOwner _) ((h.setPlane _ _).setOwner _))

theorem swSwitch (p : Plane) : OfficeKept s (t.swSwitch p) := by
  unfold State.swSwitch
  extract_lets n u was v w
  have hv : OfficeKept s v :=
    ((((foldl (fun _ _ h => h.replayFdb _ _) _ h).swapWins _ _).logStart _ _ _).setPlane _ _).applyRegs _ _ _
  exact (ite _ hv hv.ownerNamed).setPlane _ _

/-! TIME. -/

theorem laneTake (l : Lane) (p : Plane) : OfficeKept s (t.laneTake l p) :=
  ((((ite _ h (h.setLane _ _)).setLane _ _).setFld _ _ _ _).setFld _ _ _ _).setFld _ _ _ _

theorem laneSlewTo (l : Lane) (p : Plane) : OfficeKept s (t.laneSlewTo l p) := by
  unfold State.laneSlewTo
  extract_lets u x off v w y
  have hy : OfficeKept s y := (((ite _ h (h.setLane _ _)).setLane _ _).setFld _ _ _ _).setFld _ _ _ _
  exact ite _ ((hy.setLane _ _).setFld _ _ _ _) (hy.setFld _ _ _ _)

theorem laneFollow (l : Lane) : OfficeKept s (t.laneFollow l) := by
  have hold : OfficeKept s (t.setFld (.lcfg l) F.CFG_TIME_FOLLOW_HOLDOVER 1) := h.setFld _ _ _ _
  unfold State.laneFollow
  refine ite _ h ?_
  extract_lets d want f stay
  refine ite _ ?_ (ite _ h (ite _ (ite _ (h.laneSlewTo _ _) (ite _ (h.laneSlewTo _ _) h)) (ite _ (h.laneSlewTo _ _) hold)))
  cases want with
  | none => exact hold
  | some p => exact ite _ h (h.laneTake _ _)

theorem planeSlew (p : Plane) (off : Int) : OfficeKept s (t.planeSlew p off) :=
  ite _ (((h.setPlane _ _).setPlane _ _).setFld _ _ _ _) ((h.setPlane _ _).setFld _ _ _ _)

theorem epsStep (l : Lane) (step : Int) : OfficeKept s (t.epsStep l step) :=
  foldl (fun _ _ h => (h.setEnt _ _ _).setEnt _ _ _) _ h

theorem acquire (p : Plane) (off : Int) : OfficeKept s (t.acquire p off) := by
  have took {u : State} (h : OfficeKept s u) (l : Lane) :
      OfficeKept s (if u.laneUp l && !u.gridRun l && !u.laneHold l && decide (u.followed l = p) then
        if (u.laneTake l p).epsRuns l then (u.laneTake l p).epsStep l off else u.laneTake l p else u) :=
    ite _ (ite _ ((h.laneTake _ _).epsStep _ _) (h.laneTake _ _)) h
  exact took (took (((h.setPlane _ _).setBit _ _ _).setFld _ _ _ _) .l0) .l1

theorem selectSource (p : Plane) : OfficeKept s (t.selectSource p) := by
  unfold State.selectSource
  refine ite _ h ?_
  extract_lets u old st src v x w y off locked z a
  have hv : OfficeKept s v := ((h.setPlane _ _).setPlane _ _).setFld _ _ _ _
  have hl {b : State} (h : OfficeKept s b) : OfficeKept s (locked b) := (h.setFld _ _ _ _).setPlane _ _
  have hz : OfficeKept s z := ite _ (ite _ (((hv.setPlane _ _).setFld _ _ _ _).setFld _ _ _ _) hv)
    (ite _ (hl (hv.acquire _ _)) (ite _ hv (hl (hv.planeSlew _ _))))
  have ha : OfficeKept s a := ite _ (hz.setBit _ _ _) hz
  exact (ha.laneFollow _).laneFollow _

theorem putSlot (p : Plane) (n : Nat) (x : PtpSlot) : OfficeKept s (t.putSlot p n x) :=
  (((h.setPlane _ _).setFld _ _ _ _).selectSource _).selectSource _

theorem swTime (p : Plane) : OfficeKept s (t.swTime p) := ((h.applyRegs _ _ _).putSlot _ _ _).putSlot _ _ _

/-! The switch of one region. -/

theorem flipBank (type k : Nat) : OfficeKept s (t.flipBank type k) := by
  unfold State.flipBank
  extract_lets l flip
  have hf (pg : Page) (f : Fld) : OfficeKept s (flip pg f) := h.setFld _ _ _ _
  split
  case h_8 => exact h
  all_goals exact hf _ _

theorem swRegion (k : Nat) (full : Bool) (r : Region) : OfficeKept s (t.swRegion k full r) := by
  unfold State.swRegion
  extract_lets u l
  have hu : OfficeKept s u := h.flipBank _ _
  split
  · exact hu.swPartition _ _
  · exact hu.swMapLayout _
  · exact hu.swSwitch _
  · exact hu.swSubscribe _
  · exact hu.swFilter _
  · exact hu.swOperator _
  · exact hu.swGraph _
  · exact hu.swScribe _ _
  · exact hu.swPublish _
  · exact (hu.swapWins _ _).drcSwitch _
  · exact hu.swFieldbus _
  · exact hu.swTime _
  · exact hu

end Sys2Proof.Machine.OfficeKept
end

section
/-! # O12: staging an image, and committing its regions (R49, R54, R55) -/

namespace Sys2Proof.Machine.OfficeKept
open Sys2Proof

/-! Writing and discarding shadow banks. -/

section
variable {s t : State} (h : OfficeKept s t)
include h

theorem loadRec (type k : Nat) (r : LoadRec) : OfficeKept s (t.loadRec type k r) := by
  unfold State.loadRec
  refine ite _ ?_ ?_
  · split
    · exact h.memWLog _ _ _ _
    · exact h
  · refine foldl (fun u i h => ?_) _ h
    split
    · exact ite _ h (h.same rfl)
    · exact h.setWin _ _

theorem loadRegion (k : Nat) (r : Region) : OfficeKept s (t.loadRegion k r) := by
  have hl := h.logStart r.type k true
  exact foldl (fun _ _ h => h.loadRec _ _ _) _ (ite _ (foldl (fun _ _ h => foldl (fun _ _ h => h.clearRange _ _) _ h) _ hl) hl)

theorem unbuild (k : Nat) (rs : List Region) : OfficeKept s (t.unbuild k rs) := h.same (congrArg State.com (t.core_unbuild k rs) :)

theorem keepCoef (b : State) : OfficeKept s (t.keepCoef b) := foldl (fun _ _ h => (h.clearRange _ _).putRange _ _) _ h

theorem buildRecs (staging : Bool) (k : Nat) (rs : List Region) : OfficeKept s (t.buildRecs staging k rs).2 := by
  induction rs generalizing t with
  | nil => exact h
  | cons r rs ih =>
    unfold State.buildRecs
    dsimp only
    split
    · exact h
    · exact ih (h.loadRegion k r)

theorem buildTarget (staging : Bool) (k : Nat) (rs : List Region) : OfficeKept s (t.buildTarget staging k rs).2 := by
  have built := h.buildRecs staging k (regionsOf rs k)
  unfold State.buildTarget
  dsimp only
  split
  · exact built
  · exact built

theorem buildAll (staging : Bool) (rs : List Region) (ks : List Nat) : OfficeKept s (t.buildAll staging rs ks).2 := by
  induction ks generalizing t with
  | nil => exact h
  | cons k ks ih =>
    unfold State.buildAll
    split
    · have built := h.buildTarget staging k rs
      dsimp only
      split
      · exact built
      · exact ih built
    · dsimp only
      split
      · exact h
      · exact ih h

end

/-- What is done beside Common's state. -/
theorem of_com {s t : State} (e : t.com = s.com) : OfficeKept s t := (refl s).same e

end Sys2Proof.Machine.OfficeKept

namespace Sys2Proof.Machine
open Sys2Proof

/-! What discarding shadow banks stores: no register of Common. -/

/-- An entry that is found stays when others are dropped. -/
theorem assocGet_filter_some {β : Type} {m : List (Nat × β)} {p : Nat × β → Bool} {a : Nat} {v : β} (hp : p (a, v) = true)
    (h : assocGet m a = some v) : assocGet (m.filter p) a = some v := by
  induction m with
  | nil => cases h
  | cons e m ih =>
    obtain ⟨k, w⟩ := e
    simp only [assocGet] at h
    rw [List.filter_cons]
    by_cases hk : a = k
    · rw [if_pos hk] at h
      obtain rfl := Option.some.inj h
      rw [← hk, if_pos hp]
      simp [assocGet]
    · rw [if_neg hk] at h
      by_cases hlt : a < k
      · rw [if_pos hlt] at h
        cases h
      · rw [if_neg hlt] at h
        split
        · simp only [assocGet, if_neg hk, if_neg hlt, ih h]
        · exact ih h

/-- Every word found below the planes, where Common's registers stand, is still there. -/
def CommonHeld (s t : State) : Prop := ∀ a, a < planeBase .a → ∀ v, assocGet s.regs a = some v → assocGet t.regs a = some v

namespace CommonHeld
variable {s t : State}

theorem refl (s : State) : CommonHeld s s := fun _ _ _ h => h

theorem foldl {α : Type} {f : State → α → State} {l : List α} (hf : ∀ u, ∀ x ∈ l, CommonHeld s u → CommonHeld s (f u x))
    (h : CommonHeld s t) : CommonHeld s (l.foldl f t) := by
  induction l generalizing t with
  | nil => exact h
  | cons x xs ih => exact ih (fun u y hy => hf u y (.tail _ hy)) (hf t x (.head _) h)

variable (h : CommonHeld s t)
include h

theorem same {u : State} (e : u.regs = t.regs) : CommonHeld s u := fun a ha v hv => (congrArg (assocGet · a) e).trans (h a ha v hv)

/-- A field that differs from its reset value stands in a word that is found. -/
theorem fld {p : Page} {f : Fld} {k : Nat} (hp : regAddr p f.id k < planeBase .a)
    (hv : s.fld p f k ≠ bitsOf (f.id.resetAt p k).toNat f.hi f.lo) : t.fld p f k = s.fld p f k := by
  unfold State.fld State.rd assocGetD at hv ⊢
  cases hs : assocGet s.regs (regAddr p f.id k) with
  | none =>
    rw [hs] at hv
    exact absurd rfl hv
  | some v => rw [h _ hp v hs]

theorem setFld {p : Page} (f : Fld) (v : Nat) (hp : p.ofUnit = true := by rfl) : CommonHeld s (t.setFld p f v) := by
  intro a ha w hw
  have := Page.ofUnit_base hp
  exact (assocGet_put_other _ _ _ _ (by simp only [regAddr]; omega)).trans (h a ha w hw)

theorem setPlane (p : Plane) (x : PlaneSt) : CommonHeld s (t.setPlane p x) := by cases p <;> exact h.same rfl
theorem setLane (l : Lane) (x : LaneSt) : CommonHeld s (t.setLane l x) := by cases l <;> exact h.same rfl

theorem clearRange {b : Nat} (hb : planeBase .a ≤ b) (n : Nat) : CommonHeld s (t.clearRange b n) := fun a ha v hv =>
  assocGet_filter_some (by simp; omega) (h a ha v hv)

theorem logStart (type k : Nat) (on : Bool) : CommonHeld s (t.logStart type k on) := by
  unfold State.logStart
  extract_lets l p
  split
  · cases on
    · exact ((h.setPlane _ _).setFld _ _).setFld _ _
    · exact (((h.setPlane _ _).setFld _ _).setFld _ _).setFld _ _
  · cases on
    · exact ((((h.setLane _ _).setFld _ _).setFld _ _).setFld _ _).setFld _ _
    · exact ((((((h.setLane _ _).setFld _ _).setFld _ _).setFld _ _).setFld _ _).setFld _ _).setFld _ _
  · exact h

end CommonHeld

/-- The windows of planes and lanes lie above Common. -/
theorem winPair_ge {p : Page} (hp : p.ofUnit = true) (a b : Win) : planeBase .a ≤ (winPair p a b).1 :=
  (Page.ofUnit_base hp).trans (Nat.le_add_right_of_le (Nat.le_add_right ..))

theorem scrPairs_ge (l : Lane) (k : Nat) : ∀ w ∈ scrPairs l k, planeBase .a ≤ w.1 := by
  have hp : (Page.scr l k).ofUnit = true := rfl
  simp [scrPairs, winPair_ge hp, Nat.le_add_right_of_le (Page.ofUnit_base hp)]

theorem regionWins_ge (type t : Nat) : ∀ w ∈ regionWins type t, planeBase .a ≤ w.1 := by
  unfold regionWins
  extract_lets l p
  split
  case h_7 =>
    intro w hw
    obtain ⟨k, -, hk⟩ := List.mem_flatMap.1 hw
    exact scrPairs_ge l k w hk
  case h_11 => simp
  all_goals
    simp only [List.mem_cons, List.not_mem_nil, or_false, forall_eq_or_imp, forall_eq]
    repeat' apply And.intro
    all_goals exact winPair_ge rfl _ _

section
variable {s t : State} (h : CommonHeld s t)
include h

theorem CommonHeld.unload (k : Nat) (r : Region) : CommonHeld s (t.unload k r) := by
  unfold State.unload
  extract_lets wins u own v
  have hw : ∀ w ∈ wins, planeBase .a ≤ w.1 := by
    intro w hw
    simp only [wins] at hw
    split at hw
    · obtain ⟨j, -, hj⟩ := List.mem_flatMap.1 hw
      exact scrPairs_ge _ j w hj
    · exact regionWins_ge _ _ w hw
  have hu : CommonHeld s u := foldl (fun _ w hm h => h.clearRange (hw w hm) _) h
  have hv : CommonHeld s v := hu.same rfl
  exact hv.logStart _ _ _

theorem CommonHeld.unbuild (k : Nat) (rs : List Region) : CommonHeld s (t.unbuild k rs) := foldl (fun _ r _ h => h.unload k r) h

end

/-- BUSY of a channel stays where shadow banks alone are discarded. -/
theorem CommonHeld.busy {s t : State} (h : CommonHeld s t) (ch : Fin 2) (hb : s.fld (.stw ch) F.STW_STATUS_BUSY = 1) :
    t.fld (.stw ch) F.STW_STATUS_BUSY = 1 := by
  have low : regAddr (.stw ch) F.STW_STATUS_BUSY.id 0 < planeBase .a := by fin_cases ch <;> decide
  have rest : bitsOf (F.STW_STATUS_BUSY.id.resetAt (.stw ch) 0).toNat F.STW_STATUS_BUSY.hi F.STW_STATUS_BUSY.lo = 0 := by
    fin_cases ch <;> decide
  exact (h.fld low (by omega)).trans hb

/-- Discarding the staged image stores of Common's registers those of the loader alone. -/
theorem State.stageDrop_busy (s : State) (ch : Fin 2) (h : s.fld (.stw ch) F.STW_STATUS_BUSY = 1) :
    s.stageDrop.fld (.stw ch) F.STW_STATUS_BUSY = 1 := by
  unfold State.stageDrop
  extract_lets u v w
  have hu : CommonHeld s u := by
    simp only [u]
    split
    · exact CommonHeld.foldl (fun _ _ _ h => h.unbuild _ _) (.refl s)
    · exact .refl s
  have kept := hu.busy ch h
  have hw : RegsOutside [regAt .stwLoad .STW_LOAD_STATUS, regAt .stwLoad .STW_LOAD_TARGETS] u w := .of_eq rfl
  have stores : RegsOutside [regAt .stwLoad .STW_LOAD_STATUS, regAt .stwLoad .STW_LOAD_TARGETS] u
      ((w.setFld .stwLoad F.STW_LOAD_STATUS_STAGED_MASK 0).wr .stwLoad .STW_LOAD_TARGETS 0 0) :=
    (hw.setFld _ _ _ _ (regIn_of_mem (.head _))).wr _ _ _ _ (regIn_of_mem (.tail _ (.head _)))
  exact (stores.fld _ _ _ (by fin_cases ch <;> decide)).trans kept

end Sys2Proof.Machine
end

section
/-! # IMAGE_STAGE and STAGE_DISCARD by their cases (R49, R54, R61) -/

namespace Sys2Proof.Machine
open Sys2Proof

/-! The loader's registers beside a channel. -/

theorem State.busy_loader (s : State) (ch : Fin 2) (st code : Nat) :
    (s.loader st code).fld (.stw ch) F.STW_STATUS_BUSY = s.fld (.stw ch) F.STW_STATUS_BUSY :=
  (s.loader_regs st code).fld _ _ _ (by fin_cases ch <;> decide)

theorem ChannelStep.loaderState {ch : Fin 2} {s u : State} (h : ChannelStep ch s u) : u.loaderState = s.loaderState :=
  h.fld _ _ _ (by fin_cases ch <;> decide)

theorem State.loader_flash0 (s : State) (st code : Nat) : (s.loader st code).flash0 = s.flash0 := rfl
theorem State.loader_flash1 (s : State) (st code : Nat) : (s.loader st code).flash1 = s.flash1 := rfl
theorem State.loader_ink (s : State) (st code : Nat) : (s.loader st code).ink = s.ink := rfl

/-- What the loader shows once the staged image is discarded. -/
structure Discarded (s t : State) : Prop where
  staged : t.com.staged = none
  built : t.com.built = []
  mask : t.fld .stwLoad F.STW_LOAD_STATUS_STAGED_MASK = 0
  targets : t.rd .stwLoad .STW_LOAD_TARGETS = 0
  mem0 : t.mem0 = s.mem0
  mem1 : t.mem1 = s.mem1
  flash0 : t.flash0 = s.flash0
  flash1 : t.flash1 = s.flash1
  ink : t.ink = s.ink

theorem State.stageDrop_discarded (s : State) (st code : Nat) : Discarded s (s.stageDrop.loader st code) := by
  have com := s.stageDrop_com
  have mem0 := s.stageDrop_mem0
  have mem1 := s.stageDrop_mem1
  have flash0 := s.stageDrop_flash0
  have flash1 := s.stageDrop_flash1
  have ink := s.stageDrop_ink
  obtain ⟨mask, targets⟩ := s.stageDrop_shows
  generalize s.stageDrop = u at *
  refine ⟨by rw [State.loader_com, com], by rw [State.loader_com, com], (u.stagedMask_loader st code).trans mask,
    (u.targets_loader st code).trans targets, (u.loader_mem0 st code).trans mem0, (u.loader_mem1 st code).trans mem1,
    (u.loader_flash0 st code).trans flash0, (u.loader_flash1 st code).trans flash1, (u.loader_ink st code).trans ink⟩

/-- The rest of what the loader shows is not the channel's, nor is it what is being fetched. -/
theorem Discarded.setMbox {s t : State} (h : Discarded s t) (ch : Nat) (m : Option MbRun) : Discarded s (t.setMbox ch m) :=
  ⟨(State.setMbox_staged ..).trans h.staged, (State.setMbox_built ..).trans h.built, (State.setMbox_fld ..).trans h.mask,
    (State.setMbox_rd ..).trans h.targets, (State.setMbox_mem0 ..).trans h.mem0, (State.setMbox_mem1 ..).trans h.mem1,
    (State.setMbox_flash0 ..).trans h.flash0, (State.setMbox_flash1 ..).trans h.flash1, (State.setMbox_ink ..).trans h.ink⟩

/-! IMAGE_STAGE. -/

/-- The state with what is being fetched set. -/
def State.fetching (s : State) (x : Option (ImgSrc × Nat)) : State := { s with com := { s.com with fetch := x } }

theorem State.fetching_fld (s : State) (x : Option (ImgSrc × Nat)) (p : Page) (f : Fld) (k : Nat) :
    (s.fetching x).fld p f k = s.fld p f k :=
  State.fld_congr (s := s) (t := s.fetching x) rfl p f k

theorem State.fetching_loaderState (s : State) (x : Option (ImgSrc × Nat)) : (s.fetching x).loaderState = s.loaderState :=
  s.fetching_fld x _ _ _

theorem State.fetching_fetch (s : State) (x : Option (ImgSrc × Nat)) : (s.fetching x).com.fetch = x := rfl

/-- What is being fetched is no register and no memory. -/
theorem Discarded.fetching {s t : State} (h : Discarded s t) (x : Option (ImgSrc × Nat)) : Discarded s (t.fetching x) :=
  ⟨h.staged, h.built, h.mask, h.targets, h.mem0, h.mem1, h.flash0, h.flash1, h.ink⟩

/-- What IMAGE_STAGE leaves when it is accepted with a source. -/
def stageTaken (s : State) (src : ImgSrc) (n : Nat) : State := (s.stageDrop.loader 1 stOK).fetching (some (src, n))

theorem stageTaken_shows (s : State) (src : ImgSrc) (n : Nat) : Discarded s (stageTaken s src n) ∧
    (stageTaken s src n).loaderState = 1 ∧ (stageTaken s src n).com.fetch = some (src, n) := by
  have state : (s.stageDrop.loader 1 stOK).loaderState = 1 := (State.loaderState_loader ..).trans (by decide)
  have gone := s.stageDrop_discarded 1 stOK
  unfold stageTaken
  generalize s.stageDrop.loader 1 stOK = v at *
  exact ⟨gone.fetching _, (v.fetching_loaderState _).trans state, v.fetching_fetch _⟩

theorem stageTaken_busy (s : State) (src : ImgSrc) (n : Nat) (ch : Fin 2) (h : s.fld (.stw ch) F.STW_STATUS_BUSY = 1) :
    (stageTaken s src n).fld (.stw ch) F.STW_STATUS_BUSY = 1 := by
  have kept := (s.stageDrop.busy_loader ch 1 stOK).trans (s.stageDrop_busy ch h)
  unfold stageTaken
  generalize s.stageDrop.loader 1 stOK = v at *
  exact (v.fetching_fld _ _ _ _).trans kept

section
variable {a : List Nat} {u : State}

theorem cmdImageStage_refused (h0 : u.loaderState ≠ 0) (h5 : u.loaderState ≠ 5) : cmdImageStage a u = cmdCode u stSTATE := by
  unfold cmdImageStage
  exact if_pos (.inl ⟨h0, h5⟩)

theorem cmdImageStage_bank (hl : u.loaderState = 0 ∨ u.loaderState = 5) (hb : a.getD 0 0 < 2) :
    cmdImageStage a u = ⟨stageTaken u (.bank (a.getD 0 0)) (bankSize 1), stOK, [], true⟩ := by
  have taken : ¬((u.loaderState ≠ 0 ∧ u.loaderState ≠ 5) ∨ 2 < a.getD 0 0 ∨ (a.getD 0 0 = 2 ∧ !inLaneMem (argAddr a 1) (a.getD 3 0))) := by
    omega
  unfold cmdImageStage
  simp only [if_neg taken, if_pos hb]
  rfl

theorem cmdImageStage_mem (hl : u.loaderState = 0 ∨ u.loaderState = 5) (hb : a.getD 0 0 = 2)
    (hm : argAddr a 1 + a.getD 3 0 ≤ 0x400000000) :
    (∀ v, readLanes u (argAddr a 1) (a.getD 3 0) = .ok v → cmdImageStage a u = ⟨stageTaken u (.mem v) (a.getD 3 0), stOK, [], true⟩) ∧
      ∀ e, readLanes u (argAddr a 1) (a.getD 3 0) = .error e → cmdImageStage a u = cmdCode u e := by
  have inside : inLaneMem (argAddr a 1) (a.getD 3 0) = true := decide_eq_true hm
  have taken : ¬((u.loaderState ≠ 0 ∧ u.loaderState ≠ 5) ∨ 2 < a.getD 0 0 ∨ (a.getD 0 0 = 2 ∧ !inLaneMem (argAddr a 1) (a.getD 3 0))) := by
    simp only [inside, Bool.not_true, Bool.false_eq_true, and_false, or_false]
    omega
  have two : ¬a.getD 0 0 < 2 := by omega
  unfold cmdImageStage
  simp only [if_neg taken, if_neg two]
  refine ⟨fun v hv => ?_, fun e he => ?_⟩
  · rw [hv]
    rfl
  · rw [he]

end

section
variable {ch : Fin 2} {tag : BitVec 16} {b len : Word} {addr : BitVec 64} {s : State}

/-- The operands of IMAGE_STAGE. -/
def stageArgs (b len : Word) (addr : BitVec 64) : List Nat := [b.toNat] ++ addrArgs addr ++ [len.toNat]

theorem stageArgs_lt (b len : Word) (addr : BitVec 64) : ∀ a ∈ stageArgs b len addr, a < 2 ^ 32 := by
  intro a ha
  simp only [stageArgs, List.mem_append, List.mem_cons, List.not_mem_nil, or_false] at ha
  rcases ha with (rfl | ha) | rfl
  · exact b.isLt
  · exact addrArgs_lt addr a ha
  · exact len.isLt

theorem argAddr_stageArgs (b len : Word) (addr : BitVec 64) : argAddr (mboxArgs (stageArgs b len addr)) 1 = addr.toNat := by
  show addr.toNat % 2 ^ 32 + 2 ^ 32 * (addr.toNat / 2 ^ 32) = addr.toNat
  omega

/-- An accepted IMAGE_STAGE leaves the loader in FETCH with nothing staged, and waits. -/
theorem imageStage_accepted {src : ImgSrc} {n : Nat} (hr : MboxReady s ch 0x20)
    (hf : ∀ u, ChannelStep ch s u → cmdImageStage (mboxArgs (stageArgs b len addr)) u = ⟨stageTaken u src n, stOK, [], true⟩) :
    Answers (exec (.imageStage ch tag b addr len) s) fun t =>
      MboxRuns t ch 0x20 tag (stageArgs b len addr) 0 [] true ∧ t.loaderState = 1 ∧ t.com.fetch = some (src, n) ∧ t.com.staged = none ∧
      t.com.built = [] ∧ t.fld .stwLoad F.STW_LOAD_STATUS_STAGED_MASK = 0 ∧ t.rd .stwLoad .STW_LOAD_TARGETS = 0 := by
  refine mboxIssue_answers (args := stageArgs b len addr) hr (by decide) (stageArgs_lt b len addr) fun u step busy => ?_
  rw [hf u step]
  obtain ⟨gone, state, fetch⟩ := stageTaken_shows u src n
  have kept := stageTaken_busy u src n ch busy
  generalize stageTaken u src n = v at *
  exact ⟨mboxRuns_setMbox kept, (State.setMbox_fld ..).trans state, (State.setMbox_fetch ..).trans fetch,
    (State.setMbox_staged ..).trans gone.staged, (State.setMbox_built ..).trans gone.built, (State.setMbox_fld ..).trans gone.mask,
    (State.setMbox_rd ..).trans gone.targets⟩

/-- STAGE_DISCARD ends OK with nothing staged. -/
theorem stageDiscard_ends (hr : MboxReady s ch 0x25) :
    Answers (exec (.stageDiscard ch tag) s) fun t =>
      MboxRuns t ch 0x25 tag [] 0 [] false ∧ t.loaderState = 0 ∧ t.com.staged = none ∧ t.com.built = [] ∧
      t.fld .stwLoad F.STW_LOAD_STATUS_STAGED_MASK = 0 ∧ t.rd .stwLoad .STW_LOAD_TARGETS = 0 ∧
      t.mem0 = s.mem0 ∧ t.mem1 = s.mem1 ∧ t.flash0 = s.flash0 ∧ t.flash1 = s.flash1 ∧ t.ink = s.ink := by
  refine mboxIssue_answers hr (by decide) (by simp) fun u step busy => ?_
  have state : (u.stageDrop.loader 0 stOK).loaderState = 0 := (State.loaderState_loader ..).trans (by decide)
  have busy' := (u.stageDrop.busy_loader ch 0 stOK).trans (u.stageDrop_busy ch busy)
  have gone := u.stageDrop_discarded 0 stOK
  rw [show cmdStageDiscard (mboxArgs []) u = cmdOk (u.stageDrop.loader 0 stOK) [] from rfl]
  generalize u.stageDrop.loader 0 stOK = v at *
  have gone := gone.setMbox ch (some ⟨0x25, tag.toNat, mboxArgs [], (cmdOk v []).code, (cmdOk v []).res, (cmdOk v []).wait⟩)
  exact ⟨mboxRuns_setMbox busy', (State.setMbox_fld ..).trans state, gone.staged, gone.built, gone.mask, gone.targets,
    gone.mem0.trans step.mem0, gone.mem1.trans step.mem1, gone.flash0.trans step.flash0, gone.flash1.trans step.flash1, gone.ink.trans step.ink⟩

end

end Sys2Proof.Machine
end

section
/-! # How a staging ends (R49, R54) -/

namespace Sys2Proof.Machine
open Sys2Proof

/-! A command that waits, at its end. -/

/-- A channel's command with the outcome of another look at it. -/
def MbRun.takes (m : MbRun) (r : CmdOut) : MbRun := { m with code := r.code, res := r.res, wait := r.wait }

section
variable {s : State} {ch : Nat} {m n : MbRun} (hc : s.up .common = true) (hs : s.com.steward = true) (hm : s.mbox ch = some m)
  (hw : m.wait = true) (hn : (s.mboxRetry ch m).mbox ch = some n)
include hc hs hm hw hn

theorem State.mboxEnd_waits (h : n.wait = true) : s.mboxEnd ch = s.mboxRetry ch m := by
  simp [State.mboxEnd, hc, hs, hm, hw, hn, h]

theorem State.mboxEnd_ends (h : n.wait = false) (ho : n.op ≠ 0x61) : s.mboxEnd ch = (s.mboxRetry ch m).mboxFinish ch := by
  simp [State.mboxEnd, hc, hs, hm, hw, hn, h, ho]

end

theorem State.mboxRetry_stage {s : State} {ch : Nat} {m : MbRun} (h : m.op = 0x20) :
    s.mboxRetry ch m = (s.stageStep ch).st.setMbox ch (some (m.takes (s.stageStep ch))) := by
  obtain ⟨op, tag, args, code, res, wait⟩ := m
  subst h
  rfl

/-! The build and the end of a staging. -/

/-- What a staging of an image leaves at its end. -/
structure StageEnds (x : Staged) (r : CmdOut) : Prop where
  wait : r.wait = false
  fetch : r.st.com.fetch = none
  passed : r.code = 0 → r.res = [x.typeMask, x.targetMask] ∧ r.st.loaderState = 3 ∧ r.st.com.staged = some x ∧
    r.st.fld .stwLoad F.STW_LOAD_STATUS_STAGED_MASK = x.typeMask ∧ r.st.rd .stwLoad .STW_LOAD_TARGETS = 0
  failed : r.code ≠ 0 → r.res = [] ∧ r.st.loaderState = 5 ∧ r.st.fld .stwLoad F.STW_LOAD_STATUS_LAST_CODE = r.code % 256 ∧
    r.st.com.staged = none ∧ r.st.com.built = []

/-- Nothing is being fetched, and nothing is staged. -/
def NothingStaged (s : State) : Prop := s.com.fetch = none ∧ s.com.staged = none ∧ s.com.built = []

theorem OfficeKept.nothingStaged {s t : State} (h : OfficeKept s t) (hs : NothingStaged s) : NothingStaged t := by
  obtain ⟨fetch, staged, built⟩ := hs
  exact ⟨h.fetch.trans fetch, h.staged.trans staged, h.built.trans built⟩

theorem StageEnds.fails {x : Staged} {s : State} {c : Nat} (hs : NothingStaged s) (hc : c ≠ 0) : StageEnds x (cmdCode (s.loader 5 c) c) := by
  obtain ⟨fetch, staged, built⟩ := hs
  refine ⟨rfl, fetch, fun h => absurd h hc, fun _ => ⟨rfl, ?_, s.lastCode_loader 5 c, staged, built⟩⟩
  exact (s.loaderState_loader 5 c).trans (by decide)

theorem Staged.typeMask_lt (x : Staged) : x.typeMask < 2 ^ 12 := by
  unfold Staged.typeMask maskOf
  exact (mask_bits _ 12).1

/-- The loader at the end of a staging that passes. -/
def State.showStaged (s : State) (mask : Nat) : State :=
  ((s.loader 3 stOK).setFld .stwLoad F.STW_LOAD_STATUS_STAGED_MASK mask).wr .stwLoad .STW_LOAD_TARGETS 0 0

/-- The DONE bits are apart from the loader's status. -/
theorem State.fld_wr_targets (s : State) (v : Word) {f : Fld} (hf : f.id = .STW_LOAD_STATUS) :
    (s.wr .stwLoad .STW_LOAD_TARGETS 0 v).fld .stwLoad f = s.fld .stwLoad f := by
  unfold State.fld
  rw [hf, State.rd_wr_other _ _ _ _ _ _ _ _ (by decide)]

theorem State.showStaged_shows (s : State) {mask : Nat} (hm : mask < 2 ^ 12) : (s.showStaged mask).loaderState = 3 ∧
    (s.showStaged mask).fld .stwLoad F.STW_LOAD_STATUS_STAGED_MASK = mask ∧ (s.showStaged mask).rd .stwLoad .STW_LOAD_TARGETS = 0 := by
  have state : (s.loader 3 stOK).loaderState = 3 := (State.loaderState_loader ..).trans (by decide)
  unfold State.showStaged
  generalize s.loader 3 stOK = v at *
  refine ⟨?_, ?_, State.rd_wr_same ..⟩
  · rw [State.loaderState, State.fld_wr_targets _ _ rfl]
    exact (v.fld_loadStatus_apart mask (by decide) (by decide) (by decide)).trans state
  · rw [State.fld_wr_targets _ _ rfl, State.fld_setFld_same _ _ _ _ _ (by decide) (by decide)]
    exact Nat.mod_eq_of_lt hm

theorem State.showStaged_com (s : State) (mask : Nat) : (s.showStaged mask).com = s.com := rfl

theorem StageEnds.passes {x : Staged} {s : State} (fetch : s.com.fetch = none) (staged : s.com.staged = some x) :
    StageEnds x (cmdOk (s.showStaged x.typeMask) [x.typeMask, x.targetMask]) := by
  obtain ⟨state, mask, targets⟩ := s.showStaged_shows x.typeMask_lt
  refine ⟨rfl, ?_, fun _ => ⟨rfl, state, ?_, mask, targets⟩, fun h => absurd rfl h⟩
  · exact (congrArg CommonSt.fetch (s.showStaged_com _)).trans fetch
  · exact (congrArg CommonSt.staged (s.showStaged_com _)).trans staged

theorem State.stageBuild_ends {s : State} (hs : NothingStaged s) (x : Staged) : StageEnds x (s.stageBuild x) := by
  unfold State.stageBuild
  extract_lets ts r
  split
  next failed => exact .fails (((OfficeKept.refl s).keepCoef r.2).nothingStaged hs) failed
  next passed =>
    rename_i u c v w
    exact StageEnds.passes (s := v) rfl rfl

/-- What VERIFY does: a failed check ends the staging, a check that passes lets the build begin once no old bank is in its way. -/
theorem State.stageVerify_ends {s : State} (hs : s.com.staged = none) (hb : s.com.built = []) (ch : Nat) (src : ImgSrc) (n : Nat) :
    let x := s.imageCheck src n [0, 1, 2, 3]
    let r := s.stageVerify ch src n
    (x.code ≠ 0 → r.code = x.code ∧ StageEnds x.img r) ∧ (r.wait = false → StageEnds x.img r) := by
  intro x r
  have none_ : NothingStaged (x.st.fetching none) := by
    have seen := (s.imageCheck_seen src n [0, 1, 2, 3]).com
    exact ⟨rfl, (congrArg CommonSt.staged seen).trans hs, (congrArg CommonSt.built seen).trans hb⟩
  have r_eq : r = s.stageVerify ch src n := rfl
  unfold State.stageVerify at r_eq
  extract_lets at r_eq
  split at r_eq
  next bad =>
    rw [r_eq]
    exact ⟨fun _ => ⟨rfl, .fails none_ bad⟩, fun _ => .fails none_ bad⟩
  next good =>
    refine ⟨fun bad => absurd bad good, fun ended => ?_⟩
    split at r_eq
    next => exact Bool.noConfusion ((congrArg CmdOut.wait r_eq).symm.trans ended)
    next =>
      rw [r_eq]
      exact State.stageBuild_ends ((OfficeKept.of_com (State.com_progress _ _ _)).nothingStaged none_) _

/-! MAILBOX_COMPLETE of an IMAGE_STAGE. -/

namespace MboxFinished
variable {ch : Fin 2} {m : MbRun} {s t : State} (h : MboxFinished ch m s t)
include h

theorem fetch : t.com.fetch = s.com.fetch := (congrArg (fun x : State => x.com.fetch) h.body :)
theorem staged : t.com.staged = s.com.staged := (congrArg (fun x : State => x.com.staged) h.body :)
theorem built : t.com.built = s.com.built := (congrArg (fun x : State => x.com.built) h.body :)

/-- The end of a command leaves the loader's registers. -/
theorem loadStatus {f : Fld} (hf : f.id = .STW_LOAD_STATUS) : t.fld .stwLoad f = s.fld .stwLoad f :=
  h.regs.fld _ _ _ (by rw [hf]; fin_cases ch <;> decide)

theorem loadTargets : t.rd .stwLoad .STW_LOAD_TARGETS = s.rd .stwLoad .STW_LOAD_TARGETS := h.regs.rd _ _ _ (by fin_cases ch <;> decide)

end MboxFinished

section
variable {ch : Fin 2} {m : MbRun} {src : ImgSrc} {n : Nat} {s : State} (hc : s.up .common = true) (hs : s.com.steward = true)
  (hm : s.mbox ch = some m) (ho : m.op = 0x20) (hw : m.wait = true) (hf : s.com.fetch = some (src, n)) (hn : s.com.staged = none)
include hc hs hm ho hw hf hn

/-- The loader leaves FETCH for VERIFY. -/
theorem fetch_completes (hl : s.loaderState = 1) : Answers (exec (.mailboxComplete ch) s) fun t =>
    t.loaderState = 2 ∧ t.mbox ch = some { m with code := 0, res := [] } ∧ t.com.fetch = s.com.fetch ∧ t.com.staged = none := by
  have step : s.stageStep ch = ⟨s.loader 2 stOK, stOK, [], true⟩ := by
    unfold State.stageStep
    rw [hf]
    exact if_pos hl
  have state : (s.loader 2 stOK).loaderState = 2 := (State.loaderState_loader ..).trans (by decide)
  have com := s.loader_com 2 stOK
  have retry := State.mboxRetry_stage (s := s) (ch := ch) ho
  rw [step] at retry
  generalize s.loader 2 stOK = v at *
  have held : (s.mboxRetry ch m).mbox ch = some (m.takes ⟨v, stOK, [], true⟩) := (congrArg (State.mbox · ch) retry).trans (State.mbox_setMbox_same ..)
  refine ⟨_, rfl, ?_⟩
  rw [State.mboxEnd_waits hc hs hm hw held rfl, retry]
  refine ⟨(State.setMbox_fld ..).trans state, (State.mbox_setMbox_same ..).trans ?_, (State.setMbox_fetch ..).trans (congrArg CommonSt.fetch com),
    (State.setMbox_staged ..).trans ((congrArg CommonSt.staged com).trans hn)⟩
  rw [MbRun.takes, hw]
  rfl

/-- VERIFY ends as its checks and its build do, and the channel is free. -/
theorem verify_completes (hl : s.loaderState = 2) (hb : s.com.built = []) (ended : (s.stageVerify ch src n).wait = false) :
    Answers (exec (.mailboxComplete ch) s) fun t =>
      let x := s.imageCheck src n [0, 1, 2, 3]
      let r := s.stageVerify ch src n
      t.mbox ch = none ∧ t.fld (.stw ch) F.STW_STATUS_CODE = r.code % 256 ∧ t.com.fetch = none ∧
        (r.code = 0 → x.code = 0 ∧ r.res = [x.img.typeMask, x.img.targetMask] ∧ t.loaderState = 3 ∧ t.com.staged = some x.img ∧
          t.fld .stwLoad F.STW_LOAD_STATUS_STAGED_MASK = x.img.typeMask ∧ t.rd .stwLoad .STW_LOAD_TARGETS = 0) ∧
        (r.code ≠ 0 → t.loaderState = 5 ∧ t.fld .stwLoad F.STW_LOAD_STATUS_LAST_CODE = r.code % 256 ∧ t.com.staged = none ∧
          t.com.built = []) := by
  obtain ⟨refused, ends⟩ := State.stageVerify_ends hn hb ch src n
  have ends := ends ended
  have step : s.stageStep ch = s.stageVerify ch src n := by
    unfold State.stageStep
    rw [hf]
    exact if_neg (by omega)
  have retry := State.mboxRetry_stage (s := s) (ch := ch) ho
  rw [step] at retry
  refine ⟨_, rfl, ?_⟩
  generalize s.stageVerify ch src n = r at *
  generalize s.imageCheck src n [0, 1, 2, 3] = x at *
  have held : (s.mboxRetry ch m).mbox ch = some (m.takes r) := (congrArg (State.mbox · ch) retry).trans (State.mbox_setMbox_same ..)
  rw [State.mboxEnd_ends hc hs hm hw held ended (by rw [MbRun.takes, ho]; decide)]
  have fin := State.mboxFinish_finished held
  generalize (s.mboxRetry ch m).mboxFinish ch = t at *
  rw [retry] at fin
  have status : ∀ f : Fld, f.id = .STW_LOAD_STATUS → t.fld .stwLoad f = r.st.fld .stwLoad f :=
    fun f hf => (fin.loadStatus hf).trans (State.setMbox_fld ..)
  have staged := fin.staged.trans (State.setMbox_staged ..)
  refine ⟨fin.free, fin.code, (fin.fetch.trans (State.setMbox_fetch ..)).trans ends.fetch, fun ok => ?_, fun bad => ?_⟩
  · obtain ⟨res, state, image, mask, targets⟩ := ends.passed ok
    have checked : x.code = 0 := by
      by_contra bad
      exact bad ((refused bad).1.symm.trans ok)
    exact ⟨checked, res, (status _ rfl).trans state, staged.trans image, (status _ rfl).trans mask,
      (fin.loadTargets.trans (State.setMbox_rd ..)).trans targets⟩
  · obtain ⟨-, state, last, none_, built⟩ := ends.failed bad
    exact ⟨(status _ rfl).trans state, (status _ rfl).trans last, staged.trans none_, (fin.built.trans (State.setMbox_built ..)).trans built⟩

end

end Sys2Proof.Machine
end

section
/-! # What REGION_COMMIT tests does not depend on a channel's registers (R55, R56, R361) -/

namespace Sys2Proof.Machine
open Sys2Proof

/-- The windows of planes and lanes lie above Common. -/
theorem winAddr_ge {p : Page} (hp : p.ofUnit = true) (w : Win) (off : Nat) : planeBase .a ≤ winAddr p w off :=
  Nat.le_add_right_of_le (Nat.le_add_right_of_le (Page.ofUnit_base hp))

namespace ChannelStep
variable {ch : Fin 2} {s u : State} (h : ChannelStep ch s u)
include h

/-! Registers and windows of planes and lanes. -/

theorem unitRange {a : Nat} (ha : planeBase .a ≤ a) (n : Nat) : u.range a n = s.range a n :=
  h.range a n (.inr (le_trans (by fin_cases ch <;> decide) ha))

theorem unitWin {a : Nat} (ha : planeBase .a ≤ a) : u.win a = s.win a := by
  unfold State.win assocGetD
  rw [h.word (.inr (le_trans (by fin_cases ch <;> decide) ha))]

theorem unitWords {a : Nat} (ha : planeBase .a ≤ a) (n : Nat) : u.winWords a n = s.winWords a n := by
  induction n generalizing a with
  | zero => rfl
  | succ n ih => rw [State.winWords, State.winWords, h.unitWin ha, ih (by omega)]

theorem unitEnt {a : Nat} (ha : planeBase .a ≤ a) (f : EFld) : u.ent a f = s.ent a f := by
  unfold State.ent
  dsimp only
  rw [h.unitWords (Nat.le_add_right_of_le ha)]

theorem unitFld {p : Page} (hp : p.ofUnit = true) (f : Fld) (k : Nat := 0) : u.fld p f k = s.fld p f k := by
  have base := Page.ofUnit_base hp
  refine h.fld p f k (.inr (le_trans (by fin_cases ch <;> decide) (base.trans ?_)))
  unfold regAddr
  omega

theorem unitBit {p : Page} (hp : p.ofUnit = true) (f : Fld) : u.bit p f = s.bit p f := by
  rw [State.bit, h.unitFld hp, State.bit]

/-! What a commit of PARTITION concerns. -/

theorem ownedIn {a : Nat} (ha : planeBase .a ≤ a) (size stride : Nat) (valid owner : EFld) (n : Nat) :
    u.ownedIn a size stride valid owner n = s.ownedIn a size stride valid owner n := by
  have ents : ∀ i f, u.ent (a + stride * i) f = s.ent (a + stride * i) f := fun i f => h.unitEnt (Nat.le_add_right_of_le ha) f
  simp only [State.ownedIn, State.entries, h.unitRange ha, ents]

theorem descWins {d w : Nat} (hd : planeBase .a ≤ d) (hw : planeBase .a ≤ w) : u.descWins d w = s.descWins d w := by
  have words : ∀ i, u.winWords (w + 16 * i) 4 = s.winWords (w + 16 * i) 4 := fun i => h.unitWords (Nat.le_add_right_of_le hw) 4
  simp only [State.descWins, h.unitEnt hd, words]

theorem insConcerned (l : Lane) (types : List Nat) (n : Nat) : u.insConcerned l types n = s.insConcerned l types n := by
  have ins : ∀ w off, planeBase .a ≤ winAddr (.ins l) w off := winAddr_ge rfl
  have qul : ∀ w off, planeBase .a ≤ winAddr (.qul l) w off := winAddr_ge rfl
  have map : ∀ w off, planeBase .a ≤ winAddr (.map l) w off := winAddr_ge rfl
  have desc : planeBase .a ≤ insDesc l n := ins _ _
  simp only [State.insConcerned, h.unitWords desc, h.unitWords (ins _ _), h.descWins desc (ins _ _), h.descWins (ins _ _) (ins _ _),
    h.ownedIn (qul _ _), h.ownedIn (map _ _)]

theorem insBlocks (t : Nat) (rs : List Region) : u.insBlocks t rs = s.insBlocks t rs := by
  have states : ∀ l n, u.insState l n = s.insState l n := fun l n => h.unitFld rfl F.INS_STATE_STATE
  simp only [State.insBlocks, states, h.insConcerned]

/-! The other tests. -/

theorem logOverflow (t : Nat) (rs : List Region) : u.logOverflow t rs = s.logOverflow t rs := by
  simp only [State.logOverflow, h.unitBit (p := .psw _) rfl, h.unitBit (p := .ing _) rfl, h.unitBit (p := .map _) rfl]

theorem dependOk (t : Nat) (rs : List Region) : u.dependOk t rs = s.dependOk t rs := by
  have act : u.activeUp t = s.activeUp t := by rw [State.activeUp, State.activeOn, State.up_congr h.dom, h.com, State.activeUp, State.activeOn]
  unfold State.dependOk
  rw [act]

theorem loadBit {f : Fld} (hf : f.id = .STW_LOAD_STATUS ∨ f.id = .STW_LOAD_TARGETS) : u.bit .stwLoad f = s.bit .stwLoad f := by
  have e : u.fld .stwLoad f = s.fld .stwLoad f := h.fld _ _ _ (by rcases hf with hf | hf <;> rw [hf] <;> fin_cases ch <;> decide)
  rw [State.bit, e, State.bit]

theorem rolledOut (l : Lane) : u.rolledOut l = s.rolledOut l := by
  cases l
  · exact h.loadBit (.inl rfl)
  · exact h.loadBit (.inl rfl)

theorem commitBlocked (t : Nat) (x : Staged) : u.commitBlocked t x = s.commitBlocked t x := by
  have done : u.bit .stwLoad (doneFld t) = s.bit .stwLoad (doneFld t) := h.loadBit (.inr (by unfold doneFld; split <;> rfl))
  simp only [State.commitBlocked, h.loaderState, done, State.up_congr h.dom, State.laneUp_congr h.dom, h.rolledOut]

end ChannelStep

end Sys2Proof.Machine
end

section
/-! # REGION_COMMIT by its cases (R44, R55, R56) -/

namespace Sys2Proof.Machine
open Sys2Proof

/-! What a refusal with STALE and an accepted commit leave. -/

theorem State.commitStale_com (s : State) (t : Nat) (rs : List Region) :
    (s.commitStale t rs).com = { s.com with built := s.com.built.filter (fun k => decide (k ≠ t)) } := by
  have com : (s.unbuild t rs).com = s.com := (congrArg State.com (s.core_unbuild t rs) :)
  unfold State.commitStale
  rw [State.loader_com, com]

theorem State.commitStale_staged (s : State) (t : Nat) (rs : List Region) : (s.commitStale t rs).com.staged = s.com.staged :=
  (congrArg CommonSt.staged (s.commitStale_com t rs) :)

theorem State.commitStale_active (s : State) (t : Nat) (rs : List Region) : (s.commitStale t rs).com.active = s.com.active :=
  (congrArg CommonSt.active (s.commitStale_com t rs) :)

theorem State.commitStale_switches (s : State) (t : Nat) (rs : List Region) : (s.commitStale t rs).com.switches = s.com.switches :=
  (congrArg CommonSt.switches (s.commitStale_com t rs) :)

theorem State.commitStale_mbox (s : State) (t : Nat) (rs : List Region) (ch : Nat) : (s.commitStale t rs).mbox ch = s.mbox ch := by
  rw [State.mbox, State.commitStale_com]
  rfl

theorem State.commitStale_loaderState (s : State) (t : Nat) (rs : List Region) : (s.commitStale t rs).loaderState = 3 :=
  (State.loaderState_loader ..).trans (by decide)

theorem State.commitStale_busy (s : State) (t : Nat) (rs : List Region) (ch : Fin 2) (h : s.fld (.stw ch) F.STW_STATUS_BUSY = 1) :
    (s.commitStale t rs).fld (.stw ch) F.STW_STATUS_BUSY = 1 := by
  have kept := ((CommonHeld.refl s).unbuild t rs).busy ch h
  unfold State.commitStale
  generalize s.unbuild t rs = u at *
  rw [State.busy_loader]
  exact (State.fld_congr (s := u) rfl _ _ _).trans kept

theorem not_mem_commitStale_built (s : State) (t : Nat) (rs : List Region) : t ∉ (s.commitStale t rs).com.built := by
  rw [State.commitStale_com]
  simp

/-- The regions of a target that go to its boundary for a command. -/
def stagedSwitch (ch t : Nat) (x : Staged) : Switch := ⟨t, x.regions, !x.isPartial, x.imageId, x.secVer, some ch⟩

/-- The region types that a commit switches. -/
def commitMask (t : Nat) (x : Staged) : Nat := maskOf 12 (fun y => (regionsOf x.regions t).any (fun r => decide (r.type = y)))

theorem commitMask_bits (t : Nat) (x : Staged) {y : Nat} (hy : y < 12) :
    bitAt (commitMask t x) y = (regionsOf x.regions t).any (fun r => decide (r.type = y)) := by
  rw [bitAt_eq_testBit, commitMask, maskOf, (mask_bits _ 12).2, decide_eq_true hy, Bool.true_and]

/-- The state after a commit is accepted. -/
def State.committing (s : State) (w : Switch) : State := { s with com := { s.com with switches := s.com.switches ++ [w] } }.loader 4 stOK

theorem State.commitStart_eq (s : State) (ch t : Nat) (x : Staged) :
    s.commitStart ch t x = ⟨s.committing (stagedSwitch ch t x), stOK, [commitMask t x], true⟩ := rfl

section
variable (s : State) (w : Switch)

theorem State.committing_com : (s.committing w).com = { s.com with switches := s.com.switches ++ [w] } := rfl
theorem State.committing_mem0 : (s.committing w).mem0 = s.mem0 := rfl
theorem State.committing_mem1 : (s.committing w).mem1 = s.mem1 := rfl

theorem State.committing_loaderState : (s.committing w).loaderState = 4 := (State.loaderState_loader ..).trans (by decide)

theorem State.committing_regs : RegsOutside [regAt .stwLoad .STW_LOAD_STATUS] s (s.committing w) :=
  (RegsOutside.of_eq rfl : RegsOutside _ s { s with com := { s.com with switches := s.com.switches ++ [w] } }).trans (State.loader_regs _ 4 stOK)

end

/-! The command's cases. -/

section
variable {ch k : Nat} {a : List Nat} {s : State} {x : Staged}

theorem cmdRegionCommit_unstaged (hs : s.com.staged = none) : cmdRegionCommit ch a s = cmdCode s stSTATE := by
  unfold cmdRegionCommit
  rw [hs]

variable (ha : a.getD 0 0 = k) (hs : s.com.staged = some x)
include ha hs

theorem cmdRegionCommit_blocked (hb : s.commitBlocked k x = true) : cmdRegionCommit ch a s = cmdCode s stSTATE := by
  unfold cmdRegionCommit
  rw [ha, hs]
  exact if_pos hb

variable (hb : s.commitBlocked k x = false) (built : k ∈ s.com.built)
include hb built

theorem cmdRegionCommit_stale (ho : s.logOverflow k (regionsOf x.regions k) = true) :
    cmdRegionCommit ch a s = cmdCode (s.commitStale k x.regions) stSTALE := by
  have has : s.com.built.contains k = true := List.contains_iff_mem.mpr built
  unfold cmdRegionCommit
  rw [ha, hs]
  simp only [hb, has, ho, Bool.false_eq_true, if_false, Bool.and_self, if_true]

theorem cmdRegionCommit_starts (ho : s.logOverflow k (regionsOf x.regions k) = false) (hd : s.dependOk k (regionsOf x.regions k) = true)
    (hi : s.insBlocks k (regionsOf x.regions k) = false) : cmdRegionCommit ch a s = s.commitStart ch k x := by
  have has : s.com.built.contains k = true := List.contains_iff_mem.mpr built
  unfold cmdRegionCommit
  rw [ha, hs]
  simp only [hb, has, ho, hd, hi, Bool.false_eq_true, if_false, Bool.and_false, Bool.not_true, Bool.false_and, if_true, ne_eq, not_true_eq_false]

end

/-! REGION_COMMIT. -/

section
variable {ch : Fin 2} {tag : BitVec 16} {k : Word} {s : State}

theorem commitArg_lt (k : Word) : ∀ a ∈ [k.toNat], a < 2 ^ 32 := by simpa using k.isLt

theorem getD_commitArg (k : Word) : (mboxArgs [k.toNat]).getD 0 0 = k.toNat := rfl

/-- A commit that finds the loader or the lane in the wrong state ends in STATE and changes nothing. -/
theorem regionCommit_refused (hr : MboxReady s ch 0x21)
    (hf : ∀ u, ChannelStep ch s u → cmdRegionCommit ch (mboxArgs [k.toNat]) u = cmdCode u stSTATE) :
    Answers (exec (.regionCommit ch tag k) s) fun t => MboxRuns t ch 0x21 tag [k.toNat] 4 [] false ∧ MboxOnly ch s t :=
  mboxIssue_leaves hr (by decide) (commitArg_lt k) hf

theorem regionCommit_unstaged (hr : MboxReady s ch 0x21) (hs : s.com.staged = none) :
    Answers (exec (.regionCommit ch tag k) s) fun t => MboxRuns t ch 0x21 tag [k.toNat] 4 [] false ∧ MboxOnly ch s t :=
  regionCommit_refused hr fun _ step => cmdRegionCommit_unstaged ((congrArg CommonSt.staged step.com).trans hs)

/-- A partial image goes to a lane that is rolled out or alone (R56). -/
theorem State.commitBlocked_partial {x : Staged} {k : Nat} (hk : k < 2) (hp : x.isPartial = true)
    (ho : s.rolledOut (targetLane k) = false) (hu : s.laneUp (targetLane k).other = true) : s.commitBlocked k x = true := by
  simp [State.commitBlocked, hk, hp, ho, hu]

theorem regionCommit_partial {x : Staged} (hr : MboxReady s ch 0x21) (hs : s.com.staged = some x) (hk : k.toNat < 2)
    (hp : x.isPartial = true) (ho : s.rolledOut (targetLane k.toNat) = false) (hu : s.laneUp (targetLane k.toNat).other = true) :
    Answers (exec (.regionCommit ch tag k) s) fun t => MboxRuns t ch 0x21 tag [k.toNat] 4 [] false ∧ MboxOnly ch s t :=
  regionCommit_refused hr fun _ step =>
    cmdRegionCommit_blocked (getD_commitArg k) ((congrArg CommonSt.staged step.com).trans hs)
      ((step.commitBlocked _ _).trans (State.commitBlocked_partial hk hp ho hu))

variable {x : Staged} (hr : MboxReady s ch 0x21) (hs : s.com.staged = some x) (built : k.toNat ∈ s.com.built)
  (hb : s.commitBlocked k.toNat x = false)
include hr hs built hb

/-- A change log that overflowed ends the commit with STALE (R55). -/
theorem regionCommit_stale (ho : s.logOverflow k.toNat (regionsOf x.regions k.toNat) = true) :
    Answers (exec (.regionCommit ch tag k) s) fun t =>
      MboxRuns t ch 0x21 tag [k.toNat] 0x10 [] false ∧ t.loaderState = 3 ∧ k.toNat ∉ t.com.built ∧
        t.com.staged = s.com.staged ∧ t.com.active = s.com.active := by
  refine mboxIssue_answers hr (by decide) (commitArg_lt k) fun u step busy => ?_
  rw [cmdRegionCommit_stale (getD_commitArg k) ((congrArg CommonSt.staged step.com).trans hs) ((step.commitBlocked _ _).trans hb)
    (step.com ▸ built) ((step.logOverflow _ _).trans ho)]
  have staged := u.commitStale_staged k.toNat x.regions
  have active := u.commitStale_active k.toNat x.regions
  have state := u.commitStale_loaderState k.toNat x.regions
  have gone := not_mem_commitStale_built u k.toNat x.regions
  have kept := u.commitStale_busy k.toNat x.regions ch busy
  generalize u.commitStale k.toNat x.regions = v at *
  refine ⟨mboxRuns_setMbox kept, (State.setMbox_fld ..).trans state, ?_,
    (State.setMbox_staged ..).trans (staged.trans (congrArg CommonSt.staged step.com)),
    (State.setMbox_active ..).trans (active.trans (congrArg CommonSt.active step.com))⟩
  rw [State.setMbox_built]
  exact gone

/-- An accepted commit hands the target's regions to its boundary (R47, R55). -/
theorem regionCommit_starts (ho : s.logOverflow k.toNat (regionsOf x.regions k.toNat) = false)
    (hd : s.dependOk k.toNat (regionsOf x.regions k.toNat) = true) (hi : s.insBlocks k.toNat (regionsOf x.regions k.toNat) = false) :
    Answers (exec (.regionCommit ch tag k) s) fun t =>
      (∃ mask, MboxRuns t ch 0x21 tag [k.toNat] 0 [mask] true ∧
        ∀ y < 12, bitAt mask y = (regionsOf x.regions k.toNat).any (fun r => decide (r.type = y))) ∧
      t.loaderState = 4 ∧ t.com.active = s.com.active ∧
      t.com.switches = s.com.switches ++ [⟨k.toNat, x.regions, !x.isPartial, x.imageId, x.secVer, some ch.val⟩] ∧
      RegsOutside [stwAt ch, regAt .stwLoad .STW_LOAD_STATUS] s t ∧ t.mem0 = s.mem0 ∧ t.mem1 = s.mem1 := by
  refine mboxIssue_answers hr (by decide) (commitArg_lt k) fun u step busy => ?_
  rw [cmdRegionCommit_starts (getD_commitArg k) ((congrArg CommonSt.staged step.com).trans hs) ((step.commitBlocked _ _).trans hb)
    (step.com ▸ built) ((step.logOverflow _ _).trans ho) ((step.dependOk _ _).trans hd) ((step.insBlocks _ _).trans hi), State.commitStart_eq]
  have com := u.committing_com (stagedSwitch ch k.toNat x)
  have state := u.committing_loaderState (stagedSwitch ch k.toNat x)
  have regs := u.committing_regs (stagedSwitch ch k.toNat x)
  have mem0 := u.committing_mem0 (stagedSwitch ch k.toNat x)
  have mem1 := u.committing_mem1 (stagedSwitch ch k.toNat x)
  generalize u.committing (stagedSwitch ch k.toNat x) = v at *
  have kept : v.fld (.stw ch) F.STW_STATUS_BUSY = 1 := (regs.fld _ _ _ (by fin_cases ch <;> decide)).trans busy
  refine ⟨⟨_, mboxRuns_setMbox kept, fun y hy => commitMask_bits _ _ hy⟩, (State.setMbox_fld ..).trans state,
    (State.setMbox_active ..).trans ?_,
    (State.setMbox_switches ..).trans ?_, ?_, (State.setMbox_mem0 ..).trans (mem0.trans step.mem0),
    (State.setMbox_mem1 ..).trans (mem1.trans step.mem1)⟩
  · rw [com, step.com]
  · rw [com, step.com]
    rfl
  · exact ((step.regs.mono (by simp)).trans (regs.mono (by simp))).same (State.setMbox_regs ..)

end

end Sys2Proof.Machine
end

section
/-! # The switch at the boundary (R47, R55, R56) -/

namespace Sys2Proof.Machine
open Sys2Proof

/-! A commit that is done. -/

/-- A target's commit recorded as done. -/
def State.doneAt (s : State) (t : Nat) : State :=
  { s.setBit .stwLoad (doneFld t) with com := { s.com with built := s.com.built.filter (fun k => decide (k ≠ t)) } }

/-- Does the staged image have a target that is not committed? -/
def State.uncommitted (s : State) : Bool :=
  match s.com.staged with
  | some x => [0, 1, 2, 3].any fun k => !(regionsOf x.regions k).isEmpty && !s.bit .stwLoad (doneFld k)
  | none => false

/-- The loader's state after a commit, with or without a target that is not committed. -/
def State.loaderAfter (s : State) (more : Bool) : State :=
  if more then s.loader 3 stOK
  else ({ s with com := { s.com with staged := none, built := [] } }.loader 0 stOK).setFld .stwLoad F.STW_LOAD_STATUS_STAGED_MASK 0

/-- What waits for a boundary, what is active, and the active image's name are as before. -/
structure NamesKept (s u : State) : Prop where
  switches : u.com.switches = s.com.switches
  active : u.com.active = s.com.active
  imageId : u.com.imageId = s.com.imageId
  imageSec : u.com.imageSec = s.com.imageSec

theorem NamesKept.setMbox {s u : State} (h : NamesKept s u) (ch : Nat) (m : Option MbRun) : NamesKept s (u.setMbox ch m) :=
  ⟨(State.setMbox_switches ..).trans h.switches, (State.setMbox_active ..).trans h.active, (State.setMbox_imageId ..).trans h.imageId,
    (State.setMbox_imageSec ..).trans h.imageSec⟩

section
variable (s : State) (t : Nat)

theorem State.doneAt_bit : (s.doneAt t).bit .stwLoad (doneFld t) = true := by
  have narrow : (doneFld t).hi < 32 ∧ (doneFld t).lo ≤ (doneFld t).hi := by
    unfold doneFld
    split
    all_goals decide
  have set := s.bit_setBit_same .stwLoad (doneFld t) 0 narrow.1 narrow.2
  unfold State.doneAt
  generalize s.setBit .stwLoad (doneFld t) = u at *
  exact (State.bit_congr (State.fld_congr (s := u) rfl ..)).trans set

variable (more : Bool)

theorem State.loaderAfter_regs : RegsOutside [regAt .stwLoad .STW_LOAD_STATUS] s (s.loaderAfter more) := by
  cases more with
  | true => exact s.loader_regs 3 stOK
  | false =>
    have idle : RegsOutside [regAt .stwLoad .STW_LOAD_STATUS] s { s with com := { s.com with staged := none, built := [] } } := .of_eq rfl
    exact (idle.trans (State.loader_regs _ 0 stOK)).setFld .stwLoad F.STW_LOAD_STATUS_STAGED_MASK 0 0 (regIn_of_mem (.head _))

theorem State.loaderAfter_done : (s.loaderAfter more).bit .stwLoad (doneFld t) = s.bit .stwLoad (doneFld t) := by
  have targets : (doneFld t).id = .STW_LOAD_TARGETS := by
    unfold doneFld
    split
    all_goals rfl
  exact State.bit_congr ((s.loaderAfter_regs more).fld _ _ _ (by rw [targets]; decide))

theorem State.loaderAfter_mbox (ch : Nat) : (s.loaderAfter more).mbox ch = s.mbox ch := by cases more <;> rfl
theorem State.loaderAfter_doneAt_mbox (ch : Nat) : ((s.doneAt t).loaderAfter more).mbox ch = s.mbox ch :=
  (State.loaderAfter_mbox _ more ch).trans rfl

/-- The end of a commit names nothing anew. -/
theorem State.loaderAfter_doneAt_names : NamesKept s ((s.doneAt t).loaderAfter more) := by
  cases more
  · exact ⟨rfl, rfl, rfl, rfl⟩
  · exact ⟨rfl, rfl, rfl, rfl⟩

theorem State.loaderAfter_staged : (s.loaderAfter false).com.staged = none := rfl

theorem State.loaderAfter_loaderState : (s.loaderAfter more).loaderState = if more then 3 else 0 := by
  cases more with
  | true => exact (s.loaderState_loader 3 stOK).trans (by decide)
  | false =>
    have idle := State.loaderState_loader { s with com := { s.com with staged := none, built := [] } } 0 stOK
    exact ((State.fld_loadStatus_apart _ _ (by decide) (by decide) (by decide)).trans idle).trans (by decide)

end

section
variable {s : State} {ch t : Nat}

theorem State.commitDone_of_some {m : MbRun} (hm : s.mbox ch = some m) :
    s.commitDone ch t = ((s.doneAt t).loaderAfter (s.doneAt t).uncommitted).setMbox ch (some { m with wait := false }) := by
  have held := (s.loaderAfter_doneAt_mbox t (s.doneAt t).uncommitted ch).trans hm
  unfold State.commitDone
  extract_lets
  next w =>
    have held' : w.mbox ch = some m := held
    rw [held']
    rfl

theorem State.commitDone_of_none (hm : s.mbox ch = none) : s.commitDone ch t = (s.doneAt t).loaderAfter (s.doneAt t).uncommitted := by
  have held := (s.loaderAfter_doneAt_mbox t (s.doneAt t).uncommitted ch).trans hm
  unfold State.commitDone
  extract_lets
  next w =>
    have held' : w.mbox ch = none := held
    rw [held']
    rfl

theorem State.commitDone_names : NamesKept s (s.commitDone ch t) := by
  cases hm : s.mbox ch with
  | none =>
    rw [State.commitDone_of_none hm]
    exact s.loaderAfter_doneAt_names t _
  | some m =>
    rw [State.commitDone_of_some hm]
    exact (s.loaderAfter_doneAt_names t _).setMbox ch _

end

/-- What a command's commit leaves when it is done. -/
structure CommitDone (s : State) (ch t : Nat) (m : MbRun) (u : State) : Prop where
  done : u.bit .stwLoad (doneFld t) = true
  mbox : u.mbox ch = some { m with wait := false }
  state : u.loaderState = 3 ∨ u.loaderState = 0
  last : ∀ x, s.com.staged = some x → (∀ j < 4, j ≠ t → regionsOf x.regions j = []) → u.loaderState = 0 ∧ u.com.staged = none

/-- Nothing is left to commit of an image without another target. -/
theorem State.uncommitted_doneAt {s : State} {t : Nat} {x : Staged} (hs : s.com.staged = some x)
    (only : ∀ j < 4, j ≠ t → regionsOf x.regions j = []) : (s.doneAt t).uncommitted = false := by
  have staged : (s.doneAt t).com.staged = some x := hs
  rw [State.uncommitted, staged]
  refine List.any_eq_false.mpr ?_
  intro k hk
  have small : k < 4 := by
    simp only [List.mem_cons, List.not_mem_nil, or_false] at hk
    omega
  by_cases e : k = t
  · subst e
    simp [s.doneAt_bit k]
  · simp [only k small e]

theorem State.commitDone_done {s : State} {ch t : Nat} {m : MbRun} (hm : s.mbox ch = some m) : CommitDone s ch t m (s.commitDone ch t) := by
  have last : ∀ x, s.com.staged = some x → (∀ j < 4, j ≠ t → regionsOf x.regions j = []) → (s.doneAt t).uncommitted = false :=
    fun x hs only => State.uncommitted_doneAt hs only
  have done := s.doneAt_bit t
  rw [State.commitDone_of_some hm]
  generalize s.doneAt t = u at *
  generalize u.uncommitted = more at *
  refine ⟨(State.setMbox_bit ..).trans ((u.loaderAfter_done t more).trans done), State.mbox_setMbox_same .., ?_, fun x hs only => ?_⟩
  · rw [State.loaderState, State.setMbox_fld, ← State.loaderState, u.loaderAfter_loaderState]
    cases more
    · exact .inr rfl
    · exact .inl rfl
  · rw [State.loaderState, State.setMbox_fld, ← State.loaderState, u.loaderAfter_loaderState, last x hs only, State.setMbox_staged]
    exact ⟨rfl, u.loaderAfter_staged⟩

/-! The switch. -/

/-- The state in which a target has switched to its committed banks. -/
def State.switched (s : State) (w : Switch) : State :=
  let rs := regionsOf w.regions w.target
  let s := { s with com := { s.com with switches := s.com.switches.erase w } }
  let s := rs.foldl (fun (s : State) r => s.swRegion w.target w.full r) s
  let s := if w.target < 2 ∧ rs.any (fun r => decide (r.type = 0 ∨ r.type = 6)) then s.stoppedClosed (targetLane w.target) else s
  let s := { s with com := { s.com with active := activeAfter s.com.active w.target rs } }
  if w.full then { s with com := { s.com with imageId := w.imageId, imageSec := w.secVer } } else s

/-- What a switch leaves of the office. -/
structure Switched (s : State) (w : Switch) (u : State) : Prop where
  switches : u.com.switches = s.com.switches.erase w
  active : u.com.active = activeAfter s.com.active w.target (regionsOf w.regions w.target)
  staged : u.com.staged = s.com.staged
  mbox : ∀ ch, u.mbox ch = s.mbox ch
  image : w.full = true → u.com.imageId = w.imageId ∧ u.com.imageSec = w.secVer
  kept : w.full = false → u.com.imageId = s.com.imageId ∧ u.com.imageSec = s.com.imageSec

theorem State.switched_switched (s : State) (w : Switch) : Switched s w (s.switched w) := by
  unfold State.switched
  extract_lets rs c u v x c' y
  have kept : OfficeKept u x :=
    have v_kept : OfficeKept u v := OfficeKept.foldl (fun _ r h => h.swRegion w.target w.full r) rs (.refl u)
    .ite _ (v_kept.stoppedClosed _) v_kept
  have switches : x.com.switches = s.com.switches.erase w := kept.switches
  have staged : x.com.staged = s.com.staged := kept.staged
  have imageId : x.com.imageId = s.com.imageId := kept.imageId
  have imageSec : x.com.imageSec = s.com.imageSec := kept.imageSec
  have mbox : ∀ ch, x.mbox ch = s.mbox ch := kept.mbox
  have active : activeAfter x.com.active w.target rs = activeAfter s.com.active w.target rs :=
    congrArg (activeAfter · w.target rs) kept.active
  split
  next full => exact ⟨switches, active, staged, mbox, fun _ => ⟨rfl, rfl⟩, fun h => Bool.noConfusion (h.symm.trans full)⟩
  next part => exact ⟨switches, active, staged, mbox, fun h => absurd h part, fun _ => ⟨imageId, imageSec⟩⟩

end Sys2Proof.Machine
end

section
/-! # O12: the loader's commands and the switch of a target's regions (R47, R49, R54 to R56) -/

namespace Sys2Proof.Machine
open Sys2Proof

theorem State.bankSwitch_none {s : State} {w : Switch} (hc : w.chan = none) : s.bankSwitch w = s.switched w := by
  unfold State.bankSwitch
  rw [hc]
  rfl

theorem State.bankSwitch_some {s : State} {w : Switch} {ch : Nat} (hc : w.chan = some ch) :
    s.bankSwitch w = (s.switched w).commitDone ch w.target := by
  unfold State.bankSwitch
  rw [hc]
  rfl

theorem State.bankStale_eq {s : State} {w : Switch} {ch : Nat} {m : MbRun} (hc : w.chan = some ch) (hm : s.mbox ch = some m) :
    s.bankStale w = (({ s with com := { s.com with switches := s.com.switches.erase w } } : State).commitStale w.target w.regions).setMbox ch
      (some { m with code := stSTALE, res := [], wait := false }) := by
  have held := (State.commitStale_mbox { s with com := { s.com with switches := s.com.switches.erase w } } w.target w.regions ch).trans hm
  unfold State.bankStale
  rw [hc]
  dsimp only
  rw [held]

/-- What a switch leaves waiting, active and named, with a command's commit or without. -/
theorem State.bankSwitch_names (s : State) (w : Switch) : NamesKept (s.switched w) (s.bankSwitch w) := by
  cases hc : w.chan with
  | none =>
    rw [State.bankSwitch_none hc]
    exact ⟨rfl, rfl, rfl, rfl⟩
  | some ch =>
    rw [State.bankSwitch_some hc]
    exact State.commitDone_names

section
variable {s : State} {k : Fin 4} {w : Switch} (hs : s.com.switches = [w]) (ht : w.target = k.val) (hu : s.up (targetDom k) = true)
include hs ht hu

/-- The one commit that waits for a target's boundary is the one that reaches it. -/
theorem execRegionBankSwitch_eq : execRegionBankSwitch k s =
    if s.logOverflow k (regionsOf w.regions k) then ok (s.bankStale w) else ok (s.bankSwitch w) := by
  unfold execRegionBankSwitch
  rw [hs, List.find?_cons_of_pos (by simpa using ht)]
  simp only [ht, hu, Bool.not_true, Bool.false_eq_true, if_false]

/-- The switch of a target at its boundary. -/
theorem regionBankSwitch_switches (ho : s.logOverflow k (regionsOf w.regions k) = false) :
    Answers (exec (.regionBankSwitch k) s) fun t =>
      t.com.switches = [] ∧ t.com.active = activeAfter s.com.active k (regionsOf w.regions k) ∧
      (w.full = true → t.com.imageId = w.imageId ∧ t.com.imageSec = w.secVer) ∧
      (w.full = false → t.com.imageId = s.com.imageId ∧ t.com.imageSec = s.com.imageSec) ∧
      (∀ (ch : Fin 2) (m : MbRun), w.chan = some ch.val → s.mbox ch = some m →
        t.bit .stwLoad (doneFld k) = true ∧ t.mbox ch = some { m with wait := false } ∧ (t.loaderState = 3 ∨ t.loaderState = 0) ∧
        (∀ x : Staged, s.com.staged = some x → (∀ j < 4, j ≠ k.val → regionsOf x.regions j = []) → t.loaderState = 0 ∧ t.com.staged = none)) := by
  have switch := s.switched_switched w
  have names := s.bankSwitch_names w
  have step : exec (.regionBankSwitch k) s = ok (s.bankSwitch w) := (execRegionBankSwitch_eq hs ht hu).trans (if_neg (by rw [ho]; decide))
  refine ⟨_, step, ?_, ?_, fun full => ?_, fun part => ?_, fun ch m hc hm => ?_⟩
  · rw [names.switches, switch.switches, hs, List.erase_cons_head]
  · rw [names.active, switch.active, ht]
  · rw [names.imageId, names.imageSec]
    exact switch.image full
  · rw [names.imageId, names.imageSec]
    exact switch.kept part
  · obtain ⟨done, mbox, state, last⟩ := State.commitDone_done (t := w.target) ((switch.mbox ch).trans hm)
    rw [ht] at done last
    rw [State.bankSwitch_some hc, ht]
    rw [ht] at mbox state
    exact ⟨done, mbox, state, fun x hx => last x (switch.staged.trans hx)⟩

/-- A command's commit whose change log has overflowed at the boundary ends with STALE (R55). -/
theorem regionBankSwitch_stale {ch : Fin 2} {m : MbRun} (ho : s.logOverflow k (regionsOf w.regions k) = true) (hc : w.chan = some ch.val)
    (hm : s.mbox ch = some m) :
    Answers (exec (.regionBankSwitch k) s) fun t =>
      t.com.switches = [] ∧ t.com.active = s.com.active ∧ k.val ∉ t.com.built ∧ t.loaderState = 3 ∧
        t.mbox ch = some { m with code := 0x10, res := [], wait := false } := by
  have step : exec (.regionBankSwitch k) s = ok (s.bankStale w) := (execRegionBankSwitch_eq hs ht hu).trans (if_pos ho)
  refine ⟨_, step, ?_⟩
  rw [State.bankStale_eq hc hm, ht]
  have switches := State.commitStale_switches { s with com := { s.com with switches := s.com.switches.erase w } } k w.regions
  have active := State.commitStale_active { s with com := { s.com with switches := s.com.switches.erase w } } k w.regions
  have built := not_mem_commitStale_built { s with com := { s.com with switches := s.com.switches.erase w } } k w.regions
  have state := State.commitStale_loaderState { s with com := { s.com with switches := s.com.switches.erase w } } k w.regions
  generalize State.commitStale _ _ _ = v at *
  refine ⟨(State.setMbox_switches ..).trans (switches.trans ?_), (State.setMbox_active ..).trans active, ?_,
    (State.setMbox_fld ..).trans state, State.mbox_setMbox_same ..⟩
  · rw [hs]
    exact List.erase_cons_head ..
  · rw [State.setMbox_built]
    exact built

end

/-! The images that IMAGE_STAGE takes. -/

section
variable {ch : Fin 2} {tag : BitVec 16} {b len : Word} {addr : BitVec 64} {s : State}

/-- A staging that is answered with a status leaves the state it finds. -/
theorem imageStage_refused {e : Nat} (hr : MboxReady s ch 0x20)
    (hf : ∀ u, ChannelStep ch s u → cmdImageStage (mboxArgs (stageArgs b len addr)) u = cmdCode u e) :
    Answers (exec (.imageStage ch tag b addr len) s) fun t => MboxRuns t ch 0x20 tag (stageArgs b len addr) e [] false ∧ MboxOnly ch s t :=
  mboxIssue_leaves hr (by decide) (stageArgs_lt b len addr) hf

theorem readLanes_stageArgs {u : State} (step : ChannelStep ch s u) :
    readLanes u (argAddr (mboxArgs (stageArgs b len addr)) 1) ((mboxArgs (stageArgs b len addr)).getD 3 0) =
      readLanes s addr.toNat len.toNat := by
  rw [argAddr_stageArgs, step.readLanes]
  rfl

variable (hl : s.loaderState = 0 ∨ s.loaderState = 5)
include hl

theorem ChannelStep.mayStage {u : State} (step : ChannelStep ch s u) : u.loaderState = 0 ∨ u.loaderState = 5 :=
  hl.imp step.loaderState.trans step.loaderState.trans

/-- An image in lane memory is taken when the lanes' copies agree. -/
theorem cmdImageStage_lanes {u : State} (hb : b.toNat = 2) (hm : addr.toNat + len.toNat ≤ 0x400000000) (step : ChannelStep ch s u) :
    (∀ v, readLanes s addr.toNat len.toNat = .ok v →
      cmdImageStage (mboxArgs (stageArgs b len addr)) u = ⟨stageTaken u (.mem v) len.toNat, stOK, [], true⟩) ∧
    ∀ e, readLanes s addr.toNat len.toNat = .error e → cmdImageStage (mboxArgs (stageArgs b len addr)) u = cmdCode u e := by
  have room : argAddr (mboxArgs (stageArgs b len addr)) 1 + (mboxArgs (stageArgs b len addr)).getD 3 0 ≤ 0x400000000 := by
    rw [argAddr_stageArgs]
    exact hm
  obtain ⟨agree, differ⟩ := cmdImageStage_mem (step.mayStage hl) (a := mboxArgs (stageArgs b len addr)) hb room
  exact ⟨fun v hv => agree v ((readLanes_stageArgs step).trans hv), fun e he => differ e ((readLanes_stageArgs step).trans he)⟩

end

/-- Settles O12: a staging and a commit by the loader's state (R49, R54 to R56), and the switch at the boundary through what it leaves of
Common's state (R47). The two completions of a staging are log entry 73, its acceptance from IDLE and FAILED alone is log entry 19, and
STALE at the boundary is log entry 23. -/
theorem imageAndRegions : Obligations.ImageAndRegions := by
  unfold Obligations.ImageAndRegions
  refine ⟨fun ch tag b len addr s => ⟨fun hr h0 h5 => ?_, fun hr hl => ⟨fun hb => ?_, fun hb hm => ⟨fun v hv => ?_, fun e he => ?_⟩⟩,
    fun m src n hc hs hm ho hw hf hn hb => ⟨fetch_completes hc hs hm ho hw hf hn, fun hl => ⟨fun bad => ?_,
      verify_completes hc hs hm ho hw hf hn hl hb⟩⟩, stageDiscard_ends⟩,
    fun ch tag k s hr => ⟨regionCommit_unstaged hr, fun x hx hk hp ho hu => regionCommit_partial hr hx hk hp ho hu,
      fun x hx built hb => ⟨regionCommit_stale hr hx built hb, regionCommit_starts hr hx built hb⟩⟩,
    fun k w s hs ht hu => ⟨regionBankSwitch_switches hs ht hu, fun ch m => regionBankSwitch_stale hs ht hu⟩⟩
  · exact imageStage_refused hr fun u step => cmdImageStage_refused (step.loaderState.trans_ne h0) (step.loaderState.trans_ne h5)
  · exact imageStage_accepted hr fun u step => cmdImageStage_bank (step.mayStage hl) hb
  · exact imageStage_accepted hr fun u step => (cmdImageStage_lanes hl hb hm step).1 v hv
  · exact imageStage_refused hr fun u step => (cmdImageStage_lanes hl hb hm step).2 e he
  · obtain ⟨code, ends⟩ := (State.stageVerify_ends hn hb ch src n).1 bad
    exact ⟨code, (ends.failed (code.trans_ne bad)).1, ends.wait⟩

end Sys2Proof.Machine
end

section
/-! # Frames of the time units: the registers stored to, and the rest of the State that no time row touches -/

namespace Sys2Proof.Machine
open Sys2Proof

/-- The part of the State that time rows may not touch: memories, flash, domains, pairing queues, staged registers, Common, the pins
and the commands that wait. -/
def State.beyondTime (s : State) : State :=
  { s with regs := [], pa := .empty, pb := .empty, l0 := .empty, l1 := .empty, ink := .first, real := 0, rdata := 0, freeCtr := 0 }

/-- Between two states no word outside the ranges moved, and what `State.beyondTime` names is the same. -/
structure Within (rs : List (Nat × Nat)) (s t : State) : Prop where
  regs : RegsOutside rs s t
  rest : t.beyondTime = s.beyondTime

/-- The registers of the lanes that the choice of clocks may write: CFG_TIME_FOLLOW, the records of the EPS, and the event recorder's. -/
def lanesTuneAt : List (Nat × Nat) :=
  [regAt (.lcfg .l0) .CFG_TIME_FOLLOW, regAt (.lcfg .l1) .CFG_TIME_FOLLOW, (epsBase .l0, 0x100000), (epsBase .l1, 0x100000), evrAt]

/-- The registers that the choice of clocks may write: those of the lanes, and the planes' TIM_STATUS. -/
def tuneAt : List (Nat × Nat) := regAt (.tim .a) .TIM_STATUS :: regAt (.tim .b) .TIM_STATUS :: lanesTuneAt

theorem lanesTuneAt_inside : ∀ e ∈ lanesTuneAt, e ∈ tuneAt := fun _ h => .tail _ (.tail _ h)

theorem tuneAt_inside : ∀ e ∈ tuneAt, ∃ f ∈ timeAt, f.1 ≤ e.1 ∧ e.1 + e.2 ≤ f.1 + f.2 := by decide

theorem followsAt_inside : ∀ e ∈ followsAt, e ∈ tuneAt := by decide

theorem evrAt_mem_timeAt : evrAt ∈ timeAt := by decide

theorem timeAt_eq : timeAt = [(0x1001C00000, 0x200000), (0x1002C00000, 0x200000), (0x1010000030, 1), (0x1020000030, 1),
    (2 ^ 48, 0x100000), (2 ^ 48 + 0x100000, 0x100000), (0x1000400000, 0x100000)] := by decide

theorem planeBase_cases (p : Plane) : planeBase p = 0x1001000000 ∨ planeBase p = 0x1002000000 := by cases p <;> decide

/-- An address within a time unit's two megabytes. -/
theorem timeAt_covers (p : Plane) {a : Nat} (h1 : planeBase p + 0xC00000 ≤ a) (h2 : a < planeBase p + 0xE00000) :
    ∃ e ∈ timeAt, e.1 ≤ a ∧ a < e.1 + e.2 := by
  rw [timeAt_eq]
  rcases planeBase_cases p with hp | hp <;> rw [hp] at h1 h2
  · exact ⟨_, .head _, h1, h2⟩
  · exact ⟨_, .tail _ (.head _), h1, h2⟩

theorem regAddr_tim (p : Plane) (r : RegId) (k : Nat) :
    regAddr (.tim p) r k = planeBase p + 0xC00000 + (r.geom.off + k * r.geom.stride) := Nat.add_assoc ..

theorem regAddr_timPort (p : Plane) (port : Nat) (r : RegId) (k : Nat) :
    regAddr (.timPort p port) r k = planeBase p + 0xD00000 + (port * 0x1000 + (r.geom.off + k * r.geom.stride)) :=
  (Nat.add_assoc ..).trans (Nat.add_assoc ..)

/-- A register of a time unit's own block. -/
theorem timAt_in (p : Plane) {r : RegId} {k : Nat} (h : r.geom.off + k * r.geom.stride < 0x100000) : RegIn timeAt (.tim p) r k :=
  timeAt_covers p (by rw [regAddr_tim]; omega) (by rw [regAddr_tim]; omega)

/-- A register of a port of a time unit. -/
theorem timPortAt_in (p : Plane) (port : Fin 11) {r : RegId} {k : Nat} (h : r.geom.off + k * r.geom.stride < 0x1000) :
    RegIn timeAt (.timPort p port) r k :=
  timeAt_covers p (by rw [regAddr_timPort]; omega) (by rw [regAddr_timPort]; omega)

theorem tuneAt_eq : tuneAt = [(0x1001C00004, 1), (0x1002C00004, 1), (0x1010000030, 1), (0x1020000030, 1), (2 ^ 48, 0x100000),
    (2 ^ 48 + 0x100000, 0x100000), (0x1000400000, 0x100000)] := by decide

/-- A register of a time unit's block but TIM_STATUS lies apart from what the choice of clocks writes. -/
theorem tim_apart (p : Plane) {r : RegId} {k : Nat} (h : r.geom.off + k * r.geom.stride < 0x100000)
    (h4 : r.geom.off + k * r.geom.stride ≠ 4) : ∀ e ∈ tuneAt, regAddr (.tim p) r k < e.1 ∨ e.1 + e.2 ≤ regAddr (.tim p) r k := by
  rw [tuneAt_eq, regAddr_tim]
  generalize r.geom.off + k * r.geom.stride = o at *
  rcases planeBase_cases p with hp | hp <;> rw [hp] <;>
    simp only [List.forall_mem_cons, List.not_mem_nil, false_implies, implies_true, and_true] <;> omega

/-- A register of a port of a time unit lies apart from what the choice of clocks writes. -/
theorem timPort_apart (p : Plane) (port : Fin 11) {r : RegId} {k : Nat} (h : r.geom.off + k * r.geom.stride < 0x1000) :
    ∀ e ∈ tuneAt, regAddr (.timPort p port) r k < e.1 ∨ e.1 + e.2 ≤ regAddr (.timPort p port) r k := by
  have := port.isLt
  rw [tuneAt_eq, regAddr_timPort]
  generalize r.geom.off + k * r.geom.stride = o at *
  rcases planeBase_cases p with hp | hp <;> rw [hp] <;>
    simp only [List.forall_mem_cons, List.not_mem_nil, false_implies, implies_true, and_true] <;> omega

theorem RegsOutside.setWinWords {rs : List (Nat × Nat)} {s t : State} (h : RegsOutside rs s t) {a : Nat} (n v : Nat)
    (hx : ∃ e ∈ rs, e.1 ≤ a ∧ a + 4 * n ≤ e.1 + e.2) : RegsOutside rs s (t.setWinWords a n v) := by
  induction n generalizing t a v with
  | zero => exact h
  | succ n ih =>
    obtain ⟨e, he, h1, h2⟩ := hx
    exact ih (h.setWin a _ ⟨e, he, h1, by omega⟩) _ ⟨e, he, by omega, by omega⟩

namespace Within
variable {rs qs : List (Nat × Nat)} {s t u : State}

theorem refl (rs : List (Nat × Nat)) (s : State) : Within rs s s := ⟨.refl _ _, rfl⟩

theorem trans (h : Within rs s t) (g : Within rs t u) : Within rs s u := ⟨h.regs.trans g.regs, g.rest.trans h.rest⟩

theorem mono (h : Within rs s t) (hq : ∀ e ∈ rs, e ∈ qs) : Within qs s t := ⟨h.regs.mono hq, h.rest⟩

theorem timed (h : Within tuneAt s t) : Within timeAt s t := ⟨h.regs.cover tuneAt_inside, h.rest⟩

/-- The frame as O14 and O15 state it. -/
theorem beside (h : Within rs s t) : Beside s t :=
  ⟨(congrArg State.mem0 h.rest :), (congrArg State.mem1 h.rest :), (congrArg State.flash0 h.rest :), (congrArg State.flash1 h.rest :),
    (congrArg State.dom h.rest :), (congrArg State.com h.rest :), (congrArg State.pairQ h.rest :), (congrArg State.shreg h.rest :),
    (congrArg State.pending h.rest :)⟩

theorem frame (h : Within rs s t) : Beside s t ∧ RegsOutside rs s t := ⟨h.beside, h.regs⟩

theorem pins (h : Within rs s t) : t.pins = s.pins := (congrArg State.pins h.rest :)
theorem dom (h : Within rs s t) : t.dom = s.dom := (congrArg State.dom h.rest :)

theorem planeUp (h : Within rs s t) (p : Plane) : t.planeUp p = s.planeUp p := State.up_congr h.dom _

/-- A step that stores no register. -/
theorem same (h : Within rs s t) (hr : u.regs = t.regs) (hb : u.beyondTime = t.beyondTime) : Within rs s u := ⟨h.regs.same hr, hb.trans h.rest⟩

theorem ite {c : Prop} [Decidable c] {a b : State} (ha : Within rs s a) (hb : Within rs s b) : Within rs s (if c then a else b) :=
  iteInduction (motive := Within rs s) (fun _ => ha) fun _ => hb

theorem wr (h : Within rs s t) {p : Page} {r : RegId} {k : Nat} (hx : RegIn rs p r k) (v : Word) : Within rs s (t.wr p r k v) :=
  ⟨h.regs.wr p r k v hx, h.rest⟩

theorem setFld (h : Within rs s t) {p : Page} {f : Fld} {k : Nat} (hx : RegIn rs p f.id k) (v : Nat) : Within rs s (t.setFld p f v k) :=
  h.wr hx _

theorem setBit (h : Within rs s t) {p : Page} {f : Fld} {k : Nat} (hx : RegIn rs p f.id k) : Within rs s (t.setBit p f k) := h.setFld hx _

theorem bump (h : Within rs s t) {p : Page} {f : Fld} {k : Nat} (hx : RegIn rs p f.id k) (n : Nat) : Within rs s (t.bump p f k n) :=
  h.setFld hx _

theorem setPlane (h : Within rs s t) (p : Plane) (x : PlaneSt) : Within rs s (t.setPlane p x) := by cases p <;> exact h.same rfl rfl

theorem setLane (h : Within rs s t) (l : Lane) (x : LaneSt) : Within rs s (t.setLane l x) := by cases l <;> exact h.same rfl rfl

theorem setEnt (h : Within rs s t) {a : Nat} {f : EFld} (v : Nat)
    (hx : ∃ e ∈ rs, e.1 ≤ a + f.off / 4 * 4 ∧ a + f.off / 4 * 4 + 4 * ((f.hi + 8 * (f.off % 4)) / 32 + 1) ≤ e.1 + e.2) :
    Within rs s (t.setEnt a f v) :=
  ⟨h.regs.setWinWords _ _ hx, Eq.trans (congrArg State.beyondTime (State.body_setEnt t a f v) :) h.rest⟩

theorem event (h : Within rs s t) (hr : evrAt ∈ rs) (d : Dom) (c u v : Nat) : Within rs s (t.event d c u v) :=
  ⟨h.regs.event hr d c u v, Eq.trans (congrArg State.beyondTime (event_quiet t d c u v) :) h.rest⟩

theorem setBitEv (h : Within rs s t) (hr : evrAt ∈ rs) (d : Dom) {p : Page} {f : Fld} (hx : RegIn rs p f.id 0) (b x u : Nat) :
    Within rs s (t.setBitEv d p f b x u) := (h.setBit hx).event hr _ _ _ _

end Within

end Sys2Proof.Machine
end

section
/-! # Passing time, as the time rows use it: which fields of TIM_STATUS stay, and what a plane keeps (R65, R71, R74) -/

namespace Sys2Proof.Machine
open Sys2Proof

/-! Registers and planes beside each other's updates. -/

@[simp] theorem State.plane_setFld (s : State) (p : Page) (f : Fld) (v k : Nat) (q : Plane) : (s.setFld p f v k).plane q = s.plane q :=
  State.plane_wr ..

@[simp] theorem State.plane_setBit (s : State) (p : Page) (f : Fld) (k : Nat) (q : Plane) : (s.setBit p f k).plane q = s.plane q :=
  State.plane_wr ..

@[simp] theorem State.plane_bump (s : State) (p : Page) (f : Fld) (k n : Nat) (q : Plane) : (s.bump p f k n).plane q = s.plane q :=
  State.plane_wr ..

@[simp] theorem State.rd_setPlane (s : State) (p : Plane) (x : PlaneSt) (pg : Page) (r : RegId) (k : Nat) :
    (s.setPlane p x).rd pg r k = s.rd pg r k := by cases p <;> rfl

@[simp] theorem State.fld_setPlane (s : State) (p : Plane) (x : PlaneSt) (pg : Page) (f : Fld) (k : Nat) :
    (s.setPlane p x).fld pg f k = s.fld pg f k := State.fld_congr (State.setPlane_regs ..) _ _ _

@[simp] theorem State.fld_setLane (s : State) (l : Lane) (x : LaneSt) (pg : Page) (f : Fld) (k : Nat) :
    (s.setLane l x).fld pg f k = s.fld pg f k := State.fld_congr (State.setLane_regs ..) _ _ _

/-- There are two planes. -/
theorem Plane.eq_other {p q : Plane} (h : q ≠ p) : q = p.other := by cases p <;> cases q <;> simp_all [Plane.other]

theorem State.plane_setPlane_ne (s : State) {p q : Plane} (h : q ≠ p) (x : PlaneSt) : (s.setPlane p x).plane q = s.plane q := by
  obtain rfl := Plane.eq_other h
  exact State.plane_setPlane_other ..

/-- The status registers of the two planes, and those of the lanes, stand at addresses of their own. -/
theorem status_ne_follow (q : Plane) (l : Lane) : regAddr (.tim q) .TIM_STATUS 0 ≠ regAddr (.lcfg l) .CFG_TIME_FOLLOW 0 := by
  cases q <;> cases l <;> decide

theorem status_ne_status {p q : Plane} (h : q ≠ p) : regAddr (.tim q) .TIM_STATUS 0 ≠ regAddr (.tim p) .TIM_STATUS 0 := by
  obtain rfl := Plane.eq_other h
  cases p <;> decide

/-- A field of TIM_STATUS reads as before when another field of it is stored, in its plane or the other. -/
theorem State.fld_status_setFld (s : State) (p q : Plane) {f g : Fld} (hf : f ∈ RegId.TIM_STATUS.fields) (hg : g ∈ RegId.TIM_STATUS.fields)
    (h : g ≠ f) (v : Nat) : (s.setFld (.tim p) f v).fld (.tim q) g = s.fld (.tim q) g := by
  obtain ⟨fid, flo, fhi⟩ := fields_fit _ f hf
  obtain ⟨gid, glo, ghi⟩ := fields_fit _ g hg
  by_cases hq : q = p
  · subst hq
    exact State.fld_setFld_apart _ _ _ _ _ _ (gid.trans fid.symm) flo ghi (fields_apart_of_ne _ hg hf h)
  · refine State.fld_setFld_other _ _ _ _ _ _ _ _ ?_
    rw [gid, fid]
    exact status_ne_status hq

/-- A field of TIM_STATUS reads as before when CFG_TIME_FOLLOW is stored to. -/
theorem State.fld_status_setFollow (s : State) (l : Lane) (q : Plane) {f g : Fld} (hf : f.id = .CFG_TIME_FOLLOW)
    (hg : g ∈ RegId.TIM_STATUS.fields) (v : Nat) : (s.setFld (.lcfg l) f v).fld (.tim q) g = s.fld (.tim q) g := by
  refine State.fld_setFld_other _ _ _ _ _ _ _ _ ?_
  rw [hf, (fields_fit _ g hg).1]
  exact status_ne_follow q l

/-! The fields of TIM_STATUS but SLEWING stay as time passes. -/

section
variable {g : Fld} (hg : g ∈ RegId.TIM_STATUS.fields) (hs : g ≠ F.TIM_STATUS_SLEWING) (q : Plane)
include hg hs

theorem State.fld_runPlane (s : State) (p : Plane) (d : Nat) : (s.runPlane p d).fld (.tim q) g = s.fld (.tim q) g := by
  unfold State.runPlane
  refine iteInduction (motive := fun t => State.fld t (.tim q) g = _) (fun _ => rfl) fun _ => ?_
  refine iteInduction (motive := fun t => State.fld t (.tim q) g = _) (fun _ => ?_) fun _ => State.fld_setPlane ..
  rw [State.fld_status_setFld _ _ _ (by decide) hg hs, State.fld_setPlane]

omit hs in
theorem State.fld_runLane (s : State) (l : Lane) (d : Nat) : (s.runLane l d).fld (.tim q) g = s.fld (.tim q) g := by
  unfold State.runLane
  refine iteInduction (motive := fun t => State.fld t (.tim q) g = _) (fun _ => rfl) fun _ => ?_
  refine iteInduction (motive := fun t => State.fld t (.tim q) g = _) (fun _ => State.fld_setLane ..) fun _ => ?_
  refine iteInduction (motive := fun t => State.fld t (.tim q) g = _) (fun _ => ?_) fun _ => State.fld_setLane ..
  rw [State.fld_status_setFollow _ _ _ rfl hg, State.fld_setLane, State.fld_setLane]

theorem State.fld_runClocks (s : State) (d : Nat) : (s.runClocks d).fld (.tim q) g = s.fld (.tim q) g := by
  unfold State.runClocks
  rw [State.fld_runLane hg, State.fld_runLane hg, State.fld_runPlane hg hs, State.fld_runPlane hg hs]

omit hg hs in
theorem State.fld_slewSpan (s : State) (l : Lane) (d : Nat) : (s.slewSpan l d).fld (.tim q) g = s.fld (.tim q) g :=
  iteInduction (motive := fun t => State.fld t (.tim q) g = _) (fun _ => rfl) fun _ => State.fld_setLane ..

theorem State.fld_elapse (s : State) (d : Nat) : (s.elapse d).fld (.tim q) g = s.fld (.tim q) g := by
  unfold State.elapse
  rw [State.fld_runClocks hg hs, State.fld_slewSpan, State.fld_slewSpan]
  exact iteInduction (motive := fun t => State.fld t (.tim q) g = _) (fun _ => rfl) fun _ => rfl

end

/-! What passing time leaves. -/

/-- Time has passed between two states: clocks have run, and nothing else but the registers that show a slew's end has moved. -/
structure Passes (s t : State) : Prop where
  within : Within tuneAt s t
  untimed : t.untimed = s.untimed
  status : ∀ q, ∀ g ∈ RegId.TIM_STATUS.fields, g ≠ F.TIM_STATUS_SLEWING → t.fld (.tim q) g = s.fld (.tim q) g
  real : s.real ≤ t.real

theorem Passes.refl (s : State) : Passes s s := ⟨.refl _ s, rfl, fun _ _ _ _ => rfl, le_refl _⟩

theorem Passes.trans {s t u : State} (h : Passes s t) (g : Passes t u) : Passes s u :=
  ⟨h.within.trans g.within, g.untimed.trans h.untimed, fun q f hf hs => (g.status q f hf hs).trans (h.status q f hf hs),
    h.real.trans g.real⟩

theorem State.beyondTime_untimed (s : State) : s.untimed.beyondTime = s.beyondTime := rfl

theorem State.elapse_passes (s : State) (d : Nat) : Passes s (s.elapse d) := by
  have h := s.elapse_elapsed d
  have rest : (s.elapse d).beyondTime = s.beyondTime := by
    rw [← State.beyondTime_untimed, h.untimed, State.beyondTime_untimed]
  exact ⟨⟨h.regs.mono followsAt_inside, rest⟩, h.untimed, fun q _ hg hs => s.fld_elapse hg hs q d, by rw [h.real]; omega⟩

theorem State.reach_passes (clk : State → Nat) (m n : Nat) (s : State) : Passes s (s.reach clk m n) := by
  induction n generalizing s with
  | zero => exact .refl s
  | succ n ih =>
    refine iteInduction (motive := Passes s) (fun _ => .refl s) fun _ => ?_
    exact (s.elapse_passes _).trans (ih _)

theorem State.reachPlane_passes (s : State) (p : Plane) (m : Nat) : Passes s (s.reachPlane p m) := State.reach_passes ..

namespace Passes
variable {s t : State} (h : Passes s t)
include h

/-- A plane keeps all but its clock. -/
theorem plane (p : Plane) : (t.plane p).untimed = (s.plane p).untimed := by
  cases p
  · exact (congrArg State.pa h.untimed :)
  · exact (congrArg State.pb h.untimed :)

theorem pt (p : Plane) (i : Nat) : (t.plane p).pt i = (s.plane p).pt i := (congrArg (PlaneSt.pt · i) (h.plane p) :)
theorem port (p : Plane) (i : Nat) : (t.plane p).port i = (s.plane p).port i := (congrArg (PlaneSt.port · i) (h.plane p) :)
theorem res (p : Plane) : (t.plane p).res = (s.plane p).res := (congrArg PlaneSt.res (h.plane p) :)
theorem common (p : Plane) : (t.plane p).common = (s.plane p).common := (congrArg PlaneSt.common (h.plane p) :)

/-- A slot keeps all but its offsets from the clock. -/
theorem slot (p : Plane) (n : Nat) :
    { (t.plane p).slot n with off := none, prev := none } = { (s.plane p).slot n with off := none, prev := none } := by
  rcases n with _ | n
  · exact (congrArg PlaneSt.slot0 (h.plane p) :)
  · exact (congrArg PlaneSt.slot1 (h.plane p) :)

theorem best (p : Plane) (n : Nat) : ((t.plane p).slot n).best = ((s.plane p).slot n).best := (congrArg PtpSlot.best (h.slot p n) :)

theorem timState (p : Plane) : t.timState p = s.timState p := h.status p _ (by decide) (by decide)

end Passes

end Sys2Proof.Machine
end

section
/-! # What the choice of clocks leaves: the lanes that follow, and the planes that select a source (R67, R68, R71, R74) -/

namespace Sys2Proof.Machine
open Sys2Proof

/-! The lanes. -/

/-- A plane without its event queue. -/
def PlaneSt.unqueued (x : PlaneSt) : PlaneSt := { x with evq := ⟨[], 0⟩ }

/-- Between two states only what the lanes hold, their CFG_TIME_FOLLOW, the EPS records and the event recorder moved. -/
structure LanesStep (s t : State) : Prop where
  within : Within lanesTuneAt s t
  plane : ∀ q, (t.plane q).unqueued = (s.plane q).unqueued

namespace LanesStep
variable {s t u : State}

theorem refl (s : State) : LanesStep s s := ⟨.refl _ s, fun _ => rfl⟩

theorem ite {c : Prop} [Decidable c] {a b : State} (ha : LanesStep s a) (hb : LanesStep s b) : LanesStep s (if c then a else b) :=
  iteInduction (motive := LanesStep s) (fun _ => ha) fun _ => hb

theorem event (s : State) (d : Dom) (c u v : Nat) : LanesStep s (s.event d c u v) := by
  refine ⟨(Within.refl _ s).event (by decide) d c u v, fun q => ?_⟩
  have h := event_quiet s d c u v
  cases q
  · exact (congrArg State.pa h :)
  · exact (congrArg State.pb h :)

variable (h : LanesStep s t)
include h

theorem setLane (l : Lane) (x : LaneSt) : LanesStep s (t.setLane l x) :=
  ⟨h.within.setLane l x, fun q => by rw [State.plane_setLane, h.plane]⟩

theorem setFollow (l : Lane) {f : Fld} (v : Nat) (hf : f.id = .CFG_TIME_FOLLOW := by rfl) : LanesStep s (t.setFld (.lcfg l) f v) := by
  refine ⟨h.within.setFld (regIn_of_mem ?_) v, fun q => by rw [State.plane_setFld, h.plane]⟩
  rw [hf]
  cases l <;> decide

theorem drcSlew (l : Lane) (a b : Nat) : LanesStep s (t.drcSlew l a b) := h.setLane _ _

theorem laneTake (l : Lane) (p : Plane) : LanesStep s (t.laneTake l p) :=
  ((((ite h (h.drcSlew _ _ _)).setLane _ _).setFollow _ _).setFollow _ _).setFollow _ _

theorem laneSlewTo (l : Lane) (p : Plane) : LanesStep s (t.laneSlewTo l p) :=
  ite ((((((ite h (h.drcSlew _ _ _)).setLane _ _).setFollow _ _).setFollow _ _).setLane _ _).setFollow _ _)
    (((((ite h (h.drcSlew _ _ _)).setLane _ _).setFollow _ _).setFollow _ _).setFollow _ _)

theorem laneFollow (l : Lane) : LanesStep s (t.laneFollow l) := by
  have hold : LanesStep s (t.setFld (.lcfg l) F.CFG_TIME_FOLLOW_HOLDOVER 1) := h.setFollow _ _
  refine ite h (ite ?_ (ite h (ite (ite (h.laneSlewTo _ _) (ite (h.laneSlewTo _ _) h)) (ite (h.laneSlewTo _ _) hold))))
  generalize (if t.planeUp (t.defPlane l) then some (t.defPlane l)
    else if t.planeUp (t.defPlane l).other then some (t.defPlane l).other else none) = want
  cases want with
  | none => exact hold
  | some p => exact ite h (h.laneTake _ _)

theorem lanesFollow : LanesStep s t.lanesFollow := (h.laneFollow _).laneFollow _

/-- A field of a record in a lane's EPS area. -/
theorem setEps (l : Lane) {o : Nat} {f : EFld} (v : Nat)
    (ho : o + f.off / 4 * 4 + 4 * ((f.hi + 8 * (f.off % 4)) / 32 + 1) ≤ 0x100000) : LanesStep s (t.setEnt (epsBase l + o) f v) := by
  refine ⟨h.within.setEnt v ⟨(epsBase l, 0x100000), by cases l <;> decide, by omega, by omega⟩, fun q => ?_⟩
  have e : ∀ u : State, (u.plane q).unqueued = (u.body.plane q).unqueued := fun _ => by cases q <;> rfl
  rw [e, State.body_setEnt, ← e, h.plane]

/-- The step of an acquisition reaches the streams of a running EPS, of which there are at most 255 (R422). -/
theorem epsStep (l : Lane) (step : Int) : LanesStep s (t.epsStep l step) := by
  have one (u : State) (n : Nat) (hn : 4096 ≤ n ∧ n < 4352) (h : LanesStep s u) (w : Nat → Nat) : LanesStep s
      ((u.setEnt (strRec l n) E.T6_10_TRK_VALID 0).setEnt (strRec l n) E.T6_10_LAST_STAMP (w n)) := by
    have e : strRec l n = epsBase l + (0x2000 + 64 * (n - 4096)) := (if_neg (by omega)).trans (Nat.add_assoc ..)
    rw [e]
    refine (h.setEps l 0 ?_).setEps l _ ?_
    · show 0x2000 + 64 * (n - 4096) + 0 + 4 ≤ 0x100000
      omega
    · show 0x2000 + 64 * (n - 4096) + 20 + 12 ≤ 0x100000
      omega
  have bound : ∀ n ∈ t.epsStreams l, 4096 ≤ n ∧ n < 4352 := by
    intro n hn
    obtain ⟨i, hi, rfl⟩ := List.mem_map.mp (List.mem_of_mem_filter hn)
    have lt : t.ent (epsBase l) E.T19_2_N_STREAM < 256 := State.ent_lt t (epsBase l) E.T19_2_N_STREAM
    have := List.mem_range.mp hi
    omega
  unfold State.epsStep
  generalize t.epsStreams l = ns at bound
  induction ns generalizing t with
  | nil => exact h
  | cons n ns ih => exact ih (one t n (bound n (.head _)) h fun _ => _) fun m hm => bound m (.tail _ hm)

end LanesStep

end Sys2Proof.Machine
end

section
/-! # What the selection of sources leaves of the planes (R66, R67, R68, R71, R72) -/

namespace Sys2Proof.Machine
open Sys2Proof

/-- A slot without its offsets from the clock, but with whether it has one, and without since when it has been usable. -/
def PtpSlot.untuned (t : PtpSlot) : PtpSlot := { t with off := t.off.map fun _ => 0, prev := none, usableSince := none }

/-- A plane without its clock, its servo and source, and its event queue. -/
def PlaneSt.untuned (x : PlaneSt) : PlaneSt :=
  { x with
    now := 0, rate := 0, rateFrac := 0, slewFrac := 0, hist := [], resid := 0, lockedSince := none, lastPps := none, ppsPhase := 0
    evq := ⟨[], 0⟩, slot0 := x.slot0.untuned, slot1 := x.slot1.untuned }

/-- A plane's clock, and what has been measured against it. -/
def PlaneSt.clock (x : PlaneSt) : Nat × Option Int × Option Int × Option Nat := (x.now, x.slot0.off, x.slot1.off, x.lastPps)

theorem PlaneSt.slot_untuned (x : PlaneSt) (n : Nat) : x.untuned.slot n = (x.slot n).untuned := by cases n <;> rfl

theorem PlaneSt.off_of_clock {x y : PlaneSt} (h : x.clock = y.clock) (n : Nat) : (x.slot n).off = (y.slot n).off := by
  cases n
  · exact congrArg (·.2.1) h
  · exact congrArg (·.2.2.1) h

/-- What a slot is judged by does not depend on the value of its offset. -/
theorem slotCode_untuned (t : PtpSlot) (c : Nat) : slotCode t.untuned c = slotCode t c := by
  rcases h : t.best with _ | a <;> simp [slotCode, PtpSlot.untuned, h]

theorem PtpSlot.untuned_shift (t : PtpSlot) (m : Int) : (t.shift m).untuned = t.untuned := by
  simp [PtpSlot.shift, PtpSlot.untuned, Function.comp_def]

theorem PlaneSt.untuned_shift (x : PlaneSt) (m : Int) : (x.shift m).untuned = x.untuned := by
  simp only [PlaneSt.untuned, PlaneSt.shift, PtpSlot.untuned_shift]

/-- A plane whose clock has stepped by an acquisition (R67). -/
def PlaneSt.stepped (x : PlaneSt) (off : Int) : PlaneSt :=
  PlaneSt.shift { x with
    now := ((x.now : Int) + off).toNat, resid := 0, slewFrac := 0
    lastPps := x.lastPps.map fun t => ((t : Int) + off).toNat } off

theorem PlaneSt.untuned_stepped (x : PlaneSt) (off : Int) : (x.stepped off).untuned = x.untuned := PlaneSt.untuned_shift _ _

theorem PlaneSt.untuned_unqueued (x : PlaneSt) : x.unqueued.untuned = x.untuned := rfl
theorem PlaneSt.clock_unqueued (x : PlaneSt) : x.unqueued.clock = x.clock := rfl

/-- The fields of TIM_STATUS that the choice of a source leaves: FU_ORPHAN, PPS_DRIVE, PPSIN_NEW and XPLANE. -/
def keptStatus : List Fld := [F.TIM_STATUS_FU_ORPHAN, F.TIM_STATUS_PPS_DRIVE, F.TIM_STATUS_PPSIN_NEW, F.TIM_STATUS_XPLANE]

/-- The fields of TIM_STATUS that it may store, beside STATE. -/
def tunedStatus : List Fld :=
  [F.TIM_STATUS_CHANGE, F.TIM_STATUS_XDOM, F.TIM_STATUS_STEPPED, F.TIM_STATUS_SLEWING, F.TIM_STATUS_SOURCE]

theorem keptStatus_fields : ∀ g ∈ keptStatus, g ∈ RegId.TIM_STATUS.fields ∧ g ≠ F.TIM_STATUS_STATE ∧ g ∉ tunedStatus := by decide

theorem tunedStatus_fields : ∀ f ∈ tunedStatus, f ∈ RegId.TIM_STATUS.fields ∧ F.TIM_STATUS_STATE ≠ f := by decide

/-- Between two states the planes may have chosen other sources. A plane that is not FREE is not FREE after it. The clocks of the
planes `ps` may have stepped while they were FREE; every other clock, and what was measured against it, stands. -/
structure Tunes (ps : List Plane) (s t : State) : Prop where
  within : Within tuneAt s t
  plane : ∀ q, (t.plane q).untuned = (s.plane q).untuned
  status : ∀ q, ∀ g ∈ keptStatus, t.fld (.tim q) g = s.fld (.tim q) g
  left : ∀ q, s.timState q ≠ 0 → t.timState q ≠ 0
  clock : ∀ q, q ∉ ps ∨ s.timState q ≠ 0 → (t.plane q).clock = (s.plane q).clock

namespace Tunes
variable {ps qs : List Plane} {s t u : State}

theorem refl (ps : List Plane) (s : State) : Tunes ps s s := ⟨.refl _ s, fun _ => rfl, fun _ _ _ => rfl, fun _ h => h, fun _ _ => rfl⟩

theorem trans (h : Tunes ps s t) (g : Tunes ps t u) : Tunes ps s u :=
  ⟨h.within.trans g.within, fun q => (g.plane q).trans (h.plane q), fun q f hf => (g.status q f hf).trans (h.status q f hf),
    fun q hq => g.left q (h.left q hq), fun q hq => (g.clock q (hq.imp_right (h.left q))).trans (h.clock q hq)⟩

theorem ite {c : Prop} [Decidable c] {a b : State} (ha : Tunes ps s a) (hb : Tunes ps s b) : Tunes ps s (if c then a else b) :=
  iteInduction (motive := Tunes ps s) (fun _ => ha) fun _ => hb

/-- What the lanes do in answer. -/
theorem lanes (h : Tunes ps s t) (g : LanesStep t u) : Tunes ps s u := by
  have status (q : Plane) (f : Fld) (hf : f.id = .TIM_STATUS) : u.fld (.tim q) f = t.fld (.tim q) f := by
    refine g.within.regs.fld _ _ _ ?_
    rw [hf]
    cases q <;> decide
  refine h.trans ⟨g.within.mono lanesTuneAt_inside, fun q => ?_, fun q f hf => status q f ?_, fun q hq => ?_, fun q _ => ?_⟩
  · rw [← PlaneSt.untuned_unqueued, g.plane, PlaneSt.untuned_unqueued]
  · exact (fields_fit _ f (keptStatus_fields f hf).1).1
  · rwa [State.timState, status q _ rfl]
  · rw [← PlaneSt.clock_unqueued, g.plane, PlaneSt.clock_unqueued]

variable (h : Tunes ps s t)
include h

theorem event (d : Dom) (c u v : Nat) : Tunes ps s (t.event d c u v) := h.lanes (.event t d c u v)

/-- What a plane holds beside its clock is not looked at. -/
theorem setPlane (p : Plane) (x : PlaneSt) (hx : x.untuned = (t.plane p).untuned) (hc : x.clock = (t.plane p).clock) :
    Tunes ps s (t.setPlane p x) := by
  refine h.trans ⟨(Within.refl _ t).setPlane p x, fun q => ?_, fun q f _ => State.fld_setPlane ..,
    fun q hq => by rwa [State.timState, State.fld_setPlane], fun q _ => ?_⟩
  · by_cases hq : q = p
    · rw [hq, State.plane_setPlane, hx]
    · rw [State.plane_setPlane_ne t hq]
  · by_cases hq : q = p
    · rw [hq, State.plane_setPlane, hc]
    · rw [State.plane_setPlane_ne t hq]

/-- A FREE plane's clock steps. -/
theorem stepPlane (p : Plane) (x : PlaneSt) (hx : x.untuned = (t.plane p).untuned) (hp : p ∈ ps) (h0 : t.timState p = 0) :
    Tunes ps s (t.setPlane p x) := by
  refine h.trans ⟨(Within.refl _ t).setPlane p x, fun q => ?_, fun q f _ => State.fld_setPlane ..,
    fun q hq => by rwa [State.timState, State.fld_setPlane], fun q hq => ?_⟩
  · by_cases hq : q = p
    · rw [hq, State.plane_setPlane, hx]
    · rw [State.plane_setPlane_ne t hq]
  · have ne : q ≠ p := by
      rintro rfl
      exact hq.elim (· hp) (· h0)
    rw [State.plane_setPlane_ne t ne]

theorem setStatus (p : Plane) {f : Fld} (v : Nat) (hf : f ∈ tunedStatus := by decide) : Tunes ps s (t.setFld (.tim p) f v) := by
  obtain ⟨hm, hs⟩ := tunedStatus_fields f hf
  have hin : RegIn tuneAt (.tim p) f.id 0 := by
    rw [(fields_fit _ f hm).1]
    exact regIn_of_mem (by cases p <;> decide)
  refine h.trans ⟨(Within.refl _ t).setFld hin v, fun q => by rw [State.plane_setFld], fun q g hg => ?_, fun q hq => ?_,
    fun q _ => by rw [State.plane_setFld]⟩
  · obtain ⟨gm, _, gn⟩ := keptStatus_fields g hg
    exact t.fld_status_setFld p q hm gm (fun e => gn (e ▸ hf)) v
  · rwa [State.timState, t.fld_status_setFld p q hm (by decide) hs v]

/-- A plane becomes LOCKED or enters HOLDOVER. -/
theorem setState (p : Plane) {v : Nat} (hv : v % 4 ≠ 0) : Tunes ps s (t.setFld (.tim p) F.TIM_STATUS_STATE v) := by
  refine h.trans ⟨(Within.refl _ t).setFld (regIn_of_mem (by cases p <;> decide)) v, fun q => by rw [State.plane_setFld],
    fun q g hg => ?_, fun q hq => ?_, fun q _ => by rw [State.plane_setFld]⟩
  · obtain ⟨gm, gn, _⟩ := keptStatus_fields g hg
    exact t.fld_status_setFld p q (by decide) gm gn v
  · by_cases e : q = p
    · rwa [e, State.timState, State.fld_setFld_same _ _ _ _ _ (by decide) (by decide)]
    · rwa [State.timState, State.fld_setFld_other _ _ _ _ _ _ _ _ (status_ne_status e)]

theorem planeSlew (p : Plane) (off : Int) : Tunes ps s (t.planeSlew p off) := by
  have target : Tunes ps s (t.setPlane p { t.plane p with resid := off }) := h.setPlane _ _ rfl rfl
  refine ite ((target.setPlane p _ ?_ ?_).setStatus p (f := F.TIM_STATUS_SLEWING) 0)
    (target.setStatus p (f := F.TIM_STATUS_SLEWING) 1) <;> rfl

theorem acquire (p : Plane) (off : Int) (hp : p ∈ ps) (h0 : t.timState p = 0) : Tunes ps s (t.acquire p off) := by
  have stepped := ((h.stepPlane p _ (PlaneSt.untuned_stepped (t.plane p) off) hp h0).setStatus p (f := F.TIM_STATUS_STEPPED) 1).setStatus
    p (f := F.TIM_STATUS_SLEWING) 0
  have take (u : State) (l : Lane) : LanesStep u (if u.laneUp l && !u.gridRun l && !u.laneHold l && decide (u.followed l = p) then
      if (u.laneTake l p).epsRuns l then (u.laneTake l p).epsStep l off else u.laneTake l p else u) :=
    .ite (.ite (((LanesStep.refl u).laneTake _ _).epsStep _ _) ((LanesStep.refl u).laneTake _ _)) (.refl u)
  exact (stepped.lanes (take _ .l0)).lanes (take _ .l1)

theorem noteUsable (p : Plane) : Tunes ps s (t.noteUsable p) := by
  have note {u : State} (h : Tunes ps s u) (n : Nat) (v : Option Nat) :
      Tunes ps s (u.setPlane p ((u.plane p).setSlot n { (u.plane p).slot n with usableSince := v })) := by
    rcases n with _ | n
    · exact h.setPlane _ _ rfl rfl
    · exact h.setPlane _ _ rfl rfl
  exact note (note h 0 _) 1 _

theorem selectSource (p : Plane) (hp : p ∈ ps) : Tunes ps s (t.selectSource p) := by
  refine ite h ?_
  have hn := h.noteUsable p
  generalize t.noteUsable p = u at hn
  have hf := hn.setStatus p (f := F.TIM_STATUS_SOURCE) (u.pickSource p)
  have lost := ((hf.setPlane p { (u.setFld (.tim p) F.TIM_STATUS_SOURCE (u.pickSource p)).plane p with
    rate := meanRate ((u.setFld (.tim p) F.TIM_STATUS_SOURCE (u.pickSource p)).plane p).hist, resid := 0, slewFrac := 0
    lockedSince := none } rfl rfl).setStatus p (f := F.TIM_STATUS_SLEWING) 0).setState p (v := 2) (by decide)
  have locked {v : State} (h : Tunes ps s v) (since : Option Nat) : Tunes ps s
      ((v.setFld (.tim p) F.TIM_STATUS_STATE 1).setPlane p { v.plane p with lockedSince := since }) := by
    refine (h.setState p (by decide)).setPlane _ _ ?_ ?_ <;> rw [State.plane_setFld] <;> rfl
  have same : (u.setFld (.tim p) F.TIM_STATUS_SOURCE (u.pickSource p)).timState p = u.timState p :=
    u.fld_status_setFld p p (by decide) (by decide) (by decide) _
  have picked (y z : Option Nat) := ite (c := u.pickSource p = 0) (ite (c := u.timState p = 1) lost hf)
    (iteInduction (c := u.timState p = 0) (motive := Tunes ps s)
      (fun h0 => locked (hf.acquire p (u.srcOffset p (u.pickSource p)) hp (same.trans h0)) y) fun _ =>
      ite (c := (u.fld (.tim p) F.TIM_STATUS_SOURCE = u.pickSource p && decide (u.timState p = 1)) = true) hf
        (locked (hf.planeSlew p (u.srcOffset p (u.pickSource p))) z))
  exact (ite ((picked _ _).setStatus p (f := F.TIM_STATUS_CHANGE) 1) (picked _ _)).lanes ((LanesStep.refl _).lanesFollow)

end Tunes

theorem State.selectSource_tunes (s : State) (p : Plane) : Tunes [p] s (s.selectSource p) := (Tunes.refl _ s).selectSource p (.head _)

theorem State.selectSources_tunes (s : State) : Tunes [.a, .b] s s.selectSources :=
  ((Tunes.refl _ s).selectSource .a (.head _)).selectSource .b (.tail _ (.head _))

end Sys2Proof.Machine
end

section
/-! # A slot is stored, shown, and the planes select again (R68, R70, R77) -/

namespace Sys2Proof.Machine
open Sys2Proof

/-- A field of a register at another address reads as before a store to a register. -/
theorem State.fld_wr_other (s : State) {p q : Page} {r : RegId} {g : Fld} {k j : Nat} (h : regAddr q g.id j ≠ regAddr p r k) (v : Word) :
    (s.wr p r k v).fld q g j = s.fld q g j := by
  rw [State.fld, State.rd_wr_other _ _ _ _ _ _ _ _ h, State.fld]

/-! What a plane and its registers read after the choice of a source. -/

namespace Tunes
variable {ps : List Plane} {s t : State} (h : Tunes ps s t)
include h

theorem slot (p : Plane) (n : Nat) : ((t.plane p).slot n).untuned = ((s.plane p).slot n).untuned := by
  rw [← PlaneSt.slot_untuned, h.plane, PlaneSt.slot_untuned]

theorem best (p : Plane) (n : Nat) : ((t.plane p).slot n).best = ((s.plane p).slot n).best := (congrArg PtpSlot.best (h.slot p n) :)
theorem slotPort (p : Plane) (n : Nat) : ((t.plane p).slot n).port = ((s.plane p).slot n).port := (congrArg PtpSlot.port (h.slot p n) :)
theorem annStamp (p : Plane) (n : Nat) : ((t.plane p).slot n).annStamp = ((s.plane p).slot n).annStamp :=
  (congrArg PtpSlot.annStamp (h.slot p n) :)
theorem annLate (p : Plane) (n : Nat) : ((t.plane p).slot n).annLate = ((s.plane p).slot n).annLate :=
  (congrArg PtpSlot.annLate (h.slot p n) :)
theorem syncLate (p : Plane) (n : Nat) : ((t.plane p).slot n).syncLate = ((s.plane p).slot n).syncLate :=
  (congrArg PtpSlot.syncLate (h.slot p n) :)

theorem off_isSome (p : Plane) (n : Nat) : ((t.plane p).slot n).off.isSome = ((s.plane p).slot n).off.isSome := by
  have := congrArg (fun x : PtpSlot => x.off.isSome) (h.slot p n)
  simpa only [PtpSlot.untuned, Option.isSome_map] using this

theorem slotCode (p : Plane) (n c : Nat) : slotCode ((t.plane p).slot n) c = slotCode ((s.plane p).slot n) c := by
  rw [← slotCode_untuned, h.slot, slotCode_untuned]

theorem res (p : Plane) : (t.plane p).res = (s.plane p).res := (congrArg PlaneSt.res (h.plane p) :)
theorem common (p : Plane) : (t.plane p).common = (s.plane p).common := (congrArg PlaneSt.common (h.plane p) :)

/-- The offset of a slot whose plane is not FREE. -/
theorem off (p : Plane) (n : Nat) (h0 : s.timState p ≠ 0) : ((t.plane p).slot n).off = ((s.plane p).slot n).off :=
  PlaneSt.off_of_clock (h.clock p (.inr h0)) n

/-- A register of a time unit but TIM_STATUS reads as it did. -/
theorem rd (p : Plane) {r : RegId} {k : Nat} (hr : r.geom.off + k * r.geom.stride < 0x100000)
    (h4 : r.geom.off + k * r.geom.stride ≠ 4) : t.rd (.tim p) r k = s.rd (.tim p) r k := h.within.regs.rd _ _ _ (tim_apart p hr h4)

end Tunes

/-! The registers of a slot. -/

/-- Is a register one of a slot's? -/
def RegId.ofSlot (r : RegId) : Bool := decide (r.geom.stride = 64 ∧ 4 < r.geom.off ∧ r.geom.off < 0x1000)

section
variable {r : RegId} (hr : r.ofSlot = true) {n : Nat} (hn : n < 2)
include hr hn

theorem ofSlot_low : r.geom.off + n * r.geom.stride < 0x100000 ∧ r.geom.off + n * r.geom.stride ≠ 4 := by
  obtain ⟨stride, _, _⟩ := of_decide_eq_true hr
  rw [stride]
  omega

theorem slotAt_in (p : Plane) : RegIn timeAt (.tim p) r n := timAt_in p (ofSlot_low hr hn).1

theorem Tunes.rdSlot {ps : List Plane} {s t : State} (h : Tunes ps s t) (p : Plane) : t.rd (.tim p) r n = s.rd (.tim p) r n :=
  h.rd p (ofSlot_low hr hn).1 (ofSlot_low hr hn).2

end

theorem Tunes.fldSlot {ps : List Plane} {s t : State} (h : Tunes ps s t) (p : Plane) {f : Fld} (hf : f.id.ofSlot = true) {n : Nat}
    (hn : n < 2) : t.fld (.tim p) f n = s.fld (.tim p) f n := by
  rw [State.fld, h.rdSlot hf hn, State.fld]

/-! A stored slot. -/

@[simp] theorem PlaneSt.slot_setSlot (x : PlaneSt) (n : Nat) (t : PtpSlot) : (x.setSlot n t).slot n = t := by cases n <;> rfl

theorem PlaneSt.res_setSlot (x : PlaneSt) (n : Nat) (t : PtpSlot) : (x.setSlot n t).res = x.res := by cases n <;> rfl

/-- A slot is stored and its state is shown. -/
def State.showSlot (s : State) (p : Plane) (n : Nat) (t : PtpSlot) : State :=
  (s.setPlane p ((s.plane p).setSlot n t)).setFld (.tim p) F.TIM_DOM_STATUS_STATE (slotCode t (s.fld (.tim p) F.TIM_DOM_CFG_CLASS_MAX n)) n

theorem State.putSlot_tunes (s : State) (p : Plane) (n : Nat) (t : PtpSlot) : Tunes [.a, .b] (s.showSlot p n t) (s.putSlot p n t) :=
  State.selectSources_tunes (s.showSlot p n t)

theorem slotCode_lt (t : PtpSlot) (c : Nat) : slotCode t c < 8 := by
  unfold slotCode
  split <;> split_ifs <;> decide

section
variable (s : State) (p : Plane) {n : Nat} (t : PtpSlot)

@[simp] theorem State.plane_showSlot : (s.showSlot p n t).plane p = (s.plane p).setSlot n t := by
  rw [State.showSlot, State.plane_setFld, State.plane_setPlane]

@[simp] theorem State.fld_showSlot_state : (s.showSlot p n t).fld (.tim p) F.TIM_DOM_STATUS_STATE n =
    slotCode t (s.fld (.tim p) F.TIM_DOM_CFG_CLASS_MAX n) := by
  rw [State.showSlot, State.fld_setFld_same _ _ _ _ _ (by decide) (by decide)]
  exact Nat.mod_eq_of_lt (slotCode_lt ..)

/-- A register of the time unit but TIM_DOMn_STATUS. -/
theorem State.rd_showSlot {r : RegId} {k : Nat} (ne : regAddr (.tim p) r k ≠ regAddr (.tim p) .TIM_DOM_STATUS n) :
    (s.showSlot p n t).rd (.tim p) r k = s.rd (.tim p) r k := by
  rw [State.showSlot, State.rd_setFld_other _ _ _ _ _ _ _ _ ne, State.rd_setPlane]

/-- A field of TIM_DOMn_STATUS but STATE. -/
theorem State.fld_showSlot_apart {f : Fld} (hf : f ∈ RegId.TIM_DOM_STATUS.fields) (hs : f ≠ F.TIM_DOM_STATUS_STATE) :
    (s.showSlot p n t).fld (.tim p) f n = s.fld (.tim p) f n := by
  obtain ⟨fid, _, high⟩ := fields_fit _ f hf
  rw [State.showSlot, State.fld_setFld_apart _ _ _ _ _ _ fid (by decide) high (fields_apart_of_ne _ hf (by decide) hs), State.fld_setPlane]

variable (hn : n < 2)
include hn

theorem State.status_showSlot (q : Plane) {f : Fld} (hf : f.id = .TIM_STATUS) : (s.showSlot p n t).fld (.tim q) f = s.fld (.tim q) f := by
  have ne : regAddr (.tim q) f.id 0 ≠ regAddr (.tim p) .TIM_DOM_STATUS n := by
    rw [hf]
    cases q <;> cases p <;> interval_cases n <;> decide
  rw [State.showSlot, State.fld_setFld_other _ _ _ _ _ _ _ _ ne, State.fld_setPlane]

theorem State.showSlot_within : Within timeAt s (s.showSlot p n t) :=
  ((Within.refl _ s).setPlane _ _).setFld (slotAt_in (by decide) hn p) _

theorem State.putSlot_within : Within timeAt s (s.putSlot p n t) := (s.showSlot_within p t hn).trans (s.putSlot_tunes p n t).within.timed

theorem State.putSlot_left (q : Plane) (h : s.timState q ≠ 0) : (s.putSlot p n t).timState q ≠ 0 :=
  (s.putSlot_tunes p n t).left q (by rwa [State.timState, s.status_showSlot p t hn q rfl])

end

/-! An offset measurement (R77). -/

/-- A slot after an offset measurement. -/
def PtpSlot.measured (t : PtpSlot) (stamp : Nat) (lg off : Int) : PtpSlot :=
  let jump := match t.prev with
    | none => false
    | some o => decide (ms < (off - o).natAbs)
  let good := if jump then 0 else if off.natAbs ≤ us then t.good + 1 else 0
  let jumped := if jump then true else t.jumped && decide (good < 16)
  { t with off := some off, prev := some off, syncStamp := some stamp, syncIval := ptpIval lg, syncLate := false, good := good, jumped := jumped }

/-- The state of a measurement before the planes select again. -/
def State.showMeasure (s : State) (p : Plane) (n stamp : Nat) (lg off : Int) : State :=
  ((s.wr (.tim p) .TIM_DOM_OFFSET n (BitVec.ofNat 32 (sat025 off))).setFld (.tim p) F.TIM_DOM_STATUS_LOG_SYNC (unsignedOf 8 lg) n).showSlot p n
    (((s.plane p).slot n).measured stamp lg off)

theorem Tunes.xdomCheck {ps : List Plane} {s t : State} (h : Tunes ps s t) (p : Plane) : Tunes ps s (t.xdomCheck p) := by
  unfold State.xdomCheck
  split
  · exact ite ((h.setStatus p (f := F.TIM_STATUS_XDOM) 1).event _ _ _ _) h
  · exact h

theorem Tunes.servo {ps : List Plane} {s t : State} (h : Tunes ps s t) (p : Plane) (off : Int) : Tunes ps s (t.servo p off) := by
  have next : Tunes ps s t.fresh.2 := h.trans ⟨⟨.refl _ _, rfl⟩, fun q => by cases q <;> rfl, fun _ _ _ => rfl, fun _ h => h,
    fun q _ => by cases q <;> rfl⟩
  refine Tunes.planeSlew (Tunes.setPlane next p _ ?_ ?_) p off <;> rfl

theorem State.measure_tunes (s : State) (p : Plane) (n stamp : Nat) (lg off : Int) :
    Tunes [.a, .b] (s.showMeasure p n stamp lg off) (s.measure p n stamp lg off) := by
  have checked := (State.putSlot_tunes
    ((s.wr (.tim p) .TIM_DOM_OFFSET n (BitVec.ofNat 32 (sat025 off))).setFld (.tim p) F.TIM_DOM_STATUS_LOG_SYNC (unsignedOf 8 lg) n) p n
    (((s.plane p).slot n).measured stamp lg off)).xdomCheck p
  exact .ite (checked.servo p _) checked

/-- A saturated time fits its register. -/
theorem sat025_lt (d : Int) : sat025 d < 2 ^ 32 := by
  unfold sat025 satSigned unsignedOf
  split_ifs
  · decide
  · decide
  · have := Int.emod_lt_of_pos (d / (ns / 4 : Nat)) (b := 2 ^ 32) (by decide)
    omega

theorem toNat_sat025 (d : Int) : (BitVec.ofNat 32 (sat025 d)).toNat = sat025 d := by
  rw [BitVec.toNat_ofNat, Nat.mod_eq_of_lt (sat025_lt d)]

/-- What a slot and its register show of an offset measured at a plane: the offset itself, unless the plane is FREE and steps by it. -/
structure OffsetShown (p : Plane) (n : Nat) (off : Int) (s t : State) : Prop where
  steady : s.timState p ≠ 0 → ((t.plane p).slot n).off = some off
  some : ((t.plane p).slot n).off.isSome = true
  shown : (t.rd (.tim p) .TIM_DOM_OFFSET n).toNat = sat025 off
  within : Within timeAt s t

section
variable (s : State) (p : Plane) {n : Nat} (hn : n < 2) (stamp : Nat) (lg off : Int)
include hn

theorem State.showMeasure_within : Within timeAt s (s.showMeasure p n stamp lg off) := by
  refine Within.trans ?_ (State.showSlot_within _ p _ hn)
  exact ((Within.refl _ s).wr (slotAt_in (by decide) hn p) _).setFld (slotAt_in (by decide) hn p) _

theorem State.rd_showMeasure : (s.showMeasure p n stamp lg off).rd (.tim p) .TIM_DOM_OFFSET n = BitVec.ofNat 32 (sat025 off) := by
  have ne : regAddr (.tim p) .TIM_DOM_OFFSET n ≠ regAddr (.tim p) .TIM_DOM_STATUS n := by
    cases p <;> interval_cases n <;> decide
  rw [State.showMeasure, State.rd_showSlot _ _ _ ne, State.rd_setFld_other _ _ _ _ _ _ _ _ ne, State.rd_wr_same]

theorem State.status_showMeasure {f : Fld} (hf : f.id = .TIM_STATUS) :
    (s.showMeasure p n stamp lg off).fld (.tim p) f = s.fld (.tim p) f := by
  have ne : regAddr (.tim p) f.id 0 ≠ regAddr (.tim p) .TIM_DOM_STATUS n ∧ regAddr (.tim p) f.id 0 ≠ regAddr (.tim p) .TIM_DOM_OFFSET n := by
    rw [hf]
    cases p <;> interval_cases n <;> decide
  rw [State.showMeasure, State.status_showSlot _ _ _ hn _ hf, State.fld_setFld_other _ _ _ _ _ _ _ _ ne.1, State.fld_wr_other _ ne.2]

omit hn in
theorem State.plane_showMeasure : (s.showMeasure p n stamp lg off).plane p =
    (s.plane p).setSlot n (((s.plane p).slot n).measured stamp lg off) := by
  rw [State.showMeasure, State.plane_showSlot, State.plane_setFld, State.plane_wr]

theorem State.measure_within : Within timeAt s (s.measure p n stamp lg off) :=
  (s.showMeasure_within p hn stamp lg off).trans (s.measure_tunes p n stamp lg off).within.timed

theorem State.orphan_measure :
    (s.measure p n stamp lg off).fld (.tim p) F.TIM_STATUS_FU_ORPHAN = s.fld (.tim p) F.TIM_STATUS_FU_ORPHAN := by
  rw [(s.measure_tunes p n stamp lg off).status p _ (.head _), s.status_showMeasure p hn _ _ _ rfl]

omit hn in
theorem State.res_measure : ((s.measure p n stamp lg off).plane p).res = (s.plane p).res := by
  rw [(s.measure_tunes p n stamp lg off).res, State.plane_showMeasure, PlaneSt.res_setSlot]

theorem State.measure_shown : OffsetShown p n off s (s.measure p n stamp lg off) := by
  have tunes := s.measure_tunes p n stamp lg off
  have slot : ((s.showMeasure p n stamp lg off).plane p).slot n = ((s.plane p).slot n).measured stamp lg off := by
    rw [State.plane_showMeasure, PlaneSt.slot_setSlot]
  refine ⟨fun h0 => ?_, ?_, ?_, s.measure_within p hn stamp lg off⟩
  · rw [tunes.off p n (by rwa [State.timState, s.status_showMeasure p hn _ _ _ rfl]), slot]
    rfl
  · rw [tunes.off_isSome, slot]
    rfl
  · rw [tunes.rdSlot (by decide) hn, s.rd_showMeasure p hn, toNat_sat025]

end

end Sys2Proof.Machine
end

section
/-! # Announce, Sync and Follow_Up (R76, R77, R79) -/

namespace Sys2Proof.Machine
open Sys2Proof

theorem State.slotOf_lt {s : State} {p : Plane} {d n : Nat} (h : s.slotOf p d = some n) : n < 2 := by
  unfold State.slotOf at h
  split_ifs at h <;> simp only [Option.some.injEq] at h <;> omega

/-! Announce. -/

/-- The registers that show an Announce (R77). -/
def State.showAnnounce (s : State) (p : Plane) (n : Nat) (m : Announce) : State :=
  let pg : Page := .tim p
  let s := s.setFld pg F.TIM_DOM_STATUS_GM_CLASS m.clockClass n
  let s := s.setFld pg F.TIM_DOM_STATUS_UTC_OFFSET m.utcOffset n
  let s := s.setFld pg F.TIM_DOM_STATUS_LEAP61 (b2n m.leap61) n
  let s := s.setFld pg F.TIM_DOM_STATUS_LEAP59 (b2n m.leap59) n
  let s := s.setFld pg F.TIM_DOM_STATUS_C37238 (b2n m.c37238) n
  let s := s.wr pg .TIM_DOM_GM0 n (BitVec.ofNat 32 m.gm)
  s.wr pg .TIM_DOM_GM1 n (BitVec.ofNat 32 (m.gm / 2 ^ 32))

/-- A slot that takes its first Announce. -/
def PtpSlot.announced (t : PtpSlot) (m : Announce) (port stamp : Nat) : PtpSlot :=
  { t with best := some m, port := port, annStamp := some stamp, annIval := ptpIval m.logInterval, annLate := false, off := none
           syncStamp := none }

section
variable (s : State) (p : Plane) {n : Nat} (hn : n < 2) (m : Announce)

include hn

theorem State.showAnnounce_within : Within timeAt s (s.showAnnounce p n m) := by
  have st : RegIn timeAt (.tim p) .TIM_DOM_STATUS n := slotAt_in (by decide) hn p
  have g0 : RegIn timeAt (.tim p) .TIM_DOM_GM0 n := slotAt_in (by decide) hn p
  have g1 : RegIn timeAt (.tim p) .TIM_DOM_GM1 n := slotAt_in (by decide) hn p
  exact (((((((Within.refl _ s).setFld st _).setFld st _).setFld st _).setFld st _).setFld st _).wr g0 _).wr g1 _

/-- The registers of a slot are its own. -/
theorem slotRegs_ne (p : Plane) : (regAddr (.tim p) .TIM_DOM_STATUS n ≠ regAddr (.tim p) .TIM_DOM_GM0 n ∧
    regAddr (.tim p) .TIM_DOM_STATUS n ≠ regAddr (.tim p) .TIM_DOM_GM1 n ∧ regAddr (.tim p) .TIM_DOM_GM0 n ≠ regAddr (.tim p) .TIM_DOM_GM1 n) ∧
    (regAddr (.tim p) .TIM_DOM_CFG n ≠ regAddr (.tim p) .TIM_DOM_GM0 n ∧ regAddr (.tim p) .TIM_DOM_CFG n ≠ regAddr (.tim p) .TIM_DOM_GM1 n ∧
    regAddr (.tim p) .TIM_DOM_CFG n ≠ regAddr (.tim p) .TIM_DOM_STATUS n) := by
  cases p <;> interval_cases n <;> decide

theorem State.gmClass_showAnnounce : (s.showAnnounce p n m).fld (.tim p) F.TIM_DOM_STATUS_GM_CLASS n = m.clockClass % 256 := by
  obtain ⟨⟨h0, h1, _⟩, _⟩ := slotRegs_ne hn p
  rw [State.showAnnounce, State.fld_wr_other _ h1, State.fld_wr_other _ h0]
  simp (disch := decide) only [State.fld_setFld_apart]
  exact State.fld_setFld_same _ _ _ _ _ (by decide) (by decide)

theorem State.classMax_showAnnounce : (s.showAnnounce p n m).fld (.tim p) F.TIM_DOM_CFG_CLASS_MAX n = s.fld (.tim p) F.TIM_DOM_CFG_CLASS_MAX n := by
  obtain ⟨_, h0, h1, hs⟩ := slotRegs_ne hn p
  rw [State.showAnnounce, State.fld_wr_other _ h1, State.fld_wr_other _ h0]
  iterate 5 rw [State.fld_setFld_other _ _ _ _ _ _ _ _ hs]

theorem State.gm_showAnnounce : (s.showAnnounce p n m).rd (.tim p) .TIM_DOM_GM0 n = BitVec.ofNat 32 m.gm ∧
    (s.showAnnounce p n m).rd (.tim p) .TIM_DOM_GM1 n = BitVec.ofNat 32 (m.gm / 2 ^ 32) := by
  obtain ⟨⟨_, _, h⟩, _⟩ := slotRegs_ne hn p
  exact ⟨(State.rd_wr_other _ _ _ _ _ _ _ _ h).trans (State.rd_wr_same ..), State.rd_wr_same ..⟩

end

section
variable {s : State} {p : Plane} {port : Fin 11} {n x : Nat} {a : Announce} (hon : s.ptpOn p port = true) (hs : s.slotOf p a.domain = some n)
  (h0 : 0 ≤ a.logInterval) (h2 : a.logInterval ≤ 2)
include hon hs h0 h2

/-- The first Announce of a slot is kept. -/
theorem execAnnounceReceived_first (hb : ((s.plane p).slot n).best = none) : execAnnounceReceived p port x a s =
    ok ((s.showAnnounce p n a).putSlot p n (((s.plane p).slot n).announced a port (s.rxStamp p port x))) := by
  have range : ¬(a.logInterval < 0 ∨ 2 < a.logInterval) := by omega
  simp [execAnnounceReceived, hon, hs, hb, range, State.showAnnounce, PtpSlot.announced]

/-- An Announce of another source that is no better than the one kept is left. -/
theorem execAnnounceReceived_worse {b : Announce} (hb : ((s.plane p).slot n).best = some b) (hl : ((s.plane p).slot n).annLate = false)
    (hd : ¬(b.srcPort = a.srcPort ∧ ((s.plane p).slot n).port = port.val))
    (hw : lexLt (annKey a port.val) (annKey b ((s.plane p).slot n).port) = false) : execAnnounceReceived p port x a s = ok s := by
  have range : ¬(a.logInterval < 0 ∨ 2 < a.logInterval) := by omega
  have other : (decide (b.srcPort = a.srcPort) && decide (((s.plane p).slot n).port = port.val)) = false := by
    rw [← Bool.decide_and]
    exact decide_eq_false hd
  simp only [execAnnounceReceived, hon, hs, hb, range, hl, hw, other]
  rfl

/-- What the first Announce of a slot leaves. -/
theorem announceReceived_first (hb : ((s.plane p).slot n).best = none) : Answers (exec (.announceReceived p port x a) s) fun t =>
    ((t.plane p).slot n).best = some a ∧ ((t.plane p).slot n).annStamp = some (s.rxStamp p port x) ∧ ((t.plane p).slot n).port = port.val ∧
    ((t.plane p).slot n).annLate = false ∧ t.fld (.tim p) F.TIM_DOM_STATUS_GM_CLASS n = a.clockClass % 256 ∧
    t.rd (.tim p) .TIM_DOM_GM0 n = BitVec.ofNat 32 a.gm ∧ t.rd (.tim p) .TIM_DOM_GM1 n = BitVec.ofNat 32 (a.gm / 2 ^ 32) ∧
    t.fld (.tim p) F.TIM_DOM_STATUS_STATE n = slotCode ((t.plane p).slot n) (s.fld (.tim p) F.TIM_DOM_CFG_CLASS_MAX n) ∧
    Beside s t ∧ RegsOutside timeAt s t := by
  have hn := State.slotOf_lt hs
  have tunes := (s.showAnnounce p n a).putSlot_tunes p n (((s.plane p).slot n).announced a port (s.rxStamp p port x))
  have slot : (((s.showAnnounce p n a).showSlot p n (((s.plane p).slot n).announced a port (s.rxStamp p port x))).plane p).slot n =
      ((s.plane p).slot n).announced a port (s.rxStamp p port x) := by rw [State.plane_showSlot, PlaneSt.slot_setSlot]
  obtain ⟨⟨ne0, ne1, _⟩, _⟩ := slotRegs_ne hn p
  obtain ⟨gm0, gm1⟩ := s.gm_showAnnounce p hn a
  refine ⟨_, execAnnounceReceived_first hon hs h0 h2 hb, ?_, ?_, ?_, ?_, ?_, ?_, ?_, ?_, ?_⟩
  · rw [tunes.best, slot]
    rfl
  · rw [tunes.annStamp, slot]
    rfl
  · rw [tunes.slotPort, slot]
    rfl
  · rw [tunes.annLate, slot]
    rfl
  · rw [tunes.fldSlot p (by decide) hn, State.fld_showSlot_apart _ _ _ (by decide) (by decide), s.gmClass_showAnnounce p hn]
  · rw [tunes.rdSlot (by decide) hn, State.rd_showSlot _ _ _ ne0.symm, gm0]
  · rw [tunes.rdSlot (by decide) hn, State.rd_showSlot _ _ _ ne1.symm, gm1]
  · rw [tunes.fldSlot p (by decide) hn, State.fld_showSlot_state, s.classMax_showAnnounce p hn, tunes.slotCode, slot]
  · exact ((s.showAnnounce_within p hn a).trans (State.putSlot_within _ p _ hn)).frame

end

end Sys2Proof.Machine
end

section
/-! # Receipt deadlines, Sync and Follow_Up (R76, R77, R79) -/

namespace Sys2Proof.Machine
open Sys2Proof

/-! A receipt deadline passes. -/

/-- The slot at a passed receipt deadline of Announce, and of Sync. -/
def PtpSlot.annMissed (t : PtpSlot) : PtpSlot := { t with annLate := true, annStamp := none }
def PtpSlot.syncMissed (t : PtpSlot) : PtpSlot := { t with syncLate := true, syncStamp := none, good := 0 }

section
variable (s : State) (p : Plane) {n a : Nat}

theorem State.annExpire_eq (h : ((s.plane p).slot n).annStamp = some a) :
    let u := s.reachPlane p (a + s.fld (.tim p) F.TIM_DOM_CFG_ANN_TMO n * ((s.plane p).slot n).annIval + settle)
    s.annExpire p n = u.putSlot p n ((u.plane p).slot n).annMissed := by
  simp only [State.annExpire, h]
  rfl

theorem State.syncExpire_eq (h : ((s.plane p).slot n).syncStamp = some a) :
    let u := s.reachPlane p (a + s.fld (.tim p) F.TIM_DOM_CFG_SYNC_TMO n * ((s.plane p).slot n).syncIval + settle)
    s.syncExpire p n = u.putSlot p n ((u.plane p).slot n).syncMissed := by
  simp only [State.syncExpire, h]
  rfl

theorem slotCode_late {t : PtpSlot} {b : Announce} (hb : t.best = some b) (hl : t.annLate = true ∨ t.syncLate = true) (c : Nat) :
    slotCode t c = 3 := by
  rcases hl with hl | hl <;> simp [slotCode, hb, hl]

/-- A slot that is stored late shows TIMEOUT. -/
theorem Passes.putSlot_timeout {s u : State} (h : Passes s u) (p : Plane) (hn : n < 2) {t : PtpSlot} {b : Announce} (hb : t.best = some b)
    (hl : t.annLate = true ∨ t.syncLate = true) :
    (u.putSlot p n t).fld (.tim p) F.TIM_DOM_STATUS_STATE n = 3 ∧ Beside s (u.putSlot p n t) ∧ RegsOutside timeAt s (u.putSlot p n t) := by
  refine ⟨?_, (h.within.timed.trans (u.putSlot_within p t hn)).frame⟩
  rw [(u.putSlot_tunes p n t).fldSlot p (by decide) hn, State.fld_showSlot_state, slotCode_late hb hl]

/-- The Announce deadline of an acquired slot (R77). -/
theorem announceTimeout_late {b : Announce} {k : Fin 2} (hp : s.planeUp p = true) (hb : ((s.plane p).slot k).best = some b)
    (h : ((s.plane p).slot k).annStamp = some a) : Answers (exec (.announceTimeout p k) s) fun t =>
      t.fld (.tim p) F.TIM_DOM_STATUS_STATE k = 3 ∧ ((t.plane p).slot k).annLate = true ∧ Beside s t ∧ RegsOutside timeAt s t := by
  have passed := s.reachPlane_passes p (a + s.fld (.tim p) F.TIM_DOM_CFG_ANN_TMO k * ((s.plane p).slot k).annIval + settle)
  have step : exec (.announceTimeout p k) s = ok (s.annExpire p k) := if_neg (by rw [hp]; decide)
  rw [s.annExpire_eq p h] at step
  obtain ⟨state, frame⟩ := passed.putSlot_timeout p k.isLt (t := PtpSlot.annMissed _) ((passed.best p k).trans hb) (.inl rfl)
  refine ⟨_, step, state, ?_, frame⟩
  rw [(State.putSlot_tunes _ p k _).annLate, State.plane_showSlot, PlaneSt.slot_setSlot]
  rfl

/-- The Sync deadline of an acquired slot (R77). -/
theorem syncTimeout_late {b : Announce} {k : Fin 2} (hp : s.planeUp p = true) (hb : ((s.plane p).slot k).best = some b)
    (h : ((s.plane p).slot k).syncStamp = some a) : Answers (exec (.syncTimeout p k) s) fun t =>
      t.fld (.tim p) F.TIM_DOM_STATUS_STATE k = 3 ∧ ((t.plane p).slot k).syncLate = true ∧ Beside s t ∧ RegsOutside timeAt s t := by
  have passed := s.reachPlane_passes p (a + s.fld (.tim p) F.TIM_DOM_CFG_SYNC_TMO k * ((s.plane p).slot k).syncIval + settle)
  have step : exec (.syncTimeout p k) s = ok (s.syncExpire p k) := if_neg (by rw [hp]; decide)
  rw [s.syncExpire_eq p h] at step
  obtain ⟨state, frame⟩ := passed.putSlot_timeout p k.isLt (t := PtpSlot.syncMissed _) ((passed.best p k).trans hb) (.inr rfl)
  refine ⟨_, step, state, ?_, frame⟩
  rw [(State.putSlot_tunes _ p k _).syncLate, State.plane_showSlot, PlaneSt.slot_setSlot]
  rfl

/-- A late slot before a Sync: the frame holds, and a plane that is not FREE is not FREE after it. -/
theorem State.syncExpire_step (hn : n < 2) : Within timeAt s (s.syncExpire p n) ∧ (s.timState p ≠ 0 → (s.syncExpire p n).timState p ≠ 0) := by
  rcases h : ((s.plane p).slot n).syncStamp with _ | a
  · have e : s.syncExpire p n = s := by simp only [State.syncExpire, h]
    rw [e]
    exact ⟨.refl _ s, id⟩
  · have passed := s.reachPlane_passes p (a + s.fld (.tim p) F.TIM_DOM_CFG_SYNC_TMO n * ((s.plane p).slot n).syncIval + settle)
    rw [s.syncExpire_eq p h]
    exact ⟨passed.within.timed.trans (State.putSlot_within _ p _ hn),
      fun h0 => State.putSlot_left _ p _ hn p (by rwa [passed.timState])⟩

end

/-! Sync. -/

/-- The state in which a Sync finds its slot: a deadline that its stamp shows to have passed is taken first (R25). -/
def State.syncReady (s : State) (p : Plane) (n stamp : Nat) : State :=
  if ptpLate ((s.plane p).slot n).syncStamp (s.fld (.tim p) F.TIM_DOM_CFG_SYNC_TMO n) ((s.plane p).slot n).syncIval stamp
  then s.syncExpire p n else s

theorem State.syncReady_step (s : State) (p : Plane) {n : Nat} (hn : n < 2) (stamp : Nat) :
    Within timeAt s (s.syncReady p n stamp) ∧ (s.timState p ≠ 0 → (s.syncReady p n stamp).timState p ≠ 0) :=
  iteInduction (motive := fun t => Within timeAt s t ∧ (s.timState p ≠ 0 → State.timState t p ≠ 0)) (fun _ => s.syncExpire_step p hn)
    fun _ => ⟨.refl _ s, id⟩

/-- A slot in which a two-step Sync waits. -/
def PtpSlot.waiting (t : PtpSlot) (stamp port : Nat) (m : PtpMsg) : PtpSlot :=
  { t with pend := some ⟨m.srcPort, m.seqId, stamp, m.corr, port⟩, syncStamp := some stamp, syncIval := ptpIval m.logInterval }

/-- A two-step Sync waits in its slot. -/
def State.syncWaits (s : State) (p : Plane) (n stamp port : Nat) (m : PtpMsg) : State :=
  s.setPlane p ((s.plane p).setSlot n (((s.plane p).slot n).waiting stamp port m))

theorem OffsetShown.after {p : Plane} {n : Nat} {off : Int} {s u t : State} (h : OffsetShown p n off u t) (w : Within timeAt s u)
    (hl : s.timState p ≠ 0 → u.timState p ≠ 0) : OffsetShown p n off s t :=
  ⟨fun h0 => h.steady (hl h0), h.some, h.shown, w.trans h.within⟩

section
variable {s : State} {p : Plane} {port : Fin 11} {n x d : Nat} {m : PtpMsg} (hon : s.ptpOn p port = true)
  (hs : s.slotOf p m.domain = some n) (hd : s.linkDelay p port = some d) (h4 : -4 ≤ m.logInterval) (h0 : m.logInterval ≤ 0)
include hon hs hd h4 h0

section
variable (hsel : (((s.plane p).slot n).best.any (fun b => decide (b.srcPort = m.srcPort)) &&
  decide (((s.plane p).slot n).port = port.val)) = true)
include hsel

/-- A Sync of the selected grandmaster on its port. -/
theorem execSyncReceived_selected : execSyncReceived p port x m s =
    if m.twoStep then ok ((s.syncReady p n (s.rxStamp p port x)).syncWaits p n (s.rxStamp p port x) port m)
    else ok ((s.syncReady p n (s.rxStamp p port x)).measure p n (s.rxStamp p port x) m.logInterval
      ((m.time : Int) + m.corr + d - s.rxStamp p port x)) := by
  have range : ¬(m.logInterval < -4 ∨ 0 < m.logInterval) := by omega
  rcases hb : ((s.plane p).slot n).best with _ | b
  · rw [hb] at hsel
    cases hsel
  · rw [hb, Option.any_some] at hsel
    simp only [execSyncReceived, hon, hs, hd, hb, hsel, range]
    rfl

theorem syncReceived_oneStep (ht : m.twoStep = false) : Answers (exec (.syncReceived p port x m) s)
    (OffsetShown p n ((m.time : Int) + m.corr + d - s.rxStamp p port x) s) := by
  have hn := State.slotOf_lt hs
  obtain ⟨within, left⟩ := s.syncReady_step p hn (s.rxStamp p port x)
  have step := (execSyncReceived_selected hon hs hd h4 h0 hsel (x := x)).trans (if_neg (by rw [ht]; decide))
  exact ⟨_, step, (State.measure_shown _ p hn _ _ _).after within left⟩

theorem syncReceived_twoStep (ht : m.twoStep = true) : Answers (exec (.syncReceived p port x m) s) fun t =>
    ((t.plane p).slot n).pend = some ⟨m.srcPort, m.seqId, s.rxStamp p port x, m.corr, port.val⟩ ∧
    ((t.plane p).slot n).syncStamp = some (s.rxStamp p port x) ∧ (Beside s t ∧ RegsOutside timeAt s t) ∧
    (ptpLate ((s.plane p).slot n).syncStamp (s.fld (.tim p) F.TIM_DOM_CFG_SYNC_TMO n) ((s.plane p).slot n).syncIval (s.rxStamp p port x) =
      false → t.regs = s.regs) := by
  have hn := State.slotOf_lt hs
  obtain ⟨within, _⟩ := s.syncReady_step p hn (s.rxStamp p port x)
  have step := (execSyncReceived_selected hon hs hd h4 h0 hsel (x := x)).trans (if_pos ht)
  have slot : (((s.syncReady p n (s.rxStamp p port x)).syncWaits p n (s.rxStamp p port x) port m).plane p).slot n =
      (((s.syncReady p n (s.rxStamp p port x)).plane p).slot n).waiting (s.rxStamp p port x) port m := by
    rw [State.syncWaits, State.plane_setPlane, PlaneSt.slot_setSlot]
  refine ⟨_, step, by rw [slot]; rfl, by rw [slot]; rfl, (within.setPlane _ _).frame, fun hl => ?_⟩
  rw [State.syncWaits, State.setPlane_regs, State.syncReady, if_neg (by rw [hl]; decide)]

end

end

/-! Follow_Up. -/

/-- A Follow_Up measures the slot in which its Sync waits (R76). -/
def State.followUp (s : State) (p : Plane) (port : Fin 11) (m : PtpMsg) : State :=
  match (if m.logInterval < -4 ∨ 0 < m.logInterval then none else s.slotOf p m.domain) with
  | none => s
  | some n =>
    match ((s.plane p).slot n).pend, s.linkDelay p port with
    | some q, some d =>
      if q.srcPort = m.srcPort ∧ q.seqId = m.seqId ∧ q.port = port.val then
        (s.setPlane p ((s.plane p).setSlot n { (s.plane p).slot n with pend := none })).measure p n q.rx m.logInterval
          ((m.time : Int) + m.corr + q.corr + d - q.rx)
      else s
    | _, _ => s

/-- A Follow_Up without a residence entry is an orphan (R79). -/
def State.followUpKept (s : State) (p : Plane) (m : PtpMsg) : State :=
  if (s.plane p).res.any (fun e => decide (e.srcPort = m.srcPort ∧ e.seqId = m.seqId)) then s else s.setBit (.tim p) F.TIM_STATUS_FU_ORPHAN

section
variable {s : State} {p : Plane} {port : Fin 11} {m : PtpMsg}

theorem execFollowUpReceived_eq (hon : s.ptpOn p port = true) :
    execFollowUpReceived p port m s = ok ((s.followUp p port m).followUpKept p m) := by
  have step : execFollowUpReceived p port m s =
      if ((s.followUp p port m).plane p).res.any (fun e => decide (e.srcPort = m.srcPort ∧ e.seqId = m.seqId)) then ok (s.followUp p port m)
      else ok ((s.followUp p port m).setBit (.tim p) F.TIM_STATUS_FU_ORPHAN) := if_neg (by rw [hon]; decide)
  rw [step, State.followUpKept]
  exact (apply_ite ok _ _ _).symm

/-- What the measurement of a Follow_Up keeps. -/
theorem State.followUp_keeps (s : State) (p : Plane) (port : Fin 11) (m : PtpMsg) : Within timeAt s (s.followUp p port m) ∧
    ((s.followUp p port m).plane p).res = (s.plane p).res ∧
    (s.followUp p port m).fld (.tim p) F.TIM_STATUS_FU_ORPHAN = s.fld (.tim p) F.TIM_STATUS_FU_ORPHAN := by
  have none_ : Within timeAt s s ∧ (s.plane p).res = (s.plane p).res ∧
      s.fld (.tim p) F.TIM_STATUS_FU_ORPHAN = s.fld (.tim p) F.TIM_STATUS_FU_ORPHAN := ⟨.refl _ s, rfl, rfl⟩
  unfold State.followUp
  split
  · exact none_
  · next n hs =>
    have hn : n < 2 := by
      split_ifs at hs
      exact State.slotOf_lt hs
    split
    · split_ifs
      · refine ⟨((Within.refl _ s).setPlane _ _).trans (State.measure_within _ p hn _ _ _), ?_, ?_⟩
        · rw [State.res_measure, State.plane_setPlane, PlaneSt.res_setSlot]
        · rw [State.orphan_measure _ p hn, State.fld_setPlane]
      · exact none_
    · exact none_

/-- Every Follow_Up: the residence table is asked, and stays (R79). -/
theorem followUpReceived_residence (hon : s.ptpOn p port = true) : Answers (exec (.followUpReceived p port m) s) fun t =>
    t.bit (.tim p) F.TIM_STATUS_FU_ORPHAN = (s.bit (.tim p) F.TIM_STATUS_FU_ORPHAN ||
      !(s.plane p).res.any (fun e => decide (e.srcPort = m.srcPort ∧ e.seqId = m.seqId))) ∧
    (t.plane p).res = (s.plane p).res ∧ Beside s t ∧ RegsOutside timeAt s t := by
  obtain ⟨within, res, orphan⟩ := s.followUp_keeps p port m
  refine ⟨_, execFollowUpReceived_eq hon, ?_⟩
  unfold State.followUpKept
  rw [res]
  split_ifs with kept
  · refine ⟨?_, res, within.frame⟩
    rw [kept, State.bit_congr orphan, Bool.not_true, Bool.or_false]
  · refine ⟨?_, by rw [State.plane_setBit, res], (within.setBit (timAt_in p (by decide))).frame⟩
    rw [eq_false_of_ne_true kept, State.bit_setBit_same _ _ _ _ (by decide) (by decide), Bool.not_false, Bool.or_true]

/-- The orphan flag is not an offset. -/
theorem OffsetShown.followUpKept {n : Nat} {off : Int} {u : State} (h : OffsetShown p n off s u) (hn : n < 2) :
    OffsetShown p n off s (u.followUpKept p m) := by
  have ne : regAddr (.tim p) .TIM_DOM_OFFSET n ≠ regAddr (.tim p) .TIM_STATUS 0 := by cases p <;> interval_cases n <;> decide
  refine iteInduction (motive := OffsetShown p n off s) (fun _ => h) fun _ => ⟨?_, ?_, ?_, h.within.setBit (timAt_in p (by decide))⟩
  · rw [State.plane_setBit]
    exact h.steady
  · rw [State.plane_setBit]
    exact h.some
  · rw [State.setBit, State.rd_setFld_other _ _ _ _ _ _ _ _ ne]
    exact h.shown

/-- The Follow_Up of a Sync that waits in its slot (R76). -/
theorem followUpReceived_waiting {n d : Nat} {q : PendSync} (hon : s.ptpOn p port = true) (hs : s.slotOf p m.domain = some n)
    (hq : ((s.plane p).slot n).pend = some q) (hd : s.linkDelay p port = some d) (hsrc : q.srcPort = m.srcPort) (hseq : q.seqId = m.seqId)
    (hport : q.port = port.val) (h4 : -4 ≤ m.logInterval) (h0 : m.logInterval ≤ 0) :
    Answers (exec (.followUpReceived p port m) s) (OffsetShown p n ((m.time : Int) + m.corr + q.corr + d - q.rx) s) := by
  have hn := State.slotOf_lt hs
  have range : ¬(m.logInterval < -4 ∨ 0 < m.logInterval) := by omega
  have measured : s.followUp p port m = (s.setPlane p ((s.plane p).setSlot n { (s.plane p).slot n with pend := none })).measure p n q.rx
      m.logInterval ((m.time : Int) + m.corr + q.corr + d - q.rx) := by
    simp only [State.followUp, if_neg range, hs, hq, hd]
    exact if_pos ⟨hsrc, hseq, hport⟩
  refine ⟨_, execFollowUpReceived_eq hon, OffsetShown.followUpKept ?_ hn⟩
  rw [measured]
  refine (State.measure_shown _ p hn _ _ _).after ((Within.refl _ s).setPlane _ _) fun h => ?_
  rwa [State.timState, State.fld_setPlane]

end

end Sys2Proof.Machine
end

section
/-! # The peer-delay exchange and the residence table (R76, R78, R79, R82, R84) -/

namespace Sys2Proof.Machine
open Sys2Proof

@[simp] theorem PlaneSt.pt_setPt (x : PlaneSt) (i : Nat) (t : PortTime) : (x.setPt i t).pt i = t := assocGetD_put_same ..

@[simp] theorem PlaneSt.port_setPort (x : PlaneSt) (i : Nat) (m : PortMac) : (x.setPort i m).port i = m := assocGetD_put_same ..

/-! An exchange is missed or succeeds. -/

/-- Between two states `k` exchanges of a port were missed, and its own frames, its sequenceId, its timestamp entries and the count of
the requests it left out stand. -/
structure Misses (p : Plane) (port : Fin 11) (k : Nat) (s t : State) : Prop where
  within : Within timeAt s t
  mac : (t.plane p).port port = (s.plane p).port port
  missed : ((t.plane p).pt port).missed = ((s.plane p).pt port).missed + k
  seqId : ((t.plane p).pt port).seqId = ((s.plane p).pt port).seqId
  txq : ((t.plane p).pt port).txq = ((s.plane p).pt port).txq
  skip : t.fld (.timPort p port) F.TIM_TXQ_FALLBACK_SKIP = s.fld (.timPort p port) F.TIM_TXQ_FALLBACK_SKIP

section
variable {p : Plane} {port : Fin 11} {j k : Nat} {s t u : State}

theorem Misses.trans (h : Misses p port j s t) (g : Misses p port k t u) : Misses p port (j + k) s u :=
  ⟨h.within.trans g.within, g.mac.trans h.mac, by rw [g.missed, h.missed, Nat.add_assoc], g.seqId.trans h.seqId, g.txq.trans h.txq,
    g.skip.trans h.skip⟩

theorem Misses.txqFree (h : Misses p port k s t) : t.txqFree p port = s.txqFree p port := by rw [State.txqFree, h.txq, State.txqFree]

theorem Passes.misses (h : Passes s t) (p : Plane) (port : Fin 11) : Misses p port 0 s t := by
  have pt := h.pt p port
  refine ⟨h.within.timed, h.port p port, by rw [pt]; rfl, by rw [pt], by rw [pt], h.within.regs.fld _ _ _ ?_⟩
  exact timPort_apart p port (by decide)

/-- A port's exchange is stored, its sequenceId and its entries being kept. -/
theorem Misses.setPt (s : State) (p : Plane) (port : Fin 11) {x : PortTime} (hm : x.missed = ((s.plane p).pt port).missed + k)
    (hs : x.seqId = ((s.plane p).pt port).seqId) (hq : x.txq = ((s.plane p).pt port).txq) :
    Misses p port k s (s.setPlane p ((s.plane p).setPt port x)) := by
  refine ⟨(Within.refl _ s).setPlane _ _, ?_, ?_, ?_, ?_, State.fld_setPlane ..⟩ <;> rw [State.plane_setPlane]
  · rfl
  all_goals rwa [PlaneSt.pt_setPt]

end

section
variable (s : State) (p : Plane) (port : Fin 11)

/-- The exchange of a port after one that was missed, and after one that succeeded (R78). -/
def PortTime.failed (t : PortTime) : PortTime := { t with missed := t.missed + 1, reqStamp := none, resp := none }
def PortTime.done (t : PortTime) : PortTime := { t with missed := 0, reqStamp := none, resp := none }

theorem State.pdelayMissed_misses : Misses p port 1 s (s.pdelayMissed p port) := by
  have stored : Misses p port 1 s (s.setPlane p ((s.plane p).setPt port ((s.plane p).pt port).failed)) := .setPt s p port rfl rfl rfl
  have ne : regAddr (.timPort p port) .TIM_TXQ_FALLBACK 0 ≠ regAddr (.timPort p port) .TIM_PDELAY 0 := by
    rw [regAddr_timPort, regAddr_timPort]
    exact fun h => absurd (Nat.add_left_cancel (Nat.add_left_cancel h)) (by decide)
  unfold State.pdelayMissed
  refine iteInduction (motive := Misses p port 1 s) (fun _ => ?_) fun _ => stored
  obtain ⟨within, mac, missed, seqId, txq, skip⟩ := stored
  refine ⟨within.wr (timPortAt_in p port (by decide)) _, ?_, ?_, ?_, ?_, ?_⟩
  · rwa [State.plane_wr]
  · rwa [State.plane_wr]
  · rwa [State.plane_wr]
  · rwa [State.plane_wr]
  · rwa [State.fld_wr_other _ ne]

/-- The third exchange missed in a row makes the link delay not valid (R78). -/
theorem State.pdelayMissed_invalid (h : 3 ≤ ((s.plane p).pt port).missed + 1) :
    (s.pdelayMissed p port).rd (.timPort p port) .TIM_PDELAY = 0xFFFFFFFF := by
  rw [State.pdelayMissed, if_pos h, State.rd_wr_same]

/-- What a port shows of a peer-delay exchange that succeeded. -/
structure DelayShown (e : Int) (s t : State) : Prop where
  shown : (t.rd (.timPort p port) .TIM_PDELAY).toNat = min ((max e 0).toNat / 16384) 0xFFFFFFFE
  missed : ((t.plane p).pt port).missed = 0
  closed : ((t.plane p).pt port).reqStamp = none
  within : Within timeAt s t

theorem State.pdelayDone_shown (e : Int) : DelayShown p port e s (s.pdelayDone p port e) := by
  have pt : ((s.pdelayDone p port e).plane p).pt port = ((s.plane p).pt port).done := by
    rw [State.pdelayDone, State.plane_wr, State.plane_setPlane, PlaneSt.pt_setPt]
    rfl
  refine ⟨?_, by rw [pt]; rfl, by rw [pt]; rfl, ((Within.refl _ s).setPlane _ _).wr (timPortAt_in p port (by decide)) _⟩
  rw [State.pdelayDone, State.rd_wr_same, BitVec.toNat_ofNat]
  exact Nat.mod_eq_of_lt (by omega)

end

/-! Pdelay_Req. -/

section
variable (s : State) (p : Plane) (port : Fin 11) (o : List Byte) (kind stamp : Nat)

theorem State.ownFrame_within : Within timeAt s (s.ownFrame p port o kind stamp) := (Within.refl _ s).setPlane _ _

/-- An own frame is queued behind those that wait. -/
theorem State.ctl_ownFrame : ∃ f, (((s.ownFrame p port o kind stamp).plane p).port port).ctl = ((s.plane p).port port).ctl ++ [f] := by
  refine ⟨⟨o, none, decide (kind = 4 ∨ kind = 5), 0, false, true, false, port, 0, stamp, 0, kind, none⟩, ?_⟩
  rw [State.ownFrame, State.plane_setPlane, PlaneSt.port_setPort]

theorem State.pt_ownFrame : ((s.ownFrame p port o kind stamp).plane p).pt port = (s.plane p).pt port := by
  rw [State.ownFrame, State.plane_setPlane]
  rfl

theorem State.fld_ownFrame (pg : Page) (f : Fld) (k : Nat) : (s.ownFrame p port o kind stamp).fld pg f k = s.fld pg f k :=
  State.fld_setPlane ..

end

section
variable {s : State} {p : Plane} {port : Fin 11} {x : Nat} {m : PtpMsg} (hon : s.ptpOn p port = true)
include hon

/-- The answer to a Pdelay_Req (R76, R84). -/
theorem pdelayReqReceived_answers :
    let two := s.bit (.timPort p port) F.TIM_PTP_PORT_TWO_STEP
    Answers (exec (.pdelayReqReceived p port x m) s) fun t =>
      (∃ f, ((t.plane p).port port).ctl = ((s.plane p).port port).ctl ++ f ∧ f.length = if two && s.txqFree p port then 2 else 1) ∧
      t.fld (.timPort p port) F.TIM_TXQ_FALLBACK_ONESTEP = (if two && !s.txqFree p port
        then min (s.fld (.timPort p port) F.TIM_TXQ_FALLBACK_ONESTEP + 1) 65535 else s.fld (.timPort p port) F.TIM_TXQ_FALLBACK_ONESTEP) ∧
      Beside s t ∧ RegsOutside timeAt s t := by
  intro two
  have on : ¬(!s.ptpOn p port) = true := by rw [hon]; decide
  by_cases both : (two && s.txqFree p port) = true
  · obtain ⟨htwo, hfree⟩ := Bool.and_eq_true_iff.mp both
    refine ⟨_, (if_neg on).trans (if_pos both), ?_, ?_, (Within.trans (State.ownFrame_within ..) (State.ownFrame_within ..)).frame⟩
    · rw [if_pos both]
      obtain ⟨f, hf⟩ := State.ctl_ownFrame s p port _ _ _
      obtain ⟨g, hg⟩ := State.ctl_ownFrame (s.ownFrame p port _ _ _) p port _ _ _
      exact ⟨[f, g], by rw [hg, hf, List.append_assoc]; rfl, rfl⟩
    · rw [State.fld_ownFrame, State.fld_ownFrame, hfree, Bool.not_true, Bool.and_false]
      rfl
  · refine ⟨_, (if_neg on).trans (if_neg both), ?_, ?_, ?_⟩
    · rw [if_neg both]
      obtain ⟨f, hf⟩ := State.ctl_ownFrame s p port _ _ _
      refine ⟨[f], ?_, rfl⟩
      rw [← hf]
      split_ifs
      · rw [State.plane_bump]
      · rfl
    · by_cases htwo : two = true
      · have hfree : s.txqFree p port = false := by simpa [htwo] using both
        rw [if_pos htwo, State.fld_bump_same _ _ _ _ _ (by decide) (by decide), State.fld_ownFrame, htwo, hfree]
        rfl
      · rw [if_neg htwo, State.fld_ownFrame, eq_false_of_ne_true htwo]
        rfl
    · exact (Within.ite ((State.ownFrame_within ..).bump (timPortAt_in p port (by decide)) _) (State.ownFrame_within ..)).frame

end

/-- The interval of the requests has passed since the last one. -/
def State.reqDue (s : State) (p : Plane) (port : Fin 11) : State :=
  match ((s.plane p).pt port).lastReq with
  | some t => s.reachPlane p (t + ptpIval (signedOf 8 (s.fld (.timPort p port) F.TIM_PTP_PORT_LOG_PDELAY)))
  | none => s

/-- An exchange still open when the next request is due is missed. -/
def State.reqOpen (s : State) (p : Plane) (port : Fin 11) : State :=
  if ((s.plane p).pt port).reqStamp.isSome then s.pdelayMissed p port else s

/-- A due request is noted. -/
def State.reqNoted (s : State) (p : Plane) (port : Fin 11) : State :=
  s.setPlane p ((s.plane p).setPt port { (s.plane p).pt port with lastReq := some (s.plane p).now })

/-- A request leaves with the next sequenceId. -/
def PortTime.asked (t : PortTime) : PortTime := { t with seqId := (t.seqId + 1) % 65536, reqStamp := none, resp := none }

section
variable (s : State) (p : Plane) (port : Fin 11)

theorem State.reqDue_passes : Passes s (s.reqDue p port) := by
  unfold State.reqDue
  split
  · exact s.reachPlane_passes ..
  · exact .refl s

theorem State.reqOpen_misses : Misses p port (if ((s.plane p).pt port).reqStamp.isSome then 1 else 0) s (s.reqOpen p port) := by
  unfold State.reqOpen
  split_ifs
  · exact s.pdelayMissed_misses p port
  · exact (Passes.refl s).misses p port

theorem State.reqNoted_misses : Misses p port 0 s (s.reqNoted p port) := .setPt s p port rfl rfl rfl

/-- The state in which a due request finds its port. -/
theorem State.reqReady_misses :
    Misses p port (if ((s.plane p).pt port).reqStamp.isSome then 1 else 0) s (((s.reqDue p port).reqOpen p port).reqNoted p port) := by
  have due := s.reqDue_passes p port
  have opened := (s.reqDue p port).reqOpen_misses p port
  rw [due.pt] at opened
  have ready := ((due.misses p port).trans opened).trans (State.reqNoted_misses _ p port)
  rwa [Nat.zero_add] at ready

end

section
variable {s : State} {p : Plane} {port : Fin 11} {x : Nat} {m : PtpMsg} (hon : s.ptpOn p port = true)
include hon

theorem execPdelayReqSend_eq (hl : s.link p port = true) :
    let u := ((s.reqDue p port).reqOpen p port).reqNoted p port
    ∃ o, execPdelayReqSend p port s = if !u.txqFree p port then ok ((u.bump (.timPort p port) F.TIM_TXQ_FALLBACK_SKIP).pdelayMissed p port)
      else ok ((u.setPlane p ((u.plane p).setPt port ((u.plane p).pt port).asked)).ownFrame p port o 4 0) :=
  ⟨_, if_neg (by rw [hon, hl]; decide)⟩

/-- A due Pdelay_Req (R78, R84). -/
theorem pdelayReqSend_queues (hl : s.link p port = true) :
    let pt := (s.plane p).pt port
    let open_ := if pt.reqStamp.isSome then 1 else 0
    Answers (exec (.pdelayReqSend p port) s) fun t =>
      (s.txqFree p port = true → ((t.plane p).pt port).seqId = (pt.seqId + 1) % 65536 ∧
        ((t.plane p).port port).ctl.length = ((s.plane p).port port).ctl.length + 1 ∧
        ((t.plane p).pt port).reqStamp = none ∧ ((t.plane p).pt port).missed = pt.missed + open_) ∧
      (s.txqFree p port = false → ((t.plane p).pt port).missed = pt.missed + open_ + 1 ∧
        ((t.plane p).port port).ctl = ((s.plane p).port port).ctl ∧
        t.fld (.timPort p port) F.TIM_TXQ_FALLBACK_SKIP = min (s.fld (.timPort p port) F.TIM_TXQ_FALLBACK_SKIP + 1) 65535) ∧
      Beside s t ∧ RegsOutside timeAt s t := by
  intro pt open_
  have ready : Misses p port open_ s _ := s.reqReady_misses p port
  obtain ⟨o, step⟩ := execPdelayReqSend_eq hon hl
  generalize ((s.reqDue p port).reqOpen p port).reqNoted p port = u at ready step
  rw [ready.txqFree] at step
  rcases hfree : s.txqFree p port with _ | _
  · rw [hfree] at step
    have last := (u.bump (.timPort p port) F.TIM_TXQ_FALLBACK_SKIP).pdelayMissed_misses p port
    refine ⟨_, step, nofun, fun _ => ⟨?_, ?_, ?_⟩, ?_⟩
    · rw [last.missed, State.plane_bump, ready.missed]
    · rw [last.mac, State.plane_bump, ready.mac]
    · rw [last.skip, State.fld_bump_same _ _ _ _ _ (by decide) (by decide), ready.skip]
      rfl
    · exact ((ready.within.bump (timPortAt_in p port (by decide)) _).trans last.within).frame
  · rw [hfree] at step
    refine ⟨_, step, fun _ => ?_, nofun, ((ready.within.setPlane _ _).trans (State.ownFrame_within ..)).frame⟩
    obtain ⟨f, hf⟩ := (u.setPlane p ((u.plane p).setPt port ((u.plane p).pt port).asked)).ctl_ownFrame p port o 4 0
    rw [State.pt_ownFrame, hf, State.plane_setPlane, PlaneSt.pt_setPt, List.length_append]
    exact ⟨congrArg (fun n => (n + 1) % 65536) ready.seqId, congrArg (fun m : PortMac => m.ctl.length + 1) ready.mac, rfl, ready.missed⟩

/-! Pdelay_Resp. -/

section
variable {t1 : Nat} (ht : ((s.plane p).pt port).reqStamp = some t1) (hid : m.reqPort = s.portIdentity p port)
include ht hid

/-- A response to the open request (R78). -/
theorem execPdelayRespReceived_open (hq : m.seqId = ((s.plane p).pt port).seqId) : execPdelayRespReceived p port x m s =
    if t1 + 10 * 1000000 * 65536 < s.rxStamp p port x then ok s
    else if m.twoStep then ok (s.setPlane p ((s.plane p).setPt port
      { (s.plane p).pt port with resp := some ⟨m.srcPort, m.seqId, s.rxStamp p port x, m.corr - m.time, port.val⟩ }))
    else ok (s.pdelayDone p port (((s.rxStamp p port x : Int) - t1 - m.corr) / 2)) := by
  have ten : 10 * ms = 10 * 1000000 * 65536 := rfl
  simp only [execPdelayRespReceived, hon, ht, hid, hq, ten, Bool.not_true, Bool.false_eq_true, if_false, ne_eq, not_true_eq_false, false_or]

/-- The follow-up to a response that waits (R78). -/
theorem execPdelayRespFollowUpReceived_open {r : PendSync} (hr : ((s.plane p).pt port).resp = some r) (hq : r.seqId = m.seqId)
    (hsrc : r.srcPort = m.srcPort) (hx : s.rxStamp p port x ≤ t1 + 10 * 1000000 * 65536) :
    execPdelayRespFollowUpReceived p port x m s =
      ok (s.pdelayDone p port (((r.rx : Int) - t1 - ((m.time : Int) + m.corr + r.corr)) / 2)) := by
  have ten : 10 * ms = 10 * 1000000 * 65536 := rfl
  simp only [execPdelayRespFollowUpReceived, hon, ht, hr, hid, hq, hsrc, ten, Bool.not_true, Bool.false_eq_true, if_false, ne_eq,
    not_true_eq_false, false_or, Nat.not_lt.mpr hx]

end

end

section
variable {s : State} {p : Plane} {port : Fin 11} {t1 : Nat} (hp : s.planeUp p = true)
include hp

/-- 10 ms after the request, and the settle margin, an open exchange is missed (R78). -/
theorem pdelayRespTimeout_missed (ht : ((s.plane p).pt port).reqStamp = some t1) : Answers (exec (.pdelayRespTimeout p port) s) fun t =>
    ((t.plane p).pt port).missed = ((s.plane p).pt port).missed + 1 ∧
    (3 ≤ ((s.plane p).pt port).missed + 1 → t.rd (.timPort p port) .TIM_PDELAY = 0xFFFFFFFF) ∧ Beside s t ∧ RegsOutside timeAt s t := by
  have passed := s.reachPlane_passes p (t1 + 10 * ms + settle)
  have step : exec (.pdelayRespTimeout p port) s = ok ((s.reachPlane p (t1 + 10 * ms + settle)).pdelayMissed p port) := by
    show execPdelayRespTimeout p port s = _
    simp only [execPdelayRespTimeout, ht, hp, Bool.not_true, Bool.false_eq_true, if_false]
  have last := (passed.misses p port).trans ((s.reachPlane p (t1 + 10 * ms + settle)).pdelayMissed_misses p port)
  exact ⟨_, step, last.missed, fun h3 => State.pdelayMissed_invalid _ p port (by rwa [passed.pt]), last.within.frame⟩

/-- Entries of the residence table older than 1 s go (R79). -/
theorem residenceEntryExpire_prunes {e : ResEntry} {r : List ResEntry} (hr : (s.plane p).res = e :: r) :
    Answers (exec (.residenceEntryExpire p) s) fun t =>
      (∀ q ∈ (t.plane p).res, q ∈ (s.plane p).res ∧ (t.plane p).now ≤ q.at_ + 1000000000 * 65536) ∧ Beside s t ∧ RegsOutside timeAt s t := by
  have passed := s.reachPlane_passes p (e.at_ + sec + 1)
  let u := s.reachPlane p (e.at_ + sec + 1)
  have step : exec (.residenceEntryExpire p) s =
      ok (u.setPlane p { u.plane p with res := (u.plane p).res.filter (fun r => decide ((u.plane p).now ≤ r.at_ + sec)) }) := by
    show execResidenceEntryExpire p s = _
    simp only [execResidenceEntryExpire, hr, hp, Bool.not_true, Bool.false_eq_true, if_false]
    rfl
  refine ⟨_, step, fun q hq => ?_, (passed.within.timed.setPlane _ _).frame⟩
  rw [State.plane_setPlane] at hq ⊢
  obtain ⟨kept, young⟩ := List.mem_filter.mp hq
  exact ⟨passed.res p ▸ kept, of_decide_eq_true young⟩

end

end Sys2Proof.Machine
end

section
/-! # O14 -/

namespace Sys2Proof.Machine
open Sys2Proof

/-- Settles O14: each clause is one of the lemmas about its instruction; what passing time and the choice of a source leave
(`Passes`, `Tunes`) carries the slots and their registers through it. -/
theorem ptpMessages : Obligations.PtpMessages := by
  intro p port k n x d a m s hp x' slot pt ctl frame sel shown delay
  have shows {t : State} {o : Int} (h : OffsetShown p n o s t) : shown t o := ⟨h.steady, h.some, h.shown, h.within.frame⟩
  have delays {t : State} {e : Int} (h : DelayShown p port e s t) : delay t e := ⟨h.shown, h.missed, h.closed, h.within.frame⟩
  refine ⟨fun hon hs h0 h2 => ⟨announceReceived_first hon hs h0 h2, fun b hb hl ho hw => execAnnounceReceived_worse hon hs h0 h2 hb hl ho hw⟩,
    fun hon hs hsel hd h4 h0 => ⟨fun ht => ?_, syncReceived_twoStep hon hs hd h4 h0 hsel⟩, fun q hon hs hq hd hsrc hseq hport h4 h0 => ?_,
    followUpReceived_residence, pdelayReqReceived_answers, pdelayReqSend_queues, fun t1 hon ht hid hq => ⟨?_, ?_, ?_, ?_⟩,
    fun t1 ht => pdelayRespTimeout_missed hp ht,
    fun b hb => ⟨fun u hu => announceTimeout_late s p hp hb hu, fun u hu => syncTimeout_late s p hp hb hu⟩,
    fun e r hr => residenceEntryExpire_prunes hp hr⟩
  · exact (syncReceived_oneStep hon hs hd h4 h0 hsel ht).imp fun t ⟨step, h⟩ => ⟨step, shows h⟩
  · exact (followUpReceived_waiting hon hs hq hd hsrc hseq hport h4 h0).imp fun t ⟨step, h⟩ => ⟨step, shows h⟩
  · intro late
    exact (execPdelayRespReceived_open hon ht hid hq).trans (if_pos late)
  · intro hx one
    refine ⟨_, (execPdelayRespReceived_open hon ht hid hq).trans ((if_neg (Nat.not_lt.mpr hx)).trans (if_neg (by rw [one]; decide))), ?_⟩
    exact delays (s.pdelayDone_shown p port _)
  · intro hx two
    refine ⟨_, (execPdelayRespReceived_open hon ht hid hq).trans ((if_neg (Nat.not_lt.mpr hx)).trans (if_pos two)), ?_,
      State.setPlane_regs .., ((Within.refl timeAt s).setPlane _ _).beside⟩
    rw [State.plane_setPlane, PlaneSt.pt_setPt]
  · intro r hr hrq hsrc hx
    exact ⟨_, execPdelayRespFollowUpReceived_open hon ht hid hr hrq hsrc hx, delays (s.pdelayDone_shown p port _)⟩

end Sys2Proof.Machine
end

section
/-! # Reads of the time unit, and the lanes' copies of it (R74, R75, R82, R83) -/

namespace Sys2Proof.Machine
open Sys2Proof

/-! Reads. -/

/-- The word that a read returns is no register. -/
theorem State.rd_rdata (s : State) (v : Word) (pg : Page) (r : RegId) (k : Nat) : ({ s with rdata := v } : State).rd pg r k = s.rd pg r k := rfl

theorem State.fld_rdata (s : State) (v : Word) (pg : Page) (f : Fld) (k : Nat) : ({ s with rdata := v } : State).fld pg f k = s.fld pg f k :=
  rfl

theorem State.plane_rdata (s : State) (v : Word) (q : Plane) : ({ s with rdata := v } : State).plane q = s.plane q := by cases q <;> rfl

theorem Within.rdata {rs : List (Nat × Nat)} {s t : State} (h : Within rs s t) (v : Word) : Within rs s { t with rdata := v } :=
  h.same rfl rfl

/-- The three words of a plane clock's time. -/
def State.latchNow (s : State) (p : Plane) (w : Nat) : State :=
  ((s.wr (.tim p) .TIM_NOW_W0 0 (BitVec.ofNat 32 w)).wr (.tim p) .TIM_NOW_W1 0 (BitVec.ofNat 32 (w / 2 ^ 32))).wr (.tim p) .TIM_NOW_W2 0
    (BitVec.ofNat 32 (w / 2 ^ 64))

theorem State.latchNow_latched (s : State) (p : Plane) (w : Nat) :
    (s.latchNow p w).rd (.tim p) .TIM_NOW_W1 = BitVec.ofNat 32 (w / 2 ^ 32) ∧
    (s.latchNow p w).rd (.tim p) .TIM_NOW_W2 = BitVec.ofNat 32 (w / 2 ^ 64) ∧ RegsOutside timeAt s (s.latchNow p w) := by
  have ne : regAddr (.tim p) .TIM_NOW_W1 0 ≠ regAddr (.tim p) .TIM_NOW_W2 0 := by cases p <;> decide
  have w0 := (RegsOutside.refl timeAt s).wr (.tim p) .TIM_NOW_W0 0 (BitVec.ofNat 32 w) (timAt_in p (by decide))
  have w1 := w0.wr (.tim p) .TIM_NOW_W1 0 (BitVec.ofNat 32 (w / 2 ^ 32)) (timAt_in p (by decide))
  refine ⟨?_, State.rd_wr_same .., w1.wr _ _ _ _ (timAt_in p (by decide))⟩
  rw [State.latchNow, State.rd_wr_other _ _ _ _ _ _ _ _ ne, State.rd_wr_same]

section
variable {s : State} {p : Plane} {port : Fin 11} (hp : s.planeUp p = true)
include hp

/-- A read of TIM_NOW_W0 latches the other words. -/
theorem timNowRead_latches : Answers (exec (.timNowRead p) s) fun t =>
    let w := toT96 (s.plane p).now
    t.rdata = BitVec.ofNat 32 w ∧ t.rd (.tim p) .TIM_NOW_W1 = BitVec.ofNat 32 (w / 2 ^ 32) ∧
    t.rd (.tim p) .TIM_NOW_W2 = BitVec.ofNat 32 (w / 2 ^ 64) ∧ RegsOutside timeAt s t ∧ { t.body with rdata := s.rdata } = s.body := by
  have step : exec (.timNowRead p) s =
      ok { s.latchNow p (toT96 (s.plane p).now) with rdata := BitVec.ofNat 32 (toT96 (s.plane p).now) } := if_neg (by rw [hp]; decide)
  revert step
  generalize toT96 (s.plane p).now = w
  intro step
  obtain ⟨w1, w2, regs⟩ := s.latchNow_latched p w
  exact ⟨_, step, rfl, (State.rd_rdata ..).trans w1, (State.rd_rdata ..).trans w2, regs.same rfl, rfl⟩

/-- An empty queue reads 0. -/
theorem txqEntryRead_empty (h : ((s.plane p).pt port).txq = []) : exec (.txqEntryRead p port) s = .next { s with rdata := 0 } := by
  show execTxqEntryRead p port s = _
  simp only [execTxqEntryRead, hp, h, Bool.not_true, Bool.false_eq_true, if_false, ok]

/-- The oldest entry leaves its queue as its last word is read. -/
theorem txqEntryRead_oldest {e : TxqEnt} {r : List TxqEnt} (h : ((s.plane p).pt port).txq = e :: r) :
    Answers (exec (.txqEntryRead p port) s) fun t => ((t.plane p).pt port).txq = r ∧ t.rdata = BitVec.ofNat 32 (txqWord e 3) ∧
      t.fld (.timPort p port) F.TIM_TXQ_STATUS_COUNT = r.length % 128 ∧ Beside s t ∧ RegsOutside timeAt s t := by
  let x := (s.plane p).setPt port { (s.plane p).pt port with txq := r }
  let u := (s.setPlane p x).setFld (.timPort p port) F.TIM_TXQ_STATUS_COUNT r.length
  have step : exec (.txqEntryRead p port) s = ok { u with rdata := BitVec.ofNat 32 (txqWord e 3) } := by
    show execTxqEntryRead p port s = _
    simp only [execTxqEntryRead, hp, h, Bool.not_true, Bool.false_eq_true, if_false]
    rfl
  have within : Within timeAt s u := ((Within.refl _ s).setPlane _ _).setFld (timPortAt_in p port (by decide)) _
  have pt : (u.plane p).pt port = { (s.plane p).pt port with txq := r } := by
    rw [State.plane_setFld, State.plane_setPlane, PlaneSt.pt_setPt]
  have count : u.fld (.timPort p port) F.TIM_TXQ_STATUS_COUNT = r.length % 128 := State.fld_setFld_same _ _ _ _ _ (by decide) (by decide)
  refine ⟨_, step, ?_, rfl, (State.fld_rdata ..).trans count, (within.rdata _).frame⟩
  rw [State.plane_rdata, pt]

/-- At its end a slew leaves no residual. -/
theorem slewEnd_ends (hs : s.bit (.tim p) F.TIM_STATUS_SLEWING = true) : Answers (exec (.slewEnd p) s) fun t =>
    (t.plane p).resid = 0 ∧ t.fld (.tim p) F.TIM_STATUS_SLEWING = 0 ∧ Beside s t ∧ RegsOutside timeAt s t := by
  have passed := s.elapse_passes (slewTime (s.fld (.tim p) F.TIM_CTRL_SLEW_MAX) (s.plane p).slewFrac (s.plane p).resid)
  refine ⟨_, if_neg (by rw [hp, hs]; decide), ?_, State.fld_setFld_same _ _ _ _ _ (by decide) (by decide), ?_⟩
  · rw [State.plane_setFld, State.plane_setPlane]
  · exact ((passed.within.timed.setPlane _ _).setFld (timAt_in p (by decide)) _).frame

end

/-! The lanes. -/

/-- A record in the event recorder. -/
theorem State.within_event (s : State) (d : Dom) (c u v : Nat) : Within [evrAt] s (s.event d c u v) := (Within.refl _ s).event (.head _) d c u v

/-- The registers of a lane's time stand outside the event recorder's. -/
theorem follow_apart (l : Lane) {r : RegId} (hr : r = .CFG_TIME_DIFF ∨ r = .CFG_TIME_FOLLOW) :
    ∀ e ∈ [evrAt], regAddr (.lcfg l) r 0 < e.1 ∨ e.1 + e.2 ≤ regAddr (.lcfg l) r 0 := by
  rcases hr with rfl | rfl <;> cases l <;> decide

/-- The difference of the planes' clocks in a lane, and its alarm (R75). -/
theorem laneTimeSample_shows {s : State} {l : Lane} (ha : s.planeUp .a = true) (hb : s.planeUp .b = true) (hl : s.laneUp l = true) :
    Answers (exec (.laneTimeSample l) s) fun t =>
      let d : Int := (s.pb.now : Int) - s.pa.now
      (t.rd (.lcfg l) .CFG_TIME_DIFF).toNat = sat025 d ∧
      (s.fld (.lcfg l) F.CFG_TIME_FOLLOW_XLIMIT * 65536 < d.natAbs → t.bit (.lcfg l) F.CFG_TIME_FOLLOW_XPLANE = true) ∧
      RegsOutside [regAt (.lcfg l) .CFG_TIME_DIFF, regAt (.lcfg l) .CFG_TIME_FOLLOW, evrAt] s t ∧ Beside s t := by
  let d : Int := (s.pb.now : Int) - s.pa.now
  let u := s.wr (.lcfg l) .CFG_TIME_DIFF 0 (BitVec.ofNat 32 (sat025 d))
  let t := u.setBitEv (.lane l) (.lcfg l) F.CFG_TIME_FOLLOW_XPLANE bkCFG 4 0
  have on : ¬(!(s.laneUp l && s.planeUp .a && s.planeUp .b)) = true := by rw [ha, hb, hl]; decide
  have ne : regAddr (.lcfg l) .CFG_TIME_FOLLOW 0 ≠ regAddr (.lcfg l) .CFG_TIME_DIFF 0 := by cases l <;> decide
  have limit : u.fld (.lcfg l) F.CFG_TIME_FOLLOW_XLIMIT = s.fld (.lcfg l) F.CFG_TIME_FOLLOW_XLIMIT := s.fld_wr_other ne _
  have written : Within [regAt (.lcfg l) .CFG_TIME_DIFF, regAt (.lcfg l) .CFG_TIME_FOLLOW, evrAt] s u :=
    (Within.refl _ s).wr (regIn_of_mem (.head _)) _
  have shown : u.rd (.lcfg l) .CFG_TIME_DIFF = BitVec.ofNat 32 (sat025 d) := State.rd_wr_same ..
  by_cases far : u.fld (.lcfg l) F.CFG_TIME_FOLLOW_XLIMIT * ns < d.natAbs
  · have marked := written.setBitEv (.tail _ (.tail _ (.head _))) (.lane l) (p := .lcfg l) (f := F.CFG_TIME_FOLLOW_XPLANE)
      (regIn_of_mem (.tail _ (.head _))) bkCFG 4 0
    have quiet : Within [evrAt] (u.setBit (.lcfg l) F.CFG_TIME_FOLLOW_XPLANE) t := State.within_event ..
    refine ⟨t, (if_neg on).trans (if_pos far), ?_, fun _ => ?_, marked.regs, marked.beside⟩
    · rw [quiet.regs.rd _ _ _ (follow_apart l (.inl rfl)), State.setBit, State.rd_setFld_other _ _ _ _ _ _ _ _ ne.symm, shown, toNat_sat025]
    · rw [State.bit_congr (quiet.regs.fld _ _ _ (follow_apart l (.inr rfl))), State.bit_setBit_same _ _ _ _ (by decide) (by decide)]
  · refine ⟨u, (if_neg on).trans (if_neg far), by rw [shown, toNat_sat025], fun h => absurd h ?_, written.regs, written.beside⟩
    rwa [limit] at far

/-- A field of CFG_TIME_FOLLOW reads as before when another field of it is stored. -/
theorem State.fld_follow_setFld (s : State) (l : Lane) {f g : Fld} (hf : f ∈ RegId.CFG_TIME_FOLLOW.fields)
    (hg : g ∈ RegId.CFG_TIME_FOLLOW.fields) (h : g ≠ f) (v : Nat) : (s.setFld (.lcfg l) f v).fld (.lcfg l) g = s.fld (.lcfg l) g := by
  obtain ⟨fid, flo, _⟩ := fields_fit _ f hf
  obtain ⟨gid, _, ghi⟩ := fields_fit _ g hg
  exact State.fld_setFld_apart _ _ _ _ _ _ (gid.trans fid.symm) flo ghi (fields_apart_of_ne _ hg hf h)

/-- A lane follows a plane and is not in lane holdover. -/
def State.follows (s : State) (l : Lane) (p : Plane) : Prop := s.followed l = p ∧ s.laneHold l = false

theorem State.follows_of {s : State} {l : Lane} {p : Plane} (hf : s.fld (.lcfg l) F.CFG_TIME_FOLLOW_FOLLOWING = p.idx)
    (hh : s.fld (.lcfg l) F.CFG_TIME_FOLLOW_HOLDOVER = 0) : s.follows l p := by
  refine ⟨?_, decide_eq_false (by rw [hh]; decide)⟩
  rw [State.followed, hf]
  cases p <;> rfl

section
variable (s : State) (l : Lane) (p : Plane)

theorem State.fld_following_same : (s.setFld (.lcfg l) F.CFG_TIME_FOLLOW_FOLLOWING p.idx).fld (.lcfg l) F.CFG_TIME_FOLLOW_FOLLOWING = p.idx := by
  rw [State.fld_setFld_same _ _ _ _ _ (by decide) (by decide)]
  cases p <;> rfl

theorem State.laneTake_follows : (s.laneTake l p).follows l p := by
  refine State.follows_of ?_ (State.fld_setFld_same _ _ _ _ _ (by decide) (by decide))
  unfold State.laneTake
  rw [State.fld_follow_setFld _ _ (by decide) (by decide) (by decide), State.fld_follow_setFld _ _ (by decide) (by decide) (by decide),
    State.fld_following_same]

theorem State.laneSlewTo_follows : (s.laneSlewTo l p).follows l p := by
  have taken (u : State) (hf : u.fld (.lcfg l) F.CFG_TIME_FOLLOW_FOLLOWING = p.idx) (hh : u.fld (.lcfg l) F.CFG_TIME_FOLLOW_HOLDOVER = 0)
      (v : Nat) : (u.setFld (.lcfg l) F.CFG_TIME_FOLLOW_SLEWING v).follows l p := by
    refine State.follows_of ?_ ?_
    · rwa [State.fld_follow_setFld _ _ (by decide) (by decide) (by decide)]
    · rwa [State.fld_follow_setFld _ _ (by decide) (by decide) (by decide)]
  have named (u : State) : let w := (u.setFld (.lcfg l) F.CFG_TIME_FOLLOW_FOLLOWING p.idx).setFld (.lcfg l) F.CFG_TIME_FOLLOW_HOLDOVER 0
      w.fld (.lcfg l) F.CFG_TIME_FOLLOW_FOLLOWING = p.idx ∧ w.fld (.lcfg l) F.CFG_TIME_FOLLOW_HOLDOVER = 0 := by
    refine ⟨?_, State.fld_setFld_same _ _ _ _ _ (by decide) (by decide)⟩
    rw [State.fld_follow_setFld _ _ (by decide) (by decide) (by decide), State.fld_following_same]
  refine iteInduction (motive := fun t => State.follows t l p) (fun _ => ?_) fun _ => taken _ (named _).1 (named _).2 1
  refine taken _ ?_ ?_ 0
  · rw [State.fld_setLane]
    exact (named _).1
  · rw [State.fld_setLane]
    exact (named _).2

end

/-- A lane takes its default plane again 10 s after that became LOCKED (R74). -/
theorem laneDefaultReturn_takes {s : State} {l : Lane} {u : Nat} (hu : (s.plane (s.defPlane l)).lockedSince = some u)
    (hl : s.laneUp l = true) (hk : s.planeLocked (s.defPlane l) = true) (hf : s.followed l ≠ s.defPlane l ∨ s.laneHold l = true) :
    Answers (exec (.laneDefaultReturn l) s) fun t => t.followed l = s.defPlane l ∧ t.laneHold l = false ∧
      u + 10 * (1000000000 * 65536) ≤ t.real ∧ Beside s t ∧ RegsOutside timeAt s t := by
  let v := s.reachReal (u + 10 * sec)
  have passed : Passes s v := s.elapse_passes _
  have away : (decide (s.followed l = s.defPlane l) && !s.laneHold l) = false := by
    rcases hf with hf | hf
    · rw [decide_eq_false hf, Bool.false_and]
    · rw [hf, Bool.not_true, Bool.and_false]
  have step : exec (.laneDefaultReturn l) s = ok (if v.gridRun l then v.laneSlewTo l (s.defPlane l) else v.laneTake l (s.defPlane l)) := by
    show execLaneDefaultReturn l s = _
    simp only [execLaneDefaultReturn, hu, hl, hk, away, Bool.not_true, Bool.or_false, Bool.false_eq_true, if_false]
    rfl
  have follows : (if v.gridRun l then v.laneSlewTo l (s.defPlane l) else v.laneTake l (s.defPlane l)).follows l (s.defPlane l) :=
    iteInduction (motive := fun t => State.follows t l _) (fun _ => v.laneSlewTo_follows l _) fun _ => v.laneTake_follows l _
  have steady : Spared v (if v.gridRun l then v.laneSlewTo l (s.defPlane l) else v.laneTake l (s.defPlane l)) :=
    .ite ((Spared.refl v).laneSlewTo _ _) ((Spared.refl v).laneTake _ _)
  have lane : LanesStep v (if v.gridRun l then v.laneSlewTo l (s.defPlane l) else v.laneTake l (s.defPlane l)) :=
    .ite ((LanesStep.refl v).laneSlewTo _ _) ((LanesStep.refl v).laneTake _ _)
  refine ⟨_, step, follows.1, follows.2, ?_, (passed.within.trans (lane.within.mono lanesTuneAt_inside)).timed.frame⟩
  rw [steady.real]
  exact s.le_reachReal _

end Sys2Proof.Machine
end

section
/-! # The common domain of the planes (R69, R73) -/

namespace Sys2Proof.Machine
open Sys2Proof

/-! What a decision looks at stands while clocks run and sources change. -/

theorem State.prefSlot_lt (s : State) (p : Plane) : s.prefSlot p < 2 := s.fld_lt _ _ _

namespace Within
variable {s t : State} (h : Within tuneAt s t)
include h

/-- The fields of TIM_CTRL. -/
theorem ctrl (p : Plane) {f : Fld} (hf : f.id = .TIM_CTRL) : t.fld (.tim p) f = s.fld (.tim p) f :=
  h.regs.fld _ _ _ (tim_apart p (by rw [hf]; decide) (by rw [hf]; decide))

theorem prefSlot (p : Plane) : t.prefSlot p = s.prefSlot p := h.ctrl p rfl

theorem paired : t.paired = s.paired := by rw [State.paired, h.planeUp, h.planeUp, h.pins, State.paired]

theorem deciders : t.deciders = s.deciders := by
  simp only [State.deciders, State.timeLead, h.paired, h.planeUp]

theorem slotUsable (p : Plane) {n : Nat} (hn : n < 2) : t.slotUsable p n = s.slotUsable p n := by
  obtain ⟨low, ne⟩ := ofSlot_low (r := .TIM_DOM_STATUS) (by decide) hn
  have state : t.fld (.tim p) F.TIM_DOM_STATUS_STATE n = s.fld (.tim p) F.TIM_DOM_STATUS_STATE n := h.regs.fld _ _ _ (tim_apart p low ne)
  rw [State.slotUsable, state, State.bit_congr (h.ctrl p rfl), State.bit_congr (h.ctrl p rfl), State.slotUsable]

theorem usableAny (p : Plane) {n : Nat} (hn : n < 2) : t.usableAny p n = s.usableAny p n := by
  rw [State.usableAny, h.planeUp, h.slotUsable p hn, h.paired, h.slotUsable p.other hn, State.usableAny]

end Within

/-! What a plane decides. -/

section
variable (s : State) (p : Plane)

/-- The preferred slot is lost to the other one. -/
def State.prefLost : Prop := s.usableAny p (s.prefSlot p) = false ∧ s.usableAny p (1 - s.prefSlot p) = true

/-- Neither the plane nor its partner has been LOCKED. -/
def State.commonFree : Prop := s.timState p = 0 ∧ (s.paired = false ∨ s.timState p.other = 0)

variable {s p}

theorem State.commonNext_leave (h : (s.plane p).common = s.prefSlot p) (hl : s.prefLost p) : s.commonNext p = 1 - s.prefSlot p := by
  rw [State.commonNext, if_pos h, if_pos (by rw [hl.1, hl.2]; decide)]

theorem State.commonNext_stay (h : (s.plane p).common = s.prefSlot p) (hl : ¬s.prefLost p) : s.commonNext p = s.prefSlot p := by
  rw [State.commonNext, if_pos h, if_neg]
  simpa only [State.prefLost, Bool.and_eq_true, Bool.not_eq_true'] using hl

theorem State.commonNext_begin (h : (s.plane p).common ≠ s.prefSlot p) (hf : s.commonFree p) : s.commonNext p = s.prefSlot p := by
  rw [State.commonNext, if_neg h]
  exact if_pos hf

theorem State.commonNext_keep (h : (s.plane p).common ≠ s.prefSlot p) (hf : ¬s.commonFree p) : s.commonNext p = (s.plane p).common := by
  rw [State.commonNext, if_neg h]
  exact if_neg hf

theorem Within.prefLost {t : State} (h : Within tuneAt s t) : t.prefLost p ↔ s.prefLost p := by
  have low := s.prefSlot_lt p
  rw [State.prefLost, h.prefSlot, h.usableAny p low, h.usableAny p (by omega), State.prefLost]

end

/-! The decision takes effect. -/

section
variable (s : State) (p : Plane) (n : Nat)

/-- A plane holds a common slot, and the planes hold what one of them has decided, before they select again. -/
def State.ownCommon : State := s.setPlane p { s.plane p with common := n }
def State.holdCommon : State :=
  if (s.ownCommon p n).paired then (s.ownCommon p n).ownCommon p.other n else s.ownCommon p n

theorem State.ownCommon_within : Within tuneAt s (s.ownCommon p n) := (Within.refl _ s).setPlane _ _

theorem State.ownCommon_spared : Spared s (s.ownCommon p n) := (Spared.refl s).setPlane _ _

theorem State.timState_ownCommon (q : Plane) : (s.ownCommon p n).timState q = s.timState q := State.fld_setPlane ..

theorem State.common_ownCommon : ((s.ownCommon p n).plane p).common = n := by rw [State.ownCommon, State.plane_setPlane]

theorem State.common_ownCommon_ne {q : Plane} (h : q ≠ p) : ((s.ownCommon p n).plane q).common = (s.plane q).common := by
  rw [State.ownCommon, State.plane_setPlane_ne _ h]

theorem State.setCommon_tunes : Tunes [.a, .b] (s.holdCommon p n) (s.setCommon p n) := State.selectSources_tunes _

theorem State.holdCommon_within : Within tuneAt s (s.holdCommon p n) :=
  .ite ((s.ownCommon_within p n).trans (State.ownCommon_within ..)) (s.ownCommon_within p n)

theorem State.setCommon_within : Within tuneAt s (s.setCommon p n) := (s.holdCommon_within p n).trans (s.setCommon_tunes p n).within

theorem State.setCommon_spared : Spared s (s.setCommon p n) :=
  (Spared.ite ((s.ownCommon_spared p n).trans (State.ownCommon_spared ..)) (s.ownCommon_spared p n)).selectSources

theorem State.timState_holdCommon (q : Plane) : (s.holdCommon p n).timState q = s.timState q :=
  iteInduction (motive := fun t => State.timState t q = _)
    (fun _ => (State.timState_ownCommon ..).trans (s.timState_ownCommon p n q)) fun _ => s.timState_ownCommon p n q

theorem State.common_setCommon : ((s.setCommon p n).plane p).common = n := by
  have other : p ≠ p.other := by cases p <;> decide
  rw [(s.setCommon_tunes p n).common]
  exact iteInduction (motive := fun t => (State.plane t p).common = n)
    (fun _ => (State.common_ownCommon_ne _ _ _ other).trans (s.common_ownCommon p n)) fun _ => s.common_ownCommon p n

theorem State.common_setCommon_other (h : s.paired = true) : ((s.setCommon p n).plane p.other).common = n := by
  rw [(s.setCommon_tunes p n).common, State.holdCommon, if_pos ((s.ownCommon_within p n).paired.trans h), State.common_ownCommon]

theorem State.common_setCommon_alone (h : s.paired = false) {q : Plane} (hq : q ≠ p) :
    ((s.setCommon p n).plane q).common = (s.plane q).common := by
  have alone : ¬(s.ownCommon p n).paired = true := by rw [(s.ownCommon_within p n).paired, h]; decide
  rw [(s.setCommon_tunes p n).common, State.holdCommon, if_neg alone, State.common_ownCommon_ne _ _ _ hq]

end

/-- A plane applies what it decides. -/
def State.takeCommon (s : State) (p : Plane) : State := s.setCommon p (s.commonNext p)

/-- Between two states a plane kept its common slot, and if it has been LOCKED that too. -/
structure CommonKept (p : Plane) (s t : State) : Prop where
  within : Within tuneAt s t
  common : (t.plane p).common = (s.plane p).common
  left : s.timState p ≠ 0 → t.timState p ≠ 0

/-- Planes that do not know each other decide for themselves. -/
theorem State.takeCommons_kept {p : Plane} {L : List Plane} (hp : p ∉ L) (s : State) (h : s.paired = false) :
    CommonKept p s (L.foldl State.takeCommon s) := by
  induction L generalizing s with
  | nil => exact ⟨.refl _ s, rfl, id⟩
  | cons q L ih =>
    obtain ⟨ne, hL⟩ := List.ne_and_not_mem_of_not_mem_cons hp
    have within := s.setCommon_within q (s.commonNext q)
    have rest := ih hL (s.takeCommon q) (within.paired.trans h)
    refine ⟨within.trans rest.within, rest.common.trans (s.common_setCommon_alone q _ h ne), fun h0 => rest.left ?_⟩
    exact (s.setCommon_tunes q _).left p (by rwa [State.timState_holdCommon])

section
variable {s : State} {p : Plane}

theorem CommonKept.after {t u : State} (h : CommonKept p s t) (g : Passes u s) : CommonKept p u t :=
  ⟨g.within.trans h.within, h.common.trans (g.common p), fun h0 => h.left (by rwa [g.timState])⟩

theorem State.toBoundary_passes (s : State) : Passes s s.toBoundary := s.reachPlane_passes ..

/-- At the exchange time passes to the next 1 ms boundary, and the planes that decide do so. -/
theorem execSlotStateExchange_eq (h : (s.planeUp .a || s.planeUp .b) = true) :
    execSlotStateExchange s = ok (s.deciders.foldl State.takeCommon s.toBoundary) := by
  have passed := s.toBoundary_passes
  rw [← passed.within.deciders]
  exact if_neg (by rw [h]; decide)

theorem State.up_of_decides (h : s.deciders = [p]) : s.planeUp p = true := by
  unfold State.deciders at h
  split_ifs at h with hd
  · obtain rfl := List.singleton_inj.mp h
    simp only [State.paired, Bool.and_eq_true] at hd
    rw [State.timeLead, if_pos hd.1.1]
    exact hd.1.1
  · have : p ∈ [Plane.a, .b].filter (fun p => s.planeUp p) := h ▸ .head _
    exact (List.mem_filter.mp this).2

theorem State.anyUp (h : s.planeUp p = true) : (s.planeUp .a || s.planeUp .b) = true := by cases p <;> simp [h]

/-- The exchange of planes of which one decides (R69). -/
theorem slotStateExchange_common (hd : s.deciders = [p]) : Answers (exec .slotStateExchange s) fun t =>
    let pref := s.prefSlot p
    let cur := (s.plane p).common
    (cur = pref → s.prefLost p → (t.plane p).common = 1 - pref) ∧ (cur = pref → ¬s.prefLost p → (t.plane p).common = pref) ∧
    (cur ≠ pref → s.commonFree p → (t.plane p).common = pref) ∧ (cur ≠ pref → ¬s.commonFree p → (t.plane p).common = cur) ∧
    (s.paired = true → (t.plane p.other).common = (t.plane p).common) ∧ Beside s t ∧ RegsOutside timeAt s t := by
  have passed := s.toBoundary_passes
  have step := execSlotStateExchange_eq (State.anyUp (State.up_of_decides hd))
  rw [hd] at step
  revert passed step
  generalize s.toBoundary = u
  intro passed step
  have pref := passed.within.prefSlot p
  have cur := passed.common p
  have lost := passed.within.prefLost (p := p)
  have free : u.commonFree p ↔ s.commonFree p := by
    rw [State.commonFree, passed.timState, passed.timState, passed.within.paired, State.commonFree]
  have took : ((u.takeCommon p).plane p).common = u.commonNext p := u.common_setCommon p _
  refine ⟨u.takeCommon p, step, fun hc hl => ?_, fun hc hl => ?_, fun hc hf => ?_, fun hc hf => ?_, fun both => ?_,
    (passed.within.trans (u.setCommon_within p _)).timed.frame⟩
  · rw [took, State.commonNext_leave (by rw [cur, pref, hc]) (lost.mpr hl), pref]
  · rw [took, State.commonNext_stay (by rw [cur, pref, hc]) (mt lost.mp hl), pref]
  · rw [took, State.commonNext_begin (by rwa [cur, pref]) (free.mpr hf), pref]
  · rw [took, State.commonNext_keep (by rwa [cur, pref]) (mt free.mp hf), cur]
  · rw [took]
    exact u.common_setCommon_other p _ (passed.within.paired.trans both)

/-- The exchange of planes that do not know each other (R69). -/
theorem slotStateExchange_alone (ha : s.paired = false) (hp : s.planeUp p = true) : Answers (exec .slotStateExchange s) fun t =>
    let pref := s.prefSlot p
    let cur := (s.plane p).common
    (cur = pref → s.prefLost p → (t.plane p).common = 1 - pref) ∧ (cur = pref → ¬s.prefLost p → (t.plane p).common = pref) ∧
    (cur ≠ pref → s.timState p ≠ 0 → (t.plane p).common = cur) ∧ Beside s t ∧ RegsOutside timeAt s t := by
  have passed := s.toBoundary_passes
  have step := execSlotStateExchange_eq (State.anyUp hp)
  have decides : s.deciders = [Plane.a, .b].filter (fun p => s.planeUp p) := if_neg (by rw [ha]; decide)
  have once : s.deciders.Nodup := decides ▸ List.Nodup.filter _ (by decide)
  have mem : p ∈ s.deciders := decides ▸ List.mem_filter.mpr ⟨by cases p <;> decide, hp⟩
  obtain ⟨L, R, split⟩ := List.append_of_mem mem
  rw [split] at once step
  obtain ⟨hL, hR⟩ : p ∉ L ∧ p ∉ R := by
    rw [List.nodup_append, List.nodup_cons] at once
    exact ⟨fun hm => once.2.2 p hm p (.head _) rfl, once.2.1.1⟩
  rw [List.foldl_append, List.foldl_cons] at step
  have before := (State.takeCommons_kept hL _ (passed.within.paired.trans ha)).after passed
  revert step before
  generalize L.foldl State.takeCommon s.toBoundary = u
  intro step before
  have within := before.within.trans (u.setCommon_within p (u.commonNext p))
  have after := State.takeCommons_kept hR (u.takeCommon p) (within.paired.trans ha)
  have took : ((R.foldl State.takeCommon (u.takeCommon p)).plane p).common = u.commonNext p :=
    after.common.trans (u.common_setCommon p _)
  have pref := before.within.prefSlot p
  have cur := before.common
  have lost := before.within.prefLost (p := p)
  refine ⟨_, step, fun hc hl => ?_, fun hc hl => ?_, fun hc h0 => ?_, (within.trans after.within).timed.frame⟩
  · rw [took, State.commonNext_leave (by rw [cur, pref, hc]) (lost.mpr hl), pref]
  · rw [took, State.commonNext_stay (by rw [cur, pref, hc]) (mt lost.mp hl), pref]
  · rw [took, State.commonNext_keep (by rwa [cur, pref]) fun hf => before.left h0 hf.1, cur]

/-! The return to the preferred slot. -/

theorem Passes.usableSince {t : State} (h : Passes s t) {n : Nat} (hn : n < 2) : t.usableSince p n = s.usableSince p n := by
  have slot (q : Plane) : ((t.plane q).slot n).usableSince = ((s.plane q).slot n).usableSince :=
    (congrArg PtpSlot.usableSince (h.slot q n) :)
  simp only [State.usableSince, h.within.planeUp, h.within.slotUsable _ hn, h.within.paired, slot]

theorem Passes.revertAt {t : State} (h : Passes s t) : t.revertAt p = s.revertAt p := by
  have hold : t.fld (.tim p) F.TIM_CTRL_REVERT_HOLD = s.fld (.tim p) F.TIM_CTRL_REVERT_HOLD := h.within.ctrl p rfl
  rw [State.revertAt, hold, h.common, h.within.prefSlot, h.usableSince (s.prefSlot_lt p), State.revertAt]

/-- The state in which a due return finds the planes: at the 1 ms boundary after the moment `m`. -/
def State.atReturn (s : State) (m : Nat) : State := (s.reachReal m).toBoundary

theorem State.atReturn_passes (s : State) (m : Nat) : Passes s (s.atReturn m) ∧ m ≤ (s.atReturn m).real := by
  have early : Passes s (s.reachReal m) := s.elapse_passes _
  have late := (s.reachReal m).toBoundary_passes
  exact ⟨early.trans late, (s.le_reachReal m).trans late.real⟩

/-- One plane decides, and its return is due at `m`. -/
theorem execRevertHoldExpire_one {m : Nat} (hd : s.deciders = [p]) (due : s.revertAt p = some m) :
    execRevertHoldExpire s = ok ((s.atReturn m).setCommon p ((s.atReturn m).prefSlot p)) := by
  obtain ⟨passed, reached⟩ := s.atReturn_passes m
  have only : s.deciders.filterMap s.revertAt = [m] := by simp [hd, due]
  have decides := passed.within.deciders.trans hd
  have again := passed.revertAt.trans due
  rw [execRevertHoldExpire, only]
  dsimp only
  rw [List.foldl_nil, ← State.atReturn, decides, List.foldl_cons, List.foldl_nil, again]
  exact congrArg ok (if_pos reached)

/-- After REVERT_HOLD the pair returns to the preferred slot (R73). -/
theorem revertHoldExpire_returns {u : Nat} (hd : s.deciders = [p]) (hc : (s.plane p).common ≠ s.prefSlot p)
    (h0 : s.fld (.tim p) F.TIM_CTRL_REVERT_HOLD ≠ 0) (hu : s.usableSince p (s.prefSlot p) = some u) :
    Answers (exec .revertHoldExpire s) fun t =>
      (t.plane p).common = s.prefSlot p ∧ (s.paired = true → (t.plane p.other).common = s.prefSlot p) ∧
      u + s.fld (.tim p) F.TIM_CTRL_REVERT_HOLD * (1000000000 * 65536) ≤ t.real ∧ Beside s t ∧ RegsOutside timeAt s t := by
  have second : 1000000000 * 65536 = sec := rfl
  have due : s.revertAt p = some (u + s.fld (.tim p) F.TIM_CTRL_REVERT_HOLD * sec) := by
    rw [State.revertAt, if_neg (not_or.mpr ⟨h0, hc⟩), hu, Option.map_some]
  rw [second]
  revert due
  generalize u + s.fld (.tim p) F.TIM_CTRL_REVERT_HOLD * sec = m
  intro due
  obtain ⟨passed, reached⟩ := s.atReturn_passes m
  have step := execRevertHoldExpire_one hd due
  revert passed reached step
  generalize s.atReturn m = v
  intro passed reached step
  have pref := passed.within.prefSlot p
  refine ⟨_, step, by rw [State.common_setCommon, pref], fun both => ?_, ?_,
    (passed.within.trans (v.setCommon_within p _)).timed.frame⟩
  · rw [State.common_setCommon_other _ _ _ (passed.within.paired.trans both), pref]
  · rwa [(v.setCommon_spared p _).real]

end

end Sys2Proof.Machine
end

section
/-! # The difference of the plane clocks, and the PPS pins (R70, R85, R86, R87) -/

namespace Sys2Proof.Machine
open Sys2Proof

/-- TIM_STATUS stands outside the event recorder's registers. -/
theorem status_apart (p : Plane) : ∀ e ∈ [evrAt], regAddr (.tim p) .TIM_STATUS 0 < e.1 ∨ e.1 + e.2 ≤ regAddr (.tim p) .TIM_STATUS 0 := by
  cases p <;> decide

/-! XPLANE. -/

section
variable (s : State) (p : Plane) (d : Int)

/-- The difference of the clocks is shown, and raises its alarm above the limit (R70). -/
def State.writeXplane : State := s.wr (.tim p) .TIM_OFFSET_XPLANE 0 (BitVec.ofNat 32 (sat025 d))
def State.showXplane : State :=
  if (s.writeXplane p d).fld (.tim p) F.TIM_LIMITS_XPLANE * ns < d.natAbs
  then (s.writeXplane p d).setBitEv (.plane p) (.tim p) F.TIM_STATUS_XPLANE bkTIM 0 0 else s.writeXplane p d

/-- The registers of the measurement are its own. -/
theorem xplane_ne (p : Plane) : regAddr (.tim p) .TIM_STATUS 0 ≠ regAddr (.tim p) .TIM_OFFSET_XPLANE 0 ∧
    regAddr (.tim p) .TIM_LIMITS 0 ≠ regAddr (.tim p) .TIM_OFFSET_XPLANE 0 := by cases p <;> decide

theorem State.writeXplane_within : Within timeAt s (s.writeXplane p d) := (Within.refl _ s).wr (timAt_in p (by decide)) _

theorem State.fld_writeXplane {f : Fld} (hf : f ∈ RegId.TIM_STATUS.fields ∨ f = F.TIM_LIMITS_XPLANE) :
    (s.writeXplane p d).fld (.tim p) f = s.fld (.tim p) f := by
  refine s.fld_wr_other ?_ _
  rcases hf with hf | rfl
  · rw [(fields_fit _ f hf).1]
    exact (xplane_ne p).1
  · exact (xplane_ne p).2

/-- What the measurement leaves before the servo takes it: `far` says that the difference is above the limit. -/
structure XplaneShown (far : Prop) (t : State) : Prop where
  within : Within timeAt s t
  shown : t.rd (.tim p) .TIM_OFFSET_XPLANE = BitVec.ofNat 32 (sat025 d)
  alarm : far → t.bit (.tim p) F.TIM_STATUS_XPLANE = true
  quiet : ¬far → t.bit (.tim p) F.TIM_STATUS_XPLANE = s.bit (.tim p) F.TIM_STATUS_XPLANE
  status : ∀ f ∈ RegId.TIM_STATUS.fields, f ≠ F.TIM_STATUS_XPLANE → t.fld (.tim p) f = s.fld (.tim p) f

theorem State.showXplane_shown : XplaneShown s p d (s.fld (.tim p) F.TIM_LIMITS_XPLANE * ns < d.natAbs) (s.showXplane p d) := by
  have written := s.writeXplane_within p d
  have shown : (s.writeXplane p d).rd (.tim p) .TIM_OFFSET_XPLANE = BitVec.ofNat 32 (sat025 d) := State.rd_wr_same ..
  have status (f : Fld) (hf : f ∈ RegId.TIM_STATUS.fields) := s.fld_writeXplane p d (.inl hf)
  unfold State.showXplane
  rw [s.fld_writeXplane p d (.inr rfl)]
  generalize s.writeXplane p d = u at *
  split_ifs with far
  · have quiet : Within [evrAt] (u.setBit (.tim p) F.TIM_STATUS_XPLANE) (u.setBitEv (.plane p) (.tim p) F.TIM_STATUS_XPLANE bkTIM 0 0) :=
      State.within_event ..
    have apart : ∀ e ∈ [evrAt], regAddr (.tim p) .TIM_OFFSET_XPLANE 0 < e.1 ∨ e.1 + e.2 ≤ regAddr (.tim p) .TIM_OFFSET_XPLANE 0 := by
      cases p <;> decide
    refine ⟨written.setBitEv evrAt_mem_timeAt _ (timAt_in p (by decide)) _ _ _, ?_, fun _ => ?_, fun h => absurd far h, fun f hf hx => ?_⟩
    · rw [quiet.regs.rd _ _ _ apart, State.setBit, State.rd_setFld_other _ _ _ _ _ _ _ _ (xplane_ne p).1.symm, shown]
    · rw [State.bit_congr (quiet.regs.fld _ _ _ (status_apart p)), State.bit_setBit_same _ _ _ _ (by decide) (by decide)]
    · have apart := status_apart p
      rw [← (fields_fit _ f hf).1] at apart
      rw [quiet.regs.fld _ _ _ apart, State.setBit, u.fld_status_setFld p p (by decide) hf hx, status f hf]
  · exact ⟨written, shown, fun h => absurd h far, fun _ => State.bit_congr (status _ (by decide)), fun f hf _ => status f hf⟩

end

/-- A slew of at least 1 ns begins. -/
theorem State.planeSlew_begins (s : State) (p : Plane) {d : Int} (h : ns ≤ d.natAbs) :
    ((s.planeSlew p d).plane p).resid = d ∧ (s.planeSlew p d).bit (.tim p) F.TIM_STATUS_SLEWING = true := by
  rw [State.planeSlew, if_neg (Nat.not_lt.mpr h)]
  exact ⟨by rw [State.plane_setFld, State.plane_setPlane], State.bit_setBit_same _ _ _ _ (by decide) (by decide)⟩

/-- The servo takes a difference of at least 1 ns. -/
theorem State.servo_slews (s : State) (p : Plane) {d : Int} (h : ns ≤ d.natAbs) :
    ((s.servo p d).plane p).resid = d ∧ (s.servo p d).bit (.tim p) F.TIM_STATUS_SLEWING = true := State.planeSlew_begins _ p h

/-- A measured difference of the planes' clocks (R70). -/
theorem xplaneMeasure_shows {s : State} (p : Plane) (ha : s.planeUp .a = true) (hb : s.planeUp .b = true) (hi : s.pins.ipUp = true) :
    Answers (exec (.xplaneMeasure p) s) fun t =>
      let d : Int := ((s.plane p.other).now : Int) - (s.plane p).now
      (t.rd (.tim p) .TIM_OFFSET_XPLANE).toNat = sat025 d ∧
      (s.fld (.tim p) F.TIM_LIMITS_XPLANE * 65536 < d.natAbs → t.bit (.tim p) F.TIM_STATUS_XPLANE = true) ∧
      (d.natAbs ≤ s.fld (.tim p) F.TIM_LIMITS_XPLANE * 65536 →
        t.bit (.tim p) F.TIM_STATUS_XPLANE = s.bit (.tim p) F.TIM_STATUS_XPLANE) ∧
      (s.fld (.tim p) F.TIM_STATUS_SOURCE = 3 → s.timState p = 1 → 65536 ≤ d.natAbs →
        (t.plane p).resid = d ∧ t.bit (.tim p) F.TIM_STATUS_SLEWING = true) ∧ Beside s t ∧ RegsOutside timeAt s t := by
  have step : exec (.xplaneMeasure p) s = let d : Int := ((s.plane p.other).now : Int) - (s.plane p).now
      let v := s.showXplane p d
      ok (if v.fld (.tim p) F.TIM_STATUS_SOURCE = 3 ∧ v.timState p = 1 then v.servo p d else v) :=
    if_neg (by rw [State.paired, ha, hb, hi]; decide)
  revert step
  generalize ((s.plane p.other).now : Int) - (s.plane p).now = d
  intro step
  have shows := s.showXplane_shown p d
  dsimp only at step
  generalize s.showXplane p d = v at *
  have source : v.fld (.tim p) F.TIM_STATUS_SOURCE = s.fld (.tim p) F.TIM_STATUS_SOURCE := shows.status _ (by decide) (by decide)
  have state : v.timState p = s.timState p := shows.status _ (by decide) (by decide)
  rw [source, state] at step
  have tunes : Tunes [] v (if s.fld (.tim p) F.TIM_STATUS_SOURCE = 3 ∧ s.timState p = 1 then v.servo p d else v) :=
    .ite ((Tunes.refl _ v).servo p d) (.refl _ v)
  have alarm := State.bit_congr (tunes.status p F.TIM_STATUS_XPLANE (by decide))
  refine ⟨_, step, ?_, fun far => alarm.trans (shows.alarm far), fun near => alarm.trans (shows.quiet (Nat.not_lt.mpr near)),
    fun h3 h1 far => ?_, (shows.within.trans tunes.within.timed).frame⟩
  · rw [tunes.rd p (by decide) (by decide), shows.shown, toNat_sat025]
  · rw [if_pos ⟨h3, h1⟩]
    exact v.servo_slews p far

/-! The PPS outputs. -/

@[simp] theorem PlaneSt.pps_setPps (x : PlaneSt) (n : Nat) (v : Option Nat) : (x.setPps n v).pps n = v := by cases n <;> rfl

section
variable (s : State) (p : Plane) (n : Nat)

/-- The enable bit of a PPS output. -/
def State.ppsEnabled : Bool := if n = 0 then s.bit (.tim p) F.TIM_PPS_CTRL_OUT0_EN else s.bit (.tim p) F.TIM_PPS_CTRL_OUT1_EN

/-- How far the time of an output's slot is ahead of the plane's clock: nothing while the plane is LOCKED to the slot. -/
def State.ppsOff : Int :=
  if s.planeLocked p = true ∧ s.fld (.tim p) F.TIM_STATUS_SOURCE = n + 1 then 0 else of025 (s.domOffset p n)

/-- TIM_PPS_ADJn, limited to ±1 µs. -/
def State.ppsAdj : Int :=
  max (-4000) (min 4000 (signedOf 32 (if n = 0 then s.rd (.tim p) .TIM_PPS_ADJ0 else s.rd (.tim p) .TIM_PPS_ADJ1).toNat)) * 16384

/-- When an output rises. -/
def State.ppsRise : Nat :=
  (((((((s.plane p).now : Int) + s.ppsOff p n - s.ppsAdj p n).toNat / sec + 1) * sec : Nat) : Int) - s.ppsOff p n + s.ppsAdj p n).toNat

end

section
variable {s : State} {p : Plane} {n : Fin 2} (hp : s.planeUp p = true)
include hp

/-- An enabled output of a slot that is USABLE or LOCKED to rises (R85). -/
theorem execPpsOutEdge_rises (he : s.ppsEnabled p n = true) (hs : s.fld (.tim p) F.TIM_DOM_STATUS_STATE n = 1 ∨
    (s.planeLocked p = true ∧ s.fld (.tim p) F.TIM_STATUS_SOURCE = n.val + 1)) :
    execPpsOutEdge p n s = ok ((s.reachPlane p (s.ppsRise p n)).setPlane p
      (((s.reachPlane p (s.ppsRise p n)).plane p).setPps n (some (s.ppsRise p n)))) := by
  have on : ¬(!s.planeUp p || !s.ppsEnabled p n || !(s.planeLocked p && decide (s.fld (.tim p) F.TIM_STATUS_SOURCE = n.val + 1) ||
      decide (s.fld (.tim p) F.TIM_DOM_STATUS_STATE n = 1))) = true := by
    have live : (s.planeLocked p && decide (s.fld (.tim p) F.TIM_STATUS_SOURCE = n.val + 1) ||
        decide (s.fld (.tim p) F.TIM_DOM_STATUS_STATE n = 1)) = true := by
      simpa only [Bool.or_eq_true, Bool.and_eq_true, decide_eq_true_eq] using hs.symm
    rw [hp, he, live]
    decide
  have off : (if (s.planeLocked p && decide (s.fld (.tim p) F.TIM_STATUS_SOURCE = n.val + 1)) = true then 0 else of025 (s.domOffset p n)) =
      s.ppsOff p n := by
    simp only [State.ppsOff, Bool.and_eq_true, decide_eq_true_eq]
  rw [State.ppsRise, ← off]
  exact if_neg on

theorem ppsOutEdge_rises (he : s.ppsEnabled p n = true) (hs : s.fld (.tim p) F.TIM_DOM_STATUS_STATE n = 1 ∨
    (s.planeLocked p = true ∧ s.fld (.tim p) F.TIM_STATUS_SOURCE = n.val + 1)) : Answers (exec (.ppsOutEdge p n) s) fun t =>
      (t.plane p).pps n = some (s.ppsRise p n) ∧ t.pins = s.pins ∧ Beside s t ∧ RegsOutside timeAt s t := by
  have passed := s.reachPlane_passes p (s.ppsRise p n)
  have within := passed.within.timed.setPlane p (((s.reachPlane p (s.ppsRise p n)).plane p).setPps n (some (s.ppsRise p n)))
  exact ⟨_, execPpsOutEdge_rises hp he hs, by rw [State.plane_setPlane, PlaneSt.pps_setPps], within.pins, within.frame⟩

end

/-! The pads. -/

theorem Beside.trans {s t u : State} (h : Beside s t) (g : Beside t u) : Beside s u := by
  obtain ⟨m0, m1, f0, f1, dom, com, pairs, sh, wait⟩ := h
  obtain ⟨m0', m1', f0', f1', dom', com', pairs', sh', wait'⟩ := g
  exact ⟨m0'.trans m0, m1'.trans m1, f0'.trans f0, f1'.trans f1, dom'.trans dom, com'.trans com, pairs'.trans pairs, sh'.trans sh,
    wait'.trans wait⟩

/-- The pads take the outputs of another plane, and PPS_DRIVE shows it (R86). -/
def State.drivePads (s : State) (w : Plane) : State :=
  ({ s with pins := { s.pins with ppsDriver := w } }.setFld (.tim w) F.TIM_STATUS_PPS_DRIVE 1).setFld (.tim w.other) F.TIM_STATUS_PPS_DRIVE 0

section
variable (s : State) (w : Plane)

theorem State.plane_drivePads (q : Plane) : (s.drivePads w).plane q = s.plane q := by
  rw [State.drivePads, State.plane_setFld, State.plane_setFld]
  cases q <;> rfl

theorem State.drivePads_frame : Beside s (s.drivePads w) ∧ RegsOutside timeAt s (s.drivePads w) := by
  have moved : RegsOutside timeAt s { s with pins := { s.pins with ppsDriver := w } } := .of_eq rfl
  have stored := ((Within.refl timeAt { s with pins := { s.pins with ppsDriver := w } }).setFld (f := F.TIM_STATUS_PPS_DRIVE) (k := 0)
    (timAt_in w (by decide)) 1).setFld (f := F.TIM_STATUS_PPS_DRIVE) (k := 0) (timAt_in w.other (by decide)) 0
  exact ⟨stored.beside, moved.trans stored.regs⟩

theorem State.drivePads_shown : (s.drivePads w).pins.ppsDriver = w ∧ (s.drivePads w).fld (.tim w) F.TIM_STATUS_PPS_DRIVE = 1 ∧
    (s.drivePads w).fld (.tim w.other) F.TIM_STATUS_PPS_DRIVE = 0 := by
  have other : w ≠ w.other := by cases w <;> decide
  refine ⟨rfl, ?_, State.fld_setFld_same _ _ _ _ _ (by decide) (by decide)⟩
  rw [State.drivePads, State.fld_setFld_other _ _ _ _ _ _ _ _ (status_ne_status other)]
  exact State.fld_setFld_same _ _ _ _ _ (by decide) (by decide)

theorem State.plane_ppsSettle (q : Plane) : s.ppsSettle.plane q = s.plane q :=
  iteInduction (motive := fun t => State.plane t q = _) (fun _ => s.plane_drivePads _ q) fun _ => rfl

theorem State.ppsSettle_frame : Beside s s.ppsSettle ∧ RegsOutside timeAt s s.ppsSettle :=
  iteInduction (motive := fun t => Beside s t ∧ RegsOutside timeAt s t) (fun _ => s.drivePads_frame _) fun _ => (Within.refl timeAt s).frame

end

/-- WIDTH after its rise an output falls (R85). -/
theorem ppsWidthExpire_falls {s : State} {p : Plane} {n : Fin 2} {u : Nat} (hp : s.planeUp p = true) (hu : (s.plane p).pps n = some u) :
    Answers (exec (.ppsWidthExpire p n) s) fun t => (t.plane p).pps n = none ∧ Beside s t ∧ RegsOutside timeAt s t := by
  let v := s.reachPlane p (u + s.fld (.tim p) F.TIM_PPS_CTRL_WIDTH * ms)
  have passed : Passes s v := s.reachPlane_passes ..
  have step : exec (.ppsWidthExpire p n) s = ok (v.setPlane p ((v.plane p).setPps n none)).ppsSettle := by
    show execPpsWidthExpire p n s = _
    simp only [execPpsWidthExpire, hu, hp, Bool.not_true, Bool.false_eq_true, if_false]
    rfl
  obtain ⟨beside, regs⟩ := (passed.within.timed.setPlane p ((v.plane p).setPps n none)).frame
  obtain ⟨beside', regs'⟩ := (v.setPlane p ((v.plane p).setPps n none)).ppsSettle_frame
  refine ⟨_, step, ?_, beside.trans beside', regs.trans regs'⟩
  rw [State.plane_ppsSettle, State.plane_setPlane, PlaneSt.pps_setPps]

/-- The pads change plane while both are low (R86). -/
theorem ppsDriveChange_drives {s : State} (h : s.ppsLow = true) : Answers (exec .ppsDriveChange s) fun t =>
    t.pins.ppsDriver = s.ppsWanted ∧ t.fld (.tim s.ppsWanted) F.TIM_STATUS_PPS_DRIVE = 1 ∧
    t.fld (.tim s.ppsWanted.other) F.TIM_STATUS_PPS_DRIVE = 0 ∧ Beside s t ∧ RegsOutside timeAt s t := by
  have step : exec .ppsDriveChange s = ok (s.drivePads s.ppsWanted) := congrArg ok (if_pos h)
  obtain ⟨driver, on, off⟩ := s.drivePads_shown s.ppsWanted
  exact ⟨_, step, driver, on, off, s.drivePads_frame _⟩

/-! The PPS input. -/

/-- The registers of a time unit but those of its ports. -/
def timBlock (p : Plane) : List (Nat × Nat) := [(planeBase p + 0xC00000, 0x100000)]

theorem timBlock_in (p : Plane) {r : RegId} {k : Nat} (h : r.geom.off + k * r.geom.stride < 0x100000) : RegIn (timBlock p) (.tim p) r k :=
  ⟨_, .head _, by rw [regAddr_tim]; omega, by rw [regAddr_tim]; omega⟩

theorem timBlock_inside (p : Plane) : ∀ e ∈ timBlock p, ∃ f ∈ timeAt, f.1 ≤ e.1 ∧ e.1 + e.2 ≤ f.1 + f.2 := by cases p <;> decide

/-- The registers of the other time unit. -/
theorem timBlock_apart {p q : Plane} (hq : q ≠ p) {r : RegId} {k : Nat} (h : r.geom.off + k * r.geom.stride < 0x100000) :
    ∀ e ∈ timBlock p, regAddr (.tim q) r k < e.1 ∨ e.1 + e.2 ≤ regAddr (.tim q) r k := by
  obtain rfl := Plane.eq_other hq
  intro e he
  obtain rfl := List.mem_singleton.mp he
  have hb : planeBase .b = planeBase .a + 0x1000000 := by decide
  rw [regAddr_tim]
  cases p <;> simp only [Plane.other, hb] <;> omega

section
variable (s : State) (p : Plane)

/-- A plane stamps an edge of PPS_IN (R87). -/
def State.stampPps : State :=
  let w := toT96 (quant (s.plane p).now)
  (((s.wr (.tim p) .TIM_PPS_IN_W0 0 (BitVec.ofNat 32 w)).wr (.tim p) .TIM_PPS_IN_W1 0 (BitVec.ofNat 32 (w / 2 ^ 32))).wr (.tim p)
    .TIM_PPS_IN_W2 0 (BitVec.ofNat 32 (w / 2 ^ 64))).setBit (.tim p) F.TIM_STATUS_PPSIN_NEW

/-- The edge is kept as the last one, with its phase and whether it qualifies as a source. -/
def State.notePps (phase : Int) (good : Bool) : State :=
  (s.stampPps p).setPlane p { (s.stampPps p).plane p with lastPps := some (quant (s.plane p).now), ppsPhase := phase, ppsGood := good }

theorem State.stampPps_within : Within (timBlock p) s (s.stampPps p) := by
  have w0 := (Within.refl (timBlock p) s).wr (p := .tim p) (r := .TIM_PPS_IN_W0) (k := 0) (timBlock_in p (by decide))
    (BitVec.ofNat 32 (toT96 (quant (s.plane p).now)))
  exact ((w0.wr (timBlock_in p (by decide)) _).wr (timBlock_in p (by decide)) _).setBit (timBlock_in p (by decide))

/-- The registers of the input are its own. -/
theorem ppsIn_ne (p : Plane) : regAddr (.tim p) .TIM_PPS_IN_W0 0 ≠ regAddr (.tim p) .TIM_PPS_IN_W1 0 ∧
    regAddr (.tim p) .TIM_PPS_IN_W0 0 ≠ regAddr (.tim p) .TIM_PPS_IN_W2 0 ∧
    regAddr (.tim p) .TIM_PPS_IN_W0 0 ≠ regAddr (.tim p) .TIM_STATUS 0 ∧
    regAddr (.tim p) .TIM_STATUS 0 ≠ regAddr (.tim p) .TIM_PPS_IN_W0 0 ∧ regAddr (.tim p) .TIM_STATUS 0 ≠ regAddr (.tim p) .TIM_PPS_IN_W1 0 ∧
    regAddr (.tim p) .TIM_STATUS 0 ≠ regAddr (.tim p) .TIM_PPS_IN_W2 0 := by cases p <;> decide

theorem State.rd_stampPps : (s.stampPps p).rd (.tim p) .TIM_PPS_IN_W0 = BitVec.ofNat 32 (toT96 (quant (s.plane p).now)) := by
  obtain ⟨n1, n2, status, _⟩ := ppsIn_ne p
  rw [State.stampPps, State.setBit, State.rd_setFld_other _ _ _ _ _ _ _ _ status, State.rd_wr_other _ _ _ _ _ _ _ _ n2,
    State.rd_wr_other _ _ _ _ _ _ _ _ n1, State.rd_wr_same]

theorem State.timState_stampPps : (s.stampPps p).timState p = s.timState p := by
  obtain ⟨_, _, _, n0, n1, n2⟩ := ppsIn_ne p
  rw [State.stampPps, State.timState, State.setBit, State.fld_status_setFld _ _ _ (by decide) (by decide) (by decide),
    State.fld_wr_other _ n2, State.fld_wr_other _ n1, State.fld_wr_other _ n0]
  rfl

theorem State.plane_stampPps (q : Plane) : (s.stampPps p).plane q = s.plane q := by
  rw [State.stampPps, State.plane_setBit, State.plane_wr, State.plane_wr, State.plane_wr]

theorem State.notePps_within (phase : Int) (good : Bool) : Within (timBlock p) s (s.notePps p phase good) :=
  (s.stampPps_within p).setPlane _ _

/-- An UP plane notes an edge and selects its source. -/
theorem State.ppsInEdge_tunes (hp : s.planeUp p = true) : ∃ phase good, Tunes [p] (s.notePps p phase good) (s.ppsInEdge p) := by
  have selected (phase : Int) (good : Bool) := (s.notePps p phase good).selectSource_tunes p
  rw [State.ppsInEdge, if_neg (by rw [hp]; decide)]
  exact ⟨_, _, .ite ((selected _ _).planeSlew p _) (selected _ _)⟩

end

/-- What an edge leaves of an UP plane's time unit: `now` is the plane's clock at the edge. -/
structure EdgeShown (p : Plane) (now : Nat) (t : State) : Prop where
  stamp : t.rd (.tim p) .TIM_PPS_IN_W0 = BitVec.ofNat 32 (toT96 (quant now))
  new : t.bit (.tim p) F.TIM_STATUS_PPSIN_NEW = true

/-- What an edge at one plane leaves of the other's time unit. -/
structure EdgeSpares (q : Plane) (s t : State) : Prop where
  now : (t.plane q).now = (s.plane q).now
  last : (t.plane q).lastPps = (s.plane q).lastPps
  stamp : t.rd (.tim q) .TIM_PPS_IN_W0 = s.rd (.tim q) .TIM_PPS_IN_W0
  new : t.bit (.tim q) F.TIM_STATUS_PPSIN_NEW = s.bit (.tim q) F.TIM_STATUS_PPSIN_NEW
  left : s.timState q ≠ 0 → t.timState q ≠ 0

section
variable (s : State) (p : Plane)

theorem State.ppsInEdge_down (hp : s.planeUp p = false) : s.ppsInEdge p = s := if_pos (by rw [hp]; decide)

theorem State.ppsInEdge_within : Within timeAt s (s.ppsInEdge p) := by
  rcases hp : s.planeUp p with _ | _
  · rw [s.ppsInEdge_down p hp]
    exact .refl _ s
  · obtain ⟨phase, good, tunes⟩ := s.ppsInEdge_tunes p hp
    obtain ⟨regs, rest⟩ := s.notePps_within p phase good
    exact Within.trans ⟨regs.cover (timBlock_inside p), rest⟩ tunes.within.timed

theorem State.ppsInEdge_shown (hp : s.planeUp p = true) : EdgeShown p (s.plane p).now (s.ppsInEdge p) := by
  obtain ⟨phase, good, tunes⟩ := s.ppsInEdge_tunes p hp
  refine ⟨?_, ?_⟩
  · rw [tunes.rd p (by decide) (by decide), State.notePps, State.rd_setPlane, State.rd_stampPps]
  · rw [State.bit_congr (tunes.status p F.TIM_STATUS_PPSIN_NEW (by decide)), State.notePps, State.bit_congr (State.fld_setPlane ..)]
    exact State.bit_setBit_same _ _ _ _ (by decide) (by decide)

/-- A plane that is not FREE has not stepped, and keeps the edge as it was stamped. -/
theorem State.ppsInEdge_last (hp : s.planeUp p = true) (h0 : s.timState p ≠ 0) :
    ((s.ppsInEdge p).plane p).lastPps = some (quant (s.plane p).now) := by
  obtain ⟨phase, good, tunes⟩ := s.ppsInEdge_tunes p hp
  have noted : (s.notePps p phase good).timState p ≠ 0 := by
    rwa [State.notePps, State.timState, State.fld_setPlane, ← State.timState, State.timState_stampPps]
  have clock := tunes.clock p (.inr noted)
  rw [State.notePps, State.plane_setPlane] at clock
  exact (congrArg (·.2.2.2) clock :)

theorem State.ppsInEdge_spares {q : Plane} (hq : q ≠ p) : EdgeSpares q s (s.ppsInEdge p) := by
  rcases hp : s.planeUp p with _ | _
  · rw [s.ppsInEdge_down p hp]
    exact ⟨rfl, rfl, rfl, rfl, id⟩
  · obtain ⟨phase, good, tunes⟩ := s.ppsInEdge_tunes p hp
    have noted := s.notePps_within p phase good
    have plane : (s.notePps p phase good).plane q = s.plane q := by
      rw [State.notePps, State.plane_setPlane_ne _ hq, State.plane_stampPps]
    have clock := tunes.clock q (.inl (by simpa using hq))
    rw [plane] at clock
    refine ⟨(congrArg (·.1) clock :), (congrArg (·.2.2.2) clock :), ?_, ?_, fun h0 => tunes.left q ?_⟩
    · rw [tunes.rd q (by decide) (by decide), noted.regs.rd _ _ _ (timBlock_apart hq (by decide))]
    · exact State.bit_congr ((tunes.status q _ (by decide)).trans (noted.regs.fld _ _ _ (timBlock_apart hq (by decide))))
    · rwa [State.timState, noted.regs.fld _ _ _ (timBlock_apart hq (by decide))]

end

/-- An edge of PPS_IN reaches both time units (R87). -/
theorem ppsInEdge_stamps {s : State} {p : Plane} (h : 2 ∉ s.com.lowBanks) : Answers (exec .ppsInEdge s) fun t =>
    (s.planeUp p = true → t.rd (.tim p) .TIM_PPS_IN_W0 = BitVec.ofNat 32 (toT96 (quant (s.plane p).now)) ∧
      t.bit (.tim p) F.TIM_STATUS_PPSIN_NEW = true ∧
      (s.timState p ≠ 0 → (t.plane p).lastPps = some (quant (s.plane p).now))) ∧ Beside s t ∧ RegsOutside timeAt s t := by
  have step : exec .ppsInEdge s = ok ((s.ppsInEdge .a).ppsInEdge .b) := if_neg (by rwa [List.contains_iff_mem])
  have first := s.ppsInEdge_within .a
  refine ⟨_, step, fun hp => ?_, (first.trans (State.ppsInEdge_within ..)).frame⟩
  rcases p with _ | _
  · have shown := s.ppsInEdge_shown .a hp
    have spared := (s.ppsInEdge .a).ppsInEdge_spares .b (q := .a) (by decide)
    exact ⟨spared.stamp.trans shown.stamp, spared.new.trans shown.new, fun h0 => spared.last.trans (s.ppsInEdge_last .a hp h0)⟩
  · have up : (s.ppsInEdge .a).planeUp .b = true := (first.planeUp .b).trans hp
    have spared := s.ppsInEdge_spares .a (q := .b) (by decide)
    rw [← spared.now]
    have shown := (s.ppsInEdge .a).ppsInEdge_shown .b up
    exact ⟨shown.stamp, shown.new, fun h0 => (s.ppsInEdge .a).ppsInEdge_last .b up (spared.left h0)⟩

end Sys2Proof.Machine
end

section
/-! # O15 -/

namespace Sys2Proof.Machine
open Sys2Proof

/-- Settles O15: each clause is one of the lemmas about its instruction. How the common slot is decided (a plane alone, FREE beginning at
the preferred slot, the wait for REVERT_HOLD) is log entry 11; the sense of TIM_PPS_ADJ and the output of a plane that follows PEER are
log entry 75; that a timed row is its own moment is log entry 5. -/
theorem clocksAndPps : Obligations.ClocksAndPps := by
  intro p l port n s frame
  refine ⟨timNowRead_latches, txqEntryRead_empty, fun e r hp => txqEntryRead_oldest hp, slewEnd_ends,
    ⟨fun hd => ⟨slotStateExchange_common hd, fun u hc h0 hu => revertHoldExpire_returns hd hc h0 hu⟩, slotStateExchange_alone⟩,
    fun ha => if_pos (by rw [ha]; decide), fun ha hb => ⟨xplaneMeasure_shows p ha hb, laneTimeSample_shows ha hb⟩,
    fun u hu hl hk hf => laneDefaultReturn_takes hu hl hk hf, ppsOutEdge_rises, fun u hp hu => ppsWidthExpire_falls hp hu,
    fun h => ?_, ppsDriveChange_drives, fun h => if_pos (List.contains_iff_mem.mpr h), ppsInEdge_stamps⟩
  exact congrArg ok (if_neg (by rw [h]; decide))

end Sys2Proof.Machine
end
